-- ==== Sys2Proof/Word.lean ====
section
/-! DEFINITION. The word and lane-vector types of the machine and their plainest operations. -/
namespace Sys2Proof

/-- A 32-bit lane word (R91). -/
abbrev Word := BitVec 32
/-- One byte of the bus. -/
abbrev Byte := BitVec 8
/-- A 72-bit accumulator lane, Q9.63 (R112). -/
abbrev AccWord := BitVec 72
/-- A vector over the 64 lanes of an engine (R87). -/
abbrev Lanes (α : Type) := Vector α 64

/-- The vector whose element `i` is `f i`, in a form the kernel evaluates. -/
def tab {α : Type} {n : Nat} (f : Fin n → α) : Vector α n := ⟨⟨List.ofFn f⟩, by simp⟩

@[simp] theorem tab_get {α : Type} {n : Nat} (f : Fin n → α) (i : Nat) (h : i < n) :
    (tab f)[i] = f ⟨i, h⟩ := by
  simp [tab]

/-- Lane `k` of a vector (R87). -/
def lane {α : Type} {n : Nat} (v : Vector α n) (k : Fin n) : α := v[k.val]'k.isLt

@[simp] theorem lane_tab {α : Type} {n : Nat} (f : Fin n → α) (k : Fin n) : lane (tab f) k = f k := by
  simp [lane]

/-- The vector with element `k` replaced. -/
def put {α : Type} {n : Nat} (v : Vector α n) (k : Fin n) (x : α) : Vector α n := v.set k.val x k.isLt

@[simp] theorem lane_put_same {α : Type} {n : Nat} (v : Vector α n) (k : Fin n) (x : α) :
    lane (put v k x) k = x := by
  simp [lane, put]

@[simp] theorem lane_put_other {α : Type} {n : Nat} (v : Vector α n) (k j : Fin n) (x : α) (h : k ≠ j) :
    lane (put v k x) j = lane v j := by
  have h2 : k.val ≠ j.val := fun e => h (Fin.ext e)
  simp [lane, put, h2]

theorem lane_put {α : Type} {n : Nat} (v : Vector α n) (k j : Fin n) (x : α) :
    lane (put v k x) j = if k = j then x else lane v j := by
  by_cases h : k = j
  · subst h; simp
  · simp [h]

/-- A vector is its lanes. -/
theorem lane_ext {α : Type} {n : Nat} (v w : Vector α n) (h : ∀ k, lane v k = lane w k) : v = w := by
  apply Vector.ext
  intro i hi
  exact h ⟨i, hi⟩

end Sys2Proof
end

