-- ==== Sys2Proof/Types.lean ====
section
/-! DEFINITION. Types of the commands' operands. -/
namespace Sys2Proof

/-- Sessions of the dictionary (R445). -/
inductive SessKey where
  | host
  | fabric (dev num : Nat)
  | firm
  | restore
  deriving DecidableEq, Repr

/-- Where a request comes from: its session, and for a fabric request the link Kk of its arrival (R438, R474). -/
structure Src where
  key : SessKey
  link : Fin 4
  deriving DecidableEq, Repr

/-- The arrays that have a page coder of their own (R853). -/
inductive PageArray where
  | bank (e : Fin 8)
  | xMem (e : Fin 8)
  | yMem (e : Fin 8)
  | prog (e : Fin 8)
  | orbit
  | hull
  | lpddr
  deriving DecidableEq, Repr

/-- Memory power banks (R724). -/
inductive PowerBank where
  | orbit (p : Fin 24)
  | engine (e : Fin 8)
  | hull (p : Fin 4)
  deriving DecidableEq, Repr

/-- The payload of a HELLO (R576). -/
structure Hello where
  uid : BitVec 64
  prio : BitVec 8
  port : Fin 4
  joined : Bool
  bestPrio : BitVec 8
  bestUid : BitVec 64
  originPrio : BitVec 8
  originUid : BitVec 64
  epoch : BitVec 32
  members : BitVec 16
  deriving DecidableEq, Repr

/-- One port of a TOPOLOGY: LinkState, neighbour's Uid and port (R576). -/
structure TopologyPort where
  state : BitVec 8
  nbUid : BitVec 64
  nbPort : Fin 4
  delay : BitVec 32
  lead : BitVec 32
  deriving DecidableEq, Repr

/-- One entry of a RESERVE: a word of a pending run table of a port (R601). -/
structure RunWrite where
  port : Fin 4
  transmit : Bool
  index : Fin 10752
  word : BitVec 64
  deriving DecidableEq, Repr

/-- A repair plan entry of a RESERVE: the ends of the link it is for, and the table entry it installs (R606). -/
structure PlanWrite where
  addrA : BitVec 12
  portA : Fin 4
  addrB : BitVec 12
  portB : Fin 4
  entry : RunWrite
  deriving DecidableEq, Repr

/-- A raw command of the flash port (R663). -/
inductive FlashCmd where
  | program (data : List Byte)
  | erase (bytes : BitVec 32)
  | register
  deriving DecidableEq, Repr

/-- The HULL cycles of a tick, and how many of them the Hull core spent outside its idle loop (R20). -/
structure HullUse where
  busy : BitVec 16
  total : BitVec 16
  deriving DecidableEq, Repr

/-- A block as it stands on a lane: its sync header, the 58 payload bits that the lane carried before it (bit 0 the latest), its 64 payload
bits as scrambled (R534 to R536). -/
structure LineBlock where
  sync : BitVec 2
  before : BitVec 58
  line : BitVec 64
  deriving DecidableEq, Repr

/-- What the flash port finds at a reset: whether the parameter table declares 8D-8D-8D, whether its header reads the same again in that mode
(R655), and the 4 KiB blocks of the flash that fail to read twice (R656). -/
structure FlashStart where
  octal : Bool
  checked : Bool
  bad : List (BitVec 20)
  deriving DecidableEq, Repr

/-- When a dictionary read is answered: now; once firmware has served it; or in cycles 0 to 15 of a boundary window (R74, R442). -/
inductive ReadTime where
  | now | held | early
  deriving DecidableEq, Repr

end Sys2Proof
end

