-- ==== Sys2Proof/Syntax.lean ====
section
/-! DEFINITION. The commands of the block: one constructor for each row of the table. -/
namespace Sys2Proof

/-- A command of the block. Slot operations name their engine `e` and the fields of their encoding. -/
inductive Instr where
  /-- RESET (R836). PWRGD low, or RESET_N low for at least 1 µs, resets the device and drives every output to its reset state. -/
  | reset (power : Bool)
  /-- RESET_RELEASE (R29). The rising edge of RESET_N samples BOOTSEL and starts the power-on fill. -/
  | resetRelease (bootsel : Fin 4)
  /-- POWER_ON_FILL_COMPLETE (R726). The power-on fill completes and the Hull core is released into the ROM. -/
  | powerOnFillComplete (lpddr : Fin 16385) (flash : FlashStart) (flashMib : BitVec 16)
  /-- HULL_WATCHDOG_EXPIRY (R23). The Hull watchdog expires, resets the Hull core only and answers every queued firmware request BUSY. -/
  | hullWatchdogExpiry
  /-- HULL_QUEUE_OPEN (R856). The restarted firmware or the ROM monitor opens its request queue, and HullReady becomes 1. -/
  | hullQueueOpen
  /-- SHED_STAGE_ADVANCE (R22). HullLoad at or above 90 % for 4,096 consecutive ticks advances the shed stage by one. -/
  | shedStageAdvance
  /-- SHED_STAGE_RETREAT (R22). HullLoad below 70 % for 4,096 consecutive ticks lowers the shed stage by one. -/
  | shedStageRetreat
  /-- MUTE_N_ASSERT (R36). A low on MUTE_N lasting 50 REF cycles sets its Safe-mute cause bit. -/
  | muteNAssert
  /-- MUTE_N_RELEASE (R40). MUTE_N returns high and clears its Safe-mute cause. -/
  | muteNRelease
  /-- PENDING_START_MODE_ENTRY (R32). At the first boundary after a graph is placed, and for mode 5 once FabricState is 3, the device enters the pending start mode. -/
  | pendingStartModeEntry
  /-- THERMAL_SAMPLE (R848). Every 100 µs the sensors are sampled and the reading is compared with the warning, Safe-mute and shutdown thresholds. -/
  | thermalSample (t : BitVec 16)
  /-- RAIL_FAULT (R851). The rail monitor finds a rail out of range and raises event 0x0C15, with no reset. -/
  | railFault (rail : Fin 9) (mv : BitVec 16)
  /-- BOUNDARY (R68). At B(n) the boundary window runs its events at fixed cycles: swaps, freezes, length changes, latch instant, bank swap, glides, state copy and engine reset. -/
  | boundary (hull : HullUse) (served : Fin 33)
  /-- TICK_SOURCE_LOST (R54). Two missing source edges, or a frequency outside ±1,000 ppm, make the media PLL hold its word; the device fails over or enters Safe-mute. -/
  | tickSourceLost (fallbackValid : Bool)
  /-- TICK_SOURCE_LOCKED (R57). The media PLL locks to its source, and the source phase becomes fixed. -/
  | tickSourceLocked (phase : BitVec 16)
  /-- TICK_RATE_WRITE (R83). A TickRate write is checked and then starts the rate-change sequence with a FADE64 of every output. -/
  | tickRateWrite (src : Src) (words : List (BitVec 32))
  /-- TICK_RATE_STOP (R83). Once the fade completes, boundaries stop and TickCount holds; the media PLL retunes and the converters re-lock. -/
  | tickRateStop
  /-- TICK_RATE_RESTART (R86). After lock and re-lock, the budgets are recomputed and boundaries restart at the new rate with the output ramp. -/
  | tickRateRestart
  /-- TICK_SOURCE_WRITE (R56). A TickSource write selects a new source, and the frequency word is moved toward it in steps of 1 ppm. -/
  | tickSourceWrite (src : Src) (words : List (BitVec 32))
  /-- MODE_REQUEST (R33). A ModeRequest write is checked for its code and precondition and changes the mode at the next boundary. -/
  | modeRequest (src : Src) (words : List (BitVec 32))
  /-- IFETCH_TRAP (R133). An uncorrectable word on instruction fetch ends the engine's tick and starts page recovery of the program page. -/
  | ifetchTrap (e : Fin 8) (w : Fin 4)
  /-- MNOP (R170). M-slot no operation. -/
  | mnop (e : Fin 8)
  /-- MPY (R170). Clearing multiply of Va by Vb into Ad. -/
  | mpy (e : Fin 8) (d : Fin 8) (a : Fin 32) (b : Fin 32) (m : Fin 8) (f : Bool)
  /-- MPYN (R170). Clearing negated multiply into Ad. -/
  | mpyn (e : Fin 8) (d : Fin 8) (a : Fin 32) (b : Fin 32) (m : Fin 8) (f : Bool)
  /-- MAC (R170). Adds the product of Va and Vb to Ad. -/
  | mac (e : Fin 8) (d : Fin 8) (a : Fin 32) (b : Fin 32) (m : Fin 8) (f : Bool)
  /-- MSU (R170). Subtracts the product of Va and Vb from Ad. -/
  | msu (e : Fin 8) (d : Fin 8) (a : Fin 32) (b : Fin 32) (m : Fin 8) (f : Bool)
  /-- MPYS (R170). Clearing multiply of Va by scalar Sb. -/
  | mpys (e : Fin 8) (d : Fin 8) (a : Fin 32) (b : Fin 16) (m : Fin 8) (f : Bool)
  /-- MACS (R170). Adds the product of Va and Sb to Ad. -/
  | macs (e : Fin 8) (d : Fin 8) (a : Fin 32) (b : Fin 16) (m : Fin 8) (f : Bool)
  /-- MSUS (R170). Subtracts the product of Va and Sb from Ad. -/
  | msus (e : Fin 8) (d : Fin 8) (a : Fin 32) (b : Fin 16) (m : Fin 8) (f : Bool)
  /-- MLD (R170). Loads Va into Ad exactly, as a clearing operation. -/
  | mld (e : Fin 8) (d : Fin 8) (a : Fin 32) (m : Fin 8)
  /-- MCLR (R170). Clears Ad. -/
  | mclr (e : Fin 8) (d : Fin 8) (m : Fin 8)
  /-- MADDV (R170). Adds Va, placed exactly, to Ad. -/
  | maddv (e : Fin 8) (d : Fin 8) (a : Fin 32) (m : Fin 8)
  /-- ANOP (R174). A-slot no operation. -/
  | anop (e : Fin 8)
  /-- ADD (R174). Saturating vector add. -/
  | add (e : Fin 8) (d : Fin 32) (a : Fin 32) (b : Fin 32) (m : Fin 8)
  /-- SUB (R174). Saturating vector subtract. -/
  | sub (e : Fin 8) (d : Fin 32) (a : Fin 32) (b : Fin 32) (m : Fin 8)
  /-- ADDW (R174). Wrapping vector add. -/
  | addw (e : Fin 8) (d : Fin 32) (a : Fin 32) (b : Fin 32) (m : Fin 8)
  /-- SUBW (R174). Wrapping vector subtract. -/
  | subw (e : Fin 8) (d : Fin 32) (a : Fin 32) (b : Fin 32) (m : Fin 8)
  /-- ADDS (R174). Saturating add of a scalar. -/
  | adds (e : Fin 8) (d : Fin 32) (a : Fin 32) (b : Fin 16) (m : Fin 8)
  /-- SUBS (R174). Saturating subtract of a scalar. -/
  | subs (e : Fin 8) (d : Fin 32) (a : Fin 32) (b : Fin 16) (m : Fin 8)
  /-- ABS (R174). Saturating absolute value. -/
  | vabs (e : Fin 8) (d : Fin 32) (a : Fin 32) (m : Fin 8)
  /-- NEG (R174). Saturating negation. -/
  | neg (e : Fin 8) (d : Fin 32) (a : Fin 32) (m : Fin 8)
  /-- MIN (R174). Lane-wise minimum of two vectors. -/
  | vmin (e : Fin 8) (d : Fin 32) (a : Fin 32) (b : Fin 32) (m : Fin 8)
  /-- MAX (R174). Lane-wise maximum of two vectors. -/
  | vmax (e : Fin 8) (d : Fin 32) (a : Fin 32) (b : Fin 32) (m : Fin 8)
  /-- MINS (R174). Lane-wise minimum with a scalar. -/
  | mins (e : Fin 8) (d : Fin 32) (a : Fin 32) (b : Fin 16) (m : Fin 8)
  /-- MAXS (R174). Lane-wise maximum with a scalar. -/
  | maxs (e : Fin 8) (d : Fin 32) (a : Fin 32) (b : Fin 16) (m : Fin 8)
  /-- AND (R174). Bitwise AND. -/
  | vand (e : Fin 8) (d : Fin 32) (a : Fin 32) (b : Fin 32) (m : Fin 8)
  /-- OR (R174). Bitwise OR. -/
  | vor (e : Fin 8) (d : Fin 32) (a : Fin 32) (b : Fin 32) (m : Fin 8)
  /-- XOR (R174). Bitwise exclusive OR. -/
  | vxor (e : Fin 8) (d : Fin 32) (a : Fin 32) (b : Fin 32) (m : Fin 8)
  /-- NOT (R174). Bitwise complement. -/
  | vnot (e : Fin 8) (d : Fin 32) (a : Fin 32) (m : Fin 8)
  /-- MOV (R174). Vector move. -/
  | mov (e : Fin 8) (d : Fin 32) (a : Fin 32) (m : Fin 8)
  /-- MOVS (R174). Broadcasts a scalar to the unmasked lanes. -/
  | movs (e : Fin 8) (d : Fin 32) (b : Fin 16) (m : Fin 8)
  /-- ASRI (R174). Arithmetic right shift by an immediate, with convergent rounding. -/
  | asri (e : Fin 8) (d : Fin 32) (a : Fin 32) (k : Fin 32) (m : Fin 8)
  /-- ASRV (R174). Arithmetic right shift by a per-lane count, with convergent rounding. -/
  | asrv (e : Fin 8) (d : Fin 32) (a : Fin 32) (b : Fin 32) (m : Fin 8)
  /-- LSRI (R174). Logical right shift by an immediate. -/
  | lsri (e : Fin 8) (d : Fin 32) (a : Fin 32) (k : Fin 32) (m : Fin 8)
  /-- SHLI (R174). Saturating left shift by an immediate. -/
  | shli (e : Fin 8) (d : Fin 32) (a : Fin 32) (k : Fin 32) (m : Fin 8)
  /-- SHLWI (R174). Wrapping left shift by an immediate. -/
  | shlwi (e : Fin 8) (d : Fin 32) (a : Fin 32) (k : Fin 32) (m : Fin 8)
  /-- CMPEQ (R178). Writes an equality mask. -/
  | cmpeq (e : Fin 8) (d : Fin 8) (a : Fin 32) (b : Fin 32) (m : Fin 8)
  /-- CMPLT (R178). Writes a less-than mask. -/
  | cmplt (e : Fin 8) (d : Fin 8) (a : Fin 32) (b : Fin 32) (m : Fin 8)
  /-- CMPLE (R178). Writes a less-or-equal mask. -/
  | cmple (e : Fin 8) (d : Fin 8) (a : Fin 32) (b : Fin 32) (m : Fin 8)
  /-- CMPLTS (R178). Writes a less-than mask against a scalar. -/
  | cmplts (e : Fin 8) (d : Fin 8) (a : Fin 32) (b : Fin 16) (m : Fin 8)
  /-- CMPGTS (R178). Writes a greater-than mask against a scalar. -/
  | cmpgts (e : Fin 8) (d : Fin 8) (a : Fin 32) (b : Fin 16) (m : Fin 8)
  /-- MAND (R178). Mask AND. -/
  | mand (e : Fin 8) (d : Fin 8) (a : Fin 8) (b : Fin 8) (m : Fin 8)
  /-- MOR (R178). Mask OR. -/
  | mor (e : Fin 8) (d : Fin 8) (a : Fin 8) (b : Fin 8) (m : Fin 8)
  /-- MXOR (R178). Mask exclusive OR. -/
  | mxor (e : Fin 8) (d : Fin 8) (a : Fin 8) (b : Fin 8) (m : Fin 8)
  /-- MNOT (R178). Mask complement. -/
  | mnot (e : Fin 8) (d : Fin 8) (a : Fin 8) (m : Fin 8)
  /-- MSET (R174). Sets a mask from the 64-bit value Sb:Sa. -/
  | mset (e : Fin 8) (d : Fin 8) (a : Fin 16) (b : Fin 16) (m : Fin 8)
  /-- MGUARD (R174). Copies the sticky guard flags into a mask. -/
  | mguard (e : Fin 8) (d : Fin 8) (m : Fin 8)
  /-- NORM (R125). Per-lane count of redundant sign bits. -/
  | norm (e : Fin 8) (d : Fin 32) (a : Fin 32) (m : Fin 8)
  /-- EXP (R126). Per-lane accumulator exponent. -/
  | vexp (e : Fin 8) (d : Fin 32) (a : Fin 8) (m : Fin 8)
  /-- BEXP (R127). Group minimum of NORM over the unmasked lanes of each group. -/
  | bexp (e : Fin 8) (d : Fin 32) (a : Fin 32) (g : Fin 32) (m : Fin 8)
  /-- BEXPA (R127). Group minimum of EXP of an accumulator. -/
  | bexpa (e : Fin 8) (d : Fin 32) (a : Fin 8) (g : Fin 32) (m : Fin 8)
  /-- BEXPS (R129). 64-lane BEXP of a vector into a scalar. -/
  | bexps (e : Fin 8) (d : Fin 16) (a : Fin 32) (m : Fin 8)
  /-- BEXPAS (R129). 64-lane BEXP of an accumulator into a scalar. -/
  | bexpas (e : Fin 8) (d : Fin 16) (a : Fin 8) (m : Fin 8)
  /-- MOVA (R120). Moves an accumulator with scaling, rounding and saturation. -/
  | mova (e : Fin 8) (d : Fin 32) (a : Fin 8) (m : Fin 8)
  /-- LROTI (R174). Lane rotation by an immediate from 0 to 31. -/
  | lroti (e : Fin 8) (d : Fin 32) (a : Fin 32) (k : Fin 32) (m : Fin 8)
  /-- LROTIH (R174). Lane rotation by an immediate from 32 to 63. -/
  | lrotih (e : Fin 8) (d : Fin 32) (a : Fin 32) (k : Fin 32) (m : Fin 8)
  /-- LROTS (R174). Lane rotation by a scalar. -/
  | lrots (e : Fin 8) (d : Fin 32) (a : Fin 32) (b : Fin 16) (m : Fin 8)
  /-- BCASTI (R174). Broadcast of lane j, j from 0 to 31. -/
  | bcasti (e : Fin 8) (d : Fin 32) (a : Fin 32) (k : Fin 32) (m : Fin 8)
  /-- BCASTIH (R174). Broadcast of lane j, j from 32 to 63. -/
  | bcastih (e : Fin 8) (d : Fin 32) (a : Fin 32) (k : Fin 32) (m : Fin 8)
  /-- BCASTS (R174). Broadcast of the lane named by a scalar. -/
  | bcasts (e : Fin 8) (d : Fin 32) (a : Fin 32) (b : Fin 16) (m : Fin 8)
  /-- RSUM (R176). Saturated exact sum over the masked lanes. -/
  | rsum (e : Fin 8) (d : Fin 32) (a : Fin 32) (m : Fin 8)
  /-- RMAX (R176). Maximum over the masked lanes. -/
  | rmax (e : Fin 8) (d : Fin 32) (a : Fin 32) (m : Fin 8)
  /-- RMIN (R176). Minimum over the masked lanes. -/
  | rmin (e : Fin 8) (d : Fin 32) (a : Fin 32) (m : Fin 8)
  /-- SEL (R177). Per-lane select by mask Ms. -/
  | sel (e : Fin 8) (t : Fin 8) (d : Fin 32) (a : Fin 32) (b : Fin 32) (m : Fin 8)
  /-- XNOP (R180). X-slot no operation. -/
  | xnop (e : Fin 8)
  /-- YNOP (R180). Y-slot no operation. -/
  | ynop (e : Fin 8)
  /-- LDV (R180). Vector load with addressing-mode pointer update. -/
  | ldv (e : Fin 8) (y : Bool) (v : Fin 32) (p : Fin 16) (mode : BitVec 3) (m : Fin 8)
  /-- STV (R180). Masked vector store. -/
  | stv (e : Fin 8) (y : Bool) (v : Fin 32) (p : Fin 16) (mode : BitVec 3) (m : Fin 8)
  /-- LDB (R180). Broadcast load of one word. -/
  | ldb (e : Fin 8) (y : Bool) (v : Fin 32) (p : Fin 16) (mode : BitVec 3) (m : Fin 8)
  /-- LDS (R180). Scalar load. -/
  | lds (e : Fin 8) (y : Bool) (v : Fin 16) (p : Fin 16) (mode : BitVec 3)
  /-- STS (R180). Scalar store if bit 0 of the mask is set. -/
  | sts (e : Fin 8) (y : Bool) (v : Fin 16) (p : Fin 16) (mode : BitVec 3) (m : Fin 8)
  /-- LDC (R183). Coefficient vector load with glide substitution. -/
  | ldc (e : Fin 8) (v : Fin 32) (p : Fin 16) (mode : BitVec 3) (m : Fin 8)
  /-- LDCB (R183). Broadcast coefficient load with glide substitution. -/
  | ldcb (e : Fin 8) (v : Fin 32) (p : Fin 16) (mode : BitVec 3) (m : Fin 8)
  /-- ONOP (R189). O-slot no operation. -/
  | onop (e : Fin 8)
  /-- TAP (R195). Reads the sample at integer delay D of a line per lane. -/
  | tap (e : Fin 8) (d : Fin 32) (q : Fin 32) (t : Fin 32) (m : Fin 8)
  /-- TAP4 (R192). 4-point interpolated tap, weighted into Ad in the claimed M slots. -/
  | tap4 (e : Fin 8) (d : Fin 8) (q : Fin 32) (t : Fin 32) (m : Fin 8)
  /-- TAP4A (R192). Accumulating 4-point interpolated tap. -/
  | tap4a (e : Fin 8) (d : Fin 8) (q : Fin 32) (t : Fin 32) (m : Fin 8)
  /-- TAP8 (R192). 8-point interpolated tap. -/
  | tap8 (e : Fin 8) (d : Fin 8) (q : Fin 32) (t : Fin 32) (m : Fin 8)
  /-- TAP8A (R192). Accumulating 8-point interpolated tap. -/
  | tap8a (e : Fin 8) (d : Fin 8) (q : Fin 32) (t : Fin 32) (m : Fin 8)
  /-- TAPS (R189). Integer tap of one line for all lanes. -/
  | taps (e : Fin 8) (d : Fin 32) (q : Fin 16) (t : Fin 32) (m : Fin 8)
  /-- TAPS4 (R189). 4-point tap of one line. -/
  | taps4 (e : Fin 8) (d : Fin 8) (q : Fin 16) (t : Fin 32) (m : Fin 8)
  /-- TAPS4A (R189). Accumulating 4-point tap of one line. -/
  | taps4a (e : Fin 8) (d : Fin 8) (q : Fin 16) (t : Fin 32) (m : Fin 8)
  /-- TAPS8 (R189). 8-point tap of one line. -/
  | taps8 (e : Fin 8) (d : Fin 8) (q : Fin 16) (t : Fin 32) (m : Fin 8)
  /-- TAPS8A (R189). Accumulating 8-point tap of one line. -/
  | taps8a (e : Fin 8) (d : Fin 8) (q : Fin 16) (t : Fin 32) (m : Fin 8)
  /-- TRD (R189). Table read at an absolute position modulo the length. -/
  | trd (e : Fin 8) (d : Fin 32) (q : Fin 32) (t : Fin 32) (m : Fin 8)
  /-- TRD4 (R189). 4-point interpolated table read. -/
  | trd4 (e : Fin 8) (d : Fin 8) (q : Fin 32) (t : Fin 32) (m : Fin 8)
  /-- TRD4A (R189). Accumulating 4-point table read. -/
  | trd4a (e : Fin 8) (d : Fin 8) (q : Fin 32) (t : Fin 32) (m : Fin 8)
  /-- DWR (R198). Writes the tick's sample of a delay line. -/
  | dwr (e : Fin 8) (q : Fin 32) (v : Fin 32) (m : Fin 8)
  /-- IN (R200). Reads latched input channels. -/
  | chanIn (e : Fin 8) (v : Fin 32) (q : Fin 16) (j : Fin 32) (m : Fin 8)
  /-- OUT (R202). Writes output channels for publication at B(n+1). -/
  | chanOut (e : Fin 8) (v : Fin 32) (q : Fin 16) (j : Fin 32) (m : Fin 8)
  /-- EXR (R188). Reads the exchange read half. -/
  | exr (e : Fin 8) (v : Fin 32) (q : Fin 16) (j : Fin 32) (m : Fin 8)
  /-- EXW (R202). Writes the exchange write half. -/
  | exw (e : Fin 8) (v : Fin 32) (q : Fin 16) (j : Fin 32) (m : Fin 8)
  /-- OLD (R246). Reads the private Orbit region, served from the write buffer where an OST is pending. -/
  | old (e : Fin 8) (v : Fin 32) (q : Fin 16) (j : Fin 32) (m : Fin 8)
  /-- OST (R189). Writes the private Orbit region. -/
  | ost (e : Fin 8) (v : Fin 32) (q : Fin 16) (j : Fin 32) (m : Fin 8)
  /-- ORBIT_ACCESS_SERVED (R244). The delay unit serves a pending line access in an owned bank-cycle, in issue order. -/
  | orbitAccessServed (e : Fin 8)
  /-- CNOP (R204). C-slot no operation. -/
  | cnop (e : Fin 8)
  /-- REP (R207). Repeats the next L bundles c times, optionally rotating the window per iteration. -/
  | rep (e : Fin 8) (count : Fin 128) (len : Fin 128) (rot : Bool)
  /-- ROT (R93). Advances the window base by r. -/
  | rot (e : Fin 8) (r : BitVec 4)
  /-- SACS (R204). Sets ACSk from an immediate. -/
  | sacs (e : Fin 8) (k : Fin 8) (imm : BitVec 5)
  /-- SACSR (R204). Sets ACSk from a clamped scalar. -/
  | sacsr (e : Fin 8) (k : Fin 8) (a : Fin 16)
  /-- SLI (R206). Loads a sign-extended 11-bit immediate. -/
  | sli (e : Fin 8) (d : Fin 16) (imm : BitVec 11)
  /-- SLU (R206). Shifts the scalar left by 11 and appends 11 bits. -/
  | slu (e : Fin 8) (d : Fin 16) (imm : BitVec 11)
  /-- SADD (R204). Scalar add modulo 2^32. -/
  | sadd (e : Fin 8) (d : Fin 16) (a : Fin 16) (b : Fin 16)
  /-- SSUB (R204). Scalar subtract. -/
  | ssub (e : Fin 8) (d : Fin 16) (a : Fin 16) (b : Fin 16)
  /-- SAND (R204). Scalar AND. -/
  | sand (e : Fin 8) (d : Fin 16) (a : Fin 16) (b : Fin 16)
  /-- SOR (R204). Scalar OR. -/
  | sor (e : Fin 8) (d : Fin 16) (a : Fin 16) (b : Fin 16)
  /-- SXOR (R204). Scalar exclusive OR. -/
  | sxor (e : Fin 8) (d : Fin 16) (a : Fin 16) (b : Fin 16)
  /-- SADDI (R204). Scalar add of an immediate. -/
  | saddi (e : Fin 8) (d : Fin 16) (a : Fin 16) (imm : BitVec 7)
  /-- SSHLI (R204). Scalar left shift. -/
  | sshli (e : Fin 8) (d : Fin 16) (a : Fin 16) (k : Fin 32)
  /-- SLSRI (R204). Scalar logical right shift. -/
  | slsri (e : Fin 8) (d : Fin 16) (a : Fin 16) (k : Fin 32)
  /-- PWR (R205). Writes a P, N, PB or PL register from a scalar. -/
  | pwr (e : Fin 8) (f : BitVec 2) (x : Fin 16) (a : Fin 16)
  /-- PRD (R205). Reads a P, N, PB or PL register into a scalar. -/
  | prd (e : Fin 8) (d : Fin 16) (f : BitVec 2) (x : Fin 16)
  /-- PADDI (R204). Adds 4 × imm to a pointer, with modulo wrap. -/
  | paddi (e : Fin 8) (d : Fin 16) (imm : BitVec 11)
  /-- SGET (R204). Copies lane j of a vector to a scalar. -/
  | sget (e : Fin 8) (d : Fin 16) (a : Fin 32) (j : Fin 64)
  /-- ENTRY (R211). Block entry resets registers as at a boundary, except the program counter and the guard flags. -/
  | entry (e : Fin 8)
  /-- BKPT (R213). Breakpoint; halts the engine in Service mode with debug enabled, otherwise acts as CNOP. -/
  | bkpt (e : Fin 8)
  /-- FETCH_MODE (R106). A FetchMode write takes effect at the next boundary if the engine has no placed block, and is otherwise refused. -/
  | fetchMode (src : Src) (e : Fin 8) (words : List (BitVec 32))
  /-- GROUP_FAULT_POLICY (R150). A write sets a group's fault policy, which applies from its next entry into substitution. -/
  | groupFaultPolicy (src : Src) (g : Fin 4096) (words : List (BitVec 32))
  /-- ORB_SHARE (R256). A Tiler-loader write of the engine shares takes effect at the next boundary. -/
  | orbShare (loader : Bool) (w : BitVec 64)
  /-- RANGE_REGISTER_WRITE (R389). A loader write of VEn_RANGEk sets a range off, quiet or inert from the next boundary. -/
  | rangeRegisterWrite (loader : Bool) (e : Fin 8) (k : Fin 4) (w : BitVec 64)
  /-- DESCRIPTOR_FILE_WRITE (R258). A loader or state-mover write to a delay-line descriptor. -/
  | descriptorFileWrite (tiler : Bool) (e : Fin 8) (q : Fin 4096) (w0 w1 w2 w3 : BitVec 64)
  /-- FAR_FETCH_COMPLETE (R277). A far-delay group fetch from LPDDR5X completes into its staging line. -/
  | farFetchComplete (e : Fin 8) (q : Fin 4096) (g : BitVec 18)
  /-- FAR_GROUP_COPY (R275). The streamer copies a completed write-behind group to LPDDR5X. -/
  | farGroupCopy (e : Fin 8) (q : Fin 4096) (g : BitVec 18)
  /-- SPAN_CHANGE_APPLY (R280). Once all groups of a new span are staged, the span takes effect at the next boundary and SPANPEND clears. -/
  | spanChangeApply (e : Fin 8) (q : Fin 4096)
  /-- DELAY_LENGTH_WRITE (R269). A write of a parameter bound to a line length is checked and sets LENPEND for the next boundary. -/
  | delayLengthWrite (src : Src) (a : BitVec 24) (words : List (BitVec 32))
  /-- BANKED_WRITE (R324). A write of a coefficient-bound parameter lands in the shadow bank, or is held or refused by the claims. -/
  | bankedWrite (src : Src) (a : BitVec 24) (words : List (BitVec 32))
  /-- LEVELLING_END (R328). Levelling of an engine ends, clearing the dirty map and releasing claims. -/
  | levellingEnd (e : Fin 8)
  /-- PAGE_CODER_DONE (R853). The page coder completes a page recomputation, and the page leaves the stale state. -/
  | pageCoderDone (r : PageArray)
  /-- COMMIT_OBJECT_WRITE (R334). A write of 1 to Commit seals the session's open set and gives it a generation. -/
  | commitObjectWrite (src : Src) (words : List (BitVec 32))
  /-- COMMIT_ARRIVAL (R70). A commit reaches the boundary controller 6 to 12 HULL cycles after acceptance. -/
  | commitArrival (gen : BitVec 32)
  /-- UPDATE_SET_ABORT (R337). The session's open set is discarded and the touched engines are levelled. -/
  | updateSetAbort (src : Src) (words : List (BitVec 32))
  /-- XY_PARAMETER_WRITE (R354). A write of an X- or Y-bound parameter is queued for the boundary write cycles. -/
  | xyParameterWrite (src : Src) (a : BitVec 24) (words : List (BitVec 32))
  /-- GRAPH_ADMISSION (R378). The Tiler checks a delivered graph image in order, then places it and loads it, or rejects it with diagnostics. -/
  | graphAdmission
  /-- GRAPH_START (R393). All blocks of a loaded graph start at one boundary B(g). -/
  | graphStart
  /-- GRAPH_UNLOAD (R357). A GraphUnload write unloads the graph at a boundary, discarding its open sets and dropping its sealed commits. -/
  | graphUnload (src : Src) (words : List (BitVec 32))
  /-- MIGRATE_REQUEST (R413). A migration request is checked, and the destination load begins. -/
  | migrateRequest (src : Src) (words : List (BitVec 32))
  /-- MIGRATION_LOAD_DONE (R398). At the first boundary after the load, the destination range becomes quiet and parallel running starts. -/
  | migrationLoadDone
  /-- MIGRATION_SWITCH (R398). After W ticks of parallel running, small state is copied and outputs switch to the destination. -/
  | migrationSwitch
  /-- SNAPSHOT_COPY (R406). At the chosen boundary B(k) the small state is copied into a snapshot buffer and sent over bulk. -/
  | snapshotCopy
  /-- SNAPSHOT_ARRIVAL (R406). A complete snapshot is written into the destination's small state at B(m). -/
  | snapshotArrival (data : List Byte)
  /-- CROSSFADE_END (R407). After XFADE ticks the receivers deliver the destination alone, and the source range becomes inert. -/
  | crossfadeEnd
  /-- DRAIN_DEVICE (R414). The device is closed to placement and its movable blocks are migrated away one at a time. -/
  | drainDevice (src : Src) (words : List (BitVec 32))
  /-- DICTIONARY_READ (R435). A read request is checked in order and answered with a result code and value. -/
  | dictionaryRead (src : Src) (a : BitVec 24) (time : ReadTime)
  /-- DICTIONARY_WRITE (R435). A write of an object without a row of its own is checked, performed and journalled. -/
  | dictionaryWrite (src : Src) (a : BitVec 24) (words : List (BitVec 32)) (held : Bool)
  /-- REGISTER_WRITE (R11). A write to a register with no row of its own, with RO writes counted as access errors. -/
  | registerWrite (loader : Bool) (a : BitVec 40) (v : BitVec 64)
  /-- FIRMWARE_DEADLINE_EXPIRY (R443). A firmware request unanswered within FirmwareDeadline is answered BUSY and cancelled. -/
  | firmwareDeadlineExpiry
  /-- DOMAIN_START (R449). A START unit opens a write transfer and reserves staging. -/
  | domainStart (src : Src) (a : BitVec 24) (total : BitVec 32)
  /-- DOMAIN_DATA (R450). A DATA unit adds words in sequence, or discards the transfer on a sequence error. -/
  | domainData (src : Src) (a : BitVec 24) (seq : BitVec 12) (n : Fin 256) (words : List (BitVec 32))
  /-- DOMAIN_END (R451). END checks the count, padding and CRC and applies the transferred value. -/
  | domainEnd (src : Src) (a : BitVec 24) (crc : BitVec 32)
  /-- DOMAIN_ABORT (R449). ABORT discards the transfer. -/
  | domainAbort (src : Src) (a : BitVec 24)
  /-- READ_START (R453). Takes a snapshot of a DOMAIN value and returns its size and CRC. -/
  | readStart (src : Src) (a : BitVec 24)
  /-- READ_DATA (R453). Returns words of the snapshot from an offset. -/
  | readData (src : Src) (a : BitVec 24) (n : Fin 256) (offset : BitVec 32)
  /-- READ_END (R453). Releases the snapshot. -/
  | readEnd (src : Src) (a : BitVec 24)
  /-- DOMAIN_TIMEOUT (R455). A transfer idle for DomainTimeout is discarded and counted. -/
  | domainTimeout (src : Src)
  /-- SESSION_RELEASE (R447). An idle fabric session's entry is released and its objects return to defaults. -/
  | sessionRelease (dev : BitVec 12) (num : BitVec 8)
  /-- PROXY_TIMEOUT (R459). A proxied request without a response within ProxyTimeout is answered remote timeout. -/
  | proxyTimeout (tag : BitVec 16)
  /-- DICT_REQ (R456). A fabric dictionary request is performed as a FABRIC-origin request. -/
  | dictReq (dev : BitVec 12) (session : BitVec 8) (k : Fin 4) (w0 w1 : BitVec 32) (words : List (BitVec 32)) (held : Bool)
  /-- DICT_RSP (R604). A dictionary response returns to the requesting device or proxy. -/
  | dictRsp (result : BitVec 8) (a : BitVec 24) (tag : BitVec 16) (words : List (BitVec 32))
  /-- GAP_CLOSE (R490). An open gap record closes and becomes final once a slot frees. -/
  | gapClose
  /-- LOCUS_DRAIN (R484). The drain copies a burst of final records to the LPDDR5X ring on DMA channel 31. -/
  | locusDrain
  /-- LOCUS_ACK_SEQ (R486). A write of LocusAckSeq acknowledges records and frees slots. -/
  | locusAckSeq (src : Src) (words : List (BitVec 32))
  /-- LOCUS_DRAIN_ENABLE (R669). Enabling the drain stops DMA channel 31 and gives it to the drain. -/
  | locusDrainEnable (src : Src) (words : List (BitVec 32))
  /-- LPDDR_RING_BASE (R483). A write of the LPDDR5X ring base is checked for alignment and fit. -/
  | lpddrRingBase (src : Src) (words : List (BitVec 32))
  /-- LPDDR_RING_LOG2 (R483). A write of the LPDDR5X ring size is checked for alignment and fit. -/
  | lpddrRingLog2 (src : Src) (words : List (BitVec 32))
  /-- LOCUS_SUMMARY (R491). After LocusSummaryPeriod final records, firmware writes a Keep summary. -/
  | locusSummary
  /-- PORT_ENABLE (R521). A write of 1 to PortEnable starts the port, or queues a restart during shutdown. -/
  | portEnable (src : Src) (p : Fin 4)
  /-- PORT_SHUTDOWN (R522). A write of 0 to PortEnable fades the outputs and shuts the port down. -/
  | portShutdown (src : Src) (p : Fin 4)
  /-- PORT_SHUTDOWN_COMPLETE (R522). After the fade and one zero frame, the port is Off and a queued restart begins. -/
  | portShutdownComplete (p : Fin 4)
  /-- SAP_FORMAT_WRITE (R524). A SapFormat, PartnerRate or ConverterMode write is accepted only in state Off. -/
  | sapFormatWrite (src : Src) (p : Fin 4) (which : Fin 3) (words : List (BitVec 32))
  /-- SAP_FRAME (R504). A received serial audio frame is taken into the capture buffer, or discarded on a bad BCLK count. -/
  | sapFrame (p : Fin 4) (bclk : BitVec 16) (q : BitVec 16) (rate : BitVec 32) (lanes : List (List Bool))
  /-- SAP_CLOCK_LOSS (R526). Two bad or missing frames make the port Lost and fade the converters. -/
  | sapClockLoss (p : Fin 4)
  /-- CONVERTER_LOCKED (R516). A converter locks and ramps its channels in; the port becomes On when every direction is ready. -/
  | converterLocked (p : Fin 4) (inbound : Bool)
  /-- CONVERTER_UNLOCK (R517). Drift beyond ±1,000 ppm returns a converter to Acquiring with a fade. -/
  | converterUnlock (p : Fin 4) (inbound : Bool)
  /-- MCLK_CONFIG_WRITE (R519). MCLK enable, divider or delay takes effect at the next MEDIA tick edge. -/
  | mclkConfigWrite (src : Src) (p : Fin 4) (which : Fin 3) (words : List (BitVec 32))
  /-- LINK_ENABLE (R547). A write of 1 starts training, or queues a restart during shutdown. -/
  | linkEnable (src : Src) (k : Fin 4)
  /-- LINK_DISABLE (R547). A write of 0 completes the frame, sends SLEEP blocks and idles the lanes. -/
  | linkDisable (src : Src) (k : Fin 4)
  /-- LINK_SHUTDOWN_COMPLETE (R547). The link shutdown completes into Disabled, and a queued restart begins training. -/
  | linkShutdownComplete (k : Fin 4)
  /-- LINK_SIGNAL_DETECT (R540). Signal detected on every lane of a Down link starts training. -/
  | linkSignalDetect (k : Fin 4)
  /-- LANE_BLOCK_LOCK (R538). A lane locks after 64 valid sync headers. -/
  | laneBlockLock (k : Fin 4) (lane : Fin 2) (swapped inverted : Bool)
  /-- LANE_LOCK_LOSS (R538). 16 invalid of 64 sync headers lose lock and send the link Down. -/
  | laneLockLoss (k : Fin 4) (lane : Fin 2)
  /-- TRAINING_COMPLETE (R541). READY is received on every lane and tick frames start; the link enters Framing. -/
  | trainingComplete (k : Fin 4) (two : Bool)
  /-- TRAINING_TIMEOUT (R541). Training not complete in 10 ms returns the link to Down. -/
  | trainingTimeout (k : Fin 4)
  /-- TICK_FRAME_TRANSMIT (R548). At each MEDIA tick edge the port sends the tick frame of published samples, with runs encoded or re-emitted. -/
  | tickFrameTransmit (k : Fin 4)
  /-- TICK_FRAME_RECEIVED (R554). A received tick frame is checked, its runs written, forwarded or discarded, and its timing measured. -/
  | tickFrameReceived (k : Fin 4) (marks : Bool) (mark : BitVec 32) (h0 h1 h2 h3 : BitVec 64) (got : List (BitVec 14 × LineBlock)) (bad late : List (BitVec 14)) (arrival : BitVec 32)
  /-- ERROR_WINDOW_END (R542). A 4,096-tick error window ends; a clean window returns a Degraded link to Up. -/
  | errorWindowEnd (k : Fin 4)
  /-- CELL_RECEIVED (R562). A cell is accepted in sequence, reassembled, delivered or forwarded, or discarded. -/
  | cellReceived (k : Fin 4) (bulk : Bool) (blocks : List (BitVec 64))
  /-- CELL_RETRANSMIT (R563). A cell unacknowledged for 4 frames is retransmitted with its successors, and the link goes Down after 16 retransmissions. -/
  | cellRetransmit (k : Fin 4) (bulk : Bool)
  /-- HELLO (R580). A HELLO updates the best key known and may start a merge or a TickCount step. -/
  | hello (k : Fin 4) (h : Hello)
  /-- HELLO_PERIOD (R580). Every 256 ticks each end sends HELLO. -/
  | helloPeriod
  /-- ELECTION_SETTLE (R581). The settle count expires with the own key best, so the device floods CLAIM with a new epoch. -/
  | electionSettle
  /-- CLAIM (R581). A CLAIM is adopted or answered, and topology is sent toward the Origin. -/
  | claim (k : Fin 4) (src : BitVec 12) (prio : BitVec 8) (uid : BitVec 64) (epoch : BitVec 32) (seq : BitVec 16)
  /-- LINK_DOWN (R607). A received LINK_DOWN schedules the repair plans of that link. -/
  | linkDown (k : Fin 4) (src : BitVec 12) (addrA : BitVec 12) (portA : Fin 4) (addrB : BitVec 12) (portB : Fin 4) (f : BitVec 48) (seq : BitVec 16)
  /-- TOPOLOGY (R585). The Origin collects topology and, once complete, assigns addresses. -/
  | topology (uid : BitVec 64) (prio : BitVec 8) (addr : BitVec 16) (p0 p1 p2 p3 : TopologyPort)
  /-- ADDRESS (R585). A device takes its assigned address and coordinates. -/
  | address (sender : BitVec 12) (uid : BitVec 64) (addr : BitVec 12) (x y : BitVec 8) (coord : BitVec 16)
  /-- ROUTES (R589). A device stores a pending route table. -/
  | routes (first : BitVec 12) (entries : List (BitVec 8))
  /-- RESERVE (R601). The pending run tables and repair plans are written. -/
  | reserve (gen : BitVec 32) (runs : List RunWrite) (plans : List PlanWrite)
  /-- ACTIVATE (R602). The device records the activation tick of a reservation. -/
  | activate (gen : BitVec 32) (tick : BitVec 48)
  /-- TILER_ORDER (R387). A member receives its device assignment from the Origin's Tiler. -/
  | tilerOrder (block : BitVec 14) (pin : BitVec 32) (limits : List (BitVec 32))
  /-- TILER_REPORT (R387). The Origin receives a member's placement result. -/
  | tilerReport (block : BitVec 14) (result diagCode diagTable : BitVec 8) (entry detail need have_ : BitVec 32) (device : BitVec 16) (engine : BitVec 8)
  /-- REPAIR_INSTALL (R607). At B(f+64) repair plan entries for a lost link are installed. -/
  | repairInstall (addrA : BitVec 12) (portA : Fin 4) (addrB : BitVec 12) (portB : Fin 4)
  /-- DEVICE_LOST (R609). All links of a device Down for 64 ticks; the Origin declares it lost. -/
  | deviceLost (addr : BitVec 12)
  /-- HOLDOVER_ELECTION (R610). After 256 ticks with no parent the device starts an election with a new epoch. -/
  | holdoverElection
  /-- TIME_ALIGNED (R596). |ORIGIN_OFFSET| within 20 ns for 256 ticks makes the device aligned. -/
  | timeAligned
  /-- TIME_ACQUIRING (R596). |ORIGIN_OFFSET| above 40 ns for 16 ticks returns the device to acquiring. -/
  | timeAcquiring
  /-- STAT (R627). Returns status words and clears the named flags at an exact release. -/
  | stat (addr : BitVec 32) (n : BitVec 9) (edges : BitVec 16)
  /-- EVT (R629). Reads and removes queued event records. -/
  | evt (addr : BitVec 32) (n : BitVec 9) (edges : BitVec 16)
  /-- DRD (R626). Host dictionary read, local or proxied. -/
  | drd (addr : BitVec 32) (n : BitVec 9) (edges : BitVec 16) (held : Bool)
  /-- HOST_DWR (R632). Host dictionary write at release, local or proxied. -/
  | hostDwr (addr : BitVec 32) (words : List (BitVec 32)) (edges : BitVec 16)
  /-- COMMIT (R628). Host COMMIT of the host session's update set at release. -/
  | commit (addr : BitVec 32) (n : BitVec 9) (edges : BitVec 16)
  /-- DBR (R630). Reads the pending domain response unit. -/
  | dbr (addr : BitVec 32) (n : BitVec 9) (edges : BitVec 16)
  /-- DBW (R630). Sends one domain unit at release. -/
  | dbw (addr : BitVec 32) (words : List (BitVec 32)) (edges : BitVec 16)
  /-- MRD (R631). Service-mode memory read. -/
  | mrd (addr : BitVec 32) (n : BitVec 9) (edges : BitVec 16)
  /-- MWR (R631). Service-mode memory write at release. -/
  | mwr (addr : BitVec 32) (words : List (BitVec 32)) (edges : BitVec 16)
  /-- LOAD (R759). Recovery-mode write into the loader staging area. -/
  | load (addr : BitVec 32) (words : List (BitVec 32)) (edges : BitVec 16)
  /-- PORTRESET (R643). Resets the host port profile, dummy cycles and flags. -/
  | portreset (edges : BitVec 16)
  /-- BAD_COMMAND (R625). A frame with an unknown opcode, bad N or nonzero reserved bits is discarded. -/
  | badCommand (cmd : BitVec 24) (addr : BitVec 32)
  /-- WRITE_BUFFER_PRESENT (R640). A released write buffer is presented to the dictionary engine in order. -/
  | writeBufferPresent (held : Bool)
  /-- HOST_RESPONSE_READY (R634). The response of a read is ready, so the port sends the sync byte and raises HRDY. -/
  | hostResponseReady
  /-- HSP_STATUS_CLEAR (R646). A Hull firmware write of 1 clears an HSP_STATUS flag. -/
  | hspStatusClear (flags : BitVec 7)
  /-- PERIPH_REQUEST (R650). END of PeriphRequest checks the records and starts the transfers. -/
  | periphRequest (src : Src) (crc : BitVec 32)
  /-- PERIPH_DONE (R651). The peripheral transfers end, with the received words stored. -/
  | periphDone (rx : List (BitVec 32))
  /-- XIP_FILL (R658). A cache miss fills and checks a 4 KiB block against its hash. -/
  | xipFill (o : BitVec 26)
  /-- XIP_LOCK (R662). Writing LOCK locks the hash table, its registers and XipBase until reset. -/
  | xipLock
  /-- XIP_INVALIDATE (R661). Writing INVALIDATE invalidates every cache line. -/
  | xipInvalidate
  /-- FLASH_RAW_COMMAND (R663). Firmware issues a raw flash command, after any fill. -/
  | flashRawCommand (a : BitVec 32) (op : FlashCmd)
  /-- FLASH_PROGRAM_COMPLETE (R663). A program or erase completes and the overlapping lines are invalidated. -/
  | flashProgramComplete
  /-- CHANNEL_HEAD (R677). Writing ChannelHead of an Idle channel starts it on its head descriptor. -/
  | channelHead (src : Src) (c : Fin 32) (words : List (BitVec 32))
  /-- DOORBELL (R678). A doorbell wakes a Parked channel or is kept as pending. -/
  | doorbell (src : Src) (c : Fin 32) (words : List (BitVec 32))
  /-- CHANNEL_RESUME (R683). Resumes a Halted channel from its first byte not written. -/
  | channelResume (src : Src) (c : Fin 32) (words : List (BitVec 32))
  /-- CHANNEL_STOP (R685). Stops a channel after its burst, with the write-back for its state. -/
  | channelStop (src : Src) (c : Fin 32) (words : List (BitVec 32))
  /-- DESCRIPTOR_READ (R672). The channel reads a descriptor whole and parks on a stub, follows a link or starts moving. -/
  | descriptorRead (c : Fin 32)
  /-- DMA_BURST (R667). The arbiter grants the next burst and the burst moves data, halting on a failure. -/
  | dmaBurst
  /-- DESCRIPTOR_WRITE_BACK (R674). After its data writes complete, the descriptor's STATUS and then OWN are written back. -/
  | descriptorWriteBack (c : Fin 32)
  /-- BULK_CREDIT (R684). The receiving channel grants credit to the sender. -/
  | bulkCredit (dev : BitVec 12) (session : BitVec 8) (n : BitVec 32)
  /-- BULK_DATA (R684). Bulk payload delivered to a receiving channel, or discarded. -/
  | bulkData (dev : BitVec 12) (session : BitVec 8) (data : List Byte)
  /-- BULK_ABORT (R684). Halts the session's channel with RESULT 6. -/
  | bulkAbort (dev : BitVec 12) (session : BitVec 8)
  /-- DMA_REMOTE_TIMEOUT (R684). No progress for RemoteTimeout halts a fabric channel. -/
  | dmaRemoteTimeout (c : Fin 32)
  /-- PAGE_RECOVERY (R702). A queued page is recovered by its page code, or marked and then reloaded or zeroed. -/
  | pageRecovery
  /-- PAGE_RELOAD (R705). The loader reloads a static page from its origin with relocation. -/
  | pageReload (addr : BitVec 40)
  /-- SCRUB_LINE (R715). The scrubber reads a line, rewrites correctable words and queues bad pages. -/
  | scrubLine (a : BitVec 40)
  /-- STORM_WINDOW_END (R719). A 4,096-tick window ends; a window with no uncorrectable word clears the storm cause. -/
  | stormWindowEnd
  /-- RANGE_START (R718). Starts a range scrub pass. -/
  | rangeStart (src : Src) (words : List (BitVec 32))
  /-- RANGE_PASS_COMPLETE (R718). The range pass ends, and its counts are reported. -/
  | rangePassComplete
  /-- BACKGROUND_TEST_PAGE (R722). One page is saved, march-tested and restored. -/
  | backgroundTestPage (page : BitVec 28) (fail : Option (BitVec 12 × BitVec 8))
  /-- FULL_TEST (R723). Service-mode march test of every array, then a fill. -/
  | fullTest (src : Src) (words : List (BitVec 32))
  /-- POWER_BANK_WRITE (R724). Sets a memory power bank on, retention or off at the next boundary. -/
  | powerBankWrite (src : Src) (b : PowerBank) (words : List (BitVec 32))
  /-- KEY_REVOKE (R747). Burns a key-revoke fuse unless it is the running key slot. -/
  | keyRevoke (src : Src) (words : List (BitVec 32))
  /-- ROLLBACK_ADVANCE (R749). Burns rollback fuses up to the new value with readback. -/
  | rollbackAdvance (src : Src) (words : List (BitVec 32)) (fail : Option (Fin 128))
  /-- UPDATE_IMAGE (R751). END of UpdateImage accepts a slot image for checking. -/
  | updateImage (src : Src) (crc : BitVec 32)
  /-- UPDATE_COMPLETE (R753). Firmware checks and programs the other slot and commits it, or fails the update. -/
  | updateComplete (readback : Bool)
  /-- UPDATE_ACTIVATE (R754). Sets the activation flag and resets the Hull core into slot selection. -/
  | updateActivate (src : Src) (words : List (BitVec 32))
  /-- IMAGE_CONFIRM (R755). Host write confirming the trial image. -/
  | imageConfirm (src : Src) (words : List (BitVec 32))
  /-- CONFIRM_DELAY_EXPIRY (R755). ConfirmDelay passes with a healthy self-test, so firmware confirms, retires the other slot and advances rollback. -/
  | confirmDelayExpiry (healthy : Bool)
  /-- VERIFY_AND_RUN (R761). LoaderCommand 1 verifies the staged image and runs it. -/
  | verifyAndRun (src : Src)
  /-- VERIFY_AND_PROGRAM (R761). LoaderCommand 2 verifies the staged image, programs a slot and runs slot selection. -/
  | verifyAndProgram (src : Src) (readback : Bool)
  /-- STAGING_CLEAR (R761). LoaderCommand 3 clears the loader staging area. -/
  | stagingClear (src : Src)
  /-- KEEP_SNAPSHOT_NOW (R769). Requests a dictionary snapshot. -/
  | keepSnapshotNow (src : Src) (words : List (BitVec 32))
  /-- KEEP_SNAPSHOT_PERIOD (R769). KeepSnapshotPeriod expires with covered values changed, so a snapshot is written or deferred. -/
  | keepSnapshotPeriod
  /-- START_MODE (R767). A StartMode write stores a configuration record. -/
  | startMode (src : Src) (words : List (BitVec 32))
  /-- KEEP_USER (R767). A KeepUser write stores a user record. -/
  | keepUser (src : Src) (crc : BitVec 32)
  /-- PATCHBAY_START (R777). The Patchbay start sequence sends the setup table, enables ports, picks the tick source and loads VE0 and VE1. -/
  | patchbayStart (sap0 : Bool)
  /-- CROSS_GAIN (R779). A crosspoint gain glides over 240 ticks. -/
  | crossGain (src : Src) (o : Fin 1024) (k : Fin 16) (words : List (BitVec 32))
  /-- CROSS_SOURCE (R779). A crosspoint source changes between two 240-tick glides. -/
  | crossSource (src : Src) (o : Fin 1024) (k : Fin 16) (words : List (BitVec 32))
  /-- OUTPUT_DELAY (R780). The delay tap changes with a 64-tick crossfade. -/
  | outputDelay (src : Src) (o : Fin 1024) (words : List (BitVec 32))
  /-- DELAY_RESERVE (R781). Reallocates the output's delay line from the pool. -/
  | delayReserve (src : Src) (o : Fin 1024) (words : List (BitVec 32))
  /-- EQ_BAND (R782). Firmware computes biquad coefficients that glide over 480 ticks. -/
  | eqBand (src : Src) (o : Fin 1024) (b : Fin 8) (words : List (BitVec 32))
  /-- SOURCE_GROUP (R786). Maps a source group to a local or remote group. -/
  | sourceGroup (src : Src) (g : Fin 64) (words : List (BitVec 32))
  /-- METER_WINDOW (R783). A 2,400-tick meter window ends and MeterPeak and MeterPower update. -/
  | meterWindow
  /-- ENGINE_FREQUENCY (R797). A write starts the engine clock change sequence. -/
  | engineFrequency (src : Src) (words : List (BitVec 32))
  /-- ENGINE_SPREAD (R797). A write starts the spread change sequence. -/
  | engineSpread (src : Src) (words : List (BitVec 32))
  /-- ENGINE_CLOCK_STOP (R797). At the boundary where the fade reaches zero, the engines stop and ENG switches to HULL/2 for the relock. -/
  | engineClockStop
  /-- PLL_LOCKED (R790). A PLL's fixed lock time runs out; its output is ungated and waiting sequences continue. -/
  | pllLocked (p : Fin 5)
  /-- PLL_LOCK_LOST (R791). A cycle slip gates the PLL, switches to its fallback and restarts acquisition. -/
  | pllLockLost (p : Fin 5)
  /-- REF_LOST (R805). No REF edge for 2 µs; CD0 takes the always-on oscillator and the PLLs gate. -/
  | refLost
  /-- REF_RESTORED (R806). 1,024 good REF edges restore REF and the PLLs acquire. -/
  | refRestored
  /-- CLK_OUT_CONFIG (R811). Configures a clock output from its next divided edge. -/
  | clkOutConfig (src : Src) (n : Fin 4) (words : List (BitVec 32))
  /-- POWER_REQUEST (R814). Runs the entry steps down the power ladder to the requested state. -/
  | powerRequest (src : Src) (words : List (BitVec 32))
  /-- COAST_ENG_GATE (R814). At the boundary where the Coast fade reaches zero, ENG is gated and entry continues. -/
  | coastEngGate
  /-- WAKE (R821). A wake source reverses the power steps back to Run. -/
  | wake (source : Fin 3)
  /-- WAKE_TIMER (R820). WakeTimer expires and wakes the device. -/
  | wakeTimer
  /-- SLEEP_RECEIVED (R546). SLEEP blocks from a neighbour that enters deep idle put this end's link into Deep idle, and the groups of its runs go missing. -/
  | sleepReceived (k : Fin 4)
  /-- PWRGD_HIGH (R837). When PWRGD has been high for 1 ms after RESET_N has already risen, the reset ends and the power-on fill starts. -/
  | pwrgdHigh
  deriving DecidableEq, Repr

end Sys2Proof
end

