-- ==== Sys2Proof/Decode.lean ====
section
/-! DEFINITION. Reading commands from words: no row of the table gives its command bits, so no word spells one. -/
namespace Sys2Proof

/-- The command a word spells by the table's bits: none, since no row of the table gives bits. -/
def decodeTableWord (_nbits _w : Nat) : Option Instr := none

end Sys2Proof
end

