-- ==== Sys2Proof/Machine/Assoc.lean ====
section
/-! DEFINITION. Sparse tables keyed by a number, held as lists in one canonical form. Memory is such a table of bytes. -/
namespace Sys2Proof.Machine

/-- What a sparse table with default `d` holds at key `a`. -/
def aGet {α : Type} (d : α) : List (Nat × α) → Nat → α
  | [], _ => d
  | (k, v) :: t, a => if a = k then v else aGet d t a

/-- The table with the value at key `k` set to `v`; an entry equal to the default is not listed. -/
def aPut {α : Type} [DecidableEq α] (d : α) : List (Nat × α) → Nat → α → List (Nat × α)
  | [], k, v => if v = d then [] else [(k, v)]
  | (k', v') :: t, k, v =>
    if k < k' then (if v = d then (k', v') :: t else (k, v) :: (k', v') :: t)
    else if k = k' then (if v = d then t else (k, v) :: t)
    else (k', v') :: aPut d t k v

/-- The canonical form: keys strictly rising, no entry equal to the default. -/
def aWf {α : Type} [DecidableEq α] (d : α) : List (Nat × α) → Bool
  | [] => true
  | (k, v) :: t => (v != d) && t.all (fun e => decide (k < e.1)) && aWf d t

/-- Keys present in a sparse table. -/
def aKeys {α : Type} (l : List (Nat × α)) : List Nat := l.map (·.1)

/-- A set of numbers, as a strictly rising list: insertion. -/
def setAdd : List Nat → Nat → List Nat
  | [], k => [k]
  | x :: t, k => if k < x then k :: x :: t else if k = x then x :: t else x :: setAdd t k

/-- Removal from a set of numbers. -/
def setDel (l : List Nat) (k : Nat) : List Nat := l.filter (fun x => x != k)

/-! Memory: bytes of the 40-bit bus map that differ from what an unlisted address reads as, which is zero. -/

/-- The byte stored at bus address `a`. -/
def memByte (m : List Host.Cell) (a : Nat) : Byte := aGet 0#8 m a

/-- Store one byte. -/
def memPut (m : List Host.Cell) (a : Nat) (b : Byte) : List Host.Cell := aPut 0#8 m a b

/-- The little-endian number in the `n` bytes from `a` (R10). -/
def memRead (m : List Host.Cell) (a : Nat) : Nat → Nat
  | 0 => 0
  | n + 1 => (memByte m a).toNat + 256 * memRead m (a + 1) n

/-- Store the low `n` bytes of `v` from `a` up, little-endian (R10). -/
def memWrite (m : List Host.Cell) (a : Nat) : Nat → Nat → List Host.Cell
  | 0, _ => m
  | n + 1, v => memWrite (memPut m a (BitVec.ofNat 8 v)) (a + 1) n (v / 256)

/-- A 32-bit word of memory. -/
def memWord (m : List Host.Cell) (a : Nat) : Word := BitVec.ofNat 32 (memRead m a 4)

/-- Store a 32-bit word. -/
def memPutWord (m : List Host.Cell) (a : Nat) (w : Word) : List Host.Cell := memWrite m a 4 w.toNat

/-- Store a list of bytes from `a` up. -/
def memPutBytes (m : List Host.Cell) (a : Nat) : List Byte → List Host.Cell
  | [] => m
  | b :: t => memPutBytes (memPut m a b) (a + 1) t

/-- The `n` bytes from `a` up. -/
def memBytes (m : List Host.Cell) (a : Nat) : Nat → List Byte
  | 0 => []
  | n + 1 => memByte m a :: memBytes m (a + 1) n

/-- Remove every listed byte of the range of `n` bytes from `a`, so that it reads zero. -/
def memClear (m : List Host.Cell) (a n : Nat) : List Host.Cell :=
  m.filter (fun c => !(decide (a ≤ c.1) && decide (c.1 < a + n)))

/-- Memory is in its one canonical form. -/
abbrev Memory.wf (m : List Host.Cell) : Prop := aWf 0#8 m = true

end Sys2Proof.Machine
end

