-- ==== Sys2Proof/Machine/PageCode.lean ====
section
/-! DEFINITION. The page code: Reed–Solomon parity of a 4 KiB page and its recovery (R692, R693). -/
namespace Sys2Proof.Machine
open Sys2Proof

/-- Multiplication by α = 0x02 in GF(2^8) with field polynomial x^8 + x^4 + x^3 + x^2 + 1 (R692). -/
def gfDouble (a : Byte) : Byte := if a.msb then (a <<< 1) ^^^ 0x1D#8 else a <<< 1

/-- Product in GF(2^8). -/
def gfMul (a b : Byte) : Byte :=
  (List.range 8).foldr (fun i acc => if b.getLsbD i then gfDouble acc ^^^ a else gfDouble acc) 0

/-- α to the power `n`. -/
def gfExp : Nat → Byte
  | 0 => 1
  | n + 1 => gfDouble (gfExp n)

/-- `a` to the power `n`. -/
def gfPow (a : Byte) : Nat → Byte
  | 0 => 1
  | n + 1 => gfMul a (gfPow a n)

/-- The inverse of a nonzero element: its power 254. -/
def gfInv (a : Byte) : Byte := gfPow a 254

/-- Value of a codeword, highest coefficient first, at the point `x`. -/
def gfEval (x : Byte) (c : List Byte) : Byte := c.foldl (fun acc b => gfMul acc x ^^^ b) 0

/-- The two parity bytes of 128 data bytes: the coefficients of x^1 and x^0 (R692). -/
def laneParity (data : List Byte) : Byte × Byte :=
  let c := data ++ [0, 0]
  let s0 := gfEval 1 c
  let s1 := gfEval 2 c
  let p1 := gfMul (s0 ^^^ s1) (gfInv 3)
  (p1, s0 ^^^ p1)

/-- The error values of a lane of 130 symbols, as places and bytes to add, or none where 2e + f exceeds 2 (R693).
`erased` are the places of the erased symbols; place `i` is the coefficient of x^(129 - i). -/
def laneErrors (erased : List Nat) (c : List Byte) : Option (List (Nat × Byte)) :=
  let s0 := gfEval 1 c
  let s1 := gfEval 2 c
  match erased with
  | [] =>
    if s0 = 0 ∧ s1 = 0 then some []
    else if s0 = 0 then none
    else ((List.range 130).find? (fun i => gfMul (gfExp (129 - i)) s0 = s1)).map (fun i => [(i, s0)])
  | [i] => if s1 = gfMul (gfExp (129 - i)) s0 then some [(i, s0)] else none
  | [i, j] =>
    let x := gfExp (129 - i)
    let y := gfExp (129 - j)
    let e1 := gfMul (s1 ^^^ gfMul s0 y) (gfInv (x ^^^ y))
    some [(i, e1), (j, s0 ^^^ e1)]
  | _ => none

/-- Byte `k` of lane `b` of codeword `j` in a page (R692). -/
def laneByte (j b k : Nat) : Nat := 8 * (4 * k + j) + b

/-- The 128 data bytes of a lane. -/
def laneData (page : Nat → Byte) (j b : Nat) : List Byte := (List.range 128).map (fun k => page (laneByte j b k))

/-- The 64 parity bytes of a page: byte 16j + 2b + r (R692). -/
def pageParity (page : Nat → Byte) : List Byte :=
  (List.range 4).flatMap (fun j => (List.range 8).flatMap (fun b =>
    let p := laneParity (laneData page j b)
    [p.1, p.2]))

/-- Recovery of one lane: the bytes of the page that change, and the symbols corrected. -/
def recoverLane (page : Nat → Byte) (parity : List Byte) (erased : List Nat) (j b : Nat) : Option (List (Nat × Byte) × Nat) :=
  let places := (erased.filter (fun u => u % 4 = j)).map (fun u => u / 4)
  let c := laneData page j b ++ [parity.getD (16 * j + 2 * b) 0, parity.getD (16 * j + 2 * b + 1) 0]
  (laneErrors places c).map (fun l =>
    ((l.filter (fun p => p.1 < 128)).map (fun p => (laneByte j b p.1, page (laneByte j b p.1) ^^^ p.2)), l.length))

/-- Recovery of a page whose erased units are given: all changed bytes and the symbols corrected, or none (R693). -/
def recoverPage (page : Nat → Byte) (parity : List Byte) (erased : List Nat) : Option (List (Nat × Byte) × Nat) :=
  ((List.range 4).flatMap (fun j => (List.range 8).map (fun b => (j, b)))).foldl
    (fun acc jb =>
      match acc, recoverLane page parity erased jb.1 jb.2 with
      | some (l, n), some (m, k) => some (l ++ m, n + k)
      | _, _ => none)
    (some ([], 0))

end Sys2Proof.Machine
end

