-- ==== Sys2Proof/Machine/Crc.lean ====
section
/-! DEFINITION. CRC-32C (Castagnoli), as the journal, the images and the transfers use it. -/
namespace Sys2Proof.Machine
open Sys2Proof

/-- One bit of the reflected CRC-32C register (polynomial 0x1EDC6F41). -/
def crcBit (r : BitVec 32) : BitVec 32 := if r.getLsbD 0 then (r >>> 1) ^^^ 0x82F63B78#32 else r >>> 1

/-- Eight bits. -/
def crcBits : Nat → BitVec 32 → BitVec 32
  | 0, r => r
  | n + 1, r => crcBits n (crcBit r)

/-- One byte enters the register. -/
def crcByte (r : BitVec 32) (b : Byte) : BitVec 32 := crcBits 8 (r ^^^ b.setWidth 32)

/-- CRC-32C of a list of bytes. -/
def crc32c (l : List Byte) : BitVec 32 := ~~~(l.foldl crcByte 0xFFFFFFFF#32)

/-- The low `n` bytes of a number, least significant first. -/
def leBytes : Nat → Nat → List Byte
  | 0, _ => []
  | n + 1, v => BitVec.ofNat 8 v :: leBytes n (v / 256)

/-- The number of a little-endian list of bytes. -/
def leNat : List Byte → Nat
  | [] => 0
  | b :: t => b.toNat + 256 * leNat t

/-- The bytes of a list of 32-bit words, each little-endian (R420). -/
def wordsBytes (l : List (BitVec 32)) : List Byte := l.flatMap (fun w => leBytes 4 w.toNat)

/-- The number of a list of 32-bit words, least significant first (R420). -/
def wordsNat : List (BitVec 32) → Nat
  | [] => 0
  | w :: t => w.toNat + 2 ^ 32 * wordsNat t

/-- The low `n` 32-bit words of a number, least significant first. -/
def natWords : Nat → Nat → List (BitVec 32)
  | 0, _ => []
  | n + 1, v => BitVec.ofNat 32 v :: natWords n (v / 2 ^ 32)

/-- A list of bytes as 32-bit words, the last padded with zero bytes. -/
def bytesWords (l : List Byte) : List (BitVec 32) := natWords ((l.length + 3) / 4) (leNat l)

end Sys2Proof.Machine
end

