-- ==== Sys2Proof/Machine/Arith.lean ====
section
/-! DEFINITION. Rounding, saturation and exponent arithmetic shared by the engines, the delay units and the links. -/
namespace Sys2Proof.Machine

/-- `x / d` rounded to the nearest integer, a tie to the even one; `d` is positive (R12, R120). -/
def roundHalfEven (x : Int) (d : Nat) : Int :=
  let q := x / (d : Int)
  let r := x % (d : Int)
  if 2 * r < d then q else if 2 * r > d then q + 1 else if q % 2 = 0 then q else q + 1

/-- An integer brought into the range of a `w`-bit two's-complement number. -/
def satInt (w : Nat) (x : Int) : Int :=
  if x > 2 ^ (w - 1) - 1 then 2 ^ (w - 1) - 1 else if x < -(2 ^ (w - 1)) then -(2 ^ (w - 1)) else x

/-- An integer saturated to a 32-bit word (R111). -/
def satWord (x : Int) : Word := BitVec.ofInt 32 (satInt 32 x)

/-- Number of bits below the sign bit that equal it, scanning down from bit `i - 1` (R125). -/
def redundantFrom {w : Nat} (x : BitVec w) (sign : Bool) : Nat → Nat
  | 0 => 0
  | i + 1 => if x.getLsbD i = sign then redundantFrom x sign i + 1 else 0

/-- NORM of a 32-bit word (R125). -/
def norm32 (x : Word) : Nat := redundantFrom x x.msb 31

/-- EXP of an accumulator lane: min(L - 8, 15), L the redundant sign bits of the 72-bit word (R126). -/
def expAcc (a : AccWord) : Int := min ((redundantFrom a a.msb 71 : Int) - 8) 15

/-- The largest accumulator word (R112). -/
def accMax : AccWord := BitVec.ofInt 72 (2 ^ 71 - 1)
/-- The smallest accumulator word (R112). -/
def accMin : AccWord := BitVec.ofInt 72 (-(2 ^ 71))

/-- Whether an exact sum lies in the range of an accumulator (R112). -/
def inAccRange (x : Int) : Bool := decide (-(2 ^ 71) ≤ x) && decide (x ≤ 2 ^ 71 - 1)

/-- The exact product of a Q1.31 sample and a Q1.31 or Q4.28 coefficient, aligned in Q9.63 (R109). -/
def product (a b : Word) (q4 : Bool) : Int := a.toInt * b.toInt * (if q4 then 16 else 2)

/-- A Q1.31 value placed exactly in Q9.63 (R113). -/
def placeExact (a : Word) : Int := a.toInt * 2 ^ 32

/-- The word a move of accumulator lane `a` under scale `s` delivers before saturation: R120's `r`.
`a` has 63 fraction bits, so `q = a * 2^(s - 32)` in units of the destination. -/
def scaleRound (a : AccWord) (s : Int) : Int :=
  roundHalfEven (a.toInt * 2 ^ (s + 16).toNat) (2 ^ 48)

/-- Whether the move saturates (R120, R122). -/
def moveSaturates (a : AccWord) (s : Int) : Bool :=
  let r := scaleRound a s
  decide (r > 2 ^ 31 - 1) || decide (r < -(2 ^ 31))

/-- The word a move delivers (R120). -/
def moveWord (a : AccWord) (s : Int) : Word := satWord (scaleRound a s)

/-- Reverse the low `b` bits of `x` (R166). -/
def revBits (b x : Nat) : Nat :=
  (List.range b).foldl (fun acc i => acc + (if x.testBit i then 2 ^ (b - 1 - i) else 0)) 0

/-- Integer base-2 logarithm found within `fuel` halvings. -/
def log2Fuel : Nat → Nat → Nat
  | 0, _ => 0
  | f + 1, x => if x ≤ 1 then 0 else log2Fuel f (x / 2) + 1

/-- Whether a number below 2^32 is a power of two. -/
def isPow2 (x : Nat) : Bool := (x != 0) && (x == 2 ^ log2Fuel 32 x)

/-- Sums of a list of numbers, of a list of integers. -/
def sumNat (l : List Nat) : Nat := l.foldl (· + ·) 0
def sumInt (l : List Int) : Int := l.foldl (· + ·) 0

/-- A saturating counter of `w` bits (objects that stop at their maximum). -/
def satAdd (w : Nat) (x n : Nat) : Nat := min (x + n) (2 ^ w - 1)

/-- Whether tick `a` is not after tick `b`, for 48-bit counts less than half their range apart. -/
def tickLe (a b : Nat) : Bool := decide ((b + 2 ^ 48 - a % 2 ^ 48) % 2 ^ 48 < 2 ^ 47)

/-- A wrapping counter of `w` bits. -/
def wrapAdd (w : Nat) (x n : Nat) : Nat := (x + n) % 2 ^ w

end Sys2Proof.Machine
end

