-- ==== Sys2Proof/Machine/Flags.lean ====
section
/-! DEFINITION. The engine fault word: its counters, its flags, and when it makes an engine faulted (R130 to R132). -/
namespace Sys2Proof.Machine

/-- The field of `w` that is `n` bits wide from bit `lo`, as a number. -/
def fieldOf (w : BitVec 64) (lo n : Nat) : Nat := (w.toNat / 2 ^ lo) % 2 ^ n

/-- `w` with the `n`-bit field from bit `lo` replaced by `v`. -/
def withField (w : BitVec 64) (lo n v : Nat) : BitVec 64 :=
  BitVec.ofNat 64 (w.toNat - fieldOf w lo n * 2 ^ lo + (v % 2 ^ n) * 2 ^ lo)

/-- A counter field raised by `k`; it stops at all ones (R131). -/
def countField (w : BitVec 64) (lo n k : Nat) : BitVec 64 :=
  withField w lo n (min (fieldOf w lo n + k) (2 ^ n - 1))

/-- GUARD_OVF raised by `k` freezes (R114). -/
def fwGuard (w : BitVec 64) (k : Nat) : BitVec 64 := countField w 48 16 k
/-- POISON raised by `k` reads. -/
def fwPoison (w : BitVec 64) (k : Nat) : BitVec 64 := countField w 40 8 k
/-- FAR_MISS raised by `k` lines. -/
def fwFarMiss (w : BitVec 64) (k : Nat) : BitVec 64 := countField w 32 8 k
/-- OUT_SUBST raised by `k` groups. -/
def fwOutSubst (w : BitVec 64) (k : Nat) : BitVec 64 := countField w 24 8 k
/-- MOVE_SAT raised by `k` moves. -/
def fwMoveSat (w : BitVec 64) (k : Nat) : BitVec 64 := countField w 16 8 k

/-- One flag bit of the fault word set. -/
def fwSet (w : BitVec 64) (bit : Nat) : BitVec 64 := w ||| BitVec.ofNat 64 (2 ^ bit)

/-- Bit numbers of the fault-word flags (R130). -/
def fwIfetchTrap : Nat := 7
def fwUnrecovered : Nat := 6
def fwDebugHalt : Nat := 5
def fwUpstream : Nat := 4
def fwStoreSame : Nat := 3
def fwPortLost : Nat := 2
def fwWriteRefused : Nat := 1

/-- Whether a fault word makes its engine faulted (R132). -/
def faulted (w : BitVec 64) : Bool :=
  w.getLsbD 7 || w.getLsbD 6 || w.getLsbD 5 || w.getLsbD 4 || fieldOf w 32 8 != 0

/-- Whether a mask bit governs a nonzero field: flags by their own bit, a counter by the mask bit at its lowest bit (R136). -/
def fwGoverned (w mask : BitVec 64) : Bool :=
  (w &&& mask &&& 0xFE#64) != 0 ||
  (mask.getLsbD 16 && fieldOf w 16 8 != 0) || (mask.getLsbD 24 && fieldOf w 24 8 != 0) ||
  (mask.getLsbD 32 && fieldOf w 32 8 != 0) || (mask.getLsbD 40 && fieldOf w 40 8 != 0) ||
  (mask.getLsbD 48 && fieldOf w 48 16 != 0)

end Sys2Proof.Machine
end

