-- ==== Sys2Proof/Config.lean ====
section
/-! DEFINITION. What an implementation fixes and the spec leaves open: constants without a body, so that nothing can be proved of their values. -/
namespace Sys2Proof.Config

/-- A word the spec leaves open, fresh for each number it is asked with (log entry 2). -/
opaque freeWord : Nat → BitVec 32
/-- The bytes of the mask ROM, whose content the spec does not give (log entry 3). -/
opaque romByte : Nat → BitVec 8
/-- A number below 2^64 that the spec leaves open, fresh for each use (log entry 2). -/
opaque freeNat : Nat → BitVec 64
/-- SHA-384, which the spec names and does not define (log entry 40). -/
opaque sha384 : List (BitVec 8) → List (BitVec 8)
/-- Whether a P-384 ECDSA signature (r, then s) of a digest verifies under a public key (x, then y) (log entry 40). -/
opaque ecdsaP384 : (key digest signature : List (BitVec 8)) → Bool
/-- AES-256-GCM decryption under key, nonce, associated data and tag; none where the tag does not match (log entry 40). -/
opaque aesGcm : (key iv aad text tag : List (BitVec 8)) → Option (List (BitVec 8))
/-- Coefficient `i` (b0, b1, b2, c1, c2) of a Patchbay band: the field word and the tick rate; the spec names the transform and not the
prototype filters (log entry 49). -/
opaque eqCoef : (word rate i : Nat) → BitVec 32
/-- The soft-repair entry of a candidate line: the spec does not number the arrays, banks and rows of an entry (log entry 51). -/
opaque repairEntry : Nat → BitVec 64
/-- How many repairs the burned bits of REPAIR make: the spec gives the field no format (log entry 51). -/
opaque fuseRepairs : List Nat → BitVec 12
/-- Bank-cycles released and bank accesses served to DMA in a tick, by the object that reports them: timing (log entry 31). -/
opaque orbitUse : (obj tick : Nat) → BitVec 32

/-- The last 58 bits on a lane after train blocks, whose number is timing (log entry 112). -/
opaque scrambler : Nat → BitVec 58
/-- IDLE blocks from the guard of a tick frame to the next TICK_MARK, which the line rate decides (log entry 112). -/
opaque idleBlocks : Nat → BitVec 8

/-- Where in LPDDR5X page `i` of the retained graph image stands: the spec does not place domain staging (log entry 116). -/
opaque imagePage : Nat → BitVec 40

/-- Where in dictionary storage an object lies, from its address (R696): the spec does not say (log entry 139). -/
opaque objectPlace : Nat → BitVec 18

end Sys2Proof.Config
end

