-- ==== Sys2Proof/Machine/EngineState.lean ====
section
/-! DEFINITION. The state of one Vertex engine, its delay unit and its coefficient banks. -/
namespace Sys2Proof.Machine

/-- One write that a slot operation has scheduled (R156). Register names are physical (R95). -/
inductive RegWrite where
  /-- Lanes of a vector register. -/
  | vec (r : Fin 32) (mask : BitVec 64) (val : Lanes Word)
  /-- Bits of a mask register. -/
  | msk (r : Fin 8) (mask : BitVec 64) (val : BitVec 64)
  /-- A scalar register. -/
  | scl (r : Fin 16) (val : Word)
  /-- Accumulator lanes as the A slot sees them (R171). -/
  | accA (r : Fin 8) (mask : BitVec 64) (val : Lanes AccWord)
  /-- Sticky guard flags as MGUARD sees them (R171). -/
  | guardA (bits : BitVec 64)
  /-- A pointer, stride, modulo base or modulo length register; `f` as R205. -/
  | ptr (f : BitVec 2) (r : Fin 16) (val : Word)
  /-- A scale shift. -/
  | acs (r : Fin 8) (val : BitVec 5)
  /-- The rotating window base. -/
  | wb (val : BitVec 4)
  deriving DecidableEq, Repr

/-- A scheduled write: it lands when `wait` more bundles have closed. `young` marks a write of the bundle still open. -/
structure Flight where
  wait : Nat
  young : Bool
  wr : RegWrite
  deriving DecidableEq, Repr

/-- One active repeat (R207): body bundles `first` to `last`, iterations still to complete, auto-rotate. -/
structure Rep where
  first : Nat
  last : Nat
  left : Nat
  rot : Bool
  deriving DecidableEq, Repr

/-- A store of the open bundle, performed when the bundle closes (R107, R160): address and word for each lane written. -/
structure StoreReq where
  y : Bool
  words : List (Nat × Word)
  deriving DecidableEq, Repr

/-- The forms of delay-unit operations that access Orbit memory (R189). -/
inductive OForm where
  | tap (d : Fin 32)
  | interp (d : Fin 8) (eight accum : Bool)
  | trd (d : Fin 32)
  | trd4 (d : Fin 8) (accum : Bool)
  | dwr
  | chanIn (d : Fin 32)
  | chanOut
  | exr (d : Fin 32)
  | exw
  | old (d : Fin 32)
  | ost
  deriving DecidableEq, Repr

/-- One O operation from its issue to the last bundle in which it acts (R189, R244). -/
structure OrbitOp where
  form : OForm
  /-- Bundles closed since the issue. -/
  age : Nat
  /-- Issue position in the tick, for R202. -/
  pos : Nat
  mask : BitVec 64
  /-- Per lane: descriptor number, channel number or byte offset. -/
  name : Lanes Nat
  /-- Per lane: delay or index word of a tap or table read; data word of a write. -/
  arg : Lanes Word
  served : Bool
  /-- Points read when served, in ascending j; one element for the plain forms. -/
  points : List (Lanes Word)
  /-- Interpolation fractions after clamping, per lane. -/
  frac : Lanes Nat
  deriving DecidableEq, Repr

/-- One delay-line descriptor with its open-block entry (R259, R306). -/
structure Desc where
  loc : BitVec 2
  fmt : BitVec 3
  valid : Bool
  aliased : Bool
  writer : Nat
  base : Nat
  tapCount : Nat
  maxLen : Nat
  len : Nat
  clamp : Bool
  hwm : Nat
  wp : Nat
  stageLine : Nat
  spanGroups : Nat
  spanLo : Nat
  /-- LENPEND and the length that waits for the next boundary (R269). -/
  pendLen : Option Nat
  /-- SPANPEND and the span that waits for staging: SPAN_LO, SPAN_GROUPS (R280). -/
  pendSpan : Option (Nat × Nat)
  /-- Groups of a far delay that stand in span staging, each with its Orbit line (R274). -/
  stage : List (Nat × Nat)
  /-- Groups treated as missing (R277). -/
  missing : List Nat
  /-- Groups whose fetch has started and not completed, with the tick whose deadline check needs them. -/
  fetching : List (Nat × Nat)
  /-- Completed groups of a far delay still in write-behind, each with its Orbit line and the slots written (R275). -/
  behind : List (Nat × Nat × BitVec 16)
  /-- Which of the four write-behind lines takes the group at WP (R274). -/
  turn : Nat
  openVals : Vector Word 16
  openFlags : BitVec 16
  /-- A DWR on slot 15 has closed the open group in this tick (R309). -/
  closed : Bool
  deriving DecidableEq, Repr

/-- A descriptor that has not been written: every field zero (R259). -/
def Desc.zero : Desc :=
  { loc := 0, fmt := 0, valid := false, aliased := false, writer := 0, base := 0, tapCount := 0, maxLen := 0,
    len := 0, clamp := false, hwm := 0, wp := 0, stageLine := 0, spanGroups := 0, spanLo := 0, pendLen := none,
    pendSpan := none, stage := [], missing := [], fetching := [], behind := [], turn := 0, openVals := Vector.replicate 16 0,
    openFlags := 0, closed := false }

/-- One glide entry of an engine (R348): the bank word, its start and target, values formed, glide time, value of this tick. -/
structure Glide where
  word : Nat
  v0 : Word
  v1 : Word
  k : Nat
  total : Nat
  now : Word
  deriving DecidableEq, Repr

/-- One Vertex engine with its delay unit and banks. -/
structure Engine where
  -- R91 register files
  v : Vector (Lanes Word) 32
  acc : Vector (Lanes AccWord) 8
  msk : Vector (BitVec 64) 8
  p : Vector Word 16
  n : Vector Word 16
  pb : Vector Word 16
  pl : Vector Word 16
  scl : Vector Word 16
  acs : Vector (BitVec 5) 8
  wb : BitVec 4
  -- R117, R118 freeze bits and sticky guard flags
  freeze : Vector (BitVec 64) 8
  guard : BitVec 64
  -- what the A slot sees (R171)
  accA : Vector (Lanes AccWord) 8
  guardA : BitVec 64
  -- R156 results on their way
  flights : List Flight
  -- the open bundle: the next slot that may still issue in it (0 to 5 for M to C, 6 full), its stores, ENTRY and BKPT
  nextSlot : Nat
  stores : List StoreReq
  entryNow : Bool
  haltNow : Bool
  pushRep : Option Rep
  -- sequencing
  pc : Nat
  issued : Nat
  reps : List Rep
  oBusy : Nat
  ops : List OrbitOp
  /-- RUNNING: a placed program runs each tick. -/
  running : Bool
  /-- The program of this tick is still issuing. -/
  active : Bool
  progLen : Nat
  /-- A declared length that waits for the boundary (R398). -/
  pendLen : Option Nat
  /-- The program memory was written without the checks of R217. -/
  unchecked : Bool
  /-- A fetch trap waits for recovery of this program page (R133). -/
  trapPage : Option Nat
  unified : Bool
  /-- FetchMode waiting for the boundary (R106). -/
  pendFetch : Option Bool
  /-- The fault word of the tick in progress (R130). -/
  fault : BitVec 64
  -- delay unit
  desc : List (Nat × Desc)
  -- coefficient banks (R323 to R329)
  bankB : Bool
  dirty : List Nat
  levelling : Bool
  stale : List Nat
  repairSwap : Bool
  glides : List Glide
  /-- Program ranges under RANGE registers and their staged values (R389): start, end, mode. -/
  ranges : Vector (BitVec 64) 4
  pendRanges : Vector (Option (BitVec 64)) 4
  deriving DecidableEq, Repr

/-- All lanes of a value. -/
def allLanes {α : Type} (x : α) : Lanes α := Vector.replicate 64 x

/-- An engine after reset: the register settings of R72, nothing placed, bank A active (R323). -/
def Engine.reset : Engine :=
  { v := Vector.replicate 32 (allLanes 0), acc := Vector.replicate 8 (allLanes 0), msk := Vector.replicate 8 (BitVec.allOnes 64),
    p := Vector.replicate 16 0, n := Vector.replicate 16 0, pb := Vector.replicate 16 0, pl := Vector.replicate 16 0,
    scl := Vector.replicate 16 0, acs := Vector.replicate 8 0, wb := 0, freeze := Vector.replicate 8 0, guard := 0,
    accA := Vector.replicate 8 (allLanes 0), guardA := 0, flights := [], nextSlot := 0, stores := [], entryNow := false,
    haltNow := false, pushRep := none, pc := 0, issued := 0, reps := [], oBusy := 0, ops := [], running := false,
    active := false, progLen := 0, pendLen := none, unchecked := false, trapPage := none, unified := false, pendFetch := none, fault := 0,
    desc := [], bankB := false, dirty := [], levelling := false, stale := [], repairSwap := false, glides := [],
    ranges := Vector.replicate 4 0, pendRanges := Vector.replicate 4 none }

end Sys2Proof.Machine
end

