-- ==== Sys2Proof/Machine/StateParts.lean ====
section
/-! DEFINITION. The state of the shared blocks: Orbit areas, output groups, memory integrity, dictionary, updates, events. -/
namespace Sys2Proof.Machine

/-- The I/O and exchange areas of Orbit memory (R281 to R285). -/
structure OrbitIo where
  /-- Which input half is readable by IN; the other is being captured. -/
  inHalf : Bool
  /-- Which output half OUT writes; the other is published. -/
  outHalf : Bool
  /-- Which exchange half EXW writes; EXR reads the other. -/
  exHalf : Bool
  /-- Channels written this tick: issue position and engine of the write that stands (R202). -/
  outBy : List (Nat × (Nat × Nat))
  /-- Output groups and the engines whose blocks write them, from the placement (R139). -/
  owners : List (Nat × Nat)
  /-- Groups that loopback edges carry from output to input (R382). -/
  loop : List Nat
  /-- Exchange words written this tick, by byte offset: issue position and engine of the write that stands. -/
  exBy : List (Nat × (Nat × Nat))
  /-- Bus addresses of the two exchange halves, and their size. -/
  exBase0 : Nat
  exBase1 : Nat
  exSize : Nat
  /-- Byte offsets of the read half that were zeroed for a faulted producer (R135, R284). -/
  exFaulted : List Nat
  /-- Exchange regions the Tiler assigned: engine that writes, first byte offset, bytes. -/
  exRegions : List (Nat × Nat × Nat)
  /-- Private regions: byte offset in Orbit memory and size, by engine. -/
  privBase : Vector Nat 8
  privSize : Vector Nat 8
  /-- Shares in force and the shares waiting for the boundary (R238, R256). -/
  share : Vector Nat 8
  pendShare : Option (BitVec 64)
  deriving DecidableEq, Repr

/-- Where an output or receive group stands in its fade or ramp (R141 to R143). -/
inductive GroupPhase where
  | pass
  | fade (len k : Nat)
  | ramp (j : Nat)
  deriving DecidableEq, Repr

/-- One channel group's substitution state: phase, the sample each fade started from, the last sample published or latched. -/
structure Group where
  phase : GroupPhase
  x : Vector Word 16
  last : Vector Word 16
  /-- Engines whose fault keeps the group in fault substitution, whether or not a mute holds it as well (R130, R139, OUT_SUBST). -/
  byFault : List Nat
  /-- A receive-group slot is missing for the tick (R139). -/
  missing : Bool
  deriving DecidableEq, Repr

/-- A group that has published nothing. -/
def Group.zero : Group := { phase := .pass, x := Vector.replicate 16 0, last := Vector.replicate 16 0, byFault := [], missing := false }

/-- Why every output is held faded: Safe-mute, or a sequence that fades all outputs. -/
inductive MuteReason where
  | safeMute | muteInService | modeChange | rateChange | engineClock | power | graphReplace | enginePllLost
  deriving DecidableEq, Repr

/-- Memory integrity state (chapter 17). -/
structure Integrity where
  corrLog : List Nat
  record : List Nat
  queue : List Nat
  poison : List Nat
  /-- Uncorrectable words of the window in progress, and whether a TickCount step cut it, so that it is no whole window (R719). -/
  storm : Nat
  cut : Bool
  /-- Static pages other than coefficient banks: all, and those stale, oldest first (R698, R853). -/
  staticPages : List Nat
  stalePages : List Nat
  softRepairs : List Nat
  /-- The range pass under way: next line to read, end of the range (R718). -/
  rangePass : Option (Nat × Nat)
  /-- Parity stores (R694): the 64 parity bytes of a page by its bus address; a page not listed has parity zero. -/
  parity : List (Nat × List Byte)
  /-- Consecutive passes in which a word was found correctable (R721). -/
  softHits : List (Nat × Nat)
  /-- Soft-repair candidates, by line address (R721). -/
  candidates : List Nat
  deriving DecidableEq, Repr

/-- An open write transfer (R449). -/
structure Xfer where
  obj : Nat
  total : Nat
  words : List (BitVec 32)
  nextSeq : Nat
  deriving DecidableEq, Repr

/-- Per-session state (R446, R447). -/
structure Session where
  key : SessKey
  lastError : Nat
  lastErrorObj : Nat
  glide : Nat
  lastGen : Nat
  proxy : Nat
  xfer : Option Xfer
  /-- The read snapshot: its object and the bytes of the value (R453). -/
  snap : Option (Nat × List Byte)
  /-- The response unit that a DBR would read: the address it is for, and its words (R630). -/
  unit : Option (Nat × List (BitVec 32))
  deriving DecidableEq, Repr

/-- The defaults of a session without an entry. -/
def Session.fresh (k : SessKey) : Session :=
  { key := k, lastError := 0, lastErrorObj := 0, glide := 0, lastGen := 0, proxy := 0xFFFF, xfer := none, snap := none, unit := none }

/-- The last response given: session, result code (R436), words of the value. -/
structure Resp where
  key : SessKey
  code : Nat
  words : List (BitVec 32)
  deriving DecidableEq, Repr

/-- A word written into shadow banks: engine, word index in the bank, value, glide-capable. -/
structure BankWrite where
  engine : Nat
  word : Nat
  value : Word
  glide : Bool
  deriving DecidableEq, Repr

/-- An update set (R330): open, sealed, or swapped with its claim still held (R332). -/
inductive SetPhase where
  | opened | sealed | swapped
  deriving DecidableEq, Repr

structure UpSet where
  key : SessKey
  phase : SetPhase
  engines : List Nat
  /-- Words written, and what each held in the active bank when first written. -/
  words : List BankWrite
  gen : Nat
  glide : Nat
  /-- Banked writes in the set (R477). -/
  writes : Nat
  /-- It has reached the boundary controller (R70). -/
  arrived : Bool
  deferred : Bool
  /-- Sealed while a sequence of R83 or R797 ran: it takes effect once boundaries at the new setting run (R84, R799). -/
  inSeq : Bool
  deriving DecidableEq, Repr

/-- A held banked write (R329, R332). -/
structure Held where
  key : SessKey
  writes : List BankWrite
  deriving DecidableEq, Repr

/-- One entry of the commit history (R360): generation, state, tick. -/
structure CommitEntry where
  gen : Nat
  state : Nat
  tick : Nat
  deriving DecidableEq, Repr

/-- A queued write to X or Y memory (R354): bus address and word. -/
structure XyWrite where
  y : Bool
  addr : Nat
  value : Word
  deriving DecidableEq, Repr

/-- An event record (R464). -/
structure Event where
  tick : Nat
  code : Nat
  data : Nat
  deriving DecidableEq, Repr

/-- A firmware-served request waiting in the queue (R442). -/
structure FwReq where
  key : SessKey
  link : Nat
  write : Bool
  addr : Nat
  words : List (BitVec 32)
  accepted : Nat
  /-- TAG of a fabric request (R604). -/
  tag : Option Nat
  /-- A domain unit, END or READ_START, of which `words` are the words and `addr` is the address it is presented under. -/
  unit : Bool := false
  deriving DecidableEq, Repr

/-- An open gap record of the journal (R489): its number, records lost, strict writes refused, tick of the last loss. -/
structure Gap where
  seq : Nat
  lost : Nat
  strict : Nat
  lastTick : Nat
  /-- TICK and EPOCH of the record, from when it was opened (R474). -/
  tick : Nat
  epoch : Nat
  deriving DecidableEq, Repr

/-- What firmware gathers for the next Keep summary of the journal (R491), and the first record the LPDDR5X ring holds. -/
structure LocusSum where
  first : Nat
  count : Nat
  firstTick : Nat
  lastTick : Nat
  nonOk : Nat
  lost : Nat
  drainLo : Nat
  deriving DecidableEq, Repr

def LocusSum.reset : LocusSum := { first := 0, count := 0, firstTick := 0, lastTick := 0, nonOk := 0, lost := 0, drainLo := 0 }

/-- A graph parameter as placed (R370, R460). `base` is the bank word of its first word for BIND 0, the bus address of it
for BIND 1, the descriptor of its line for BIND 2. -/
structure Param where
  addr : Nat
  ty : Nat
  bind : Nat
  glide : Bool
  strict : Bool
  replicate : Bool
  rights : Nat
  engine : Nat
  base : Nat
  words : Nat
  lo : Nat
  hi : Nat
  dflt : Nat
  block : Nat
  /-- BIND 2: the length last accepted (R461). -/
  lenVal : Nat
  /-- The second engine that holds the words while the block runs in parallel (R356): engine and base there. -/
  mirror : Option (Nat × Nat)
  deriving DecidableEq, Repr

/-- What the device as a whole is doing. -/
inductive Life where
  /-- RESET_N or PWRGD low. -/
  | inReset
  /-- The power-on fill (R726). -/
  | filling
  /-- The Hull core is released. -/
  | up
  /-- Every clock stopped by the thermal shutdown (R43). -/
  | stopped
  deriving DecidableEq, Repr

end Sys2Proof.Machine
end

