-- ==== Sys2Proof/Machine/BlockParts.lean ====
section
/-! DEFINITION. The state of the blocks around the engines, chapter by chapter. -/
namespace Sys2Proof.Machine
open Sys2Proof

/-! ### Tiler (chapter 9) -/

/-- A placed block: device, engine, first program position, positions taken with padding, positions of it that hold its own code. -/
structure PlacedBlock where
  block : Nat
  dev : Nat
  eng : Nat
  start : Nat
  size : Nat
  code : Nat
  deriving DecidableEq, Repr

/-- A placed region: its byte base in its array, or in Orbit memory for a private region. -/
structure PlacedRegion where
  region : Nat
  eng : Nat
  kind : Nat
  base : Nat
  bytes : Nat
  deriving DecidableEq, Repr

/-- A placed delay line: engine, descriptor number, bus address of its storage, first staging line of a far delay, and WP mod 16 of a far
delay as it was when the graph was loaded (R279). -/
structure PlacedLine where
  line : Nat
  eng : Nat
  desc : Nat
  base : Nat
  far : Bool
  stage : Nat
  wp : Nat
  deriving DecidableEq, Repr

/-- A placed edge: carrier, first channel group or exchange byte offset, latency, channels. -/
structure PlacedEdge where
  edge : Nat
  carrier : Nat
  first : Nat
  latency : Nat
  channels : Nat
  deriving DecidableEq, Repr

/-- A graph with its placement. The image is the one retained in domain staging (R697). -/
structure Graph where
  image : List Byte
  id : Nat
  /-- Blocks in table order, each with its place; a block of another device has no positions here. -/
  blocks : List PlacedBlock
  regions : List PlacedRegion
  lines : List PlacedLine
  edges : List PlacedEdge
  /-- Byte offsets in Orbit memory of the exchange halves, and their size; private regions: engine, offset, bytes. -/
  exBase : Nat
  exSize : Nat
  exOffs : List (Nat × Nat × Nat)
  priv : List (Nat × Nat × Nat)
  deriving DecidableEq, Repr

/-- A migration under way (R396 to R411): the block, the blocks of its cluster in program order, where they were and where they go. -/
structure Migration where
  block : Nat
  blocks : List Nat
  fromDev : Nat
  fromEng : Nat
  toDev : Nat
  toEng : Nat
  /-- A warm start over the bulk channel (R406). -/
  warm : Bool
  /-- The places of the blocks on this device, if they are loaded here, and those of their regions and lines. -/
  dst : List PlacedBlock
  regions : List PlacedRegion
  lines : List PlacedLine
  priv : List (Nat × Nat × Nat)
  /-- First second group of each output edge, across devices (R404). -/
  second : List (Nat × Nat)
  /-- First tick of parallel running (R398). -/
  aTick : Nat
  /-- The switch is scheduled: the outputs switch at that boundary, and the source is released at the next. -/
  switched : Bool
  /-- The state mover works for it in the next boundary window: the copy of R398, or the snapshot of R406. -/
  mover : Bool
  /-- The snapshot of the small state, once taken (R406). -/
  snapshot : List Byte
  deriving DecidableEq, Repr

/-- The Tiler. -/
structure Tiler where
  /-- An image accepted for checking, with GraphState before it and the mode in which it arrived. -/
  checking : Option (List Byte × Nat × Nat)
  /-- The graph in force, loaded or running. -/
  graph : Option Graph
  /-- An unload waits for its boundary (R357). -/
  unload : Bool
  mig : Option Migration
  /-- Closed to new placement (R414), and the blocks still to move. -/
  closed : Bool
  toDrain : List Nat
  /-- Blocks that leave a program: engine, RANGE register, and the positions that are inert until they are overwritten (R392). -/
  clearing : List (Nat × Nat × List PlacedBlock)
  /-- Blocks of a lost device placed here as new, whose code waits until their range is inert (R392, R410). -/
  landing : List PlacedBlock
  /-- Blocks pinned to a place by a MigrateRequest: block, device, engine (R413). -/
  pins : List (Nat × Nat × Nat)
  /-- Members of the fabric when the load was evaluated last (R386). -/
  members : Nat
  /-- A re-optimisation that shed stage 2 has deferred (R21). -/
  reopt : Bool
  deriving DecidableEq, Repr

/-- The Tiler after reset: no graph (R32). -/
def Tiler.reset : Tiler :=
  { checking := none, graph := none, unload := false, mig := none, closed := false, toDrain := [], clearing := [], landing := [], pins := [], members := 1, reopt := false }

/-! ### Serial audio ports (chapter 12) -/

/-- One direction of a port: its fade or ramp, the samples the fade started from, the samples last delivered (R516, R517). -/
structure SapDir where
  phase : GroupPhase
  x : List Word
  last : List Word
  deriving DecidableEq, Repr

/-- A serial audio port. -/
structure Sap where
  /-- The last good frame received, one word for each port channel. -/
  cap : List Word
  /-- That frame as it stood at the last boundary, and the words published before it: what a bypassed slave latches and sends when its
  frames start too near the tick edge (R508). -/
  capOld : List Word
  old : List Word
  /-- BCLK counts of the frames of the slot detection under way (R505). -/
  counts : List Nat
  /-- Consecutive good frames, and consecutive discarded ones (R525, R526). -/
  good : Nat
  bad : Nat
  /-- MEDIA cycles from a frame start to the next tick edge (R509). -/
  q : Nat
  inb : SapDir
  out : SapDir
  /-- The output frame on the data pins, one slot word for each port channel. -/
  sent : List Word
  /-- The output frame before it: its last bit is on the pins where the data starts one BCLK late (R504). -/
  sentWas : List Word
  /-- Ticks of the shutdown fade done, and whether the frame of zeros has left (R522). -/
  shut : Nat
  zeroSent : Bool
  /-- MCLK in force: enabled, divider, delay (R519). -/
  mclkOn : Bool
  mclkDiv : Nat
  mclkDel : Nat
  /-- The same in the tick before. -/
  mclkWas : Bool × Nat × Nat
  deriving DecidableEq, Repr

/-- A direction that has delivered nothing. -/
def SapDir.reset : SapDir := { phase := .pass, x := [], last := [] }

/-- A port after reset: Off. -/
def Sap.reset : Sap :=
  { cap := [], capOld := [], old := [], counts := [], good := 0, bad := 0, q := 0, inb := SapDir.reset, out := SapDir.reset, sent := [], sentWas := [], shut := 0, zeroSent := false,
    mclkOn := false, mclkDiv := 4, mclkDel := 0, mclkWas := (false, 4, 0) }

/-- Another output frame on the data pins. -/
def Sap.send (x : Sap) (l : List Word) : Sap := { x with sentWas := x.sent, sent := l }

/-- A port after reset, with the MCLK of another. -/
def Sap.anew (x : Sap) : Sap := { Sap.reset with mclkOn := x.mclkOn, mclkDiv := x.mclkDiv, mclkDel := x.mclkDel, mclkWas := x.mclkWas }

/-! ### Kyonus links (chapter 13) -/

/-- A cell kept until it is acknowledged (R560, R563): its header fields, its payload blocks, whether it has been sent, frames
since, retransmissions. -/
structure TxCell where
  dst : Nat
  src : Nat
  session : Nat
  seq : Nat
  seg : Nat
  ty : Nat
  payload : List (BitVec 64)
  sent : Bool
  age : Nat
  tries : Nat
  deriving DecidableEq, Repr

/-- A message under reassembly or delivered (R561). -/
structure Msg where
  dst : Nat
  src : Nat
  session : Nat
  ty : Nat
  payload : List (BitVec 64)
  deriving DecidableEq, Repr

/-- One area of one direction pair: next sequence number to send, unacknowledged cells, last cell accepted, message under reassembly. -/
structure Chan where
  next : Nat
  queue : List TxCell
  last : Nat
  asm : Option Msg
  deriving DecidableEq, Repr

/-- A frame on the transmit lanes: its tick, header blocks, runs by first block with a lost block as none, cells (R551). -/
structure Frame where
  tick : Nat
  head : List (BitVec 64)
  runs : List (Nat × List (Option (BitVec 64)))
  ctl : List (List (BitVec 64))
  bulk : List (List (BitVec 64))
  deriving DecidableEq, Repr

/-- A received frame: its tick, its audio blocks by number, the blocks taken as ERROR and those not there by the latch. -/
structure RxFrame where
  tick : Nat
  blocks : List (Nat × BitVec 64)
  bad : List Nat
  late : List Nat
  deriving DecidableEq, Repr

/-- A fabric port. -/
structure Link where
  /-- LaneCount is two, and TxEqualisation, as they stood at the last entry into Training (R574). -/
  two : Bool
  txEq : Nat
  /-- Block lock of lane 0 and lane 1 (R538). -/
  lock0 : Bool
  lock1 : Bool
  /-- Consecutive good frames in Framing (R541). -/
  good : Nat
  /-- LinkState before the write that began a shutdown (R540). -/
  was : Nat
  ctl : Chan
  bulk : Chan
  tx : Option Frame
  /-- The blocks each lane sent last, from its TICK_MARK on in lane position order; the last 58 line bits of each lane, which are its
  scrambler (R535, R548, R550). -/
  line0 : List LineBlock
  line1 : List LineBlock
  scr0 : BitVec 58
  scr1 : BitVec 58
  /-- Frames received and not yet latched. -/
  rx : List RxFrame
  /-- Arrival values of the last 64 ticks, own and the neighbour's (R594). -/
  arrivals : List (Int × Int)
  /-- The neighbour's last header: its tick, DEPTH, ORIGIN_OFFSET. -/
  nbTick : Nat
  nbDepth : Nat
  nbOffset : Int
  /-- RATE of the neighbour's last header (R553). -/
  nbRate : Nat
  /-- The neighbour as its HELLO names it. -/
  nbUid : Nat
  nbPort : Nat
  nbHello : Bool
  nbAddr : Nat
  /-- Run tables, active and pending (R601). -/
  txRuns : List (Nat × Nat)
  rxRuns : List (Nat × Nat)
  txPend : List (Nat × Nat)
  rxPend : List (Nat × Nat)
  /-- A step of TickCount cut the error window in progress, so that it is no whole window (R542, R719). -/
  cut : Bool
  deriving DecidableEq, Repr

/-- An area with nothing sent and nothing accepted. -/
def Chan.reset : Chan := { next := 0, queue := [], last := 4095, asm := none }

/-- A port after reset: Down. -/
def Link.reset : Link :=
  { two := true, txEq := 4, lock0 := false, lock1 := false, good := 0, was := 0, ctl := Chan.reset, bulk := Chan.reset, tx := none, line0 := [], line1 := [],
    scr0 := 0, scr1 := 0, rx := [],
    arrivals := [], nbTick := 0, nbDepth := 0xFF, nbOffset := 0, nbRate := 15, nbUid := 0, nbPort := 0, nbHello := false, nbAddr := 0xFFFF,
    txRuns := [], rxRuns := [], txPend := [], rxPend := [], cut := false }

/-- A port that has left its frames: its settings, its run tables and the scramblers of its lanes remain, which run without reset (R535,
R574, R601). -/
def Link.emptied (l : Link) : Link :=
  { Link.reset with two := l.two, txEq := l.txEq, txRuns := l.txRuns, rxRuns := l.rxRuns, txPend := l.txPend, rxPend := l.rxPend, line0 := l.line0, line1 := l.line1,
                    scr0 := l.scr0, scr1 := l.scr1, cut := l.cut }

/-! ### The fabric (chapter 14) -/

/-- A key: priority and Uid (R578). -/
structure Key where
  prio : Nat
  uid : Nat
  deriving DecidableEq, Repr

/-- One port as TOPOLOGY reports it: LinkState, neighbour's Uid and port, OneWayDelay, LinkTickOffset (R576). -/
structure TopoPort where
  state : Nat
  nbUid : Nat
  nbPort : Nat
  delay : Nat
  lead : Nat
  deriving DecidableEq, Repr

/-- A device as TOPOLOGY reports it. -/
structure TopoDev where
  key : Key
  addr : Nat
  ports : List TopoPort
  deriving DecidableEq, Repr

/-- A repair plan entry: the link it is for, the table entry it installs (R606). -/
structure PlanEntry where
  endA : Nat × Nat
  endB : Nat × Nat
  port : Nat
  transmit : Bool
  index : Nat
  word : Nat
  deriving DecidableEq, Repr

/-- What a reservation carries: consecutive groups of one format from a device to its receivers, for an edge of the graph (R600). -/
structure RunSpec where
  src : Nat
  dsts : List Nat
  first : Nat
  groups : Nat
  fmt : Nat
  edge : Nat
  deriving DecidableEq, Repr

/-- A crossfade of a receive group after a warm start (R407): latches until it begins, first group from the source, second from
the destination. -/
structure Xfade where
  wait : Nat
  first : Nat
  second : Nat
  j : Nat
  total : Nat
  deriving DecidableEq, Repr

/-- A dictionary request sent to another device for the host, or one taken from another device (R456 to R459). -/
structure Proxied where
  tag : Nat
  target : Nat
  op : Nat
  addr : Nat
  deriving DecidableEq, Repr

/-- The fabric state of the device. -/
structure Net where
  /-- Best key known, key of the Origin followed, highest epoch known, settle count (R580, R581). -/
  best : Option Key
  origin : Option Key
  maxEpoch : Nat
  settle : Nat
  /-- Port toward the Origin (R581). -/
  path : Option Nat
  /-- Flooded messages seen: origin address, sequence, tick (R577), and the own next sequence. -/
  seen : List (Nat × Nat × Nat)
  floodSeq : Nat
  /-- TOPOLOGY collected by the Origin, and the addresses it has assigned by Uid. -/
  topo : List TopoDev
  assigned : List (Nat × Nat)
  /-- Addresses of lost devices by Uid, with the epoch in which they stay assigned (R587). -/
  lostAddrs : List (Nat × Nat × Nat)
  /-- Route table, active and pending, with the pending table's entries so far; 0xFF is no port (R588, R590). -/
  routes : List (Nat × Nat)
  routesPend : Option (List (Nat × Nat))
  /-- Entries of the pending table received, of the 4,096. -/
  routesGot : Nat
  /-- The activation tick of the pending table has passed (R590). -/
  routesDue : Bool
  /-- The reservation to be activated: generation, tick (R602); the last generation received. -/
  activate : Option (Nat × Nat)
  reserveGen : Nat
  /-- Repair plans in force, and those received with the pending reservation (R606, R608). -/
  plans : List PlanEntry
  plansPend : List PlanEntry
  /-- Runs with no plan in the reservation received (R606). -/
  unplanned : Nat
  /-- A repair has used the plans: the Origin owes a new reservation with new ones (R608). -/
  replan : Bool
  /-- What the Origin reserved last, with the tick rate it was laid for; how many entries of each table, by device, port and direction, it has
  written so far (R600). -/
  reserved : Nat × List RunSpec
  filled : List ((Nat × Nat × Bool) × Nat)
  /-- Links lost whose plans wait for their boundary: the two ends and the tick of detection (R607). -/
  lost : List ((Nat × Nat) × (Nat × Nat) × Nat)
  /-- A TickCount step waits for the next boundary: the link whose neighbour's count is taken (R584). -/
  stepFrom : Option Nat
  /-- Consecutive ticks aligned, far off, and without a parent (R596, R610). -/
  near : Nat
  far : Nat
  orphan : Nat
  /-- The own DEPTH on the time tree while it had a parent, 0xFF if none yet; the Origin's ports that LINK_DOWN has reported (R610). -/
  depth : Nat
  originDown : List Nat
  /-- Consecutive ticks with no parent and no election in progress (R610). -/
  adrift : Nat
  xfades : List Xfade
  /-- Encoded bits of each receive group latched at the last boundary (R571). -/
  latched : List (Nat × Nat)
  inbox : List Msg
  /-- Requests of the proxied host that wait for a response, and the next tag (R458). -/
  proxied : List Proxied
  nextTag : Nat
  /-- Blocks assigned by the Origin's Tiler, and reports received (R387). -/
  orders : List (Nat × Nat × List Nat)
  reports : List (Nat × Nat × List Nat)
  deriving DecidableEq, Repr

def Net.reset : Net :=
  { best := none, origin := none, maxEpoch := 0, settle := 0, path := none, seen := [], floodSeq := 0, topo := [], assigned := [],
    lostAddrs := [], routes := [], routesPend := none, routesGot := 0, routesDue := false, activate := none, reserveGen := 0, plans := [], plansPend := [], unplanned := 0, replan := false, reserved := (0, []), filled := [], lost := [], stepFrom := none,
    near := 0, far := 0, orphan := 0, depth := 0xFF, originDown := [], adrift := 0, xfades := [], latched := [], inbox := [], proxied := [], nextTag := 0, orders := [], reports := [] }

/-! ### DMA (chapter 16) -/

/-- A descriptor as read: CTRL, SRC, DST, LENGTH, NEXT (R670). -/
structure DmaDesc where
  ctrl : BitVec 32
  src : BitVec 64
  dst : BitVec 64
  length : Nat
  next : Nat
  deriving DecidableEq, Repr

/-- One channel. Its state, current descriptor address, last result and counts are dictionary objects. -/
structure DmaChan where
  /-- The descriptor being served, once read. -/
  desc : Option DmaDesc
  /-- Its bytes moved so far. -/
  done : Nat
  /-- A doorbell is pending (R678). -/
  bell : Bool
  /-- Bus-error retries of the burst or descriptor read under way, and of the descriptor. -/
  attempts : Nat
  retries : Nat
  collision : Bool
  /-- Credit granted to the sender and not used, and bytes received and not yet moved (R684). -/
  granted : Nat
  rx : List Byte
  deriving DecidableEq, Repr

def DmaChan.reset : DmaChan :=
  { desc := none, done := 0, bell := false, attempts := 0, retries := 0, collision := false, granted := 0, rx := [] }

/-- The DMA engine: its channels, the channel last granted at each priority (R667), the credit held by device and channel (R684). -/
structure Dma where
  chan : Vector DmaChan 32
  lastGrant : List (Nat × Nat)
  credits : List ((Nat × Nat) × Nat)
  deriving DecidableEq, Repr

def Dma.reset : Dma := { chan := Vector.replicate 32 DmaChan.reset, lastGrant := [], credits := [] }

/-! ### Board serial ports (chapter 15) -/

/-- A released write frame in a write buffer (R640). -/
inductive WBuf where
  | dwr (addr : Nat) (words : List (BitVec 32))
  | commit
  | dbw (addr : Nat) (words : List (BitVec 32))
  | mwr (addr : Nat) (words : List (BitVec 32))
  | load (off : Nat) (words : List (BitVec 32))
  | portReset
  deriving DecidableEq, Repr

/-- A read frame that waits for its response (R633): the address phase and N, whether the frame is a DBR, whether the request is still
to be made (R823), and the result and words once they are there. -/
structure HostRead where
  addr : Nat
  n : Nat
  dbr : Bool
  todo : Bool
  res : Option (Nat × List (BitVec 32))
  deriving DecidableEq, Repr

/-- The host serial port. -/
structure Hsp where
  flags : Nat
  fast : Bool
  buffers : List WBuf
  /-- Result word of the host request completed last, and generation of the last COMMIT or 0 (R627). -/
  last : Nat
  gen : Nat
  read : Option HostRead
  /-- The words the last read frame delivered after the sync byte. -/
  out : List (BitVec 32)
  /-- HRDY (R635). -/
  hrdy : Bool
  deriving DecidableEq, Repr

def Hsp.reset : Hsp := { flags := 0, fast := false, buffers := [], last := 0, gen := 0, read := none, out := [], hrdy := true }

/-- A transfer record of the peripheral master (R649). -/
structure PerRec where
  dev : Nat
  cpol : Bool
  cpha : Bool
  width : Nat
  div : Nat
  keep : Bool
  post : Nat
  tx : List (BitVec 32)
  deriving DecidableEq, Repr

/-- A raw flash command (R663). -/
inductive FlashOp where
  | program (data : List Byte)
  | erase (bytes : Nat)
  | register
  deriving DecidableEq, Repr

/-- The flash port and the XIP cache, most recently used line first: block number and verified copy (R657 to R663). -/
structure Xip where
  enable : Bool
  lock : Bool
  hashBase : Nat
  hashCount : Nat
  lines : List (Nat × List Byte)
  /-- The raw command that runs, and a fill that waits for it: window offset. -/
  raw : Option (Nat × FlashOp)
  fillWait : Option Nat
  /-- 4 KiB blocks of the flash whose reads fail (R656). -/
  bad : List Nat
  deriving DecidableEq, Repr

def Xip.reset : Xip := { enable := false, lock := false, hashBase := 0, hashCount := 0, lines := [], raw := none, fillWait := none, bad := [] }

/-! ### The test access port (chapter 21) -/

/-- Instructions of the TAP: those of R845, and every other by its code. -/
inductive TapInstr where
  | bypass | idcode | samplePreload | extest | extestPulse | extestTrain
  | other (code : Nat)
  deriving DecidableEq, Repr

/-- The TAP: the level of TRST_N, and the instruction it holds. -/
structure TestPort where
  trstN : Bool
  instr : TapInstr
  deriving DecidableEq, Repr

/-- TRST_N low by its pull-down: the TAP is held in reset, with IDCODE (log entry 115). -/
def TestPort.reset : TestPort := { trstN := false, instr := .idcode }

/-! ### Clocks, reset pins and power (chapters 20 and 21) -/

/-- An engine clock sequence (R797): the frequency in kHz and the spread it sets, and whether ENG has stopped. -/
structure EngSeq where
  khz : Nat
  spread : Nat
  stopped : Bool
  deriving DecidableEq, Repr

/-- Reset pins, clocks and the power ladder. -/
structure Clk where
  /-- Pins as taken: RESET_N, PWRGD and MUTE_N, and BOOTSEL as sampled (R29, R836, R840). -/
  resetN : Bool
  pwrgd : Bool
  muteLow : Bool
  bootsel : Nat
  /-- The engine PLL delivers its locked output (R791). -/
  engLock : Bool
  engSeq : Option EngSeq
  /-- MEDIA is gated for a retune (R803). -/
  mediaGated : Bool
  /-- The tick source followed: TickSource or its fallback (R55). -/
  source : Nat
  /-- A TickSource written and not yet in force. -/
  pendSource : Option Nat
  /-- The source was lost while a rate change ran, with a valid fallback or not (R86); TickSourceStatus before the change. -/
  lostWait : Option Bool
  prevStatus : Nat
  /-- The power state an entry sequence goes to (R814). -/
  powTarget : Nat
  /-- A wake source that came while an entry step was in progress (R824). -/
  wakePend : Option Nat
  /-- Power banks that an entry sequence has changed, with their states before (R814, R821). -/
  savedBanks : List (Nat × Nat)
  /-- The device has left Sleep and the firmware has not started again (R822). -/
  fromSleep : Bool
  /-- DeviceStatus.THERMAL_WARNING (R848). -/
  warn : Bool
  /-- The Hull core runs the ROM monitor (R744). -/
  monitor : Bool
  /-- Consecutive ticks with HullLoad at or above 90 %, and below 70 % (R22). -/
  highTicks : Nat
  lowTicks : Nat
  /-- HULL cycles spent outside the idle loop, and HULL cycles, of each of the last 4,096 ticks, newest first (R20). -/
  loads : List (Nat × Nat)
  /-- Converter directions that lock again before boundaries start at a new rate: port, inbound (R83). -/
  relock : List (Fin 4 × Bool)
  /-- FAULT_N is driven low (R43). -/
  faultN : Bool
  deriving DecidableEq, Repr

/-- What the always-on island holds through a reset (R24, R804, R815, R849). -/
structure Aon where
  shutdownTemp : Option Nat
  activate : Bool
  /-- The stored media word, in 0.001 ppm from nominal. -/
  mediaWord : Option Int
  /-- The Keep cache: SEQ and payload of the configuration record, and of the dictionary snapshot. -/
  config : Option (Nat × List Byte)
  snapshot : Option (Nat × List Byte)
  deriving DecidableEq, Repr

/-- What the board fits: LPDDR5X in MiB. -/
structure Board where
  lpddrMib : Nat
  deriving DecidableEq, Repr

/-- Power-on: RESET_N and PWRGD low. -/
def Clk.reset : Clk :=
  { resetN := false, pwrgd := false, muteLow := false, bootsel := 0, engLock := false, engSeq := none, mediaGated := false, source := 0, pendSource := none,
    lostWait := none, prevStatus := 0, powTarget := 0, wakePend := none, savedBanks := [], fromSleep := false, warn := false, monitor := false, highTicks := 0, lowTicks := 0,
    loads := [], relock := [], faultN := false }

def Aon.reset : Aon := { shutdownTemp := none, activate := false, mediaWord := none, config := none, snapshot := none }

/-! ### Patchbay (chapter 19) -/

/-- A value that glides from one word to another (R348): ticks done, glide time. -/
structure Ramp where
  v0 : Word
  v1 : Word
  k : Nat
  total : Nat
  deriving DecidableEq, Repr

/-- A crosspoint: the source in force, a source that waits for the gain to reach zero, the gain (R779). -/
structure Cross where
  source : Nat
  next : Option Nat
  gain : Ramp
  deriving DecidableEq, Repr

/-- What a tap crossfades from: a place in the line, or the crossfade that a later write cut short after `j` of its ticks (R350, R779). -/
inductive TapFrom where
  | place (d : Nat)
  | mix (old : TapFrom) (new j : Nat)
  deriving DecidableEq, Repr

/-- The delay tap of an output: what it delivered, its new delay, ticks of the crossfade done (R779). -/
structure Tap where
  old : TapFrom
  new : Nat
  j : Nat
  deriving DecidableEq, Repr

/-- The fade and ramp of an output whose line is replaced: phase, sample the fade started from, new reserve, ticks until the ramp. -/
structure LineSwap where
  phase : GroupPhase
  x : Word
  wait : Nat
  deriving DecidableEq, Repr

/-- The state of a biquad band: x1, x2, y1, y2. -/
structure Biquad where
  x1 : Word
  x2 : Word
  y1 : Word
  y2 : Word
  deriving DecidableEq, Repr

/-- The two Patchbay programs: crosspoints, taps, delay lines newest sample first, reserves, line changes, coefficients, biquads, the
matrix outputs on their way from VE0 to VE1, the meters' sums and the ticks of their window. What is not listed is at its default. -/
structure Patchbay where
  cross : List (Nat × Cross)
  taps : List (Nat × Tap)
  lines : List (Nat × List Word)
  swaps : List (Nat × LineSwap)
  coef : List (Nat × Ramp)
  bands : List (Nat × Biquad)
  bus : List (Nat × Word)
  peak : List (Nat × Nat)
  power : List (Nat × Nat)
  window : Nat
  last : List (Nat × Word)
  deriving DecidableEq, Repr

def Patchbay.reset : Patchbay :=
  { cross := [], taps := [], lines := [], swaps := [], coef := [], bands := [], bus := [], peak := [], power := [], window := 0, last := [] }

end Sys2Proof.Machine
end

