-- ==== Sys2Proof/Machine/Objects.lean ====
section
/-! DEFINITION. The fixed objects of the dictionary: their addresses, types, access codes, defaults and ranges, row by row as the object tables of the spec give them. -/
namespace Sys2Proof.Machine

/-- Object types (R420); the width in bits stands beside it in the row. -/
inductive ObjTy where
  | bool | uint | int | gain | ticks | string | domain
  deriving DecidableEq, Repr

/-- Access codes (R425). -/
inductive Access where
  | const | ro | rw | wo
  deriving DecidableEq, Repr

/-- Effective times (R431). -/
inductive Effective where
  | immediate | boundary | restart | never
  deriving DecidableEq, Repr

/-- One row of an object table: it covers the indices `idxLo`, `idxLo + stride`, … up to `idxHi` and the subindices
`subLo` to `subHi`. `ranges` are the permitted values of a writable object, `step` the multiple they must be of, `forbid` the bits that must be zero. -/
structure ObjRow where
  idxLo : Nat
  idxHi : Nat
  stride : Nat
  subLo : Nat
  subHi : Nat
  ty : ObjTy
  width : Nat
  words : Nat
  acc : Access
  dflt : Nat
  ranges : List (Nat × Nat)
  step : Nat
  forbid : Nat
  eff : Effective
  deriving DecidableEq, Repr

/-- Rows of the object tables, part 0. -/
def objRows0 : List ObjRow := [
  ⟨0x0, 0x0, 1, 0x1, 0x1, .uint, 32, 1, .const, 0xA7E, [], 1, 0x0, .never⟩,
  ⟨0x0, 0x0, 1, 0x2, 0x2, .uint, 16, 1, .const, 0x5438, [], 1, 0x0, .never⟩,
  ⟨0x0, 0x0, 1, 0x3, 0x3, .uint, 8, 1, .ro, 0x0, [], 1, 0x0, .immediate⟩,
  ⟨0x0, 0x0, 1, 0x4, 0x4, .uint, 8, 1, .ro, 0x0, [], 1, 0x0, .immediate⟩,
  ⟨0x0, 0x0, 1, 0x5, 0x5, .bool, 1, 1, .ro, 0x0, [], 1, 0x0, .immediate⟩,
  ⟨0x0, 0x0, 1, 0x6, 0x6, .uint, 64, 2, .ro, 0x0, [], 1, 0x0, .immediate⟩,
  ⟨0x0, 0x0, 1, 0x7, 0x7, .uint, 32, 1, .const, 0x0, [], 1, 0x0, .never⟩,
  ⟨0x0, 0x0, 1, 0x8, 0x8, .uint, 32, 1, .ro, 0x0, [], 1, 0x0, .immediate⟩,
  ⟨0x0, 0x0, 1, 0x9, 0x9, .string, 512, 16, .rw, 0x3854, [(0x0, 0xFFFFFFFFFFFFFFFFFFFFFFFFFFFFFFFFFFFFFFFFFFFFFFFFFFFFFFFFFFFFFFFFFFFFFFFFFFFFFFFFFFFFFFFFFFFFFFFFFFFFFFFFFFFFFFFFFFFFFFFFFFFFFFFF)], 1, 0x0, .immediate⟩,
  ⟨0x0, 0x0, 1, 0xA, 0xA, .uint, 16, 1, .ro, 0xFFFF, [], 1, 0x0, .immediate⟩,
  ⟨0x10, 0x10, 1, 0x1, 0x1, .uint, 16, 1, .const, 0x1, [], 1, 0x0, .never⟩,
  ⟨0x10, 0x10, 1, 0x2, 0x2, .uint, 32, 1, .ro, 0x0, [], 1, 0x0, .immediate⟩,
  ⟨0x10, 0x10, 1, 0x3, 0x3, .uint, 8, 1, .ro, 0x0, [], 1, 0x0, .immediate⟩,
  ⟨0x10, 0x10, 1, 0x4, 0x4, .uint, 32, 1, .ro, 0x0, [], 1, 0x0, .immediate⟩,
  ⟨0x10, 0x10, 1, 0x5, 0x5, .uint, 64, 2, .ro, 0x0, [], 1, 0x0, .immediate⟩,
  ⟨0x10, 0x10, 1, 0x6, 0x6, .uint, 32, 1, .ro, 0x0, [], 1, 0x0, .immediate⟩]

/-- Rows of the object tables, part 1. -/
def objRows1 : List ObjRow := [
  ⟨0x10, 0x10, 1, 0x7, 0x7, .uint, 8, 1, .ro, 0x0, [], 1, 0x0, .immediate⟩,
  ⟨0x10, 0x10, 1, 0x8, 0x8, .uint, 16, 1, .rw, 0x5, [(0x1, 0x64)], 1, 0x0, .immediate⟩,
  ⟨0x10, 0x10, 1, 0x9, 0x9, .uint, 32, 1, .ro, 0x100000, [], 1, 0x0, .immediate⟩,
  ⟨0x10, 0x10, 1, 0xA, 0xA, .uint, 16, 1, .rw, 0x3E8, [(0x64, 0xEA60)], 1, 0x0, .immediate⟩,
  ⟨0x10, 0x10, 1, 0xB, 0xB, .uint, 32, 1, .ro, 0x0, [], 1, 0x0, .immediate⟩,
  ⟨0x100, 0x100, 1, 0x1, 0x1, .uint, 32, 1, .ro, 0x8, [], 1, 0x0, .immediate⟩,
  ⟨0x100, 0x100, 1, 0x2, 0x2, .uint, 8, 1, .ro, 0x0, [], 1, 0x0, .immediate⟩,
  ⟨0x100, 0x100, 1, 0x3, 0x3, .uint, 32, 1, .ro, 0x0, [], 1, 0x0, .immediate⟩,
  ⟨0x110, 0x110, 1, 0x1, 0x8, .uint, 8, 1, .ro, 0x0, [], 1, 0x0, .immediate⟩,
  ⟨0x110, 0x110, 1, 0x9, 0x9, .uint, 8, 1, .ro, 0x0, [], 1, 0x0, .immediate⟩,
  ⟨0x120, 0x120, 1, 0x1, 0x1, .uint, 8, 1, .ro, 0x0, [], 1, 0x0, .immediate⟩,
  ⟨0x120, 0x120, 1, 0x2, 0x2, .uint, 8, 1, .ro, 0x0, [], 1, 0x0, .immediate⟩,
  ⟨0x120, 0x120, 1, 0x3, 0x3, .uint, 32, 1, .ro, 0x0, [], 1, 0x0, .immediate⟩,
  ⟨0x120, 0x120, 1, 0x4, 0x4, .uint, 32, 1, .rw, 0x64, [(0xA, 0x2710)], 1, 0x0, .immediate⟩,
  ⟨0x120, 0x120, 1, 0x5, 0x5, .bool, 1, 1, .ro, 0x0, [], 1, 0x0, .immediate⟩,
  ⟨0x200, 0x200, 1, 0x1, 0x1, .uint, 16, 1, .ro, 0x0, [], 1, 0x0, .immediate⟩]

/-- Rows of the object tables, part 2. -/
def objRows2 : List ObjRow := [
  ⟨0x200, 0x200, 1, 0x2, 0x2, .uint, 32, 1, .ro, 0x0, [], 1, 0x0, .immediate⟩,
  ⟨0x210, 0x210, 1, 0x1, 0x1, .uint, 16, 1, .rw, 0x7FFF, [(0x0, 0x7FFF)], 1, 0x0, .immediate⟩,
  ⟨0x210, 0x210, 1, 0x2, 0x2, .uint, 16, 1, .rw, 0x1023, [(0x0, 0x7FFF)], 1, 0x0, .immediate⟩,
  ⟨0x221, 0x221, 1, 0x1, 0x10, .ticks, 48, 2, .ro, 0x0, [], 1, 0x0, .immediate⟩,
  ⟨0x222, 0x222, 1, 0x1, 0x10, .uint, 16, 1, .ro, 0x0, [], 1, 0x0, .immediate⟩,
  ⟨0x223, 0x223, 1, 0x1, 0x10, .uint, 64, 2, .ro, 0x0, [], 1, 0x0, .immediate⟩,
  ⟨0x1000, 0x1300, 256, 0x1, 0x1, .bool, 1, 1, .rw, 0x0, [(0x0, 0x1)], 1, 0x0, .immediate⟩,
  ⟨0x1000, 0x1300, 256, 0x2, 0x2, .uint, 8, 1, .ro, 0x0, [], 1, 0x0, .immediate⟩,
  ⟨0x1000, 0x1300, 256, 0x3, 0x3, .uint, 32, 1, .rw, 0x7882000, [(0x0, 0xFFFFFFFF)], 1, 0xF8000FFF, .restart⟩,
  ⟨0x1000, 0x1300, 256, 0x4, 0x4, .uint, 32, 1, .rw, 0xBB80, [(0x1F40, 0x5DC00)], 1, 0x0, .restart⟩,
  ⟨0x1000, 0x1300, 256, 0x5, 0x5, .uint, 8, 1, .rw, 0x0, [(0x0, 0x1)], 1, 0x0, .restart⟩,
  ⟨0x1000, 0x1300, 256, 0x6, 0x6, .uint, 32, 1, .ro, 0x0, [], 1, 0x0, .immediate⟩,
  ⟨0x1000, 0x1300, 256, 0x7, 0x7, .uint, 8, 1, .ro, 0x0, [], 1, 0x0, .immediate⟩,
  ⟨0x1000, 0x1300, 256, 0x8, 0x8, .uint, 16, 1, .ro, 0x0, [], 1, 0x0, .immediate⟩,
  ⟨0x1000, 0x1300, 256, 0x9, 0x9, .uint, 16, 1, .ro, 0x0, [], 1, 0x0, .immediate⟩,
  ⟨0x1000, 0x1300, 256, 0xA, 0xA, .uint, 32, 1, .ro, 0x0, [], 1, 0x0, .immediate⟩]

/-- Rows of the object tables, part 3. -/
def objRows3 : List ObjRow := [
  ⟨0x1000, 0x1300, 256, 0xB, 0xB, .uint, 32, 1, .ro, 0x0, [], 1, 0x0, .immediate⟩,
  ⟨0x1000, 0x1300, 256, 0xC, 0xC, .uint, 32, 1, .ro, 0x0, [], 1, 0x0, .immediate⟩,
  ⟨0x1001, 0x1301, 256, 0x1, 0x1, .uint, 8, 1, .ro, 0x0, [], 1, 0x0, .immediate⟩,
  ⟨0x1001, 0x1301, 256, 0x2, 0x2, .uint, 32, 1, .ro, 0x0, [], 1, 0x0, .immediate⟩,
  ⟨0x1001, 0x1301, 256, 0x3, 0x3, .uint, 32, 1, .ro, 0x0, [], 1, 0x0, .immediate⟩,
  ⟨0x1001, 0x1301, 256, 0x4, 0x4, .uint, 32, 1, .ro, 0x0, [], 1, 0x0, .immediate⟩,
  ⟨0x1002, 0x1302, 256, 0x1, 0x1, .uint, 8, 1, .ro, 0x0, [], 1, 0x0, .immediate⟩,
  ⟨0x1002, 0x1302, 256, 0x2, 0x2, .uint, 32, 1, .ro, 0x0, [], 1, 0x0, .immediate⟩,
  ⟨0x1002, 0x1302, 256, 0x3, 0x3, .uint, 32, 1, .ro, 0x0, [], 1, 0x0, .immediate⟩,
  ⟨0x1002, 0x1302, 256, 0x4, 0x4, .uint, 32, 1, .ro, 0x0, [], 1, 0x0, .immediate⟩,
  ⟨0x1010, 0x1310, 256, 0x1, 0x1, .bool, 1, 1, .rw, 0x0, [(0x0, 0x1)], 1, 0x0, .immediate⟩,
  ⟨0x1010, 0x1310, 256, 0x2, 0x2, .uint, 16, 1, .rw, 0x4, [(0x1, 0x100)], 1, 0x0, .immediate⟩,
  ⟨0x1010, 0x1310, 256, 0x3, 0x3, .uint, 8, 1, .rw, 0x0, [(0x0, 0xFF)], 1, 0x0, .immediate⟩,
  ⟨0x1400, 0x1700, 256, 0x1, 0x1, .bool, 1, 1, .rw, 0x1, [(0x0, 0x1)], 1, 0x0, .immediate⟩,
  ⟨0x1400, 0x1700, 256, 0x2, 0x2, .uint, 8, 1, .ro, 0x1, [], 1, 0x0, .immediate⟩,
  ⟨0x1400, 0x1700, 256, 0x3, 0x3, .uint, 8, 1, .rw, 0x2, [(0x1, 0x2)], 1, 0x0, .restart⟩]

/-- Rows of the object tables, part 4. -/
def objRows4 : List ObjRow := [
  ⟨0x1400, 0x1700, 256, 0x4, 0x4, .uint, 8, 1, .ro, 0x0, [], 1, 0x0, .immediate⟩,
  ⟨0x1400, 0x1700, 256, 0x5, 0x5, .uint, 8, 1, .ro, 0x0, [], 1, 0x0, .immediate⟩,
  ⟨0x1400, 0x1700, 256, 0x6, 0x6, .uint, 32, 1, .ro, 0x0, [], 1, 0x0, .immediate⟩,
  ⟨0x1400, 0x1700, 256, 0x7, 0x7, .uint, 16, 1, .rw, 0x10, [(0x1, 0xFFFF)], 1, 0x0, .immediate⟩,
  ⟨0x1400, 0x1700, 256, 0x8, 0x8, .uint, 8, 1, .rw, 0x4, [(0x0, 0xF)], 1, 0x0, .restart⟩,
  ⟨0x1400, 0x1700, 256, 0x9, 0x9, .uint, 16, 1, .ro, 0x0, [], 1, 0x0, .immediate⟩,
  ⟨0x1400, 0x1700, 256, 0xA, 0xA, .uint, 16, 1, .ro, 0x0, [], 1, 0x0, .immediate⟩,
  ⟨0x1400, 0x1700, 256, 0xB, 0xB, .uint, 16, 1, .ro, 0x0, [], 1, 0x0, .immediate⟩,
  ⟨0x1401, 0x1701, 256, 0x1, 0x1, .uint, 32, 1, .ro, 0x0, [], 1, 0x0, .immediate⟩,
  ⟨0x1401, 0x1701, 256, 0x2, 0x2, .uint, 32, 1, .ro, 0x0, [], 1, 0x0, .immediate⟩,
  ⟨0x1401, 0x1701, 256, 0x3, 0x3, .uint, 32, 1, .ro, 0x0, [], 1, 0x0, .immediate⟩,
  ⟨0x1401, 0x1701, 256, 0x4, 0x4, .uint, 32, 1, .ro, 0x0, [], 1, 0x0, .immediate⟩,
  ⟨0x1401, 0x1701, 256, 0x5, 0x5, .uint, 32, 1, .ro, 0x0, [], 1, 0x0, .immediate⟩,
  ⟨0x1401, 0x1701, 256, 0x6, 0x6, .uint, 32, 1, .ro, 0x0, [], 1, 0x0, .immediate⟩,
  ⟨0x1401, 0x1701, 256, 0x7, 0x7, .uint, 32, 1, .ro, 0x0, [], 1, 0x0, .immediate⟩,
  ⟨0x1401, 0x1701, 256, 0x8, 0x8, .uint, 32, 1, .ro, 0x0, [], 1, 0x0, .immediate⟩]

/-- Rows of the object tables, part 5. -/
def objRows5 : List ObjRow := [
  ⟨0x1401, 0x1701, 256, 0x9, 0x9, .uint, 32, 1, .ro, 0x0, [], 1, 0x0, .immediate⟩,
  ⟨0x1401, 0x1701, 256, 0xA, 0xA, .uint, 32, 1, .ro, 0x0, [], 1, 0x0, .immediate⟩,
  ⟨0x1401, 0x1701, 256, 0xB, 0xB, .uint, 16, 1, .ro, 0x0, [], 1, 0x0, .immediate⟩,
  ⟨0x1800, 0x1800, 1, 0x1, 0x1, .uint, 8, 1, .rw, 0x0, [(0x0, 0x4)], 1, 0x0, .immediate⟩,
  ⟨0x1800, 0x1800, 1, 0x2, 0x2, .uint, 8, 1, .rw, 0x0, [(0x0, 0x20)], 1, 0x0, .immediate⟩,
  ⟨0x1800, 0x1800, 1, 0x3, 0x3, .uint, 8, 1, .rw, 0x0, [(0x0, 0x13)], 1, 0x0, .immediate⟩,
  ⟨0x1800, 0x1800, 1, 0x4, 0x4, .uint, 32, 1, .ro, 0x0, [], 1, 0x0, .immediate⟩,
  ⟨0x1800, 0x1800, 1, 0x5, 0x5, .uint, 32, 1, .ro, 0x0, [], 1, 0x0, .immediate⟩,
  ⟨0x1800, 0x1800, 1, 0x6, 0x6, .uint, 32, 1, .ro, 0x0, [], 1, 0x0, .immediate⟩,
  ⟨0x1800, 0x1800, 1, 0x7, 0x7, .uint, 32, 1, .ro, 0x0, [], 1, 0x0, .immediate⟩,
  ⟨0x1800, 0x1800, 1, 0x8, 0x8, .uint, 32, 1, .ro, 0x0, [], 1, 0x0, .immediate⟩,
  ⟨0x1900, 0x1900, 1, 0x1, 0x1, .domain, 0, 0, .wo, 0x0, [], 1, 0x0, .immediate⟩,
  ⟨0x1900, 0x1900, 1, 0x2, 0x2, .domain, 0, 0, .ro, 0x0, [], 1, 0x0, .immediate⟩,
  ⟨0x1900, 0x1900, 1, 0x3, 0x3, .uint, 8, 1, .ro, 0x0, [], 1, 0x0, .immediate⟩,
  ⟨0x1900, 0x1900, 1, 0x4, 0x4, .uint, 32, 1, .ro, 0x0, [], 1, 0x0, .immediate⟩,
  ⟨0x1A00, 0x1A00, 1, 0x1, 0x1, .uint, 8, 1, .ro, 0x0, [], 1, 0x0, .immediate⟩]

/-- Rows of the object tables, part 6. -/
def objRows6 : List ObjRow := [
  ⟨0x1A00, 0x1A00, 1, 0x2, 0x2, .uint, 32, 1, .rw, 0x0, [(0x0, 0xFFFFFFFF)], 67108864, 0x0, .immediate⟩,
  ⟨0x1A00, 0x1A00, 1, 0x3, 0x3, .uint, 32, 1, .ro, 0x0, [], 1, 0x0, .immediate⟩,
  ⟨0x1A00, 0x1A00, 1, 0x4, 0x4, .uint, 32, 1, .ro, 0x0, [], 1, 0x0, .immediate⟩,
  ⟨0x1A00, 0x1A00, 1, 0x5, 0x5, .uint, 32, 1, .ro, 0x0, [], 1, 0x0, .immediate⟩,
  ⟨0x1A00, 0x1A00, 1, 0x6, 0x6, .uint, 32, 1, .ro, 0x0, [], 1, 0x0, .immediate⟩,
  ⟨0x1C00, 0x1C00, 1, 0x1, 0x1, .uint, 8, 1, .ro, 0x0, [], 1, 0x0, .immediate⟩,
  ⟨0x1C00, 0x1C00, 1, 0x2, 0x2, .uint, 8, 1, .rw, 0x80, [(0x0, 0xFF)], 1, 0x0, .immediate⟩,
  ⟨0x1C00, 0x1C00, 1, 0x3, 0x3, .uint, 16, 1, .rw, 0xFFFF, [(0x0, 0xFFF), (0xFFFF, 0xFFFF)], 1, 0x0, .restart⟩,
  ⟨0x1C00, 0x1C00, 1, 0x4, 0x4, .uint, 64, 2, .ro, 0x0, [], 1, 0x0, .immediate⟩,
  ⟨0x1C00, 0x1C00, 1, 0x5, 0x5, .uint, 16, 1, .ro, 0xFFFF, [], 1, 0x0, .immediate⟩,
  ⟨0x1C00, 0x1C00, 1, 0x6, 0x6, .uint, 32, 1, .ro, 0x0, [], 1, 0x0, .immediate⟩,
  ⟨0x1C00, 0x1C00, 1, 0x7, 0x7, .uint, 16, 1, .ro, 0x1, [], 1, 0x0, .immediate⟩,
  ⟨0x1C00, 0x1C00, 1, 0x8, 0x8, .uint, 8, 1, .ro, 0x0, [], 1, 0x0, .immediate⟩,
  ⟨0x1C00, 0x1C00, 1, 0x9, 0x9, .uint, 8, 1, .ro, 0x0, [], 1, 0x0, .immediate⟩,
  ⟨0x1C00, 0x1C00, 1, 0xA, 0xA, .uint, 16, 1, .ro, 0x0, [], 1, 0x0, .immediate⟩,
  ⟨0x1C00, 0x1C00, 1, 0xB, 0xB, .uint, 8, 1, .rw, 0x0, [(0x0, 0x1)], 1, 0x0, .immediate⟩]

/-- Rows of the object tables, part 7. -/
def objRows7 : List ObjRow := [
  ⟨0x1C00, 0x1C00, 1, 0xC, 0xC, .uint, 16, 1, .rw, 0x1000, [(0x100, 0xFFFF)], 1, 0x0, .immediate⟩,
  ⟨0x1C10, 0x1C10, 1, 0x1, 0x1, .uint, 8, 1, .ro, 0x0, [], 1, 0x0, .immediate⟩,
  ⟨0x1C10, 0x1C10, 1, 0x2, 0x2, .int, 32, 1, .ro, 0x0, [], 1, 0x0, .immediate⟩,
  ⟨0x1C10, 0x1C10, 1, 0x3, 0x3, .uint, 8, 1, .ro, 0xFF, [], 1, 0x0, .immediate⟩,
  ⟨0x1C10, 0x1C10, 1, 0x4, 0x4, .uint, 8, 1, .ro, 0xFF, [], 1, 0x0, .immediate⟩,
  ⟨0x1C11, 0x1C11, 1, 0x1, 0x4, .int, 32, 1, .ro, 0x0, [], 1, 0x0, .immediate⟩,
  ⟨0x1C11, 0x1C11, 1, 0x5, 0x8, .bool, 1, 1, .ro, 0x0, [], 1, 0x0, .immediate⟩,
  ⟨0x1C20, 0x1C20, 1, 0x1, 0x1, .domain, 0, 0, .ro, 0x0, [], 1, 0x0, .immediate⟩,
  ⟨0x1C20, 0x1C20, 1, 0x2, 0x2, .ticks, 48, 2, .ro, 0x0, [], 1, 0x0, .immediate⟩,
  ⟨0x1C20, 0x1C20, 1, 0x3, 0x3, .uint, 32, 1, .ro, 0x0, [], 1, 0x0, .immediate⟩,
  ⟨0x1C20, 0x1C20, 1, 0x4, 0x4, .uint, 32, 1, .ro, 0x0, [], 1, 0x0, .immediate⟩,
  ⟨0x1C20, 0x1C20, 1, 0x5, 0x5, .uint, 32, 1, .ro, 0x0, [], 1, 0x0, .immediate⟩,
  ⟨0x1C20, 0x1C20, 1, 0x6, 0x6, .uint, 32, 1, .ro, 0x0, [], 1, 0x0, .immediate⟩,
  ⟨0x1C30, 0x1C30, 1, 0x1, 0x1, .uint, 32, 1, .ro, 0x0, [], 1, 0x0, .immediate⟩,
  ⟨0x1C30, 0x1C30, 1, 0x2, 0x2, .ticks, 48, 2, .ro, 0x0, [], 1, 0x0, .immediate⟩,
  ⟨0x1C30, 0x1C30, 1, 0x3, 0x3, .uint, 32, 1, .ro, 0x0, [], 1, 0x0, .immediate⟩]

/-- Rows of the object tables, part 8. -/
def objRows8 : List ObjRow := [
  ⟨0x1C31, 0x1C31, 1, 0x1, 0x4, .domain, 0, 0, .ro, 0x0, [], 1, 0x0, .immediate⟩,
  ⟨0x1C32, 0x1C32, 1, 0x1, 0x4, .domain, 0, 0, .ro, 0x0, [], 1, 0x0, .immediate⟩,
  ⟨0x2000, 0x2000, 1, 0x1, 0x1, .uint, 32, 1, .rw, 0x16E360, [(0x927C0, 0x16E360)], 12500, 0x0, .restart⟩,
  ⟨0x2000, 0x2000, 1, 0x2, 0x2, .uint, 8, 1, .rw, 0x0, [(0x0, 0x6)], 1, 0x0, .restart⟩,
  ⟨0x2000, 0x2000, 1, 0x3, 0x3, .uint, 8, 1, .ro, 0x0, [], 1, 0x0, .immediate⟩,
  ⟨0x2000, 0x2000, 1, 0x4, 0x4, .uint, 32, 1, .ro, 0x0, [], 1, 0x0, .immediate⟩,
  ⟨0x2001, 0x2001, 1, 0x1, 0x1, .uint, 8, 1, .ro, 0x0, [], 1, 0x0, .immediate⟩,
  ⟨0x2001, 0x2001, 1, 0x2, 0x2, .uint, 8, 1, .ro, 0x0, [], 1, 0x0, .immediate⟩,
  ⟨0x2002, 0x2002, 1, 0x1, 0x3, .uint, 8, 1, .ro, 0x0, [], 1, 0x0, .immediate⟩,
  ⟨0x2002, 0x2002, 1, 0x4, 0x6, .uint, 32, 1, .ro, 0x0, [], 1, 0x0, .immediate⟩,
  ⟨0x2003, 0x2003, 1, 0x1, 0x1, .uint, 8, 1, .ro, 0x0, [], 1, 0x0, .immediate⟩,
  ⟨0x2010, 0x2010, 1, 0x1, 0x4, .uint, 32, 1, .rw, 0x0, [(0x0, 0xFFFFFFFF)], 1, 0x1CFFFF00, .immediate⟩,
  ⟨0x2100, 0x2100, 1, 0x1, 0x1, .uint, 32, 1, .rw, 0xBB80, [(0x7D00, 0x7D00), (0xAC44, 0xAC44), (0xBB80, 0xBB80), (0x15888, 0x15888), (0x17700, 0x17700), (0x2B110, 0x2B110), (0x2EE00, 0x2EE00), (0x56220, 0x56220), (0x5DC00, 0x5DC00)], 1, 0x0, .restart⟩,
  ⟨0x2100, 0x2100, 1, 0x2, 0x2, .uint, 8, 1, .rw, 0x0, [(0x0, 0x6)], 1, 0x0, .boundary⟩,
  ⟨0x2100, 0x2100, 1, 0x3, 0x3, .uint, 8, 1, .rw, 0xFF, [(0x0, 0x6), (0xFF, 0xFF)], 1, 0x0, .immediate⟩,
  ⟨0x2100, 0x2100, 1, 0x4, 0x4, .uint, 8, 1, .ro, 0x1, [], 1, 0x0, .immediate⟩]

/-- Rows of the object tables, part 9. -/
def objRows9 : List ObjRow := [
  ⟨0x2100, 0x2100, 1, 0x5, 0x5, .int, 32, 1, .ro, 0x0, [], 1, 0x0, .immediate⟩,
  ⟨0x2100, 0x2100, 1, 0x6, 0x6, .uint, 32, 1, .ro, 0x7A12, [], 1, 0x0, .immediate⟩,
  ⟨0x2100, 0x2100, 1, 0x7, 0x7, .uint, 32, 1, .ro, 0x7912, [], 1, 0x0, .immediate⟩,
  ⟨0x2100, 0x2100, 1, 0x8, 0x8, .uint, 16, 1, .const, 0x40, [], 1, 0x0, .never⟩,
  ⟨0x2100, 0x2100, 1, 0x9, 0x9, .uint, 64, 2, .ro, 0x0, [], 1, 0x0, .immediate⟩,
  ⟨0x2100, 0x2100, 1, 0xA, 0xA, .uint, 8, 1, .ro, 0x30, [], 1, 0x0, .immediate⟩,
  ⟨0x2100, 0x2100, 1, 0xB, 0xB, .uint, 16, 1, .ro, 0x0, [], 1, 0x0, .immediate⟩,
  ⟨0x2200, 0x2200, 1, 0x1, 0x1, .uint, 8, 1, .ro, 0x0, [], 1, 0x0, .immediate⟩,
  ⟨0x2200, 0x2200, 1, 0x2, 0x2, .uint, 8, 1, .wo, 0x0, [(0x1, 0x5)], 1, 0x0, .boundary⟩,
  ⟨0x2200, 0x2200, 1, 0x3, 0x3, .uint, 32, 1, .ro, 0x0, [], 1, 0x0, .immediate⟩,
  ⟨0x2200, 0x2200, 1, 0x4, 0x4, .uint, 8, 1, .ro, 0x2, [], 1, 0x0, .immediate⟩,
  ⟨0x2200, 0x2200, 1, 0x5, 0x5, .uint, 32, 1, .ro, 0x0, [], 1, 0x0, .immediate⟩,
  ⟨0x2200, 0x2200, 1, 0x6, 0x6, .uint, 8, 1, .ro, 0x0, [], 1, 0x0, .immediate⟩,
  ⟨0x2300, 0x2300, 1, 0x1, 0x1, .uint, 8, 1, .wo, 0x0, [(0x1, 0x5)], 1, 0x0, .immediate⟩,
  ⟨0x2300, 0x2300, 1, 0x2, 0x2, .uint, 8, 1, .ro, 0x0, [], 1, 0x0, .immediate⟩,
  ⟨0x2300, 0x2300, 1, 0x3, 0x3, .uint, 8, 1, .rw, 0xF, [(0x0, 0xF)], 1, 0x0, .immediate⟩]

/-- Rows of the object tables, part 10. -/
def objRows10 : List ObjRow := [
  ⟨0x2300, 0x2300, 1, 0x4, 0x4, .uint, 32, 1, .rw, 0x0, [(0x0, 0x5265C00)], 1, 0x0, .immediate⟩,
  ⟨0x2300, 0x2300, 1, 0x5, 0x5, .uint, 8, 1, .ro, 0x0, [], 1, 0x0, .immediate⟩,
  ⟨0x2300, 0x2300, 1, 0x6, 0x6, .uint, 32, 1, .ro, 0x0, [], 1, 0x0, .immediate⟩,
  ⟨0x2400, 0x2400, 1, 0x1, 0x1, .int, 16, 1, .ro, 0x0, [], 1, 0x0, .immediate⟩,
  ⟨0x2400, 0x2400, 1, 0x2, 0x2, .int, 16, 1, .ro, 0x0, [], 1, 0x0, .immediate⟩,
  ⟨0x2400, 0x2400, 1, 0x3, 0x3, .int, 16, 1, .const, 0x640, [], 1, 0x0, .never⟩,
  ⟨0x2400, 0x2400, 1, 0x4, 0x4, .int, 16, 1, .const, 0x6E0, [], 1, 0x0, .never⟩,
  ⟨0x2400, 0x2400, 1, 0x5, 0x5, .int, 16, 1, .const, 0x780, [], 1, 0x0, .never⟩,
  ⟨0x2400, 0x2400, 1, 0x6, 0x6, .int, 16, 1, .ro, 0x0, [], 1, 0x0, .immediate⟩,
  ⟨0x2410, 0x2410, 1, 0x1, 0x9, .uint, 16, 1, .ro, 0x0, [], 1, 0x0, .immediate⟩,
  ⟨0x2410, 0x2410, 1, 0xA, 0xA, .uint, 32, 1, .ro, 0x0, [], 1, 0x0, .immediate⟩,
  ⟨0x3000, 0x3000, 1, 0x1, 0x1, .uint, 64, 2, .ro, 0x0, [], 1, 0x0, .immediate⟩,
  ⟨0x3000, 0x3000, 1, 0x2, 0x2, .uint, 32, 1, .ro, 0x0, [], 1, 0x0, .immediate⟩,
  ⟨0x3000, 0x3000, 1, 0x3, 0x3, .uint, 32, 1, .ro, 0x0, [], 1, 0x0, .immediate⟩,
  ⟨0x3000, 0x3000, 1, 0x4, 0x4, .uint, 32, 1, .ro, 0x0, [], 1, 0x0, .immediate⟩,
  ⟨0x3000, 0x3000, 1, 0x5, 0x5, .uint, 32, 1, .ro, 0x0, [], 1, 0x0, .immediate⟩]

/-- Rows of the object tables, part 11. -/
def objRows11 : List ObjRow := [
  ⟨0x3000, 0x3000, 1, 0x6, 0x6, .uint, 32, 1, .ro, 0x0, [], 1, 0x0, .immediate⟩,
  ⟨0x3000, 0x3000, 1, 0x7, 0x7, .uint, 16, 1, .rw, 0x10, [(0x1, 0x400)], 1, 0x0, .immediate⟩,
  ⟨0x3000, 0x3000, 1, 0x8, 0x8, .uint, 32, 1, .ro, 0x0, [], 1, 0x0, .immediate⟩,
  ⟨0x3000, 0x3000, 1, 0x9, 0x9, .uint, 32, 1, .ro, 0x0, [], 1, 0x0, .immediate⟩,
  ⟨0x3000, 0x3000, 1, 0xA, 0xA, .uint, 32, 1, .ro, 0x0, [], 1, 0x0, .immediate⟩,
  ⟨0x3000, 0x3000, 1, 0xB, 0xB, .uint, 32, 1, .ro, 0x0, [], 1, 0x0, .immediate⟩,
  ⟨0x3000, 0x3000, 1, 0xC, 0xC, .uint, 32, 1, .ro, 0x0, [], 1, 0x0, .immediate⟩,
  ⟨0x3000, 0x3000, 1, 0xD, 0xD, .uint, 32, 1, .ro, 0x0, [], 1, 0x0, .immediate⟩,
  ⟨0x3010, 0x3010, 1, 0x1, 0x1, .bool, 1, 1, .rw, 0x1, [(0x0, 0x1)], 1, 0x0, .immediate⟩,
  ⟨0x3010, 0x3010, 1, 0x2, 0x2, .uint, 32, 1, .ro, 0x0, [], 1, 0x0, .immediate⟩,
  ⟨0x3010, 0x3010, 1, 0x3, 0x3, .uint, 32, 1, .ro, 0x0, [], 1, 0x0, .immediate⟩,
  ⟨0x3010, 0x3010, 1, 0x4, 0x4, .uint, 32, 1, .ro, 0x0, [], 1, 0x0, .immediate⟩,
  ⟨0x3010, 0x3010, 1, 0x5, 0x5, .uint, 32, 1, .ro, 0x0, [], 1, 0x0, .immediate⟩,
  ⟨0x3010, 0x3010, 1, 0x6, 0x6, .uint, 32, 1, .ro, 0x0, [], 1, 0x0, .immediate⟩,
  ⟨0x3010, 0x3010, 1, 0x7, 0x7, .uint, 16, 1, .rw, 0x40, [(0x1, 0x400)], 1, 0x0, .immediate⟩,
  ⟨0x3020, 0x3020, 1, 0x1, 0x1, .domain, 0, 0, .ro, 0x0, [], 1, 0x0, .immediate⟩]

/-- Rows of the object tables, part 12. -/
def objRows12 : List ObjRow := [
  ⟨0x3020, 0x3020, 1, 0x2, 0x2, .uint, 64, 2, .ro, 0x0, [], 1, 0x0, .immediate⟩,
  ⟨0x3030, 0x3030, 1, 0x1, 0x1, .uint, 16, 1, .ro, 0x0, [], 1, 0x0, .immediate⟩,
  ⟨0x3030, 0x3030, 1, 0x2, 0x2, .uint, 16, 1, .ro, 0x0, [], 1, 0x0, .immediate⟩,
  ⟨0x3030, 0x3030, 1, 0x3, 0x3, .uint, 16, 1, .ro, 0x0, [], 1, 0x0, .immediate⟩,
  ⟨0x3030, 0x3030, 1, 0x4, 0x4, .uint, 16, 1, .ro, 0x0, [], 1, 0x0, .immediate⟩,
  ⟨0x3030, 0x3030, 1, 0x5, 0x5, .bool, 1, 1, .rw, 0x1, [(0x0, 0x1)], 1, 0x0, .immediate⟩,
  ⟨0x3040, 0x3040, 1, 0x1, 0x1, .uint, 64, 2, .rw, 0x0, [(0x0, 0xFFFFFFFFFF)], 64, 0x0, .immediate⟩,
  ⟨0x3040, 0x3040, 1, 0x2, 0x2, .uint, 64, 2, .rw, 0x0, [(0x0, 0x10000000000)], 64, 0x0, .immediate⟩,
  ⟨0x3040, 0x3040, 1, 0x3, 0x3, .uint, 8, 1, .wo, 0x0, [(0x1, 0x1)], 1, 0x0, .immediate⟩,
  ⟨0x3040, 0x3040, 1, 0x4, 0x4, .uint, 8, 1, .ro, 0x0, [], 1, 0x0, .immediate⟩,
  ⟨0x3040, 0x3040, 1, 0x5, 0x5, .uint, 64, 2, .ro, 0x0, [], 1, 0x0, .immediate⟩,
  ⟨0x3040, 0x3040, 1, 0x6, 0x6, .uint, 64, 2, .ro, 0x0, [], 1, 0x0, .immediate⟩,
  ⟨0x3040, 0x3040, 1, 0x7, 0x7, .uint, 64, 2, .ro, 0x0, [], 1, 0x0, .immediate⟩,
  ⟨0x3040, 0x3040, 1, 0x8, 0x8, .uint, 64, 2, .ro, 0x0, [], 1, 0x0, .immediate⟩,
  ⟨0x3040, 0x3040, 1, 0x9, 0x9, .uint, 64, 2, .ro, 0x0, [], 1, 0x0, .immediate⟩,
  ⟨0x3050, 0x3050, 1, 0x1, 0x1, .bool, 1, 1, .rw, 0x0, [(0x0, 0x1)], 1, 0x0, .immediate⟩]

/-- Rows of the object tables, part 13. -/
def objRows13 : List ObjRow := [
  ⟨0x3050, 0x3050, 1, 0x2, 0x2, .uint, 32, 1, .ro, 0x0, [], 1, 0x0, .immediate⟩,
  ⟨0x3050, 0x3050, 1, 0x3, 0x3, .uint, 32, 1, .ro, 0x0, [], 1, 0x0, .immediate⟩,
  ⟨0x3050, 0x3050, 1, 0x4, 0x4, .uint, 8, 1, .wo, 0x0, [(0x1, 0x1)], 1, 0x0, .immediate⟩,
  ⟨0x3060, 0x3060, 1, 0x1, 0x18, .uint, 8, 1, .rw, 0x0, [(0x0, 0x2)], 1, 0x0, .boundary⟩,
  ⟨0x3061, 0x3061, 1, 0x1, 0x8, .uint, 8, 1, .rw, 0x0, [(0x0, 0x2)], 1, 0x0, .boundary⟩,
  ⟨0x3062, 0x3062, 1, 0x1, 0x4, .uint, 8, 1, .rw, 0x0, [(0x0, 0x2)], 1, 0x0, .boundary⟩,
  ⟨0x3100, 0x3100, 1, 0x1, 0x8, .uint, 8, 1, .ro, 0x0, [], 1, 0x0, .boundary⟩,
  ⟨0x3100, 0x3100, 1, 0x9, 0x9, .uint, 32, 1, .ro, 0x0, [], 1, 0x0, .boundary⟩,
  ⟨0x3100, 0x3100, 1, 0xA, 0xA, .uint, 32, 1, .ro, 0x0, [], 1, 0x0, .boundary⟩,
  ⟨0x3100, 0x3100, 1, 0xB, 0xB, .uint, 32, 1, .ro, 0x1E09F, [], 1, 0x0, .boundary⟩,
  ⟨0x3100, 0x3100, 1, 0xC, 0xC, .uint, 32, 1, .ro, 0x0, [], 1, 0x0, .immediate⟩,
  ⟨0x3100, 0x3100, 1, 0xD, 0xD, .uint, 32, 1, .ro, 0x0, [], 1, 0x0, .immediate⟩,
  ⟨0x3100, 0x3100, 1, 0xE, 0xE, .uint, 32, 1, .ro, 0x0, [], 1, 0x0, .immediate⟩,
  ⟨0x3180, 0x3187, 1, 0x1, 0x1, .uint, 16, 1, .ro, 0x0, [], 1, 0x0, .immediate⟩,
  ⟨0x3180, 0x3187, 1, 0x2, 0x2, .uint, 32, 1, .ro, 0x0, [], 1, 0x0, .immediate⟩,
  ⟨0x3180, 0x3187, 1, 0x3, 0x3, .uint, 16, 1, .ro, 0x0, [], 1, 0x0, .immediate⟩]

/-- Rows of the object tables, part 14. -/
def objRows14 : List ObjRow := [
  ⟨0x3180, 0x3187, 1, 0x4, 0x4, .uint, 16, 1, .ro, 0x0, [], 1, 0x0, .immediate⟩,
  ⟨0x3180, 0x3187, 1, 0x5, 0x5, .uint, 32, 1, .ro, 0x0, [], 1, 0x0, .immediate⟩,
  ⟨0x3180, 0x3187, 1, 0x6, 0x6, .uint, 16, 1, .ro, 0x0, [], 1, 0x0, .immediate⟩,
  ⟨0x3190, 0x3197, 1, 0x1, 0x1, .uint, 64, 2, .ro, 0x0, [], 1, 0x0, .immediate⟩,
  ⟨0x3190, 0x3197, 1, 0x2, 0x2, .uint, 32, 1, .ro, 0x0, [], 1, 0x0, .immediate⟩,
  ⟨0x3190, 0x3197, 1, 0x3, 0x3, .uint, 32, 1, .ro, 0x0, [], 1, 0x0, .immediate⟩,
  ⟨0x3190, 0x3197, 1, 0x4, 0x4, .uint, 32, 1, .ro, 0x0, [], 1, 0x0, .immediate⟩,
  ⟨0x3800, 0x381F, 1, 0x1, 0x1, .uint, 8, 1, .rw, 0x0, [(0x0, 0x7)], 1, 0x0, .immediate⟩,
  ⟨0x3800, 0x381F, 1, 0x2, 0x2, .uint, 8, 1, .rw, 0x3, [(0x0, 0xF)], 1, 0x0, .immediate⟩,
  ⟨0x3800, 0x381F, 1, 0x3, 0x3, .uint, 64, 2, .rw, 0x0, [(0x0, 0xFFFFFFFFFFFFFFFF)], 1, 0x0, .immediate⟩,
  ⟨0x3800, 0x381F, 1, 0x4, 0x4, .uint, 8, 1, .wo, 0x0, [(0x1, 0x1)], 1, 0x0, .immediate⟩,
  ⟨0x3800, 0x381F, 1, 0x5, 0x5, .uint, 8, 1, .ro, 0x0, [], 1, 0x0, .immediate⟩,
  ⟨0x3800, 0x381F, 1, 0x6, 0x6, .uint, 64, 2, .ro, 0x0, [], 1, 0x0, .immediate⟩,
  ⟨0x3800, 0x381F, 1, 0x7, 0x7, .uint, 32, 1, .ro, 0x0, [], 1, 0x0, .immediate⟩,
  ⟨0x3800, 0x381F, 1, 0x8, 0x8, .uint, 8, 1, .ro, 0x0, [], 1, 0x0, .immediate⟩,
  ⟨0x3800, 0x381F, 1, 0x9, 0x9, .uint, 8, 1, .wo, 0x0, [(0x1, 0x1)], 1, 0x0, .immediate⟩]

/-- Rows of the object tables, part 15. -/
def objRows15 : List ObjRow := [
  ⟨0x3800, 0x381F, 1, 0xA, 0xA, .uint, 8, 1, .wo, 0x0, [(0x1, 0x1)], 1, 0x0, .immediate⟩,
  ⟨0x3800, 0x381F, 1, 0xB, 0xB, .uint, 32, 1, .ro, 0x0, [], 1, 0x0, .immediate⟩,
  ⟨0x3800, 0x381F, 1, 0xC, 0xC, .uint, 16, 1, .rw, 0x64, [(0x1, 0xEA60)], 1, 0x0, .immediate⟩,
  ⟨0x3800, 0x381F, 1, 0xD, 0xD, .uint, 64, 2, .ro, 0x0, [], 1, 0x0, .immediate⟩,
  ⟨0x3800, 0x381F, 1, 0xE, 0xE, .uint, 32, 1, .ro, 0x0, [], 1, 0x0, .immediate⟩,
  ⟨0x3800, 0x381F, 1, 0xF, 0xF, .uint, 32, 1, .ro, 0x0, [], 1, 0x0, .immediate⟩,
  ⟨0x4100, 0x4107, 1, 0x1, 0x1, .uint, 8, 1, .rw, 0x0, [(0x0, 0x1)], 1, 0x0, .boundary⟩,
  ⟨0x4100, 0x4107, 1, 0x2, 0x2, .uint, 64, 2, .rw, 0xF0, [(0x0, 0xFFFFFFFFFFFFFFFF)], 1, 0xFF01, .boundary⟩,
  ⟨0x4100, 0x4107, 1, 0x3, 0x3, .uint, 32, 1, .ro, 0x0, [], 1, 0x0, .immediate⟩,
  ⟨0x4100, 0x4107, 1, 0x4, 0x4, .uint, 16, 1, .ro, 0x0, [], 1, 0x0, .immediate⟩,
  ⟨0x4200, 0x4207, 1, 0x1, 0x1, .uint, 64, 2, .ro, 0x0, [], 1, 0x0, .immediate⟩,
  ⟨0x4200, 0x4207, 1, 0x2, 0x2, .uint, 64, 2, .ro, 0x0, [], 1, 0x0, .immediate⟩,
  ⟨0x4200, 0x4207, 1, 0x3, 0x3, .uint, 32, 1, .ro, 0x0, [], 1, 0x0, .immediate⟩,
  ⟨0x4200, 0x4207, 1, 0x4, 0x4, .uint, 64, 2, .ro, 0x0, [], 1, 0x0, .immediate⟩,
  ⟨0x4200, 0x4207, 1, 0x5, 0x5, .uint, 32, 1, .ro, 0x0, [], 1, 0x0, .immediate⟩,
  ⟨0x4300, 0x4307, 1, 0x1, 0x10, .uint, 64, 2, .ro, 0x0, [], 1, 0x0, .immediate⟩]

/-- Rows of the object tables, part 16. -/
def objRows16 : List ObjRow := [
  ⟨0x4400, 0x4407, 1, 0x1, 0x1, .uint, 8, 1, .ro, 0x0, [], 1, 0x0, .immediate⟩,
  ⟨0x4400, 0x4407, 1, 0x2, 0x2, .uint, 32, 1, .ro, 0x0, [], 1, 0x0, .immediate⟩,
  ⟨0x4400, 0x4407, 1, 0x3, 0x3, .uint, 8, 1, .ro, 0x0, [], 1, 0x0, .immediate⟩,
  ⟨0x4400, 0x4407, 1, 0x4, 0x4, .uint, 16, 1, .ro, 0x0, [], 1, 0x0, .immediate⟩,
  ⟨0x4400, 0x4407, 1, 0x5, 0x5, .uint, 16, 1, .ro, 0x0, [], 1, 0x0, .immediate⟩,
  ⟨0x4400, 0x4407, 1, 0x6, 0x6, .uint, 16, 1, .ro, 0x0, [], 1, 0x0, .immediate⟩,
  ⟨0x4800, 0x481F, 1, 0x1, 0x80, .uint, 8, 1, .rw, 0x1, [(0x0, 0x2)], 1, 0x0, .boundary⟩,
  ⟨0x5000, 0x5000, 1, 0x1, 0x1, .uint, 8, 1, .ro, 0x0, [], 1, 0x0, .immediate⟩,
  ⟨0x5000, 0x5000, 1, 0x2, 0x2, .uint, 32, 1, .ro, 0x0, [], 1, 0x0, .immediate⟩,
  ⟨0x5000, 0x5000, 1, 0x3, 0x3, .domain, 0, 0, .wo, 0x0, [], 1, 0x0, .immediate⟩,
  ⟨0x5000, 0x5000, 1, 0x4, 0x4, .uint, 8, 1, .wo, 0x0, [(0x1, 0x1)], 1, 0x0, .boundary⟩,
  ⟨0x5000, 0x5000, 1, 0x5, 0x5, .bool, 1, 1, .rw, 0x1, [(0x0, 0x1)], 1, 0x0, .immediate⟩,
  ⟨0x5000, 0x5000, 1, 0x6, 0x6, .uint, 32, 1, .ro, 0x0, [], 1, 0x0, .immediate⟩,
  ⟨0x5000, 0x5000, 1, 0x7, 0x7, .uint, 8, 1, .wo, 0x0, [(0x1, 0x1)], 1, 0x0, .immediate⟩,
  ⟨0x5000, 0x5000, 1, 0x8, 0x8, .uint, 64, 2, .ro, 0x0, [], 1, 0x0, .immediate⟩,
  ⟨0x5100, 0x5100, 1, 0x1, 0x1, .uint, 8, 1, .ro, 0x0, [], 1, 0x0, .immediate⟩]

/-- Rows of the object tables, part 17. -/
def objRows17 : List ObjRow := [
  ⟨0x5100, 0x5100, 1, 0x2, 0x2, .uint, 8, 1, .ro, 0x0, [], 1, 0x0, .immediate⟩,
  ⟨0x5100, 0x5100, 1, 0x3, 0x3, .uint, 32, 1, .ro, 0x0, [], 1, 0x0, .immediate⟩,
  ⟨0x5100, 0x5100, 1, 0x4, 0x4, .uint, 32, 1, .ro, 0x0, [], 1, 0x0, .immediate⟩,
  ⟨0x5100, 0x5100, 1, 0x5, 0x5, .uint, 32, 1, .ro, 0x0, [], 1, 0x0, .immediate⟩,
  ⟨0x5100, 0x5100, 1, 0x6, 0x6, .uint, 32, 1, .ro, 0x0, [], 1, 0x0, .immediate⟩,
  ⟨0x5100, 0x5100, 1, 0x7, 0x7, .uint, 16, 1, .ro, 0x0, [], 1, 0x0, .immediate⟩,
  ⟨0x5100, 0x5100, 1, 0x8, 0x8, .uint, 8, 1, .ro, 0x0, [], 1, 0x0, .immediate⟩,
  ⟨0x5200, 0x527F, 1, 0x1, 0x80, .uint, 8, 1, .ro, 0x0, [], 1, 0x0, .immediate⟩,
  ⟨0x5280, 0x52FF, 1, 0x1, 0x80, .uint, 16, 1, .ro, 0xFFFF, [], 1, 0x0, .immediate⟩,
  ⟨0x5300, 0x531F, 1, 0x1, 0x80, .uint, 16, 1, .ro, 0x0, [], 1, 0x0, .immediate⟩,
  ⟨0x5400, 0x5400, 1, 0x1, 0x1, .uint, 16, 1, .rw, 0x0, [(0x0, 0xFFFF)], 1, 0x0, .immediate⟩,
  ⟨0x5400, 0x5400, 1, 0x2, 0x2, .uint, 8, 1, .wo, 0x0, [(0x1, 0x1)], 1, 0x0, .boundary⟩,
  ⟨0x5400, 0x5400, 1, 0x3, 0x3, .uint, 8, 1, .wo, 0x0, [(0x1, 0x1)], 1, 0x0, .immediate⟩,
  ⟨0x5400, 0x5400, 1, 0x4, 0x4, .uint, 32, 1, .ro, 0x0, [], 1, 0x0, .immediate⟩,
  ⟨0x5400, 0x5400, 1, 0x5, 0x5, .uint, 8, 1, .ro, 0x0, [], 1, 0x0, .immediate⟩,
  ⟨0x5400, 0x5400, 1, 0x6, 0x6, .uint, 32, 1, .ro, 0x0, [], 1, 0x0, .immediate⟩]

/-- Rows of the object tables, part 18. -/
def objRows18 : List ObjRow := [
  ⟨0x5400, 0x5400, 1, 0x7, 0x7, .uint, 32, 1, .ro, 0x0, [], 1, 0x0, .immediate⟩,
  ⟨0x5410, 0x5410, 1, 0x1, 0x10, .uint, 32, 1, .ro, 0x0, [], 1, 0x0, .immediate⟩,
  ⟨0x5411, 0x5411, 1, 0x1, 0x10, .uint, 8, 1, .ro, 0x0, [], 1, 0x0, .immediate⟩,
  ⟨0x5412, 0x5412, 1, 0x1, 0x10, .uint, 64, 2, .ro, 0x0, [], 1, 0x0, .immediate⟩,
  ⟨0x5500, 0x5500, 1, 0x1, 0x1, .uint, 32, 1, .wo, 0x0, [(0x0, 0x7FFFFFFF)], 1, 0x8000C000, .immediate⟩,
  ⟨0x5500, 0x5500, 1, 0x2, 0x2, .uint, 8, 1, .ro, 0x0, [], 1, 0x0, .immediate⟩,
  ⟨0x5500, 0x5500, 1, 0x3, 0x3, .uint, 16, 1, .ro, 0x0, [], 1, 0x0, .immediate⟩,
  ⟨0x5500, 0x5500, 1, 0x4, 0x4, .uint, 32, 1, .ro, 0x0, [], 1, 0x0, .immediate⟩,
  ⟨0x5500, 0x5500, 1, 0x5, 0x5, .uint, 32, 1, .ro, 0x0, [], 1, 0x0, .immediate⟩,
  ⟨0x5500, 0x5500, 1, 0x6, 0x6, .uint, 64, 2, .ro, 0x0, [], 1, 0x0, .immediate⟩,
  ⟨0x5500, 0x5500, 1, 0x7, 0x7, .uint, 8, 1, .ro, 0x0, [], 1, 0x0, .immediate⟩,
  ⟨0x5500, 0x5500, 1, 0x8, 0x8, .uint, 32, 1, .ro, 0x0, [], 1, 0x0, .immediate⟩,
  ⟨0x5500, 0x5500, 1, 0x9, 0x9, .uint, 32, 1, .ro, 0x0, [], 1, 0x0, .immediate⟩,
  ⟨0x5500, 0x5500, 1, 0xA, 0xA, .uint, 8, 1, .ro, 0x0, [], 1, 0x0, .immediate⟩,
  ⟨0x5600, 0x567F, 1, 0x1, 0x80, .uint, 32, 1, .ro, 0x0, [], 1, 0x0, .immediate⟩,
  ⟨0x5800, 0x587F, 1, 0x1, 0x80, .uint, 16, 1, .rw, 0xFFFF, [(0x0, 0x3FF), (0xFFFF, 0xFFFF)], 1, 0x0, .boundary⟩]

/-- Rows of the object tables, part 19. -/
def objRows19 : List ObjRow := [
  ⟨0x5880, 0x58FF, 1, 0x1, 0x80, .gain, 32, 1, .rw, 0x0, [(0xFFFFDC00, 0xFFFFFFFF), (0x0, 0x480), (0x80000000, 0x80000000)], 1, 0x0, .boundary⟩,
  ⟨0x5900, 0x5907, 1, 0x1, 0x80, .uint, 32, 1, .rw, 0x0, [(0x0, 0xFFFFFFFF)], 1, 0x0, .boundary⟩,
  ⟨0x5908, 0x590F, 1, 0x1, 0x80, .uint, 32, 1, .rw, 0x0, [(0x0, 0xBC00)], 1024, 0x0, .boundary⟩,
  ⟨0x5A00, 0x5A3F, 1, 0x1, 0x80, .uint, 64, 2, .rw, 0xF424002C30000, [(0x0, 0xFFFFFFFFFFFFFFFF)], 1, 0x0, .boundary⟩,
  ⟨0x5C00, 0x5C07, 1, 0x1, 0x80, .int, 32, 1, .ro, 0x0, [], 1, 0x0, .immediate⟩,
  ⟨0x5C08, 0x5C0F, 1, 0x1, 0x80, .int, 32, 1, .ro, 0x0, [], 1, 0x0, .immediate⟩,
  ⟨0x5D00, 0x5D00, 1, 0x1, 0x40, .uint, 32, 1, .rw, 0x0, [(0x0, 0x0), (0x80000000, 0xFFFFFFFF)], 1, 0x7000FFC0, .boundary⟩,
  ⟨0x5E00, 0x5E00, 1, 0x1, 0x1, .uint, 8, 1, .ro, 0x0, [], 1, 0x0, .immediate⟩,
  ⟨0x5E00, 0x5E00, 1, 0x2, 0x2, .uint, 32, 1, .ro, 0x1400000, [], 1, 0x0, .immediate⟩,
  ⟨0x5E00, 0x5E00, 1, 0x3, 0x3, .uint, 8, 1, .ro, 0x0, [], 1, 0x0, .immediate⟩,
  ⟨0x5E00, 0x5E00, 1, 0x4, 0x4, .uint, 8, 1, .ro, 0x0, [], 1, 0x0, .immediate⟩,
  ⟨0x6000, 0x6000, 1, 0x1, 0x1, .uint, 64, 2, .ro, 0x0, [], 1, 0x0, .immediate⟩,
  ⟨0x6000, 0x6000, 1, 0x2, 0x2, .uint, 32, 1, .ro, 0x10000, [], 1, 0x0, .immediate⟩,
  ⟨0x6000, 0x6000, 1, 0x3, 0x3, .uint, 32, 1, .ro, 0x0, [], 1, 0x0, .immediate⟩,
  ⟨0x6000, 0x6000, 1, 0x4, 0x4, .bool, 1, 1, .rw, 0x0, [(0x0, 0x1)], 1, 0x0, .immediate⟩,
  ⟨0x6000, 0x6000, 1, 0x5, 0x5, .uint, 64, 2, .rw, 0x1000000000, [(0x1000000000, 0x13FFFFFFFF)], 1, 0x0, .immediate⟩]

/-- Rows of the object tables, part 20. -/
def objRows20 : List ObjRow := [
  ⟨0x6000, 0x6000, 1, 0x6, 0x6, .uint, 8, 1, .rw, 0x10, [(0x10, 0x1C)], 1, 0x0, .immediate⟩,
  ⟨0x6000, 0x6000, 1, 0x7, 0x7, .uint, 64, 2, .ro, 0x0, [], 1, 0x0, .immediate⟩,
  ⟨0x6000, 0x6000, 1, 0x8, 0x8, .uint, 64, 2, .rw, 0x0, [(0x0, 0xFFFFFFFFFFFFFFFF)], 1, 0x0, .immediate⟩,
  ⟨0x6000, 0x6000, 1, 0x9, 0x9, .uint, 8, 1, .rw, 0x0, [(0x0, 0x1)], 1, 0x0, .immediate⟩,
  ⟨0x6000, 0x6000, 1, 0xA, 0xA, .uint, 64, 2, .ro, 0x0, [], 1, 0x0, .immediate⟩,
  ⟨0x6000, 0x6000, 1, 0xB, 0xB, .uint, 32, 1, .ro, 0x0, [], 1, 0x0, .immediate⟩,
  ⟨0x6000, 0x6000, 1, 0xC, 0xC, .uint, 64, 2, .ro, 0x0, [], 1, 0x0, .immediate⟩,
  ⟨0x6000, 0x6000, 1, 0xD, 0xD, .uint, 32, 1, .ro, 0x0, [], 1, 0x0, .immediate⟩,
  ⟨0x6000, 0x6000, 1, 0xE, 0xE, .uint, 64, 2, .rw, 0x0, [(0x0, 0xFFFFFFFFFFFFFFFF)], 1, 0x0, .immediate⟩,
  ⟨0x6000, 0x6000, 1, 0xF, 0xF, .uint, 64, 2, .rw, 0xFFFF00007FF07FFF, [(0x0, 0xFFFFFFFFFFFFFFFF)], 1, 0x800F8000, .immediate⟩,
  ⟨0x6000, 0x6000, 1, 0x10, 0x10, .domain, 0, 0, .ro, 0x0, [], 1, 0x0, .immediate⟩,
  ⟨0x6000, 0x6000, 1, 0x11, 0x11, .uint, 64, 2, .ro, 0x0, [], 1, 0x0, .immediate⟩,
  ⟨0x6000, 0x6000, 1, 0x12, 0x12, .uint, 32, 1, .rw, 0x10000, [(0x1000, 0x10000000)], 1, 0x0, .immediate⟩,
  ⟨0x6100, 0x6100, 1, 0x1, 0x1, .uint, 16, 1, .rw, 0x0, [(0x0, 0xFFFF)], 1, 0x0, .immediate⟩,
  ⟨0x6100, 0x6100, 1, 0x2, 0x2, .uint, 16, 1, .rw, 0x0, [(0x0, 0xFFFF)], 1, 0x0, .immediate⟩,
  ⟨0x6100, 0x6100, 1, 0x3, 0x3, .uint, 32, 1, .ro, 0x0, [], 1, 0x0, .immediate⟩]

/-- Rows of the object tables, part 21. -/
def objRows21 : List ObjRow := [
  ⟨0x6110, 0x6110, 1, 0x1, 0x40, .uint, 16, 1, .rw, 0xFFFF, [(0x0, 0xFFF), (0xFFFF, 0xFFFF)], 1, 0x0, .immediate⟩,
  ⟨0x6200, 0x6200, 1, 0x1, 0x1, .uint, 8, 1, .ro, 0x0, [], 1, 0x0, .immediate⟩,
  ⟨0x6200, 0x6200, 1, 0x2, 0x2, .uint, 16, 1, .rw, 0xA, [(0x1, 0xE10)], 1, 0x0, .immediate⟩,
  ⟨0x6200, 0x6200, 1, 0x3, 0x3, .uint, 16, 1, .rw, 0xFFFF, [(0x0, 0xFFF), (0xFFFF, 0xFFFF)], 1, 0x0, .immediate⟩,
  ⟨0x6200, 0x6200, 1, 0x4, 0x4, .uint, 32, 1, .rw, 0x7D0, [(0x64, 0x186A0)], 1, 0x0, .immediate⟩,
  ⟨0x6200, 0x6200, 1, 0x5, 0x5, .uint, 32, 1, .ro, 0x0, [], 1, 0x0, .immediate⟩,
  ⟨0x7000, 0x7000, 1, 0x1, 0x1, .uint, 8, 1, .ro, 0xFF, [], 1, 0x0, .immediate⟩,
  ⟨0x7000, 0x7000, 1, 0x2, 0x2, .uint, 32, 1, .ro, 0x0, [], 1, 0x0, .immediate⟩,
  ⟨0x7000, 0x7000, 1, 0x3, 0x3, .uint, 8, 1, .ro, 0x0, [], 1, 0x0, .immediate⟩,
  ⟨0x7000, 0x7000, 1, 0x4, 0x4, .uint, 8, 1, .ro, 0x0, [], 1, 0x0, .immediate⟩,
  ⟨0x7000, 0x7000, 1, 0x5, 0x5, .bool, 1, 1, .ro, 0x0, [], 1, 0x0, .immediate⟩,
  ⟨0x7000, 0x7000, 1, 0x6, 0x6, .uint, 8, 1, .ro, 0x0, [], 1, 0x0, .immediate⟩,
  ⟨0x7000, 0x7000, 1, 0x7, 0x7, .uint, 8, 1, .ro, 0x0, [], 1, 0x0, .immediate⟩,
  ⟨0x7000, 0x7000, 1, 0x8, 0x8, .uint, 32, 1, .ro, 0x0, [], 1, 0x0, .immediate⟩,
  ⟨0x7000, 0x7000, 1, 0x9, 0x9, .uint, 8, 1, .rw, 0x0, [(0x0, 0x1)], 1, 0x0, .immediate⟩,
  ⟨0x7000, 0x7000, 1, 0xA, 0xA, .uint, 16, 1, .rw, 0x3C, [(0x1, 0xE10)], 1, 0x0, .immediate⟩]

/-- Rows of the object tables, part 22. -/
def objRows22 : List ObjRow := [
  ⟨0x7000, 0x7000, 1, 0xB, 0xB, .uint, 8, 1, .wo, 0x0, [(0x1, 0x1)], 1, 0x0, .immediate⟩,
  ⟨0x7100, 0x7100, 1, 0x1, 0x1, .uint, 8, 1, .ro, 0x0, [], 1, 0x0, .immediate⟩,
  ⟨0x7100, 0x7100, 1, 0x2, 0x2, .uint, 8, 1, .wo, 0x0, [(0x0, 0xFF)], 1, 0x0, .immediate⟩,
  ⟨0x7100, 0x7100, 1, 0x3, 0x3, .uint, 8, 1, .ro, 0x0, [], 1, 0x0, .immediate⟩,
  ⟨0x7100, 0x7100, 1, 0x4, 0x4, .uint, 8, 1, .wo, 0x0, [(0x0, 0x2)], 1, 0x0, .immediate⟩,
  ⟨0x7100, 0x7100, 1, 0x5, 0x5, .uint, 8, 1, .ro, 0x0, [], 1, 0x0, .immediate⟩,
  ⟨0x7100, 0x7100, 1, 0x6, 0x6, .bool, 1, 1, .ro, 0x0, [], 1, 0x0, .immediate⟩,
  ⟨0x7100, 0x7100, 1, 0x7, 0x7, .uint, 32, 1, .ro, 0x0, [], 1, 0x0, .immediate⟩,
  ⟨0x7100, 0x7100, 1, 0x8, 0x8, .uint, 32, 1, .ro, 0x0, [], 1, 0x0, .immediate⟩,
  ⟨0x7100, 0x7100, 1, 0x9, 0x9, .bool, 1, 1, .rw, 0x1, [(0x0, 0x1)], 1, 0x0, .immediate⟩,
  ⟨0x7200, 0x7200, 1, 0x1, 0x1, .domain, 0, 0, .wo, 0x0, [], 1, 0x0, .immediate⟩,
  ⟨0x7200, 0x7200, 1, 0x2, 0x2, .uint, 8, 1, .ro, 0x0, [], 1, 0x0, .immediate⟩,
  ⟨0x7200, 0x7200, 1, 0x3, 0x3, .uint, 8, 1, .ro, 0xFF, [], 1, 0x0, .immediate⟩,
  ⟨0x7200, 0x7200, 1, 0x4, 0x4, .uint, 8, 1, .ro, 0x0, [], 1, 0x0, .immediate⟩,
  ⟨0x7200, 0x7200, 1, 0x5, 0x5, .uint, 32, 1, .ro, 0x0, [], 1, 0x0, .immediate⟩,
  ⟨0x7200, 0x7200, 1, 0x6, 0x6, .uint, 8, 1, .wo, 0x0, [(0x1, 0x1)], 1, 0x0, .immediate⟩]

/-- Rows of the object tables, part 23. -/
def objRows23 : List ObjRow := [
  ⟨0x7300, 0x7300, 1, 0x1, 0x1, .uint, 8, 1, .wo, 0x0, [(0x1, 0x3)], 1, 0x0, .immediate⟩,
  ⟨0x7300, 0x7300, 1, 0x2, 0x2, .uint, 8, 1, .ro, 0x0, [], 1, 0x0, .immediate⟩,
  ⟨0x7300, 0x7300, 1, 0x3, 0x3, .uint, 8, 1, .ro, 0x0, [], 1, 0x0, .immediate⟩,
  ⟨0x7400, 0x7400, 1, 0x1, 0x1, .uint, 8, 1, .wo, 0x0, [(0x1, 0x1)], 1, 0x0, .immediate⟩,
  ⟨0x7400, 0x7400, 1, 0x2, 0x2, .uint, 32, 1, .rw, 0x3C, [(0x0, 0x0), (0xA, 0x15180)], 1, 0x0, .immediate⟩,
  ⟨0x7400, 0x7400, 1, 0x3, 0x3, .uint, 64, 2, .ro, 0x0, [], 1, 0x0, .immediate⟩,
  ⟨0x7400, 0x7400, 1, 0x4, 0x4, .uint, 64, 2, .ro, 0x0, [], 1, 0x0, .immediate⟩,
  ⟨0x7400, 0x7400, 1, 0x5, 0x5, .uint, 32, 1, .ro, 0x0, [], 1, 0x0, .immediate⟩,
  ⟨0x7400, 0x7400, 1, 0x7, 0x7, .uint, 8, 1, .rw, 0x2, [(0x2, 0x5)], 1, 0x0, .restart⟩,
  ⟨0x7400, 0x7400, 1, 0x8, 0x8, .domain, 0, 0, .rw, 0x0, [], 1, 0x0, .immediate⟩,
  ⟨0x7400, 0x7400, 1, 0x9, 0x9, .uint, 32, 1, .ro, 0x0, [], 1, 0x0, .immediate⟩]

/-- Every row of the object tables. -/
def objRows : List ObjRow :=
  objRows0 ++ objRows1 ++ objRows2 ++ objRows3 ++ objRows4 ++ objRows5 ++ objRows6 ++ objRows7 ++ objRows8 ++ objRows9 ++ objRows10 ++ objRows11 ++ objRows12 ++ objRows13 ++ objRows14 ++ objRows15 ++ objRows16 ++ objRows17 ++ objRows18 ++ objRows19 ++ objRows20 ++ objRows21 ++ objRows22 ++ objRows23

/-- The parts with the lowest and the highest index each covers. -/
def objParts : List (Nat × Nat × List ObjRow) := [
  (0x0, 0x10, objRows0),
  (0x10, 0x200, objRows1),
  (0x200, 0x1300, objRows2),
  (0x1000, 0x1700, objRows3),
  (0x1400, 0x1701, objRows4),
  (0x1401, 0x1A00, objRows5),
  (0x1A00, 0x1C00, objRows6),
  (0x1C00, 0x1C30, objRows7),
  (0x1C31, 0x2100, objRows8),
  (0x2100, 0x2300, objRows9),
  (0x2300, 0x3000, objRows10),
  (0x3000, 0x3020, objRows11),
  (0x3020, 0x3050, objRows12),
  (0x3050, 0x3187, objRows13),
  (0x3180, 0x381F, objRows14),
  (0x3800, 0x4307, objRows15),
  (0x4400, 0x5100, objRows16),
  (0x5100, 0x5400, objRows17),
  (0x5400, 0x587F, objRows18),
  (0x5880, 0x6000, objRows19),
  (0x6000, 0x6100, objRows20),
  (0x6110, 0x7000, objRows21),
  (0x7000, 0x7200, objRows22),
  (0x7300, 0x7400, objRows23)]

/-- Whether a row covers an object address (R416). -/
def ObjRow.covers (r : ObjRow) (a : Nat) : Bool :=
  let idx := a / 256
  let sub := a % 256
  decide (r.idxLo ≤ idx) && decide (idx ≤ r.idxHi) && (idx - r.idxLo) % r.stride == 0 && decide (r.subLo ≤ sub) && decide (sub ≤ r.subHi)

/-- The row of an object address, if it names a fixed object. -/
def objRow (a : Nat) : Option ObjRow :=
  objParts.findSome? (fun p => if p.1 ≤ a / 256 ∧ a / 256 ≤ p.2.1 then p.2.2.find? (fun r => r.covers a) else none)

/-! Addresses of the objects, by name. Arguments are the engine, port, link or channel number, then the position from 0. -/
namespace O
/-- 0x0120.01 HullLoad (R856). -/
def hullLoad : Nat := 0x012001
/-- 0x0120.02 HullShedStage (R856). -/
def hullShedStage : Nat := 0x012002
/-- 0x0120.03 HullWatchdogResets (R856). -/
def hullWatchdogResets : Nat := 0x012003
/-- 0x0120.04 HullWatchdogTimeout (R856). -/
def hullWatchdogTimeout : Nat := 0x012004
/-- 0x0120.05 HullReady (R856). -/
def hullReady : Nat := 0x012005
/-- 0x2200.01 OperatingMode (R43). -/
def operatingMode : Nat := 0x220001
/-- 0x2200.02 ModeRequest (R43). -/
def modeRequest : Nat := 0x220002
/-- 0x2200.03 ModeCause (R43). -/
def modeCause : Nat := 0x220003
/-- 0x2200.04 ResumeMode (R43). -/
def resumeMode : Nat := 0x220004
/-- 0x2200.05 SafeMuteCause (R43). -/
def safeMuteCause : Nat := 0x220005
/-- 0x2200.06 PendingStartMode (R43). -/
def pendingStartMode : Nat := 0x220006
/-- 0x2100.01 TickRate (R85). -/
def tickRate : Nat := 0x210001
/-- 0x2100.02 TickSource (R85). -/
def tickSource : Nat := 0x210002
/-- 0x2100.03 TickSourceFallback (R85). -/
def tickSourceFallback : Nat := 0x210003
/-- 0x2100.04 TickSourceStatus (R85). -/
def tickSourceStatus : Nat := 0x210004
/-- 0x2100.05 TickSourceOffset (R85). -/
def tickSourceOffset : Nat := 0x210005
/-- 0x2100.06 CyclesPerTick (R85). -/
def cyclesPerTick : Nat := 0x210006
/-- 0x2100.07 BundleBudget (R85). -/
def bundleBudget : Nat := 0x210007
/-- 0x2100.08 LatchInstant (R85). -/
def latchInstant : Nat := 0x210008
/-- 0x2100.09 TickCount (R85). -/
def tickCount : Nat := 0x210009
/-- 0x2100.0A HopBudget (R85). -/
def hopBudget : Nat := 0x21000A
/-- 0x2100.0B TickSourcePhase (R85). -/
def tickSourcePhase : Nat := 0x21000B
/-- 0x4100.01 FetchMode (R147). -/
def fetchMode (n : Nat) : Nat := 0x410001 + 0x100 * n
/-- 0x4100.02 FaultEventMask (R147). -/
def faultEventMask (n : Nat) : Nat := 0x410002 + 0x100 * n
/-- 0x4100.03 BackgroundPortCycles (R147). -/
def backgroundPortCycles (n : Nat) : Nat := 0x410003 + 0x100 * n
/-- 0x4100.04 ProgramLength (R147). -/
def programLength (n : Nat) : Nat := 0x410004 + 0x100 * n
/-- 0x4200.01 FaultWord (R147). -/
def faultWord (n : Nat) : Nat := 0x420001 + 0x100 * n
/-- 0x4200.02 LaneGuardFlags (R147). -/
def laneGuardFlags (n : Nat) : Nat := 0x420002 + 0x100 * n
/-- 0x4200.03 FaultTicks (R147). -/
def faultTicks (n : Nat) : Nat := 0x420003 + 0x100 * n
/-- 0x4200.04 GuardOverflowTotal (R147). -/
def guardOverflowTotal (n : Nat) : Nat := 0x420004 + 0x100 * n
/-- 0x4200.05 TrapTotal (R147). -/
def trapTotal (n : Nat) : Nat := 0x420005 + 0x100 * n
/-- 0x4300.01 FaultHistory (R147). -/
def faultHistory (n i : Nat) : Nat := 0x430001 + 0x100 * n + i
/-- 0x4800.01 GroupFaultPolicy (R147). -/
def groupFaultPolicy (i : Nat) : Nat := 0x480001 + 0x100 * (i / 128) + i % 128
/-- 0x3100.01 EngineShare (R257). -/
def engineShare (i : Nat) : Nat := 0x310001 + i
/-- 0x3100.09 FarReservation (R257). -/
def farReservation : Nat := 0x310009
/-- 0x3100.0A PortReservation (R257). -/
def portReservation : Nat := 0x31000A
/-- 0x3100.0B DmaFloor (R257). -/
def dmaFloor : Nat := 0x31000B
/-- 0x3100.0C ReleasedLastTick (R257). -/
def releasedLastTick : Nat := 0x31000C
/-- 0x3100.0D DmaServedLastTick (R257). -/
def dmaServedLastTick : Nat := 0x31000D
/-- 0x3100.0E OrbitLate (R257). -/
def orbitLate : Nat := 0x31000E
/-- 0x3180.01 DescriptorsUsed (R288). -/
def descriptorsUsed (n : Nat) : Nat := 0x318001 + 0x100 * n
/-- 0x3180.02 ClampEvents (R288). -/
def clampEvents (n : Nat) : Nat := 0x318002 + 0x100 * n
/-- 0x3180.03 LastClampedLine (R288). -/
def lastClampedLine (n : Nat) : Nat := 0x318003 + 0x100 * n
/-- 0x3180.04 FarLines (R288). -/
def farLines (n : Nat) : Nat := 0x318004 + 0x100 * n
/-- 0x3180.05 FarDeadlineMisses (R288). -/
def farDeadlineMisses (n : Nat) : Nat := 0x318005 + 0x100 * n
/-- 0x3180.06 SpanPendingLines (R288). -/
def spanPendingLines (n : Nat) : Nat := 0x318006 + 0x100 * n
/-- 0x3190.01 FacetGroupsClosed (R321). -/
def facetGroupsClosed (n : Nat) : Nat := 0x319001 + 0x100 * n
/-- 0x3190.02 FacetSaturations (R321). -/
def facetSaturations (n : Nat) : Nat := 0x319002 + 0x100 * n
/-- 0x3190.03 FacetUnclosedGroups (R321). -/
def facetUnclosedGroups (n : Nat) : Nat := 0x319003 + 0x100 * n
/-- 0x3190.04 FacetTagErrors (R321). -/
def facetTagErrors (n : Nat) : Nat := 0x319004 + 0x100 * n
/-- 0x4400.01 ActiveBank (R359). -/
def activeBank (n : Nat) : Nat := 0x440001 + 0x100 * n
/-- 0x4400.02 ActiveGeneration (R359). -/
def activeGeneration (n : Nat) : Nat := 0x440002 + 0x100 * n
/-- 0x4400.03 StalePages (R359). -/
def stalePages (n : Nat) : Nat := 0x440003 + 0x100 * n
/-- 0x4400.04 GlideEntriesUsed (R359). -/
def glideEntriesUsed (n : Nat) : Nat := 0x440004 + 0x100 * n
/-- 0x4400.05 HeldWrites (R359). -/
def heldWrites (n : Nat) : Nat := 0x440005 + 0x100 * n
/-- 0x4400.06 LevelledRows (R359). -/
def levelledRows (n : Nat) : Nat := 0x440006 + 0x100 * n
/-- 0x5400.01 UpdateSetGlide (R359). -/
def updateSetGlide : Nat := 0x540001
/-- 0x5400.02 Commit (R359). -/
def commit : Nat := 0x540002
/-- 0x5400.03 UpdateSetAbort (R359). -/
def updateSetAbort : Nat := 0x540003
/-- 0x5400.04 LastCommitGeneration (R359). -/
def lastCommitGeneration : Nat := 0x540004
/-- 0x5400.05 OpenSets (R359). -/
def openSets : Nat := 0x540005
/-- 0x5400.06 CommitsDeferred (R359). -/
def commitsDeferred : Nat := 0x540006
/-- 0x5400.07 GenerationCounter (R359). -/
def generationCounter : Nat := 0x540007
/-- 0x5410.01 CommitGeneration (R359). -/
def commitGeneration (i : Nat) : Nat := 0x541001 + i
/-- 0x5411.01 CommitState (R359). -/
def commitState (i : Nat) : Nat := 0x541101 + i
/-- 0x5412.01 CommitTick (R359). -/
def commitTick (i : Nat) : Nat := 0x541201 + i
/-- 0x5000.01 GraphState (R412). -/
def graphState : Nat := 0x500001
/-- 0x5000.02 GraphId (R412). -/
def graphId : Nat := 0x500002
/-- 0x5000.03 GraphImage (R412). -/
def graphImage : Nat := 0x500003
/-- 0x5000.04 GraphUnload (R412). -/
def graphUnload : Nat := 0x500004
/-- 0x5000.05 Reoptimise (R412). -/
def reoptimise : Nat := 0x500005
/-- 0x5000.06 PlacementChanges (R412). -/
def placementChanges : Nat := 0x500006
/-- 0x5000.07 DrainDevice (R412). -/
def drainDevice : Nat := 0x500007
/-- 0x5000.08 GraphStartTick (R412). -/
def graphStartTick : Nat := 0x500008
/-- 0x5100.01 DiagCode (R412). -/
def diagCode : Nat := 0x510001
/-- 0x5100.02 DiagTable (R412). -/
def diagTable : Nat := 0x510002
/-- 0x5100.03 DiagEntry (R412). -/
def diagEntry : Nat := 0x510003
/-- 0x5100.04 DiagDetail (R412). -/
def diagDetail : Nat := 0x510004
/-- 0x5100.05 DiagNeed (R412). -/
def diagNeed : Nat := 0x510005
/-- 0x5100.06 DiagHave (R412). -/
def diagHave : Nat := 0x510006
/-- 0x5100.07 DiagDevice (R412). -/
def diagDevice : Nat := 0x510007
/-- 0x5100.08 DiagEngine (R412). -/
def diagEngine : Nat := 0x510008
/-- 0x5200.01 EdgeLatency (R412). -/
def edgeLatency (i : Nat) : Nat := 0x520001 + 0x100 * (i / 128) + i % 128
/-- 0x5280.01 EdgeFirstGroup (R412). -/
def edgeFirstGroup (i : Nat) : Nat := 0x528001 + 0x100 * (i / 128) + i % 128
/-- 0x5300.01 PathLatency (R412). -/
def pathLatency (i : Nat) : Nat := 0x530001 + 0x100 * (i / 128) + i % 128
/-- 0x5500.01 MigrateRequest (R412). -/
def migrateRequest : Nat := 0x550001
/-- 0x5500.02 MigrationState (R412). -/
def migrationState : Nat := 0x550002
/-- 0x5500.03 MigrationBlock (R412). -/
def migrationBlock : Nat := 0x550003
/-- 0x5500.04 MigrationFrom (R412). -/
def migrationFrom : Nat := 0x550004
/-- 0x5500.05 MigrationTo (R412). -/
def migrationTo : Nat := 0x550005
/-- 0x5500.06 MigrationSwitchTick (R412). -/
def migrationSwitchTick : Nat := 0x550006
/-- 0x5500.07 MigrationMethod (R412). -/
def migrationMethod : Nat := 0x550007
/-- 0x5500.08 MigrationsCompleted (R412). -/
def migrationsCompleted : Nat := 0x550008
/-- 0x5500.09 MigrationsAbandoned (R412). -/
def migrationsAbandoned : Nat := 0x550009
/-- 0x5500.0A MigrationCause (R412). -/
def migrationCause : Nat := 0x55000A
/-- 0x5600.01 BlockPlace (R412). -/
def blockPlace (i : Nat) : Nat := 0x560001 + 0x100 * (i / 128) + i % 128
/-- 0x0000.01 VendorId (R470). -/
def vendorId : Nat := 0x000001
/-- 0x0000.02 DeviceId (R470). -/
def deviceId : Nat := 0x000002
/-- 0x0000.03 SiliconStep (R470). -/
def siliconStep : Nat := 0x000003
/-- 0x0000.04 SpeedGrade (R470). -/
def speedGrade : Nat := 0x000004
/-- 0x0000.05 ExtendedScreen (R470). -/
def extendedScreen : Nat := 0x000005
/-- 0x0000.06 Uid (R470). -/
def uid : Nat := 0x000006
/-- 0x0000.07 RomVersion (R470). -/
def romVersion : Nat := 0x000007
/-- 0x0000.08 LpddrCapacity (R470). -/
def lpddrCapacity : Nat := 0x000008
/-- 0x0000.09 DeviceName (R470). -/
def deviceName : Nat := 0x000009
/-- 0x0000.0A FabricAddress (R470). -/
def fabricAddress : Nat := 0x00000A
/-- 0x0010.01 DictionaryFormat (R470). -/
def dictionaryFormat : Nat := 0x001001
/-- 0x0010.02 ParameterCount (R470). -/
def parameterCount : Nat := 0x001002
/-- 0x0010.03 LastError (R470). -/
def lastError : Nat := 0x001003
/-- 0x0010.04 LastErrorObject (R470). -/
def lastErrorObject : Nat := 0x001004
/-- 0x0010.05 RequestsServed (R470). -/
def requestsServed : Nat := 0x001005
/-- 0x0010.06 BusyResponses (R470). -/
def busyResponses : Nat := 0x001006
/-- 0x0010.07 FirmwareQueueDepth (R470). -/
def firmwareQueueDepth : Nat := 0x001007
/-- 0x0010.08 FirmwareDeadline (R470). -/
def firmwareDeadline : Nat := 0x001008
/-- 0x0010.09 DomainStagingFree (R470). -/
def domainStagingFree : Nat := 0x001009
/-- 0x0010.0A DomainTimeout (R470). -/
def domainTimeout : Nat := 0x00100A
/-- 0x0010.0B DomainAborts (R470). -/
def domainAborts : Nat := 0x00100B
/-- 0x0100.01 DeviceStatus (R470). -/
def deviceStatus : Nat := 0x010001
/-- 0x0100.02 ResetCause (R470). -/
def resetCause : Nat := 0x010002
/-- 0x0100.03 ResetCount (R470). -/
def resetCount : Nat := 0x010003
/-- 0x0110.01 EngineLoad (R470). -/
def engineLoad (i : Nat) : Nat := 0x011001 + i
/-- 0x0110.09 DeviceLoad (R470). -/
def deviceLoad : Nat := 0x011009
/-- 0x0200.01 EventCount (R470). -/
def eventCount : Nat := 0x020001
/-- 0x0200.02 EventsLost (R470). -/
def eventsLost : Nat := 0x020002
/-- 0x0210.01 EventClassMask (R470). -/
def eventClassMask : Nat := 0x021001
/-- 0x0210.02 Irq1Classes (R470). -/
def irq1Classes : Nat := 0x021002
/-- 0x0221.01 EventHistoryTick (R470). -/
def eventHistoryTick (i : Nat) : Nat := 0x022101 + i
/-- 0x0222.01 EventHistoryCode (R470). -/
def eventHistoryCode (i : Nat) : Nat := 0x022201 + i
/-- 0x0223.01 EventHistoryData (R470). -/
def eventHistoryData (i : Nat) : Nat := 0x022301 + i
/-- 0x6100.01 FabricWriteRestrict (R470). -/
def fabricWriteRestrict : Nat := 0x610001
/-- 0x6100.02 FabricReadRestrict (R470). -/
def fabricReadRestrict : Nat := 0x610002
/-- 0x6100.03 RightsDenials (R470). -/
def rightsDenials : Nat := 0x610003
/-- 0x6110.01 FabricAllow (R470). -/
def fabricAllow (i : Nat) : Nat := 0x611001 + i
/-- 0x6200.01 SessionsInUse (R470). -/
def sessionsInUse : Nat := 0x620001
/-- 0x6200.02 SessionIdleRelease (R470). -/
def sessionIdleRelease : Nat := 0x620002
/-- 0x6200.03 ProxyTarget (R470). -/
def proxyTarget : Nat := 0x620003
/-- 0x6200.04 ProxyTimeout (R470). -/
def proxyTimeout : Nat := 0x620004
/-- 0x6200.05 RemoteTimeouts (R470). -/
def remoteTimeouts : Nat := 0x620005
/-- 0x6000.01 LocusWriteSeq (R495). -/
def locusWriteSeq : Nat := 0x600001
/-- 0x6000.02 LocusFreeSlots (R495). -/
def locusFreeSlots : Nat := 0x600002
/-- 0x6000.03 LocusChain (R495). -/
def locusChain : Nat := 0x600003
/-- 0x6000.04 LocusDrainEnable (R495). -/
def locusDrainEnable : Nat := 0x600004
/-- 0x6000.05 LpddrRingBase (R495). -/
def lpddrRingBase : Nat := 0x600005
/-- 0x6000.06 LpddrRingLog2 (R495). -/
def lpddrRingLog2 : Nat := 0x600006
/-- 0x6000.07 LocusDrainSeq (R495). -/
def locusDrainSeq : Nat := 0x600007
/-- 0x6000.08 LocusAckSeq (R495). -/
def locusAckSeq : Nat := 0x600008
/-- 0x6000.09 LocusRetainMode (R495). -/
def locusRetainMode : Nat := 0x600009
/-- 0x6000.0A LocusOverwritten (R495). -/
def locusOverwritten : Nat := 0x60000A
/-- 0x6000.0B LocusDrainHalts (R495). -/
def locusDrainHalts : Nat := 0x60000B
/-- 0x6000.0C LocusRecordsLost (R495). -/
def locusRecordsLost : Nat := 0x60000C
/-- 0x6000.0D LocusStrictRefusals (R495). -/
def locusStrictRefusals : Nat := 0x60000D
/-- 0x6000.0E LocusReadFrom (R495). -/
def locusReadFrom : Nat := 0x60000E
/-- 0x6000.0F LocusFilter (R495). -/
def locusFilter : Nat := 0x60000F
/-- 0x6000.10 LocusWindow (R495). -/
def locusWindow : Nat := 0x600010
/-- 0x6000.11 LocusSummarySeq (R495). -/
def locusSummarySeq : Nat := 0x600011
/-- 0x6000.12 LocusSummaryPeriod (R495). -/
def locusSummaryPeriod : Nat := 0x600012
/-- 0x1000.01 PortEnable (R529). -/
def portEnable (n : Nat) : Nat := 0x100001 + 0x10000 * n
/-- 0x1000.02 PortState (R529). -/
def portState (n : Nat) : Nat := 0x100002 + 0x10000 * n
/-- 0x1000.03 SapFormat (R529). -/
def sapFormat (n : Nat) : Nat := 0x100003 + 0x10000 * n
/-- 0x1000.04 PartnerRate (R529). -/
def partnerRate (n : Nat) : Nat := 0x100004 + 0x10000 * n
/-- 0x1000.05 ConverterMode (R529). -/
def converterMode (n : Nat) : Nat := 0x100005 + 0x10000 * n
/-- 0x1000.06 MeasuredPartnerRate (R529). -/
def measuredPartnerRate (n : Nat) : Nat := 0x100006 + 0x10000 * n
/-- 0x1000.07 DetectedSlots (R529). -/
def detectedSlots (n : Nat) : Nat := 0x100007 + 0x10000 * n
/-- 0x1000.08 InputFramingDelay (R529). -/
def inputFramingDelay (n : Nat) : Nat := 0x100008 + 0x10000 * n
/-- 0x1000.09 OutputFramingDelay (R529). -/
def outputFramingDelay (n : Nat) : Nat := 0x100009 + 0x10000 * n
/-- 0x1000.0A FrameErrors (R529). -/
def frameErrors (n : Nat) : Nat := 0x10000A + 0x10000 * n
/-- 0x1000.0B ClockLosses (R529). -/
def clockLosses (n : Nat) : Nat := 0x10000B + 0x10000 * n
/-- 0x1000.0C OutputSaturations (R529). -/
def outputSaturations (n : Nat) : Nat := 0x10000C + 0x10000 * n
/-- 0x1001.01 InConvState (R529). -/
def inConvState (n : Nat) : Nat := 0x100101 + 0x10000 * n
/-- 0x1001.02 InConvGroupDelay (R529). -/
def inConvGroupDelay (n : Nat) : Nat := 0x100102 + 0x10000 * n
/-- 0x1001.03 InConvRatio (R529). -/
def inConvRatio (n : Nat) : Nat := 0x100103 + 0x10000 * n
/-- 0x1001.04 InConvUnlocks (R529). -/
def inConvUnlocks (n : Nat) : Nat := 0x100104 + 0x10000 * n
/-- 0x1002.01 OutConvState (R529). -/
def outConvState (n : Nat) : Nat := 0x100201 + 0x10000 * n
/-- 0x1002.02 OutConvGroupDelay (R529). -/
def outConvGroupDelay (n : Nat) : Nat := 0x100202 + 0x10000 * n
/-- 0x1002.03 OutConvRatio (R529). -/
def outConvRatio (n : Nat) : Nat := 0x100203 + 0x10000 * n
/-- 0x1002.04 OutConvUnlocks (R529). -/
def outConvUnlocks (n : Nat) : Nat := 0x100204 + 0x10000 * n
/-- 0x1010.01 MclkEnable (R529). -/
def mclkEnable (n : Nat) : Nat := 0x101001 + 0x10000 * n
/-- 0x1010.02 MclkDivider (R529). -/
def mclkDivider (n : Nat) : Nat := 0x101002 + 0x10000 * n
/-- 0x1010.03 MclkDelay (R529). -/
def mclkDelay (n : Nat) : Nat := 0x101003 + 0x10000 * n
/-- 0x1400.01 LinkEnable (R573). -/
def linkEnable (n : Nat) : Nat := 0x140001 + 0x10000 * n
/-- 0x1400.02 LinkState (R573). -/
def linkState (n : Nat) : Nat := 0x140002 + 0x10000 * n
/-- 0x1400.03 LaneCount (R573). -/
def laneCount (n : Nat) : Nat := 0x140003 + 0x10000 * n
/-- 0x1400.04 LanesTrained (R573). -/
def lanesTrained (n : Nat) : Nat := 0x140004 + 0x10000 * n
/-- 0x1400.05 LaneMap (R573). -/
def laneMap (n : Nat) : Nat := 0x140005 + 0x10000 * n
/-- 0x1400.06 OneWayDelay (R573). -/
def oneWayDelay (n : Nat) : Nat := 0x140006 + 0x10000 * n
/-- 0x1400.07 ErrorLimit (R573). -/
def errorLimit (n : Nat) : Nat := 0x140007 + 0x10000 * n
/-- 0x1400.08 TxEqualisation (R573). -/
def txEqualisation (n : Nat) : Nat := 0x140008 + 0x10000 * n
/-- 0x1400.09 RunsOriginated (R573). -/
def runsOriginated (n : Nat) : Nat := 0x140009 + 0x10000 * n
/-- 0x1400.0A RunsForwarded (R573). -/
def runsForwarded (n : Nat) : Nat := 0x14000A + 0x10000 * n
/-- 0x1400.0B AudioBlocksReserved (R573). -/
def audioBlocksReserved (n : Nat) : Nat := 0x14000B + 0x10000 * n
/-- 0x1401.01 BlockErrors (R573). -/
def blockErrors (n : Nat) : Nat := 0x140101 + 0x10000 * n
/-- 0x1401.02 HeaderCrcErrors (R573). -/
def headerCrcErrors (n : Nat) : Nat := 0x140102 + 0x10000 * n
/-- 0x1401.03 CellCrcErrors (R573). -/
def cellCrcErrors (n : Nat) : Nat := 0x140103 + 0x10000 * n
/-- 0x1401.04 CellRetransmits (R573). -/
def cellRetransmits (n : Nat) : Nat := 0x140104 + 0x10000 * n
/-- 0x1401.05 LateForwardBlocks (R573). -/
def lateForwardBlocks (n : Nat) : Nat := 0x140105 + 0x10000 * n
/-- 0x1401.06 MissingRuns (R573). -/
def missingRuns (n : Nat) : Nat := 0x140106 + 0x10000 * n
/-- 0x1401.07 FramesDiscarded (R573). -/
def linkFramesDiscarded (n : Nat) : Nat := 0x140107 + 0x10000 * n
/-- 0x1401.08 FacetSaturations (R573). -/
def linkFacetSaturations (n : Nat) : Nat := 0x140108 + 0x10000 * n
/-- 0x1401.09 FacetTagErrors (R573). -/
def linkFacetTagErrors (n : Nat) : Nat := 0x140109 + 0x10000 * n
/-- 0x1401.0A LinkRetrains (R573). -/
def linkRetrains (n : Nat) : Nat := 0x14010A + 0x10000 * n
/-- 0x1401.0B WindowErrors (R573). -/
def windowErrors (n : Nat) : Nat := 0x14010B + 0x10000 * n
/-- 0x1C00.01 FabricState (R612). -/
def fabricState : Nat := 0x1C0001
/-- 0x1C00.02 OriginPriority (R612). -/
def originPriority : Nat := 0x1C0002
/-- 0x1C00.03 RequestedAddress (R612). -/
def requestedAddress : Nat := 0x1C0003
/-- 0x1C00.04 OriginUid (R612). -/
def originUid : Nat := 0x1C0004
/-- 0x1C00.05 OriginAddress (R612). -/
def originAddress : Nat := 0x1C0005
/-- 0x1C00.06 FabricEpoch (R612). -/
def fabricEpoch : Nat := 0x1C0006
/-- 0x1C00.07 MemberCount (R612). -/
def memberCount : Nat := 0x1C0007
/-- 0x1C00.08 TorusX (R612). -/
def torusX : Nat := 0x1C0008
/-- 0x1C00.09 TorusY (R612). -/
def torusY : Nat := 0x1C0009
/-- 0x1C00.0A Coordinates (R612). -/
def coordinates : Nat := 0x1C000A
/-- 0x1C00.0B MergePolicy (R612). -/
def mergePolicy : Nat := 0x1C000B
/-- 0x1C00.0C OriginSettle (R612). -/
def originSettle : Nat := 0x1C000C
/-- 0x1C10.01 TimeState (R612). -/
def timeState : Nat := 0x1C1001
/-- 0x1C10.02 OriginOffset (R612). -/
def originOffset : Nat := 0x1C1002
/-- 0x1C10.03 TimeDepth (R612). -/
def timeDepth : Nat := 0x1C1003
/-- 0x1C10.04 TimeParent (R612). -/
def timeParent : Nat := 0x1C1004
/-- 0x1C11.01 LinkTickOffset (R612). -/
def linkTickOffset (i : Nat) : Nat := 0x1C1101 + i
/-- 0x1C11.05 LinkRunEligible (R612). -/
def linkRunEligible (i : Nat) : Nat := 0x1C1105 + i
/-- 0x1C20.01 RouteTable (R612). -/
def routeTable : Nat := 0x1C2001
/-- 0x1C20.02 RouteActivationTick (R612). -/
def routeActivationTick : Nat := 0x1C2002
/-- 0x1C20.03 RepairsApplied (R612). -/
def repairsApplied : Nat := 0x1C2003
/-- 0x1C20.04 NoRouteDrops (R612). -/
def noRouteDrops : Nat := 0x1C2004
/-- 0x1C20.05 LateRepairs (R612). -/
def lateRepairs : Nat := 0x1C2005
/-- 0x1C20.06 UnprotectedRuns (R612). -/
def unprotectedRuns : Nat := 0x1C2006
/-- 0x1C30.01 ReservationGeneration (R612). -/
def reservationGeneration : Nat := 0x1C3001
/-- 0x1C30.02 ReservationActivationTick (R612). -/
def reservationActivationTick : Nat := 0x1C3002
/-- 0x1C30.03 LateActivations (R612). -/
def lateActivations : Nat := 0x1C3003
/-- 0x1C31.01 TxRunTable (R612). -/
def txRunTable (i : Nat) : Nat := 0x1C3101 + i
/-- 0x1C32.01 RxRunTable (R612). -/
def rxRunTable (i : Nat) : Nat := 0x1C3201 + i
/-- 0x1800.01 HostProfile (R647). -/
def hostProfile : Nat := 0x180001
/-- 0x1800.02 HostDummy (R647). -/
def hostDummy : Nat := 0x180002
/-- 0x1800.03 HostWindowHigh (R647). -/
def hostWindowHigh : Nat := 0x180003
/-- 0x1800.04 HostStatus (R647). -/
def hostStatus : Nat := 0x180004
/-- 0x1800.05 FramesAccepted (R647). -/
def framesAccepted : Nat := 0x180005
/-- 0x1800.06 FramesDiscarded (R647). -/
def hostFramesDiscarded : Nat := 0x180006
/-- 0x1800.07 WriteBufferOverflows (R647). -/
def writeBufferOverflows : Nat := 0x180007
/-- 0x1800.08 OverrunReads (R647). -/
def overrunReads : Nat := 0x180008
/-- 0x1900.01 PeriphRequest (R653). -/
def periphRequest : Nat := 0x190001
/-- 0x1900.02 PeriphResponse (R653). -/
def periphResponse : Nat := 0x190002
/-- 0x1900.03 PeriphState (R653). -/
def periphState : Nat := 0x190003
/-- 0x1900.04 PeriphTransfers (R653). -/
def periphTransfers : Nat := 0x190004
/-- 0x1A00.01 FlashMode (R663). -/
def flashMode : Nat := 0x1A0001
/-- 0x1A00.02 XipBase (R663). -/
def xipBase : Nat := 0x1A0002
/-- 0x1A00.03 FlashCapacity (R663). -/
def flashCapacity : Nat := 0x1A0003
/-- 0x1A00.04 XipFills (R663). -/
def xipFills : Nat := 0x1A0004
/-- 0x1A00.05 XipFetchFaults (R663). -/
def xipFetchFaults : Nat := 0x1A0005
/-- 0x1A00.06 XipLastFault (R663). -/
def xipLastFault : Nat := 0x1A0006
/-- 0x3800.01 ChannelPriority (R688). -/
def channelPriority (n : Nat) : Nat := 0x380001 + 0x100 * n
/-- 0x3800.02 RetryLimit (R688). -/
def retryLimit (n : Nat) : Nat := 0x380002 + 0x100 * n
/-- 0x3800.03 ChannelHead (R688). -/
def channelHead (n : Nat) : Nat := 0x380003 + 0x100 * n
/-- 0x3800.04 Doorbell (R688). -/
def doorbell (n : Nat) : Nat := 0x380004 + 0x100 * n
/-- 0x3800.05 ChannelState (R688). -/
def channelState (n : Nat) : Nat := 0x380005 + 0x100 * n
/-- 0x3800.06 CurrentDescriptor (R688). -/
def currentDescriptor (n : Nat) : Nat := 0x380006 + 0x100 * n
/-- 0x3800.07 ChannelRemaining (R688). -/
def channelRemaining (n : Nat) : Nat := 0x380007 + 0x100 * n
/-- 0x3800.08 LastResult (R688). -/
def lastResult (n : Nat) : Nat := 0x380008 + 0x100 * n
/-- 0x3800.09 ChannelStop (R688). -/
def channelStop (n : Nat) : Nat := 0x380009 + 0x100 * n
/-- 0x3800.0A ChannelResume (R688). -/
def channelResume (n : Nat) : Nat := 0x38000A + 0x100 * n
/-- 0x3800.0B LostWords (R688). -/
def lostWords (n : Nat) : Nat := 0x38000B + 0x100 * n
/-- 0x3800.0C RemoteTimeout (R688). -/
def remoteTimeout (n : Nat) : Nat := 0x38000C + 0x100 * n
/-- 0x3800.0D BytesMoved (R688). -/
def bytesMoved (n : Nat) : Nat := 0x38000D + 0x100 * n
/-- 0x3800.0E Halts (R688). -/
def halts (n : Nat) : Nat := 0x38000E + 0x100 * n
/-- 0x3800.0F BulkDiscards (R688). -/
def bulkDiscards (n : Nat) : Nat := 0x38000F + 0x100 * n
/-- 0x3000.01 CorrectedWords (R728). -/
def correctedWords : Nat := 0x300001
/-- 0x3000.02 UncorrectableWords (R728). -/
def uncorrectableWords : Nat := 0x300002
/-- 0x3000.03 PagesRecovered (R728). -/
def pagesRecovered : Nat := 0x300003
/-- 0x3000.04 PagesReloaded (R728). -/
def pagesReloaded : Nat := 0x300004
/-- 0x3000.05 PagesZeroed (R728). -/
def pagesZeroed : Nat := 0x300005
/-- 0x3000.06 PoisonedPages (R728). -/
def poisonedPages : Nat := 0x300006
/-- 0x3000.07 StormLimit (R728). -/
def stormLimit : Nat := 0x300007
/-- 0x3000.08 RecoveryQueueOverflows (R728). -/
def recoveryQueueOverflows : Nat := 0x300008
/-- 0x3000.09 CorrectionLogOverflows (R728). -/
def correctionLogOverflows : Nat := 0x300009
/-- 0x3000.0A PartialWritesRefused (R728). -/
def partialWritesRefused : Nat := 0x30000A
/-- 0x3000.0B IoPoisonReads (R728). -/
def ioPoisonReads : Nat := 0x30000B
/-- 0x3000.0C RepairSwaps (R728). -/
def repairSwaps : Nat := 0x30000C
/-- 0x3000.0D StaticPagesStale (R728). -/
def staticPagesStale : Nat := 0x30000D
/-- 0x3010.01 ScrubEnable (R728). -/
def scrubEnable : Nat := 0x301001
/-- 0x3010.02 OrbitLap (R728). -/
def orbitLap : Nat := 0x301002
/-- 0x3010.03 EngineLap (R728). -/
def engineLap : Nat := 0x301003
/-- 0x3010.04 HullLap (R728). -/
def hullLap : Nat := 0x301004
/-- 0x3010.05 KeepLap (R728). -/
def keepLap : Nat := 0x301005
/-- 0x3010.06 LpddrLap (R728). -/
def lpddrLap : Nat := 0x301006
/-- 0x3010.07 LpddrScrubRate (R728). -/
def lpddrScrubRate : Nat := 0x301007
/-- 0x3020.01 PoisonMap (R728). -/
def poisonMap : Nat := 0x302001
/-- 0x3020.02 LastUncorrectable (R728). -/
def lastUncorrectable : Nat := 0x302002
/-- 0x3030.01 FuseRepairsUsed (R728). -/
def fuseRepairsUsed : Nat := 0x303001
/-- 0x3030.02 SoftRepairEntries (R728). -/
def softRepairEntries : Nat := 0x303002
/-- 0x3030.03 SoftRepairCandidates (R728). -/
def softRepairCandidates : Nat := 0x303003
/-- 0x3030.04 SpareExhausted (R728). -/
def spareExhausted : Nat := 0x303004
/-- 0x3030.05 SoftRepairEnable (R728). -/
def softRepairEnable : Nat := 0x303005
/-- 0x3040.01 RangeBase (R728). -/
def rangeBase : Nat := 0x304001
/-- 0x3040.02 RangeLength (R728). -/
def rangeLength : Nat := 0x304002
/-- 0x3040.03 RangeStart (R728). -/
def rangeStart : Nat := 0x304003
/-- 0x3040.04 RangeState (R728). -/
def rangeState : Nat := 0x304004
/-- 0x3040.05 RangeWordsRead (R728). -/
def rangeWordsRead : Nat := 0x304005
/-- 0x3040.06 RangeCorrected (R728). -/
def rangeCorrected : Nat := 0x304006
/-- 0x3040.07 RangeUncorrectable (R728). -/
def rangeUncorrectable : Nat := 0x304007
/-- 0x3040.08 RangePagesRecovered (R728). -/
def rangePagesRecovered : Nat := 0x304008
/-- 0x3040.09 RangePagesReloadedOrZeroed (R728). -/
def rangePagesReloadedOrZeroed : Nat := 0x304009
/-- 0x3050.01 TestEnable (R728). -/
def testEnable : Nat := 0x305001
/-- 0x3050.02 TestLap (R728). -/
def testLap : Nat := 0x305002
/-- 0x3050.03 TestFailures (R728). -/
def testFailures : Nat := 0x305003
/-- 0x3050.04 FullTest (R728). -/
def fullTest : Nat := 0x305004
/-- 0x3060.01 OrbitPowerBank (R728). -/
def orbitPowerBank (i : Nat) : Nat := 0x306001 + i
/-- 0x3061.01 EnginePowerBank (R728). -/
def enginePowerBank (i : Nat) : Nat := 0x306101 + i
/-- 0x3062.01 HullPowerBank (R728). -/
def hullPowerBank (i : Nat) : Nat := 0x306201 + i
/-- 0x7000.01 BootSlot (R771). -/
def bootSlot : Nat := 0x700001
/-- 0x7000.02 BootGeneration (R771). -/
def bootGeneration : Nat := 0x700002
/-- 0x7000.03 BootSecVer (R771). -/
def bootSecVer : Nat := 0x700003
/-- 0x7000.04 BootKeySlot (R771). -/
def bootKeySlot : Nat := 0x700004
/-- 0x7000.05 BootConfirmed (R771). -/
def bootConfirmed : Nat := 0x700005
/-- 0x7000.06 SlotAResult (R771). -/
def slotAResult : Nat := 0x700006
/-- 0x7000.07 SlotBResult (R771). -/
def slotBResult : Nat := 0x700007
/-- 0x7000.08 BootTime (R771). -/
def bootTime : Nat := 0x700008
/-- 0x7000.09 ConfirmPolicy (R771). -/
def confirmPolicy : Nat := 0x700009
/-- 0x7000.0A ConfirmDelay (R771). -/
def confirmDelay : Nat := 0x70000A
/-- 0x7000.0B ImageConfirm (R771). -/
def imageConfirm : Nat := 0x70000B
/-- 0x7100.01 RollbackCounter (R771). -/
def rollbackCounter : Nat := 0x710001
/-- 0x7100.02 RollbackAdvance (R771). -/
def rollbackAdvance : Nat := 0x710002
/-- 0x7100.03 KeysRevoked (R771). -/
def keysRevoked : Nat := 0x710003
/-- 0x7100.04 KeyRevoke (R771). -/
def keyRevoke : Nat := 0x710004
/-- 0x7100.05 KeySlotsProgrammed (R771). -/
def keySlotsProgrammed : Nat := 0x710005
/-- 0x7100.06 DebugLocked (R771). -/
def debugLocked : Nat := 0x710006
/-- 0x7100.07 SecurityOptions (R771). -/
def securityOptions : Nat := 0x710007
/-- 0x7100.08 FuseFailures (R771). -/
def fuseFailures : Nat := 0x710008
/-- 0x7100.09 AutoRollback (R771). -/
def autoRollback : Nat := 0x710009
/-- 0x7200.01 UpdateImage (R771). -/
def updateImage : Nat := 0x720001
/-- 0x7200.02 UpdateState (R771). -/
def updateState : Nat := 0x720002
/-- 0x7200.03 UpdateTargetSlot (R771). -/
def updateTargetSlot : Nat := 0x720003
/-- 0x7200.04 UpdateResult (R771). -/
def updateResult : Nat := 0x720004
/-- 0x7200.05 UpdateProgress (R771). -/
def updateProgress : Nat := 0x720005
/-- 0x7200.06 UpdateActivate (R771). -/
def updateActivate : Nat := 0x720006
/-- 0x7300.01 LoaderCommand (R771). -/
def loaderCommand : Nat := 0x730001
/-- 0x7300.02 LoaderState (R771). -/
def loaderState : Nat := 0x730002
/-- 0x7300.03 LoaderResult (R771). -/
def loaderResult : Nat := 0x730003
/-- 0x7400.01 KeepSnapshotNow (R771). -/
def keepSnapshotNow : Nat := 0x740001
/-- 0x7400.02 KeepSnapshotPeriod (R771). -/
def keepSnapshotPeriod : Nat := 0x740002
/-- 0x7400.03 KeepLastSeq (R771). -/
def keepLastSeq : Nat := 0x740003
/-- 0x7400.04 KeepRecordsWritten (R771). -/
def keepRecordsWritten : Nat := 0x740004
/-- 0x7400.05 KeepInvalidRecords (R771). -/
def keepInvalidRecords : Nat := 0x740005
/-- 0x7400.07 StartMode (R771). -/
def startMode : Nat := 0x740007
/-- 0x7400.08 KeepUser (R771). -/
def keepUser : Nat := 0x740008
/-- 0x7400.09 KeepSnapshotsDeferred (R771). -/
def keepSnapshotsDeferred : Nat := 0x740009
/-- 0x5800.01 CrossSource (R787). -/
def crossSource (i : Nat) : Nat := 0x580001 + 0x100 * (i / 128) + i % 128
/-- 0x5880.01 CrossGain (R787). -/
def crossGain (i : Nat) : Nat := 0x588001 + 0x100 * (i / 128) + i % 128
/-- 0x5900.01 OutputDelay (R787). -/
def outputDelay (i : Nat) : Nat := 0x590001 + 0x100 * (i / 128) + i % 128
/-- 0x5908.01 DelayReserve (R787). -/
def delayReserve (i : Nat) : Nat := 0x590801 + 0x100 * (i / 128) + i % 128
/-- 0x5A00.01 EqBand (R787). -/
def eqBand (i : Nat) : Nat := 0x5A0001 + 0x100 * (i / 128) + i % 128
/-- 0x5C00.01 MeterPeak (R787). -/
def meterPeak (i : Nat) : Nat := 0x5C0001 + 0x100 * (i / 128) + i % 128
/-- 0x5C08.01 MeterPower (R787). -/
def meterPower (i : Nat) : Nat := 0x5C0801 + 0x100 * (i / 128) + i % 128
/-- 0x5D00.01 SourceGroup (R787). -/
def sourceGroup (i : Nat) : Nat := 0x5D0001 + i
/-- 0x5E00.01 PatchbayState (R787). -/
def patchbayState : Nat := 0x5E0001
/-- 0x5E00.02 DelayPoolFree (R787). -/
def delayPoolFree : Nat := 0x5E0002
/-- 0x5E00.03 SetupTableResult (R787). -/
def setupTableResult : Nat := 0x5E0003
/-- 0x5E00.04 SubscriptionsActive (R787). -/
def subscriptionsActive : Nat := 0x5E0004
/-- 0x2000.01 EngineFrequency (R825). -/
def engineFrequency : Nat := 0x200001
/-- 0x2000.02 EngineSpread (R825). -/
def engineSpread : Nat := 0x200002
/-- 0x2000.03 EnginePllState (R825). -/
def enginePllState : Nat := 0x200003
/-- 0x2000.04 EngineLockLosses (R825). -/
def engineLockLosses : Nat := 0x200004
/-- 0x2001.01 MediaState (R825). -/
def mediaState : Nat := 0x200101
/-- 0x2001.02 MediaFamily (R825). -/
def mediaFamily : Nat := 0x200102
/-- 0x2002.01 PllState (R825). -/
def pllState (i : Nat) : Nat := 0x200201 + i
/-- 0x2002.04 PllLockLosses (R825). -/
def pllLockLosses (i : Nat) : Nat := 0x200204 + i
/-- 0x2003.01 RefState (R825). -/
def refState : Nat := 0x200301
/-- 0x2010.01 ClkOutConfig (R825). -/
def clkOutConfig (i : Nat) : Nat := 0x201001 + i
/-- 0x2300.01 PowerRequest (R825). -/
def powerRequest : Nat := 0x230001
/-- 0x2300.02 PowerState (R825). -/
def powerState : Nat := 0x230002
/-- 0x2300.03 WakeSources (R825). -/
def wakeSources : Nat := 0x230003
/-- 0x2300.04 WakeTimer (R825). -/
def wakeTimer : Nat := 0x230004
/-- 0x2300.05 LastWakeCause (R825). -/
def lastWakeCause : Nat := 0x230005
/-- 0x2300.06 PowerTransitions (R825). -/
def powerTransitions : Nat := 0x230006
/-- 0x2400.01 DieTemperature (R850). -/
def dieTemperature : Nat := 0x240001
/-- 0x2400.02 PeakTemperature (R850). -/
def peakTemperature : Nat := 0x240002
/-- 0x2400.03 WarnThreshold (R850). -/
def warnThreshold : Nat := 0x240003
/-- 0x2400.04 MuteThreshold (R850). -/
def muteThreshold : Nat := 0x240004
/-- 0x2400.05 ShutdownThreshold (R850). -/
def shutdownThreshold : Nat := 0x240005
/-- 0x2400.06 LastShutdownTemperature (R850). -/
def lastShutdownTemperature : Nat := 0x240006
/-- 0x2410.01 RailVoltage (R850). -/
def railVoltage (i : Nat) : Nat := 0x241001 + i
/-- 0x2410.0A RailFaults (R850). -/
def railFaults : Nat := 0x24100A
end O

end Sys2Proof.Machine
end

