-- ==== Sys2Proof/Machine/State.lean ====
section
/-! DEFINITION. The state of the block, its reasons to stop, and the state after reset. -/
namespace Sys2Proof.Machine

/-- Faults: no meaning of this model ends in one. -/
inductive Fault where
  deriving DecidableEq, Repr

/-- Refusals. -/
inductive Refusal where
  /-- Raised by an arm of `exec` whose command has no meaning yet. Safe: the run stops. -/
  | notModelled (mnemonic : String)
  deriving DecidableEq, Repr

/-- The whole block. -/
structure State where
  /-- Commands waiting, first in, first out. -/
  pending : List Instr
  life : Life
  /-- Bytes of the 40-bit bus map that differ from zero. -/
  mem : List Host.Cell
  /-- Addresses of stored code words that are uncorrectable, and that are correctable (R99, R235). -/
  bad : List Nat
  soft : List Nat
  integ : Integrity
  /-- Dictionary objects that have been set, by 24-bit address; any other holds its default. -/
  objs : List (Nat × Nat)
  eng : Vector Engine 8
  io : OrbitIo
  groups : List (Nat × Group)
  mutes : List MuteReason
  /-- Counter for free values (log entry 2). -/
  freeCtr : Nat
  /-- Register access errors (R11) and refused window writes (R47). -/
  regErrors : Nat
  winErrors : Nat
  -- tick and mode
  pendMode : Option (Nat × Nat)
  /-- A Safe-mute cause other than MUTE_N has been set since Safe-mute was entered (R40, R41). -/
  otherCause : Bool
  /-- The frequency word the media PLL moves toward, in 0.001 ppm against REF (R56). -/
  mediaTarget : Int
  /-- The tick-rate sequence under way: the new rate, and whether boundaries have stopped (R83). -/
  rateSeq : Option (Nat × Bool)
  -- dictionary
  sessions : List Session
  resp : Option Resp
  sets : List UpSet
  history : List CommitEntry
  held : List Held
  xyQueue : List XyWrite
  events : List Event
  evHist : List Event
  fwQueue : List FwReq
  /-- The read snapshot of live-state objects copied in the last boundary window, and the one before it, which a read in cycles 0 to 15 of
  the window still returns (R68, R74, R149). -/
  live : List (Nat × Nat)
  liveWas : List (Nat × Nat)
  /-- While the apply step of a queued request runs: the tick of its acceptance (R437). -/
  applyTick : Option Nat
  pendObjs : List (Nat × Nat)
  params : List Param
  -- journal: the open gap, and how many records from 0 up have left the on-chip ring
  gap : Option Gap
  locusFreed : Nat
  locusSum : LocusSum
  til : Tiler
  sap : Vector Sap 4
  link : Vector Link 4
  net : Net
  dma : Dma
  hsp : Hsp
  /-- The peripheral transfers under way, and the words received last (R649, R651). -/
  per : Option (List PerRec)
  perResp : List (BitVec 32)
  xip : Xip
  clk : Clk
  aon : Aon
  board : Board
  test : TestPort
  pb : Patchbay
  /-- The slot image staged for an update (R751). -/
  update : List Byte
  /-- Bytes of the boot flash that differ from 0xFF, the erased value. -/
  flash : List Host.Cell
  /-- Numbers of the burned fuse bits (R745). -/
  fuses : List Nat
  deriving DecidableEq, Repr

/-- Orbit areas at reset: input half 0 readable, output and exchange half 0 written, nothing placed, shares 0. -/
def OrbitIo.reset : OrbitIo :=
  { inHalf := false, outHalf := false, exHalf := false, outBy := [], owners := [], loop := [], exBy := [], exBase0 := 0, exBase1 := 0, exSize := 0,
    exFaulted := [], exRegions := [], privBase := Vector.replicate 8 0, privSize := Vector.replicate 8 0,
    share := Vector.replicate 8 0, pendShare := none }

/-- Memory integrity at reset: nothing found, nothing queued. -/
def Integrity.reset : Integrity :=
  { corrLog := [], record := [], queue := [], poison := [], storm := 0, cut := false, staticPages := [], stalePages := [], softRepairs := [],
    rangePass := none, parity := [], softHits := [], candidates := [] }

/-- The block right after reset. -/
def State.reset : State :=
  { pending := [], life := .inReset, mem := [], bad := [], soft := [], integ := Integrity.reset, objs := [],
    eng := Vector.replicate 8 Engine.reset, io := OrbitIo.reset, groups := [], mutes := [], freeCtr := 0, regErrors := 0,
    winErrors := 0, pendMode := none, otherCause := false, mediaTarget := 0, rateSeq := none, sessions := [], resp := none, sets := [], history := [],
    held := [], xyQueue := [], events := [], evHist := [], fwQueue := [], live := [], liveWas := [], applyTick := none, pendObjs := [], params := [], gap := none, locusFreed := 0, locusSum := LocusSum.reset, til := Tiler.reset, sap := Vector.replicate 4 Sap.reset, link := Vector.replicate 4 Link.reset, net := Net.reset, dma := Dma.reset, hsp := Hsp.reset,
    per := none, perResp := [], xip := Xip.reset, clk := Clk.reset, aon := Aon.reset, board := { lpddrMib := 0 }, test := TestPort.reset, pb := Patchbay.reset, update := [], flash := [], fuses := [1649, 1650, 1651, 1652] }

end Sys2Proof.Machine
end

