-- ==== Sys2Proof/Machine/Ops.lean ====
section
/-! DEFINITION. The shared operations on the state: dictionary objects, events, Safe-mute, uncorrectable words, engines. -/
namespace Sys2Proof.Machine
open Sys2Proof

/-! ### Objects -/

/-- Upsert into a table sorted by key. -/
def oPut : List (Nat × Nat) → Nat → Nat → List (Nat × Nat)
  | [], k, v => [(k, v)]
  | (k', v') :: t, k, v =>
    if k < k' then (k, v) :: (k', v') :: t else if k = k' then (k, v) :: t else (k', v') :: oPut t k v

/-- The default of an object: its row's, and for CrossSource crosspoint 0 of output o is o (R787). -/
def objDefault (a : Nat) : Nat :=
  if 0x580001 ≤ a ∧ a ≤ 0x587F80 ∧ (a % 256 - 1) % 16 = 0 then (a / 256 - 0x5800) * 8 + (a % 256 - 1) / 16
  else match objRow a with
    | some r => r.dflt
    | none => 0

/-- Lookup in a table of objects. -/
def oGet : List (Nat × Nat) → Nat → Option Nat
  | [], _ => none
  | (k, v) :: t, a => if a = k then some v else oGet t a

/-- The stored value of an object. -/
def State.obj (s : State) (a : Nat) : Nat := (oGet s.objs a).getD (objDefault a)

/-- Set an object. -/
def State.setObj (s : State) (a v : Nat) : State := { s with objs := oPut s.objs a v }

/-- Raise a counter object of `w` bits that stops at its maximum. -/
def State.count (s : State) (a w n : Nat) : State := s.setObj a (satAdd w (s.obj a) n)

/-- Several objects set in order. -/
def State.setObjs (s : State) (l : List (Nat × Nat)) : State := l.foldl (fun s p => s.setObj p.1 p.2) s

/-! ### Engines -/

/-- Engine `e` of the block. -/
def State.engine (s : State) (e : Fin 8) : Engine := lane s.eng e

/-- The block with engine `e` replaced. -/
def State.setEngine (s : State) (e : Fin 8) (x : Engine) : State := { s with eng := put s.eng e x }

/-- The block with engine `e` changed by `f`. -/
def State.modEngine (s : State) (e : Fin 8) (f : Engine → Engine) : State := s.setEngine e (f (s.engine e))

/-- All engine numbers. -/
def engines : List (Fin 8) := [0, 1, 2, 3, 4, 5, 6, 7]

/-- Every engine changed. -/
def State.allEngines (s : State) (f : Fin 8 → Engine → Engine) : State := { s with eng := tab (fun e => f e (lane s.eng e)) }

/-- A free word (log entry 2), and the counter advanced. -/
def State.free (s : State) : Word × State := (Config.freeWord s.freeCtr, { s with freeCtr := s.freeCtr + 1 })

/-! ### Events (R464 to R468) -/

/-- TickCount. -/
def State.tick (s : State) : Nat := s.obj O.tickCount

/-- The event queue with one record added, and how many records were lost: the 256th slot is the overflow record (R468). -/
def queueEvent (q : List Event) (r : Event) : List Event × Nat :=
  if q.length < 255 then (q ++ [r], 0)
  else if q.length = 255 then (q ++ [{ tick := r.tick, code := 0x0001, data := 1 }], 1)
  else (q.dropLast ++ (q.getLast?.map (fun x => { x with data := x.data + 1 })).toList, 1)

/-- Raise an event of the boundary of a tick: it enters the history, and the queue if its class is unmasked (R464, R466). -/
def State.eventAt (s : State) (tick code data : Nat) : State :=
  let r : Event := { tick := tick, code := code, data := data }
  let hist := (r :: s.evHist).take 16
  if (s.obj O.eventClassMask).testBit (code / 256) then
    let (q, lost) := queueEvent s.events r
    let hist2 := if s.events.length = 255 then
      (({ tick := r.tick, code := 0x0001, data := 1 } : Event) :: hist).take 16 else hist
    ({ s with events := q, evHist := hist2 }).count O.eventsLost 32 lost
  else { s with evHist := hist }

/-- Raise an event, with the boundary that follows (R464). -/
def State.event (s : State) (code data : Nat) : State := s.eventAt (wrapAdd 48 s.tick 1) code data

/-- The levels of IRQ0_N and IRQ1_N, true for high: low while the queue holds a record, of any class for IRQ0_N and of a class of Irq1Classes
for IRQ1_N (R469). -/
def State.irq0N (s : State) : Bool := s.events.isEmpty
def State.irq1N (s : State) : Bool := s.events.all (fun r => !(s.obj O.irq1Classes).testBit (r.code / 256 % 256))

/-- Whether the TAP offers an instruction: with the debug lock fused only those that R845 lists. -/
def State.tapOffers (s : State) (i : TapInstr) : Bool :=
  match i with
  | .other _ => s.obj O.debugLocked = 0
  | _ => true

/-- The TAP with the level of TRST_N: low holds it in reset (R845). -/
def TestPort.trst (t : TestPort) (high : Bool) : TestPort := if high then { t with trstN := true } else TestPort.reset

/-- An instruction shifted into the TAP while TRST_N is high: taken where it is offered, else BYPASS (R845, log entry 115). -/
def State.tapLoad (s : State) (i : TapInstr) : State :=
  if s.test.trstN then { s with test := { s.test with instr := if s.tapOffers i then i else .bypass } } else s

/-- Whether a sequence of R83 or of R797 runs. -/
def State.inSequence (s : State) : Bool := s.rateSeq.isSome || s.clk.engSeq.isSome

/-! ### Mode and Safe-mute (R28, R36 to R42) -/

/-- OperatingMode. -/
def State.mode (s : State) : Nat := s.obj O.operatingMode

/-- Add a reason for which every output is faded and held at zero. -/
def State.mute (s : State) (r : MuteReason) : State :=
  if r ∈ s.mutes then s else { s with mutes := s.mutes ++ [r] }

/-- Remove such a reason. -/
def State.unmute (s : State) (r : MuteReason) : State := { s with mutes := s.mutes.filter (fun x => x != r) }

/-- The mode changes, with its cause code (R472) and event 0x0100 (R465). -/
def State.enterMode (s : State) (m cause : Nat) : State :=
  let old := s.mode
  ((s.setObj O.operatingMode m).setObj O.modeCause cause).event 0x0100 (m + old * 256 + cause * 2 ^ 32)

/-- Safe-mute is entered with the causes that stand (R28, R38). -/
def State.enterSafeMute (s : State) : State :=
  let resume := match s.pendMode with
    | some (m, _) => m
    | none => s.mode
  let s1 := { s with pendMode := none, otherCause := decide (s.obj O.safeMuteCause ≠ 16) }
  ((s1.setObj O.resumeMode resume).enterMode 6 0x0A).mute .safeMute

/-- A cause that arises in Safe-mute takes precedence over a mode requested for the same boundary: ResumeMode takes that mode (R38, R42). -/
def State.holdRequest (s : State) : State :=
  match s.pendMode with
  | some (m, _) => ({ s with pendMode := none } : State).setObj O.resumeMode m
  | none => s

/-- A Safe-mute cause bit is set: 0 tick source, 1 engine PLL, 2 temperature, 3 fault storm, 4 MUTE_N (R36). In Secure start and below
Run the bit alone is set. -/
def State.raiseCause (s : State) (b : Nat) : State :=
  let old := s.obj O.safeMuteCause
  let new := old ||| 2 ^ b
  let s1 := s.setObj O.safeMuteCause new
  let s1 := if new = old then s1 else s1.event 0x0101 new
  let s1 := if b = 4 then s1 else { s1 with otherCause := true }
  if s.mode = 0 ∨ s.obj O.powerState ≠ 0 then s1
  else if s.mode = 7 then (if b = 4 then s1.mute .muteInService else s1)
  else if s.mode = 6 then s1.holdRequest
  else s1.enterSafeMute

/-- A Safe-mute cause bit is cleared (R39). -/
def State.clearCause (s : State) (b : Nat) : State :=
  let old := s.obj O.safeMuteCause
  let s1 := s.setObj O.safeMuteCause (if old.testBit b then old - 2 ^ b else old)
  if b = 4 then s1.unmute .muteInService else s1

/-! ### Uncorrectable words (R699 to R701, R719, R852) -/

/-- A page enters the recovery queue (R701). -/
def State.queuePage (s : State) (addr : Nat) : State :=
  let page := addr / 4096 * 4096
  if page ∈ s.integ.queue then s
  else if s.integ.queue.length < 32 then { s with integ := { s.integ with queue := s.integ.queue ++ [page] } }
  else s.count O.recoveryQueueOverflows 32 1

/-- One more uncorrectable word in the window of R719; at StormLimit the fault-storm cause is set. -/
def State.stormCount (s : State) : State :=
  let n := s.integ.storm + 1
  let s1 : State := { s with integ := { s.integ with storm := n } }
  if s.obj O.stormLimit ≤ n && !(s.obj O.safeMuteCause).testBit 3 then (s1.event 0x0506 n).raiseCause 3 else s1

/-- The address of an uncorrectable word enters the record, which holds 256 entries (R852). -/
def State.recordBad (s : State) (addr : Nat) : State :=
  if s.integ.record.length < 256 then { s with integ := { s.integ with record := setAdd s.integ.record addr } } else s

/-- A reader finds the word at `addr` uncorrectable: counted once while it stands in the record, its page queued.
Readers are numbered as in event 0x0500 (R730). -/
def State.noteBad (s : State) (reader addr : Nat) : State :=
  if s.integ.record.contains addr then s.queuePage addr
  else
    ((((((s.count O.uncorrectableWords 32 1).setObj O.lastUncorrectable addr).event 0x0500 (addr + reader * 2 ^ 40)).recordBad
      addr).stormCount).queuePage addr)

/-- A reader finds the word at `addr` correctable: delivered corrected and logged for rewrite (R699). -/
def State.noteSoft (s : State) (addr : Nat) : State :=
  if addr ∈ s.integ.corrLog then s
  else if s.integ.corrLog.length < 64 then { s with integ := { s.integ with corrLog := s.integ.corrLog ++ [addr] } }
  else s.count O.correctionLogOverflows 32 1

/-- The word at `addr` has been written with valid codes (R852). -/
def State.cureWord (s : State) (addr : Nat) : State :=
  if addr ∈ s.bad ∨ addr ∈ s.soft then
    { s with bad := setDel s.bad addr, soft := setDel s.soft addr, integ := { s.integ with record := setDel s.integ.record addr } }
  else s

/-- Every word of the range of `n` bytes from `addr` has been written with valid codes. -/
def State.cureRange (s : State) (addr n : Nat) : State :=
  let inside := fun a => decide (addr ≤ a) && decide (a < addr + n)
  { s with bad := s.bad.filter (fun a => !inside a), soft := s.soft.filter (fun a => !inside a),
           integ := { s.integ with record := s.integ.record.filter (fun a => !inside a) } }

/-! ### The bus map (R44, R45) -/

/-- Bus base of the window of engine `e` (R44). -/
def winBase (e : Nat) : Nat := 0x200000000 + e * 0x800000
/-- Bus address of byte `a` of an engine's X memory, Y memory, program memory and coefficient banks (R45). -/
def xBase (e : Nat) : Nat := winBase e
def yBase (e : Nat) : Nat := winBase e + 0x200000
def progBase (e : Nat) : Nat := winBase e + 0x400000
def bankBase (e : Nat) (b : Bool) : Nat := winBase e + (if b then 0x600000 else 0x500000)
/-- Bus base of Orbit memory (R234). -/
def orbitBase : Nat := 0x100000000

/-- Bytes of a code word: 4 in engine memories, 8 elsewhere (R99, R235). -/
def codeWordBytes (a : Nat) : Nat := if 0x200000000 ≤ a ∧ a < 0x204000000 then 4 else 8

/-- Whether an address lies in the range of `n` bytes from `base`. -/
def inRange (base n a : Nat) : Bool := decide (base ≤ a) && decide (a < base + n)

/-- The code word that holds a byte address. -/
def codeWord (a : Nat) : Nat := a / codeWordBytes a * codeWordBytes a

/-- An uncorrectable word that a write of `n` bytes from `addr` covers in part only (R711). -/
def State.partialBad (s : State) (addr n : Nat) : Option Nat :=
  s.bad.find? (fun c => decide (c < addr + n) && decide (addr < c + codeWordBytes c) &&
    !(decide (addr ≤ c) && decide (c + codeWordBytes c ≤ addr + n)))

/-- An uncorrectable word that a read of `n` bytes from `addr` meets. -/
def State.badIn (s : State) (addr n : Nat) : Option Nat :=
  s.bad.find? (fun c => decide (c < addr + n) && decide (addr < c + codeWordBytes c))

/-- A correctable word that an access of `n` bytes from `addr` meets. -/
def State.softIn (s : State) (addr n : Nat) : Option Nat :=
  s.soft.find? (fun c => decide (c < addr + n) && decide (addr < c + codeWordBytes c))

/-- The code words, or lines of Orbit memory, that a write of `n` bytes covers in part: address and bytes (R235, R710). -/
def partialUnits (a n : Nat) : List (Nat × Nat) :=
  let u := if orbitBase ≤ a ∧ a < 0x200000000 then 64 else codeWordBytes a
  if n = 0 then []
  else (((if a % u = 0 then [] else [a / u * u]) ++ (if (a + n) % u = 0 then [] else [(a + n) / u * u])).eraseDups).map (fun p => (p, u))

/-- The correctable words that an access of `n` bytes from `addr` meets. -/
def State.softWords (s : State) (addr n : Nat) : List Nat := s.soft.filter (fun c => decide (c < addr + n) && decide (addr < c + codeWordBytes c))

/-- A reader meets the correctable words of `n` bytes from `addr` (R699). -/
def State.noteSofts (s : State) (addr n : Nat) : State := (s.softWords addr n).foldl State.noteSoft s

/-- Whether an address lies in the program memory of an engine. -/
def isProgAddr (a : Nat) : Bool :=
  decide (0x200000000 ≤ a ∧ a < 0x204000000) && decide (0x400000 ≤ (a - 0x200000000) % 0x800000 ∧ (a - 0x200000000) % 0x800000 < 0x480000)

/-- The array of a page outside the coefficient banks, as a number: each of X, Y and program memory of each engine, Orbit memory, Hull SRAM. -/
def arrayOf (page : Nat) : Nat :=
  if 0x200000000 ≤ page ∧ page < 0x204000000 then page / 0x200000 else if page < 0x1000000000 then page / 0x10000000 else 0x100

/-- Stale pages in their order after a write to page `p`: a page that is being recomputed returns to the end of the order, another that is
stale keeps its place (R344, R853). -/
def staleOrder (l : List Nat) (p : Nat) (recomputed : Bool) : List Nat :=
  if l.contains p then (if recomputed then l.filter (fun x => x != p) ++ [p] else l) else l ++ [p]

/-- A write to a static page outside the coefficient banks marks the page stale (R698); the page that the page coder of its array recomputes
is the oldest of that array (R853). -/
def State.markStale (s : State) (addr : Nat) : State :=
  let page := addr / 4096 * 4096
  if page ∈ s.integ.staticPages ∨ isProgAddr page then
    let st := staleOrder s.integ.stalePages page (s.integ.stalePages.find? (fun p => arrayOf p = arrayOf page) = some page)
    ({ s with integ := { s.integ with stalePages := st } }).setObj O.staticPagesStale st.length
  else s

/-- The low `n` bytes of `v` are stored at bus address `addr`, with valid codes (R710 to R712). -/
def State.store (s : State) (addr n v : Nat) : State :=
  let inside := fun c => decide (addr ≤ c) && decide (c + codeWordBytes c ≤ addr + n)
  let s1 := { s with
    mem := memWrite s.mem addr n v
    bad := s.bad.filter (fun c => !inside c)
    soft := s.soft.filter (fun c => !(decide (c < addr + n) && decide (addr < c + codeWordBytes c)))
    integ := { s.integ with record := s.integ.record.filter (fun c => !inside c) } }
  s1.markStale addr

/-- The number in the `n` bytes at a bus address. -/
def State.load (s : State) (addr n : Nat) : Nat := memRead s.mem addr n

/-- A range of bytes is zeroed, with valid codes. -/
def State.zeroRange (s : State) (addr n : Nat) : State :=
  let s1 : State := { s with mem := memClear s.mem addr n }
  s1.cureRange addr n

/-- The outcome of an exec that always answers a next state. -/
abbrev Out := Host.Outcome State Fault Refusal

/-- Link `k`. -/
def State.linkOf (s : State) (k : Fin 4) : Link := lane s.link k

/-- A number as one of four. -/
def port4 (n : Nat) : Fin 4 := ⟨n % 4, Nat.mod_lt _ (by decide)⟩

end Sys2Proof.Machine
end

