-- ==== Sys2Proof/Machine/Journal.lean ====
section
/-! DEFINITION. The Locus journal: records, chain, rings, gaps (R474 to R490). -/
namespace Sys2Proof.Machine
open Sys2Proof

/-- A journal record before it is laid out (R474). -/
structure Record where
  obj : Nat
  result : Nat
  kind : Nat
  origin : Nat
  digest : Bool
  session : Nat
  port : Nat
  device : Nat
  old : Nat
  new : Nat
  tick : Nat
  deriving DecidableEq, Repr

/-- The 32 bytes of a record; `epoch` is 0 on a device that is not joined (R474). -/
def Record.bytes (r : Record) (epoch : Nat) : List Byte :=
  leBytes 6 r.tick ++ leBytes 2 epoch ++ leBytes 3 r.obj ++ leBytes 1 r.result ++
  leBytes 1 (r.kind * 16 + r.origin * 4 + (if r.digest then 2 else 0)) ++ leBytes 1 r.session ++
  leBytes 2 (r.port * 4096 + r.device % 4096) ++ leBytes 8 r.old ++ leBytes 8 r.new

end Sys2Proof.Machine

namespace Sys2Proof

/-- ORIGIN, SESSION, PORT and DEVICE of a session's request (R474). `kport` is the port of arrival of a FABRIC request. -/
def SessKey.origin : SessKey → Nat
  | .host => 0
  | .fabric _ _ => 1
  | .firm => 2
  | .restore => 3

def SessKey.session : SessKey → Nat
  | .host => 0
  | .fabric _ n => n
  | .firm => 1
  | .restore => 2

def SessKey.port (kport : Nat) : SessKey → Nat
  | .host => 1
  | .fabric _ _ => 2 + kport
  | .firm => 0
  | .restore => 0

def SessKey.device (own : Nat) : SessKey → Nat
  | .fabric d _ => d
  | _ => own

end Sys2Proof

namespace Sys2Proof.Machine

/-- Whether FabricAddress is assigned (R471). -/
def State.joined (s : State) : Bool := s.obj O.fabricAddress != 0xFFFF

/-- The epoch a record carries (R474). -/
def State.recordEpoch (s : State) : Nat := if s.joined then s.obj O.fabricEpoch % 65536 else 0

/-- Free slots of the on-chip ring (R482). -/
def State.locusFree (s : State) : Nat := 65536 - (s.obj O.locusWriteSeq - s.locusFreed)

/-- The journal cannot take a record (R487). -/
def State.journalFull (s : State) : Bool := decide (s.locusFree ≤ 1)

/-- Bus address of record `r` in the on-chip ring (R481). -/
def ringAddr (r : Nat) : Nat := 0x300000000 + 32 * (r % 65536)

/-- The 32 bytes of record `r` in the on-chip ring. -/
def State.ringBytes (s : State) (r : Nat) : List Byte := memBytes s.mem (ringAddr r) 32

/-- Bytes stored at a bus address. -/
def State.storeBytes (s : State) (a : Nat) (l : List Byte) : State := s.store a l.length (leNat l)

/-- A final record enters what the next Keep summary covers (R491). -/
def LocusSum.add (x : LocusSum) (l : List Byte) : LocusSum :=
  let t := leNat (l.take 6)
  { x with count := x.count + 1, firstTick := if x.count = 0 then t else x.firstTick, lastTick := t
           nonOk := if (l.getD 11 0) = 0 then x.nonOk else x.nonOk + 1 }

/-- A record becomes final: the chain value advances over its 32 bytes (R479, R480). -/
def State.makeFinal (s : State) (l : List Byte) : State :=
  ({ s with locusSum := s.locusSum.add l } : State).setObj O.locusChain (crc32c (leBytes 4 (s.obj O.locusChain) ++ l)).toNat

/-- The bytes of a gap record: TICK and EPOCH of the loss that opened it, in NEW the last loss (R474, R477). -/
def Gap.bytes (g : Gap) : List Byte :=
  ({ obj := 0, result := 0, kind := 6, origin := 0, digest := false, session := 0, port := 0, device := 0,
     old := g.lost + g.strict * 2 ^ 32, new := g.lastTick, tick := g.tick } : Record).bytes g.epoch

/-- The open gap record closes and becomes final (R490). -/
def State.closeGap (s : State) : State :=
  match s.gap with
  | none => s
  | some g =>
    if s.locusFree = 0 then s
    else
      (({ s with gap := none, locusSum := { s.locusSum with lost := s.locusSum.lost + g.lost } } : State).makeFinal g.bytes).count O.locusRecordsLost 64 g.lost |>.event 0x0A01 (g.lost + g.strict * 2 ^ 32)

/-- A record cannot be stored: it is counted in the open gap record, or opens one in the last free slot (R489). -/
def State.loseRecord (s : State) (strict : Bool) : State :=
  let g : Gap := match s.gap with
    | some g => { g with lost := if strict then g.lost else g.lost + 1, strict := if strict then g.strict + 1 else g.strict, lastTick := s.tick }
    | none => { seq := s.obj O.locusWriteSeq, lost := if strict then 0 else 1, strict := if strict then 1 else 0, lastTick := s.tick,
                tick := s.tick, epoch := s.recordEpoch }
  let s1 := if s.gap.isNone then (s.setObj O.locusWriteSeq (s.obj O.locusWriteSeq + 1)).event 0x0A00 0 else s
  ({ s1 with gap := some g }).storeBytes (ringAddr g.seq) g.bytes

/-- A record is appended in the order of acceptance, or counted in a gap (R437, R489). -/
def State.journal (s : State) (r : Record) : State :=
  let s1 := s.closeGap
  if s1.gap.isSome || s1.journalFull then s1.loseRecord false
  else
    let q := s1.obj O.locusWriteSeq
    let b := r.bytes s1.recordEpoch
    ((s1.storeBytes (ringAddr q) b).setObj O.locusWriteSeq (q + 1)).makeFinal b

/-- A strict request is refused for want of room (R488, R489). -/
def State.refuseStrict (s : State) : State := (s.count O.locusStrictRefusals 32 1).loseRecord true

/-- The record of a request of session `k`; its TICK is that of acceptance (R437, R474, R475). -/
def State.recordOf (s : State) (k : SessKey) (kport kind obj result old new : Nat) (digest : Bool) : Record :=
  { obj := obj, result := result, kind := kind, origin := k.origin, digest := digest, session := k.session,
    port := k.port kport, device := k.device (s.obj O.fabricAddress), old := old, new := new, tick := s.applyTick.getD s.tick }

end Sys2Proof.Machine
end

