-- ==== Sys2Proof/Machine/KeepRead.lean ====
section
/-! DEFINITION. The Keep store as it is read: areas, valid records, the current record of a KIND (R762, R764). -/
namespace Sys2Proof.Machine
open Sys2Proof

/-- Offset, slot size and number of slots of the area of a KIND (R762). -/
def keepArea (kind : Nat) : Nat × Nat × Nat :=
  if kind = 1 then (0, 0x1000, 16)
  else if kind = 2 then (0x10000, 0x4000, 8)
  else if kind = 4 then (0x30000, 0x80, 4096)
  else if kind = 5 then (0xB0000, 0x10000, 8)
  else (0x130000, 0x200000, 2)

/-- Bus address of slot `i` of an area. -/
def keepSlot (kind i : Nat) : Nat := 0x20000000 + (keepArea kind).1 + i * (keepArea kind).2.1

/-- Payload bytes padded to a multiple of 8. -/
def pad8 (n : Nat) : Nat := (n + 7) / 8 * 8

/-- SEQ of the record that starts at an address. -/
def State.keepSeq (s : State) (a : Nat) : Nat := s.load (a + 8) 8
/-- LENGTH of the record at an address. -/
def State.keepLen (s : State) (a : Nat) : Nat := s.load (a + 16) 4

/-- Whether a slot holds a valid record of its area (R764). -/
def State.keepValid (s : State) (kind i : Nat) : Bool :=
  let a := keepSlot kind i
  let n := pad8 (s.keepLen a)
  s.load a 4 = 0x4B454550 && memByte s.mem (a + 4) = BitVec.ofNat 8 kind && memByte s.mem (a + 5) = 1 &&
  decide (64 + n + 16 ≤ (keepArea kind).2.1) && (s.badIn a (64 + n + 16)).isNone &&
  (crc32c (memBytes s.mem a (64 + n))).toNat = s.load (a + 64 + n) 8 && s.load (a + 72 + n) 8 = 2 ^ 64 - 1 - s.keepSeq a

/-- Slots of an area with a valid record, as pairs of SEQ and slot. -/
def State.keepRecords (s : State) (kind : Nat) : List (Nat × Nat) :=
  ((List.range (keepArea kind).2.2).filter (s.keepValid kind)).map (fun i => (s.keepSeq (keepSlot kind i), i))

/-- The slot of the current record: the valid one with the highest SEQ (R764). -/
def State.keepCurrent (s : State) (kind : Nat) : Option Nat :=
  ((s.keepRecords kind).foldl (fun (acc : Option (Nat × Nat)) p =>
    match acc with
    | none => some p
    | some q => if q.1 < p.1 then some p else some q) none).map (·.2)

/-- Payload of the current record. -/
def State.keepPayload (s : State) (kind : Nat) : Option (List Byte) :=
  (s.keepCurrent kind).map (fun i => let a := keepSlot kind i; memBytes s.mem (a + 64) (s.keepLen a))

end Sys2Proof.Machine
end

