-- ==== Sys2Proof/Machine/Request.lean ====
section
/-! DEFINITION. Dictionary requests: sessions, what a read returns, the checks in order, the response and the record (R417 to R447). -/
namespace Sys2Proof.Machine
open Sys2Proof

/-! ### Sessions (R445 to R447) -/

/-- The per-session state of `k`, or the defaults where it has no entry. -/
def State.session (s : State) (k : SessKey) : Session := (s.sessions.find? (fun x => x.key = k)).getD (Session.fresh k)

/-- Replace or add the entry of a session. -/
def State.setSession (s : State) (x : Session) : State :=
  if s.sessions.any (fun y => y.key = x.key) then { s with sessions := s.sessions.map (fun y => if y.key = x.key then x else y) }
  else { s with sessions := s.sessions ++ [x] }

end Sys2Proof.Machine

namespace Sys2Proof

/-- Whether a session is a fabric session. -/
def SessKey.isFabric : SessKey → Bool
  | .fabric _ _ => true
  | _ => false

end Sys2Proof

namespace Sys2Proof.Machine

/-- Fabric entries in use. -/
def State.fabricSessions (s : State) : Nat := (s.sessions.filter (fun x => x.key.isFabric)).length

/-- Whether session `k` can have an entry (R446). -/
def State.canEnter (s : State) (k : SessKey) : Bool :=
  !k.isFabric || s.sessions.any (fun x => x.key = k) || decide (s.fabricSessions < 64)

/-! ### Derived values -/

/-- A condition as the bit of number `n`. -/
def bitIf (b : Bool) (n : Nat) : Nat := if b then 2 ^ n else 0

/-- DeviceStatus (R471). -/
def State.deviceStatus (s : State) : Nat :=
  bitIf (s.journalFull || s.gap.isSome) 9 + bitIf s.joined 8 + bitIf (s.obj O.hullShedStage != 0) 7 +
  bitIf s.clk.warn 6 +
  bitIf (decide (1 ≤ s.obj O.migrationState) && decide (s.obj O.migrationState ≤ 4)) 5 + bitIf (s.obj O.graphState = 3) 4 +
  bitIf (s.obj O.tickSourceStatus != 0) 3 + bitIf (!s.events.isEmpty) 2 +
  bitIf (engines.any (fun e => faulted (BitVec.ofNat 64 (s.obj (O.faultWord e))))) 1 + bitIf (s.mode = 6) 0

/-- The load of an engine in percent, rounded to nearest with ties to even (R386, R470). -/
def State.engineLoad (s : State) (e : Fin 8) : Nat :=
  let budget := s.obj O.bundleBudget
  let a := if budget = 0 then 0 else (roundHalfEven ((s.engine e).progLen * 100 : Nat) budget).toNat
  let b := (roundHalfEven (lane s.io.share e * 100 : Nat) 64).toNat
  min 100 (max a b)

/-- Entry `i` of a history, newest first. -/
def histField {α : Type} (l : List α) (f : α → Nat) (i : Nat) : Nat := ((l[i]?).map f).getD 0

/-- HSP_STATUS (R646): the flags, and what the port is doing. -/
def State.hostStatus (s : State) : Nat :=
  s.hsp.flags % 128 + bitIf (s.fwQueue.any (fun r => r.key = .host)) 10 + bitIf (decide (2 ≤ s.hsp.buffers.length)) 11 + bitIf s.hsp.fast 12 +
  s.obj O.hostProfile * 2 ^ 13

/-- Values that are not stored under their address but follow from other state. HeldWrites counts the held words of the engine; the spec gives
only its name and range (log entry 145). -/
def State.derived (s : State) (k : SessKey) (a : Nat) : Option Nat :=
  let idx := a / 256
  let sub := a % 256
  let sess := s.session k
  let e : Fin 8 := ⟨idx % 8, Nat.mod_lt _ (by decide)⟩
  let x := s.engine e
  if a = O.lastError then some sess.lastError
  else if a = O.lastErrorObject then some sess.lastErrorObj
  else if a = O.updateSetGlide then some sess.glide
  else if a = O.lastCommitGeneration then some sess.lastGen
  else if a = O.proxyTarget then some sess.proxy
  else if a = O.deviceStatus then some s.deviceStatus
  else if a = O.hostStatus then some s.hostStatus
  else if a = O.fuseRepairsUsed then
    (let bits := s.fuses.filter (fun b => decide (1664 ≤ b))
     some (if bits.isEmpty then 0 else (Config.fuseRepairs bits).toNat))
  else if a = O.releasedLastTick ∨ a = O.dmaServedLastTick then some (if s.tick = 0 then 0 else (Config.orbitUse a s.tick).toNat)
  else if a = O.eventCount then some s.events.length
  else if idx = 0x0221 then some (histField s.evHist (·.tick) (sub - 1))
  else if idx = 0x0222 then some (histField s.evHist (·.code) (sub - 1))
  else if idx = 0x0223 then some (histField s.evHist (·.data) (sub - 1))
  else if idx = 0x5410 then some (histField s.history (·.gen) (sub - 1))
  else if idx = 0x5411 then some (histField s.history (·.state) (sub - 1))
  else if idx = 0x5412 then some (histField s.history (·.tick) (sub - 1))
  else if a = O.firmwareQueueDepth then some s.fwQueue.length
  else if a = O.sessionsInUse then some s.fabricSessions
  else if a = O.locusFreeSlots then some s.locusFree
  else if a = O.openSets then some (s.sets.filter (fun u => u.phase = .opened)).length
  else if a = O.parameterCount then some s.params.length
  else if a = O.poisonedPages then some s.integ.poison.length
  else if idx = 0x0110 then
    some (if sub = 9 then engines.foldl (fun m e => max m (s.engineLoad e)) 0 else s.engineLoad ⟨(sub - 1) % 8, Nat.mod_lt _ (by decide)⟩)
  else if idx = 0x3100 ∧ sub ≤ 8 then some (lane s.io.share ⟨(sub - 1) % 8, Nat.mod_lt _ (by decide)⟩)
  else if 0x4400 ≤ idx ∧ idx ≤ 0x4407 then
    (if sub = 1 then some (if x.bankB then 1 else 0) else if sub = 3 then some x.stale.length
     else if sub = 4 then some x.glides.length
     else if sub = 5 then some ((s.held.flatMap (·.writes)).filter (fun w => w.engine = e.val)).length else none)
  else if 0x3180 ≤ idx ∧ idx ≤ 0x3187 then
    (if sub = 1 then some (x.desc.filter (fun p => p.2.valid)).length
     else if sub = 4 then some (x.desc.filter (fun p => p.2.valid && p.2.loc = 1)).length
     else if sub = 6 then some (x.desc.filter (fun p => p.2.pendSpan.isSome)).length else none)
  else if 0x4100 ≤ idx ∧ idx ≤ 0x4107 then
    (if sub = 1 then some (if x.unified then 1 else 0) else if sub = 4 then some x.progLen else none)
  else none

/-- The graph parameter at an address. -/
def State.param (s : State) (a : Nat) : Option Param := s.params.find? (fun p => p.addr = a)

/-- Bus address of bank word `w` of engine `e`, active or shadow bank. -/
def State.bankAddr (s : State) (e : Nat) (active : Bool) (w : Nat) : Nat :=
  bankBase e ((s.engine ⟨e % 8, Nat.mod_lt _ (by decide)⟩).bankB == active) + 4 * w

/-- Words a read of a graph parameter returns: 1, or all of a DOMAIN. -/
def Param.readWords (p : Param) : Nat := if p.ty = 16 then p.words else 1

/-- The value a read of a graph parameter returns (R353, R461). -/
def State.paramValue (s : State) (p : Param) : Nat :=
  if p.bind = 0 then s.load (s.bankAddr p.engine true p.base) (4 * p.readWords)
  else if p.bind = 1 then s.load p.base (4 * p.readWords)
  else p.lenVal

/-! ### DOMAIN values -/

/-- The digest of a value: CRC-32C and length in bytes (R476). -/
def digestOf (l : List Byte) : Nat := (crc32c l).toNat + l.length % 2 ^ 32 * 2 ^ 32

/-- Bus address of the first bound word of a parameter in force. -/
def State.paramAddr0 (s : State) (p : Param) : Nat := if p.bind = 0 then s.bankAddr p.engine true p.base else p.base

/-- An entry of a run table as it reads: the reserved bits 16 and 12 are zero (R11, R601). -/
def runWord (w : Nat) : Nat := w % 2 ^ 64 - bitIf (w.testBit 16) 16 - bitIf (w.testBit 12) 12

/-- The bytes of a run table: 10,752 entries of 8 bytes (R601). -/
def runTableBytes (t : List (Nat × Nat)) : List Byte := (List.range 10752).flatMap (fun i => leBytes 8 (runWord (aGet 0 t i)))

/-- The value of a DOMAIN object other than LocusWindow. -/
def State.domainBytes (s : State) (a : Nat) : List Byte :=
  match s.param a with
  | some p => memBytes s.mem (s.paramAddr0 p) (4 * p.words)
  | none =>
    if a = O.routeTable then (List.range 4096).map (fun i => BitVec.ofNat 8 (aGet 0xFF s.net.routes i))
    else if a / 256 = O.txRunTable 0 / 256 then runTableBytes (s.linkOf (port4 (a - O.txRunTable 0))).txRuns
    else if a / 256 = O.rxRunTable 0 / 256 then runTableBytes (s.linkOf (port4 (a - O.rxRunTable 0))).rxRuns
    else if a = O.periphResponse then wordsBytes s.perResp
    else if a = O.poisonMap then s.integ.poison.flatMap (leBytes 8)
    else if a = O.keepUser then (s.keepPayload 5).getD []
    else []

/-! ### What a read returns -/

/-- The highest subindex in use at an index, or none where the index holds no object (R417). -/
def State.subCount (s : State) (idx : Nat) : Option Nat :=
  let rows := objRows.filter (fun r => decide (r.idxLo ≤ idx) && decide (idx ≤ r.idxHi) && (idx - r.idxLo) % r.stride == 0)
  let ps := s.params.filter (fun p => p.addr / 256 = idx)
  if rows.isEmpty && ps.isEmpty then none
  else some (ps.foldl (fun m p => max m (p.addr % 256)) (rows.foldl (fun m r => max m r.subHi) 0))

/-- The value a read of an existing object returns. -/
def State.readObj (s : State) (k : SessKey) (a : Nat) : Nat :=
  if a % 256 = 0 then (s.subCount (a / 256)).getD 0
  else match s.param a with
    | some p => s.paramValue p
    | none => (s.derived k a).getD (s.obj a)

/-! ### The read snapshot of live-state objects (R68, R74, R149) -/

/-- The objects other than a session's that are computed from other state. -/
def derivedObjects : List Nat :=
  let subs := fun (idx n : Nat) => (List.range n).map (fun i => idx * 256 + i + 1)
  [O.deviceStatus, O.hostStatus, O.releasedLastTick, O.dmaServedLastTick, O.eventCount, O.firmwareQueueDepth, O.sessionsInUse,
    O.locusFreeSlots, O.openSets, O.parameterCount, O.poisonedPages] ++
  subs 0x0221 16 ++ subs 0x0222 16 ++ subs 0x0223 16 ++ subs 0x5410 16 ++ subs 0x5411 16 ++ subs 0x5412 16 ++ subs 0x0110 9 ++ subs 0x3100 8 ++
  (List.range 8).flatMap (fun e => [(0x4400 + e) * 256 + 1, (0x4400 + e) * 256 + 3, (0x4400 + e) * 256 + 4, (0x4400 + e) * 256 + 5,
    (0x3180 + e) * 256 + 1, (0x3180 + e) * 256 + 4, (0x3180 + e) * 256 + 6, (0x4100 + e) * 256 + 4])

/-- Live-state objects are copied to their read snapshot in cycles 0 to 15 (R68). -/
def State.snapLive (s : State) : State :=
  { s with liveWas := s.live, live := (derivedObjects.map (fun a => (a, (s.derived .firm a).getD (s.obj a)))) ++ s.objs }

/-- The per-session objects (R447). -/
def perSession (a : Nat) : Bool := a = O.lastError || a = O.lastErrorObject || a = O.updateSetGlide || a = O.lastCommitGeneration || a = O.proxyTarget

/-- The value a read returns. `early`: the read falls in cycles 0 to 15 of a boundary window, where a live-state object, that is a
read-only one, reads as its snapshot of the boundary before (R74, R149; log entry 85). -/
def State.readAt (s : State) (k : SessKey) (a : Nat) (early : Bool) : Nat :=
  let live := match objRow a with
    | some r => r.acc = .ro && r.ty != .domain && !perSession a && (s.param a).isNone
    | none => false
  if early && live then (oGet s.liveWas a).getD (objDefault a) else s.readObj k a

/-! ### What an object is, for the checks -/

/-- Type code of a graph parameter (R420) as a row's type. -/
def paramRow (p : Param) : ObjRow :=
  let signed := p.ty = 4 ∨ p.ty = 10 ∨ p.ty = 11
  { idxLo := p.addr / 256, idxHi := p.addr / 256, stride := 1, subLo := p.addr % 256, subHi := p.addr % 256
    ty := if p.ty = 16 then .domain else if signed then .int else .uint, width := 32, words := 1, acc := .rw, dflt := p.dflt
    ranges := [(p.lo, p.hi)], step := 1, forbid := 0, eff := if p.bind = 1 then .immediate else .boundary }

/-- A row for the subindex-0 objects (R417). -/
def subRow (a : Nat) : ObjRow :=
  { idxLo := a / 256, idxHi := a / 256, stride := 1, subLo := 0, subHi := 0, ty := .uint, width := 8, words := 1
    acc := if a / 256 < 0x8000 then .const else .ro, dflt := 0, ranges := [], step := 1, forbid := 0, eff := .never }

/-- The row of an object address, fixed or graph parameter, or none. -/
def State.info (s : State) (a : Nat) : Option ObjRow :=
  if a % 256 = 0 then (s.subCount (a / 256)).map (fun _ => subRow a)
  else match s.param a with
    | some p => some (paramRow p)
    | none => objRow a

/-- The origin classes that may write the objects of an index, as a mask: 1 HOST, 2 FABRIC, 4 FIRM, 8 RESTORE (R418). -/
def familyWrite (idx : Nat) : Nat :=
  if idx = 0x0100 ∨ idx = 0x0110 then 0
  else if idx < 0x1000 then 13
  else if idx < 0x1400 then 15
  else if idx < 0x1A00 then 13
  else if idx < 0x1B00 then 4
  else if idx < 0x2100 then 13
  else if idx < 0x2300 then 15
  else if idx < 0x3100 then 13
  else if idx < 0x3800 then 0
  else if idx < 0x3820 then 5
  else if 0x4400 ≤ idx ∧ idx ≤ 0x4407 then 0
  else if idx < 0x6000 then 15
  else if idx < 0x6100 then 5
  else if idx < 0x6200 then 13
  else if idx < 0x7000 then 15
  else if idx < 0x8000 then 5
  else 0

end Sys2Proof.Machine

namespace Sys2Proof

/-- Bit of an origin class in a mask. -/
def SessKey.bit : SessKey → Nat
  | .host => 1
  | .fabric _ _ => 2
  | .firm => 4
  | .restore => 8

end Sys2Proof

namespace Sys2Proof.Machine

/-- Write mask and read mask of an object (R427). -/
def State.writeMask (s : State) (a : Nat) : Nat :=
  match s.param a with
  | some p => p.rights
  | none => familyWrite (a / 256)

def readMask (a : Nat) : Nat := if 0x7000 ≤ a / 256 ∧ a / 256 < 0x8000 then 13 else 15

/-- Whether FabricAllow lists a device address (R429). -/
def State.fabricAllowed (s : State) (dev : Nat) : Bool := (List.range 64).any (fun i => s.obj (O.fabricAllow i) = dev && dev != 0xFFFF)

/-- Whether the rights permit a request (R428, R429). -/
def State.permits (s : State) (k : SessKey) (a : Nat) (write : Bool) : Bool :=
  let mask := if write then s.writeMask a else readMask a
  let restrict := s.obj (if write then O.fabricWriteRestrict else O.fabricReadRestrict)
  decide ((mask / k.bit) % 2 = 1) &&
    (match k with
     | .fabric dev _ => !restrict.testBit (a / 256 / 0x1000) || s.fabricAllowed dev
     | _ => true)

/-- Whether a value has its type's form (R421); `v` is the number of its words. -/
def typeOk (r : ObjRow) (words : List (BitVec 32)) : Bool :=
  let v := wordsNat words
  decide (words.length = r.words) &&
    (match r.ty with
     | .domain => false
     | .bool => decide (v < 2)
     | .uint => decide (v < 2 ^ r.width)
     | .ticks => decide (v < 2 ^ 48)
     | .gain => true
     | .int => if r.width < 32 then (BitVec.ofNat 32 v) == (BitVec.ofNat r.width v).signExtend 32 else true
     | .string => ((wordsBytes words).dropWhile (fun b => b != 0)).all (fun b => b = 0))

/-- One byte of UTF-8: continuation bytes still to come, and the range of the next one; none where the sequence is ill formed. -/
def utf8Step (st : Option (Nat × Nat × Nat)) (b : Byte) : Option (Nat × Nat × Nat) :=
  let x := b.toNat
  match st with
  | none => none
  | some (0, _, _) =>
    if x < 0x80 then some (0, 0, 0)
    else if 0xC2 ≤ x ∧ x ≤ 0xDF then some (1, 0x80, 0xBF)
    else if x = 0xE0 then some (2, 0xA0, 0xBF)
    else if x = 0xED then some (2, 0x80, 0x9F)
    else if 0xE1 ≤ x ∧ x ≤ 0xEF then some (2, 0x80, 0xBF)
    else if x = 0xF0 then some (3, 0x90, 0xBF)
    else if 0xF1 ≤ x ∧ x ≤ 0xF3 then some (3, 0x80, 0xBF)
    else if x = 0xF4 then some (3, 0x80, 0x8F)
    else none
  | some (n + 1, lo, hi) => if lo ≤ x ∧ x ≤ hi then some (n, 0x80, 0xBF) else none

/-- Whether bytes are well-formed UTF-8. -/
def utf8Ok (l : List Byte) : Bool := (l.foldl utf8Step (some (0, 0, 0))).any (fun p => p.1 == 0)

/-- Whether a value lies in its object's range, with its reserved bits zero (R435 step 6). -/
def rangeOk (r : ObjRow) (v : Nat) : Bool :=
  (match r.ty with
   | .int =>
     r.ranges.any (fun p => decide ((BitVec.ofNat 32 p.1).toInt ≤ (BitVec.ofNat 32 v).toInt) && decide ((BitVec.ofNat 32 v).toInt ≤ (BitVec.ofNat 32 p.2).toInt))
   | .string => utf8Ok ((leBytes (4 * r.words) v).takeWhile (fun b => b != 0))
   | _ => r.ranges.any (fun p => decide (p.1 ≤ v) && decide (v ≤ p.2))) &&
  v % r.step == 0 && v &&& r.forbid == 0

/-- Result codes (R436). -/
def rcOk : Nat := 0
def rcNoObject : Nat := 1
def rcAccess : Nat := 2
def rcRights : Nat := 3
def rcRange : Nat := 4
def rcType : Nat := 5
def rcBusy : Nat := 6
def rcMode : Nat := 7
def rcJournal : Nat := 8
def rcSequence : Nat := 9
def rcChecksum : Nat := 10
def rcMemory : Nat := 11
def rcNoRoute : Nat := 12
def rcMalformed : Nat := 13
def rcRemote : Nat := 14

/-- Whether a write is under the strict journal rule (R371, R488). -/
def State.isStrict (s : State) (a : Nat) : Bool :=
  match s.param a with
  | some p => p.strict
  | none => false

/-- The checks a command adds to the common ones: for step 4 (mode), step 6 (range) and step 7 (resources). -/
structure Extra where
  mode : Bool := true
  range : Bool := true
  res : Bool := true
  deriving DecidableEq, Repr

/-- Whether the Hull firmware serves a request (R441). -/
def firmwareServed (a : Nat) (write : Bool) : Bool :=
  let idx := a / 256
  if 0x7000 ≤ idx ∧ idx ≤ 0x7FFF then true
  else if write then
    a = O.tickRate || a = O.tickSource || a = O.modeRequest || a = O.graphUnload || a = O.drainDevice || a = O.migrateRequest ||
    decide (0x1A00 ≤ idx ∧ idx ≤ 0x1AFF) || decide (0x2000 ≤ idx ∧ idx ≤ 0x20FF) || decide (0x2300 ≤ idx ∧ idx ≤ 0x23FF) ||
    decide (0x5A00 ≤ idx ∧ idx ≤ 0x5A3F)
  else idx = 0x0110 ∧ a % 256 ≠ 0

/-- The firmware-served requests that Patchbay and the loader need, which the ROM monitor serves (R744; log entry 52). -/
def monitorServes (a : Nat) (write : Bool) : Bool :=
  let idx := a / 256
  a = O.tickRate || a = O.tickSource || a = O.modeRequest || decide (0x5A00 ≤ idx ∧ idx ≤ 0x5A3F) || decide (0x7300 ≤ idx ∧ idx ≤ 0x73FF) ||
  (!write && decide (0x7000 ≤ idx ∧ idx ≤ 0x70FF))

/-- Whether the ROM monitor runs and does not serve the request. -/
def State.monitorRefuses (s : State) (a : Nat) (write : Bool) : Bool := s.clk.monitor && firmwareServed a write && !monitorServes a write

/-- The result code of a write, checked in the order of R435. -/
def State.checkWrite (s : State) (k : SessKey) (a : Nat) (words : List (BitVec 32)) (x : Extra) : Nat :=
  match s.info a with
  | none => rcNoObject
  | some r =>
    if r.acc = .const ∨ r.acc = .ro then rcAccess
    else if !s.permits k a true then rcRights
    else if !x.mode || s.monitorRefuses a true then rcMode
    else if !typeOk r words then rcType
    else if !rangeOk r (wordsNat words) || !x.range then rcRange
    else if !x.res then rcBusy
    else if s.isStrict a && s.journalFull then rcJournal
    else rcOk

/-- The result code of a read. -/
def State.checkRead (s : State) (k : SessKey) (a : Nat) (res : Bool) : Nat :=
  match s.info a with
  | none => rcNoObject
  | some r =>
    if r.acc = .wo then rcAccess
    else if !s.permits k a false then rcRights
    else if s.monitorRefuses a false then rcMode
    else if r.ty = .domain then rcType
    else if !res then rcBusy
    else rcOk

/-- Whether firmware can take a request now: its queue is open and not full, and a computed object is not shed (R442, R444, R856). -/
def State.firmwareCan (s : State) (a : Nat) (write : Bool) : Bool :=
  s.obj O.hullReady = 1 && decide (s.fwQueue.length < 32) && (write || a / 256 != 0x0110 || s.obj O.hullShedStage != 3)

/-- The result of a host request: the second STAT word, and RESULT_ERROR (R627, R646). -/
def State.hostResult (s : State) (a code : Nat) : State :=
  { s with hsp := { s.hsp with last := code * 2 ^ 24 + a % 2 ^ 24, flags := if code = 0 then s.hsp.flags else s.hsp.flags ||| 1 } }

/-- Every request gets one response, and the counts of R439, R470 follow. -/
def State.respond (s : State) (k : SessKey) (a code : Nat) (words : List (BitVec 32)) : State :=
  let s1 := (s.count O.requestsServed 64 1).count O.busyResponses 32 (if code = rcBusy then 1 else 0)
  let s2 := if code = rcOk ∨ (k.isFabric ∧ ¬ s1.sessions.any (fun x => x.key = k)) then s1
    else s1.setSession { s1.session k with lastError := code, lastErrorObj := a }
  let s3 := if k = .host then s2.hostResult a code else s2
  { s3 with resp := some { key := k, code := code, words := if code = rcOk then words else [] } }

/-- A refusal for rights counts and raises event 0x0D00 if it was a write (R465, R470). -/
def State.noteRights (s : State) (k : SessKey) (a code : Nat) (write : Bool) : State :=
  if code = rcRights then
    let s1 := s.count O.rightsDenials 32 1
    if write then s1.event 0x0D00 (a + k.bit * 2 ^ 24 + (k.device (s.obj O.fabricAddress) % 4096) * 2 ^ 28) else s1
  else s

/-- Whether a plain write is recorded by digests: of a value wider than 64 bits, or of a DOMAIN object (R476). -/
def State.isWide (s : State) (a : Nat) (words : List (BitVec 32)) : Bool :=
  decide (2 < words.length) ||
  (match s.info a with
   | some r => r.ty = .domain || decide (2 < r.words)
   | none => false)

/-- The value a record shows as OLD: what a read would have returned, 0 for a WO object, a digest for a wide one (R475, R476). -/
def State.oldValue (s : State) (k : SessKey) (a : Nat) (wide : Bool) : Nat :=
  match s.info a with
  | none => 0
  | some r =>
    if r.acc = .wo then 0
    else if r.ty = .domain then digestOf (s.domainBytes a)
    else if wide then digestOf (leBytes (4 * r.words) (s.readObj k a))
    else s.readObj k a % 2 ^ 64

/-- NEW of a record of a plain write: the value carried (R475, R476). -/
def newValue (words : List (BitVec 32)) (wide : Bool) : Nat := if wide then digestOf (wordsBytes words) else wordsNat words % 2 ^ 64

/-- A write request with its result code known: its effect if performed, its record, its response (R434, R437). -/
def State.finishWrite (s : State) (k : SessKey) (kport a : Nat) (words : List (BitVec 32)) (code : Nat) (effect : State → State) : State :=
  let wide := s.isWide a words
  let rec0 := s.recordOf k kport 0 a code (s.oldValue k a wide) (newValue words wide) wide
  let s1 := if code = rcOk then effect s else s
  let s2 := if code = rcJournal then s1.refuseStrict else s1.journal rec0
  (s2.noteRights k a code true).respond k a code []

/-- Whether the dictionary serves requests: the Hull core has been released, and the power state is Run, Coast or Doze (R817, R835). -/
def State.serving (s : State) : Bool := s.life = .up && decide (s.obj O.powerState ≤ 2)

/-- A write served in hardware: checked in order, performed, journalled, answered. -/
def State.writeReq (s : State) (k : SessKey) (kport a : Nat) (words : List (BitVec 32)) (x : Extra) (effect : State → State) : State :=
  let fw := !firmwareServed a true || s.firmwareCan a true
  if !s.serving then s
  else s.finishWrite k kport a words (s.checkWrite k a words { x with res := x.res && fw }) effect

/-- A single-word write. -/
def State.writeReq1 (s : State) (k : SessKey) (kport a : Nat) (v : BitVec 32) (x : Extra) (effect : State → State) : State :=
  s.writeReq k kport a [v] x effect

end Sys2Proof.Machine
end

