-- ==== Sys2Proof/Machine/PageOps.lean ====
section
/-! DEFINITION. Pages: which carry the page code, parity, recovery in place, zeroing (R692 to R703, R853). -/
namespace Sys2Proof.Machine
open Sys2Proof

/-- Bytes of a coefficient bank (R45). -/
def bankBytes : Nat := 0x80000

/-- The engine whose coefficient bank holds an address, and whether it is bank B. -/
def bankOf (a : Nat) : Option (Fin 8 × Bool) :=
  engines.findSome? (fun (e : Fin 8) =>
    if inRange (bankBase e false) bankBytes a then some (e, false)
    else if inRange (bankBase e true) bankBytes a then some (e, true) else none)

/-- The engine whose program memory holds an address. -/
def progOf (a : Nat) : Option (Fin 8) := engines.find? (fun e => inRange (progBase e) 0x80000 a)

/-- Dictionary storage and its mirror (R696). -/
def isDictStore (a : Nat) : Bool := inRange 0x10380000 0x80000 a

/-- The same byte of the other copy of dictionary storage. -/
def dictMirror (a : Nat) : Nat := if a < 0x103C0000 then a + 0x40000 else a - 0x40000

/-- Whether an array holds an address. -/
def pageHolds (r : PageArray) (a : Nat) : Bool :=
  match r with
  | .bank e => inRange (bankBase e false) bankBytes a || inRange (bankBase e true) bankBytes a
  | .xMem e => inRange (xBase e) 0x200000 a
  | .yMem e => inRange (yBase e) 0x200000 a
  | .prog e => inRange (progBase e) 0x80000 a
  | .orbit => inRange orbitBase 0x6000000 a
  | .hull => inRange 0x10000000 0x400000 a
  | .lpddr => decide (0x1000000000 ≤ a)

/-- Whether a page carries the page code (R695). -/
def State.isStatic (s : State) (page : Nat) : Bool :=
  (bankOf page).isSome || (progOf page).isSome || isDictStore page || s.integ.staticPages.contains page

/-- Whether a page lies in the active coefficient bank of an engine. -/
def State.isActiveBank (s : State) (page : Nat) : Option (Fin 8) :=
  match bankOf page with
  | some (e, b) => if (s.engine e).bankB = b then some e else none
  | none => none

/-- Whether a page is stale (R344, R698). -/
def State.isStale (s : State) (page : Nat) : Bool :=
  match bankOf page with
  | some (e, b) => (s.engine e).bankB != b && (s.engine e).stale.contains ((page - bankBase e b) / 4096)
  | none => s.integ.stalePages.contains page

/-- The 64 parity bytes held for a page (R694). -/
def State.parityOf (s : State) (page : Nat) : List Byte := aGet (List.replicate 64 0) s.integ.parity page

/-- The parity of a page replaced. -/
def State.setParity (s : State) (page : Nat) (l : List Byte) : State :=
  { s with integ := { s.integ with parity := aPut (List.replicate 64 0) s.integ.parity page l } }

/-- The parity of a page computed from its content. -/
def State.codePage (s : State) (page : Nat) : State := s.setParity page (pageParity (fun i => memByte s.mem (page + i)))

/-- The list of stale pages outside the coefficient banks, and the object that counts them (R853). -/
def State.setStale (s : State) (l : List Nat) : State :=
  ({ s with integ := { s.integ with stalePages := l } }).setObj O.staticPagesStale l.length

/-- A page of a coefficient bank of engine `e` becomes stale; the oldest is the one being recomputed (R344). -/
def State.staleBank (s : State) (e : Fin 8) (i : Nat) : State :=
  s.modEngine e (fun x => { x with stale := staleOrder x.stale i (x.stale.head? = some i) })

/-- The units of a page that hold bits of an uncorrectable word (R693). -/
def State.erasedUnits (s : State) (page : Nat) : List Nat :=
  ((s.bad.filter (inRange page 4096)).map (fun a => (a - page) / 8)).foldl setAdd []

/-- Every word of a page stands again with valid codes: its marks, records, queue and log entries are removed. -/
def State.curePage (s : State) (page : Nat) : State :=
  let t := s.cureRange page 4096
  { t with integ := { t.integ with
      corrLog := t.integ.corrLog.filter (fun a => !inRange page 4096 a), poison := setDel t.integ.poison page
      queue := setDel t.integ.queue page } }

/-- An engine that waits for this program page can fetch again (R133). -/
def State.freeTrap (s : State) (page : Nat) : State :=
  s.allEngines (fun _ x => if x.trapPage = some page then { x with trapPage := none } else x)

/-- Recovery of a page by its page code in place; none where it fails (R693, R702, R704). -/
def State.recoverAt (s : State) (page : Nat) : Option State :=
  match recoverPage (fun i => memByte s.mem (page + i)) (s.parityOf page) (s.erasedUnits page) with
  | none => none
  | some (l, n) =>
    let t : State := { s with mem := l.foldl (fun m p => memPut m (page + p.1) p.2) s.mem }
    some ((((t.curePage page).count O.pagesRecovered 32 1).event 0x0501 (page + (n % 256) * 2 ^ 40)).freeTrap page)

/-- A page is marked in the poison map (R702, R709). -/
def State.markPoison (s : State) (page : Nat) : State :=
  ({ s with integ := { s.integ with poison := setAdd s.integ.poison page } }).event 0x0504 page

/-- A page without a page code is written with zeros (R702). -/
def State.zeroPage (s : State) (page : Nat) : State :=
  (((s.zeroRange page 4096).curePage page).count O.pagesZeroed 32 1).event 0x0503 page

/-- Counts of the range pass under way for a page of its range (R718, R728). -/
def State.rangeCount (s : State) (page obj : Nat) : State :=
  match s.integ.rangePass with
  | some _ =>
    let base := s.obj O.rangeBase
    if base ≤ page + 4095 ∧ page < base + s.obj O.rangeLength then s.count obj 64 1 else s
  | none => s

/-! ### Engines' arrays and the bus map (R44, R45) -/

/-- First engine number of a number. -/
def eng8 (n : Nat) : Fin 8 := ⟨n % 8, Nat.mod_lt _ (by decide)⟩

/-- Bytes of the memory that the power-on fill covers: all on-chip SRAM (R726). -/
def sramRanges : List (Nat × Nat) :=
  [(0x10000000, 0x400000), (orbitBase, 0x6000000), (0x200000000, 0x4000000), (0x300000000, 0x200000)]

/-- Ranges of memory cleared: zero with valid word codes and valid zero parity; nothing of them is stale, queued, marked or logged
(R725, R726). -/
def State.clearRanges (s : State) (l : List (Nat × Nat)) : State :=
  let out := fun (a : Nat) => !l.any (fun r => inRange r.1 r.2 a)
  let t := l.foldl (fun s r => s.zeroRange r.1 r.2) s
  let u := t.allEngines (fun e x => { x with stale := if out (bankBase e false) then x.stale else [] })
  ({ u with integ := { u.integ with
      parity := u.integ.parity.filter (fun p => out p.1), queue := u.integ.queue.filter out, poison := u.integ.poison.filter out
      corrLog := u.integ.corrLog.filter out } } : State).setStale (u.integ.stalePages.filter out)

/-- All on-chip SRAM and every parity store filled with zero and valid codes (R726). -/
def State.fill (s : State) : State := s.clearRanges sramRanges

end Sys2Proof.Machine
end

