-- ==== Sys2Proof/Machine/Operands.lean ====
section
/-! DEFINITION. Operand forms of the slots: window registers, lane masks, addressing modes. -/
namespace Sys2Proof.Machine
open Sys2Proof

/-! ### Lane masks -/

/-- The number whose bit `i`, for `i < n`, is `f i`. -/
def bitsNat (f : Nat → Bool) : Nat → Nat
  | 0 => 0
  | n + 1 => bitsNat f n + (if f n then 2 ^ n else 0)

theorem bitsNat_lt (f : Nat → Bool) (n : Nat) : bitsNat f n < 2 ^ n := by
  induction n with
  | zero => simp [bitsNat]
  | succ n ih =>
    simp only [bitsNat, Nat.pow_succ]
    split <;> omega

theorem bitsNat_testBit (f : Nat → Bool) (n i : Nat) : (bitsNat f n).testBit i = (decide (i < n) && f i) := by
  induction n with
  | zero => simp [bitsNat]
  | succ n ih =>
    have hlt := bitsNat_lt f n
    simp only [bitsNat]
    by_cases hf : f n
    · simp only [hf, if_true]
      rw [Nat.add_comm]
      rcases Nat.lt_trichotomy i n with h | h | h
      · rw [Nat.testBit_two_pow_add_gt h, ih]; simp [h, Nat.lt_succ_of_lt h]
      · subst h
        rw [Nat.testBit_two_pow_add_eq, ih]; simp [hf]
      · have : 2 ^ n + bitsNat f n < 2 ^ (n + 1) := by rw [Nat.pow_succ]; omega
        have h2 : 2 ^ n + bitsNat f n < 2 ^ i := Nat.lt_of_lt_of_le this (Nat.pow_le_pow_right (by omega) h)
        rw [Nat.testBit_lt_two_pow h2]
        have : ¬ i < n + 1 := by omega
        simp [this]
    · simp only [hf, Bool.false_eq_true, if_false, Nat.add_zero, ih]
      by_cases h : i = n
      · subst h; simp [hf]
      · have : (i < n + 1) ↔ (i < n) := by omega
        simp [this]

/-- The lane mask whose bit `k` is `f k`. -/
def maskOf (f : Fin 64 → Bool) : BitVec 64 :=
  BitVec.ofNat 64 (bitsNat (fun i => if h : i < 64 then f ⟨i, h⟩ else false) 64)

/-- Bit `k` of a mask. -/
def bitOf (m : BitVec 64) (k : Fin 64) : Bool := m.getLsbD k.val

@[simp] theorem bitOf_maskOf (f : Fin 64 → Bool) (k : Fin 64) : bitOf (maskOf f) k = f k := by
  rw [bitOf, maskOf, BitVec.getLsbD_ofNat, bitsNat_testBit]
  simp

/-- Number of bits set in a mask. -/
def popCount (m : BitVec 64) : Nat := ((List.finRange 64).filter (fun k => bitOf m k)).length

/-- Lanes of `new` where the mask is 1, of `old` elsewhere (R89). -/
def mergeLanes {α : Type} (m : BitVec 64) (new old : Lanes α) : Lanes α :=
  tab (fun k => if bitOf m k then lane new k else lane old k)

@[simp] theorem lane_mergeLanes {α : Type} (m : BitVec 64) (new old : Lanes α) (k : Fin 64) :
    lane (mergeLanes m new old) k = if bitOf m k then lane new k else lane old k := by
  simp [mergeLanes]

/-! ### Registers -/

/-- The physical register behind logical Vk under window base `wb` (R92). -/
def physReg (wb : BitVec 4) (k : Fin 32) : Fin 32 :=
  if k.val < 16 then k else ⟨16 + (k.val - 16 + wb.toNat) % 16, by omega⟩

/-- Vector register Vk as an operation of the open bundle reads it. -/
def Engine.readV (x : Engine) (k : Fin 32) : Lanes Word := lane x.v (physReg x.wb k)

/-- Mask register Mk. -/
def Engine.readM (x : Engine) (k : Fin 8) : BitVec 64 := lane x.msk k

/-- Scalar register Sk. -/
def Engine.readS (x : Engine) (k : Fin 16) : Word := lane x.scl k

/-- Scale shift ACSk as a signed number (R91). -/
def Engine.scale (x : Engine) (k : Fin 8) : Int := (lane x.acs k).toInt

/-- Register x of file f: P, N, PB or PL (R205). -/
def Engine.readPtr (x : Engine) (f : BitVec 2) (k : Fin 16) : Word :=
  if f = 0 then lane x.p k else if f = 1 then lane x.n k else if f = 2 then lane x.pb k else lane x.pl k

/-! ### Addressing modes (R161 to R168) -/

/-- A register used in an address, its two low bits taken as zero (R162). -/
def wordAligned (w : Word) : Word := w &&& 0xFFFFFFFC#32

/-- The four registers of pointer p as address arithmetic sees them. -/
structure PtrVals where
  p : Int
  n : Int
  pb : Int
  pl : Nat

/-- The registers of pointer `k`: pointer, base and length unsigned, stride signed (R91, R162). -/
def Engine.ptrVals (x : Engine) (k : Fin 16) : PtrVals :=
  { p := ((wordAligned (lane x.p k)).toNat : Int)
    n := (wordAligned (lane x.n k)).toInt
    pb := ((wordAligned (lane x.pb k)).toNat : Int)
    pl := (wordAligned (lane x.pl k)).toNat }

/-- The base address of an access in `mode` (R161). -/
def PtrVals.base (q : PtrVals) (mode : BitVec 3) : Int := if mode = 4 then q.p + q.n else q.p

/-- The byte address of lane `k` in a space of `size` bytes (R163 to R165). -/
def PtrVals.laneAddr (q : PtrVals) (mode : BitVec 3) (size k : Nat) : Nat :=
  let a := q.base mode
  let r := if q.pl = 0 then a + 4 * k else q.pb + (a - q.pb + 4 * k) % (q.pl : Int)
  (r % (size : Int)).toNat

/-- A pointer moved by `d` (R163, R164). -/
def PtrVals.moved (q : PtrVals) (size : Nat) (d : Int) : Word :=
  if q.pl = 0 then BitVec.ofInt 32 ((q.p + d) % (size : Int)) else BitVec.ofInt 32 (q.pb + (q.p + d - q.pb) % (q.pl : Int))

/-- The bit-reversed update, for a modulo length that is a power of two of at least 8 bytes (R166). -/
def PtrVals.bitRev (q : PtrVals) : Word :=
  let b := log2Fuel 32 (q.pl / 4)
  let w := (((q.p - q.pb) % (q.pl : Int)) / 4).toNat
  let st := ((q.n / 4) % ((2 : Int) ^ b)).toNat
  BitVec.ofInt 32 (q.pb + 4 * ((revBits b ((revBits b w + revBits b st) % 2 ^ b) : Nat) : Int))

/-- The pointer after an access, or none where the mode changes none (R161, R167; mode 0b111 acts as 0b000 under R218). -/
def PtrVals.update (q : PtrVals) (mode : BitVec 3) (size : Nat) : Option Word :=
  if mode = 1 then some (q.moved size q.n)
  else if mode = 2 then some (q.moved size 256)
  else if mode = 3 then some (q.moved size (-q.n))
  else if mode = 5 then some (q.moved size 4)
  else if mode = 6 then
    (if isPow2 q.pl && decide (8 ≤ q.pl) then some q.bitRev else some (q.moved size q.n))
  else none

/-- Size in bytes of the space the X or Y slot addresses (R165). -/
def Engine.dataSize (x : Engine) : Nat := if x.unified then 0x400000 else 0x200000

/-- Bus base of the space the X slot (`y` false) or the Y slot addresses (R101, R181). -/
def Engine.dataBase (x : Engine) (e : Nat) (y : Bool) : Nat := if !x.unified && y then yBase e else xBase e

end Sys2Proof.Machine
end

