-- ==== Sys2Proof/Machine/EngineOps.lean ====
section
/-! DEFINITION. The engine datapath: scheduled writes, accumulator updates with freeze and guard, register reset, repeats. -/
namespace Sys2Proof.Machine
open Sys2Proof

/-! ### Scheduled writes (R155 to R159) -/

/-- A result scheduled to be seen `wait` bundles after the open one. -/
def Engine.sched (x : Engine) (wait : Nat) (w : RegWrite) : Engine :=
  { x with flights := x.flights ++ [{ wait := wait, young := true, wr := w }] }

/-- A scheduled write lands. -/
def Engine.land (x : Engine) (w : RegWrite) : Engine :=
  match w with
  | .vec r m val => { x with v := put x.v r (mergeLanes m val (lane x.v r)) }
  | .msk r m val => { x with msk := put x.msk r ((val &&& m) ||| (lane x.msk r &&& ~~~m)) }
  | .scl r val => { x with scl := put x.scl r val }
  | .accA r m val => { x with accA := put x.accA r (mergeLanes m val (lane x.accA r)) }
  | .guardA bits => { x with guardA := x.guardA ||| bits }
  | .ptr f r val =>
    if f = 0 then { x with p := put x.p r val } else if f = 1 then { x with n := put x.n r val }
    else if f = 2 then { x with pb := put x.pb r val } else { x with pl := put x.pl r val }
  | .acs r val => { x with acs := put x.acs r val }
  | .wb val => { x with wb := val }

/-- Several writes land, in order. -/
def Engine.landAll (x : Engine) (l : List RegWrite) : Engine := l.foldl Engine.land x

/-- The register settings of engine reset except the program counter and the sticky guard flags (R72, R211). -/
def Engine.resetRegs (x : Engine) : Engine :=
  { x with
    v := Vector.replicate 32 (allLanes 0), acc := Vector.replicate 8 (allLanes 0), accA := Vector.replicate 8 (allLanes 0)
    msk := Vector.replicate 8 (BitVec.allOnes 64)
    p := Vector.replicate 16 0, n := Vector.replicate 16 0, pb := Vector.replicate 16 0, pl := Vector.replicate 16 0
    scl := Vector.replicate 16 0, acs := Vector.replicate 8 0, wb := 0, freeze := Vector.replicate 8 0, reps := [] }

/-- The flights after one bundle closes: those that land, and those still under way. An ENTRY of the closing bundle
wins over the writes of its own bundle, and earlier results land after it (R154, R219). -/
def Engine.landing (x : Engine) : List RegWrite :=
  ((x.flights.filter (fun f => decide (f.wait ≤ 1) && !(x.entryNow && f.young))).map (·.wr))

def Engine.stillFlying (x : Engine) : List Flight :=
  (x.flights.filter (fun f => decide (1 < f.wait))).map (fun f => { f with wait := f.wait - 1, young := false })

/-! ### Accumulators (R112 to R119, R171) -/

/-- A clearing operation: the lanes of the mask take `val`, their freeze bits are cleared (R116). -/
def Engine.accClear (x : Engine) (d : Fin 8) (m : BitVec 64) (val : Fin 64 → Int) : Engine :=
  let new : Lanes AccWord := mergeLanes m (tab (fun k => BitVec.ofInt 72 (val k))) (lane x.acc d)
  ({ x with acc := put x.acc d new, freeze := put x.freeze d (lane x.freeze d &&& ~~~m) } : Engine).sched 4 (.accA d m new)

/-- The exact sum an accumulating operation forms in lane `k`. -/
def Engine.accSum (x : Engine) (d : Fin 8) (term : Fin 64 → Int) (k : Fin 64) : Int := (lane (lane x.acc d) k).toInt + term k

/-- The lanes in which an accumulating operation acts: unmasked and not frozen (R114, R115). -/
def Engine.accActs (x : Engine) (d : Fin 8) (m : BitVec 64) (k : Fin 64) : Bool := bitOf m k && !bitOf (lane x.freeze d) k

/-- The lanes whose guard bits overflow (R114). -/
def Engine.accOver (x : Engine) (d : Fin 8) (m : BitVec 64) (term : Fin 64 → Int) : BitVec 64 :=
  maskOf (fun k => x.accActs d m k && !inAccRange (x.accSum d term k))

/-- An accumulating operation (R114): the exact sum, or saturation with freeze, guard flag and GUARD_OVF. -/
def Engine.accAdd (x : Engine) (d : Fin 8) (m : BitVec 64) (term : Fin 64 → Int) : Engine :=
  let old := lane x.acc d
  let ovf := x.accOver d m term
  let new : Lanes AccWord := tab (fun k =>
    if x.accActs d m k then
      let sum := x.accSum d term k
      if inAccRange sum then BitVec.ofInt 72 sum else if sum > 0 then accMax else accMin
    else lane old k)
  let y : Engine := { x with
    acc := put x.acc d new, freeze := put x.freeze d (lane x.freeze d ||| ovf), guard := x.guard ||| ovf
    fault := fwGuard x.fault (popCount ovf) }
  (y.sched 4 (.accA d m new)).sched 4 (.guardA ovf)

/-! ### Repeats (R207 to R210, R218) -/

/-- What follows the bundle at `pc`: the repeats whose body ends there iterate or complete, innermost first, and the
window base advances once for each completed iteration with auto-rotate (R208). -/
def repNext (pc : Nat) (wb : BitVec 4) : List Rep → Nat × BitVec 4 × List Rep
  | [] => (pc + 1, wb, [])
  | r :: t =>
    if r.last = pc then
      let wb' := if r.rot then wb + 1 else wb
      if 1 < r.left then (r.first, wb', { r with left := r.left - 1 } :: t)
      else repNext pc wb' t
    else (pc + 1, wb, r :: t)

/-- The mode of the RANGE register that holds a program position: 0 off, 1 quiet, 2 inert (R389). -/
def Engine.rangeMode (x : Engine) (pos : Nat) : Nat :=
  let inside := fun (w : BitVec 64) => fieldOf w 62 2 != 0 && decide (fieldOf w 0 16 ≤ pos) && decide (pos < fieldOf w 32 16)
  match x.ranges.toList.find? inside with
  | some w => fieldOf w 62 2
  | none => 0

/-- The sequencer advances past the bundle that closes. -/
def Engine.advance (x : Engine) : Engine :=
  match x.pushRep with
  | some r => { x with pc := x.pc + 1, reps := r :: x.reps, pushRep := none, issued := x.issued + 1 }
  | none =>
    if x.rangeMode x.pc = 2 then { x with pc := x.pc + 1, issued := x.issued + 1 }
    else
      let (pc, wb, reps) := repNext x.pc x.wb x.reps
      { x with pc := pc, wb := wb, reps := reps, issued := x.issued + 1 }

end Sys2Proof.Machine
end

