-- ==== Sys2Proof/Machine/Facet.lean ====
section
/-! DEFINITION. The Facet formats: encoders and decoders of samples and of blocks of 16 (R292 to R303). -/
namespace Sys2Proof.Machine
open Sys2Proof

/-- Whether the Facet-L24 code of a sample saturates (R292). -/
def l24Saturates (x : Word) : Bool := decide (roundHalfEven x.toInt 256 > 2 ^ 23 - 1)

/-- The Facet-L24 code of a sample, as a 24-bit number (R292). -/
def l24Code (x : Word) : Nat :=
  (BitVec.ofInt 24 (min (roundHalfEven x.toInt 256) (2 ^ 23 - 1))).toNat

/-- The sample a Facet-L24 code decodes to (R293). -/
def l24Decode (c : Nat) : Word := BitVec.ofInt 32 ((BitVec.ofNat 24 c).toInt * 256)

/-- Mantissa width of a Facet-B format code: 2, 3, 4 for 16, 18, 20 bits (R259, R296). -/
def facetW (fmt : Nat) : Nat := if fmt = 2 then 16 else if fmt = 3 then 18 else 20

/-- Bytes of a group of 16 samples: 64 plain, 48 for Facet-L24, 1 + 2W for Facet-B (R305). -/
def groupBytes (fmt : Nat) : Nat := if fmt = 0 then 64 else if fmt = 1 then 48 else 1 + 2 * facetW fmt

/-- The shared shift of a block (R297). -/
def facetShift (xs : List Word) : Nat := xs.foldl (fun m x => min m (norm32 x)) 15

/-- The exact rounded mantissa of a sample before saturation (R298): x * 2^(e + w - 32). -/
def facetMant (w e : Nat) (x : Word) : Int :=
  if 32 ≤ e + w then x.toInt * 2 ^ (e + w - 32) else roundHalfEven x.toInt (2 ^ (32 - (e + w)))

/-- Whether a sample saturates at encoding (R298, R301). -/
def facetSaturates (w e : Nat) (x : Word) : Bool := decide (facetMant w e x > 2 ^ (w - 1) - 1)

/-- The mantissa field of a sample (R298). -/
def facetField (w e : Nat) (x : Word) : Nat := (BitVec.ofInt w (min (facetMant w e x) (2 ^ (w - 1) - 1))).toNat

/-- A Facet-B block as one number: TAG, SHIFT, then the mantissas (R296). -/
def facetBlock (fmt : Nat) (xs : List Word) : Nat :=
  let w := facetW fmt
  let e := facetShift xs
  fmt + 16 * e + (xs.zipIdx.foldl (fun acc p => acc + facetField w e p.1 * 2 ^ (8 + w * p.2)) 0)

/-- TAG and SHIFT of a block (R296). -/
def blockTag (b : Nat) : Nat := b % 16
def blockShift (b : Nat) : Nat := b / 16 % 16

/-- Sample `k` of a block (R299). -/
def blockSample (fmt b k : Nat) : Word :=
  let w := facetW fmt
  let e := blockShift b
  let m := (BitVec.ofNat w (b / 2 ^ (8 + w * k))).toInt
  if w + e ≤ 32 then BitVec.ofInt 32 (m * 2 ^ (32 - w - e)) else BitVec.ofInt 32 (roundHalfEven m (2 ^ (w + e - 32)))

/-- A group of 16 samples encoded as a number of `groupBytes fmt` bytes (R292, R296, R305). -/
def encodeGroup (fmt : Nat) (xs : List Word) : Nat :=
  if fmt = 0 then xs.zipIdx.foldl (fun acc p => acc + p.1.toNat * 2 ^ (32 * p.2)) 0
  else if fmt = 1 then xs.zipIdx.foldl (fun acc p => acc + l24Code p.1 * 2 ^ (24 * p.2)) 0
  else facetBlock fmt xs

/-- Samples of a group that saturate at encoding (R322). -/
def groupSaturations (fmt : Nat) (xs : List Word) : Nat :=
  if fmt = 0 then 0
  else if fmt = 1 then (xs.filter l24Saturates).length
  else (xs.filter (facetSaturates (facetW fmt) (facetShift xs))).length

/-- Sample `k` of an encoded group. -/
def decodeSample (fmt g k : Nat) : Word :=
  if fmt = 0 then BitVec.ofNat 32 (g / 2 ^ (32 * k))
  else if fmt = 1 then l24Decode (g / 2 ^ (24 * k))
  else blockSample fmt g k

/-- Whether a group's TAG disagrees with its format (R314, R318). -/
def tagWrong (fmt g : Nat) : Bool := decide (2 ≤ fmt) && blockTag g != fmt

/-- Bits of one channel group in a fabric run (R319). -/
def fabricGroupBits (fmt : Nat) : Nat :=
  if fmt = 0 then 512 else if fmt = 1 then 384 else 8 + 16 * facetW fmt

end Sys2Proof.Machine
end

