-- ==== Sys2Proof/Machine/DelayOps.lean ====
section
/-! DEFINITION. The delay unit: points of taps and table reads, clamps, interpolation, delay writes, I/O, exchange and private words. -/
namespace Sys2Proof.Machine
open Sys2Proof

/-! ### Fault word of an engine -/

/-- The fault word of engine `e` changed by `f`. -/
def State.modFault (s : State) (e : Fin 8) (f : BitVec 64 → BitVec 64) : State :=
  s.modEngine e (fun x => { x with fault := f x.fault })

/-- A read of engine `e` met the uncorrectable word at `addr`: zero was delivered, POISON counts (R199, R700). -/
def State.poisonRead (s : State) (e : Fin 8) (reader addr : Nat) : State :=
  (s.modFault e (fun w => fwPoison w 1)).noteBad reader addr

/-! ### Lagrange interpolation (R266, R267) -/

/-- The node set of a form: -1 to 2, or -3 to 4. -/
def nodes (eight : Bool) : List Int := if eight then [-3, -2, -1, 0, 1, 2, 3, 4] else [-1, 0, 1, 2]

/-- The Q2.30 coefficient of node `j` at fraction `f`/1,024, exact value rounded convergently. -/
def lagrangeRounded (eight : Bool) (f : Nat) (j : Int) : Int :=
  let others := (nodes eight).filter (fun m => m != j)
  let num := others.foldl (fun acc m => acc * ((f : Int) - 1024 * m)) 1
  let den := others.foldl (fun acc m => acc * (j - m)) 1
  let scale : Int := if eight then 2 ^ 40 else 1
  if den < 0 then roundHalfEven (-num) ((-den * scale).toNat) else roundHalfEven num ((den * scale).toNat)

/-- The node with the largest exact value: 0 up to f = 1/2, where it ties with 1, and 1 above (R267). -/
def lagrangePeak (f : Nat) : Int := if f ≤ 512 then 0 else 1

/-- The coefficient of node `j` (R267): the largest is what the others leave of 2^30. -/
def lagrange (eight : Bool) (f : Nat) (j : Int) : Int :=
  if j = lagrangePeak f then
    2 ^ 30 - sumInt (((nodes eight).filter (fun m => m != j)).map (lagrangeRounded eight f))
  else lagrangeRounded eight f j

/-! ### Points -/

/-- One point read: its word, the uncorrectable word it met, whether the block's TAG was wrong. -/
structure PointRes where
  val : Word
  badAt : Option Nat
  tag : Bool
  /-- Correctable words the point was read from (R699). -/
  soft : List Nat := []
  deriving DecidableEq, Repr

/-- A point that reads zero. -/
def PointRes.zero : PointRes := { val := 0, badAt := none, tag := false }

/-- The descriptor whose storage a descriptor uses: itself, or WRITER for an alias (R265). -/
def Engine.storage (x : Engine) (d : Desc) : Desc := if d.aliased then aGet Desc.zero x.desc d.writer else d

/-- Whether a position lies in the open group of a Facet line and its slot is flagged (R308). -/
def Desc.openHas (w : Desc) (pos : Nat) : Bool :=
  w.fmt != 0 && decide (w.wp / 16 = pos / 16) && w.openFlags.getLsbD (pos % 16)

/-- The sample of the open-block entry at a position. -/
def Desc.openAt (w : Desc) (pos : Nat) : Word := lane w.openVals ⟨pos % 16, Nat.mod_lt _ (by decide)⟩

/-- Bus address of line `k` of Orbit memory (R234). -/
def lineAddr (k : Nat) : Nat := orbitBase + 64 * k

/-- Bank and row of line `k` of Orbit memory (R234). -/
def lineBank (k : Nat) : Nat := k % 64
def lineRow (k : Nat) : Nat := k / 64

/-- Where group `g` of a line stands in its own storage (R262, R274, R305). -/
def Desc.groupHome (d : Desc) (g : Nat) : Nat := d.base + g * groupBytes d.fmt.toNat

/-- Where a read finds group `g`: the staging line of a staged group of a far delay, else the line's own storage (R274). A group of a far
delay that is neither staged nor missing, as one that has not yet entered the span or that a length change brings into it, is read from
LPDDR5X, also while it is being fetched (log entry 27). -/
def Desc.groupAt (d : Desc) (g : Nat) : Nat :=
  match (if d.loc = 1 then d.stage.find? (fun p => p.1 = g) else none) with
  | some p => lineAddr p.2
  | none => d.groupHome g

/-- Lines of span staging: SPAN_GROUPS + 4, of the larger span where a new one waits beside the one in force (R274, R280). -/
def Desc.stageLines (d : Desc) : Nat :=
  (match d.pendSpan with
   | some (_, g) => max d.spanGroups g
   | none => d.spanGroups) + 4

/-- The write-behind line of the group at WP of a far delay, four in turn (R274, R275). R274 does not order the lines of the region: the model
puts those of write-behind first, where no change of the span moves them (log entry 135). -/
def Desc.behindLine (d : Desc) : Nat := d.stageLine + d.turn % 4

/-- Where a read finds a position of a far delay whose group is still in write-behind: a slot written in the open group, or a completed group
that is not yet copied (R275, R859). -/
def Desc.behindAt (d : Desc) (pos : Nat) : Option Nat :=
  if d.loc != 1 then none
  else if d.wp / 16 = pos / 16 ∧ (if d.fmt = 0 then d.openFlags.getLsbD (pos % 16) else d.closed) = true then some (lineAddr d.behindLine)
  else (d.behind.reverse.find? (fun b => b.1 = pos / 16 && b.2.2.getLsbD (pos % 16))).map (fun b => lineAddr b.2.1)

/-- Where a DWR or a close writes the group at WP: write-behind for a far delay (R275), the storage itself for a line in Orbit memory. -/
def Desc.writeAt (d : Desc) : Nat := if d.loc = 1 then lineAddr d.behindLine else d.groupHome (d.wp / 16)

/-- Slot `k` of the group of `w` that stands at address `a` (R262, R314). -/
def State.slotAt (s : State) (w : Desc) (a k : Nat) : PointRes :=
  if w.fmt = 0 then
    match s.badIn (a + 4 * k) 4 with
    | some c => { val := 0, badAt := some c, tag := false }
    | none => { val := memWord s.mem (a + 4 * k), badAt := none, tag := false, soft := s.softWords (a + 4 * k) 4 }
  else
    let fmt := w.fmt.toNat
    let n := groupBytes fmt
    let g := s.load a n
    let codeAt := if fmt = 1 then a + 3 * k else a + (8 + facetW fmt * k) / 8
    let codeLen := if fmt = 1 then 3 else (8 + facetW fmt * (k + 1) + 7) / 8 - (8 + facetW fmt * k) / 8
    match s.badIn codeAt codeLen, (if fmt = 1 then none else s.badIn a 1) with
    | some c, _ => { val := 0, badAt := some c, tag := false }
    | none, some c => { val := 0, badAt := some c, tag := false }
    | none, none =>
      let soft := (s.softWords codeAt codeLen ++ if fmt = 1 then [] else s.softWords a 1).eraseDups
      if tagWrong fmt g then { val := 0, badAt := none, tag := true, soft := soft }
      else { val := decodeSample fmt g k, badAt := none, tag := false, soft := soft }

/-- The point at a position of the storage of `w`: a flagged slot of the open group from its entry, then zero at or above HWM, a far group in
write-behind from there, zero in a missing far group, else the stored group (R262, R264, R277, R308, R314, R859). -/
def State.point (s : State) (w : Desc) (pos : Nat) : PointRes :=
  if !w.valid then PointRes.zero
  else if w.openHas pos then { val := w.openAt pos, badAt := none, tag := false }
  else if w.hwm ≤ pos then PointRes.zero
  else match w.behindAt pos with
    | some a => s.slotAt w a (pos % 16)
    | none =>
      if w.loc = 1 && w.missing.contains (pos / 16) then PointRes.zero
      else s.slotAt w (w.groupAt (pos / 16)) (pos % 16)

/-- What one lane of a tap or table read delivers: its points in ascending j, its fraction after clamping, and whether it was clamped. -/
structure LaneRes where
  points : List PointRes
  frac : Nat
  clamped : Bool
  deriving DecidableEq, Repr

/-- Smallest and largest delay the points of a tap on `d` with storage `w` may have (R196, R276). -/
def tapBounds (d w : Desc) : Nat × Nat :=
  if w.loc = 1 then (max 64 w.spanLo, min (w.spanLo + 16 * (w.spanGroups + 1) - 1) (d.len - 1)) else (1, d.len - 1)

/-- A tap of points at delays D + j for j in `js` (R195, R196, R262). -/
def State.tapLane (s : State) (x : Engine) (d : Desc) (js : List Int) (arg : Word) : LaneRes :=
  if !d.valid then { points := js.map (fun _ => PointRes.zero), frac := 0, clamped := false }
  else
    let w := x.storage d
    let (lb, ub) := tapBounds d w
    let lo := js.headD 0
    let hi := js.getLastD 0
    let dMin : Int := lb - lo
    let dMax : Int := ub - hi
    let dIn : Int := (arg.toNat / 1024 : Nat)
    let isEmpty := decide (dMax < dMin)
    let dOut : Int := if isEmpty then dMin else if dIn < dMin then dMin else if dIn > dMax then dMax else dIn
    let clamped := isEmpty || decide (dIn < dMin) || decide (dIn > dMax)
    let pt := fun (j : Int) =>
      if decide ((d.len : Int) ≤ dOut + j) then PointRes.zero
      else s.point w (((w.wp : Int) - (dOut + j)) % (w.len : Int)).toNat
    { points := js.map pt, frac := if clamped then 0 else arg.toNat % 1024, clamped := clamped }

/-- A table read of points at absolute positions D + j modulo the length (R189, R265). -/
def State.tableLane (s : State) (x : Engine) (d : Desc) (js : List Int) (arg : Word) : LaneRes :=
  if !d.valid then { points := js.map (fun _ => PointRes.zero), frac := 0, clamped := false }
  else
    let w := x.storage d
    { points := js.map (fun j => s.point w ((((arg.toNat / 1024 : Nat) : Int) + j) % (w.len : Int)).toNat)
      frac := arg.toNat % 1024, clamped := false }

/-- The nodes of a form: one point at 0 for the plain forms. -/
def OForm.js : OForm → List Int
  | .interp _ eight _ => nodes eight
  | .trd4 _ _ => nodes false
  | _ => [0]

/-- Whether a form reads by absolute position. -/
def OForm.table : OForm → Bool
  | .trd _ => true
  | .trd4 _ _ => true
  | _ => false

/-- What lane `k` of a pending tap or table read delivers. -/
def State.readLane (s : State) (x : Engine) (o : OrbitOp) (k : Fin 64) : LaneRes :=
  let d := aGet Desc.zero x.desc (lane o.name k)
  if o.form.table then s.tableLane x d o.form.js (lane o.arg k) else s.tapLane x d o.form.js (lane o.arg k)

/-- A lane's clamp sets the line's CLAMP flag and counts (R196, R289). -/
def State.noteClamp (s : State) (e : Fin 8) (q : Nat) : State :=
  let s1 := s.modEngine e (fun x => { x with desc := aPut Desc.zero x.desc q { aGet Desc.zero x.desc q with clamp := true } })
  (s1.count (O.clampEvents e) 32 1).setObj (O.lastClampedLine e) q

/-- The counts one point raises (R199, R314). -/
def State.notePoint (s : State) (e : Fin 8) (p : PointRes) : State :=
  match p.badAt with
  | some a => s.poisonRead e 1 a
  | none =>
    let t := p.soft.foldl State.noteSoft s
    if p.tag then (t.modFault e (fun w => fwPoison w 1)).count (O.facetTagErrors e) 32 1 else t

/-- The counts one lane raises. -/
def State.noteLane (s : State) (e : Fin 8) (q : Nat) (r : LaneRes) : State :=
  let s1 := if r.clamped then s.noteClamp e q else s
  r.points.foldl (fun s p => s.notePoint e p) s1

/-- A pending tap or table read is served: its points are read, masked lanes only. -/
def State.serveTap (s : State) (e : Fin 8) (o : OrbitOp) : State × OrbitOp :=
  let x := s.engine e
  let res : Lanes LaneRes := tab (fun k => if bitOf o.mask k then s.readLane x o k else { points := [], frac := 0, clamped := false })
  let pts := (List.range o.form.js.length).map (fun i => (tab (fun k => ((lane res k).points.getD i PointRes.zero).val) : Lanes Word))
  let s1 := (List.finRange 64).foldl (fun s k => if bitOf o.mask k then s.noteLane e (lane o.name k) (lane res k) else s) s
  (s1, { o with served := true, points := pts, frac := tab (fun k => (lane res k).frac) })

/-! ### Delay writes (R198, R307, R309) -/

/-- The 16 samples a close encodes (R309, R312): flagged slots from the entry, the others decoded from the old block in the line's own
storage, zero at or above HWM. Of two closes in one tick the second takes the block of the first for the old one, on a far line in
write-behind: the spec does not say which it is (log entry 137). -/
def State.closeSamples (s : State) (w : Desc) : List PointRes :=
  (List.range 16).map (fun i =>
    let pos := w.wp / 16 * 16 + i
    if w.openFlags.getLsbD i then { val := w.openAt pos, badAt := none, tag := false }
    else if w.hwm ≤ pos then PointRes.zero
    else s.slotAt w (if w.closed then w.writeAt else w.groupHome (w.wp / 16)) i)

/-- A partial write of the delay unit of engine `e` over the uncorrectable word at `c` is not performed (R711). -/
def State.refusePartial (s : State) (e : Fin 8) (c : Nat) : State :=
  ((s.modFault e (fun f => fwSet f fwWriteRefused)).noteBad 1 c).count O.partialWritesRefused 32 1

/-- The lines or words that a write of `n` bytes covers in part are corrected first, each partial write over a correctable word counting one
correction (R710, R711). -/
def State.correct (s : State) (a n : Nat) : State :=
  (partialUnits a n).foldl (fun s p =>
    if s.soft.any (inRange p.1 p.2) then
      ({ s with soft := s.soft.filter (fun c => !inRange p.1 p.2 c) } : State).count O.correctedWords 64 1
    else s) s

/-- The group of `w` that holds WP is encoded and its block written (R309), that of a far delay into write-behind (R275); refused as a
partial write over an uncorrectable word (R711). A block over two lines is one write: an uncorrectable word that it covers in part in either
keeps both as they are (log entry 138). -/
def State.closeGroup (s : State) (e : Fin 8) (w : Desc) : State :=
  let pts := s.closeSamples w
  let fmt := w.fmt.toNat
  let xs := pts.map (·.val)
  let n := groupBytes fmt
  let a := w.writeAt
  let s1 := pts.foldl (fun s p => s.notePoint e p) s
  let s2 := (s1.count (O.facetGroupsClosed e) 64 1).count (O.facetSaturations e) 32 (groupSaturations fmt xs)
  match s2.partialBad a n with
  | some c => s2.refusePartial e c
  | none => (s2.correct a n).store a n (encodeGroup fmt xs)

/-- A partial write of a 32-bit word to Orbit memory by the delay unit of engine `e` (R710, R711). -/
def State.orbitWord (s : State) (e : Fin 8) (a : Nat) (w : Word) : State :=
  match s.partialBad a 4 with
  | some c => s.refusePartial e c
  | none => (s.correct a 4).store a 4 w.toNat

/-- One lane of a DWR: descriptor `q` takes `v` as its sample of the tick. HWM rises also where the write of the sample or of its block is
refused over an uncorrectable word (log entry 106). -/
def State.dwrLane (s : State) (e : Fin 8) (q : Nat) (v : Word) : State :=
  let d := aGet Desc.zero (s.engine e).desc q
  if !d.valid || d.aliased then s
  else
    let raise := fun (d : Desc) => if d.wp = d.hwm ∧ d.hwm < d.len then { d with hwm := d.hwm + 1 } else d
    let setD := fun (s : State) (d : Desc) => s.modEngine e (fun x => { x with desc := aPut Desc.zero x.desc q d })
    let slot : Fin 16 := ⟨d.wp % 16, Nat.mod_lt _ (by decide)⟩
    let flags := d.openFlags ||| BitVec.ofNat 16 (2 ^ slot.val)
    if d.fmt = 0 then setD (s.orbitWord e (d.writeAt + 4 * slot.val) v) (raise { d with openFlags := if d.loc = 1 then flags else d.openFlags })
    else
      let d1 : Desc := { d with openVals := put d.openVals slot v, openFlags := flags }
      if slot = 15 then setD (s.closeGroup e d1) { raise d1 with closed := true } else setD s (raise d1)

/-! ### I/O, exchange and private words (R187, R188, R200 to R203) -/

/-- Bus base of an input or output half of the I/O area (R281). -/
def inHalfBase (h : Bool) : Nat := orbitBase + (if h then 0x5F40000 else 0x5F00000)
def outHalfBase (h : Bool) : Nat := orbitBase + (if h then 0x5FC0000 else 0x5F80000)

/-- The bus address of a byte offset in the exchange half that EXW writes (`w` true) or EXR reads (R283). -/
def OrbitIo.exAddr (io : OrbitIo) (w : Bool) (off : Nat) : Nat :=
  (if io.exHalf == w then io.exBase1 else io.exBase0) + off

/-- Whether a write at issue position `pos` by engine `e` stands over the one recorded: the later issue, and in the
same cycle the lower engine number (R202). -/
def standsOver (old : Option (Nat × Nat)) (pos e : Nat) : Bool :=
  match old with
  | none => true
  | some (p, f) => decide (p < pos) || (decide (p = pos) && decide (e ≤ f))

/-- The record of a channel or word write. -/
def byGet (l : List (Nat × (Nat × Nat))) (c : Nat) : Option (Nat × Nat) := (l.find? (fun p => p.1 = c)).map (·.2)
def byPut (l : List (Nat × (Nat × Nat))) (c : Nat) (v : Nat × Nat) : List (Nat × (Nat × Nat)) :=
  (c, v) :: l.filter (fun p => p.1 != c)

/-- One lane of an OUT: channel `c` takes `v` if this write stands (R202). -/
def State.outLane (s : State) (e : Fin 8) (pos c : Nat) (v : Word) : State :=
  if standsOver (byGet s.io.outBy c) pos e then
    let s1 := s.orbitWord e (outHalfBase s.io.outHalf + 4 * c) v
    { s1 with io := { s1.io with outBy := byPut s1.io.outBy c (pos, e) } }
  else s

/-- One lane of an EXW: the word at byte offset `off` of the exchange write half. -/
def State.exwLane (s : State) (e : Fin 8) (pos off : Nat) (v : Word) : State :=
  if s.io.exSize = 0 then s
  else if standsOver (byGet s.io.exBy off) pos e then
    let s1 := s.orbitWord e (s.io.exAddr true off) v
    { s1 with io := { s1.io with exBy := byPut s1.io.exBy off (pos, e) } }
  else s

/-- A word read by a 2-cycle operation of engine `e`: zero with POISON on an uncorrectable word. -/
def State.orbitRead (s : State) (a : Nat) : PointRes :=
  match s.badIn a 4 with
  | some c => { val := 0, badAt := some c, tag := false }
  | none => { val := memWord s.mem a, badAt := none, tag := false }

/-- What one lane of an IN, EXR or OLD delivers. `name` is the channel or the byte offset, which is taken as it is: four bytes from an
offset that is no multiple of 4 are accessed there (log entry 105). An exchange or private area of no bytes has no words; a read there
delivers a free word (log entry 2). -/
def State.ioLane (s : State) (e : Fin 8) (f : OForm) (name : Nat) : PointRes :=
  let freeRes : PointRes := { val := Config.freeWord (s.freeCtr + name), badAt := none, tag := false }
  match f with
  | .chanIn _ => s.orbitRead (inHalfBase s.io.inHalf + 4 * name)
  | .exr _ => if s.io.exSize = 0 then freeRes else s.orbitRead (s.io.exAddr false (name % s.io.exSize))
  | .old _ => if lane s.io.privSize e = 0 then freeRes else s.orbitRead (orbitBase + lane s.io.privBase e + name % lane s.io.privSize e)
  | _ => PointRes.zero

/-- Whether a lane of an EXR reads a word zeroed for a faulted producer (R135). -/
def State.exrFaulted (s : State) (o : OrbitOp) (k : Fin 64) : Bool :=
  match o.form with
  | .exr _ => bitOf o.mask k && s.io.exSize != 0 &&
      [0, 3].any (fun i => s.io.exFaulted.contains ((lane o.name k % s.io.exSize + i) / 4 * 4))
  | _ => false

/-- A pending IN, EXR or OLD is served. -/
def State.serveIo (s : State) (e : Fin 8) (o : OrbitOp) : State × OrbitOp :=
  let res : Lanes PointRes := tab (fun k => if bitOf o.mask k then s.ioLane e o.form (lane o.name k) else PointRes.zero)
  let s1 := (List.finRange 64).foldl (fun s k => s.notePoint e (lane res k)) s
  let s2 := if (List.finRange 64).any (s.exrFaulted o) then s1.modFault e (fun w => fwSet w fwUpstream) else s1
  ({ s2 with freeCtr := s2.freeCtr + 1 }, { o with served := true, points := [tab (fun k => (lane res k).val)] })

/-- Whether a lane of a DWR is the highest unmasked one that names its line: only that lane is written (R198). -/
def OrbitOp.topLane (o : OrbitOp) (k : Fin 64) : Bool :=
  (List.finRange 64).all (fun j => !(decide (k < j) && bitOf o.mask j && lane o.name j == lane o.name k))

/-- A pending write is served, lane by lane from lane 0 up. -/
def State.serveWrite (s : State) (e : Fin 8) (o : OrbitOp) : State :=
  (List.finRange 64).foldl (fun s k =>
    if bitOf o.mask k then
      match o.form with
      | .dwr => if o.topLane k then s.dwrLane e (lane o.name k) (lane o.arg k) else s
      | .chanOut => s.outLane e o.pos (lane o.name k) (lane o.arg k)
      | .exw => s.exwLane e o.pos (if s.io.exSize = 0 then 0 else lane o.name k % s.io.exSize) (lane o.arg k)
      | .ost =>
        if lane s.io.privSize e = 0 then s
        else s.orbitWord e (orbitBase + lane s.io.privBase e + lane o.name k % lane s.io.privSize e) (lane o.arg k)
      | _ => s
    else s) s

/-- Whether a form only writes. -/
def OForm.writes : OForm → Bool
  | .dwr => true
  | .chanOut => true
  | .exw => true
  | .ost => true
  | _ => false

/-- Whether a form is IN, EXR or OLD. -/
def OForm.quick : OForm → Bool
  | .chanIn _ => true
  | .exr _ => true
  | .old _ => true
  | _ => false

/-- A pending operation is served (R244). -/
def State.serveOp (s : State) (e : Fin 8) (o : OrbitOp) : State × OrbitOp :=
  if o.form.writes then (s.serveWrite e o, { o with served := true })
  else if o.form.quick then s.serveIo e o
  else s.serveTap e o

/-! ### Weighting of interpolated points (R191, R192) -/

/-- The first bundle in which an interpolated form claims the M slot, and how many it claims. -/
def OForm.claim : OForm → Option (Nat × Nat)
  | .interp _ true _ => some (36, 8)
  | .interp _ false _ => some (20, 4)
  | .trd4 _ _ => some (20, 4)
  | _ => none

/-- Destination accumulator and accumulate flag of an interpolated form. -/
def OForm.accDest : OForm → Option (Fin 8 × Bool)
  | .interp d _ a => some (d, a)
  | .trd4 d a => some (d, a)
  | _ => none

/-- The exact contribution of point `i` in lane `k`: a Q1.31 sample times a Q2.30 coefficient, in Q9.63 (R193). -/
def OrbitOp.term (o : OrbitOp) (i : Nat) (k : Fin 64) : Int :=
  let eight := o.form.js.length = 8
  (lane (o.points.getD i (allLanes 0)) k).toInt * lagrange eight (lane o.frac k) (o.form.js.getD i 0) * 4

/-- Whether a flight brings accumulator lanes to the A slot. -/
def Flight.isAcc (f : Flight) : Bool :=
  match f.wr with
  | .accA _ _ _ => true
  | _ => false

/-- Point `i` is weighted into the accumulator: the first of a plain form clears, every other accumulates (R192). The A slot sees the tap
only as a whole, from the bundle of its last point on (R179, R219). -/
def Engine.weigh (x : Engine) (o : OrbitOp) (i : Nat) : Engine :=
  match o.form.accDest with
  | none => x
  | some (d, accum) =>
    let y := if i = 0 ∧ accum = false then x.accClear d o.mask (o.term 0) else x.accAdd d o.mask (o.term i)
    if i + 1 = o.form.js.length then y
    else { y with flights := x.flights ++ (y.flights.drop x.flights.length).filter (fun f => !f.isAcc) }

/-- Whether an operation claims the M slot in the bundle that is `age` after its issue. -/
def OrbitOp.claims (o : OrbitOp) (age : Nat) : Bool :=
  match o.form.claim with
  | some (c, n) => decide (c ≤ age) && decide (age < c + n)
  | none => false

/-- Bundles from issue to the bundle that sees the result in a vector register (R189). -/
def OForm.visible : OForm → Nat
  | .tap _ => 24
  | .trd _ => 24
  | .chanIn _ => 12
  | .exr _ => 12
  | .old _ => 12
  | .interp _ true _ => 44
  | _ => 24

/-- Bundle before which the accesses of a reading form are to be served (R245). -/
def OForm.deadline (f : OForm) : Nat := if f.quick then 10 else 20

/-- The vector register a form loads. -/
def OForm.vecDest : OForm → Option (Fin 32)
  | .tap d => some d
  | .trd d => some d
  | .chanIn d => some d
  | .exr d => some d
  | .old d => some d
  | _ => none

end Sys2Proof.Machine
end

