-- ==== Sys2Proof/Machine/Groups.lean ====
section
/-! DEFINITION. Fault substitution, fades and ramps of channel groups (R137 to R146), and the publication of the output half. -/
namespace Sys2Proof.Machine
open Sys2Proof

/-- Length of the fade of a policy: 0 ZERO, 1 FADE64, 2 FADE1024 (R141). -/
def policyLen (p : Nat) : Nat := if p = 0 then 0 else if p = 1 then 64 else 1024

/-- Substituted sample `k` of a fade of `len` samples from `x` (R141). -/
def fadeSample (len k : Nat) (x : Word) : Word :=
  if k < len then BitVec.ofInt 32 (roundHalfEven (x.toInt * ((len : Int) - 1 - k)) len) else 0

/-- Sample `j` of a ramp to the computed value `c` (R143). -/
def rampSample (j : Nat) (c : Word) : Word := BitVec.ofInt 32 (roundHalfEven (c.toInt * j) 64)

/-- A group enters a fade of `len` samples, which starts from the last published sample (R141). -/
def Group.enter (g : Group) (len : Nat) : Group := { g with phase := .fade len 0, x := g.last }

/-- The phase a group is in for this tick, before its samples are formed: entries of R139 and R145, the coincidences of
R146, and the start of the ramp (R142, R143). `f`: the group is faulted; `mute`: every output is faded. -/
def Group.settle (g : Group) (f mute : Bool) (policy : Nat) : Group :=
  match g.phase with
  | .pass => if mute then g.enter 64 else if f then g.enter (policyLen policy) else g
  | .ramp _ => if mute then g.enter 64 else if f then g.enter (policyLen policy) else g
  | .fade len k =>
    if k < len then (if mute && len = 1024 then g.enter 64 else g)
    else if f || mute then g else { g with phase := .ramp 1 }

/-- The engines whose fault keeps the group in fault substitution after the faults of this tick: until the fade in progress has ended and
the engine is no longer faulted (R139, R142). -/
def Group.blame (g : Group) (faulty : List Nat) : List Nat :=
  match g.phase with
  | .fade len k => if k < len then (g.byFault ++ faulty).eraseDups else faulty
  | _ => faulty

/-- In Safe-mute a receive group behaves as FADE64: a FADE1024 fade under way switches to it (R145, R146). -/
def Group.safe (g : Group) : Group :=
  match g.phase with
  | .fade len k => if k < len && len = 1024 then g.enter 64 else g
  | _ => g

/-- The sample a settled group delivers for a computed sample `c` of channel `i`. -/
def Group.sample (g : Group) (i : Fin 16) (c : Word) : Word :=
  match g.phase with
  | .pass => c
  | .ramp j => rampSample j c
  | .fade len k => fadeSample len k (lane g.x i)

/-- The phase after the samples of a tick. -/
def Group.after (g : Group) : Group :=
  match g.phase with
  | .pass => g
  | .ramp j => { g with phase := if j < 64 then .ramp (j + 1) else .pass }
  | .fade len k => { g with phase := .fade len (if k < len then k + 1 else k) }

/-- One tick of a group: its samples, and the group after it. -/
def Group.tick (g : Group) (f mute : Bool) (policy : Nat) (c : Vector Word 16) : Vector Word 16 × Group :=
  let g1 := g.settle f mute policy
  let out : Vector Word 16 := tab (fun i => g1.sample i (lane c i))
  (out, { g1.after with last := out })

/-- Whether a group holds zero or has never published. -/
def Group.silent (g : Group) : Bool :=
  match g.phase with
  | .fade len k => decide (len ≤ k)
  | _ => decide (g = Group.zero)

/-- The table key of the receive side of group `g`; output groups use their own number. -/
def recvKey (g : Nat) : Nat := 4096 + g

/-- A group of the state. -/
def State.group (s : State) (g : Nat) : Group := aGet Group.zero s.groups g

/-- A group replaced. -/
def State.setGroup (s : State) (g : Nat) (x : Group) : State := { s with groups := aPut Group.zero s.groups g x }

/-- Policy of a group (R138). -/
def State.policy (s : State) (g : Nat) : Nat := s.obj (O.groupFaultPolicy g)

/-- Engines that write an output group: by the placement, or by a write of this tick (R139). -/
def State.groupOwners (s : State) (g : Nat) : List Nat :=
  ((s.io.owners.filter (fun p => p.1 = g)).map (·.2) ++ (s.io.outBy.filter (fun p => p.1 / 16 = g)).map (·.2.2)).eraseDups

/-- Whether engine number `n` is faulted by the fault word of the tick in progress (R132). -/
def State.engineFaulted (s : State) (n : Nat) : Bool := faulted (s.engine ⟨n % 8, Nat.mod_lt _ (by decide)⟩).fault

/-- The computed samples of an output group: zero for a channel no OUT wrote (R201). -/
def State.computed (s : State) (g : Nat) : Vector Word 16 :=
  tab (fun i => if (byGet s.io.outBy (16 * g + i.val)).isSome then memWord s.mem (outHalfBase s.io.outHalf + 4 * (16 * g + i.val)) else 0)

/-- The output groups that the publication of this tick concerns. -/
def State.liveGroups (s : State) : List Nat :=
  let l : List Nat := s.io.outBy.map (fun p => p.1 / 16) ++ s.io.owners.map (fun p => p.1) ++ aKeys s.groups
  (l.filter (fun g => decide (g < 4096))).foldl setAdd []

/-- Sixteen samples of a group stored in a half of the I/O area (R281). -/
def State.storeGroup (s : State) (base g : Nat) (v : Vector Word 16) : State :=
  s.store (base + 64 * g) 64 (v.toList.zipIdx.foldl (fun acc p => acc + p.1.toNat * 2 ^ (32 * p.2)) 0)

/-- Group `g` is published: substitution or ramp applied, the samples stored in the half that becomes the transmit source (R144). OUT_SUBST
counts the group for each engine whose fault substitutes it (R130, R146). -/
def State.publishGroup (s : State) (g : Nat) : State :=
  let faulty := (s.groupOwners g).filter s.engineFaulted
  let was := s.group g
  let blame := was.blame faulty
  let (out, gr) := was.tick (!faulty.isEmpty) (!s.mutes.isEmpty) (s.policy g) (s.computed g)
  let s1 := (s.setGroup g { gr with byFault := blame }).storeGroup (outHalfBase s.io.outHalf) g out
  blame.foldl (fun s n => s.modFault ⟨n % 8, Nat.mod_lt _ (by decide)⟩ (fun w => fwOutSubst w 1)) s1

/-- Every channel outside the groups of a list reads zero in a half of the I/O area (R200, R201). -/
def State.zeroOthers (s : State) (base : Nat) (live : List Nat) : State :=
  { s with mem := s.mem.filter (fun c => !(decide (base ≤ c.1) && decide (c.1 < base + 0x40000) && !live.contains ((c.1 - base) / 64))) }

/-- Publication at the swap: the half written in the last tick becomes the transmit source, the other is written next (R68, R144); a
channel of a group that nothing writes publishes zero (R201). -/
def State.publish (s : State) : State :=
  let live := s.liveGroups
  let s1 := (live.foldl State.publishGroup s).zeroOthers (outHalfBase s.io.outHalf) live
  { s1 with io := { s1.io with outHalf := !s1.io.outHalf, outBy := [] } }

/-- The word that left channel `c` in the present tick. -/
def State.published (s : State) (c : Nat) : Word := memWord s.mem (outHalfBase (!s.io.outHalf) + 4 * c)

/-- Whether every output has completed its fade. -/
def State.allSilent (s : State) : Bool := s.groups.all (fun p => decide (4096 ≤ p.1) || p.2.silent)

end Sys2Proof.Machine
end

