-- ==== Sys2Proof/Machine/Bundle.lean ====
section
/-! DEFINITION. The open bundle of an engine: how a slot operation enters it, and what its close does. -/
namespace Sys2Proof.Machine
open Sys2Proof

/-! ### Service of the delay unit's queue (R244 to R249) -/

/-- Replace the operation at position `i` of the queue of engine `e`. -/
def State.setOp (s : State) (e : Fin 8) (i : Nat) (o : OrbitOp) : State :=
  s.modEngine e (fun x => { x with ops := x.ops.set i o })

/-- What an operation served after its result was due does on arrival (R249): its result goes straight to its destination. -/
def Engine.arriveLate (x : Engine) (o : OrbitOp) : Engine :=
  match o.form.vecDest with
  | some d => x.land (.vec d o.mask (o.points.getD 0 (allLanes 0)))
  | none => (List.range o.form.js.length).foldl (fun x i => x.weigh o i) x

/-- Whether an operation's result can no longer arrive on time: the bundle that first uses it has passed. -/
def OrbitOp.overdue (o : OrbitOp) : Bool :=
  match o.form.claim with
  | some (c, _) => decide (c ≤ o.age)
  | none => decide (o.form.visible ≤ o.age)

/-- Whether an access is past its deadline: a write once its tick is over (R245). -/
def OrbitOp.late (o : OrbitOp) : Bool := decide ((if o.form.writes then 32768 else o.form.deadline) ≤ o.age)

/-- The operation at position `i` of the queue of engine `e` is served; one past its deadline is counted (R249). -/
def State.serveAt (s : State) (e : Fin 8) (i : Nat) : State :=
  match (s.engine e).ops[i]? with
  | none => s
  | some o =>
    if o.served then s
    else
      let r := s.serveOp e o
      let s1 := if o.late then r.1.count O.orbitLate 32 1 else r.1
      if !o.form.writes && o.overdue then
        (s1.setOp e i { r.2 with form := .dwr }).modEngine e (fun x => x.arriveLate r.2)
      else s1.setOp e i r.2

/-- Position of the first operation still to be served. -/
def Engine.firstPending (x : Engine) : Option Nat := x.ops.findIdx? (fun o => !o.served)

/-- The next pending access of an engine is served, in issue order (R244). -/
def State.serveNext (s : State) (e : Fin 8) : State :=
  match (s.engine e).firstPending with
  | some i => s.serveAt e i
  | none => s

/-- Every operation of the queue up to position `n` is served, in order. -/
def State.serveUpTo (s : State) (e : Fin 8) (n : Nat) : State := (List.range n).foldl (fun s i => s.serveAt e i) s

/-- How far the queue must be served for every reading operation whose deadline falls at the next bundle. -/
def Engine.dueCount (x : Engine) : Nat :=
  (x.ops.zipIdx.foldl (fun n p => if !p.1.served && !p.1.form.writes && decide (p.1.form.deadline ≤ p.1.age + 1) then p.2 + 1 else n) 0)

/-! ### Close of a bundle -/

/-- The interpolated taps that claim this bundle's M slot weight one point each. -/
def Engine.weighClaims (x : Engine) : Engine :=
  x.ops.foldl (fun x o =>
    match o.form.claim with
    | some (c, n) => if o.served && decide (c ≤ o.age) && decide (o.age < c + n) then x.weigh o (o.age - c) else x
    | none => x) x

/-- One 32-bit store of an operand slot: a full word of engine memory. -/
def State.storeWord (s : State) (p : Nat × Word) : State := s.store p.1 4 p.2.toNat

/-- Whether two stores of one bundle address one word (R107). -/
def storesMeet : List StoreReq → Bool
  | [a, b] => a.words.any (fun p => b.words.any (fun q => p.1 = q.1))
  | _ => false

/-- The stores of the open bundle are performed: X first, so that the Y value stands (R107). Where two lanes of one STV address one word,
under a modulo length below 256 bytes, the higher lane stands (log entry 107). -/
def State.doStores (s : State) (e : Fin 8) : State :=
  let reqs := (s.engine e).stores
  let s1 := reqs.foldl (fun s r => r.words.foldl State.storeWord s) s
  let s2 := if storesMeet reqs then s1.modFault e (fun w => fwSet w fwStoreSame) else s1
  s2.modEngine e (fun x => { x with stores := [] })

/-- Results of delay-unit reads that are visible from the next bundle, in issue order. -/
def Engine.opsLanding (x : Engine) : List RegWrite :=
  x.ops.filterMap (fun o =>
    match o.form.vecDest with
    | some d => if o.served && decide (o.age + 1 = o.form.visible) then some (.vec d o.mask (o.points.getD 0 (allLanes 0))) else none
    | none => none)

/-- The queue one bundle later: served writes and finished reads leave it. -/
def Engine.agedOps (x : Engine) : List OrbitOp :=
  (x.ops.filter (fun o => !(o.served && (o.form.writes || decide (o.form.visible ≤ o.age + 1))))).map (fun o => { o with age := o.age + 1 })

/-- The register side of a close: ENTRY, then the results that land, the queue's age, the sequencer (R156, R219). -/
def Engine.closeRegs (x : Engine) : Engine :=
  let late := x.opsLanding
  let land := x.landing
  let x1 := if x.entryNow then x.resetRegs else x
  let x2 := x1.landAll (late ++ land)
  let x3 : Engine := { x2 with flights := x.stillFlying, ops := x.agedOps, oBusy := x.oBusy - 1, nextSlot := 0, entryNow := false }
  x3.advance

/-- A BKPT of the bundle takes effect after it: the tick is abandoned (R213). -/
def Engine.closeHalt (x : Engine) : Engine :=
  if x.haltNow then { x with haltNow := false, active := false, ops := [], flights := [], fault := fwSet x.fault fwDebugHalt } else x

/-- The delay-unit operations a halt still completes: all but one in its occupancy (R219). -/
def Engine.beforeHalt (x : Engine) : Nat := if 1 ≤ x.oBusy then x.ops.length - 1 else x.ops.length

/-- The open bundle of engine `e` closes. -/
def State.closeBundle (s : State) (e : Fin 8) : State :=
  let s1 := s.modEngine e Engine.weighClaims
  let s2 := s1.doStores e
  let s3 := if (s2.engine e).unchecked then s2 else s2.serveUpTo e (s2.engine e).dueCount
  let s4 := if (s3.engine e).haltNow then s3.serveUpTo e (s3.engine e).beforeHalt else s3
  s4.modEngine e (fun x => x.closeRegs.closeHalt)

/-! ### Entry of a slot operation -/

/-- Slot order M, A, X, Y, O, C (R154). -/
def slotM : Nat := 0
def slotA : Nat := 1
def slotXY (y : Bool) : Nat := if y then 3 else 2
def slotO : Nat := 4
def slotC : Nat := 5

/-- A slot operation enters the open bundle of its engine if its slot is still to come there; otherwise that bundle
closes first and the operation opens the next (log entry 4). -/
def State.openSlot (s : State) (e : Fin 8) (k : Nat) : State :=
  let s1 := if k < (s.engine e).nextSlot then s.closeBundle e else s
  s1.modEngine e (fun x => { x with nextSlot := k + 1 })

/-- A slot operation that only changes its engine. -/
def State.slotOp (s : State) (e : Fin 8) (k : Nat) (f : Engine → Engine) : State := (s.openSlot e k).modEngine e f

/-- Whether the open bundle's M slot is claimed by an interpolated tap (R191). -/
def Engine.mClaimed (x : Engine) : Bool := x.ops.any (fun o => o.claims o.age)

/-- An M-slot operation; in a claimed bundle it acts as MNOP (R218). -/
def State.mOp (s : State) (e : Fin 8) (f : Engine → Engine) : State :=
  s.slotOp e slotM (fun x => if x.mClaimed then x else f x)

end Sys2Proof.Machine
end

