-- ==== Sys2Proof/Machine/ASlot.lean ====
section
/-! DEFINITION. The A slot: vector ALU (R173 to R179). -/
namespace Sys2Proof.Machine
open Sys2Proof

/-- A vector result of the A slot, seen after `lat` bundles, in the unmasked lanes of Vd (R89, R156). -/
def Engine.aVec (x : Engine) (lat : Nat) (d : Fin 32) (m : Fin 8) (val : Lanes Word) : Engine :=
  x.sched lat (.vec (physReg x.wb d) (x.readM m) val)

/-- A lane-wise A-slot operation. -/
def State.aLanes (s : State) (e : Fin 8) (lat : Nat) (d : Fin 32) (m : Fin 8) (f : Engine → Fin 64 → Word) : State :=
  s.slotOp e slotA (fun x => x.aVec lat d m (tab (f x)))

/-- A mask result of the A slot, in the lanes of Mm (R178). -/
def State.aMask (s : State) (e : Fin 8) (d m : Fin 8) (f : Engine → Fin 64 → Bool) : State :=
  s.slotOp e slotA (fun x => x.sched 1 (.msk d (x.readM m) (maskOf (f x))))

/-- Lane `k` of Vk as a signed integer. -/
def Engine.int (x : Engine) (a : Fin 32) (k : Fin 64) : Int := (lane (x.readV a) k).toInt

/-- Lane `k` of Vk as a word. -/
def Engine.word (x : Engine) (a : Fin 32) (k : Fin 64) : Word := lane (x.readV a) k

/-- The lane that LROT by `r` brings to lane `k` (R174). -/
def rotLane (k : Fin 64) (r : Nat) : Fin 64 := ⟨(k.val + r) % 64, Nat.mod_lt _ (by decide)⟩

/-- Lane `j` modulo 64. -/
def laneMod (j : Nat) : Fin 64 := ⟨j % 64, Nat.mod_lt _ (by decide)⟩

/-- Group size of BEXP (R175; other values act as 64 under R218). -/
def bexpSize (g : Fin 32) : Nat := if g = 0 then 16 else if g = 1 then 32 else 64

/-- The lanes of the group of `size` lanes that holds lane `k`, of those set in `m`. -/
def groupLanes (size : Nat) (m : BitVec 64) (k : Fin 64) : List (Fin 64) :=
  (List.finRange 64).filter (fun j => decide (j.val / size = k.val / size) && bitOf m j)

/-- The least value of `f` over some lanes, or `top` if there are none (R127, R128). -/
def leastOver (l : List (Fin 64)) (f : Fin 64 → Int) (top : Int) : Int := l.foldl (fun a j => min a (f j)) top

/-- The lanes set in a mask. -/
def lanesOf (m : BitVec 64) : List (Fin 64) := (List.finRange 64).filter (fun k => bitOf m k)

/-- NORM of lane `k` of Va (R125). -/
def Engine.normLane (x : Engine) (a : Fin 32) (k : Fin 64) : Int := norm32 (x.word a k)

/-- EXP of lane `k` of As, as the A slot sees it (R126, R179). -/
def Engine.expLane (x : Engine) (a : Fin 8) (k : Fin 64) : Int := expAcc (lane (lane x.accA a) k)

/-- ANOP: the A slot of the bundle does nothing. -/
def execAnop (e : Fin 8) (s : State) : Out := .next (s.openSlot e slotA)

/-- ADD: saturating sum. -/
def execAdd (e : Fin 8) (d : Fin 32) (a b : Fin 32) (m : Fin 8) (s : State) : Out :=
  .next (s.aLanes e 1 d m (fun x k => satWord (x.int a k + x.int b k)))

/-- SUB: saturating difference. -/
def execSub (e : Fin 8) (d : Fin 32) (a b : Fin 32) (m : Fin 8) (s : State) : Out :=
  .next (s.aLanes e 1 d m (fun x k => satWord (x.int a k - x.int b k)))

/-- ADDW: sum modulo 2^32. -/
def execAddw (e : Fin 8) (d : Fin 32) (a b : Fin 32) (m : Fin 8) (s : State) : Out :=
  .next (s.aLanes e 1 d m (fun x k => x.word a k + x.word b k))

/-- SUBW: difference modulo 2^32. -/
def execSubw (e : Fin 8) (d : Fin 32) (a b : Fin 32) (m : Fin 8) (s : State) : Out :=
  .next (s.aLanes e 1 d m (fun x k => x.word a k - x.word b k))

/-- ADDS: saturating sum with a scalar. -/
def execAdds (e : Fin 8) (d : Fin 32) (a : Fin 32) (b : Fin 16) (m : Fin 8) (s : State) : Out :=
  .next (s.aLanes e 1 d m (fun x k => satWord (x.int a k + (x.readS b).toInt)))

/-- SUBS: saturating difference with a scalar. -/
def execSubs (e : Fin 8) (d : Fin 32) (a : Fin 32) (b : Fin 16) (m : Fin 8) (s : State) : Out :=
  .next (s.aLanes e 1 d m (fun x k => satWord (x.int a k - (x.readS b).toInt)))

/-- ABS: saturating absolute value. -/
def execVabs (e : Fin 8) (d : Fin 32) (a : Fin 32) (m : Fin 8) (s : State) : Out :=
  .next (s.aLanes e 1 d m (fun x k => satWord (x.int a k).natAbs))

/-- NEG: saturating negation. -/
def execNeg (e : Fin 8) (d : Fin 32) (a : Fin 32) (m : Fin 8) (s : State) : Out :=
  .next (s.aLanes e 1 d m (fun x k => satWord (-x.int a k)))

/-- MIN: the smaller, as signed integers. -/
def execVmin (e : Fin 8) (d : Fin 32) (a b : Fin 32) (m : Fin 8) (s : State) : Out :=
  .next (s.aLanes e 1 d m (fun x k => if x.int a k ≤ x.int b k then x.word a k else x.word b k))

/-- MAX: the larger, as signed integers. -/
def execVmax (e : Fin 8) (d : Fin 32) (a b : Fin 32) (m : Fin 8) (s : State) : Out :=
  .next (s.aLanes e 1 d m (fun x k => if x.int b k ≤ x.int a k then x.word a k else x.word b k))

/-- MINS: the smaller of Va and Sb. -/
def execMins (e : Fin 8) (d : Fin 32) (a : Fin 32) (b : Fin 16) (m : Fin 8) (s : State) : Out :=
  .next (s.aLanes e 1 d m (fun x k => if x.int a k ≤ (x.readS b).toInt then x.word a k else x.readS b))

/-- MAXS: the larger of Va and Sb. -/
def execMaxs (e : Fin 8) (d : Fin 32) (a : Fin 32) (b : Fin 16) (m : Fin 8) (s : State) : Out :=
  .next (s.aLanes e 1 d m (fun x k => if (x.readS b).toInt ≤ x.int a k then x.word a k else x.readS b))

/-- AND. -/
def execVand (e : Fin 8) (d : Fin 32) (a b : Fin 32) (m : Fin 8) (s : State) : Out :=
  .next (s.aLanes e 1 d m (fun x k => x.word a k &&& x.word b k))

/-- OR. -/
def execVor (e : Fin 8) (d : Fin 32) (a b : Fin 32) (m : Fin 8) (s : State) : Out :=
  .next (s.aLanes e 1 d m (fun x k => x.word a k ||| x.word b k))

/-- XOR. -/
def execVxor (e : Fin 8) (d : Fin 32) (a b : Fin 32) (m : Fin 8) (s : State) : Out :=
  .next (s.aLanes e 1 d m (fun x k => x.word a k ^^^ x.word b k))

/-- NOT. -/
def execVnot (e : Fin 8) (d : Fin 32) (a : Fin 32) (m : Fin 8) (s : State) : Out :=
  .next (s.aLanes e 1 d m (fun x k => ~~~x.word a k))

/-- MOV. -/
def execMov (e : Fin 8) (d : Fin 32) (a : Fin 32) (m : Fin 8) (s : State) : Out :=
  .next (s.aLanes e 1 d m (fun x k => x.word a k))

/-- MOVS: Sb in every unmasked lane. -/
def execMovs (e : Fin 8) (d : Fin 32) (b : Fin 16) (m : Fin 8) (s : State) : Out :=
  .next (s.aLanes e 1 d m (fun x _ => x.readS b))

/-- ASRI: arithmetic right shift by an immediate, rounded half to even. -/
def execAsri (e : Fin 8) (d : Fin 32) (a k5 : Fin 32) (m : Fin 8) (s : State) : Out :=
  .next (s.aLanes e 1 d m (fun x k => BitVec.ofInt 32 (roundHalfEven (x.int a k) (2 ^ k5.val))))

/-- ASRV: as ASRI with the count in the low five bits of Vb. -/
def execAsrv (e : Fin 8) (d : Fin 32) (a b : Fin 32) (m : Fin 8) (s : State) : Out :=
  .next (s.aLanes e 1 d m (fun x k => BitVec.ofInt 32 (roundHalfEven (x.int a k) (2 ^ ((x.word b k).toNat % 32)))))

/-- LSRI: logical right shift. -/
def execLsri (e : Fin 8) (d : Fin 32) (a k5 : Fin 32) (m : Fin 8) (s : State) : Out :=
  .next (s.aLanes e 1 d m (fun x k => x.word a k >>> k5.val))

/-- SHLI: left shift, saturated. -/
def execShli (e : Fin 8) (d : Fin 32) (a k5 : Fin 32) (m : Fin 8) (s : State) : Out :=
  .next (s.aLanes e 1 d m (fun x k => satWord (x.int a k * 2 ^ k5.val)))

/-- SHLWI: left shift modulo 2^32. -/
def execShlwi (e : Fin 8) (d : Fin 32) (a k5 : Fin 32) (m : Fin 8) (s : State) : Out :=
  .next (s.aLanes e 1 d m (fun x k => x.word a k <<< k5.val))

/-- NORM (R125). -/
def execNorm (e : Fin 8) (d : Fin 32) (a : Fin 32) (m : Fin 8) (s : State) : Out :=
  .next (s.aLanes e 2 d m (fun x k => BitVec.ofInt 32 (x.normLane a k)))

/-- EXP (R126). -/
def execVexp (e : Fin 8) (d : Fin 32) (a : Fin 8) (m : Fin 8) (s : State) : Out :=
  .next (s.aLanes e 2 d m (fun x k => BitVec.ofInt 32 (x.expLane a k)))

/-- BEXP of a vector register (R127). -/
def execBexp (e : Fin 8) (d : Fin 32) (a g : Fin 32) (m : Fin 8) (s : State) : Out :=
  .next (s.aLanes e 3 d m (fun x k => BitVec.ofInt 32 (leastOver (groupLanes (bexpSize g) (x.readM m) k) (x.normLane a) 31)))

/-- BEXPA: BEXP of an accumulator (R127). -/
def execBexpa (e : Fin 8) (d : Fin 32) (a : Fin 8) (g : Fin 32) (m : Fin 8) (s : State) : Out :=
  .next (s.aLanes e 3 d m (fun x k => BitVec.ofInt 32 (leastOver (groupLanes (bexpSize g) (x.readM m) k) (x.expLane a) 15)))

/-- LROTI: lane k takes lane (k + r) mod 64, r from 0 to 31. -/
def execLroti (e : Fin 8) (d : Fin 32) (a k5 : Fin 32) (m : Fin 8) (s : State) : Out :=
  .next (s.aLanes e 2 d m (fun x k => x.word a (rotLane k k5.val)))

/-- LROTIH: as LROTI with r from 32 to 63. -/
def execLrotih (e : Fin 8) (d : Fin 32) (a k5 : Fin 32) (m : Fin 8) (s : State) : Out :=
  .next (s.aLanes e 2 d m (fun x k => x.word a (rotLane k (k5.val + 32))))

/-- LROTS: as LROTI with r in a scalar, modulo 64. -/
def execLrots (e : Fin 8) (d : Fin 32) (a : Fin 32) (b : Fin 16) (m : Fin 8) (s : State) : Out :=
  .next (s.aLanes e 2 d m (fun x k => x.word a (rotLane k (x.readS b).toNat)))

/-- BCASTI: broadcast of lane j, j from 0 to 31. -/
def execBcasti (e : Fin 8) (d : Fin 32) (a k5 : Fin 32) (m : Fin 8) (s : State) : Out :=
  .next (s.aLanes e 2 d m (fun x _ => x.word a (laneMod k5.val)))

/-- BCASTIH: broadcast of lane j, j from 32 to 63. -/
def execBcastih (e : Fin 8) (d : Fin 32) (a k5 : Fin 32) (m : Fin 8) (s : State) : Out :=
  .next (s.aLanes e 2 d m (fun x _ => x.word a (laneMod (k5.val + 32))))

/-- BCASTS: broadcast of the lane a scalar names. -/
def execBcasts (e : Fin 8) (d : Fin 32) (a : Fin 32) (b : Fin 16) (m : Fin 8) (s : State) : Out :=
  .next (s.aLanes e 2 d m (fun x _ => x.word a (laneMod (x.readS b).toNat)))

/-- RSUM: exact sum over the lanes of Mm, saturated, to the lanes of Mm (R176). -/
def execRsum (e : Fin 8) (d : Fin 32) (a : Fin 32) (m : Fin 8) (s : State) : Out :=
  .next (s.aLanes e 3 d m (fun x _ => satWord (sumInt ((lanesOf (x.readM m)).map (x.int a)))))

/-- RMAX: largest over the lanes of Mm (R176). -/
def execRmax (e : Fin 8) (d : Fin 32) (a : Fin 32) (m : Fin 8) (s : State) : Out :=
  .next (s.aLanes e 3 d m (fun x _ => BitVec.ofInt 32 ((lanesOf (x.readM m)).foldl (fun z j => max z (x.int a j)) (-(2 ^ 31)))))

/-- RMIN: smallest over the lanes of Mm (R176). -/
def execRmin (e : Fin 8) (d : Fin 32) (a : Fin 32) (m : Fin 8) (s : State) : Out :=
  .next (s.aLanes e 3 d m (fun x _ => BitVec.ofInt 32 (leastOver (lanesOf (x.readM m)) (x.int a) (2 ^ 31 - 1))))

/-- SEL: Va where Ms is 1, else Vb, in the lanes of Mm (R177). -/
def execSel (e t : Fin 8) (d a b : Fin 32) (m : Fin 8) (s : State) : Out :=
  .next (s.aLanes e 1 d m (fun x k => if bitOf (x.readM t) k then x.word a k else x.word b k))

/-- CMPEQ. -/
def execCmpeq (e d : Fin 8) (a b : Fin 32) (m : Fin 8) (s : State) : Out :=
  .next (s.aMask e d m (fun x k => decide (x.word a k = x.word b k)))

/-- CMPLT. -/
def execCmplt (e d : Fin 8) (a b : Fin 32) (m : Fin 8) (s : State) : Out :=
  .next (s.aMask e d m (fun x k => decide (x.int a k < x.int b k)))

/-- CMPLE. -/
def execCmple (e d : Fin 8) (a b : Fin 32) (m : Fin 8) (s : State) : Out :=
  .next (s.aMask e d m (fun x k => decide (x.int a k ≤ x.int b k)))

/-- CMPLTS. -/
def execCmplts (e d : Fin 8) (a : Fin 32) (b : Fin 16) (m : Fin 8) (s : State) : Out :=
  .next (s.aMask e d m (fun x k => decide (x.int a k < (x.readS b).toInt)))

/-- CMPGTS. -/
def execCmpgts (e d : Fin 8) (a : Fin 32) (b : Fin 16) (m : Fin 8) (s : State) : Out :=
  .next (s.aMask e d m (fun x k => decide ((x.readS b).toInt < x.int a k)))

/-- MAND. -/
def execMand (e d : Fin 8) (a b : Fin 8) (m : Fin 8) (s : State) : Out :=
  .next (s.aMask e d m (fun x k => bitOf (x.readM a) k && bitOf (x.readM b) k))

/-- MOR. -/
def execMor (e d : Fin 8) (a b : Fin 8) (m : Fin 8) (s : State) : Out :=
  .next (s.aMask e d m (fun x k => bitOf (x.readM a) k || bitOf (x.readM b) k))

/-- MXOR. -/
def execMxor (e d : Fin 8) (a b : Fin 8) (m : Fin 8) (s : State) : Out :=
  .next (s.aMask e d m (fun x k => bitOf (x.readM a) k ^^ bitOf (x.readM b) k))

/-- MNOT. -/
def execMnot (e d : Fin 8) (a : Fin 8) (m : Fin 8) (s : State) : Out :=
  .next (s.aMask e d m (fun x k => !bitOf (x.readM a) k))

/-- MSET: bit k of the 64-bit value Sb:Sa. -/
def execMset (e d : Fin 8) (a b : Fin 16) (m : Fin 8) (s : State) : Out :=
  .next (s.aMask e d m (fun x k => if k.val < 32 then (x.readS a).getLsbD k.val else (x.readS b).getLsbD (k.val - 32)))

/-- MGUARD: the sticky guard flags as the A slot sees them (R171). -/
def execMguard (e d : Fin 8) (m : Fin 8) (s : State) : Out :=
  .next (s.aMask e d m (fun x k => bitOf x.guardA k))

/-- A scalar result of the A slot, seen after three bundles (R129). -/
def State.aScalar (s : State) (e : Fin 8) (d : Fin 16) (f : Engine → Int) : State :=
  s.slotOp e slotA (fun x => x.sched 3 (.scl d (BitVec.ofInt 32 (f x))))

/-- BEXPS: 64-lane BEXP of a vector register into a scalar; 31 with every lane masked (R128, R129). -/
def execBexps (e : Fin 8) (d : Fin 16) (a : Fin 32) (m : Fin 8) (s : State) : Out :=
  .next (s.aScalar e d (fun x => leastOver (lanesOf (x.readM m)) (x.normLane a) 31))

/-- BEXPAS: 64-lane BEXP of an accumulator into a scalar; 15 with every lane masked (R128, R129). -/
def execBexpas (e : Fin 8) (d : Fin 16) (a : Fin 8) (m : Fin 8) (s : State) : Out :=
  .next (s.aScalar e d (fun x => leastOver (lanesOf (x.readM m)) (x.expLane a) 15))

/-- Whether a move of As under its scale saturates an unmasked lane (R122). -/
def Engine.movSat (x : Engine) (a m : Fin 8) : Bool :=
  (lanesOf (x.readM m)).any (fun k => moveSaturates (lane (lane x.accA a) k) (x.scale a))

/-- MOVA: move of an accumulator with scaling, rounding and saturation; a saturated move counts one MOVE_SAT (R120 to R124). -/
def execMova (e : Fin 8) (d : Fin 32) (a m : Fin 8) (s : State) : Out :=
  .next (s.slotOp e slotA (fun x =>
    let y := x.aVec 2 d m (tab (fun k => moveWord (lane (lane x.accA a) k) (x.scale a)))
    { y with fault := if x.movSat a m then fwMoveSat x.fault 1 else x.fault }))

end Sys2Proof.Machine
end

