-- ==== Sys2Proof/Machine/CSlot.lean ====
section
/-! DEFINITION. The C slot: repeats, window rotation, scales, scalars, pointers, block entry, breakpoint (R204 to R213). -/
namespace Sys2Proof.Machine
open Sys2Proof

/-- A scalar result of the C slot, seen from the next bundle. -/
def State.cScalar (s : State) (e : Fin 8) (d : Fin 16) (f : Engine → Word) : State :=
  s.slotOp e slotC (fun x => x.sched 1 (.scl d (f x)))

/-- CNOP: the C slot of the bundle does nothing. -/
def execCnop (e : Fin 8) (s : State) : Out := .next (s.openSlot e slotC)

/-- REP c, L, R: the next L bundles are issued c times. `count` is c - 1 and `len` is L - 1, as encoded. A fifth nested
REP acts as CNOP, and a REP in an inert range has no effect (R207, R209, R218, R391). -/
def execRep (e : Fin 8) (count len : Fin 128) (rot : Bool) (s : State) : Out :=
  .next (s.slotOp e slotC (fun x =>
    if decide (4 ≤ x.reps.length) || decide (x.rangeMode x.pc = 2) then x
    else { x with pushRep := some { first := x.pc + 1, last := x.pc + 1 + len.val, left := count.val + 1, rot := rot } }))

/-- ROT r: the window base advances by r from the next bundle; r = 0 acts as CNOP (R93, R218). -/
def execRot (e : Fin 8) (r : BitVec 4) (s : State) : Out :=
  .next (s.slotOp e slotC (fun x => x.sched 1 (.wb (x.wb + r))))

/-- SACS: ACSk takes an immediate (R124). -/
def execSacs (e k : Fin 8) (imm : BitVec 5) (s : State) : Out :=
  .next (s.slotOp e slotC (fun x => x.sched 1 (.acs k imm)))

/-- A word clamped to the range of a scale shift, −16 to +15. -/
def clampAcs (w : Word) : BitVec 5 := BitVec.ofInt 5 (max (-16) (min 15 w.toInt))

/-- SACSR: ACSk takes a scalar clamped to −16 … +15. -/
def execSacsr (e k : Fin 8) (a : Fin 16) (s : State) : Out :=
  .next (s.slotOp e slotC (fun x => x.sched 1 (.acs k (clampAcs (x.readS a)))))

/-- SLI: Sd takes a sign-extended 11-bit immediate. -/
def execSli (e : Fin 8) (d : Fin 16) (imm : BitVec 11) (s : State) : Out := .next (s.cScalar e d (fun _ => imm.signExtend 32))

/-- SLU: Sd takes (Sd × 2^11 + imm) mod 2^32. -/
def execSlu (e : Fin 8) (d : Fin 16) (imm : BitVec 11) (s : State) : Out :=
  .next (s.cScalar e d (fun x => (x.readS d <<< 11) + imm.setWidth 32))

/-- SADD. -/
def execSadd (e : Fin 8) (d a b : Fin 16) (s : State) : Out := .next (s.cScalar e d (fun x => x.readS a + x.readS b))
/-- SSUB. -/
def execSsub (e : Fin 8) (d a b : Fin 16) (s : State) : Out := .next (s.cScalar e d (fun x => x.readS a - x.readS b))
/-- SAND. -/
def execSand (e : Fin 8) (d a b : Fin 16) (s : State) : Out := .next (s.cScalar e d (fun x => x.readS a &&& x.readS b))
/-- SOR. -/
def execSor (e : Fin 8) (d a b : Fin 16) (s : State) : Out := .next (s.cScalar e d (fun x => x.readS a ||| x.readS b))
/-- SXOR. -/
def execSxor (e : Fin 8) (d a b : Fin 16) (s : State) : Out := .next (s.cScalar e d (fun x => x.readS a ^^^ x.readS b))
/-- SADDI: the immediate is signed. -/
def execSaddi (e : Fin 8) (d a : Fin 16) (imm : BitVec 7) (s : State) : Out :=
  .next (s.cScalar e d (fun x => x.readS a + imm.signExtend 32))
/-- SSHLI: left shift modulo 2^32. -/
def execSshli (e : Fin 8) (d a : Fin 16) (k : Fin 32) (s : State) : Out := .next (s.cScalar e d (fun x => x.readS a <<< k.val))
/-- SLSRI: logical right shift. -/
def execSlsri (e : Fin 8) (d a : Fin 16) (k : Fin 32) (s : State) : Out := .next (s.cScalar e d (fun x => x.readS a >>> k.val))

/-- PWR: register x of file f takes Sa, over any address update of the same bundle (R205, R219). -/
def execPwr (e : Fin 8) (f : BitVec 2) (x a : Fin 16) (s : State) : Out :=
  .next (s.slotOp e slotC (fun z => z.sched 1 (.ptr f x (z.readS a))))

/-- PRD: Sd takes register x of file f (R205). -/
def execPrd (e : Fin 8) (d : Fin 16) (f : BitVec 2) (x : Fin 16) (s : State) : Out := .next (s.cScalar e d (fun z => z.readPtr f x))

/-- PADDI: Pd advances by 4 × imm, within its modulo region if PLd is not 0 (R164, R204). -/
def execPaddi (e : Fin 8) (d : Fin 16) (imm : BitVec 11) (s : State) : Out :=
  .next (s.slotOp e slotC (fun x => x.sched 1 (.ptr 0 d ((x.ptrVals d).moved (2 ^ 32) (4 * imm.toInt)))))

/-- SGET: Sd takes lane j of Va, after two bundles. -/
def execSget (e : Fin 8) (d : Fin 16) (a : Fin 32) (j : Fin 64) (s : State) : Out :=
  .next (s.slotOp e slotC (fun x => x.sched 2 (.scl d (lane (x.readV a) j))))

/-- ENTRY: the register settings of engine reset from the next bundle, except the program counter and the guard flags (R211). -/
def execEntry (e : Fin 8) (s : State) : Out := .next (s.slotOp e slotC (fun x => { x with entryNow := true }))

/-- Engine debug is enabled while the debug lock is not fused: no DEBUGLOCK bit, 1,644 to 1,647, is burned (R745; log entry 5). -/
def State.debugEnabled (s : State) : Bool := !s.fuses.any (fun b => decide (1644 ≤ b) && decide (b ≤ 1647))

/-- Whether BKPT halts: Service mode with engine debug enabled (R213). -/
def State.bkptHalts (s : State) : Bool := s.mode = 7 && s.debugEnabled

/-- BKPT: halts the engine after this bundle in Service mode with debug enabled, else acts as CNOP (R213). -/
def execBkpt (e : Fin 8) (s : State) : Out :=
  .next (s.slotOp e slotC (fun x => if s.bkptHalts then { x with haltNow := true } else x))

end Sys2Proof.Machine
end

