-- ==== Sys2Proof/Machine/MSlot.lean ====
section
/-! DEFINITION. The M slot: multiply-accumulate (R170 to R172). -/
namespace Sys2Proof.Machine
open Sys2Proof

/-- The exact product of lane `k` of Va and Vb (R109, R172). -/
def Engine.prodVV (x : Engine) (a b : Fin 32) (f : Bool) (k : Fin 64) : Int := product (lane (x.readV a) k) (lane (x.readV b) k) f

/-- The exact product of lane `k` of Va and scalar Sb. -/
def Engine.prodVS (x : Engine) (a : Fin 32) (b : Fin 16) (f : Bool) (k : Fin 64) : Int := product (lane (x.readV a) k) (x.readS b) f

/-- Lane `k` of Va placed exactly in the accumulator format (R113). -/
def Engine.placed (x : Engine) (a : Fin 32) (k : Fin 64) : Int := placeExact (lane (x.readV a) k)

/-- MNOP: the M slot of the bundle does nothing. -/
def execMnop (e : Fin 8) (s : State) : Out := .next (s.openSlot e slotM)

/-- MPY: Ad takes Va × Vb (clearing). -/
def execMpy (e : Fin 8) (d : Fin 8) (a b : Fin 32) (m : Fin 8) (f : Bool) (s : State) : Out :=
  .next (s.mOp e (fun x => x.accClear d (x.readM m) (x.prodVV a b f)))

/-- MPYN: Ad takes −(Va × Vb) (clearing). -/
def execMpyn (e : Fin 8) (d : Fin 8) (a b : Fin 32) (m : Fin 8) (f : Bool) (s : State) : Out :=
  .next (s.mOp e (fun x => x.accClear d (x.readM m) (fun k => -x.prodVV a b f k)))

/-- MAC: Ad takes Ad + Va × Vb (accumulating). -/
def execMac (e : Fin 8) (d : Fin 8) (a b : Fin 32) (m : Fin 8) (f : Bool) (s : State) : Out :=
  .next (s.mOp e (fun x => x.accAdd d (x.readM m) (x.prodVV a b f)))

/-- MSU: Ad takes Ad − Va × Vb (accumulating). -/
def execMsu (e : Fin 8) (d : Fin 8) (a b : Fin 32) (m : Fin 8) (f : Bool) (s : State) : Out :=
  .next (s.mOp e (fun x => x.accAdd d (x.readM m) (fun k => -x.prodVV a b f k)))

/-- MPYS: Ad takes Va × Sb (clearing). -/
def execMpys (e : Fin 8) (d : Fin 8) (a : Fin 32) (b : Fin 16) (m : Fin 8) (f : Bool) (s : State) : Out :=
  .next (s.mOp e (fun x => x.accClear d (x.readM m) (x.prodVS a b f)))

/-- MACS: Ad takes Ad + Va × Sb (accumulating). -/
def execMacs (e : Fin 8) (d : Fin 8) (a : Fin 32) (b : Fin 16) (m : Fin 8) (f : Bool) (s : State) : Out :=
  .next (s.mOp e (fun x => x.accAdd d (x.readM m) (x.prodVS a b f)))

/-- MSUS: Ad takes Ad − Va × Sb (accumulating). -/
def execMsus (e : Fin 8) (d : Fin 8) (a : Fin 32) (b : Fin 16) (m : Fin 8) (f : Bool) (s : State) : Out :=
  .next (s.mOp e (fun x => x.accAdd d (x.readM m) (fun k => -x.prodVS a b f k)))

/-- MLD: Ad takes Va, placed exactly (clearing). -/
def execMld (e : Fin 8) (d : Fin 8) (a : Fin 32) (m : Fin 8) (s : State) : Out :=
  .next (s.mOp e (fun x => x.accClear d (x.readM m) (x.placed a)))

/-- MCLR: Ad takes 0 (clearing). -/
def execMclr (e : Fin 8) (d : Fin 8) (m : Fin 8) (s : State) : Out :=
  .next (s.mOp e (fun x => x.accClear d (x.readM m) (fun _ => 0)))

/-- MADDV: Ad takes Ad + Va, placed exactly (accumulating). -/
def execMaddv (e : Fin 8) (d : Fin 8) (a : Fin 32) (m : Fin 8) (s : State) : Out :=
  .next (s.mOp e (fun x => x.accAdd d (x.readM m) (x.placed a)))

end Sys2Proof.Machine
end

