-- ==== Sys2Proof/Machine/OSlot.lean ====
section
/-! DEFINITION. The O slot: taps, table reads, delay writes, I/O, exchange and private words (R185 to R203). -/
namespace Sys2Proof.Machine
open Sys2Proof

/-- An O operation enters the delay unit's queue, unless it issues within the occupancy of the one before, where it acts
as ONOP (R190, R218). -/
def Engine.issueO (x : Engine) (occ : Nat) (o : OrbitOp) : Engine :=
  if x.oBusy = 0 then { x with ops := x.ops ++ [o], oBusy := occ } else x

/-- A fresh queue entry. -/
def Engine.newOp (x : Engine) (f : OForm) (m : Fin 8) (name : Lanes Nat) (arg : Lanes Word) : OrbitOp :=
  { form := f, age := 0, pos := x.issued, mask := x.readM m, name := name, arg := arg, served := false, points := [], frac := allLanes 0 }

/-- The descriptor number in a word (R185). -/
def descOf (w : Word) : Nat := w.toNat % 4096

/-- Descriptor numbers per lane from a vector register, or one from a scalar for all lanes (R185). -/
def Engine.linesV (x : Engine) (q : Fin 32) : Lanes Nat := tab (fun k => descOf (lane (x.readV q) k))
def Engine.linesS (x : Engine) (q : Fin 16) : Lanes Nat := allLanes (descOf (x.readS q))

/-- Channel numbers of IN and OUT (R187). -/
def Engine.channels (x : Engine) (q : Fin 16) (j : Fin 32) : Lanes Nat := tab (fun k => ((x.readS q).toNat + 64 * j.val + k.val) % 65536)

/-- Byte offsets of EXR, EXW, OLD and OST, before reduction by the area's size (R188). -/
def Engine.offsets (x : Engine) (q : Fin 16) (j : Fin 32) : Lanes Nat := tab (fun k => (x.readS q).toNat + 256 * j.val + 4 * k.val)

/-- Whether the open bundle lies in a quiet range, where OUT and EXW are performed on nothing (R390). -/
def Engine.quiet (x : Engine) : Bool := x.running && x.rangeMode x.pc = 1

/-- A write that a quiet range performs on nothing: its mask is empty. -/
def Engine.quieted (x : Engine) (o : OrbitOp) : OrbitOp := if x.quiet then { o with mask := 0 } else o

/-- A tap or table read with one descriptor per lane. -/
def State.tapV (s : State) (e : Fin 8) (occ : Nat) (f : Engine → OForm) (q t : Fin 32) (m : Fin 8) : State :=
  s.slotOp e slotO (fun x => x.issueO occ (x.newOp (f x) m (x.linesV q) (x.readV t)))

/-- A tap with one line for all lanes. -/
def State.tapS (s : State) (e : Fin 8) (occ : Nat) (f : Engine → OForm) (q : Fin 16) (t : Fin 32) (m : Fin 8) : State :=
  s.slotOp e slotO (fun x => x.issueO occ (x.newOp (f x) m (x.linesS q) (x.readV t)))

/-- ONOP: the O slot of the bundle does nothing. -/
def execOnop (e : Fin 8) (s : State) : Out := .next (s.openSlot e slotO)

/-- TAP: the sample at integer delay D of line Vq, per lane (R194 to R199). -/
def execTap (e : Fin 8) (d : Fin 32) (q : Fin 32) (t : Fin 32) (m : Fin 8) (s : State) : Out :=
  .next (s.tapV e 16 (fun x => .tap (physReg x.wb d)) q t m)

/-- TAP4: 4-point interpolated tap, cleared into Ad (R191, R192). -/
def execTap4 (e : Fin 8) (d : Fin 8) (q : Fin 32) (t : Fin 32) (m : Fin 8) (s : State) : Out :=
  .next (s.tapV e 16 (fun _ => .interp d false false) q t m)

/-- TAP4A: 4-point interpolated tap, accumulated into Ad. -/
def execTap4a (e : Fin 8) (d : Fin 8) (q : Fin 32) (t : Fin 32) (m : Fin 8) (s : State) : Out :=
  .next (s.tapV e 16 (fun _ => .interp d false true) q t m)

/-- TAP8: 8-point interpolated tap, cleared into Ad. -/
def execTap8 (e : Fin 8) (d : Fin 8) (q : Fin 32) (t : Fin 32) (m : Fin 8) (s : State) : Out :=
  .next (s.tapV e 32 (fun _ => .interp d true false) q t m)

/-- TAP8A: 8-point interpolated tap, accumulated into Ad. -/
def execTap8a (e : Fin 8) (d : Fin 8) (q : Fin 32) (t : Fin 32) (m : Fin 8) (s : State) : Out :=
  .next (s.tapV e 32 (fun _ => .interp d true true) q t m)

/-- TAPS: as TAP, one line for all lanes. -/
def execTaps (e : Fin 8) (d : Fin 32) (q : Fin 16) (t : Fin 32) (m : Fin 8) (s : State) : Out :=
  .next (s.tapS e 16 (fun x => .tap (physReg x.wb d)) q t m)

/-- TAPS4: as TAP4, one line. -/
def execTaps4 (e : Fin 8) (d : Fin 8) (q : Fin 16) (t : Fin 32) (m : Fin 8) (s : State) : Out :=
  .next (s.tapS e 16 (fun _ => .interp d false false) q t m)

/-- TAPS4A: as TAP4A, one line. -/
def execTaps4a (e : Fin 8) (d : Fin 8) (q : Fin 16) (t : Fin 32) (m : Fin 8) (s : State) : Out :=
  .next (s.tapS e 16 (fun _ => .interp d false true) q t m)

/-- TAPS8: as TAP8, one line. -/
def execTaps8 (e : Fin 8) (d : Fin 8) (q : Fin 16) (t : Fin 32) (m : Fin 8) (s : State) : Out :=
  .next (s.tapS e 32 (fun _ => .interp d true false) q t m)

/-- TAPS8A: as TAP8A, one line. -/
def execTaps8a (e : Fin 8) (d : Fin 8) (q : Fin 16) (t : Fin 32) (m : Fin 8) (s : State) : Out :=
  .next (s.tapS e 32 (fun _ => .interp d true true) q t m)

/-- TRD: the sample at absolute position D modulo the length of line Vq. -/
def execTrd (e : Fin 8) (d : Fin 32) (q : Fin 32) (t : Fin 32) (m : Fin 8) (s : State) : Out :=
  .next (s.tapV e 16 (fun x => .trd (physReg x.wb d)) q t m)

/-- TRD4: 4-point interpolated table read, cleared into Ad. -/
def execTrd4 (e : Fin 8) (d : Fin 8) (q : Fin 32) (t : Fin 32) (m : Fin 8) (s : State) : Out :=
  .next (s.tapV e 16 (fun _ => .trd4 d false) q t m)

/-- TRD4A: 4-point interpolated table read, accumulated into Ad. -/
def execTrd4a (e : Fin 8) (d : Fin 8) (q : Fin 32) (t : Fin 32) (m : Fin 8) (s : State) : Out :=
  .next (s.tapV e 16 (fun _ => .trd4 d true) q t m)

/-- DWR: lane k of Vs is written as the tick's sample of line Vq (R198). -/
def execDwr (e : Fin 8) (q v : Fin 32) (m : Fin 8) (s : State) : Out :=
  .next (s.slotOp e slotO (fun x => x.issueO 16 (x.newOp .dwr m (x.linesV q) (x.readV v))))

/-- IN: the latched input channels (R187, R200). -/
def execChanIn (e : Fin 8) (v : Fin 32) (q : Fin 16) (j : Fin 32) (m : Fin 8) (s : State) : Out :=
  .next (s.slotOp e slotO (fun x => x.issueO 2 (x.newOp (.chanIn (physReg x.wb v)) m (x.channels q j) (allLanes 0))))

/-- OUT: output channels take the lanes of Vs (R187, R201 to R203). -/
def execChanOut (e : Fin 8) (v : Fin 32) (q : Fin 16) (j : Fin 32) (m : Fin 8) (s : State) : Out :=
  .next (s.slotOp e slotO (fun x => x.issueO 2 (x.quieted (x.newOp .chanOut m (x.channels q j) (x.readV v)))))

/-- EXR: words of the exchange read half (R188). -/
def execExr (e : Fin 8) (v : Fin 32) (q : Fin 16) (j : Fin 32) (m : Fin 8) (s : State) : Out :=
  .next (s.slotOp e slotO (fun x => x.issueO 2 (x.newOp (.exr (physReg x.wb v)) m (x.offsets q j) (allLanes 0))))

/-- EXW: words of the exchange write half take the lanes of Vs (R188, R202). -/
def execExw (e : Fin 8) (v : Fin 32) (q : Fin 16) (j : Fin 32) (m : Fin 8) (s : State) : Out :=
  .next (s.slotOp e slotO (fun x => x.issueO 2 (x.quieted (x.newOp .exw m (x.offsets q j) (x.readV v)))))

/-- OLD: words of the private Orbit region; a pending OST is served before it, in issue order (R246). -/
def execOld (e : Fin 8) (v : Fin 32) (q : Fin 16) (j : Fin 32) (m : Fin 8) (s : State) : Out :=
  .next (s.slotOp e slotO (fun x => x.issueO 2 (x.newOp (.old (physReg x.wb v)) m (x.offsets q j) (allLanes 0))))

/-- OST: words of the private Orbit region take the lanes of Vs. -/
def execOst (e : Fin 8) (v : Fin 32) (q : Fin 16) (j : Fin 32) (m : Fin 8) (s : State) : Out :=
  .next (s.slotOp e slotO (fun x => x.issueO 2 (x.newOp .ost m (x.offsets q j) (x.readV v))))

/-- ORBIT_ACCESS_SERVED: the delay unit of engine `e` serves its next pending access, in issue order (R244, R249). -/
def execOrbitAccessServed (e : Fin 8) (s : State) : Out := .next (s.serveNext e)

end Sys2Proof.Machine
end

