-- ==== Sys2Proof/Machine/XYSlot.lean ====
section
/-! DEFINITION. The X and Y slots: loads, stores and coefficient reads with glide (R180 to R184). -/
namespace Sys2Proof.Machine
open Sys2Proof

/-- The word a load delivers from a bus address: zero where the word is uncorrectable (R99). -/
def State.fetchWord (s : State) (a : Nat) : Word := if s.bad.contains a then 0 else memWord s.mem a

/-- What the reads of some word addresses by engine `e` report (R99, R699, R700). -/
def State.noteLoads (s : State) (e : Fin 8) (l : List Nat) : State :=
  l.foldl (fun s a => if s.bad.contains a then s.poisonRead e 0 a else if s.soft.contains a then s.noteSoft a else s) s

/-- The pointer of an access is updated from the next bundle (R161, R169). -/
def Engine.bumpPtr (x : Engine) (p : Fin 16) (mode : BitVec 3) (size : Nat) : Engine :=
  match (x.ptrVals p).update mode size with
  | some w => x.sched 1 (.ptr 0 p w)
  | none => x

/-- The bus address an operand access of engine `e` gives lane `k` (R163 to R165, R181). -/
def Engine.dataAddr (x : Engine) (e : Fin 8) (y : Bool) (p : Fin 16) (mode : BitVec 3) (k : Nat) : Nat :=
  x.dataBase e y + (x.ptrVals p).laneAddr mode x.dataSize k

/-- The lanes a masked access reads or writes. -/
def loadLanes (m : BitVec 64) : List (Fin 64) := (List.finRange 64).filter (fun k => bitOf m k)

/-- XNOP: the X slot of the bundle does nothing. -/
def execXnop (e : Fin 8) (s : State) : Out := .next (s.openSlot e (slotXY false))

/-- YNOP: the Y slot of the bundle does nothing. -/
def execYnop (e : Fin 8) (s : State) : Out := .next (s.openSlot e (slotXY true))

/-- LDV: lane k of Vv takes the word at the lane-k address. -/
def execLdv (e : Fin 8) (y : Bool) (v : Fin 32) (p : Fin 16) (mode : BitVec 3) (m : Fin 8) (s : State) : Out :=
  let s1 := s.openSlot e (slotXY y)
  let x := s1.engine e
  let val : Lanes Word := tab (fun k => s1.fetchWord (x.dataAddr e y p mode k.val))
  let s2 := s1.noteLoads e ((loadLanes (x.readM m)).map (fun k => x.dataAddr e y p mode k.val))
  .next (s2.modEngine e (fun z => (z.sched 3 (.vec (physReg z.wb v) (z.readM m) val)).bumpPtr p mode z.dataSize))
/-- STV: the word at the lane-k address takes lane k of Vv, for the lanes of Mm, when the bundle closes. -/
def execStv (e : Fin 8) (y : Bool) (v : Fin 32) (p : Fin 16) (mode : BitVec 3) (m : Fin 8) (s : State) : Out :=
  .next (s.slotOp e (slotXY y) (fun x =>
    let words := (loadLanes (x.readM m)).map (fun k => (x.dataAddr e y p mode k.val, lane (x.readV v) k))
    ({ x with stores := x.stores ++ [{ y := y, words := words }] } : Engine).bumpPtr p mode x.dataSize))

/-- LDB: the word at the base address into every unmasked lane. A form with every lane masked reads nothing. -/
def execLdb (e : Fin 8) (y : Bool) (v : Fin 32) (p : Fin 16) (mode : BitVec 3) (m : Fin 8) (s : State) : Out :=
  let s1 := s.openSlot e (slotXY y)
  let x := s1.engine e
  let a := x.dataAddr e y p mode 0
  let s2 := if x.readM m = 0 then s1 else s1.noteLoads e [a]
  .next (s2.modEngine e (fun z => (z.sched 3 (.vec (physReg z.wb v) (z.readM m) (allLanes (s1.fetchWord a)))).bumpPtr p mode z.dataSize))

/-- LDS: scalar load; it ignores Mm (R182). -/
def execLds (e : Fin 8) (y : Bool) (v : Fin 16) (p : Fin 16) (mode : BitVec 3) (s : State) : Out :=
  let s1 := s.openSlot e (slotXY y)
  let a := (s1.engine e).dataAddr e y p mode 0
  .next ((s1.noteLoads e [a]).modEngine e (fun z => (z.sched 3 (.scl v (s1.fetchWord a))).bumpPtr p mode z.dataSize))

/-- STS: the word at the base address takes Sv if bit 0 of Mm is 1, when the bundle closes. -/
def execSts (e : Fin 8) (y : Bool) (v : Fin 16) (p : Fin 16) (mode : BitVec 3) (m : Fin 8) (s : State) : Out :=
  .next (s.slotOp e (slotXY y) (fun x =>
    let words := if bitOf (x.readM m) 0 then [(x.dataAddr e y p mode 0, x.readS v)] else []
    ({ x with stores := x.stores ++ [{ y := y, words := words }] } : Engine).bumpPtr p mode x.dataSize))

/-! ### Coefficient reads (R183) -/

/-- Bytes of a coefficient bank (R165). -/
def bankSize : Nat := 0x80000

/-- The byte offset in the active bank that a coefficient access gives lane `k`. -/
def Engine.coefOffset (x : Engine) (p : Fin 16) (mode : BitVec 3) (k : Nat) : Nat := (x.ptrVals p).laneAddr mode bankSize k

/-- The glide value of a bank word in this tick, if it glides (R183, R348). -/
def Engine.glideAt (x : Engine) (word : Nat) : Option Word := (x.glides.find? (fun g => g.word = word)).map (·.now)

/-- The coefficient at a byte offset of the active bank of engine `e`, with glide substitution. -/
def State.coef (s : State) (e : Fin 8) (off : Nat) : Word :=
  let x := s.engine e
  match x.glideAt (off / 4) with
  | some w => w
  | none => s.fetchWord (bankBase e x.bankB + off)

/-- What the coefficient reads report: POISON for an uncorrectable word, and a repair swap pending for either kind (R706). -/
def State.noteCoefs (s : State) (e : Fin 8) (l : List Nat) : State :=
  let x := s.engine e
  let hit := (l.filter (fun off => (x.glideAt (off / 4)).isNone)).map (fun off => bankBase e x.bankB + off)
  let s1 := s.noteLoads e hit
  if hit.any (fun a => s.bad.contains a || s.soft.contains a) then s1.modEngine e (fun z => { z with repairSwap := true }) else s1

/-- LDC: lane k of Vv takes the coefficient at the lane-k address, with glide. -/
def execLdc (e : Fin 8) (v : Fin 32) (p : Fin 16) (mode : BitVec 3) (m : Fin 8) (s : State) : Out :=
  let s1 := s.openSlot e (slotXY true)
  let x := s1.engine e
  let val : Lanes Word := tab (fun k => s1.coef e (x.coefOffset p mode k.val))
  let s2 := s1.noteCoefs e ((loadLanes (x.readM m)).map (fun k => x.coefOffset p mode k.val))
  .next (s2.modEngine e (fun z => (z.sched 4 (.vec (physReg z.wb v) (z.readM m) val)).bumpPtr p mode bankSize))

/-- LDCB: the coefficient at the base address, with glide, into every unmasked lane. -/
def execLdcb (e : Fin 8) (v : Fin 32) (p : Fin 16) (mode : BitVec 3) (m : Fin 8) (s : State) : Out :=
  let s1 := s.openSlot e (slotXY true)
  let x := s1.engine e
  let off := x.coefOffset p mode 0
  let s2 := if x.readM m = 0 then s1 else s1.noteCoefs e [off]
  .next (s2.modEngine e (fun z => (z.sched 4 (.vec (physReg z.wb v) (z.readM m) (allLanes (s1.coef e off)))).bumpPtr p mode bankSize))

end Sys2Proof.Machine
end

