-- ==== Sys2Proof/Machine/Issue.lean ====
section
/-! DEFINITION. Bundles in program memory: the slot encodings (R151 to R204), and the issue of one bundle by an engine. -/
namespace Sys2Proof.Machine
open Sys2Proof

/-- The field of `n` bits from bit `lo` of a number. -/
def bits (w lo n : Nat) : Nat := (w / 2 ^ lo) % 2 ^ n

/-- The field of five bits from bit `lo`, as a register number or immediate; likewise for other widths. -/
def f32 (w lo : Nat) : Fin 32 := ⟨bits w lo 5, Nat.mod_lt _ (by decide)⟩
def f16 (w lo : Nat) : Fin 16 := ⟨bits w lo 4, Nat.mod_lt _ (by decide)⟩
def f8 (w lo : Nat) : Fin 8 := ⟨bits w lo 3, Nat.mod_lt _ (by decide)⟩
def f64 (w lo : Nat) : Fin 64 := ⟨bits w lo 6, Nat.mod_lt _ (by decide)⟩
def f128 (w lo : Nat) : Fin 128 := ⟨bits w lo 7, Nat.mod_lt _ (by decide)⟩

/-- The M-slot operation of a 24-bit field (R170); a reserved opcode is MNOP (R218). -/
def decodeM (e : Fin 8) (w : Nat) : Instr :=
  let d := f8 w 16
  let a := f32 w 11
  let b := f32 w 6
  let sb := f16 w 6
  let m := f8 w 3
  let f := w.testBit 2
  match bits w 19 5 with
  | 0x01 => .mpy e d a b m f
  | 0x02 => .mpyn e d a b m f
  | 0x03 => .mac e d a b m f
  | 0x04 => .msu e d a b m f
  | 0x05 => .mpys e d a sb m f
  | 0x06 => .macs e d a sb m f
  | 0x07 => .msus e d a sb m f
  | 0x08 => .mld e d a m
  | 0x09 => .mclr e d m
  | 0x0A => .maddv e d a m
  | _ => .mnop e

/-- The A-slot operation of a 24-bit field (R174); a reserved opcode is ANOP (R218). -/
def decodeA (e : Fin 8) (w : Nat) : Instr :=
  let d := f32 w 13
  let md := f8 w 13
  let sd := f16 w 13
  let a := f32 w 8
  let aa := f8 w 8
  let sa := f16 w 8
  let b := f32 w 3
  let mb := f8 w 3
  let sb := f16 w 3
  let m := f8 w 0
  match bits w 18 6 with
  | 0x01 => .add e d a b m
  | 0x02 => .sub e d a b m
  | 0x03 => .addw e d a b m
  | 0x04 => .subw e d a b m
  | 0x05 => .adds e d a sb m
  | 0x06 => .subs e d a sb m
  | 0x07 => .vabs e d a m
  | 0x08 => .neg e d a m
  | 0x09 => .vmin e d a b m
  | 0x0A => .vmax e d a b m
  | 0x0B => .mins e d a sb m
  | 0x0C => .maxs e d a sb m
  | 0x0D => .vand e d a b m
  | 0x0E => .vor e d a b m
  | 0x0F => .vxor e d a b m
  | 0x10 => .vnot e d a m
  | 0x11 => .mov e d a m
  | 0x12 => .movs e d sb m
  | 0x13 => .asri e d a b m
  | 0x14 => .asrv e d a b m
  | 0x15 => .lsri e d a b m
  | 0x16 => .shli e d a b m
  | 0x17 => .shlwi e d a b m
  | 0x18 => .cmpeq e md a b m
  | 0x19 => .cmplt e md a b m
  | 0x1A => .cmple e md a b m
  | 0x1B => .cmplts e md a sb m
  | 0x1C => .cmpgts e md a sb m
  | 0x1D => .mand e md aa mb m
  | 0x1E => .mor e md aa mb m
  | 0x1F => .mxor e md aa mb m
  | 0x20 => .mnot e md aa m
  | 0x21 => .mset e md sa sb m
  | 0x22 => .mguard e md m
  | 0x23 => .norm e d a m
  | 0x24 => .vexp e d aa m
  | 0x25 => .bexp e d a b m
  | 0x26 => .bexpa e d aa b m
  | 0x27 => .bexps e sd a m
  | 0x28 => .bexpas e sd aa m
  | 0x29 => .mova e d aa m
  | 0x2A => .lroti e d a b m
  | 0x2B => .lrotih e d a b m
  | 0x2C => .lrots e d a sb m
  | 0x2D => .bcasti e d a b m
  | 0x2E => .bcastih e d a b m
  | 0x2F => .bcasts e d a sb m
  | 0x30 => .rsum e d a m
  | 0x31 => .rmax e d a m
  | 0x32 => .rmin e d a m
  | op => if 0x38 ≤ op then .sel e (f8 w 18) d a b m else .anop e

/-- The X-slot (`y` false) or Y-slot operation of an 18-bit field (R180); a reserved opcode is the NOP of its slot (R218). -/
def decodeXY (e : Fin 8) (y : Bool) (w : Nat) : Instr :=
  let v := f32 w 10
  let sv := f16 w 10
  let p := f16 w 6
  let mode : BitVec 3 := BitVec.ofNat 3 (bits w 3 3)
  let m := f8 w 0
  let nop : Instr := if y then .ynop e else .xnop e
  match bits w 15 3 with
  | 1 => .ldv e y v p mode m
  | 2 => .stv e y v p mode m
  | 3 => .ldb e y v p mode m
  | 4 => .lds e y sv p mode
  | 5 => .sts e y sv p mode m
  | 6 => if y then .ldc e v p mode m else nop
  | 7 => if y then .ldcb e v p mode m else nop
  | _ => nop

/-- The O-slot operation of a 24-bit field (R189); a reserved opcode is ONOP (R218). -/
def decodeO (e : Fin 8) (w : Nat) : Instr :=
  let v := f32 w 14
  let d := f8 w 14
  let q := f32 w 9
  let sq := f16 w 9
  let t := f32 w 4
  let m := f8 w 1
  match bits w 19 5 with
  | 0x01 => .tap e v q t m
  | 0x02 => .tap4 e d q t m
  | 0x03 => .tap4a e d q t m
  | 0x04 => .tap8 e d q t m
  | 0x05 => .tap8a e d q t m
  | 0x06 => .taps e v sq t m
  | 0x07 => .taps4 e d sq t m
  | 0x08 => .taps4a e d sq t m
  | 0x09 => .taps8 e d sq t m
  | 0x0A => .taps8a e d sq t m
  | 0x0B => .trd e v q t m
  | 0x0C => .trd4 e d q t m
  | 0x0D => .trd4a e d q t m
  | 0x0E => .dwr e q v m
  | 0x0F => .chanIn e v sq t m
  | 0x10 => .chanOut e v sq t m
  | 0x11 => .exr e v sq t m
  | 0x12 => .exw e v sq t m
  | 0x13 => .old e v sq t m
  | 0x14 => .ost e v sq t m
  | _ => .onop e

/-- The C-slot operation of a 20-bit field (R204); a reserved opcode is CNOP (R218). -/
def decodeC (e : Fin 8) (w : Nat) : Instr :=
  let d := f16 w 11
  let a := f16 w 7
  let b := f16 w 3
  let k := f8 w 12
  let imm11 : BitVec 11 := BitVec.ofNat 11 w
  match bits w 15 5 with
  | 0x01 => .rep e (f128 w 0) (f128 w 7) (w.testBit 14)
  | 0x02 => .rot e (BitVec.ofNat 4 w)
  | 0x03 => .sacs e k (BitVec.ofNat 5 w)
  | 0x04 => .sacsr e k (f16 w 8)
  | 0x05 => .sli e d imm11
  | 0x06 => .slu e d imm11
  | 0x07 => .sadd e d a b
  | 0x08 => .ssub e d a b
  | 0x09 => .sand e d a b
  | 0x0A => .sor e d a b
  | 0x0B => .sxor e d a b
  | 0x0C => .saddi e d a (BitVec.ofNat 7 w)
  | 0x0D => .sshli e d a (f32 w 0)
  | 0x0E => .slsri e d a (f32 w 0)
  | 0x0F => .pwr e (BitVec.ofNat 2 (w / 2 ^ 13)) (f16 w 9) (f16 w 5)
  | 0x10 => .prd e (f16 w 5) (BitVec.ofNat 2 (w / 2 ^ 13)) (f16 w 9)
  | 0x11 => .paddi e d imm11
  | 0x12 => .sget e d (f32 w 6) (f64 w 0)
  | 0x13 => .entry e
  | 0x1F => .bkpt e
  | _ => .cnop e

/-- The state an outcome answers, or the state before where it answers none. -/
def outState (s : State) (o : Out) : State :=
  match o with
  | .next t => t
  | .fault _ => s
  | .refused _ => s

/-- A slot operation of a bundle runs by the meaning of its command; every other command does nothing here. -/
def State.runSlot (s : State) (i : Instr) : State :=
  match i with
  | .mnop e => outState s (execMnop e s)
  | .mpy e d a b m f => outState s (execMpy e d a b m f s)
  | .mpyn e d a b m f => outState s (execMpyn e d a b m f s)
  | .mac e d a b m f => outState s (execMac e d a b m f s)
  | .msu e d a b m f => outState s (execMsu e d a b m f s)
  | .mpys e d a b m f => outState s (execMpys e d a b m f s)
  | .macs e d a b m f => outState s (execMacs e d a b m f s)
  | .msus e d a b m f => outState s (execMsus e d a b m f s)
  | .mld e d a m => outState s (execMld e d a m s)
  | .mclr e d m => outState s (execMclr e d m s)
  | .maddv e d a m => outState s (execMaddv e d a m s)
  | .anop e => outState s (execAnop e s)
  | .add e d a b m => outState s (execAdd e d a b m s)
  | .sub e d a b m => outState s (execSub e d a b m s)
  | .addw e d a b m => outState s (execAddw e d a b m s)
  | .subw e d a b m => outState s (execSubw e d a b m s)
  | .vmin e d a b m => outState s (execVmin e d a b m s)
  | .vmax e d a b m => outState s (execVmax e d a b m s)
  | .vand e d a b m => outState s (execVand e d a b m s)
  | .vor e d a b m => outState s (execVor e d a b m s)
  | .vxor e d a b m => outState s (execVxor e d a b m s)
  | .asrv e d a b m => outState s (execAsrv e d a b m s)
  | .adds e d a b m => outState s (execAdds e d a b m s)
  | .subs e d a b m => outState s (execSubs e d a b m s)
  | .mins e d a b m => outState s (execMins e d a b m s)
  | .maxs e d a b m => outState s (execMaxs e d a b m s)
  | .lrots e d a b m => outState s (execLrots e d a b m s)
  | .bcasts e d a b m => outState s (execBcasts e d a b m s)
  | .vabs e d a m => outState s (execVabs e d a m s)
  | .neg e d a m => outState s (execNeg e d a m s)
  | .vnot e d a m => outState s (execVnot e d a m s)
  | .mov e d a m => outState s (execMov e d a m s)
  | .norm e d a m => outState s (execNorm e d a m s)
  | .rsum e d a m => outState s (execRsum e d a m s)
  | .rmax e d a m => outState s (execRmax e d a m s)
  | .rmin e d a m => outState s (execRmin e d a m s)
  | .movs e d b m => outState s (execMovs e d b m s)
  | .asri e d a k m => outState s (execAsri e d a k m s)
  | .lsri e d a k m => outState s (execLsri e d a k m s)
  | .shli e d a k m => outState s (execShli e d a k m s)
  | .shlwi e d a k m => outState s (execShlwi e d a k m s)
  | .lroti e d a k m => outState s (execLroti e d a k m s)
  | .lrotih e d a k m => outState s (execLrotih e d a k m s)
  | .bcasti e d a k m => outState s (execBcasti e d a k m s)
  | .bcastih e d a k m => outState s (execBcastih e d a k m s)
  | .cmpeq e d a b m => outState s (execCmpeq e d a b m s)
  | .cmplt e d a b m => outState s (execCmplt e d a b m s)
  | .cmple e d a b m => outState s (execCmple e d a b m s)
  | .cmplts e d a b m => outState s (execCmplts e d a b m s)
  | .cmpgts e d a b m => outState s (execCmpgts e d a b m s)
  | .mand e d a b m => outState s (execMand e d a b m s)
  | .mor e d a b m => outState s (execMor e d a b m s)
  | .mxor e d a b m => outState s (execMxor e d a b m s)
  | .mnot e d a m => outState s (execMnot e d a m s)
  | .mset e d a b m => outState s (execMset e d a b m s)
  | .mguard e d m => outState s (execMguard e d m s)
  | .vexp e d a m => outState s (execVexp e d a m s)
  | .mova e d a m => outState s (execMova e d a m s)
  | .bexp e d a g m => outState s (execBexp e d a g m s)
  | .bexpa e d a g m => outState s (execBexpa e d a g m s)
  | .bexps e d a m => outState s (execBexps e d a m s)
  | .bexpas e d a m => outState s (execBexpas e d a m s)
  | .sel e t d a b m => outState s (execSel e t d a b m s)
  | .xnop e => outState s (execXnop e s)
  | .ynop e => outState s (execYnop e s)
  | .ldv e y v p mode m => outState s (execLdv e y v p mode m s)
  | .stv e y v p mode m => outState s (execStv e y v p mode m s)
  | .ldb e y v p mode m => outState s (execLdb e y v p mode m s)
  | .lds e y v p mode => outState s (execLds e y v p mode s)
  | .sts e y v p mode m => outState s (execSts e y v p mode m s)
  | .ldc e v p mode m => outState s (execLdc e v p mode m s)
  | .ldcb e v p mode m => outState s (execLdcb e v p mode m s)
  | .onop e => outState s (execOnop e s)
  | .tap e d q t m => outState s (execTap e d q t m s)
  | .trd e d q t m => outState s (execTrd e d q t m s)
  | .tap4 e d q t m => outState s (execTap4 e d q t m s)
  | .tap4a e d q t m => outState s (execTap4a e d q t m s)
  | .tap8 e d q t m => outState s (execTap8 e d q t m s)
  | .tap8a e d q t m => outState s (execTap8a e d q t m s)
  | .trd4 e d q t m => outState s (execTrd4 e d q t m s)
  | .trd4a e d q t m => outState s (execTrd4a e d q t m s)
  | .taps e d q t m => outState s (execTaps e d q t m s)
  | .taps4 e d q t m => outState s (execTaps4 e d q t m s)
  | .taps4a e d q t m => outState s (execTaps4a e d q t m s)
  | .taps8 e d q t m => outState s (execTaps8 e d q t m s)
  | .taps8a e d q t m => outState s (execTaps8a e d q t m s)
  | .dwr e q v m => outState s (execDwr e q v m s)
  | .chanIn e v q j m => outState s (execChanIn e v q j m s)
  | .chanOut e v q j m => outState s (execChanOut e v q j m s)
  | .exr e v q j m => outState s (execExr e v q j m s)
  | .exw e v q j m => outState s (execExw e v q j m s)
  | .old e v q j m => outState s (execOld e v q j m s)
  | .ost e v q j m => outState s (execOst e v q j m s)
  | .cnop e => outState s (execCnop e s)
  | .rep e count len rot => outState s (execRep e count len rot s)
  | .rot e r => outState s (execRot e r s)
  | .sacs e k imm => outState s (execSacs e k imm s)
  | .sacsr e k a => outState s (execSacsr e k a s)
  | .sli e d imm => outState s (execSli e d imm s)
  | .slu e d imm => outState s (execSlu e d imm s)
  | .sadd e d a b => outState s (execSadd e d a b s)
  | .ssub e d a b => outState s (execSsub e d a b s)
  | .sand e d a b => outState s (execSand e d a b s)
  | .sor e d a b => outState s (execSor e d a b s)
  | .sxor e d a b => outState s (execSxor e d a b s)
  | .saddi e d a imm => outState s (execSaddi e d a imm s)
  | .sshli e d a k => outState s (execSshli e d a k s)
  | .slsri e d a k => outState s (execSlsri e d a k s)
  | .pwr e f x a => outState s (execPwr e f x a s)
  | .prd e d f x => outState s (execPrd e d f x s)
  | .paddi e d imm => outState s (execPaddi e d imm s)
  | .sget e d a j => outState s (execSget e d a j s)
  | .entry e => outState s (execEntry e s)
  | .bkpt e => outState s (execBkpt e s)
  | _ => s

/-- The six operations of a 128-bit bundle, in slot order (R151, R154). -/
def decodeBundle (e : Fin 8) (w : Nat) : List Instr :=
  [decodeM e (bits w 104 24), decodeA e (bits w 80 24), decodeXY e false (bits w 62 18), decodeXY e true (bits w 44 18),
   decodeO e (bits w 20 24), decodeC e (bits w 0 20)]

/-- The bundle at position `k` of an engine's program memory (R152). -/
def State.bundleAt (s : State) (e : Fin 8) (k : Nat) : Nat := s.load (progBase e + 16 * (k % 32768)) 16

/-- Whether the bundle at a position holds an uncorrectable word, and which. -/
def State.bundleBad (s : State) (e : Fin 8) (k : Nat) : Option Nat := s.badIn (progBase e + 16 * (k % 32768)) 16

/-- An instruction-fetch trap ends the engine's tick: no further bundle, IFETCH_TRAP, page recovery starts (R133). -/
def State.fetchTrap (s : State) (e : Fin 8) (addr : Nat) : State :=
  let s1 := s.modFault e (fun w => fwSet w fwIfetchTrap)
  (s1.modEngine e (fun x => { x with active := false, trapPage := some (addr / 4096 * 4096) })).noteBad 0 addr

/-- The correctable words of the bundle at the program counter are logged by its fetch (R699). -/
def State.fetchSofts (s : State) (e : Fin 8) : State := s.noteSofts (progBase e + 16 * ((s.engine e).pc % 32768)) 16

/-- An engine issues the bundle at its program counter, or an all-NOP bundle in an inert range (R64, R88, R391). -/
def State.issueBundle (s : State) (e : Fin 8) : State :=
  let x := s.engine e
  let s0 := if x.nextSlot = 0 then s else s.closeBundle e
  if (s0.engine e).rangeMode (s0.engine e).pc = 2 then s0.closeBundle e
  else
    match s0.bundleBad e (s0.engine e).pc with
    | some a => s0.fetchTrap e a
    | none => ((decodeBundle e (s0.bundleAt e (s0.engine e).pc)).foldl State.runSlot (s0.fetchSofts e)).closeBundle e

/-- After the last bundle of its declared length the engine issues nothing until the boundary (R64). -/
def Engine.stopAtEnd (x : Engine) : Engine := if x.active && decide (x.progLen ≤ x.issued) then { x with active := false } else x

/-- One ENG cycle of engine `e`: nothing while its program is not issuing. -/
def State.engineCycle (s : State) (e : Fin 8) : State :=
  if (s.engine e).active then (s.issueBundle e).modEngine e Engine.stopAtEnd else s

/-- One ENG cycle of the block: every engine whose program is issuing issues one bundle, engine 7 first, so that the
lower engine's same-cycle writes stand (R202). -/
def State.engCycle (s : State) : State :=
  [(7 : Fin 8), 6, 5, 4, 3, 2, 1, 0].foldl State.engineCycle s

/-- Whether any engine's program is still issuing. -/
def State.anyActive (s : State) : Bool := engines.any (fun e => (s.engine e).active)

/-- The rest of the tick's bundles, at most `fuel` cycles: a program has at most 32,768 (R62). -/
def State.finishPrograms : Nat → State → State
  | 0, s => s
  | n + 1, s => if s.anyActive then State.finishPrograms n s.engCycle else s

/-- The tick of engine `e` ends: an open bundle closes, and every access still pending is served (R245, R248); that of an unchecked
program waits until it is served (R249). -/
def State.endTick (s : State) (e : Fin 8) : State :=
  let s1 := if (s.engine e).nextSlot = 0 then s else s.closeBundle e
  if (s1.engine e).unchecked then s1 else s1.serveUpTo e (s1.engine e).ops.length

/-- The whole of the tick's work completes. -/
def State.finishTick (s : State) : State :=
  [(7 : Fin 8), 6, 5, 4, 3, 2, 1, 0].foldl State.endTick (State.finishPrograms 32768 s)

end Sys2Proof.Machine
end

