-- ==== Sys2Proof/Machine/TickOps.lean ====
section
/-! DEFINITION. The events of the boundary window that belong to the engines, delay units and coefficient banks (R68). -/
namespace Sys2Proof.Machine
open Sys2Proof

/-! ### Fault words (R130, R136, R148) -/

/-- The 16-deep fault history of an engine with a new word in front. -/
def State.pushHistory (s : State) (e : Fin 8) (w : Nat) : State :=
  let old := (List.range 15).map (fun i => s.obj (O.faultHistory e i))
  ((w :: old).zipIdx).foldl (fun s p => s.setObj (O.faultHistory e p.2) p.1) s

/-- The fault word of engine `e` is frozen into its objects and history, its event raised with the boundary that ended its tick (R464), and the
word cleared. -/
def State.freezeFault (s : State) (e : Fin 8) : State :=
  let x := s.engine e
  let w := x.fault
  let s1 := ((s.setObj (O.faultWord e) w.toNat).setObj (O.laneGuardFlags e) x.guard.toNat).pushHistory e w.toNat
  let s2 := ((s1.count (O.faultTicks e) 32 (if w = 0 then 0 else 1)).count (O.guardOverflowTotal e) 64 (fieldOf w 48 16)).count
    (O.trapTotal e) 32 (if w.getLsbD fwIfetchTrap then 1 else 0)
  let s3 := s2.count (O.farDeadlineMisses e) 32 (fieldOf w 32 8)
  let s4 := if fwGoverned w (BitVec.ofNat 64 (s3.obj (O.faultEventMask e))) then s3.eventAt s.tick (0x0400 + e.val) w.toNat else s3
  s4.modEngine e (fun x => { x with fault := 0 })

/-! ### Exchange halves (R135, R283) -/

/-- Byte offsets of the exchange words a faulted engine's halves hold, whole lines as the zero map keeps them (R284): the regions assigned
to it and the words it wrote. -/
def State.faultedWords (s : State) : List Nat :=
  let regions := s.io.exRegions.filter (fun r => s.engineFaulted r.1)
  let a := regions.flatMap (fun r => (List.range (r.2.2 / 4)).map (fun i => r.2.1 + 4 * i))
  let b := (s.io.exBy.filter (fun p => s.engineFaulted p.2.2)).map (·.1)
  (((a ++ b).map (fun o => o / 64)).foldl setAdd []).flatMap (fun k => (List.range 16).map (fun i => 64 * k + 4 * i))

/-- The exchange halves swap, and the halves of faulted engines are zeroed (R68, R135). -/
def State.exchangeSwap (s : State) : State :=
  let offs := s.faultedWords
  let s1 : State := { s with io := { s.io with exHalf := !s.io.exHalf, exBy := [], exFaulted := offs } }
  offs.foldl (fun s o => s.zeroRange (s.io.exAddr false o) 4) s1

/-! ### Delay lines (R261, R271, R277, R280) -/

/-- Whether a far delay completes its group in the tick that ends (R278): a Facet group only where it was closed (R311). -/
def Desc.completes (d : Desc) : Bool := d.loc = 1 && decide (d.wp % 16 = 15) && (d.fmt = 0 || d.closed)

/-- Whether a tick ends with the open group of a Facet line unclosed (R311). -/
def Desc.unclosed (d : Desc) : Bool := d.valid && !d.aliased && d.fmt != 0 && d.wp % 16 = 15 && !d.closed

/-- A pending length change applied after the advance (R271). -/
def Desc.applyLen (d : Desc) : Desc :=
  match d.pendLen with
  | none => d
  | some l1 => { d with wp := if l1 = 0 then d.wp else d.wp % l1, hwm := min d.hwm (min d.len l1), len := l1, pendLen := none }

/-- A completed group of a far delay enters write-behind, and the next group takes the next of its four lines (R274, R275). What staging holds of
it is of an earlier lap, and goes: the group is fetched anew before it enters the span (R277). -/
def Desc.queueBehind (d : Desc) : Desc :=
  if d.completes then
    { d with
             stage := d.stage.filter (fun p => p.1 != d.wp / 16)
             behind := d.behind ++ [(d.wp / 16, d.behindLine, if d.fmt = 0 then d.openFlags else BitVec.allOnes 16)], turn := (d.turn + 1) % 4 }
  else d

/-- The write position advances, a completed group of a far delay enters write-behind (R275), the flags of a new open group are cleared, a
pending length applies (R261, R307, R271). -/
def Desc.advance (d : Desc) : Desc :=
  if !d.valid || d.aliased then d.applyLen
  else
    let wp := if d.len = 0 then d.wp else (d.wp + 1) % d.len
    ({ d.queueBehind with wp := wp, openFlags := if wp % 16 = 0 then 0 else d.openFlags, closed := false } : Desc).applyLen

/-- The groups that the delays of a span touch on a line at write position `wp` (R276). -/
def spanGroupList (wp len lo groups : Nat) : List Nat :=
  if len = 0 then []
  else ((List.range (16 * (groups + 1))).map (fun (i : Nat) => ((((wp : Int) - ((lo + i : Nat) : Int)) % (len : Int)).toNat) / 16)).foldl setAdd []

/-- The groups of the span in force, and of a span that waits. -/
def Desc.span (d : Desc) : List Nat := spanGroupList d.wp d.len d.spanLo d.spanGroups
def Desc.nextSpan (d : Desc) : List Nat :=
  match d.pendSpan with
  | some (lo, g) => spanGroupList d.wp d.len lo g
  | none => []

/-- Groups of a span that waits which are not in staging (R280). -/
def Desc.awaited (d : Desc) : List Nat := d.nextSpan.filter (fun g => d.stage.all (fun p => p.1 != g))

/-- A new span whose groups have all arrived takes effect (R280); what was missing and has arrived for it is there. -/
def Desc.applySpan (d : Desc) : Desc :=
  match d.pendSpan with
  | some (lo, g) =>
    if d.awaited = [] then { d with spanLo := lo, spanGroups := g, pendSpan := none, missing := d.missing.filter (fun k => !d.nextSpan.contains k) } else d
  | none => d

/-- The group that enters the span of a far delay two ticks from now, if one does: its newest sample then stands at delay SPAN_LO (R277). -/
def Desc.entering (d : Desc) : Option Nat :=
  if d.valid && !d.aliased && d.loc = 1 && d.len != 0 then
    let p := ((d.wp : Int) + 2 - d.spanLo) % (d.len : Int)
    if p % 16 = 15 then some (p / 16).toNat else none
  else none

/-- The streamer starts the fetch of an entering group that is not staged, needed at the deadline check of tick `n + 2` (R277). -/
def Desc.startFetch (n : Nat) (d : Desc) : Desc :=
  match d.entering with
  | some g =>
    if d.stage.any (fun p => p.1 = g) then d
    else { d with fetching := (d.fetching.filter (fun p => p.1 != g)) ++ [(g, wrapAdd 48 n 2)], missing := setDel d.missing g }
  | none => d

/-- The staging lines of groups that no span needs are free again: a staged group stays while it is in the span in force or in one that
waits, or enters within two ticks. -/
def Desc.freeStage (d : Desc) : Desc :=
  let near := [1, 2].flatMap (fun k => spanGroupList (d.wp + k) d.len d.spanLo 0)
  { d with stage := d.stage.filter (fun p => d.span.contains p.1 || d.nextSpan.contains p.1 || near.contains p.1)
           missing := d.missing.filter (fun g => d.span.contains g || near.contains g) }

/-- Groups whose deadline check falls at tick `n` and whose fetch is not complete. -/
def Desc.late (n : Nat) (d : Desc) : List Nat := (d.fetching.filter (fun p => p.2 = n)).map (·.1)

/-- Late groups become missing, in this tick and every later one (R277). -/
def Desc.miss (n : Nat) (d : Desc) : Desc :=
  { d with missing := (d.late n).foldl setAdd d.missing, fetching := d.fetching.filter (fun p => p.2 != n) }

/-- Groups of the span of a far delay that are treated as missing in a tick: late ones and those that stayed missing (R74, R277). -/
def Desc.missed (n : Nat) (d : Desc) : List Nat :=
  (d.miss n).missing.filter (fun g => (spanGroupList (d.wp + 1) d.len d.spanLo d.spanGroups).contains g)

/-- Every descriptor of an engine changed. -/
def Engine.mapDesc (x : Engine) (f : Desc → Desc) : Engine :=
  { x with desc := x.desc.foldl (fun l p => aPut Desc.zero l p.1 (f p.2)) x.desc }

/-- The deadline check of the far-delay lines of engine `e` for tick `n`: each group of a span that is missing in the tick, newly or still,
is one staging line treated as missing and counts in FAR_MISS (R68, R130, R277). -/
def State.deadlineCheck (s : State) (n : Nat) (e : Fin 8) : State :=
  let k := ((s.engine e).desc.map (fun p => (p.2.missed n).length)).foldl (· + ·) 0
  (s.modEngine e (fun x => x.mapDesc (Desc.miss n))).modFault e (fun w => fwFarMiss w k)

/-- Cycles 16 to 63 for engine `e`: unclosed groups counted, write positions advanced, lengths and spans applied, fetches started. -/
def State.advanceLines (s : State) (n : Nat) (e : Fin 8) : State :=
  let u := ((s.engine e).desc.filter (fun p => p.2.unclosed)).length
  (s.count (O.facetUnclosedGroups e) 32 u).modEngine e (fun x => x.mapDesc (fun d => ((d.advance.applySpan).startFetch n).freeStage))

/-! ### Coefficient banks at the latch instant (R341 to R352, R706) -/

/-- A value `k` ticks into a glide (R348). -/
def glideValue (v0 v1 : Word) (k total : Nat) : Word :=
  BitVec.ofInt 32 (v0.toInt + roundHalfEven ((v1.toInt - v0.toInt) * ((k : Int) + 1)) total)

/-- The glide-capable words a set writes on an engine, the last value of each word standing. -/
def UpSet.glideWords (u : UpSet) (e : Nat) : List BankWrite :=
  let l := u.words.filter (fun w => w.engine = e && w.glide)
  l.foldl (fun acc w => (acc.filter (fun z => z.word != w.word)) ++ [w]) []

/-- The glide entries of an engine that are in use at a latch instant: an entry whose last glide tick has ended is free (R351). -/
def Engine.gliding (x : Engine) : List Glide := x.glides.filter (fun g => decide (g.k < g.total))

/-- New glide entries a set needs on an engine: a word that already glides reuses its own (R351). -/
def State.glideNeed (s : State) (u : UpSet) (e : Fin 8) : Nat :=
  if u.glide = 0 then 0
  else ((u.glideWords e).filter (fun w => ((s.engine e).gliding.all (fun g => g.word != w.word)))).length

/-- Whether a set that has arrived can be selected on engine `e` (R343). -/
def State.readyOn (s : State) (u : UpSet) (e : Fin 8) : Bool :=
  let x := s.engine e
  x.stale.isEmpty && !x.levelling && decide (x.gliding.length + s.glideNeed u e ≤ 1024)

/-- Engines of a set as engine numbers. -/
def UpSet.engineList (u : UpSet) : List (Fin 8) := List.filter (fun e => u.engines.contains e.val) ([0, 1, 2, 3, 4, 5, 6, 7] : List (Fin 8))

/-- Whether the latch instants examine a sealed set: it has arrived, and one accepted during a sequence of R83 or R797 waits for its end (R84, R799). -/
def State.examined (s : State) (u : UpSet) : Bool := u.phase = .sealed && u.arrived && !(u.inSeq && s.inSequence)

/-- Whether a sealed set is selected at this latch instant. -/
def State.selectable (s : State) (u : UpSet) : Bool :=
  u.phase = .sealed && u.arrived && u.engineList.all (fun e => s.readyOn u e)

/-- The word a bank word delivered in the tick before: its glide value, else the word of the active bank, zero where that is uncorrectable
(R184, R348, R350). -/
def State.delivered (s : State) (e : Fin 8) (w : Nat) : Word :=
  ((s.engine e).glideAt w).getD (s.fetchWord (s.bankAddr e true w))

/-- Glide entries of an engine after the swap of a set: entries of written words are replaced, and removed where G is 0. -/
def State.newGlides (s : State) (u : UpSet) (e : Fin 8) : List Glide :=
  let ws := u.glideWords e
  let keep := (s.engine e).glides.filter (fun g => ws.all (fun w => w.word != g.word))
  if u.glide = 0 then keep
  else keep ++ ws.map (fun w => { word := w.word, v0 := s.delivered e w.word, v1 := w.value, k := 0, total := u.glide, now := s.delivered e w.word })

/-- Engine `e` exchanges its banks for a selected set: generation recorded, levelling begins, glides start (R341, R326). -/
def State.swapEngine (s : State) (u : UpSet) (e : Fin 8) : State :=
  let g := s.newGlides u e
  ((s.setObj (O.activeGeneration e) u.gen).setObj (O.levelledRows e) (s.engine e).dirty.length).modEngine e
    (fun x => { x with bankB := !x.bankB, repairSwap := false, levelling := true, glides := g })

/-- The history entry of a generation changed (R360). -/
def State.setCommit (s : State) (gen st tick : Nat) : State :=
  { s with history := s.history.map (fun c => if c.gen = gen then { c with state := st, tick := tick } else c) }

/-- A selected set takes effect in tick `n`. -/
def State.applySet (s : State) (n : Nat) (u : UpSet) : State :=
  let s1 := u.engineList.foldl (fun s e => s.swapEngine u e) s
  let s2 := s1.setCommit u.gen 3 n
  { s2 with sets := if u.engines.isEmpty then s2.sets.filter (fun z => z.gen != u.gen || z.phase != .sealed)
      else s2.sets.map (fun z => if z.gen = u.gen && z.phase = .sealed then { z with phase := .swapped } else z) }

/-- A sealed set that has arrived and is not ready is deferred, and counted at its first deferral (R343). -/
def State.deferSet (s : State) (u : UpSet) : State :=
  let s1 := s.setCommit u.gen 2 0
  let s2 : State := { s1 with sets := s1.sets.map (fun z => if z.gen = u.gen && z.phase = .sealed then { z with deferred := true } else z) }
  if u.deferred then s2 else s2.count O.commitsDeferred 32 1

/-- The latch instant of tick `n`: the commits that have arrived are selected in order of arrival, or deferred (R70, R84, R343, R799). -/
def State.latch (s : State) (n : Nat) : State :=
  (s.sets.filter s.examined).foldl (fun s u => if s.selectable u then s.applySet n u else s.deferSet u) s

/-- A repair swap of engine `e`, if pending and its conditions hold (R706). `was` is the state before the latch instant. -/
def State.repairSwap (s : State) (was : State) (e : Fin 8) : State :=
  let x := s.engine e
  let claimed := was.sets.any (fun u => u.engines.contains e.val)
  let badPages := ((s.bad.filter (fun a => decide (bankBase e x.bankB ≤ a) && decide (a < bankBase e x.bankB + bankSize))).map (fun a => a / 4096 * 4096)).eraseDups
  if x.repairSwap && x.dirty.isEmpty && !claimed && x.stale.isEmpty && !x.levelling then
    badPages.foldl State.queuePage ((s.modEngine e (fun x => { x with bankB := !x.bankB, repairSwap := false })).count O.repairSwaps 32 1)
  else s

/-- Cycles 65 to 95: every glide entry forms its value of the tick, one of a commit that took effect at this boundary its first, and entries
past their last tick are freed (R348, R350, R351, R352). -/
def Engine.glideTick (x : Engine) : Engine :=
  { x with glides := (x.glides.filter (fun g => decide (g.k < g.total))).map (fun g =>
      { g with k := g.k + 1, now := glideValue g.v0 g.v1 g.k g.total }) }

/-! ### Parameter writes to X and Y (R354) -/

/-- The first `n` distinct values of a list, in order. -/
def firstDistinct (n : Nat) (l : List Nat) : List Nat := l.eraseDups.take n

/-- The 256-byte blocks written in this window: at most 32 for each array, in order of the earliest word queued. -/
def State.xyBlocks (s : State) : List Nat :=
  let arrays := (s.xyQueue.map (fun w => w.addr / 0x200000)).eraseDups
  arrays.flatMap (fun a => firstDistinct 32 ((s.xyQueue.filter (fun w => w.addr / 0x200000 = a)).map (fun w => w.addr / 256)))

/-- Cycles 224 to 255: the queued words of those blocks are written, in order of acceptance. -/
def State.xyWrite (s : State) : State :=
  let blocks := s.xyBlocks
  let now := s.xyQueue.filter (fun w => blocks.contains (w.addr / 256))
  let s1 : State := { s with xyQueue := s.xyQueue.filter (fun w => !blocks.contains (w.addr / 256)) }
  now.foldl (fun s w => s.store w.addr 4 w.value.toNat) s1

/-! ### Engine reset and program start (R64, R72, R133) -/

/-- The accesses of an unchecked program that B(n+1) finds unserved: each is past its deadline (R245, R249). -/
def Engine.lateOps (x : Engine) : List OrbitOp :=
  if x.unchecked then (x.ops.filter (fun o => !o.served)).map (fun o => { o with age := o.age + 32768 }) else []

/-- Engine reset. -/
def Engine.tickReset (x : Engine) : Engine :=
  { x.resetRegs with guard := 0, guardA := 0, flights := [], nextSlot := 0, stores := [], entryNow := false, haltNow := false,
                     pushRep := none, pc := 0, issued := 0, oBusy := 0, ops := x.lateOps, active := false }

/-- Whether ENG runs from its locked PLL, outside the stop of a sequence of R797 and the power ladder (R74, R797, R813). -/
def State.engRuns (s : State) : Bool :=
  s.clk.engLock && s.obj O.powerState = 0 && (match s.clk.engSeq with
    | some q => !q.stopped
    | none => true)

/-- The program of the tick starts: not while ENG is not at its locked frequency (R74), and not while page recovery of a
trapped program page is incomplete, which sets IFETCH_UNRECOVERED (R133). -/
def State.startProgram (s : State) (e : Fin 8) : State :=
  let x := s.engine e
  if !x.running || !s.engRuns then s
  else if x.trapPage.isSome then s.modFault e (fun w => fwSet w fwUnrecovered)
  else s.modEngine e (fun x => { x with active := decide (0 < x.progLen) })

/-! ### Settings that take effect at a boundary -/

/-- FetchMode, the RANGE registers and the declared length of an engine (R106, R389, R398). -/
def Engine.applyPending (x : Engine) : Engine :=
  { x with
    unified := x.pendFetch.getD x.unified, pendFetch := none, progLen := x.pendLen.getD x.progLen, pendLen := none
    ranges := tab (fun i => (lane x.pendRanges i).getD (lane x.ranges i)), pendRanges := Vector.replicate 4 none }

/-- The shares written to ORB_SHARE (R240, R256). -/
def OrbitIo.applyShare (io : OrbitIo) : OrbitIo :=
  match io.pendShare with
  | some w => { io with share := tab (fun i => fieldOf w (8 * i.val) 8), pendShare := none }
  | none => io

/-- Objects that change at a boundary: of engines, group policies, power banks and Patchbay, and the Orbit reservations. -/
def boundaryObject (a : Nat) : Bool :=
  let idx := a / 256
  decide (0x4100 ≤ idx ∧ idx ≤ 0x4107) || decide (0x4800 ≤ idx ∧ idx ≤ 0x481F) || decide (0x3060 ≤ idx ∧ idx ≤ 0x3062) ||
  decide (0x5800 ≤ idx ∧ idx ≤ 0x5AFF) || idx = 0x5D00 || a = O.farReservation || a = O.portReservation || a = O.dmaFloor

/-- Objects whose writes take effect at the boundary, in order of acceptance (R431, R432). -/
def State.applyObjs (s : State) : State := ({ s with pendObjs := [] } : State).setObjs (s.pendObjs.filter (fun p => boundaryObject p.1))

end Sys2Proof.Machine
end

