-- ==== Sys2Proof/Machine/LiveOps.lean ====
section
/-! DEFINITION. Live parameters: banked writes, claims, update sets, commits, levelling, writes of X, Y and lengths (R323 to R357). -/
namespace Sys2Proof.Machine
open Sys2Proof

/-! ### Update sets -/

/-- The open set of a session (R330). -/
def State.openSet (s : State) (k : SessKey) : Option UpSet := s.sets.find? (fun u => u.phase = .opened && u.key = k)

/-- Open sets in the device (R331). -/
def State.openCount (s : State) : Nat := (s.sets.filter (fun u => u.phase = .opened)).length

/-- The open set of a session changed; opened first if the session has none. -/
def State.modOpenSet (s : State) (k : SessKey) (f : UpSet → UpSet) : State :=
  match s.openSet k with
  | some _ => { s with sets := s.sets.map (fun u => if u.phase = .opened && u.key = k then f u else u) }
  | none =>
    let u : UpSet := { key := k, phase := .opened, engines := [], words := [], gen := 0, glide := 0, writes := 0, arrived := false, deferred := false, inSeq := false }
    { s with sets := s.sets ++ [f u] }

/-- The bound words a banked write of a parameter writes, on every engine concerned (R324, R371, R356). -/
def Param.bankWrites (p : Param) (words : List Word) : List BankWrite :=
  ((p.engine, p.base) :: p.mirror.toList).flatMap (fun eb =>
    if p.replicate then (List.range p.words).map (fun i => { engine := eb.1, word := eb.2 + i, value := words.headD 0, glide := p.glide })
    else ((words.take p.words).zipIdx).map (fun w => { engine := eb.1, word := eb.2 + w.2, value := w.1, glide := p.glide }))

/-- Outcomes of a banked write (R332). -/
inductive ClaimOutcome where
  | lands | held | refused
  deriving DecidableEq, Repr

/-- The outcome on one engine: another open set refuses; a sealed set, levelling or an earlier held write holds (R329, R332). -/
def State.claimOn (s : State) (k : SessKey) (e : Nat) : ClaimOutcome :=
  if s.sets.any (fun u => u.phase = .opened && u.key != k && u.engines.contains e) then .refused
  else if s.sets.any (fun u => u.phase != .opened && u.engines.contains e) || (s.engine (eng8 e)).levelling ||
      s.held.any (fun h => h.writes.any (fun w => w.engine = e)) then .held
  else .lands

/-- The outcome of a write on several engines: the most restrictive decides (R332). -/
def State.claims (s : State) (k : SessKey) (es : List Nat) : ClaimOutcome :=
  es.foldl (fun acc e =>
    match acc, s.claimOn k e with
    | .refused, _ => .refused
    | _, .refused => .refused
    | .held, _ => .held
    | _, c => c) .lands

/-- The engines that bank writes claim: while a block runs on two engines, a claim of the source is a claim of the destination (R400). -/
def State.claimed (s : State) (ws : List BankWrite) : List Nat :=
  let es := ws.map (·.engine)
  match s.til.mig with
  | some m => if m.fromDev = m.toDev && !m.switched && es.contains m.fromEng then es ++ [m.toEng] else es
  | none => es

/-- Words in the hold queue (R333). -/
def State.heldWords (s : State) : Nat := (s.held.flatMap (·.writes)).length

/-- Whether the resources of a banked write are free: claims, open sets, hold queue, session entry (R331 to R333, R446). -/
def State.bankedFree (s : State) (k : SessKey) (ws : List BankWrite) : Bool :=
  let c := s.claims k (s.claimed ws)
  c != .refused && ((s.openSet k).isSome || decide (s.openCount < 16)) &&
  (c != .held || decide (s.heldWords + ws.length ≤ 1024)) && s.canEnter k

/-- One word lands in the shadow bank: its row is dirty, its page stale (R324, R325, R344). -/
def State.landWord (s : State) (w : BankWrite) : State :=
  let e := eng8 w.engine
  ((s.store (s.bankAddr w.engine false w.word) 4 w.value.toNat).modEngine e (fun x => { x with dirty := setAdd x.dirty (w.word / 64) })).staleBank
    e (w.word / 1024)

/-- A banked write lands on every engine it concerns. -/
def State.landWords (s : State) (k : SessKey) (ws : List BankWrite) : State :=
  ws.foldl State.landWord (s.modOpenSet k (fun u => { u with words := u.words ++ ws }))

/-- The session takes its entry (R446). -/
def State.enter (s : State) (k : SessKey) : State := s.setSession (s.session k)

/-- An accepted banked write joins the open set of its session, claims its engines, and lands or is held (R330, R332). -/
def State.bankedWrite (s : State) (k : SessKey) (ws : List BankWrite) : State :=
  let c := s.claims k (s.claimed ws)
  let s1 := (s.enter k).modOpenSet k (fun u =>
    { u with engines := (s.claimed ws).foldl setAdd u.engines, writes := u.writes + 1 })
  if c = .held then { s1 with held := s1.held ++ [{ key := k, writes := ws }] } else s1.landWords k ws

/-! ### Levelling (R326 to R329, R857) -/

/-- Bus address of a page of the active or the shadow bank of engine `e`. -/
def State.bankPage (s : State) (e : Fin 8) (active : Bool) (i : Nat) : Nat := s.bankAddr e active (1024 * i)

/-- A page of the active bank that levelling finds uncorrectable is recovered in place, or its lost words wait for a repair swap. -/
def State.levelRecover (s : State) (e : Fin 8) (page : Nat) : State :=
  match s.recoverAt page with
  | some t => t
  | none => (s.event 0x050A (page + e.val * 2 ^ 40)).modEngine e (fun x => { x with repairSwap := true })

/-- Levelling reads a row of the active bank: its uncorrectable and correctable words are found, and its page handled. -/
def State.levelRead (s : State) (e : Fin 8) (row : Nat) : State :=
  let src := s.bankAddr e true (64 * row)
  let bad := s.bad.filter (inRange src 256)
  let s1 := (bad.foldl (fun s a => s.noteBad 0 a) s).noteSofts src 256
  if bad = [] then s1 else s1.levelRecover e (src / 4096 * 4096)

/-- One row copied from the active into the shadow bank; an uncorrectable word is written as zero (R326, R857). -/
def State.levelRow (s : State) (e : Fin 8) (row : Nat) : State :=
  let src := s.bankAddr e true (64 * row)
  let dst := s.bankAddr e false (64 * row)
  (s.bad.filter (inRange src 256)).foldl (fun s a => s.store (dst + (a - src)) 4 0) (s.storeBytes dst (memBytes s.mem src 256))

/-- The parity of a levelled page copied (R326). -/
def State.levelParity (s : State) (e : Fin 8) (i : Nat) : State :=
  (s.setParity (s.bankPage e false i) (s.parityOf (s.bankPage e true i))).modEngine e
    (fun x => { x with stale := x.stale.filter (fun p => p != i) })

/-- Claims of a completed swap end with the levelling of the engine (R332). -/
def State.releaseClaims (s : State) (e : Fin 8) : State :=
  let l := s.sets.map (fun u => if u.phase = .swapped then { u with engines := u.engines.filter (fun n => n != e.val) } else u)
  { s with sets := l.filter (fun u => !(u.phase = .swapped && u.engines.isEmpty)) }

/-- Whether a held write can land: no engine it concerns holds it, and none is in `blocked`. -/
def State.heldFree (s : State) (blocked : List Nat) (h : Held) : Bool :=
  h.writes.all (fun w => !blocked.contains w.engine && !(s.engine (eng8 w.engine)).levelling &&
    !s.sets.any (fun u => u.phase != .opened && u.engines.contains w.engine))

/-- Held writes land in order of acceptance, as far as nothing holds them (R329, R332). -/
def State.landHeld (s : State) : State :=
  (s.held.foldl (fun (p : State × List Nat) h =>
    if p.1.heldFree p.2 h then ({ p.1 with held := p.1.held.erase h }.landWords h.key h.writes, p.2)
    else (p.1, p.2 ++ h.writes.map (·.engine))) (s, [])).1

/-- The end of levelling: dirty rows and their parity copied, the dirty map clear, claims released, held writes landed. -/
def State.level (s : State) (e : Fin 8) : State :=
  if !(s.engine e).levelling then s
  else
    let rows := (s.engine e).dirty
    let s1 := rows.foldl (fun s r => s.levelRow e r) (rows.foldl (fun s r => s.levelRead e r) s)
    let s2 := ((rows.map (fun r => r / 16)).eraseDups).foldl (fun s i => s.levelParity e i) s1
    ((s2.modEngine e (fun x => { x with dirty := [], levelling := false })).releaseClaims e).landHeld

/-- Engines whose shadow bank a set has written. -/
def UpSet.touched (u : UpSet) : List Nat := (u.words.map (·.engine)).eraseDups

/-- The engines a discarded set touched are levelled from their active banks (R337). -/
def State.levelTouched (s : State) (u : UpSet) : State :=
  u.touched.foldl (fun s e => s.modEngine (eng8 e) (fun x => { x with levelling := true })) s

/-- The open set of a session is discarded, with its held writes (R337). -/
def State.abortSet (s : State) (k : SessKey) : State :=
  match s.openSet k with
  | none => s
  | some u =>
    ({ s with sets := s.sets.filter (fun z => !(z.phase = .opened && z.key = k)), held := s.held.filter (fun h => h.key != k) } : State).levelTouched u

/-- A sealed set that is not yet effective is dropped: state 4, no bank changes (R357, R707). The engines it touched are levelled from their
active banks, which R707 says of a lost set and R357 of none (log entry 148). -/
def State.dropSet (s : State) (u : UpSet) : State :=
  let s1 := s.setCommit u.gen 4 0
  ({ s1 with sets := s1.sets.filter (fun z => !(z.phase = .sealed && z.gen = u.gen)) } : State).levelTouched u

/-! ### Commits (R334 to R342) -/

/-- The next generation: never 0 (R339). -/
def State.nextGen (s : State) : Nat := if s.obj O.generationCounter = 0xFFFFFFFF then 1 else s.obj O.generationCounter + 1

/-- Glide entries a set with glide time `g` needs on engine `e`. -/
def UpSet.glideCount (u : UpSet) (g : Nat) (e : Nat) : Nat := if g = 0 then 0 else (u.glideWords e).length

/-- The result code of a commit of session `k` whose request carries `words` (R335, R351, R435, R338). -/
def State.commitCode (s : State) (k : SessKey) (words : List (BitVec 32)) : Nat :=
  let g := (s.session k).glide
  let fits := match s.openSet k with
    | none => true
    | some u => u.engines.all (fun e => decide (u.glideCount g e ≤ 1024))
  let c := s.checkWrite k O.commit words { range := fits, res := s.held.all (fun h => h.key != k) && s.canEnter k }
  if c = rcOk && s.journalFull then rcJournal else c

/-- A newest entry of the commit history (R360). -/
def State.pushCommit (s : State) (gen : Nat) : State :=
  { s with history := ({ gen := gen, state := 1, tick := 0 } :: s.history).take 16 }

/-- The open set of a session, or an empty one, is sealed with its generation and glide time (R334, R336, R347). -/
def State.seal (s : State) (k : SessKey) (gen : Nat) : State :=
  let x := s.session k
  let s1 := (s.modOpenSet k id).setSession { x with lastGen := gen }
  let s2 := (s1.setObj O.generationCounter gen).pushCommit gen
  { s2 with sets := s2.sets.map (fun u =>
      if u.phase = .opened && u.key = k then { u with phase := .sealed, gen := gen, glide := x.glide, inSeq := s.inSequence } else u) }

/-- A commit request: checked, sealed, journalled as KIND 1, answered (R334, R338, R477). `answer` is the words the response carries. -/
def State.commitReq (s : State) (k : SessKey) (kport : Nat) (words : List (BitVec 32)) (withGen : Bool) : State :=
  if !s.serving then s else
  let code := s.commitCode k words
  let gen := s.nextGen
  let n := match s.openSet k with
    | some u => u.writes
    | none => 0
  let s1 := if code = rcOk then s.seal k gen else s
  let new := (if code = rcOk then gen else 0) + n % 2 ^ 32 * 2 ^ 32
  let s2 := if code = rcJournal then s1.refuseStrict else s1.journal (s.recordOf k kport 1 O.commit code 0 new false)
  (s2.noteRights k O.commit code true).respond k O.commit code (if withGen then [BitVec.ofNat 32 gen] else [])

/-! ### Parameters outside the banks (R354, R269 to R271) -/

/-- Writes that a BIND 1 parameter queues: one for each bound word, from each base (R354, R371). -/
def Param.xyWrites (p : Param) (words : List Word) : List XyWrite :=
  (p.base :: (p.mirror.map (·.2)).toList).flatMap (fun b =>
    let at_ := fun (i : Nat) (w : Word) => ({ y := decide (0x200000 ≤ (b - 0x200000000) % 0x800000), addr := b + 4 * i, value := w } : XyWrite)
    if p.replicate then (List.range p.words).map (fun i => at_ i (words.headD 0))
    else ((words.take p.words).zipIdx).map (fun w => at_ w.2 w.1))

/-- Whether a new length of a line is accepted (R270). -/
def State.lenOk (s : State) (e q v : Nat) : Bool :=
  let x := s.engine (eng8 e)
  let d := aGet Desc.zero x.desc q
  d.valid && decide (2 ≤ v) && decide (v ≤ d.maxLen) && ((d.fmt = 0 && d.loc = 0) || v % 16 = 0) &&
  (!d.aliased || decide (v ≤ (aGet Desc.zero x.desc d.writer).len)) &&
  x.desc.all (fun p => !(p.2.valid && p.2.aliased && p.2.writer = q) || decide (p.2.len ≤ v))

/-- A length change waits for the next boundary; of several the last applies (R269). -/
def State.pendLength (s : State) (e q v : Nat) : State :=
  s.modEngine (eng8 e) (fun x => { x with desc := aPut Desc.zero x.desc q { aGet Desc.zero x.desc q with pendLen := some v } })

/-- The accepted length of a BIND 2 parameter and its change (R269, R461). -/
def State.writeLength (s : State) (p : Param) (v : Nat) : State :=
  let s1 : State := { s with params := s.params.map (fun z => if z.addr = p.addr then { z with lenVal := v } else z) }
  ((p.engine, p.base) :: p.mirror.toList).foldl (fun s eq => s.pendLength eq.1 eq.2 v) s1

/-- Whether a parameter's block is in a migration across devices before the switch (R463). -/
def State.paramBusy (s : State) (p : Param) : Bool :=
  match s.til.mig with
  | some m => m.blocks.contains p.block && m.fromDev != m.toDev && !m.switched
  | none => false

/-- The conditions a write of a graph parameter adds to the checks: its range for a length, its resources (R332, R463). -/
def State.paramExtra (s : State) (k : SessKey) (p : Param) (words : List (BitVec 32)) : Extra :=
  { range := p.bind != 2 || s.lenOk p.engine p.base (wordsNat words)
    res := !s.paramBusy p && (p.bind != 0 || s.bankedFree k (p.bankWrites words)) }

/-- The effect of an accepted write of a graph parameter, by its binding (R324, R354, R269). -/
def State.paramEffect (s : State) (k : SessKey) (p : Param) (words : List (BitVec 32)) : State :=
  if p.bind = 0 then s.bankedWrite k (p.bankWrites words)
  else if p.bind = 1 then { s with xyQueue := s.xyQueue ++ p.xyWrites words }
  else s.writeLength p (wordsNat words)

/-- A write request of a graph parameter. -/
def State.writeParam (s : State) (k : SessKey) (kport a : Nat) (words : List (BitVec 32)) : State :=
  match s.param a with
  | none => s.writeReq k kport a words {} id
  | some p => s.writeReq k kport a words (s.paramExtra k p words) (fun s => s.paramEffect k p words)

end Sys2Proof.Machine
end

