-- ==== Sys2Proof/Machine/Delay.lean ====
section
/-! DEFINITION. Commands of the Orbit schedule and of the delay-line descriptors (R256 to R280). -/
namespace Sys2Proof.Machine
open Sys2Proof

/-- ORB_SHARE: eight shares for the next boundary; ignored and counted unless the loader writes a sum of at most 64 (R256). -/
def State.writeOrbShare (s : State) (loader : Bool) (w : BitVec 64) : State :=
  let sum := (List.range 8).foldl (fun acc i => acc + fieldOf w (8 * i) 8) 0
  if loader && decide (sum ≤ 64) then { s with io := { s.io with pendShare := some w } } else { s with regErrors := s.regErrors + 1 }

def execOrbShare (loader : Bool) (w : BitVec 64) (s : State) : Out := .next (s.writeOrbShare loader w)

/-- Bytes of storage of `n` samples in a format (R305). -/
def lineBytes (fmt n : Nat) : Nat := if fmt = 0 then 4 * n else (n / 16 * groupBytes fmt + 63) / 64 * 64

/-- Bytes of LPDDR5X fitted. -/
def State.lpddrBytes (s : State) : Nat := s.obj O.lpddrCapacity * 0x100000

/-- The descriptor that four words name (R259); the hardware fields start anew. A length change that still waits goes, and LENPEND with it: the
spec does not say what a write of the descriptor does to it (log entry 136). -/
def descWords (w0 w1 w2 w3 : BitVec 64) : Desc :=
  { Desc.zero with
    loc := BitVec.ofNat 2 (fieldOf w0 62 2), fmt := BitVec.ofNat 3 (fieldOf w0 59 3), valid := w0.getLsbD 58, aliased := w0.getLsbD 57
    writer := fieldOf w0 44 12, base := fieldOf w0 0 40 / 64 * 64, tapCount := fieldOf w1 48 16, maxLen := fieldOf w1 23 23
    len := fieldOf w1 0 23, hwm := fieldOf w1 0 23, clamp := w2.getLsbD 63, wp := fieldOf w2 0 23
    stageLine := fieldOf w3 43 21, spanGroups := fieldOf w3 32 10, spanLo := fieldOf w3 0 22 }

/-- Whether two ranges of bytes overlap. -/
def overlap (a n b m : Nat) : Bool := decide (a < b + m) && decide (b < a + n)

/-- Regions of Orbit memory that storage must not run into (R260): the I/O area, the exchange halves, the private regions; address, bytes. -/
def State.orbitRegions (s : State) : List (Nat × Nat) :=
  [(orbitBase + 0x5F00000, 0x100000), (s.io.exBase0, s.io.exSize), (s.io.exBase1, s.io.exSize)] ++
  engines.map (fun e => (orbitBase + lane s.io.privBase e, lane s.io.privSize e))

/-- The staging region of a far delay (R274), of the larger span where one waits; none for another line. -/
def Desc.stageRegion (d : Desc) : Nat × Nat := if d.loc = 1 then (lineAddr d.stageLine, 64 * (d.stageLines + 4)) else (0, 0)

/-- Storage and staging region of a valid line that is no alias. -/
def Desc.regions (d : Desc) : List (Nat × Nat) := [(d.base, lineBytes d.fmt.toNat d.maxLen), d.stageRegion]

/-- Whether the storage of a descriptor is free of every other region (R260): other lines' storage and staging, and the regions of Orbit
memory. An alias shares the storage of its WRITER and of the other views of it. -/
def State.storageFree (s : State) (e : Fin 8) (q : Nat) (d : Desc) : Bool :=
  let n := lineBytes d.fmt.toNat d.maxLen
  let free := fun (r : Nat × Nat) => r.2 = 0 || !overlap d.base n r.1 r.2
  s.orbitRegions.all free &&
  engines.all (fun f => (s.engine f).desc.all (fun p =>
    (f = e && (p.1 = q || (d.aliased && p.1 = d.writer))) || !p.2.valid || p.2.aliased || p.2.regions.all free))

/-- Whether the loader accepts a descriptor (R260); one without VALID is not checked. -/
def State.descOk (s : State) (e : Fin 8) (q : Nat) (d : Desc) : Bool :=
  let n := lineBytes d.fmt.toNat d.maxLen
  let inside := if d.loc = 0 then decide (orbitBase ≤ d.base ∧ d.base + n ≤ orbitBase + 0x6000000)
    else decide (0x1000000000 ≤ d.base ∧ d.base + n ≤ 0x1000000000 + s.lpddrBytes)
  !d.valid ||
    (d.loc.toNat < 2 && d.fmt.toNat < 5 && inside && ((d.fmt = 0 && d.loc = 0) || (d.len % 16 = 0 && d.maxLen % 16 = 0)) &&
     (d.loc != 1 || decide (64 ≤ d.spanLo)) && s.storageFree e q d)

/-- A descriptor written over another (R280): on a far delay in use a changed span waits for staging, and one that waits goes on waiting
where the write leaves the span as it was; what is staged, fetched and written behind stays, and HWM, a field that is read only. WP is as
written; the flags of the open group stay with their group. -/
def Desc.rewrite (old new : Desc) : Desc :=
  if old.valid && new.valid && old.loc = 1 && new.loc = 1 && old.base = new.base then
    { new with spanLo := old.spanLo, spanGroups := old.spanGroups
               pendSpan := if old.spanLo != new.spanLo || old.spanGroups != new.spanGroups then some (new.spanLo, new.spanGroups) else old.pendSpan
               stage := old.stage, missing := old.missing, fetching := old.fetching, behind := old.behind, turn := old.turn
               hwm := min old.hwm new.len, openVals := old.openVals
               openFlags := if old.wp / 16 = new.wp / 16 then old.openFlags else 0, closed := old.closed && old.wp == new.wp }
  else new

/-- A descriptor of engine `e` replaced. -/
def State.setDesc (s : State) (e : Fin 8) (q : Nat) (d : Desc) : State :=
  s.modEngine e (fun x => { x with desc := aPut Desc.zero x.desc q d })

/-- The descriptor `q` of engine `e`. -/
def State.desc (s : State) (e : Fin 8) (q : Nat) : Desc := aGet Desc.zero (s.engine e).desc q

/-- Bytes moved by the streamer or the state mover; a word read as uncorrectable is uncorrectable where it is written (log entry 109). -/
def State.moveBytes (s : State) (src dst n : Nat) : State :=
  let hit := s.bad.filter (fun c => decide (c < src + n) && decide (src < c + codeWordBytes c))
  let t := (s.noteSofts src n).storeBytes dst (memBytes s.mem src n)
  { t with bad := (hit.map (fun c => codeWord (dst + (c - src)))).foldl setAdd t.bad }

/-- A descriptor takes the place of another; samples of the open group of a far delay go with its write-behind line. -/
def State.putDesc (s : State) (e : Fin 8) (q : Nat) (d : Desc) : State :=
  let old := s.desc e q
  let new := old.rewrite d
  let s1 := if old.valid && new.valid && old.loc = 1 && new.loc = 1 && old.base = new.base && old.behindLine != new.behindLine then
    s.moveBytes (lineAddr old.behindLine) (lineAddr new.behindLine) 64 else s
  s1.setDesc e q new

/-- A descriptor write: by the loader or the state mover it takes effect if R260 admits it; every other write ends in a bus
error and does nothing (R258). -/
def execDescriptorFileWrite (tiler : Bool) (e : Fin 8) (q : Fin 4096) (w0 w1 w2 w3 : BitVec 64) (s : State) : Out :=
  let d := descWords w0 w1 w2 w3
  .next (if tiler && s.descOk e q.val d then s.putDesc e q.val d else s)

/-- Whether LPDDR5X answers (R808). -/
def State.lpddrUp (s : State) : Bool := s.obj (O.pllState 2) = 2

/-- The lowest line of span staging that holds no group (R274). -/
def Desc.freeLine (d : Desc) : Option Nat :=
  ((List.range d.stageLines).map (fun k => d.stageLine + 4 + k)).find? (fun k => d.stage.all (fun p => p.2 != k))

/-- Group `g` is copied from LPDDR5X into a free staging line (R274, R277); without one nothing happens. -/
def State.stageGroup (s : State) (e : Fin 8) (q g : Nat) : State :=
  let d := s.desc e q
  match d.freeLine with
  | none => s
  | some k =>
    (s.moveBytes (d.groupHome g) (lineAddr k) (groupBytes d.fmt.toNat)).setDesc e q
      { d with stage := d.stage.filter (fun p => p.1 != g) ++ [(g, k)], fetching := d.fetching.filter (fun p => p.1 != g) }

/-- Whether the streamer fetches a group of a line (R277, R280): its fetch has been started, or a span that waits needs it; not while it is
in write-behind. -/
def Desc.fetches (d : Desc) (g : Nat) : Bool :=
  (d.fetching.any (fun p => p.1 = g) || d.awaited.contains g) && d.behind.all (fun p => p.1 != g)

/-- A group of a far delay has arrived in its staging line (R277, R280). No access ends while LPDDR5X does not answer (R808). -/
def execFarFetchComplete (e : Fin 8) (q : Fin 4096) (g : BitVec 18) (s : State) : Out :=
  .next (if s.lpddrUp && (s.desc e q.val).fetches g.toNat then s.stageGroup e q.val g.toNat else s)

/-- The written slots of a plain group, or a whole Facet block, copied from write-behind into the line's storage (R263, R275). -/
def State.copyBehind (s : State) (d : Desc) (b : Nat × Nat × BitVec 16) : State :=
  if d.fmt = 0 then
    (List.range 16).foldl (fun s i => if b.2.2.getLsbD i then s.moveBytes (lineAddr b.2.1 + 4 * i) (d.groupHome b.1 + 4 * i) 4 else s) s
  else s.moveBytes (lineAddr b.2.1) (d.groupHome b.1) (groupBytes d.fmt.toNat)

/-- The streamer copies a completed group out of write-behind (R275). -/
def execFarGroupCopy (e : Fin 8) (q : Fin 4096) (g : BitVec 18) (s : State) : Out :=
  let d := s.desc e q.val
  .next (match (if s.lpddrUp then d.behind.find? (fun p => p.1 = g.toNat) else none) with
    | some b => (s.copyBehind d b).setDesc e q.val { d with behind := d.behind.filter (fun p => p != b) }
    | none => s)

/-- A pending span whose groups are all staged takes effect at the boundary (R280). -/
def execSpanChangeApply (e : Fin 8) (q : Fin 4096) (s : State) : Out := .next (s.setDesc e q.val (s.desc e q.val).applySpan)

/-- A write of a parameter bound to a line's length (R269, R270). Another object is not this command's: nothing happens. -/
def execDelayLengthWrite (src : Src) (a : BitVec 24) (words : List (BitVec 32)) (s : State) : Out :=
  match s.param a.toNat with
  | some p => .next (if p.bind = 2 then s.writeParam src.key src.link.val a.toNat words else s)
  | none => .next (s.writeParam src.key src.link.val a.toNat words)

end Sys2Proof.Machine
end

