-- ==== Sys2Proof/Machine/Integrity.lean ====
section
/-! DEFINITION. Commands of memory integrity: traps, recovery, scrubber, storm window, range pass, tests, power banks (R133, R701 to R725). -/
namespace Sys2Proof.Machine
open Sys2Proof

/-- Word `w` of the bundle at the program counter of engine `e` proves uncorrectable on fetch: the tick of the engine ends and
its page goes to recovery (R133, R134). Nothing happens while the engine issues no program. -/
def execIfetchTrap (e : Fin 8) (w : Fin 4) (s : State) : Out :=
  let addr := progBase e + 16 * ((s.engine e).pc % 32768) + 4 * w.val
  .next (if (s.engine e).active && (s.engine e).rangeMode (s.engine e).pc != 2 then
    ({ s with bad := setAdd s.bad addr } : State).fetchTrap e addr else s)

/-! ### Page handling (R702 to R709) -/

/-- An update set that claims an engine whose shadow page is lost: open, it is aborted; sealed and not yet effective, it is
dropped. Either is journalled with origin FIRM and raises event 0x0505 (R707). -/
def State.loseClaims (s : State) (e : Fin 8) (page : Nat) : State :=
  match s.sets.find? (fun u => u.phase != .swapped && u.engines.contains e.val) with
  | none => s
  | some u =>
    let s1 := if u.phase = .opened then s.abortSet u.key else s.dropSet u
    (s1.journal (s1.recordOf .firm 0 0 (if u.phase = .opened then O.updateSetAbort else O.commit) 0 0 1 false)).event 0x0505
      (page + e.val * 2 ^ 40)

/-- A page of the shadow bank is written from the active bank, uncorrectable words as zero (R707). -/
def State.levelPage (s : State) (e : Fin 8) (i : Nat) : State :=
  ((List.range 16).foldl (fun s r => s.levelRow e (16 * i + r)) s).levelParity e i

/-- The good copy of a page arrived: the mark is cleared, counted and reported (R702). -/
def State.reloaded (s : State) (page : Nat) : State :=
  ((((s.curePage page).count O.pagesReloaded 32 1).event 0x0502 page).freeTrap page).rangeCount page O.rangePagesReloadedOrZeroed

/-- A static page that its page code could not recover is rebuilt from its origin where the hardware holds it: a shadow bank
page from the active bank, dictionary storage from its other copy. Other origins wait for the loader (R695, R705, R707). -/
def State.fromOrigin (s : State) (page : Nat) : State :=
  match bankOf page with
  | some (e, _) => (((s.loseClaims e page).levelPage e ((page - s.bankPage e false 0) / 4096))).reloaded page
  | none =>
    if isDictStore page && (s.badIn (dictMirror page) 4096).isNone then
      ((s.storeBytes page (memBytes s.mem (dictMirror page) 4096)).reloaded page)
    else s

/-- What happens to a queued page, in the order of R702. A page of an active bank waits for its repair swap (R706). -/
def State.handlePage (s : State) (page : Nat) : State :=
  match s.isActiveBank page with
  | some e => s.modEngine e (fun x => { x with repairSwap := true })
  | none =>
    if s.isStatic page then
      match (if s.isStale page then none else s.recoverAt page) with
      | some t => t.rangeCount page O.rangePagesRecovered
      | none => (s.markPoison page).fromOrigin page
    else ((s.markPoison page).zeroPage page).rangeCount page O.rangePagesReloadedOrZeroed

/-! ### Scrubber (R715 to R721) -/

/-- A correctable word is rewritten: its entry in the correction log is removed and it counts (R716, R728). -/
def State.rewriteWord (s : State) (a : Nat) : State :=
  ({ s with soft := setDel s.soft a, integ := { s.integ with corrLog := s.integ.corrLog.filter (fun x => x != a) } } : State).count
    O.correctedWords 64 1

/-- A soft-repair candidate is added, at most 1,024 (R721). -/
def State.addCandidate (s : State) (line : Nat) : State :=
  if s.integ.candidates.contains line || decide (1024 ≤ s.integ.candidates.length) then s
  else ({ s with integ := { s.integ with candidates := setAdd s.integ.candidates line } } : State).setObj O.softRepairCandidates
    (s.integ.candidates.length + 1)

/-- The passes of the words of a line: a word found correctable counts one more consecutive pass, every other word none. A
line becomes a candidate at three words in one pass or one word on three passes (R721). -/
def State.noteHits (s : State) (line : Nat) (soft : List Nat) : State :=
  let old := s.integ.softHits
  let rest := old.filter (fun p => !inRange line 64 p.1)
  let now := soft.map (fun a => (a, aGet 0 old a + 1))
  let s1 : State := { s with integ := { s.integ with softHits := now.foldl (fun l p => aPut 0 l p.1 p.2) rest } }
  if 3 ≤ soft.length ∨ now.any (fun p => decide (3 ≤ p.2)) then s1.addCandidate line else s1

/-- A line read by the range pass counts in its summary, and the pass goes on to the next line (R718). -/
def State.passLine (s : State) (line : Nat) (soft bad : List Nat) : State :=
  match s.integ.rangePass with
  | some (next, stop) =>
    if next = line then
      let s1 : State := { s with integ := { s.integ with rangePass := some (next + 64, stop) } }
      ((s1.count O.rangeWordsRead 64 (64 / codeWordBytes line)).count O.rangeCorrected 64 soft.length).count O.rangeUncorrectable 64 bad.length
    else s
  | none => s

/-- The object that holds the duration of a lap which ends with a line: a lap of a memory ends with its last line (R717, R728). -/
def State.lapOf (s : State) (line : Nat) : Option Nat :=
  let stop := line + 64
  if stop = orbitBase + 0x6000000 then some O.orbitLap
  else if stop = 0x10400000 then some O.hullLap
  else if stop = 0x20800000 then some O.keepLap
  else if s.lpddrBytes ≠ 0 ∧ stop = 0x1000000000 + s.lpddrBytes then some O.lpddrLap
  else if engines.any (fun e => [0x200000, 0x400000, 0x480000, 0x580000, 0x680000].contains (stop - winBase e)) then some O.engineLap
  else none

/-- The object of a lap that ends takes its duration, a free value: durations are not modelled (R717). -/
def State.endLap (s : State) (o : Option Nat) : State :=
  match o with
  | none => s
  | some o => s.free.2.setObj o s.free.1.toNat

/-- The pass goes over a line of the active coefficient bank, which is not scrubbed, without reading it (R715, R718). -/
def State.passOver (s : State) (line : Nat) : State :=
  match s.integ.rangePass with
  | some (next, stop) => if next = line then { s with integ := { s.integ with rangePass := some (next + 64, stop) } } else s
  | none => s

/-- The entries of the correction log on a line leave it with the scrubber's pass over them, a word written meanwhile among them (R699, R716). -/
def State.clearLog (s : State) (line : Nat) : State :=
  { s with integ := { s.integ with corrLog := s.integ.corrLog.filter (fun x => !inRange line 64 x) } }

/-- The scrubber reads the 64-byte line that holds an address: correctable words are rewritten, pages with uncorrectable words
queued. The active coefficient bank is not scrubbed (R715). -/
def execScrubLine (a : BitVec 40) (s : State) : Out :=
  let line := a.toNat / 64 * 64
  if (s.isActiveBank (line / 4096 * 4096)).isSome then .next (s.passOver line)
  else
    let soft := s.soft.filter (inRange line 64)
    let bad := s.bad.filter (inRange line 64)
    .next (((bad.foldl (fun s w => s.noteBad 8 w) (soft.foldl State.rewriteWord (s.clearLog line))).noteHits line soft).passLine line soft bad |>.endLap (s.lapOf line))

/-- Whether TickCount holds for a change of the tick rate (R83). -/
def State.tickHeld (s : State) : Bool :=
  match s.rateSeq with
  | some (_, stopped) => stopped
  | none => false

/-- A window of 4,096 ticks ends: a whole one with no uncorrectable word in it clears the storm cause (R719). Held while TickCount holds. -/
def execStormWindowEnd (s : State) : Out :=
  if s.tickHeld then .next s
  else
    let s1 : State := { s with integ := { s.integ with storm := 0, cut := false } }
    .next (if s.integ.storm = 0 && !s.integ.cut && (s.obj O.safeMuteCause).testBit 3 then (s1.clearCause 3).event 0x0507 0 else s1)

/-- Bytes of the address map from an address to the end of its region, or 0 outside the map (R44, R45). -/
def State.mapRoom (s : State) (a : Nat) : Nat :=
  let fixed : List (Nat × Nat) := [(0, 0x40000), (0x10000000, 0x400000), (0x20000000, 0x800000), (0x30000000, 0x4000000),
    (0x40000000, 0x10000000), (orbitBase, 0x6000000), (0x300000000, 0x200000), (0x1000000000, s.lpddrBytes)]
  let win : List (Nat × Nat) := [(0, 0x400000), (0x400000, 0x80000), (0x500000, 0x80000), (0x600000, 0x80000)]
  let all := fixed ++ (List.range 8).flatMap (fun e => win.map (fun w => (winBase e + w.1, w.2)))
  match all.find? (fun r => inRange r.1 r.2 a) with
  | some r => r.1 + r.2 - a
  | none => 0

/-- Whether a range of the address map meets the active coefficient bank of an engine. -/
def State.meetsActive (s : State) (a n : Nat) : Bool := engines.any (fun e => overlap a n (bankBase e (s.engine e).bankB) bankBytes)

/-- A write of RangeStart: refused with BUSY during a pass, and with "out of range" where the range leaves the map or meets the
active bank; otherwise the pass starts (R718). -/
def State.writeRangeStart (s : State) (k : SessKey) (kport : Nat) (words : List (BitVec 32)) : State :=
  let base := s.obj O.rangeBase
  let len := s.obj O.rangeLength
  let ok := (len = 0 || decide (len ≤ s.mapRoom base)) && !s.meetsActive base len
  s.writeReq k kport O.rangeStart words { range := ok, res := s.integ.rangePass.isNone } (fun s =>
    (({ s with integ := { s.integ with rangePass := some (base, base + len) } } : State).setObj O.rangeState 1).setObjs
      [(O.rangeWordsRead, 0), (O.rangeCorrected, 0), (O.rangeUncorrectable, 0), (O.rangePagesRecovered, 0), (O.rangePagesReloadedOrZeroed, 0)])

def execRangeStart (src : Src) (words : List (BitVec 32)) (s : State) : Out := .next (s.writeRangeStart src.key src.link.val words)

/-- The range pass ends once its last line has been read (R718). -/
def execRangePassComplete (s : State) : Out :=
  .next (match s.integ.rangePass with
    | some (next, stop) =>
      if stop ≤ next then
        (({ s with integ := { s.integ with rangePass := none } } : State).setObj O.rangeState 2).event 0x0509 (s.obj O.rangeUncorrectable % 2 ^ 32)
      else s
    | none => s)

/-! ### Tests (R722, R723) -/

/-- The page with which a lap of the background test ends: the last page of on-chip memory (R722, R728). -/
def lastTestPage : Nat := 0x3001FF000

/-- The background test of one page: its content stands as before; a failing cell raises event 0x0508 and makes a candidate.
Active banks, stale, queued and marked pages are skipped (R722). `fail` is the byte of the page and the bit position. -/
def execBackgroundTestPage (page : BitVec 28) (fail : Option (BitVec 12 × BitVec 8)) (s : State) : Out :=
  let p := page.toNat * 4096
  let skip := (s.isActiveBank p).isSome || s.isStale p || s.integ.queue.contains p || s.integ.poison.contains p
  .next (if s.obj O.testEnable = 0 || skip then s
    else (match fail with
      | none => s
      | some (b, bit) => (((s.count O.testFailures 32 1).event 0x0508 (p + b.toNat + bit.toNat * 2 ^ 40)).addCandidate ((p + b.toNat) / 64 * 64)
          )).endLap (if p = lastTestPage then some O.testLap else none))

/-- A write of FullTest, in Service mode only: every on-chip array is tested without saving and filled (R723, R726). -/
def State.writeFullTest (s : State) (k : SessKey) (kport : Nat) (words : List (BitVec 32)) : State :=
  s.writeReq k kport O.fullTest words { mode := s.mode = 7 } State.fill

def execFullTest (src : Src) (words : List (BitVec 32)) (s : State) : Out := .next (s.writeFullTest src.key src.link.val words)

/-! ### Power banks (R724, R725) -/

/-- The object of a power bank. -/
def powerObj (b : PowerBank) : Nat :=
  match b with
  | .orbit p => O.orbitPowerBank p.val
  | .engine e => O.enginePowerBank e.val
  | .hull p => O.hullPowerBank p.val

/-- The ranges of bytes of a power bank. -/
def powerRange (b : PowerBank) : Nat × Nat :=
  match b with
  | .orbit p => (orbitBase + p.val * 0x400000, 0x400000)
  | .engine e => (winBase e.val, 0x800000)
  | .hull p => (0x10000000 + p.val * 0x100000, 0x100000)

/-- Every power bank. -/
def powerBanks : List PowerBank :=
  (List.finRange 24).map PowerBank.orbit ++ (List.finRange 8).map PowerBank.engine ++ (List.finRange 4).map PowerBank.hull

/-- Ranges of Orbit memory that hold placed regions, staging or the I/O area. -/
def State.orbitHeld (s : State) : List (Nat × Nat) :=
  let lines := engines.flatMap (fun e => ((s.engine e).desc.filter (fun p => p.2.valid && !p.2.aliased)).map (fun p =>
    if p.2.loc = 0 then (p.2.base, lineBytes p.2.fmt.toNat p.2.maxLen) else p.2.stageRegion))
  let staged := engines.flatMap (fun e => ((s.engine e).desc.filter (fun p => p.2.valid && p.2.loc = 1)).flatMap (fun p =>
    (p.2.stage.map (·.2) ++ p.2.behind.map (·.2.1)).map (fun k => (lineAddr k, 64))))
  let priv := engines.map (fun e => (orbitBase + lane s.io.privBase e, lane s.io.privSize e))
  lines ++ staged ++ priv ++ [(s.io.exBase0, s.io.exSize), (s.io.exBase1, s.io.exSize), (orbitBase + 0x5F00000, 0x100000)]

/-- Whether a power bank is held on (R724). -/
def State.powerHeld (s : State) (b : PowerBank) : Bool :=
  match b with
  | .orbit p => s.orbitHeld.any (fun r => r.2 != 0 && overlap (orbitBase + p.val * 0x400000) 0x400000 r.1 r.2)
  | .engine e => (s.engine e).running || (s.engine e).progLen != 0
  | .hull p => p.val != 2 || s.lpddrBytes = 0

/-- A write of a power-bank object: refused with "not in this mode" for a bank held on; in force at the next boundary (R724). -/
def State.writePowerBank (s : State) (k : SessKey) (kport : Nat) (b : PowerBank) (words : List (BitVec 32)) : State :=
  s.writeReq k kport (powerObj b) words { mode := !s.powerHeld b } (fun s => { s with pendObjs := s.pendObjs ++ [(powerObj b, wordsNat words)] })

def execPowerBankWrite (src : Src) (b : PowerBank) (words : List (BitVec 32)) (s : State) : Out :=
  .next (s.writePowerBank src.key src.link.val b words)

/-- Banks woken from off are cleared before their first access (R725). `was` is the state before the boundary's objects. -/
def State.wakeBanks (s was : State) : State :=
  powerBanks.foldl (fun s b =>
    if was.obj (powerObj b) = 2 && s.obj (powerObj b) != 2 then s.clearRanges [powerRange b] else s) s

/-- Whether the power bank of an address is on: an access to a bank in retention or off ends in a bus error (R724). -/
def State.powered (s : State) (a : Nat) : Bool :=
  powerBanks.all (fun b => !inRange (powerRange b).1 (powerRange b).2 a || s.obj (powerObj b) = 0)

end Sys2Proof.Machine
end

