-- ==== Sys2Proof/Machine/SapOps.lean ====
section
/-! DEFINITION. The serial audio ports: formats, framing delays, converters, capture and transmission, start and shutdown (R497 to R530). -/
namespace Sys2Proof.Machine
open Sys2Proof

/-! ### Formats and rates -/

/-- MEDIA in Hz for a tick rate (R51). -/
def mediaHz (rate : Nat) : Nat := if rate % 11025 = 0 then 45158400 else 49152000

/-- The tick rate by which converters and framing are measured: once boundaries have stopped for a new rate, that one (R83). -/
def State.rateFor (s : State) : Nat :=
  match s.rateSeq with
  | some (r, true) => r
  | _ => s.obj O.tickRate

/-- MEDIA cycles per tick (R51). -/
def State.mediaPerTick (s : State) : Nat := mediaHz s.rateFor / s.rateFor

/-- Bits of SapFormat (R502). -/
def sapLanes (f : Nat) : Nat := f / 2 ^ 24 % 8
def sapMode (f : Nat) : Nat := f / 2 ^ 22 % 4
def sapSlots (f : Nat) : Nat := f / 2 ^ 20 % 4
def sapWidth (f : Nat) : Nat := if f / 2 ^ 18 % 4 = 0 then 16 else if f / 2 ^ 18 % 4 = 1 then 24 else 32
def sapMaster (f : Nat) : Bool := f.testBit 17

/-- Whether SapFormat has no reserved value (R530). -/
def sapFormatOk (f : Nat) : Bool := sapMode f != 3 && f / 2 ^ 18 % 4 != 3 && !(sapSlots f = 0 && sapMaster f)

/-- Format of port `p`. -/
def State.sapFmt (s : State) (p : Fin 4) : Nat := s.obj (O.sapFormat p.val)

/-- Slots per lane of port `p`; 0 while they are being detected (R497, R505). -/
def State.sapS (s : State) (p : Fin 4) : Nat :=
  let f := s.sapFmt p
  if sapMode f != 2 then 2
  else if sapSlots f = 0 then s.obj (O.detectedSlots p.val) else if sapSlots f = 1 then 8 else if sapSlots f = 2 then 16 else 32

/-- Port channels in use (R498). -/
def State.sapChannels (s : State) (p : Fin 4) : Nat := min 256 (s.sapS p * (sapLanes (s.sapFmt p) + 1))

/-- BCLK cycles of a frame (R503, R504). -/
def State.sapFrameLen (s : State) (p : Fin 4) : Nat := s.sapS p * sapWidth (s.sapFmt p)

/-- Frame rate of the partner in mHz: PartnerRate for a master, measured for a slave (R499). -/
def State.partnerMilli (s : State) (p : Fin 4) : Nat :=
  if sapMaster (s.sapFmt p) then 1000 * s.obj (O.partnerRate p.val) else s.obj (O.measuredPartnerRate p.val)

/-- Whether a partner rate in mHz is within the ratios of R512. -/
def State.ratioOk (s : State) (r : Nat) : Bool := decide (1000 * s.rateFor ≤ 8 * r) && decide (r ≤ 8000 * s.rateFor)

/-- Whether the bit clock at a partner rate in mHz is at most 50 MHz (R499). -/
def State.bclkOk (s : State) (p : Fin 4) (r : Nat) : Bool := decide (s.sapFrameLen p * r ≤ 50000000000)

/-- Whether the converters of port `p` may be bypassed: a slave only while the tick follows its frame sync, not after a fail-over (R506, R527). -/
def State.bypassOk (s : State) (p : Fin 4) : Bool :=
  if sapMaster (s.sapFmt p) then s.obj (O.partnerRate p.val) = s.rateFor else s.clk.source = 1 + p.val

/-- Whether port `p` is set to bypass its converters. -/
def State.bypass (s : State) (p : Fin 4) : Bool := s.obj (O.converterMode p.val) = 1

/-- InputFramingDelay and OutputFramingDelay of a bypassed port (R509, R861). -/
def framing (n q : Nat) : Nat × Nat :=
  (if q < 8 then q + n else q, if n - q < 8 then 2 * n - q else n - q)

/-- A converter's reported group delay for a partner at `r` mHz (R514). -/
def State.groupDelay (s : State) (r : Nat) : Nat :=
  let fs := 1000 * s.rateFor
  let low := min fs r
  if low = 0 then 0 else (roundHalfEven ((32 * fs * 65536 + low * 65536 : Nat) : Int) low).toNat

/-- The reported ratio fs_p / fs in units of 2^-28 (log entry 20). -/
def State.convRatio (s : State) (r : Nat) : Nat :=
  let fs := 1000 * s.rateFor
  if fs = 0 then 0 else (roundHalfEven ((r * 2 ^ 28 : Nat) : Int) fs).toNat

/-! ### State of a port -/

def State.sapOf (s : State) (p : Fin 4) : Sap := lane s.sap p
def State.modSap (s : State) (p : Fin 4) (f : Sap → Sap) : State := { s with sap := put s.sap p (f (lane s.sap p)) }

/-- PortState (R520). -/
def State.portState (s : State) (p : Fin 4) : Nat := s.obj (O.portState p.val)

/-- An event of port `p`: kind, PortState, count (R528). -/
def State.sapEvent (s : State) (p : Fin 4) (kind count : Nat) : State :=
  s.event (0x0700 + p.val) (kind + s.portState p * 256 + count % 2 ^ 32 * 65536)

/-- PortState changed. -/
def State.setPort (s : State) (p : Fin 4) (v : Nat) : State := s.setObj (O.portState p.val) v

/-- State of the inbound (`true`) or outbound converter (R515). -/
def convObj (p : Fin 4) (inb : Bool) : Nat := if inb then O.inConvState p.val else O.outConvState p.val
def State.conv (s : State) (p : Fin 4) (inb : Bool) : Nat := s.obj (convObj p inb)

def Sap.dir (x : Sap) (inb : Bool) : SapDir := if inb then x.inb else x.out
def Sap.setDir (x : Sap) (inb : Bool) (d : SapDir) : Sap := if inb then { x with inb := d } else { x with out := d }

/-- A direction leaves Locked or Bypassed for Acquiring: each channel fades from its last sample (R517). -/
def SapDir.fade (d : SapDir) : SapDir := { d with phase := .fade 64 0, x := d.last }

/-- InputFramingDelay or OutputFramingDelay. -/
def framingObj (p : Fin 4) (inb : Bool) : Nat := if inb then O.inputFramingDelay p.val else O.outputFramingDelay p.val

/-- A direction enters state `v` (R515 to R517): a ramp into Locked, a fade out of Locked or Bypassed. Its framing delay is 0 unless it is
Bypassed (R510). -/
def State.setConv (s : State) (p : Fin 4) (inb : Bool) (v : Nat) : State :=
  let old := s.conv p inb
  let s1 := (s.setObj (convObj p inb) v).setObj (framingObj p inb) (if v = 3 then s.obj (framingObj p inb) else 0)
  if v = 2 then s1.modSap p (fun x => x.setDir inb { x.dir inb with phase := .ramp 1 })
  else if v = 3 then s1.modSap p (fun x => x.setDir inb { x.dir inb with phase := .pass })
  else if v = 1 && (old = 2 || old = 3) then s1.modSap p (fun x => x.setDir inb (x.dir inb).fade)
  else if v = 0 then s1.modSap p (fun x => x.setDir inb SapDir.reset)
  else s1

/-- Whether a direction is ready: Locked or Bypassed (R521). -/
def State.dirReady (s : State) (p : Fin 4) (inb : Bool) : Bool := s.conv p inb = 2 || s.conv p inb = 3

/-- The port becomes On once every direction is ready (R521). -/
def State.sapReady (s : State) (p : Fin 4) : State :=
  if (s.portState p = 1 || s.portState p = 5) && s.dirReady p true && s.dirReady p false then (s.setPort p 2).sapEvent p 1 0 else s

/-- The tick source that is the frame sync of port `p` has locked with a phase: that is q of the slave, and the framing delays of its bypassed
directions follow (R57, R509). -/
def State.fixPhase (s : State) (p : Fin 4) (q : Nat) : State :=
  let f := framing s.mediaPerTick q
  let s1 := s.modSap p (fun x => { x with q := q })
  let go := fun (s : State) (inb : Bool) => if s.conv p inb = 3 then s.setObj (framingObj p inb) (if inb then f.1 else f.2) else s
  if sapMaster (s.sapFmt p) then s else go (go s1 true) false

/-- A direction becomes Bypassed: its framing delays are those of R509, its group delay is none. -/
def State.setBypassed (s : State) (p : Fin 4) : State :=
  let q := if sapMaster (s.sapFmt p) then 16 else (s.sapOf p).q
  let f := framing s.mediaPerTick q
  (((s.setConv p true 3).setConv p false 3).setObjs
    [(O.inputFramingDelay p.val, f.1), (O.outputFramingDelay p.val, f.2), (O.inConvGroupDelay p.val, 0), (O.outConvGroupDelay p.val, 0)]).sapReady p

/-- The port starts (R521): a master that may be bypassed, and is set so, is synchronous at once (R506); every other direction acquires. -/
def State.sapStart (s : State) (p : Fin 4) : State :=
  let s1 := (((s.setPort p 1).setConv p true 1).setConv p false 1).modSap p (fun x => { x.anew with q := x.q })
  let s2 := s1.setObj (O.detectedSlots p.val) 0
  if sapMaster (s.sapFmt p) && s.bypass p && s.bypassOk p then s2.setBypassed p else s2

/-- Whether the conditions of a start hold: bit clock, its divisor and the ratio of a master (R499, R512). -/
def State.sapStartRange (s : State) (p : Fin 4) : Bool :=
  let r := s.obj (O.partnerRate p.val)
  let b := s.sapFrameLen p * r
  !sapMaster (s.sapFmt p) || (s.bclkOk p (1000 * r) && b != 0 && mediaHz s.rateFor % b == 0 && s.ratioOk (1000 * r))

/-- A port is enabled: from Off it starts; one that is shutting down starts again after its shutdown (R521). -/
def State.enablePort (s : State) (p : Fin 4) : State :=
  let s1 := s.setObj (O.portEnable p.val) 1
  if s.portState p = 0 then s1.sapStart p else if s.portState p = 3 then s1.setPort p 4 else s1

/-- A port is disabled: its output fades before it is off. -/
def State.disablePort (s : State) (p : Fin 4) : State :=
  let s1 := s.setObj (O.portEnable p.val) 0
  let st := s.portState p
  if st = 0 then s1
  else if st = 3 || st = 4 then s1.setPort p 3
  else (s1.setPort p 3).modSap p (fun x => { x with shut := 0, zeroSent := false, out := x.out.fade })

/-- A write of PortEnable (R521 to R523). -/
def State.writePortEnable (s : State) (k : SessKey) (kport : Nat) (p : Fin 4) (words : List (BitVec 32)) : State :=
  let on := wordsNat words = 1
  let st := s.portState p
  let starts := on && (st = 0 || st = 3)
  s.writeReq k kport (O.portEnable p.val) words
    { mode := !starts || !s.bypass p || s.bypassOk p, range := !starts || s.sapStartRange p }
    (fun s => if on then s.enablePort p else s.disablePort p)

/-- A clock loss: the port is Lost, its converters act under R517, slots are detected again (R505, R526). A port that shuts down goes on
with its shutdown. -/
def State.sapLoss (s : State) (p : Fin 4) : State :=
  if s.portState p = 0 then s
  else
    let s1 := if s.portState p = 3 || s.portState p = 4 then s else ((s.setConv p true 1).setConv p false 1).setPort p 5
    let s2 := ((s1.count (O.clockLosses p.val) 32 1).modSap p (fun x => { x with good := 0, counts := [] })).setObj (O.detectedSlots p.val) 0
    s2.sapEvent p 3 (s2.obj (O.clockLosses p.val))

/-! ### Frames (R500, R504, R505, R525) -/

/-- Sampling edges from the frame start to the first bit of slot 0: I²S is one BCLK late, left-justified is not, TDM has DATA_DELAY (R503, R504). -/
def sapDelay (f : Nat) : Nat := if sapMode f = 0 then 1 else if sapMode f = 1 then 0 else f / 2 ^ 13 % 2

/-- The place of slot `k` in the frame: FS_INV swaps the two slots of I²S and left-justified (R502). -/
def sapPlace (f k : Nat) : Nat := if sapMode f != 2 && f.testBit 15 then 1 - k else k

/-- Slot `k` of a lane whose bits at sampling edges 0, 1, … of the frame are `bits`, MSB first, in the top bits of a word (R500, R504). -/
def sapSlot (f k : Nat) (bits : List Bool) : Word :=
  let w := sapWidth f
  BitVec.ofNat 32 ((List.range w).foldl (fun n b => 2 * n + (bits.getD (sapDelay f + w * sapPlace f k + b) false).toNat) 0 * 2 ^ (32 - w))

/-- The port channels of a received frame, one list of sampled bits for each lane: channel S × l + k is slot k of lane l (R497). -/
def State.sapWords (s : State) (p : Fin 4) (lanes : List (List Bool)) : List Word :=
  let n := s.sapS p
  (List.range (s.sapChannels p)).map (fun c => sapSlot (s.sapFmt p) (c % n) (lanes.getD (c / n) []))

/-- Bit `e` of lane `l` of an output frame with `lanes` + 1 lanes, from the MSB of slot 0 on. -/
def sapBit (f : Nat) (sent : List Word) (l e : Nat) : Bool :=
  let w := sapWidth f
  (sent.getD (sent.length / (sapLanes f + 1) * l + sapPlace f (e / w)) 0).getLsbD (31 - e % w)

/-- The data output of lane `l` at sampling edge `e` of the frame on the pins, launched half a BCLK before; none is high impedance. Edge 0
of a frame whose data starts one BCLK later carries the last bit of the frame before. A lane not in use, and every lane of an Off port,
follows TRISTATE_UNUSED (R502 to R504, R515). -/
def State.sapPin (s : State) (p : Fin 4) (l e : Nat) : Option Bool :=
  let f := s.sapFmt p
  let x := s.sapOf p
  if s.portState p = 0 || sapLanes f < l then (if f.testBit 12 then none else some false)
  else if sapDelay f ≤ e then some (sapBit f x.sent l (e - sapDelay f))
  else some (sapBit f x.sentWas l (x.sentWas.length / (sapLanes f + 1) * sapWidth f - 1))

/-- BCLK as a master drives it in half period `h` of its frame, from sampling edge 0 on: data is sampled as it rises and launched as it
falls, with BCLK_INV the reverse (R502, R504). -/
def sapBclk (f h : Nat) : Bool := xor (h % 2 == 0) (f.testBit 16)

/-- FSYNC as a master drives it at sampling edge `e` of its frame: 50 % duty, low first in I²S, high first in left-justified; in TDM a pulse
of one BCLK or of one slot, inverted by FS_INV (R502 to R504). -/
def sapFsync (f e : Nat) : Bool :=
  if sapMode f = 0 then decide (sapWidth f ≤ e)
  else if sapMode f = 1 then decide (e < sapWidth f)
  else xor (decide (e < (if f.testBit 14 then sapWidth f else 1))) (f.testBit 15)

/-- MCLK with divider `d` and delay `k`, `m` MEDIA cycles after a tick edge: high for ceil(d/2) cycles from k mod d, then every d (R518).
With `d` = 1 it is MEDIA. -/
def mclkHigh (d k m : Nat) : Bool := decide ((m + d - k % d) % d < (d + 1) / 2)

/-- MCLK of port `p`, `m` MEDIA cycles after a tick edge. From an edge at which its objects take effect, the period of before completes, and
the first of the new ones starts with a full high phase; after a stop it is low (R518, R519). -/
def State.mclkPin (s : State) (p : Fin 4) (m : Nat) : Bool :=
  let x := s.sapOf p
  let start := if x.mclkOn then x.mclkDel % x.mclkDiv else x.mclkWas.2.2 % x.mclkWas.2.1
  if m < start then x.mclkWas.1 && mclkHigh x.mclkWas.2.1 x.mclkWas.2.2 m else x.mclkOn && mclkHigh x.mclkDiv x.mclkDel m

/-- The exact rounded slot value of a sample (R501). -/
def slotRound (w : Nat) (x : Word) : Int := roundHalfEven x.toInt (2 ^ (32 - w))

/-- The slot word a sample is sent as, in its top bits (R501). -/
def slotOut (w : Nat) (x : Word) : Word := if w = 32 then x else BitVec.ofInt 32 (satInt w (slotRound w x) * 2 ^ (32 - w))

/-- Whether a sample saturates in a slot (R501). -/
def slotSaturates (w : Nat) (x : Word) : Bool := w != 32 && decide (slotRound w x > 2 ^ (w - 1) - 1)

/-- One sample of a direction in its fade or ramp. -/
def SapDir.sample (d : SapDir) (i : Nat) (c : Word) : Word :=
  match d.phase with
  | .pass => c
  | .ramp j => rampSample j c
  | .fade len k => fadeSample len k (d.x.getD i 0)

/-- The direction after one sample time in which it delivered `l`. -/
def SapDir.next (d : SapDir) (l : List Word) : SapDir :=
  match d.phase with
  | .pass => { d with last := l }
  | .ramp j => { d with last := l, phase := if j < 64 then .ramp (j + 1) else .pass }
  | .fade len k => { d with last := l, phase := .fade len (if k < len then k + 1 else k) }

/-- `n` free words: samples of a locked converter, whose filter the spec does not give (log entry 2). -/
def State.freeWords : Nat → State → List Word × State
  | 0, s => ([], s)
  | n + 1, s =>
    let r := s.free
    let t := State.freeWords n r.2
    (r.1 :: t.1, t.2)

/-- The samples of a direction before its fade or ramp, by its converter state (R515). `direct` is what a bypassed one delivers. A fade goes on
in every channel it has begun in, also while slots are being detected (R517, R526). -/
def State.convSamples (s : State) (p : Fin 4) (inb : Bool) (direct : List Word) : List Word × State :=
  let n := s.sapChannels p
  if s.conv p inb = 2 then State.freeWords n s
  else if s.conv p inb = 3 then ((List.range n).map (fun i => direct.getD i 0), s)
  else (List.replicate (max n ((s.sapOf p).dir inb).x.length) 0, s)

/-- One sample time of a direction: what it delivers, with its fade or ramp. -/
def State.dirTick (s : State) (p : Fin 4) (inb : Bool) (direct : List Word) : List Word × State :=
  let r := s.convSamples p inb direct
  let d := (r.2.sapOf p).dir inb
  let l := (r.1.zipIdx).map (fun w => d.sample w.2 w.1)
  (l, r.2.modSap p (fun x => x.setDir inb (d.next l)))

/-- The published word of channel `c` as a port reads it; an uncorrectable word reads zero and counts (R700). -/
def State.portRead (s : State) (c : Nat) : Word × State :=
  match s.badIn (outHalfBase (!s.io.outHalf) + 4 * c) 4 with
  | some a => (0, (s.noteBad 3 a).count O.ioPoisonReads 32 1)
  | none => (s.published c, s.noteSofts (outHalfBase (!s.io.outHalf) + 4 * c) 4)

/-- The published words of `n` channels from `c`. -/
def State.portReads (c : Nat) : Nat → State → List Word × State
  | 0, s => ([], s)
  | n + 1, s =>
    let r := s.portRead c
    let t := State.portReads (c + 1) n r.2
    (r.1 :: t.1, t.2)

/-- Whether the frame that starts now is less than 8 MEDIA cycles after a tick edge, so that it carries the samples published one boundary
earlier (R508, R509). -/
def State.sapLateOut (s : State) (p : Fin 4) : Bool :=
  s.conv p false = 3 && !sapMaster (s.sapFmt p) && decide (s.mediaPerTick - (s.sapOf p).q < 8)

/-- Whether a frame completes less than 8 MEDIA cycles before a tick edge, so that the next edge latches it (R508, R861). -/
def State.sapLateIn (s : State) (p : Fin 4) : Bool :=
  s.conv p true = 3 && !sapMaster (s.sapFmt p) && decide ((s.sapOf p).q < 8)

/-- The samples published until the boundary at hand, kept for a frame that starts too soon after it (R508). -/
def State.sapKeep (s : State) (p : Fin 4) : State :=
  if s.sapLateOut p then
    let r := State.portReads (256 * p.val) (s.sapChannels p) s
    r.2.modSap p (fun x => { x with old := r.1 })
  else s

/-- One output frame of port `p` leaves: converted or published samples in slots of the width, or zeros after a shutdown fade. -/
def State.sapSend (s : State) (p : Fin 4) : State :=
  if s.portState p = 3 || s.portState p = 4 then
    let d := (s.sapOf p).out
    let l := (List.range (max (s.sapChannels p) d.x.length)).map (fun i => slotOut (sapWidth (s.sapFmt p)) (d.sample i 0))
    s.modSap p (fun x => { x.send l with zeroSent := x.zeroSent || decide (64 ≤ x.shut) })
  else
    let r := if s.sapLateOut p then ((s.sapOf p).old, s) else State.portReads (256 * p.val) (s.sapChannels p) s
    let t := r.2.dirTick p false r.1
    let w := sapWidth (s.sapFmt p)
    let n := (t.1.filter (slotSaturates w)).length
    (t.2.modSap p (fun x => x.send (t.1.map (slotOut w)))).count (O.outputSaturations p.val) 32 n

/-- A discarded frame: counted, reported; two in a row are a clock loss. The output repeats its last frame for the first of them only
(R525). -/
def State.badFrame (s : State) (p : Fin 4) : State :=
  let s1 := s.count (O.frameErrors p.val) 32 1
  let n := (s.sapOf p).bad
  let s2 := (s1.sapEvent p 4 (s1.obj (O.frameErrors p.val))).modSap p (fun x => { x with good := 0, bad := if n = 2 then 3 else min 2 (n + 1) })
  if n = 0 then s2.modSap p (fun x => x.send x.sent) else (if n = 2 then s2 else s2.sapLoss p).sapSend p

/-- Slot detection over four frames (R505). -/
def State.detect (s : State) (p : Fin 4) (bclk : Nat) : State :=
  let l := (s.sapOf p).counts ++ [bclk]
  if l.length < 4 then s.modSap p (fun x => { x with counts := l })
  else
    let w := sapWidth (s.sapFmt p)
    let n := bclk / w
    let s1 := s.modSap p (fun x => { x with counts := [] })
    if l.all (fun c => c = bclk) && bclk % w = 0 && (n = 8 || n = 16 || n = 32) then (s1.setObj (O.detectedSlots p.val) n).sapEvent p 9 n
    else
      let s2 := s1.count (O.frameErrors p.val) 32 1
      s2.sapEvent p 4 (s2.obj (O.frameErrors p.val))

/-- Whether the fade of a direction, if it has one, is complete (R517). -/
def SapDir.faded (d : SapDir) : Bool :=
  match d.phase with
  | .fade len k => decide (len ≤ k)
  | _ => true

/-- The words of a good frame are captured. -/
def State.capture (s : State) (p : Fin 4) (lanes : List (List Bool)) : State :=
  s.modSap p (fun x => { x with cap := s.sapWords p lanes })

/-- A good frame: its words are captured; the fourth after a loss, counted once the fades are complete, brings the directions back to
Acquiring or Bypassed, and a bypassed slave direction is Bypassed after four, its phase fixed then (R509, R517, R521, R526). -/
def State.goodFrame (s : State) (p : Fin 4) (q : Nat) (lanes : List (List Bool)) : State :=
  let s1 := (s.capture p lanes).modSap p (fun x =>
    { x with good := if x.inb.faded && x.out.faded then min 4 (x.good + 1) else 0, bad := 0, q := if s.conv p true = 3 then x.q else q })
  if (s1.sapOf p).good < 4 then s1
  else
    let s2 := if s1.portState p = 5 then s1.setPort p 1 else s1
    if s2.bypass p && s2.bypassOk p && s2.conv p true = 1 then s2.setBypassed p else s2

/-- Whether the measured rate of a partner that a slave acquires from is one it takes (R499, R512). -/
def State.slaveRateOk (s : State) (p : Fin 4) (rate : Nat) : Bool :=
  sapMaster (s.sapFmt p) || !(s.conv p true = 1 || s.conv p false = 1) || (s.ratioOk rate && s.bclkOk p rate)

/-- A received frame: BCLK count, MEDIA cycles from its start to the next tick edge, measured rate in mHz, the bits of each lane at the
sampling edges (R504, R505, R525). As it ends, the next output frame leaves; after a discarded frame the last one leaves again. -/
def State.sapFrame (s : State) (p : Fin 4) (bclk q rate : Nat) (lanes : List (List Bool)) : State :=
  let st := s.portState p
  if st = 0 then s
  else if st = 3 || st = 4 then
    (if bclk = s.sapFrameLen p then ((s.capture p lanes).modSap p (fun x => { x with bad := 0 })).sapSend p else s.badFrame p)
  else
    let s1 := if sapMaster (s.sapFmt p) then s else s.setObj (O.measuredPartnerRate p.val) rate
    if s1.sapS p = 0 then (s1.detect p bclk).sapSend p
    else if bclk != s1.sapFrameLen p then s1.badFrame p
    else if !s1.slaveRateOk p rate then (s1.sapLoss p).sapSend p
    else (s1.goodFrame p q lanes).sapSend p

/-! ### The tick (R508, R522) -/

/-- What a tick edge does to port `p` in every power state in which MEDIA runs: the fade of a shutdown goes on, and the MCLK objects take
effect (R519, R522). -/
def State.sapEdge (s : State) (p : Fin 4) : State :=
  let y := if s.portState p = 3 || s.portState p = 4 then
      s.modSap p (fun z => { z with shut := min 64 (z.shut + 1), out := z.out.next z.out.last }) else s
  y.modSap p (fun z => { z with
    capOld := z.cap, mclkWas := (z.mclkOn, z.mclkDiv, z.mclkDel)
    mclkOn := y.obj (O.mclkEnable p.val) = 1, mclkDiv := y.obj (O.mclkDivider p.val), mclkDel := y.obj (O.mclkDelay p.val) })

/-- At the latch, the input channels of port `p` for the tick are written into the capture half (R498, R508). -/
def State.sapLatch (s : State) (p : Fin 4) : State :=
  let r := s.dirTick p true (if s.sapLateIn p then (s.sapOf p).capOld else (s.sapOf p).cap)
  let words := r.1 ++ List.replicate (256 - r.1.length) 0
  (r.2.storeBytes (inHalfBase (!r.2.io.inHalf) + 1024 * p.val) (wordsBytes words)).sapEdge p

/-- Whether a shutdown can complete: the fade is over and the frame of zeros has left. A slave whose partner sends no frames can send
none, and does not wait for it (R522; log entry 97). -/
def Sap.shutDone (x : Sap) (master : Bool) : Bool := decide (64 ≤ x.shut) && (x.zeroSent || (!master && x.good = 0))

/-- Shutdown is complete: inputs read zero, converters Off, the port Off, and a queued restart begins (R522, R523). -/
def State.sapOff (s : State) (p : Fin 4) : State :=
  if (s.portState p = 3 || s.portState p = 4) && (s.sapOf p).shutDone (sapMaster (s.sapFmt p)) then
    let again := s.portState p = 4
    let s1 := (((s.setConv p true 0).setConv p false 0).setPort p 0).modSap p (fun x =>
      { x with cap := [], capOld := [], old := [], sent := [], sentWas := [], counts := [], good := 0, bad := 0 })
    let s2 := s1.sapEvent p 2 0
    if again then s2.sapStart p else s2
  else s

/-- A converter locks (R514, R516): only from Acquiring, once its fade is done. -/
def State.convLock (s : State) (p : Fin 4) (inb : Bool) : State :=
  if s.conv p inb = 1 && (s.portState p = 1 || s.portState p = 2) && ((s.sapOf p).dir inb).faded && !(s.bypass p && s.bypassOk p) then
    let r := s.partnerMilli p
    let s1 := (s.setConv p inb 2).setObjs (if inb then [(O.inConvGroupDelay p.val, s.groupDelay r), (O.inConvRatio p.val, s.convRatio r)]
      else [(O.outConvGroupDelay p.val, s.groupDelay r), (O.outConvRatio p.val, s.convRatio r)])
    (s1.sapEvent p (if inb then 5 else 6) 0).sapReady p
  else s

/-- A locked converter drifts: Acquiring with a fade (R513, R517). -/
def State.convUnlock (s : State) (p : Fin 4) (inb : Bool) : State :=
  if s.conv p inb = 2 then
    let c := if inb then O.inConvUnlocks p.val else O.outConvUnlocks p.val
    let s1 := (s.setConv p inb 1).count c 32 1
    s1.sapEvent p (if inb then 7 else 8) (s1.obj c)
  else s

/-- A bypassed direction acquires with its converter on: a fade, framing delay 0, the event of an unlock (R510, R517, R527; log entry 118). -/
def State.leaveBypass (s : State) (p : Fin 4) (inb : Bool) : State :=
  if s.conv p inb = 3 then
    let s1 := s.setConv p inb 1
    s1.sapEvent p (if inb then 7 else 8) (s1.obj (if inb then O.inConvUnlocks p.val else O.outConvUnlocks p.val))
  else s

/-- After a change of tick source, a bypassed direction for which R506 no longer holds acquires (R515, R527). -/
def State.sapRecheck (s : State) : State :=
  ([0, 1, 2, 3] : List (Fin 4)).foldl (fun s p => if s.bypassOk p then s else (s.leaveBypass p true).leaveBypass p false) s

/-- A direction locks again before boundaries start at the new rate. Its fade is complete: outputs are at zero and no tick runs. -/
def State.relockDir (s : State) (p : Fin 4) (inb : Bool) : State :=
  let s1 := (s.setConv p inb 1).modSap p (fun x => x.setDir inb { x.dir inb with phase := .fade 64 64 })
  { s1 with clk := { s1.clk with relock := s1.clk.relock ++ [(p, inb)] } }

/-- The converters of port `p` after the stop of a rate change: locked ones, and bypassed ones for which R506 no longer holds, lock again;
those that stay bypassed take the framing of the new rate (R83, R509, R527). -/
def State.sapRelockPort (s : State) (p : Fin 4) : State :=
  if s.conv p true = 3 && s.conv p false = 3 && s.bypassOk p then s.setBypassed p
  else
    let go := fun (s : State) (inb : Bool) => if s.dirReady p inb then s.relockDir p inb else s
    go (go s true) false

/-- The converters re-lock after a change of the tick rate (R83, R527). -/
def State.sapRelock (s : State) : State := ([0, 1, 2, 3] : List (Fin 4)).foldl State.sapRelockPort s

end Sys2Proof.Machine
end

