-- ==== Sys2Proof/Machine/LineOps.lean ====
section
/-! DEFINITION. The line of a Kyonus port: 64b/66b blocks, the scrambler of each lane, the places of a frame's blocks (R534 to R539, R548 to R552). -/
namespace Sys2Proof.Machine
open Sys2Proof

/-! ### Scrambler x^58 + x^39 + 1 (R534, R535) -/

/-- One bit through the scrambler or the descrambler: the sum with the line bits 39 and 58 places before it; bit 0 of `before` is the last. -/
def tapBit (before : BitVec 58) (x : Bool) : Bool := (x ^^ before.getLsbD 38) ^^ before.getLsbD 57

/-- The line bits before the next, once `y` has been on the line. -/
def nextBefore (before : BitVec 58) (y : Bool) : BitVec 58 := (before <<< 1) ||| (BitVec.ofBool y).setWidth 58

/-- The line bits of payload bits, and the scrambler after them. -/
def scrambleBits : BitVec 58 → List Bool → List Bool × BitVec 58
  | b, [] => ([], b)
  | b, x :: t =>
    let y := tapBit b x
    let r := scrambleBits (nextBefore b y) t
    (y :: r.1, r.2)

/-- The payload bits of line bits. -/
def descrambleBits : BitVec 58 → List Bool → List Bool
  | _, [] => []
  | b, y :: t => tapBit b y :: descrambleBits (nextBefore b y) t

/-- The bits of a payload, bit 0 first, and the payload of bits (R535). -/
def payloadBits (p : BitVec 64) : List Bool := (List.range 64).map p.getLsbD
def bitsPayload (l : List Bool) : BitVec 64 := BitVec.ofNat 64 (l.foldr (fun b n => b.toNat + 2 * n) 0)

/-! ### Blocks (R536, R537, R539) -/

/-- What a block carries: 64 data bits, or a control TYPE with its content. -/
inductive LineItem where
  | data (p : BitVec 64)
  | control (ty : BitVec 8) (content : BitVec 56)
  deriving DecidableEq, Repr

/-- Sync header and payload of a block (R536). -/
def LineItem.sync : LineItem → BitVec 2
  | .data _ => 1
  | .control _ _ => 2
def LineItem.payload : LineItem → BitVec 64
  | .data p => p
  | .control ty c => c ++ ty

/-- The control blocks (R537). -/
def lineIdle : LineItem := .control 0x12 0
def lineError : LineItem := .control 0x81 0
def lineSleep : LineItem := .control 0x3C 0
def lineMark (tick : Nat) (two : Bool) (lane : Nat) : LineItem :=
  .control 0x24 (BitVec.ofNat 56 (tick % 2 ^ 32 * 2 ^ 24 + bitIf two 8 + lane))
def lineTrain (uid : Nat) (ready : Bool) (port lane : Nat) : LineItem :=
  .control 0x48 (BitVec.ofNat 56 (uid % 2 ^ 32 * 2 ^ 24 + bitIf ready 16 + port * 256 + lane))

/-- The types of R537. -/
def lineTypes : List (BitVec 8) := [0x12, 0x24, 0x48, 0x81, 0x3C]

/-- A block put on a lane: the block, and the scrambler after it; the sync header is not scrambled (R535). -/
def LineItem.send (i : LineItem) (before : BitVec 58) : LineBlock × BitVec 58 :=
  let r := scrambleBits before (payloadBits i.payload)
  ({ sync := i.sync, before := before, line := bitsPayload r.1 }, r.2)

/-- Blocks put on a lane in order. -/
def sendItems : List LineItem → BitVec 58 → List LineBlock × BitVec 58
  | [], b => ([], b)
  | i :: t, b =>
    let one := i.send b
    let rest := sendItems t one.2
    (one.1 :: rest.1, rest.2)

/-- The payload of a received block. -/
def linePayload (b : LineBlock) : BitVec 64 := bitsPayload (descrambleBits b.before (payloadBits b.line))

/-- What a received block is: none where its sync header is invalid or its control type is not listed (R536, R539). -/
def lineItem (b : LineBlock) : Option LineItem :=
  let p := linePayload b
  if b.sync = 1 then some (.data p)
  else if b.sync = 2 && lineTypes.contains (p.setWidth 8) then some (.control (p.setWidth 8) (p.extractLsb' 8 56))
  else none

/-- The data of a received block where the frame layout requires data; none is taken as ERROR (R539). -/
def lineData (b : LineBlock) : Option (BitVec 64) :=
  match lineItem b with
  | some (.data p) => some p
  | _ => none

/-- The places of a received frame that are no frame block: the TICK_MARK of lane 0 and of lane 1. -/
def markPlace : Nat := 0x3FFE

/-- Whether a received block is one that the frame layout has at place `j` (R539, R551): data in the header and the audio area, a TICK_MARK
at position 0 of a lane, IDLE in the guard, and data or IDLE between, where the cells are. `n` are the blocks before the cells, and before
the guard. -/
def blockFits (n : Nat × Nat) (j : Nat) (b : LineBlock) : Bool :=
  match lineItem b with
  | none => false
  | some (.data _) => decide (j < n.2)
  | some (.control ty _) => if markPlace ≤ j then ty = 0x24 else decide (n.1 ≤ j) && ty = 0x12

/-! ### The lanes of a frame (R548, R550 to R552) -/

/-- An area of `n` blocks that holds cells from its first block on, IDLE otherwise (R551, log entry 113). -/
def cellArea (cells : List (List (BitVec 64))) (n : Nat) : List LineItem :=
  let l := cells.flatten.map LineItem.data
  l ++ List.replicate (n - l.length) lineIdle

/-- The audio slot area: blocks of no run carry zero data, a block that was lost is ERROR (R558, R568). -/
def audioArea (runs : List (Nat × List (Option (BitVec 64)))) (n : Nat) : List LineItem :=
  (List.range n).map (fun i =>
    match runs.find? (fun r => decide (r.1 ≤ 4 + i) && decide (4 + i < r.1 + r.2.length)) with
    | some r => match r.2.getD (4 + i - r.1) none with
      | some p => .data p
      | none => lineError
    | none => .data 0)

/-- The blocks of a frame in order (R551). -/
def Frame.items (f : Frame) (aud ctl bulk guard : Nat) : List LineItem :=
  f.head.map LineItem.data ++ audioArea f.runs aud ++ cellArea f.ctl ctl ++ cellArea f.bulk bulk ++ List.replicate guard lineIdle

/-- The blocks of one lane: frame block j of a two-lane link goes to lane j mod 2, in order (R550). -/
def onLane (lanes lane : Nat) (l : List LineItem) : List LineItem :=
  (l.zipIdx.filter (fun p => lanes != 2 || p.2 % 2 == lane)).map (·.1)

/-- Blocks put on lane 0 and, where the link has two, on lane 1; each lane keeps the blocks it sent last. -/
def Link.put2 (l : Link) (lanes : Nat) (items : Nat → List LineItem) : Link :=
  let a := sendItems (items 0) l.scr0
  let b := sendItems (items 1) l.scr1
  if lanes = 0 then l
  else if lanes = 2 then { l with line0 := a.1, scr0 := a.2, line1 := b.1, scr1 := b.2 }
  else { l with line0 := a.1, scr0 := a.2, line1 := [] }

/-- The 16 SLEEP blocks before electrical idle, on each lane in use (R546, R547). -/
def Link.sleep (l : Link) (lanes : Nat) : Link := l.put2 lanes (fun _ => List.replicate 16 lineSleep)

end Sys2Proof.Machine
end

