-- ==== Sys2Proof/Machine/LinkOps.lean ====
section
/-! DEFINITION. Kyonus links: states, frames, runs, cells, delay measurement (R531 to R575, R594, R599). -/
namespace Sys2Proof.Machine
open Sys2Proof

/-! ### Link state -/

def State.modLink (s : State) (k : Fin 4) (f : Link → Link) : State := { s with link := put s.link k (f (lane s.link k)) }

/-- The four ports. -/
def ports : List (Fin 4) := [0, 1, 2, 3]

/-- LinkState (R540). -/
def State.linkState (s : State) (k : Fin 4) : Nat := s.obj (O.linkState k.val)

/-- A link event: kind, LinkState, count (R575). -/
def State.linkEvent (s : State) (k : Fin 4) (kind count : Nat) : State :=
  s.event (0x0800 + k.val) (kind + s.linkState k * 256 + count % 2 ^ 32 * 65536)

/-- Train blocks on the lanes of a port. How many it sends is timing: the scramblers stand at a free value after them (R535, R541, log entry
112). -/
def State.train (s : State) (k : Fin 4) (ready : Bool) : State :=
  let l := s.linkOf k
  let item := fun (n : Nat) => lineTrain (s.obj O.uid) ready k.val n
  let a := Config.scrambler s.freeCtr
  let b := Config.scrambler (s.freeCtr + 1)
  let two := l.two
  { s with
    freeCtr := s.freeCtr + 2
    link := put s.link k { l with line0 := [((item 0).send a).1], scr0 := ((item 0).send a).2
                                  line1 := if two then [((item 1).send b).1] else [], scr1 := if two then ((item 1).send b).2 else l.scr1 } }

/-- LinkState changed, with its event. Training takes LaneCount and TxEqualisation into force and begins with train blocks (R541, R574);
Deep idle and Disabled begin with SLEEP blocks (R546, R547), and in Deep idle the receivers stop. -/
def State.setLink (s : State) (k : Fin 4) (v : Nat) : State :=
  let s1 := (s.setObjs ((O.linkState k.val, v) :: if v = 4 then [] else [(O.linkRunEligible k.val, 0)])).linkEvent k 1 0
  if v = 2 then (s1.modLink k (fun l => { l with two := s1.obj (O.laneCount k.val) = 2, txEq := s1.obj (O.txEqualisation k.val) })).train k false
  else if v = 8 then s1.modLink k (fun l => { l.sleep (s1.obj (O.lanesTrained k.val)) with lock0 := false, lock1 := false })
  else if v = 0 then s1.modLink k (fun l => l.sleep (s1.obj (O.lanesTrained k.val)))
  else s1

/-- A link that may carry runs again is Up, and in Coast Fast idle, which is the link state of that power state (R540, R545). -/
def State.linkUp (s : State) (k : Fin 4) : State := s.setLink k (if s.obj O.powerState = 1 then 7 else 4)

/-- The state by which a link carries runs and cells: one that shuts down carries them as before the write (R540). -/
def State.carryState (s : State) (k : Fin 4) : Nat :=
  let v := s.linkState k
  if v = 9 ∨ v = 10 then (s.linkOf k).was else v

/-- Whether frames run on a link: Framing, Up, Degraded, Long, Fast idle, and a shutdown from one of them (R540, R547). -/
def State.framing (s : State) (k : Fin 4) : Bool := decide (3 ≤ s.carryState k) && decide (s.carryState k ≤ 7)

/-- Whether a link is between Framing and Fast idle: it has begun its frames and is not on its way out of them. -/
def State.linked (s : State) (k : Fin 4) : Bool := decide (3 ≤ s.linkState k) && decide (s.linkState k ≤ 7)

/-- Whether a link carries audio runs that it receives (R540). -/
def State.carries (s : State) (k : Fin 4) : Bool :=
  let v := s.carryState k
  v = 4 || v = 5 || v = 7

/-- Whether the frames that a link has received can still be latched: it carries runs, or it has stopped receiving since (R569, R572). -/
def State.rxReadable (s : State) (k : Fin 4) : Bool := s.carries k || decide (s.linkState k < 3) || s.linkState k = 8

/-- The frames of this tick that a link has received stay, where it carried runs, when it leaves its frames (R572). -/
def State.keptRx (s : State) (k : Fin 4) : List RxFrame := if s.rxReadable k then (s.linkOf k).rx else []

/-- Whether this device is the Origin of its fabric (R581). A member in the election that follows the loss of its Origin is not (R610). -/
def State.leads (s : State) : Bool :=
  match s.net.origin with
  | none => false
  | some k => k.uid = s.obj O.uid

/-- An Up link becomes Degraded or Long, with the event of the reason first; the Origin makes a new reservation without it (R543, R544, R572,
R600). -/
def State.weaken (s : State) (k : Fin 4) (v kind count : Nat) : State :=
  let s1 := ((s.setObjs [(O.linkState k.val, v), (O.linkRunEligible k.val, 0)]).linkEvent k kind count).linkEvent k 1 0
  { s1 with net := { s1.net with replan := s1.net.replan || (s1.leads && !s1.net.reserved.2.isEmpty) } }

/-- Errors counted in the window of R542; at ErrorLimit an Up link becomes Degraded (R543). -/
def State.linkErrors (s : State) (k : Fin 4) (n : Nat) : State :=
  let s1 := s.count (O.windowErrors k.val) 16 n
  let e := s1.obj (O.windowErrors k.val)
  if s1.linkState k = 4 && n != 0 && decide (s1.obj (O.errorLimit k.val) ≤ e) then s1.weaken k 5 3 e else s1

/-- The own fabric address in 12 bits; 0xFFF while unassigned (R553). -/
def State.ownAddr (s : State) : Nat := s.obj O.fabricAddress % 4096

/-! ### Cells (R560 to R563) -/

/-- The header block of a cell (R560). -/
def TxCell.header (c : TxCell) : BitVec 64 :=
  BitVec.ofNat 64 (c.dst % 4096 * 2 ^ 48 + c.src % 4096 * 2 ^ 36 + c.session % 256 * 2 ^ 28 + c.seq % 4096 * 2 ^ 16 +
    c.payload.length % 16 * 2 ^ 12 + c.seg % 4 * 2 ^ 10 + c.ty % 256)

/-- The CRC-32C over blocks, each little-endian (R553, R560). -/
def blocksCrc (l : List (BitVec 64)) : Nat := (crc32c (l.flatMap (fun b => leBytes 8 b.toNat))).toNat

/-- The blocks of a cell: header, payload, trailer. -/
def TxCell.blocks (c : TxCell) : List (BitVec 64) :=
  let l := c.header :: c.payload
  l ++ [BitVec.ofNat 64 (blocksCrc l)]

/-- Payloads of the cells of a message: up to 8 blocks each, at least one cell (R560, R561). -/
def splitCells : Nat → List (BitVec 64) → List (List (BitVec 64))
  | 0, l => [l]
  | n + 1, l => if l.length ≤ 8 then [l] else l.take 8 :: splitCells n (l.drop 8)

/-- SEG of cell `i` of `n` (R560). -/
def segOf (i n : Nat) : Nat := if n = 1 then 3 else if i = 0 then 2 else if i + 1 = n then 1 else 0

/-- A message enters the send queue of an area (R561 to R563). -/
def Chan.send (c : Chan) (m : Msg) : Chan :=
  let parts := splitCells 32 m.payload
  let cells := (parts.zipIdx).map (fun p =>
    ({ dst := m.dst, src := m.src, session := m.session, seq := (c.next + p.2) % 4096, seg := segOf p.2 parts.length, ty := m.ty
       payload := p.1, sent := false, age := 0, tries := 0 } : TxCell))
  { c with next := (c.next + parts.length) % 4096, queue := c.queue ++ cells }

def Link.chan (l : Link) (bulk : Bool) : Chan := if bulk then l.bulk else l.ctl
def Link.setChan (l : Link) (bulk : Bool) (c : Chan) : Link := if bulk then { l with bulk := c } else { l with ctl := c }

/-- A message is queued on port `k`. -/
def State.sendOn (s : State) (k : Fin 4) (bulk : Bool) (m : Msg) : State :=
  s.modLink k (fun l => l.setChan bulk ((l.chan bulk).send m))

/-- Bytes as blocks, the last padded with zero. -/
def toBlocks (l : List Byte) : List (BitVec 64) :=
  (List.range ((l.length + 7) / 8)).map (fun i => BitVec.ofNat 64 (leNat ((l.drop (8 * i)).take 8)))

/-- The bytes of blocks. -/
def fromBlocks (l : List (BitVec 64)) : List Byte := l.flatMap (fun b => leBytes 8 b.toNat)

/-- A message of bytes from this device. -/
def State.mkMsg (s : State) (dst session ty : Nat) (b : List Byte) : Msg :=
  { dst := dst, src := s.ownAddr, session := session, ty := ty, payload := toBlocks b }

/-- The unsent cells, in order, that fit into `cap` blocks of an area; only the first 2,048 of the queue are kept unacknowledged. -/
def takeCells : Nat → List TxCell → List TxCell
  | _, [] => []
  | cap, c :: t =>
    if c.sent then takeCells cap t
    else if c.payload.length + 2 ≤ cap then c :: takeCells (cap - (c.payload.length + 2)) t else []

/-- The queue after a frame that took the first `n` unsent cells: they are sent, and those sent before age by a frame. -/
def markSent : Nat → List TxCell → List TxCell
  | _, [] => []
  | n, x :: t =>
    if x.sent then { x with age := x.age + 1 } :: markSent n t
    else match n with
      | 0 => x :: markSent 0 t
      | m + 1 => { x with sent := true, age := 0 } :: markSent m t

/-- The area's cells for a frame, and the area after it. -/
def Chan.fillArea (c : Chan) (cap : Nat) : List TxCell × Chan :=
  let l := takeCells cap (c.queue.take 2048)
  (l, { c with queue := markSent l.length c.queue })

/-- Cells up to an acknowledged sequence number leave the queue (R553, R563). -/
def Chan.ack (c : Chan) (seq : Nat) : Chan :=
  if c.queue.any (fun x => x.sent && x.seq = seq) then
    { c with queue := (c.queue.dropWhile (fun x => x.seq != seq)).drop 1 }
  else c

/-! ### Frame layout (R319, R551, R553) -/

/-- Audio bits per frame (R319). -/
def audioBits (fs : Nat) : Nat := 458752 * 48000 / fs

/-- Blocks of the audio, control and bulk areas (R551). -/
def audioBlocks (fs lanes : Nat) : Nat := if lanes = 2 then (audioBits fs + 63) / 64 else (audioBits fs / 2 + 63) / 64
def ctlBlocks (fs lanes : Nat) : Nat := if lanes = 2 then 7680000 / fs else 7680000 / fs / 2
def bulkBlocks (fs lanes : Nat) : Nat :=
  let l := 189375000 / fs
  if lanes = 2 then 2 * l - 14 - audioBlocks fs 2 - ctlBlocks fs 2 else l - 9 - audioBlocks fs 1 - ctlBlocks fs 1

/-- The tick rates in the order of R50. -/
def tickRates : List Nat := [32000, 44100, 48000, 88200, 96000, 176400, 192000, 352800, 384000]

/-- RATE of a header (R553). -/
def rateCode (fs : Nat) : Nat := (tickRates.findIdx (fun r => r = fs)) % 16

/-- A run table entry (R601). -/
structure RunEntry where
  valid : Bool
  fwd : Bool
  inPort : Fin 4
  outBlock : Nat
  blocks : Nat
  inBlock : Nat
  hold : Bool
  fmt : Nat
  first : Nat
  deriving DecidableEq, Repr

/-- The entry that a 64-bit word holds. -/
def runEntry (w : Nat) : RunEntry :=
  { valid := w.testBit 63, fwd := w.testBit 62, inPort := port4 (w / 2 ^ 60), outBlock := w / 2 ^ 46 % 2 ^ 14, blocks := w / 2 ^ 32 % 2 ^ 14
    inBlock := w / 2 ^ 18 % 2 ^ 14, hold := w.testBit 17, fmt := w / 2 ^ 13 % 8, first := w % 4096 }

/-- The valid entries of a table. -/
def runEntries (t : List (Nat × Nat)) : List RunEntry := (t.map (fun p => runEntry p.2)).filter (·.valid)

/-- Bits of a group in a format, and the groups of a run (R319, R557). -/
def groupBits (fmt : Nat) : Nat := 8 * groupBytes fmt
def RunEntry.groups (r : RunEntry) : List Nat := (List.range (r.blocks * 64 / groupBits r.fmt)).map (fun i => r.first + i)

/-- Blocks that hold group `i` of a run, from its first block. -/
def RunEntry.span (r : RunEntry) (i : Nat) : List Nat :=
  let g := groupBits r.fmt
  (List.range ((i * g + g - 1) / 64 - i * g / 64 + 1)).map (fun j => i * g / 64 + j)

/-- The blocks of a run whose bits are the number `n` (R556, R558). -/
def bitBlocks (n blocks : Nat) : List (BitVec 64) := (List.range blocks).map (fun j => BitVec.ofNat 64 (n / 2 ^ (64 * j)))

/-- The first group and the channels of every carrier-2 edge of the graph in force, the second groups of a migration with them (R404). -/
def Tiler.groupEdges (t : Tiler) : List (Nat × Nat) :=
  let es := ((t.graph.map (·.edges)).getD []).filter (fun e => e.carrier = 2)
  es.map (fun e => (e.first, e.channels)) ++
  t.mig.toList.flatMap (fun m => m.second.filterMap (fun q => (es.find? (fun e => e.edge = q.1)).map (fun e => (q.2, e.channels))))

/-- Channels of group `g` that its edge uses (R316); all of a group of no edge. -/
def Tiler.usedChannels (t : Tiler) (g : Nat) : Nat :=
  match t.groupEdges.find? (fun p => decide (p.1 ≤ g) && decide (16 * (g - p.1) < p.2)) with
  | some p => min 16 (p.2 - 16 * (g - p.1))
  | none => 16

/-- The encoded bits of output group `g` as published, a channel that its edge does not use as zero (R316), and the state after its samples
were read. -/
def State.encodeOut (s : State) (k : Fin 4) (fmt g : Nat) : Nat × State :=
  let r := State.portReads (16 * g) 16 s
  let l := (r.1.zipIdx).map (fun p => if p.2 < s.til.usedChannels g then p.1 else 0)
  (encodeGroup fmt l, r.2.count (O.linkFacetSaturations k.val) 32 (groupSaturations fmt l))

/-- The bits of the groups of a run from this device. -/
def State.runBits (k : Fin 4) (r : RunEntry) : List Nat → Nat → State → Nat × State
  | [], _, s => (0, s)
  | g :: t, i, s =>
    let one := if r.hold then (aGet 0 s.net.latched g, s) else s.encodeOut k r.fmt g
    let rest := State.runBits k r t (i + 1) one.2
    (one.1 * 2 ^ (i * groupBits r.fmt) + rest.1, rest.2)

/-- The frame of a tick that port `k` has received. -/
def State.rxFrame (s : State) (k : Fin 4) (tick : Nat) : Option RxFrame := (s.linkOf k).rx.find? (fun f => f.tick = tick)

/-- A forwarded block as it leaves: its bits, or none for ERROR, and whether it was late (R566 to R568). -/
def fwdBlock (f : Option RxFrame) (b : Nat) : Option (BitVec 64) × Bool :=
  match f with
  | none => (none, true)
  | some x => if x.bad.contains b then (none, false) else if x.late.contains b then (none, true) else (some (aGet 0 x.blocks b), false)

/-- The blocks of a forwarded run as they leave in the frame of `tick`; a link that carries no runs has none to forward (R540, R568). -/
def State.fwdRun (s : State) (tick : Nat) (r : RunEntry) : List (Option (BitVec 64) × Bool) :=
  (List.range r.blocks).map (fun j => fwdBlock (if s.rxReadable r.inPort then s.rxFrame r.inPort tick else none) (r.inBlock + j))

/-- Late blocks of the forwarded runs of a frame (R568). -/
def State.lateBlocks (s : State) (tick : Nat) (l : List RunEntry) : Nat :=
  sumNat ((l.filter (·.fwd)).map (fun r => ((s.fwdRun tick r).filter (·.2)).length))

/-- The late blocks of a frame, counted and reported (R568, R575). -/
def State.noteLate (s : State) (k : Fin 4) (n : Nat) : State :=
  if n = 0 then s else (s.count (O.lateForwardBlocks k.val) 32 n).linkEvent k 6 n

/-- The blocks of a re-emitted run that hold a group missing at the last latch: ERROR blocks replace them (R571). -/
def State.heldMissing (s : State) (r : RunEntry) : List Nat :=
  ((r.groups.zipIdx).filter (fun g => (s.group (recvKey g.1)).missing)).flatMap (fun g => r.span g.2)

/-- One run of the frame of `tick` on port `k`: its first block and its blocks (R557, R568). In Fast idle the runs that the device originates carry zero; a held group
that it re-emits passes unchanged (R317, R545). -/
def State.sendRun (s : State) (k : Fin 4) (tick : Nat) (r : RunEntry) : (Nat × List (Option (BitVec 64))) × State :=
  if r.fwd then ((r.outBlock, (s.fwdRun tick r).map (·.1)), s)
  else if s.linkState k = 7 && !r.hold then ((r.outBlock, List.replicate r.blocks (some 0)), s)
  else
    let b := State.runBits k r r.groups 0 s
    let lost := if r.hold then s.heldMissing r else []
    ((r.outBlock, ((bitBlocks b.1 r.blocks).zipIdx).map (fun p => if lost.contains p.2 then none else some p.1)), b.2)

/-- All runs of a frame. -/
def State.sendRuns (k : Fin 4) (tick : Nat) : List RunEntry → State → List (Nat × List (Option (BitVec 64))) × State
  | [], s => ([], s)
  | r :: t, s =>
    let one := s.sendRun k tick r
    let rest := State.sendRuns k tick t one.2
    (one.1 :: rest.1, rest.2)

/-! ### Time (R592 to R599) -/

/-- Sums of the arrival values of a link. -/
def Link.sumSelf (l : Link) : Int := sumInt (l.arrivals.map (·.1))
def Link.sumNb (l : Link) : Int := sumInt (l.arrivals.map (·.2))

/-- One-way delay and the neighbour's lead in ps (R594); a unit is 62.5 ps. -/
def Link.delayPs (l : Link) : Int :=
  if l.arrivals = [] then 0 else roundHalfEven ((l.sumSelf + l.sumNb) * 125) (4 * l.arrivals.length)
def Link.leadPs (l : Link) : Int :=
  if l.arrivals = [] then 0 else roundHalfEven ((l.sumNb - l.sumSelf) * 125) (4 * l.arrivals.length)

/-- The own ORIGIN_OFFSET through a parent link, in ps and in units of 1/16 ns (R595). -/
def Link.offsetPs (l : Link) : Int :=
  let n : Int := l.arrivals.length
  if l.arrivals = [] then 0 else roundHalfEven ((l.nbOffset * 2 * n + l.sumNb - l.sumSelf) * 125) (4 * l.arrivals.length)
def Link.offsetUnits (l : Link) : Int :=
  let n : Int := l.arrivals.length
  if l.arrivals = [] then 0 else roundHalfEven (l.nbOffset * 2 * n + l.sumNb - l.sumSelf) (2 * l.arrivals.length)

/-- Whether this device is the Origin it follows, as one that belongs to no fabric is its own (R579). -/
def State.isOrigin (s : State) : Bool := s.leads || (s.net.origin.isNone && !s.joined)

/-- ORIGIN_OFFSET as the header carries it. -/
def State.originUnits (s : State) : Int :=
  if s.isOrigin || s.obj O.timeParent = 0xFF then 0 else (s.linkOf (port4 (s.obj O.timeParent))).offsetUnits

/-- DEPTH as the header carries it: 0 for the Origin, 0xFF if not aligned or not joined (R593). -/
def State.depthOut (s : State) : Nat :=
  if !s.joined then 0xFF else if s.isOrigin then 0 else if s.obj O.timeState = 2 then s.obj O.timeDepth else 0xFF

/-- The arrival margin in ns by rate and lanes (R570). -/
def marginNs (fs lanes : Nat) : Nat :=
  let i := rateCode fs
  if lanes = 2 then [2840, 2055, 1886, 1014, 932, 494, 455, 236, 217].getD i 0
  else [2829, 2044, 1875, 1003, 921, 483, 444, 225, 206].getD i 0

/-- Whether a delay and a lead, in ps, leave the margins of a receiver and of a forwarder (R599). -/
def marginsHold (fs lanes : Nat) (delay lead : Int) : Bool :=
  let d := delay + max 0 lead + 20000
  decide (d + 64000 ≤ 1000 * (marginNs fs lanes : Int)) && decide (d ≤ 246000)

/-- Whether a link is eligible for audio runs (R599). -/
def State.runEligible (s : State) (k : Fin 4) : Bool :=
  let l := s.linkOf k
  s.linkState k = 4 && l.arrivals != [] && marginsHold (s.obj O.tickRate) (s.obj (O.lanesTrained k.val)) l.delayPs l.leadPs

/-- A 32-bit two's-complement object value. -/
def intObj (x : Int) : Nat := (BitVec.ofInt 32 x).toNat

/-- A new delay measurement: its objects, and Long where the delay exceeds 50 ns (R544, R594). -/
def State.measure (s : State) (k : Fin 4) : State :=
  let l := s.linkOf k
  let d := l.delayPs
  let s1 := s.setObjs [(O.oneWayDelay k.val, min 10000000 d.toNat), (O.linkTickOffset k.val, intObj l.leadPs)]
  let s2 := s1.setObj (O.linkRunEligible k.val) (if s1.runEligible k then 1 else 0)
  if 50000 < d then (if s2.linkState k = 4 then s2.weaken k 6 5 d.toNat else s2)
  else if s2.linkState k = 6 then s2.linkUp k else s2

/-! ### Transmission (R548 to R558) -/

/-- The header blocks of the frame of `tick` on port `k` (R553, R593). -/
def State.frameHead (s : State) (k : Fin 4) (tick : Nat) : List (BitVec 64) :=
  let l := s.linkOf k
  let arr := ((l.arrivals.head?).map (·.1)).getD 0
  let h0 := BitVec.ofNat 64 (2 ^ 60 + s.ownAddr * 2 ^ 48 + tick % 2 ^ 48)
  let h1 := BitVec.ofNat 64 (s.depthOut * 2 ^ 56 + (BitVec.ofInt 24 s.originUnits).toNat * 2 ^ 32 + (BitVec.ofInt 32 arr).toNat)
  let h2 := BitVec.ofNat 64 (s.recordEpoch * 2 ^ 48 + rateCode (s.obj O.tickRate) * 2 ^ 44 + (if s.linkState k = 7 then 2 ^ 41 else 0) +
    (if s.linkState k = 5 then 2 ^ 40 else 0) + l.bulk.last * 2 ^ 24 + l.ctl.last * 2 ^ 12)
  [h0, h1, h2, BitVec.ofNat 64 (blocksCrc [h0, h1, h2])]

/-- The lanes of port `k` while the frame goes out: the TICK_MARK at position 0, the frame's blocks, and IDLE until the next TICK_MARK, of
which the line rate decides how many (R548, R550, R552, log entry 112). -/
def State.sendFrame (s : State) (k : Fin 4) (f : Frame) : State :=
  let fs := s.obj O.tickRate
  let lanes := s.obj (O.lanesTrained k.val)
  let items := f.items (audioBlocks fs lanes) (ctlBlocks fs lanes) (bulkBlocks fs lanes) (if lanes = 2 then 8 else 4)
  let idle := List.replicate (Config.idleBlocks s.freeCtr).toNat lineIdle
  ({ s with freeCtr := s.freeCtr + 1 } : State).modLink k (fun l =>
    l.put2 lanes (fun n => lineMark f.tick (lanes = 2) n :: (onLane lanes n items ++ idle)))

/-- The tick frame of port `k` (R548, R551, R565). A link that is shutting down ends with the frame under way and starts no other (R547). -/
def State.transmit (s : State) (k : Fin 4) : State :=
  if !s.linked k then s
  else
    let tick := s.tick
    let fs := s.obj O.tickRate
    let lanes := s.obj (O.lanesTrained k.val)
    let head := s.frameHead k tick
    let entries := if s.carries k then runEntries (s.linkOf k).txRuns else []
    let r := State.sendRuns k tick entries (s.noteLate k (s.lateBlocks tick entries))
    let c := (r.2.linkOf k).ctl.fillArea (ctlBlocks fs lanes)
    let b := if s.linkState k = 7 then ([], (r.2.linkOf k).bulk) else (r.2.linkOf k).bulk.fillArea (bulkBlocks fs lanes)
    let f : Frame := { tick := tick, head := head, runs := r.1, ctl := c.1.map TxCell.blocks, bulk := b.1.map TxCell.blocks }
    (r.2.modLink k (fun l => { l with ctl := c.2, bulk := b.2, tx := some f })).sendFrame k f

/-! ### Reception (R554, R555, R569) -/

/-- The tick a mark's low 32 bits name: the receiver's TickCount or the one after (R554). -/
def State.markTick (s : State) (low : Nat) : Nat := if low = s.tick % 2 ^ 32 then s.tick else wrapAdd 48 s.tick 1

/-- Whether a frame is discarded (R554). -/
def State.frameDiscarded (s : State) (k : Fin 4) (marks : Bool) (low : Nat) : Bool :=
  !marks || (s.linkState k = 4 && low != s.tick % 2 ^ 32 && low != (s.tick + 1) % 2 ^ 32)

/-- A good header: acknowledgements, the neighbour's address and time, its delay measurement (R553, R593, R594). -/
def State.readHead (s : State) (k : Fin 4) (h0 h1 h2 : BitVec 64) (x : Int) : State :=
  let epoch := fieldOf h2 48 16
  let s1 := s.modLink k (fun l => { l with
    ctl := l.ctl.ack (fieldOf h2 12 12), bulk := l.bulk.ack (fieldOf h2 24 12), nbTick := fieldOf h0 0 48
    nbAddr := if epoch = 0 then 0xFFFF else fieldOf h0 48 12, nbDepth := fieldOf h1 56 8, nbRate := fieldOf h2 44 4
    nbOffset := (BitVec.ofNat 24 (fieldOf h1 32 24)).toInt
    arrivals := ((x, (BitVec.ofNat 32 (fieldOf h1 0 32)).toInt) :: l.arrivals).take 64 })
  s1.measure k

/-- Frames counted in Framing: after four good ones the link is Up, or Long (R541). -/
def State.frameCount (s : State) (k : Fin 4) (good : Bool) : State :=
  if s.linkState k != 3 then s
  else
    let n := if good then (s.linkOf k).good + 1 else 0
    let s1 := s.modLink k (fun l => { l with good := n })
    if n < 4 then s1 else if 50000 < (s1.linkOf k).delayPs then (s1.setLink k 6).linkEvent k 5 (s1.linkOf k).delayPs.toNat else s1.linkUp k

/-- A received tick frame (R554, R555). `bad` are blocks taken as ERROR, `late` blocks not there by the latch, `x` the own arrival value. -/
def State.receive (s : State) (k : Fin 4) (marks : Bool) (low : Nat) (h0 h1 h2 h3 : BitVec 64) (blocks : List (Nat × BitVec 64))
    (bad late : List Nat) (x : Int) : State :=
  if !s.framing k then s
  else
    let s1 := (s.count (O.blockErrors k.val) 32 bad.length).linkErrors k bad.length
    if s1.frameDiscarded k marks low then
      let s2 := s1.count (O.linkFramesDiscarded k.val) 32 1
      (s2.linkEvent k 7 (s2.obj (O.linkFramesDiscarded k.val))).frameCount k false
    else
      let ok := blocksCrc [h0, h1, h2] = h3.toNat % 2 ^ 32
      let s2 := if ok then s1.readHead k h0 h1 h2 x else (s1.count (O.headerCrcErrors k.val) 32 1).linkErrors k 1
      let f : RxFrame := { tick := s2.markTick low, blocks := blocks, bad := bad, late := late }
      let known := low = s2.tick % 2 ^ 32 || low = (s2.tick + 1) % 2 ^ 32
      (s2.modLink k (fun l => if known then { l with rx := (l.rx.filter (fun g => g.tick != f.tick)) ++ [f] } else l)).frameCount k ok

/-! ### The latch of received runs (R139, R407, R569) -/

/-- The bits of group `i` of a receive entry in a frame, or none where a block of it is missing. -/
def groupBitsOf (f : Option RxFrame) (r : RunEntry) (i : Nat) : Option Nat :=
  match f with
  | none => none
  | some x =>
    let l := (r.span i).map (fun j => r.inBlock + j)
    if l.any (fun b => x.bad.contains b || x.late.contains b) then none
    else
      let start := i * groupBits r.fmt / 64
      let n := (l.zipIdx).foldl (fun acc b => acc + (aGet (0 : BitVec 64) x.blocks b.1).toNat * 2 ^ (64 * b.2)) 0
      some (n / 2 ^ (i * groupBits r.fmt - 64 * start) % 2 ^ groupBits r.fmt)

/-- One receive group at the latch: decoded, or missing and substituted, in Safe-mute with FADE64; a wrong TAG makes it missing (R139, R145,
R318). A group of zero data is complete in every format: so a device in Fast idle sends its runs (R545; log entry 142). -/
def State.latchGroup (s : State) (k : Fin 4) (r : RunEntry) (i : Nat) (f : Option RxFrame) : State × Bool :=
  let g := r.first + i
  let raw := groupBitsOf f r i
  let wrong := match raw with
    | some n => n != 0 && tagWrong r.fmt n
    | none => false
  let s0 := if wrong then s.count (O.linkFacetTagErrors k.val) 32 1 else s
  let bits := if wrong then none else raw
  let vals : Vector Word 16 := tab (fun c => match bits with
    | some n => decodeSample r.fmt n c.val
    | none => 0)
  let safe := s0.mutes.contains .safeMute
  let was := if safe then (s0.group (recvKey g)).safe else s0.group (recvKey g)
  let gr := was.tick bits.isNone false (if safe then 1 else s0.policy g) vals
  let s1 := (s0.setGroup (recvKey g) { gr.2 with missing := bits.isNone }).storeGroup (inHalfBase (!s0.io.inHalf)) g gr.1
  let s2 : State := { s1 with net := { s1.net with latched := aPut 0 s1.net.latched g (bits.getD 0) } }
  (s2, bits.isNone)

/-- One receive run at the latch of the frame of `tick`; a run with a missing group counts (R569). -/
def State.latchRun (s : State) (k : Fin 4) (tick : Nat) (r : RunEntry) : State :=
  let f := if s.rxReadable k then s.rxFrame k tick else none
  let t := (r.groups.zipIdx).foldl (fun (p : State × Bool) g => let q := p.1.latchGroup k r g.2 f; (q.1, p.2 || q.2)) (s, false)
  if t.2 then t.1.count (O.missingRuns k.val) 32 1 else t.1

/-- All receive runs at the latch that ends `tick`; latched frames are dropped. -/
def State.latchRuns (s : State) (tick : Nat) : State :=
  ports.foldl (fun s k =>
    ((runEntries (s.linkOf k).rxRuns).foldl (fun s r => s.latchRun k tick r) s).modLink k
      (fun l => { l with rx := l.rx.filter (fun f => f.tick = wrapAdd 48 tick 1) })) s

/-- The output groups of loopback edges are copied into the capture half (R382). -/
def State.latchLoop (s : State) : State :=
  s.io.loop.foldl (fun s g => s.store (inHalfBase (!s.io.inHalf) + 64 * g) 64 (s.load (outHalfBase (!s.io.outHalf) + 64 * g) 64)) s

/-- The word of a crossfade between two receive groups (R407). -/
def xfadeWord (a b : Word) (j total : Nat) : Word :=
  BitVec.ofInt 32 (roundHalfEven (a.toInt * ((total : Int) - j) + b.toInt * j) total)

/-- One crossfade at the latch: the first group takes the mixed samples; after X it takes the second alone (R407, R409). -/
def State.latchXfade (s : State) (x : Xfade) : State :=
  let upd := fun (y : Xfade) (s : State) => ({ s with net := { s.net with xfades := s.net.xfades.map (fun z => if z.first = x.first then y else z) } } : State)
  if 0 < x.wait then upd { x with wait := x.wait - 1 } s
  else
    let at_ := fun (g c : Nat) => memWord s.mem (inHalfBase (!s.io.inHalf) + 64 * g + 4 * c)
    let j := min (x.j + 1) (x.total + 1)
    let v : Vector Word 16 := tab (fun c => if x.total < j then at_ x.second c.val else xfadeWord (at_ x.first c.val) (at_ x.second c.val) j x.total)
    upd { x with j := j } (s.storeGroup (inHalfBase (!s.io.inHalf)) x.first v)

/-- Everything the capture half takes at the latch that ends `tick`: port samples, received runs, loopback, crossfades. A channel with no
placed input reads zero (R200). -/
def State.latchInputs (s : State) (tick : Nat) : State :=
  let s0 := ports.foldl State.sapKeep s
  let s1 := ports.foldl State.sapLatch (s0.zeroOthers (inHalfBase (!s0.io.inHalf)) [])
  let s2 := (s1.latchRuns tick).latchLoop
  let s3 := s2.net.xfades.foldl State.latchXfade s2
  { s3 with io := { s3.io with inHalf := !s3.io.inHalf } }

end Sys2Proof.Machine
end

