-- ==== Sys2Proof/Machine/NetOps.lean ====
section
/-! DEFINITION. The fabric: keys, flooding, link loss, routes, addresses, activation, time (R576 to R610). -/
namespace Sys2Proof.Machine
open Sys2Proof

/-! ### Keys (R578, R580) -/

/-- The lower key is the better one (R578). -/
def Key.better (a b : Key) : Bool := decide (a.prio < b.prio) || (a.prio = b.prio && decide (a.uid < b.uid))

/-- The better of two keys. -/
def Key.best (a b : Key) : Key := if b.better a then b else a

/-- The own key (R578). -/
def State.ownKey (s : State) : Key := { prio := s.obj O.originPriority, uid := s.obj O.uid }

/-- The best key known (R580). -/
def State.bestKey (s : State) : Key := (s.net.best.map (Key.best s.ownKey)).getD s.ownKey

def State.modNet (s : State) (f : Net → Net) : State := { s with net := f s.net }

/-- A change of the best key since a state restarts the settle count (R581). -/
def State.resettle (s t : State) : State := if t.bestKey = s.bestKey then t else t.modNet (fun n => { n with settle := 0 })

/-- A key becomes known (R580, R581). -/
def State.learnKey (s : State) (k : Key) : State :=
  s.resettle (s.modNet (fun n => { n with best := some ((n.best.map (fun b => Key.best b k)).getD k) }))

/-- A write of OriginPriority, which changes the own key (R578, R581). -/
def State.writePriority (s : State) (k : SessKey) (kport : Nat) (words : List (BitVec 32)) : State :=
  s.writeReq k kport O.originPriority words {} (fun s => s.resettle (s.setObj O.originPriority (wordsNat words)))

/-- The key of the Origin a device follows; a device that follows none counts as its own Origin (R584). -/
def State.originKey (s : State) : Key := s.net.origin.getD s.ownKey

/-- Whether a device has no link in Framing or later (R579). -/
def State.isAlone (s : State) : Bool := ports.all (fun k => !(decide (3 ≤ s.linkState k) && decide (s.linkState k ≤ 8)))

/-- Links on which a flooded message is sent: Up or Framing (R577). -/
def State.floodPorts (s : State) (except : Option (Fin 4)) : List (Fin 4) :=
  ports.filter (fun k => (s.linkState k = 4 || s.linkState k = 3) && some k != except)

/-- A control message on every such link; its SRC is the origin address by which it is known, which the devices that pass it on keep (R577, log
entry 87). -/
def State.flood (s : State) (src ty : Nat) (b : List Byte) (except : Option (Fin 4)) : State :=
  (s.floodPorts except).foldl (fun s k => s.sendOn k false { s.mkMsg 0xFFF 0 ty b with src := src }) s

/-- The address a flooded message of this device carries: its own, or Uid[11:0] while not joined (R577). -/
def State.floodAddr (s : State) : Nat := if s.joined then s.ownAddr else s.obj O.uid % 4096

/-- The next flood sequence number. -/
def State.nextFlood (s : State) : Nat × State := (s.net.floodSeq, s.modNet (fun n => { n with floodSeq := (n.floodSeq + 1) % 65536 }))

/-- Whether a flooded message has been seen; it is remembered (R577). -/
def State.seenFlood (s : State) (src seq : Nat) : Bool := s.net.seen.any (fun p => p.1 = src && p.2.1 = seq)
def State.noteFlood (s : State) (src seq : Nat) : State := s.modNet (fun n => { n with seen := (src, seq, s.tick) :: n.seen })

/-- A message of a type leaves the inbox when its command is taken. -/
def State.takeMsg (s : State) (ty : Nat) : State :=
  s.modNet (fun n => { n with inbox := match n.inbox.find? (fun m => m.ty = ty) with
    | some m => n.inbox.erase m
    | none => n.inbox })

/-! ### Routes (R588 to R591) -/

/-- The port of a route for an address: the primary if its link is Up or Degraded, else the alternate; none if neither (R591). -/
def State.route (s : State) (dst : Nat) : Option (Fin 4) :=
  let e := aGet 0xFF s.net.routes dst
  let usable := fun (c : Nat) => if c < 4 ∧ (s.linkState (port4 c) = 4 ∨ s.linkState (port4 c) = 5) then some (port4 c) else none
  (usable (e % 16)).orElse (fun _ => usable (e / 16))

/-- Whether an address stands in the route table (R459). -/
def State.hasRoute (s : State) (dst : Nat) : Bool := aGet 0xFF s.net.routes dst != 0xFF

/-- A routed message is sent: delivered here, forwarded, or discarded and counted (R591). -/
def State.sendRouted (s : State) (bulk : Bool) (m : Msg) : State :=
  if s.joined && m.dst = s.ownAddr then s.modNet (fun n => { n with inbox := n.inbox ++ [m] })
  else match s.route m.dst with
    | some k => s.sendOn k bulk m
    | none => s.count O.noRouteDrops 32 1

/-- The number by which a message of the Origin is known in an epoch, so that it is passed on once; above every flood sequence number (log entry
87). -/
def State.msgMark (s : State) (m : Msg) : Nat :=
  65536 + m.ty + m.dst * 2 ^ 8 + s.obj O.fabricEpoch % 2 ^ 32 * 2 ^ 20 + leNat (fromBlocks m.payload) * 2 ^ 52

/-- A message on every Up or Framing link but that toward the Origin, remembered as seen. -/
def State.spread (s : State) (m : Msg) : State :=
  (s.floodPorts (s.net.path.map port4)).foldl (fun s k => s.sendOn k false m) (s.noteFlood m.src (s.msgMark m))

/-- ADDRESS, ROUTES, RESERVE and ACTIVATE reach devices that the Origin has no link to before routes are in force: a device that is not meant
passes them on, once (R576, R585, R589; log entry 87). -/
def State.passOn (s : State) (m : Msg) : State := if s.seenFlood m.src (s.msgMark m) then s else s.spread m

/-- A message of the Origin to a device: by its route, or where no route is in force yet on every link. -/
def State.sendDown (s : State) (m : Msg) : State := if (s.route m.dst).isSome then s.sendRouted false m else s.spread m

/-- A complete message from port `k`: link-local and own messages are delivered, the others forwarded (R561, R576, R591). One to no address, of
the time when addresses are not yet assigned, is for the device that receives it (log entry 87). -/
def State.deliver (s : State) (bulk : Bool) (m : Msg) : State :=
  if m.ty < 8 || (decide (m.ty < 0x10) && m.dst = 0xFFF) then s.modNet (fun n => { n with inbox := n.inbox ++ [m] })
  else if decide (0x0A ≤ m.ty ∧ m.ty ≤ 0x0C) && !(s.joined && m.dst = s.ownAddr) && (s.route m.dst).isNone then s.passOn m
  else s.sendRouted bulk m

/-- A cell of a message: reassembly, and delivery of a whole message of at most 2,048 bytes (R561). -/
def State.assemble (s : State) (k : Fin 4) (bulk : Bool) (seg : Nat) (m : Msg) : State :=
  let put_ := fun (a : Option Msg) (s : State) => s.modLink k (fun l => l.setChan bulk { l.chan bulk with asm := a })
  if seg = 3 then (put_ none s).deliver bulk m
  else if seg = 2 then put_ (some m) s
  else match ((s.linkOf k).chan bulk).asm with
    | none => s
    | some a =>
      let w : Msg := { a with payload := a.payload ++ m.payload }
      if 256 < w.payload.length then put_ none s
      else if seg = 1 then (put_ none s).deliver bulk w else put_ (some w) s

/-- The control TYPE values; the others from 0x01 to 0x3F are reserved (R576). -/
def controlTypes : List Nat := [1, 2, 3, 8, 9, 0xA, 0xB, 0xC, 0x10, 0x11, 0x18, 0x19]

/-- Whether a TYPE may stand in an area (R560). -/
def typeInArea (bulk : Bool) (ty : Nat) : Bool := if bulk then decide (0x80 ≤ ty ∧ ty ≤ 0xBF) else controlTypes.contains ty

/-- A received cell: counted if its CRC, its length or its TYPE is wrong, discarded out of sequence, otherwise accepted (R560, R562). -/
def State.cell (s : State) (k : Fin 4) (bulk : Bool) (blocks : List (BitVec 64)) : State :=
  let h := blocks.headD 0
  let body := blocks.dropLast
  let pay := body.drop 1
  let good := decide (2 ≤ blocks.length) && blocksCrc body = (blocks.getLastD 0).toNat && fieldOf h 12 4 = pay.length &&
    decide (pay.length ≤ 8) && typeInArea bulk (fieldOf h 0 8)
  if !s.framing k then s
  else if !good then (s.count (O.cellCrcErrors k.val) 32 1).linkErrors k 1
  else if fieldOf h 16 12 != (((s.linkOf k).chan bulk).last + 1) % 4096 then s
  else
    let m : Msg := { dst := fieldOf h 48 12, src := fieldOf h 36 12, session := fieldOf h 28 8, ty := fieldOf h 0 8, payload := pay }
    (s.modLink k (fun l => l.setChan bulk { l.chan bulk with last := fieldOf h 16 12 })).assemble k bulk (fieldOf h 10 2) m

/-! ### Link loss (R579, R607, R610) -/

/-- Two ends name one link, in either order. -/
def sameLink (a b c d : Nat × Nat) : Bool := (a = c && b = d) || (a = d && b = c)

/-- A lost link of the Origin is noted (R610). -/
def State.noteOrigin (s : State) (a : Nat × Nat) : State :=
  if a.1 = s.obj O.originAddress then s.modNet (fun n => { n with originDown := setAdd n.originDown a.2 }) else s

/-- The Origin's topology with a port of a device Down. -/
def Net.portDown (n : Net) (a : Nat × Nat) : Net :=
  { n with topo := n.topo.map (fun d => if n.assigned.any (fun p => p.1 = d.key.uid && p.2 = a.1) then
      { d with ports := (d.ports.zipIdx).map (fun p => if p.2 = a.2 then { p.1 with state := 1 } else p.1) } else d) }

/-- A lost link is noted, for the topology, for the time tree and, if plan entries for it are held, for its repair (R607, R608, R610). -/
def State.noteLost (s : State) (a b : Nat × Nat) (f : Nat) : State :=
  let s := ((s.noteOrigin a).noteOrigin b).modNet (fun n => (n.portDown a).portDown b)
  if s.net.plans.any (fun p => sameLink p.endA p.endB a b) && !s.net.lost.any (fun l => sameLink l.1 l.2.1 a b) then
    s.modNet (fun n => { n with lost := n.lost ++ [(a, b, f)] })
  else s

/-- A device with no link in Framing or later is alone (R579). -/
def State.checkAlone (s : State) : State :=
  if s.isAlone then
    (s.setObjs [(O.fabricState, 0), (O.fabricAddress, 0xFFFF), (O.originAddress, 0xFFFF), (O.memberCount, 1)]).modNet
      (fun n => { n with origin := none, best := none, path := none, settle := 0 })
  else s

/-- A link enters Down (R540): its cells are lost, LINK_DOWN is flooded, its repair plans wait for their boundary (R564, R572, R607). -/
def State.linkDown (s : State) (k : Fin 4) : State :=
  let l := s.linkOf k
  let s1 := (s.setLink k 1).modLink k (fun x => { x.emptied with rx := s.keptRx k })
  let s2 := s1.setObjs [(O.lanesTrained k.val, 0), (O.linkRunEligible k.val, 0)]
  let f := s2.nextFlood
  let a := (s2.ownAddr, k.val)
  let b := (l.nbAddr % 4096, l.nbPort)
  let bytes := leBytes 2 a.1 ++ leBytes 1 a.2 ++ leBytes 2 b.1 ++ leBytes 1 b.2 ++ leBytes 6 s2.tick ++ leBytes 2 f.1
  let runs := (runEntries l.txRuns ++ runEntries l.rxRuns).length
  let s3 := ((f.2.noteFlood f.2.floodAddr f.1).flood f.2.floodAddr 3 bytes none).noteLost a b s2.tick
  let s4 := if runs != 0 && !s.net.plans.any (fun p => sameLink p.endA p.endB a b) then s3.event 0x0905 runs else s3
  s4.checkAlone

/-- Run counts of a port from its active tables (R573). -/
def State.countRuns (s : State) (k : Fin 4) : State :=
  let l := runEntries (s.linkOf k).txRuns
  s.setObjs [(O.runsOriginated k.val, (l.filter (fun r => !r.fwd)).length), (O.runsForwarded k.val, (l.filter (·.fwd)).length),
    (O.audioBlocksReserved k.val, (l.map (·.blocks)).foldl (· + ·) 0)]

/-- The repair plan of a lost link is installed into the active tables (R607). The plans of every other link are void until the Origin's new
reservation is active, but for links that were lost before (R608). -/
def State.installPlan (s : State) (a b : Nat × Nat) (f : Nat) : State :=
  let l := s.net.plans.filter (fun p => sameLink p.endA p.endB a b)
  let s1 := l.foldl (fun s p => s.modLink (port4 p.port) (fun x =>
    if p.transmit then { x with txRuns := aPut 0 x.txRuns p.index p.word } else { x with rxRuns := aPut 0 x.rxRuns p.index p.word })) s
  let s2 := (ports.foldl State.countRuns s1).modNet (fun n => 
    let rest := n.lost.filter (fun z => !sameLink z.1 z.2.1 a b)
    { n with lost := rest, plans := n.plans.filter (fun p => rest.any (fun z => sameLink z.1 z.2.1 p.endA p.endB)), replan := true })
  let s3 := (s2.count O.repairsApplied 32 1).event 0x0904 (a.1 % 4096 + b.1 % 4096 * 2 ^ 12 + a.2 % 4 * 2 ^ 24 + b.2 % 4 * 2 ^ 26)
  if tickLe s.tick (f + 64) then s3 else s3.count O.lateRepairs 32 1

/-! ### HELLO, CLAIM and election (R580 to R584) -/

/-- Whether the device belongs to a fabric whose Origin it knows; in the election that follows the loss of its Origin it keeps its address and
shows that it has joined none (R582, R610). -/
def State.member (s : State) : Bool := s.joined && s.net.origin.isSome

/-- The bytes of the HELLO of port `k` (R576). -/
def State.helloBytes (s : State) (k : Fin 4) : List Byte :=
  let b := s.bestKey
  let o : Key := if s.member then s.originKey else { prio := 0, uid := 0 }
  leBytes 8 (s.obj O.uid) ++ leBytes 1 (s.obj O.originPriority) ++ leBytes 1 k.val ++ leBytes 1 (if s.member then 1 else 0) ++ leBytes 1 0 ++
  leBytes 1 b.prio ++ leBytes 8 b.uid ++ leBytes 1 o.prio ++ leBytes 8 o.uid ++ leBytes 4 (s.obj O.fabricEpoch) ++ leBytes 2 (s.obj O.memberCount)

/-- HELLO is sent on a link (R580). -/
def State.sendHello (s : State) (k : Fin 4) : State := s.sendOn k false (s.mkMsg 0xFFF 0 1 (s.helloBytes k))

/-- CLAIM is flooded with the own key and an epoch (R581, R582). -/
def State.floodClaim (s : State) (epoch : Nat) : State :=
  let f := s.nextFlood
  let o := f.2.ownKey
  (f.2.noteFlood f.2.floodAddr f.1).flood f.2.floodAddr 2 (leBytes 1 o.prio ++ leBytes 8 o.uid ++ leBytes 4 epoch ++ leBytes 2 f.1) none

/-- The epoch that follows another: its low 16 bits are never zero (R581). -/
def nextEpoch (e : Nat) : Nat :=
  let n := (e + 1) % 2 ^ 32
  if n % 65536 = 0 then n + 1 else n

/-- The bytes of a TOPOLOGY (R576). -/
def TopoDev.bytes (d : TopoDev) : List Byte :=
  leBytes 8 d.key.uid ++ leBytes 1 d.key.prio ++ leBytes 2 d.addr ++
  d.ports.flatMap (fun p => leBytes 1 p.state ++ leBytes 8 p.nbUid ++ leBytes 1 p.nbPort ++ leBytes 4 p.delay ++ leBytes 4 p.lead)

/-- The device as its own TOPOLOGY names it. -/
def State.ownTopo (s : State) : TopoDev :=
  { key := s.ownKey, addr := if s.joined then s.obj O.fabricAddress else s.obj O.requestedAddress
    ports := ports.map (fun k => { state := s.linkState k, nbUid := (s.linkOf k).nbUid, nbPort := (s.linkOf k).nbPort
                                   delay := s.obj (O.oneWayDelay k.val), lead := s.obj (O.linkTickOffset k.val) }) }

/-- An Origin is adopted (R581): its key and epoch, the path to it, TOPOLOGY toward it, event 0x0900. -/
def State.adoptOrigin (s : State) (o : Key) (epoch : Nat) (k : Fin 4) : State :=
  let s1 := (s.setObjs [(O.originUid, o.uid), (O.fabricEpoch, epoch)]).modNet (fun n =>
    { n with origin := some o, maxEpoch := max n.maxEpoch epoch, path := some k.val, settle := 0, depth := 0xFF, originDown := [] })
  let s2 := s1.event 0x0900 (s1.obj O.originAddress % 4096 + epoch * 65536)
  s2.sendOn k false (s2.mkMsg 0xFFF 0 8 s2.ownTopo.bytes)

/-! ### Addresses (R585 to R589) -/

/-- A device of a topology. -/
def topoDev (l : List TopoDev) (uid : Nat) : Option TopoDev := l.find? (fun d => d.key.uid = uid)

/-- Whether every device that a topology names has reported (R585). -/
def topoComplete (l : List TopoDev) : Bool :=
  l.all (fun d => d.ports.all (fun p => p.nbUid = 0 || (topoDev l p.nbUid).isSome))

/-- The neighbour of a device through port `k`, if its link is Up and ends at port `nb`. -/
def topoStep (l : List TopoDev) (k nb uid : Nat) : Option Nat :=
  match topoDev l uid with
  | none => none
  | some d => match d.ports[k]? with
    | some p => if p.state = 4 && p.nbPort = nb then some p.nbUid else none
    | none => none

/-- Steps from a device until it is met again, at most `fuel`. -/
def ringLength (step : Nat → Option Nat) (start : Nat) : Nat → Nat → Nat → Option Nat
  | 0, _, _ => none
  | f + 1, u, n =>
    match step u with
    | none => none
    | some v => if v = start then some (n + 1) else ringLength step start f v (n + 1)

/-- The device `n` steps away. -/
def stepsFrom (step : Nat → Option Nat) : Nat → Nat → Option Nat
  | 0, u => some u
  | n + 1, u => (step u).bind (stepsFrom step n)

/-- The torus dimensions of a topology, seen from a device (R586). -/
def torusDims (l : List TopoDev) (own : Nat) : Option (Nat × Nat) :=
  match ringLength (topoStep l 0 2) own 64 own 0, ringLength (topoStep l 1 3) own 64 own 0 with
  | some x, some y =>
    let ok := l.all (fun d => d.ports.all (fun p => p.state = 4) && ringLength (topoStep l 0 2) d.key.uid 64 d.key.uid 0 = some x &&
      ringLength (topoStep l 1 3) d.key.uid 64 d.key.uid 0 = some y)
    if 2 ≤ x ∧ 2 ≤ y ∧ l.length = x * y ∧ ok = true then some (x, y) else none
  | _, _ => none

/-- Devices in ascending Uid. -/
def byUid (l : List TopoDev) : List TopoDev := l.mergeSort (fun a b => decide (a.key.uid ≤ b.key.uid))

/-- The lowest free address. -/
def lowestFree (used : List Nat) : Nat := ((List.range 4096).find? (fun a => !used.contains a)).getD 0

/-- Addresses on a torus: y * TorusX + x with the Origin at (0, 0) (R585). -/
def torusAddrs (l : List TopoDev) (own x y : Nat) : List (Nat × Nat) :=
  (List.range y).flatMap (fun j => (List.range x).filterMap (fun i =>
    ((stepsFrom (topoStep l 1 3) j own).bind (stepsFrom (topoStep l 0 2) i)).map (fun u => (u, j * x + i))))

/-- Addresses elsewhere: held ones are kept, of two that are equal the lower Uid's, then requested ones if valid and free, else the lowest free
(R585, log entry 87). `gone` are addresses of lost devices, which are not free (R587). -/
def plainAddrs (l : List TopoDev) (held : List (Nat × Nat)) (gone : List Nat) : List (Nat × Nat) :=
  let keep := ((byUid l).filterMap (fun d => (held.find? (fun p => p.1 = d.key.uid)))).foldl (fun (acc : List (Nat × Nat)) p =>
    if acc.any (fun q => q.2 = p.2) || gone.contains p.2 then acc else acc ++ [p]) []
  ((byUid l).filter (fun d => !keep.any (fun p => p.1 = d.key.uid))).foldl (fun acc d =>
    let used := acc.map (fun (p : Nat × Nat) => p.2) ++ gone
    acc ++ [(d.key.uid, if d.addr < 4096 && !used.contains d.addr then d.addr else lowestFree used)]) keep

/-- Hops to a device from every device of a topology, by `n` rounds of relaxation. -/
def hopTable (l : List TopoDev) (target : Nat) : Nat → List (Nat × Nat)
  | 0 => [(target, 0)]
  | n + 1 =>
    let t := hopTable l target n
    let reach := l.filterMap (fun d =>
      if t.any (fun p => p.1 = d.key.uid) then none
      else if d.ports.any (fun p => (p.state = 4 || p.state = 5) && t.any (fun q => q.1 = p.nbUid)) then some (d.key.uid, n + 1) else none)
    t ++ reach

/-- The ports of a device on a shortest path to a target, in ascending order (R589). -/
def shortPorts (l : List TopoDev) (d : TopoDev) (target : Nat) : List Nat :=
  let t := hopTable l target l.length
  let dist := fun (u : Nat) => (t.find? (fun p => p.1 = u)).map (·.2)
  match dist d.key.uid with
  | none => []
  | some n => ((d.ports.zipIdx).filter (fun p => (p.1.state = 4 || p.1.state = 5) && n != 0 && dist p.1.nbUid = some (n - 1))).map (·.2)

/-- A route byte: primary in bits [3:0], alternate in bits [7:4] (R588). -/
def routeByte (primary alternate : Nat) : Nat := primary + 16 * alternate

/-- The route table of a device on any fabric that is not a torus (R589). -/
def plainRoutes (l : List TopoDev) (addrs : List (Nat × Nat)) (d : TopoDev) : List (Nat × Nat) :=
  addrs.foldl (fun acc p =>
    let b := if p.1 = d.key.uid then 0xFE else
      match shortPorts l d p.1 with
      | [] => 0xFF
      | [a] => routeByte a 0xF
      | a :: b :: _ => routeByte a b
    aPut 0xFF acc p.2 b) []

/-- The direction along one axis of a ring of `n`: 0 none, 1 forward, 2 backward; forward when equal (R589). -/
def ringDir (n here there : Nat) : Nat :=
  let fwd := (there + n - here) % n
  if fwd = 0 then 0 else if 2 * fwd ≤ n then 1 else 2

/-- The route table of a device of a torus from its coordinates (R589). -/
def torusRoutes (x y cx cy : Nat) : List (Nat × Nat) :=
  (List.range (x * y)).foldl (fun acc a =>
    let dx := ringDir x cx (a % x)
    let dy := ringDir y cy (a / x)
    let px := if dx = 1 then 0 else 2
    let py := if dy = 1 then 1 else 3
    let b := if dx = 0 ∧ dy = 0 then 0xFE else if dx = 0 then routeByte py 0xF else if dy = 0 then routeByte px 0xF else routeByte px py
    aPut 0xFF acc a b) []

/-- A Patchbay device that joins under another Origin sets TickSource to 6, from the next boundary (R785). -/
def State.patchbayFollow (s : State) : State :=
  if s.obj O.patchbayState = 2 && !s.isOrigin then { s with clk := { s.clk with pendSource := some 6 } } else s

/-- The device takes an address (R585): its objects, event 0x0901, and on a torus its own route table. -/
def State.takeAddress (s : State) (addr x y coord originAddr : Nat) : State :=
  let s1 := s.setObjs [(O.fabricAddress, addr), (O.torusX, x), (O.torusY, y), (O.coordinates, coord), (O.originAddress, originAddr), (O.fabricState, 3)]
  let s2 := (s1.event 0x0901 (addr + coord % 65536 * 65536)).patchbayFollow
  if x = 0 then s2
  else s2.modNet (fun n => { n with routesPend := some (torusRoutes x y (coord % 256) (coord / 256)), routesGot := 4096 })

/-- An ADDRESS message (R576). -/
def State.addressMsg (s : State) (src uid addr x y coord : Nat) : Msg :=
  { s.mkMsg 0xFFF 0 9 (leBytes 8 uid ++ leBytes 2 addr ++ leBytes 1 x ++ leBytes 1 y ++ leBytes 2 coord) with src := src }

/-- The Origin assigns the addresses once its topology is complete (R585). An address that a device reports and that stands in the route table was
held before, under another Origin as well. ADDRESS goes to every device, ROUTES where there is no torus, and the activation tick of the route
tables with a new reservation (R590). -/
def State.assignAll (s : State) : State :=
  let own := s.obj O.uid
  let l := s.ownTopo :: s.net.topo
  if !topoComplete l then s
  else
    let here := fun (u : Nat) => l.any (fun d => d.key.uid = u)
    let epoch := s.obj O.fabricEpoch
    let lost := s.net.lostAddrs.filter (fun p => !here p.1) ++ (s.net.assigned.filter (fun p => !here p.1)).map (fun p => (p.1, p.2, epoch))
    let gone := (lost.filter (fun p => p.2.2 = epoch)).map (fun p => p.2.1)
    let old := s.net.assigned ++ s.net.lostAddrs.map (fun p => (p.1, p.2.1))
    let dims := torusDims l own
    let addrs := match dims with
      | some (x, y) => torusAddrs l own x y
      | none => plainAddrs l (old ++ (l.filter (fun d => decide (d.addr < 4096) && s.hasRoute d.addr)).map (fun d => (d.key.uid, d.addr))) gone
    let d := dims.getD (0, 0)
    let coordOf := fun (a : Nat) => if d.1 = 0 then 0 else a % d.1 + a / d.1 * 256
    let ownA := ((addrs.find? (fun p => p.1 = own)).map (·.2)).getD 0
    let s1 := (s.setObj O.memberCount addrs.length).modNet (fun n => { n with assigned := addrs, lostAddrs := lost, replan := true })
    let s2 := s1.takeAddress ownA d.1 d.2 (coordOf ownA) ownA
    let s3 := (addrs.filter (fun p => p.1 != own)).foldl (fun s p =>
      s.spread (s.addressMsg s.ownAddr p.1 p.2 d.1 d.2 (coordOf p.2))) s2
    if d.1 != 0 then s3
    else
      let own_ := s3.modNet (fun n => { n with routesPend := some (plainRoutes l addrs s.ownTopo), routesGot := 4096 })
      l.foldl (fun s dev =>
        match addrs.find? (fun p => p.1 = dev.key.uid) with
        | some p => if p.1 = own then s else
            let t := plainRoutes l addrs dev
            ([0, 2040, 4080] : List Nat).foldl (fun s f =>
              s.sendDown (s.mkMsg p.2 0 10 (leBytes 2 f ++ (List.range (min 2040 (4096 - f))).map (fun i => BitVec.ofNat 8 (aGet 0xFF t (f + i)))))) s
        | none => s) own_

/-! ### The tick (R584, R590, R595, R596, R602, R610) -/

/-- TimeState changed, with event 0x0902 (R614). -/
def State.setTime (s : State) (v : Nat) : State :=
  if s.obj O.timeState = v then s else (s.setObj O.timeState v).event 0x0902 (v + s.obj O.timeDepth * 256)

/-- Whether a link carries time: Up, Degraded, Long (R611), and Fast idle, which is not Down (R610). -/
def State.timeLink (s : State) (k : Fin 4) : Bool := decide (4 ≤ s.linkState k) && decide (s.linkState k ≤ 7) && decide ((s.linkOf k).nbDepth < 0xFF)

/-- The parent of the device (R595): the neighbour with the lowest DEPTH, ties to the lower port. Without its parent link, only a neighbour with a
DEPTH below its own will do, and none once the Origin has no Up link (R610, log entry 122). -/
def State.parent (s : State) : Option (Fin 4) :=
  let keeps := s.obj O.timeParent < 4 && s.timeLink (port4 (s.obj O.timeParent))
  let up := ports.filter (fun k => s.timeLink k && s.net.originDown.length != 4 && (keeps || decide ((s.linkOf k).nbDepth < s.net.depth)))
  up.foldl (fun acc k =>
    match acc with
    | none => some k
    | some b => if (s.linkOf k).nbDepth < (s.linkOf b).nbDepth then some k else acc) none

/-- Parent, depth, offset and the counts of R596 and R610 for one tick; a device that loses its parent goes into holdover. -/
def State.timeTick (s : State) : State :=
  if !s.joined || s.isOrigin then
    ((s.setObjs [(O.timeParent, 0xFF), (O.timeDepth, if s.joined then 0 else 0xFF), (O.originOffset, 0)]).modNet
      (fun n => { n with near := 0, far := 0, orphan := 0, depth := 0xFF, adrift := 0 })).setTime 0
  else match s.parent with
    | none =>
      let s1 := (s.setObjs [(O.timeParent, 0xFF), (O.timeDepth, 0xFF)]).modNet (fun n =>
        { n with near := 0, far := 0, orphan := n.orphan + 1, adrift := if s.obj O.fabricState = 2 then 0 else n.adrift + 1 })
      if s1.obj O.timeState = 0 then s1 else s1.setTime 3
    | some k =>
      let off := (s.linkOf k).offsetPs
      let s1 := s.setObjs [(O.timeParent, k.val), (O.timeDepth, (s.linkOf k).nbDepth + 1), (O.originOffset, intObj off)]
      let s2 := s1.modNet (fun n => { n with
        depth := (s.linkOf k).nbDepth + 1, near := if off.natAbs ≤ 20000 then n.near + 1 else 0, far := if 40000 < off.natAbs then n.far + 1 else 0, orphan := 0, adrift := 0 })
      if s2.obj O.timeState = 0 ∨ s2.obj O.timeState = 3 then s2.setTime 1 else s2

/-- A complete pending route table takes effect (R590). -/
def State.applyRoutes (s : State) : State :=
  match s.net.routesPend with
  | some t =>
    if s.net.routesDue && decide (4096 ≤ s.net.routesGot) then
      (s.modNet (fun n => { n with routes := t, routesPend := none, routesGot := 0, routesDue := false })).setObj O.routeActivationTick s.tick
    else s
  | none => s

/-- The activation tick of a reservation: run tables swap, its repair plans are in force, also for a link already lost that it still uses, the pending route table becomes due; late is counted (R602,
R608, R611). -/
def State.applyActivate (s : State) : State :=
  match s.net.activate with
  | none => s
  | some (g, a) =>
    if !tickLe a s.tick then s
    else
      let s1 := ports.foldl (fun s k => (s.modLink k (fun l =>
        { l with txRuns := l.txPend, txPend := l.txRuns, rxRuns := l.rxPend, rxPend := l.rxRuns })).countRuns k) s
      let s2 := (s1.setObjs [(O.reservationGeneration, g), (O.reservationActivationTick, a), (O.unprotectedRuns, s1.net.unplanned)]).modNet
        (fun n => { n with activate := none, routesDue := n.routesPend.isSome, plans := n.plansPend, plansPend := [], replan := false,
                           lost := n.lost.filter (fun l => n.plansPend.any (fun p => sameLink l.1 l.2.1 p.endA p.endB)) })
      let s3 := if a = s.tick then s2 else s2.count O.lateActivations 32 1
      s3.event 0x0908 g

/-- A TickCount step at the boundary (R584): the neighbour's count, every other Up link retrained, the windows restarted (R719). -/
def State.applyStep (s : State) : State :=
  match s.net.stepFrom with
  | none => s
  | some k =>
    let t := wrapAdd 48 (s.linkOf (port4 k)).nbTick 1
    let s1 := (s.setObj O.tickCount t).modNet (fun n => { n with stepFrom := none })
    let s2 := (ports.filter (fun j => j.val != k && s.linkState j = 4)).foldl (fun s j => (s.modLink j Link.emptied).setLink j 2) s1
    let cut := t % 4096 != 0
    let s3 := ports.foldl (fun s j => s.modLink j (fun l => { l with cut := cut })) s2
    (({ s3 with integ := { s3.integ with storm := 0, cut := cut } } : State).setObjs (ports.map (fun j => (O.windowErrors j.val, 0)))).event 0x0903 t

/-- What a boundary does for the fabric, after TickCount has advanced. -/
def State.netTick (s : State) : State :=
  let s1 := s.applyStep.applyActivate.applyRoutes.timeTick
  s1.modNet (fun n => { n with settle := n.settle + 1, seen := n.seen.filter (fun p => tickLe s1.tick (p.2.2 + 65536)) })

end Sys2Proof.Machine
end

