-- ==== Sys2Proof/Machine/Links.lean ====
section
/-! DEFINITION. Commands of the Kyonus links (R538 to R568, R546). -/
namespace Sys2Proof.Machine
open Sys2Proof

/-- A write of LinkEnable (R540, R547). -/
def State.writeLinkEnable (s : State) (key : SessKey) (kport : Nat) (k : Fin 4) (words : List (BitVec 32)) : State :=
  s.writeReq key kport (O.linkEnable k.val) words {} (fun s =>
    let s1 := s.setObj (O.linkEnable k.val) (wordsNat words)
    let st := s1.linkState k
    if wordsNat words = 1 then (if st = 0 then s1.setLink k 2 else if st = 9 then s1.setLink k 10 else s1)
    else if st = 0 ∨ st = 9 then s1
    else if st = 10 then s1.setLink k 9
    else (s1.modLink k (fun l => { l with was := st })).setLink k 9)

def execLinkEnable (src : Src) (k : Fin 4) (s : State) : Out := .next (s.writeLinkEnable src.key src.link.val k [1])

def execLinkDisable (src : Src) (k : Fin 4) (s : State) : Out := .next (s.writeLinkEnable src.key src.link.val k [0])

/-- The shutdown of a link completes: Disabled, and Training where a restart is queued (R547). -/
def execLinkShutdownComplete (k : Fin 4) (s : State) : Out :=
  let st := s.linkState k
  .next (if st = 9 ∨ st = 10 then
    let s1 := (((s.setLink k 0).modLink k (fun x => { x.emptied with rx := s.keptRx k })).setObj (O.lanesTrained k.val) 0).checkAlone
    if st = 10 then s1.setLink k 2 else s1
  else if st = 1 ∧ s.obj (O.linkEnable k.val) = 0 then s.setLink k 0
  else s)

/-- Whether the receivers run: KTX and KRX need the SerDes PLL, and from Doze on they are off (R789, R809, R813, R824). -/
def State.serdesRuns (s : State) : Bool := s.obj (O.pllState 1) = 2 && decide (s.obj O.powerState ≤ 1)

/-- Signal on every lane of an enabled link that is Down, or in the Deep idle of its neighbour: Training (R540, R546), once the SerDes PLL is
locked (R809). -/
def execLinkSignalDetect (k : Fin 4) (s : State) : Out :=
  .next (if (s.linkState k = 1 ∨ s.linkState k = 8) ∧ s.obj (O.linkEnable k.val) = 1 ∧ s.serdesRuns = true then s.setLink k 2 else s)

/-- A lane gains block lock; a swapped pair or an inverted lane found in Training is recorded, and READY is set once every lane is locked
(R538, R541). -/
def execLaneBlockLock (k : Fin 4) (lane : Fin 2) (swapped inverted : Bool) (s : State) : Out :=
  let s1 := s.modLink k (fun l => if lane = 0 then { l with lock0 := true } else { l with lock1 := true })
  let old := s.obj (O.laneMap k.val)
  let new := bitIf swapped 0 + bitIf (if lane = 0 then inverted else old.testBit 1) 1 + bitIf (if lane = 1 then inverted else old.testBit 2) 2
  let s2 := if s.linkState k = 2 ∧ new ≠ old then (s1.setObj (O.laneMap k.val) new).linkEvent k 2 new else s1
  let l := s2.linkOf k
  let ready := l.lock0 && (!l.two || l.lock1)
  .next (if s.linkState k < 2 ∨ s.linkState k = 8 then s else if s.linkState k = 2 ∧ ready = true then s2.train k true else s2)

/-- Whether a lane is in use. -/
def State.laneUsed (s : State) (k : Fin 4) (lane : Fin 2) : Bool := lane = 0 || s.obj (O.lanesTrained k.val) = 2

/-- A lane loses block lock; from Framing on the link goes Down, also while it shuts down. In Deep idle the receivers are stopped (R538, R540,
R546; log entry 114). -/
def execLaneLockLoss (k : Fin 4) (lane : Fin 2) (s : State) : Out :=
  let s1 := s.modLink k (fun l => if lane = 0 then { l with lock0 := false } else { l with lock1 := false })
  .next (if s.linkState k ≥ 3 ∧ s.linkState k ≠ 8 ∧ s.laneUsed k lane = true then s1.linkDown k else s1)

/-- READY on every lane in use: tick frames start, the link is Framing, the first HELLO is sent (R541, R580). `two`: the other
end uses two lanes (R532); where it does not, READY goes out with lane 0 alone locked. -/
def execTrainingComplete (k : Fin 4) (two : Bool) (s : State) : Out :=
  let l := s.linkOf k
  let lanes := if l.two && two then 2 else 1
  .next (if s.linkState k = 2 && l.lock0 && (lanes = 1 || l.lock1) then
    let s0 := if l.two && lanes = 1 && !l.lock1 then s.train k true else s
    let s1 := ((s0.setObj (O.lanesTrained k.val) lanes).modLink k (fun l => { l with good := 0 })).setLink k 3
    let s2 := if s1.obj O.fabricState = 0 then s1.setObj O.fabricState 1 else s1
    s2.sendHello k
  else s)

/-- Training not complete in 10 ms, or a lane skew above 8 positions: Down, counted (R541). -/
def execTrainingTimeout (k : Fin 4) (s : State) : Out :=
  .next (if s.linkState k = 2 then (s.count (O.linkRetrains k.val) 32 1).linkDown k else s)

def execTickFrameTransmit (k : Fin 4) (s : State) : Out := .next (s.transmit k)

/-- The data of the blocks of a received frame, by place. -/
def blockData (got : List (BitVec 14 × LineBlock)) : List (Nat × BitVec 64) :=
  got.foldl (fun (t : List (Nat × BitVec 64)) p => aPut 0 t p.1.toNat ((lineData p.2).getD 0)) []

/-- Blocks of a frame on port `k` before its cells, and before its guard (R551). -/
def State.framePlaces (s : State) (k : Fin 4) : Nat × Nat :=
  let fs := s.obj O.tickRate
  let lanes := s.obj (O.lanesTrained k.val)
  let n := 4 + audioBlocks fs lanes
  (n, n + ctlBlocks fs lanes + bulkBlocks fs lanes)

/-- The places of a received frame whose block is taken as ERROR (R539). -/
def State.blockErrors (s : State) (k : Fin 4) (got : List (BitVec 14 × LineBlock)) : List Nat :=
  (got.filter (fun p => !blockFits (s.framePlaces k) p.1.toNat p.2)).map (·.1.toNat)

/-- A header payload: of the block received at its place, if it is given, else the operand. -/
def headWord (got : List (BitVec 14 × LineBlock)) (j : Nat) (h : BitVec 64) : BitVec 64 :=
  match got.find? (fun p => p.1.toNat = j) with
  | some p => (lineData p.2).getD 0
  | none => h

/-- A received tick frame (R554, R555): its marks, the header's payloads, the blocks received by place in the frame, further blocks taken as
ERROR, blocks not there by the latch, the own arrival value. A TICK_MARK taken as ERROR is no valid one. -/
def execTickFrameReceived (k : Fin 4) (marks : Bool) (mark : BitVec 32) (h0 h1 h2 h3 : BitVec 64) (got : List (BitVec 14 × LineBlock))
    (bad late : List (BitVec 14)) (arrival : BitVec 32) (s : State) : Out :=
  let wrong := (bad.map (·.toNat)).foldl setAdd (s.blockErrors k got)
  .next (s.receive k (marks && wrong.all (fun j => decide (j < markPlace))) mark.toNat (headWord got 0 h0) (headWord got 1 h1) (headWord got 2 h2)
    (headWord got 3 h3) (blockData got) wrong (late.map (·.toNat)) arrival.toInt)

/-- An error window ends: a Degraded link with no error in a whole one returns to Up (R542, R543). Held while TickCount holds (R719). -/
def execErrorWindowEnd (k : Fin 4) (s : State) : Out :=
  let clean := s.obj (O.windowErrors k.val) = 0 ∧ (s.linkOf k).cut = false
  let s1 := (s.setObj (O.windowErrors k.val) 0).modLink k (fun l => { l with cut := false })
  .next (if s.tickHeld then s else if clean ∧ s.linkState k = 5 then s1.linkUp k else s1)

def execCellReceived (k : Fin 4) (bulk : Bool) (blocks : List (BitVec 64)) (s : State) : Out := .next (s.cell k bulk blocks)

/-- The oldest sent cell has gone four frames without acknowledgement: it and every later cell are sent again; after 16
retransmissions the link goes Down (R563, R564). -/
def State.retransmit (s : State) (k : Fin 4) (bulk : Bool) : State :=
  let c := (s.linkOf k).chan bulk
  match c.queue with
  | [] => s
  | x :: _ =>
    if !s.framing k || !x.sent || decide (x.age < 4) then s
    else if 16 ≤ x.tries then ((s.count (O.linkRetrains k.val) 32 1).linkDown k).linkEvent k 4 x.tries
    else
      let n := (c.queue.filter (·.sent)).length
      (s.modLink k (fun l => l.setChan bulk { c with queue := c.queue.map (fun y =>
        if y.sent then { y with sent := false, age := 0, tries := y.tries + 1 } else y) })).count (O.cellRetransmits k.val) 32 n

def execCellRetransmit (k : Fin 4) (bulk : Bool) (s : State) : Out := .next (s.retransmit k bulk)

/-- SLEEP from the other end: the link is in Deep idle, and the groups of its runs go missing (R546, R569). -/
def execSleepReceived (k : Fin 4) (s : State) : Out := .next (if s.linked k then s.setLink k 8 else s)

end Sys2Proof.Machine
end

