-- ==== Sys2Proof/Machine/Sap.lean ====
section
/-! DEFINITION. Commands of the serial audio ports (R504 to R526). -/
namespace Sys2Proof.Machine
open Sys2Proof

def execPortEnable (src : Src) (p : Fin 4) (s : State) : Out := .next (s.writePortEnable src.key src.link.val p [1])

def execPortShutdown (src : Src) (p : Fin 4) (s : State) : Out := .next (s.writePortEnable src.key src.link.val p [0])

def execPortShutdownComplete (p : Fin 4) (s : State) : Out := .next (s.sapOff p)

/-- The three objects that only state Off accepts: SapFormat, PartnerRate, ConverterMode (R524). -/
def sapSetting (p : Fin 4) (which : Fin 3) : Nat :=
  if which = 0 then O.sapFormat p.val else if which = 1 then O.partnerRate p.val else O.converterMode p.val

/-- A write of SapFormat, PartnerRate or ConverterMode (R524, R530). -/
def State.writeSapSetting (s : State) (k : SessKey) (kport : Nat) (p : Fin 4) (which : Fin 3) (words : List (BitVec 32)) : State :=
  s.writeReq k kport (sapSetting p which) words
    { mode := s.portState p = 0, range := which != 0 || sapFormatOk (wordsNat words) }
    (fun s => s.setObj (sapSetting p which) (wordsNat words))

def execSapFormatWrite (src : Src) (p : Fin 4) (which : Fin 3) (words : List (BitVec 32)) (s : State) : Out :=
  .next (s.writeSapSetting src.key src.link.val p which words)

def execSapFrame (p : Fin 4) (bclk : BitVec 16) (q : BitVec 16) (rate : BitVec 32) (lanes : List (List Bool)) (s : State) : Out :=
  .next (s.sapFrame p bclk.toNat q.toNat rate.toNat lanes)

def execSapClockLoss (p : Fin 4) (s : State) : Out := .next (s.sapLoss p)

def execConverterLocked (p : Fin 4) (inbound : Bool) (s : State) : Out := .next (s.convLock p inbound)

def execConverterUnlock (p : Fin 4) (inbound : Bool) (s : State) : Out := .next (s.convUnlock p inbound)

/-- The MCLK objects: enable, divider, delay (R519). -/
def mclkSetting (p : Fin 4) (which : Fin 3) : Nat :=
  if which = 0 then O.mclkEnable p.val else if which = 1 then O.mclkDivider p.val else O.mclkDelay p.val

/-- A write of an MCLK object; the clock follows at the next MEDIA tick edge (R519). -/
def execMclkConfigWrite (src : Src) (p : Fin 4) (which : Fin 3) (words : List (BitVec 32)) (s : State) : Out :=
  .next (s.writeReq src.key src.link.val (mclkSetting p which) words {} (fun s => s.setObj (mclkSetting p which) (wordsNat words)))

end Sys2Proof.Machine
end

