-- ==== Sys2Proof/Machine/XipOps.lean ====
section
/-! DEFINITION. The verified XIP window and the boot flash (R654 to R663). -/
namespace Sys2Proof.Machine
open Sys2Proof

def State.modXip (s : State) (f : Xip → Xip) : State := { s with xip := f s.xip }

/-- The `n` bytes of the flash from a byte address; an erased byte reads 0xFF. -/
def State.flashBytes (s : State) (a : Nat) : Nat → List Byte
  | 0 => []
  | n + 1 => aGet 0xFF#8 s.flash a :: State.flashBytes s (a + 1) n

/-- Whether a read of `n` bytes of the flash fails twice; the port then stays in 1S-1S-1S until the next reset (R656). -/
def State.flashFails (s : State) (a n : Nat) : Bool := s.xip.bad.any (fun b => overlap a n (4096 * b) 4096)
def State.noteFlash (s : State) (a n : Nat) : State := if s.flashFails a n then s.setObj O.flashMode 0 else s

/-- Bus base of the window (R44). -/
def xipWindow : Nat := 0x30000000

/-- A fetch fault of block `b`: counted, its flash address kept, event 0x0B0A (R659, R773). -/
def State.fetchFault (s : State) (b : Nat) : State :=
  let a := (s.obj O.xipBase + 4096 * b) % 2 ^ 32
  ((s.count O.xipFetchFaults 32 1).setObj O.xipLastFault a).event 0x0B0A a

/-- Whether the digest of a block matches its entry of the hash table (R658, R659). -/
def State.digestOk (s : State) (b : Nat) (l : List Byte) : Bool :=
  decide (b < s.xip.hashCount) && (Config.sha384 l).take 32 = memBytes s.mem (s.xip.hashBase + 32 * b) 32

/-- A fill of block `b`: on a match its line, which keeps the number of the flash block, becomes the most recently used of at most 64
(R657 to R659). A block that fails to read twice
has no match (R656, log entry 117). -/
def State.fillBlock (s : State) (b : Nat) : Option (List Byte) × State :=
  let a := s.obj O.xipBase + 4096 * b
  let l := s.flashBytes a 4096
  let s1 := (s.count O.xipFills 32 1).noteFlash a 4096
  let k := a / 4096
  if s.digestOk b l && !s.flashFails a 4096 then (some l, s1.modXip (fun x => { x with lines := ((k, l) :: x.lines.filter (fun p => p.1 != k)).take 64 }))
  else (none, s1.fetchFault b)

/-- Flash bytes programmed: bits change from 1 to 0 only (R736). -/
def State.flashProgram (s : State) (a : Nat) (l : List Byte) : State :=
  { s with flash := (l.zipIdx).foldl (fun m p => aPut 0xFF#8 m (a + p.2) (aGet 0xFF#8 m (a + p.2) &&& p.1)) s.flash }

/-- Flash bytes erased. -/
def State.flashErase (s : State) (a n : Nat) : State := { s with flash := s.flash.filter (fun c => !inRange a n c.1) }

/-- Lines that overlap a range of the flash are invalidated (R663). -/
def State.dropLines (s : State) (a n : Nat) : State :=
  s.modXip (fun x => { x with lines := x.lines.filter (fun p => !overlap (4096 * p.1) 4096 a n) })

/-- A flash operation performed at an address. -/
def State.flashDo (s : State) (a : Nat) (op : FlashOp) : State :=
  match op with
  | .program d => (s.flashProgram a d).dropLines a d.length
  | .erase n => (s.flashErase a n).dropLines a n
  | .register => s

/-- The raw command, where one runs, performed: its range changes, overlapping lines are invalidated (R663). -/
def State.rawDone (s : State) : State :=
  match s.xip.raw with
  | none => s
  | some (a, op) => (s.flashDo a op).modXip (fun x => { x with raw := none })

/-- The line of block `b` of the window where it is valid, now the most recently used; a miss fills it. -/
def State.lineOrFill (s : State) (b : Nat) : Option (List Byte) × State :=
  match s.xip.lines.find? (fun p => p.1 = s.obj O.xipBase / 4096 + b) with
  | some p => (some p.2, s.modXip (fun x => { x with lines := p :: x.lines.filter (fun q => q.1 != p.1) }))
  | none => s.fillBlock b

/-- The raw command completes where one runs, and a fill that waits for it goes first of all that follows (R663). -/
def State.rawThenFill (s : State) : State :=
  match s.xip.raw, s.xip.fillWait with
  | none, _ => s
  | some _, none => s.rawDone
  | some _, some o => ((s.rawDone.modXip (fun x => { x with fillWait := none })).lineOrFill (o / 4096)).2

/-- An access to block `b` of the window: its line, or a fill, which waits for a raw command that runs and so reads what that leaves
(R663, log entry 144); none is a fetch fault. -/
def State.xipBlock (s : State) (b : Nat) : Option (List Byte) × State :=
  if s.xip.lines.any (fun p => p.1 = s.obj O.xipBase / 4096 + b) then s.lineOrFill b else s.rawThenFill.lineOrFill b

/-- The bytes of blocks `b` up. -/
def State.xipBlocks : Nat → Nat → State → Option (List Byte) × State
  | 0, _, s => (some [], s)
  | n + 1, b, s =>
    match s.xipBlock b with
    | (none, t) => (none, t)
    | (some l, t) =>
      match State.xipBlocks n (b + 1) t with
      | (none, u) => (none, u)
      | (some r, u) => (some (l ++ r), u)

/-- A read of `n` bytes at window offset `o`. -/
def State.xipRead (s : State) (o n : Nat) : Option (List Byte) × State :=
  let r := State.xipBlocks ((o % 4096 + n + 4095) / 4096) (o / 4096) s
  (r.1.map (fun l => (l.drop (o % 4096)).take n), r.2)

/-- Whether a range meets the locked hash table in Hull SRAM (R662). -/
def State.hashLocked (s : State) (a n : Nat) : Bool := s.xip.lock && overlap a n s.xip.hashBase (32 * s.xip.hashCount)

/-- A cache miss at a window offset while the window is enabled: its block is filled and checked; a raw command that runs
is awaited (R658, R663). -/
def execXipFill (o : BitVec 26) (s : State) : Out :=
  .next (if !s.xip.enable then s
    else if s.xip.raw.isSome then s.modXip (fun x => { x with fillWait := some o.toNat })
    else (s.xipBlock (o.toNat / 4096)).2)

/-- LOCK written 1 (R662). -/
def execXipLock (s : State) : Out := .next (s.modXip (fun x => { x with lock := true }))

/-- INVALIDATE written 1 (R661). -/
def execXipInvalidate (s : State) : Out := .next (s.modXip (fun x => { x with lines := [] }))

/-- A raw command of the flash port: a program, an erase or a register command at a flash address (R663). Only one runs at a time, and none
after a thermal shutdown (R43). -/
def execFlashRawCommand (a : BitVec 32) (op : FlashCmd) (s : State) : Out :=
  let o : FlashOp := match op with
    | .program d => .program d
    | .erase n => .erase n.toNat
    | .register => .register
  .next (if s.xip.raw.isSome || s.life = .stopped then s else s.modXip (fun x => { x with raw := some (a.toNat, o) }))

/-- The raw command completes: its range changes, overlapping lines are invalidated, a waiting fill goes first (R663); none completes after a
thermal shutdown (R43). -/
def execFlashProgramComplete (s : State) : Out := .next (if s.life = .stopped then s else s.rawThenFill)

end Sys2Proof.Machine
end

