-- ==== Sys2Proof/Machine/DmaOps.lean ====
section
/-! DEFINITION. DMA channels: descriptors, write-back, halts, the objects that start and stop them (R665 to R689). -/
namespace Sys2Proof.Machine
open Sys2Proof

def State.chan (s : State) (c : Fin 32) : DmaChan := lane s.dma.chan c
def State.modChan (s : State) (c : Fin 32) (f : DmaChan → DmaChan) : State :=
  { s with dma := { s.dma with chan := put s.dma.chan c (f (lane s.dma.chan c)) } }
def State.modDma (s : State) (f : Dma → Dma) : State := { s with dma := f s.dma }

/-- ChannelState (R676): 0 Idle, 1 Running, 2 Parked, 3 Halted, 4 Stopping. -/
def State.chanState (s : State) (c : Fin 32) : Nat := s.obj (O.channelState c.val)

/-- The address of the descriptor a channel is at. -/
def State.chanDesc (s : State) (c : Fin 32) : Nat := s.obj (O.currentDescriptor c.val)

/-! ### Fields of a descriptor (R670) -/

def DmaDesc.own (d : DmaDesc) : Bool := d.ctrl.getLsbD 31
def DmaDesc.last (d : DmaDesc) : Bool := d.ctrl.getLsbD 30
def DmaDesc.irq (d : DmaDesc) : Bool := d.ctrl.getLsbD 29
def DmaDesc.srcKind (d : DmaDesc) : Nat := d.ctrl.toNat / 2 ^ 27 % 4
def DmaDesc.dstKind (d : DmaDesc) : Nat := d.ctrl.toNat / 2 ^ 25 % 4
def DmaDesc.burst (d : DmaDesc) : Nat := d.ctrl.toNat / 2 ^ 20 % 16

/-- The descriptor that 32 bytes hold. -/
def dmaDesc (l : List Byte) : DmaDesc :=
  let f := fun (o n : Nat) => leNat ((l.drop o).take n)
  { ctrl := BitVec.ofNat 32 (f 0 4), src := BitVec.ofNat 64 (f 8 8), dst := BitVec.ofNat 64 (f 16 8), length := f 24 4, next := f 28 4 }

/-- Whether a memory address of a descriptor is well formed. -/
def dmaAddrOk (a : BitVec 64) : Bool := fieldOf a 40 24 = 0 && fieldOf a 0 2 = 0

/-- Reserved fields, kinds, burst code and alignment (R670, R680). -/
def DmaDesc.ok (d : DmaDesc) : Bool :=
  !d.ctrl.getLsbD 24 && d.ctrl.toNat % 2 ^ 20 = 0 && d.srcKind != 3 && decide (d.dstKind < 2) && decide (d.burst ≤ 6) && d.length % 4 = 0 &&
  (if d.srcKind = 0 then dmaAddrOk d.src else if d.srcKind = 1 then fieldOf d.src 32 32 = 0 else fieldOf d.src 44 20 = 0 && fieldOf d.src 0 32 = 0) &&
  (if d.dstKind = 0 then dmaAddrOk d.dst else fieldOf d.dst 44 20 = 0 && fieldOf d.dst 5 27 = 0)

/-- The peer device of a fabric descriptor, and the receiving channel that a session of it names. -/
def DmaDesc.sends (d : DmaDesc) : Option (Nat × Nat) := if d.dstKind = 1 then some (fieldOf d.dst 32 12, fieldOf d.dst 0 5) else none
def DmaDesc.receives (d : DmaDesc) : Option Nat := if d.srcKind = 2 then some (fieldOf d.src 32 12) else none

/-- The STATUS word (R670). -/
def dmaStatus (done : Bool) (result : Nat) (c : DmaChan) : Nat :=
  bitIf done 31 + result % 8 * 2 ^ 28 + bitIf c.collision 27 + min c.retries 15 * 2 ^ 23

/-- A descriptor lies on a 32-byte boundary in Hull SRAM or in the fitted LPDDR5X (R670, R677). -/
def State.descPlace (s : State) (a : Nat) : Bool :=
  a % 32 = 0 && (inRange 0x10000000 0x400000 a || inRange 0x1000000000 s.lpddrBytes a)

/-- A word of a descriptor is written; a word that shares its code word with an uncorrectable one is not (R711). -/
def State.putDescWord (s : State) (a v : Nat) : State :=
  if (s.partialBad a 4).isSome then s.count O.partialWritesRefused 32 1 else s.store a 4 v

/-- The event of a descriptor: kind 1 completed, 2 halted, 3 stopped (R682). -/
def State.dmaEvent (s : State) (c : Fin 32) (result kind : Nat) : State :=
  s.event (0x0E00 + c.val) (s.chanDesc c % 2 ^ 40 + result % 8 * 2 ^ 40 + kind * 2 ^ 48)

/-- Write-back: STATUS, then CTRL with OWN = 0 (R674), the result, and the event of an IRQ descriptor. -/
def State.writeBack (s : State) (c : Fin 32) (d : DmaDesc) (done : Bool) (result kind : Nat) : State :=
  let a := s.chanDesc c
  let s1 := (s.putDescWord (a + 4) (dmaStatus done result (s.chan c))).putDescWord a (d.ctrl.toNat % 2 ^ 31)
  let s2 := s1.setObj (O.lastResult c.val) result
  if d.irq then s2.dmaEvent c result kind else s2

/-- A halt: STATUS with DONE = 0 where the descriptor was read, OWN left, event (R680, R681, R682). -/
def State.haltChan (s : State) (c : Fin 32) (result : Nat) : State :=
  let s1 := match (s.chan c).desc with
    | some _ => s.putDescWord (s.chanDesc c + 4) (dmaStatus false result (s.chan c))
    | none => s
  ((s1.setObjs [(O.channelState c.val, 3), (O.lastResult c.val, result)]).count (O.halts c.val) 32 1).dmaEvent c result 2

/-- The channel forgets the descriptor it served. -/
def DmaChan.fresh (c : DmaChan) : DmaChan := { DmaChan.reset with bell := c.bell }

/-- The channel stands at the descriptor of an address, not yet read. -/
def State.goDesc (s : State) (c : Fin 32) (a : Nat) : State :=
  (s.modChan c DmaChan.fresh).setObjs [(O.currentDescriptor c.val, a), (O.channelRemaining c.val, 0)]

/-- BULK_ABORT to the peer of a fabric descriptor (R684). -/
def State.sendAbort (s : State) (c : Fin 32) (d : DmaDesc) : State :=
  let s1 := match d.sends with
    | some (dev, ch) => s.sendRouted true (s.mkMsg dev ch 0x82 [])
    | none => s
  match d.receives with
  | some dev => s1.sendRouted true (s1.mkMsg dev c.val 0x82 [])
  | none => s1

/-- A channel is stopped by its state (R685); it enters Idle. -/
def State.stopChan (s : State) (c : Fin 32) : State :=
  let v := s.chanState c
  let s1 := match (s.chan c).desc with
    | none => s
    | some d =>
      if v = 1 then (s.writeBack c d false 7 3).sendAbort c d
      else if v = 3 then (s.putDescWord (s.chanDesc c) (d.ctrl.toNat % 2 ^ 31)).sendAbort c d
      else s
  if v = 1 ∨ v = 2 ∨ v = 3 then (s1.modChan c (fun _ => DmaChan.reset)).setObjs [(O.channelState c.val, 0), (O.channelRemaining c.val, 0)] else s1

/-! ### Objects -/

/-- Channel 31 belongs to the Locus drain (R669, R689). -/
def State.drainOwns (s : State) (c : Fin 32) : Bool := c.val = 31 && s.obj O.locusDrainEnable = 1

/-- A write of ChannelHead (R677, R689). -/
def State.writeChannelHead (s : State) (k : SessKey) (kport : Nat) (c : Fin 32) (words : List (BitVec 32)) : State :=
  let a := wordsNat words
  s.writeReq k kport (O.channelHead c.val) words { mode := s.chanState c = 0 && !s.drainOwns c, range := s.descPlace a } (fun s =>
    ((s.modChan c (fun _ => DmaChan.reset)).goDesc c a).setObjs [(O.channelHead c.val, a), (O.channelState c.val, 1)])

/-- A doorbell: a Parked channel reads its stub again, a Running one keeps it pending (R676, R678). -/
def State.ringBell (s : State) (c : Fin 32) : State :=
  if s.chanState c = 2 then (s.goDesc c (s.chanDesc c)).setObj (O.channelState c.val) 1
  else if s.chanState c = 1 then s.modChan c (fun x => { x with bell := true })
  else s

def State.writeDoorbell (s : State) (k : SessKey) (kport : Nat) (c : Fin 32) (words : List (BitVec 32)) : State :=
  s.writeReq k kport (O.doorbell c.val) words {} (fun s => s.ringBell c)

/-- A write of ChannelResume: the halted descriptor is read again and continues from its first byte not written (R677, R683). -/
def State.writeChannelResume (s : State) (k : SessKey) (kport : Nat) (c : Fin 32) (words : List (BitVec 32)) : State :=
  s.writeReq k kport (O.channelResume c.val) words { mode := s.chanState c = 3 } (fun s =>
    (s.modChan c (fun x => { x with desc := none, attempts := 0 })).setObj (O.channelState c.val) 1)

def State.writeChannelStop (s : State) (k : SessKey) (kport : Nat) (c : Fin 32) (words : List (BitVec 32)) : State :=
  s.writeReq k kport (O.channelStop c.val) words {} (fun s => s.stopChan c)

/-- A write of ChannelPriority or RetryLimit (R687, R689). -/
def State.writeChannelSetting (s : State) (k : SessKey) (kport a : Nat) (c : Fin 32) (words : List (BitVec 32)) : State :=
  s.writeReq k kport a words { mode := !s.drainOwns c } (fun s => s.setObj a (wordsNat words))

end Sys2Proof.Machine
end

