-- ==== Sys2Proof/Machine/Bus.lean ====
section
/-! DEFINITION. Accesses to the address map by DMA, the host and Hull firmware: control registers, protection, poison (R44 to R49, R255, R660, R700, R711). -/
namespace Sys2Proof.Machine
open Sys2Proof

/-! ### Control registers -/

/-- The registers of the control region that the spec names. -/
inductive Reg where
  | clkOut (i : Fin 4)
  | veCfg (e : Fin 8) | veFault (e : Fin 8) | veGuard (e : Fin 8) | veProg (e : Fin 8) | range (e : Fin 8) (k : Fin 4)
  | orbShare | scrubLap | hspStatus
  | xipCtrl | xipBase | xipCount
  | dmaCfg (c : Fin 32) | dmaHead (c : Fin 32) | dmaCur (c : Fin 32) | dmaBell (c : Fin 32) | dmaStat (c : Fin 32)
  | desc (e : Fin 8) (q : Fin 4096) (w : Fin 4)
  deriving DecidableEq, Repr

/-- Register of the block of engine `e` at an offset. -/
def engineReg (e : Fin 8) (o : Nat) : Option (Reg × Nat) :=
  if o < 4 then some (.veCfg e, o)
  else if 0x10 ≤ o ∧ o < 0x18 then some (.veFault e, o - 0x10)
  else if 0x18 ≤ o ∧ o < 0x20 then some (.veGuard e, o - 0x18)
  else if 0x20 ≤ o ∧ o < 0x24 then some (.veProg e, o - 0x20)
  else if 0x40 ≤ o ∧ o < 0x60 then some (.range e (port4 ((o - 0x40) / 8)), o % 8)
  else none

/-- Register of DMA channel `c` at an offset. -/
def dmaReg (c : Fin 32) (o : Nat) : Option (Reg × Nat) :=
  if o < 4 then some (.dmaCfg c, o)
  else if 8 ≤ o ∧ o < 16 then some (.dmaHead c, o - 8)
  else if 16 ≤ o ∧ o < 24 then some (.dmaCur c, o - 16)
  else if 24 ≤ o ∧ o < 32 then some (.dmaBell c, o - 24)
  else if 32 ≤ o ∧ o < 36 then some (.dmaStat c, o - 32)
  else none

/-- The register that holds a bus address, and the byte of it. -/
def regAt (a : Nat) : Option (Reg × Nat) :=
  if inRange 0x40010000 16 a then some (.clkOut (port4 ((a - 0x40010000) / 4)), a % 4)
  else if inRange 0x40100000 0x8000 a then engineReg (eng8 ((a - 0x40100000) / 0x1000)) (a % 0x1000)
  else if inRange 0x40200000 8 a then some (.orbShare, a % 8)
  else if inRange 0x40200010 4 a then some (.scrubLap, a % 4)
  else if inRange 0x40300000 4 a then some (.hspStatus, a % 4)
  else if inRange 0x40320000 4 a then some (.xipCtrl, a % 4)
  else if inRange 0x40320008 8 a then some (.xipBase, a % 8)
  else if inRange 0x40320010 4 a then some (.xipCount, a % 4)
  else if inRange 0x40400000 0x800 a then dmaReg ⟨(a - 0x40400000) / 0x40 % 32, Nat.mod_lt _ (by decide)⟩ (a % 0x40)
  else if inRange 0x44000000 0x100000 a then
    some (.desc (eng8 ((a - 0x44000000) / 0x20000)) ⟨a % 0x20000 / 32 % 4096, Nat.mod_lt _ (by decide)⟩ (port4 (a % 32 / 8)), a % 8)
  else none

/-- The four words of a descriptor (R259). -/
def Desc.word (d : Desc) (w : Nat) : Nat :=
  if w = 0 then d.loc.toNat * 2 ^ 62 + d.fmt.toNat * 2 ^ 59 + bitIf d.valid 58 + bitIf d.aliased 57 + d.writer % 4096 * 2 ^ 44 + d.base % 2 ^ 40
  else if w = 1 then d.tapCount % 65536 * 2 ^ 48 + d.maxLen % 2 ^ 23 * 2 ^ 23 + d.len % 2 ^ 23
  else if w = 2 then bitIf d.clamp 63 + bitIf d.pendLen.isSome 62 + bitIf d.pendSpan.isSome 61 + d.hwm % 2 ^ 23 * 2 ^ 23 + d.wp % 2 ^ 23
  else d.stageLine % 2 ^ 21 * 2 ^ 43 + d.spanGroups % 1024 * 2 ^ 32 + d.spanLo % 2 ^ 22

/-- What a register reads as; a WO register reads zero (R11). -/
def State.regValue (s : State) (r : Reg) : Nat :=
  match r with
  | .clkOut i => s.obj (O.clkOutConfig i.val)
  | .veCfg e => let x := s.engine e; bitIf x.running 16 + bitIf (!x.active) 1 + bitIf x.unified 0
  | .veFault e => s.obj (O.faultWord e)
  | .veGuard e => s.obj (O.laneGuardFlags e)
  | .veProg e => (s.engine e).progLen
  | .range e k => (lane (s.engine e).ranges k).toNat
  | .orbShare => (List.range 8).foldl (fun acc i => acc + lane s.io.share (eng8 i) % 256 * 2 ^ (8 * i)) 0
  | .scrubLap => s.obj O.orbitLap
  | .hspStatus => s.hostStatus
  | .xipCtrl => bitIf s.xip.lock 31 + bitIf s.xip.enable 0
  | .xipBase => s.xip.hashBase
  | .xipCount => s.xip.hashCount
  | .dmaCfg c => s.obj (O.retryLimit c.val) * 256 + s.obj (O.channelPriority c.val)
  | .dmaHead c => s.obj (O.channelHead c.val)
  | .dmaCur c => s.obj (O.currentDescriptor c.val)
  | .dmaBell _ => 0
  | .dmaStat c => s.obj (O.lastResult c.val) * 256 + s.obj (O.channelState c.val)
  | .desc e q w => (s.desc e q.val).word w.val

/-- How a bus access ends: decode and protection errors, other bus errors, a fetch fault, an uncorrectable word read, a partial
write refused. -/
inductive BusRes where
  | ok | decode | protect | busError | fetchFault | poison | refused
  deriving DecidableEq, Repr

/-- Masters of the bus. -/
inductive Master where
  | dma | host | hull | loader
  deriving DecidableEq, Repr

/-- The session a register write of a master counts as. -/
def Master.key (m : Master) : SessKey :=
  match m with
  | .host => .host
  | _ => .firm

/-- Flags of HSP_STATUS cleared (R646). -/
def State.clearHsp (s : State) (mask : Nat) : State := { s with hsp := { s.hsp with flags := s.hsp.flags &&& (127 ^^^ (mask % 128)) } }

/-- XIP_CTRL written by Hull firmware: LOCK sets, INVALIDATE acts, ENABLE is stored (R661, R662). -/
def State.writeXipCtrl (s : State) (v : Nat) : State :=
  s.modXip (fun x => { x with lock := x.lock || v.testBit 31, lines := if v.testBit 1 then [] else x.lines, enable := v.testBit 0 })

/-- What VEn_RANGEk holds of a written word: MODE, END and START; the reserved fields [61:48] and [31:16] read zero (R11, R389). -/
def rangeBits (v : Nat) : BitVec 64 := BitVec.ofNat 64 (v / 2 ^ 62 % 4 * 2 ^ 62 + v / 2 ^ 32 % 65536 * 2 ^ 32 + v % 65536)

/-- A write of a whole register. RO registers ignore it and count a register access error (R11). -/
def State.regWrite (s : State) (m : Master) (r : Reg) (v : Nat) : BusRes × State :=
  let ro : BusRes × State := (.ok, { s with regErrors := s.regErrors + 1 })
  match r with
  | .clkOut _ => ro
  | .veCfg _ => ro
  | .veFault _ => ro
  | .veGuard _ => ro
  | .veProg _ => ro
  | .scrubLap => ro
  | .dmaCur _ => ro
  | .dmaStat _ => ro
  | .range e k =>
    if m = .loader then (.ok, s.modEngine e (fun x => { x with pendRanges := put x.pendRanges k (some (rangeBits v)) })) else (.protect, s)
  | .orbShare => (.ok, s.writeOrbShare (m = .loader) (BitVec.ofNat 64 v))
  | .hspStatus => (.ok, s.clearHsp v)
  | .xipCtrl => if m = .hull then (.ok, s.writeXipCtrl v) else (.protect, s)
  | .xipBase => if m = .hull ∧ s.xip.lock = false then (.ok, s.modXip (fun x => { x with hashBase := v / 32 * 32 })) else (.protect, s)
  | .xipCount => if m = .hull ∧ s.xip.lock = false then (.ok, s.modXip (fun x => { x with hashCount := min v 16384 })) else (.protect, s)
  | .dmaCfg c =>
    let s1 := s.writeChannelSetting m.key 0 (O.channelPriority c.val) c [BitVec.ofNat 32 (v % 8)]
    (.ok, s1.writeChannelSetting m.key 0 (O.retryLimit c.val) c [BitVec.ofNat 32 (v / 256 % 16)])
  | .dmaHead c => (.ok, s.writeChannelHead m.key 0 c (natWords 2 v))
  | .dmaBell c => (.ok, s.writeDoorbell m.key 0 c [1])
  | .desc e q w =>
    let d := s.desc e q.val
    let at_ := fun (i : Nat) => BitVec.ofNat 64 (if i = w.val then v else d.word i)
    let new := descWords (at_ 0) (at_ 1) (at_ 2) (at_ 3)
    if m = .loader then (.ok, if s.descOk e q.val new then s.putDesc e q.val new else s) else (.protect, s)

/-- Bytes of a register. -/
def Reg.bytes (r : Reg) : Nat :=
  match r with
  | .veFault _ | .veGuard _ | .range _ _ | .orbShare | .xipBase | .dmaHead _ | .dmaCur _ | .dmaBell _ | .desc _ _ _ => 8
  | _ => 4

/-- The 32-bit word of the control region at an aligned address; a place without a register reads zero. -/
def State.regWord (s : State) (a : Nat) : Nat :=
  match regAt a with
  | some (r, o) => s.regValue r / 2 ^ (8 * o) % 2 ^ 32
  | none => 0

/-- A store of a 32-bit word in the control region: half of a 64-bit register keeps the other half. -/
def State.putRegWord (s : State) (m : Master) (a v : Nat) : BusRes × State :=
  match regAt a with
  | none => (.ok, s)
  | some (r, o) =>
    let old := s.regValue r
    let new := old - old / 2 ^ (8 * o) % 2 ^ 32 * 2 ^ (8 * o) + v % 2 ^ 32 * 2 ^ (8 * o)
    s.regWrite m r (if r.bytes = 8 then new else v)

/-- The words of a range of the control region. -/
def State.regBytes (s : State) (a n : Nat) : List Byte := (List.range (n / 4)).flatMap (fun i => leBytes 4 (s.regWord (a + 4 * i)))

/-- Words stored in the control region one after the other; the first that ends in a bus error ends the access. -/
def State.putRegWords (m : Master) : List (BitVec 32) → Nat → State → BusRes × State
  | [], _, s => (.ok, s)
  | w :: t, a, s =>
    match s.putRegWord m a w.toNat with
    | (.ok, u) => State.putRegWords m t (a + 4) u
    | r => r

/-! ### Access to the map -/

def isControl (a : Nat) : Bool := inRange 0x40000000 0x10000000 a
def isXip (a : Nat) : Bool := inRange xipWindow 0x4000000 a
def isRom (a : Nat) : Bool := inRange 0 0x40000 a
def isKeep (a : Nat) : Bool := inRange 0x20000000 0x800000 a

/-- Whether the memory of an address answers: its power bank is on, its clock runs, and for LPDDR5X its PLL is locked (R724, R808, R813). -/
def State.reachable (s : State) (a : Nat) : Bool :=
  let off := decide (2 ≤ s.obj O.powerState)
  if 0x1000000000 ≤ a then !off && s.obj (O.pllState 2) = 2
  else if orbitBase ≤ a ∧ a < 0x300000000 then !off && s.powered a
  else s.powered a

/-- The uncorrectable and correctable words of a range that a reader meets are noted (R699, R700). -/
def State.noteRange (s : State) (reader a n : Nat) : State :=
  let hit := fun c => decide (c < a + n) && decide (a < c + codeWordBytes c)
  ((s.bad.filter hit).foldl (fun s c => s.noteBad reader c) s).noteSofts a n

/-- Whether a read meets the active bank of an engine, which only the Y slot of its engine reads (R100, R327; log entry 108). -/
def State.bankLocked (s : State) (a n : Nat) : Bool := engines.any (fun e => overlap a n (bankBase e (s.engine e).bankB) bankBytes)

/-- A read of `n` bytes by a master; one that meets an active coefficient bank ends in a bus error (log entry 108); `reader` is its number in event 0x0500 (R730). -/
def State.busRead (s : State) (reader a n : Nat) : BusRes × List Byte × State :=
  if s.mapRoom a < n then (.decode, [], s)
  else if isRom a then (.ok, (List.range n).map (fun i => Config.romByte (a + i)), s)
  else if isControl a then (.ok, s.regBytes a n, s)
  else if isXip a then
    if !s.xip.enable then (.busError, [], s)
    else match s.xipRead (a - xipWindow) n with
      | (some l, t) => (.ok, l, t)
      | (none, t) => (.fetchFault, [], t)
  else if s.bankLocked a n then (.protect, [], s)
  else if !s.reachable a then (.busError, [], s)
  else
    let t := s.noteRange reader a n
    if (s.badIn a n).isSome then (.poison, [], t) else (.ok, memBytes s.mem a n, t)

/-- Ranges of Orbit memory that belong to placed blocks: lines, staging, private regions (R255). -/
def State.orbitPlaced (s : State) (a n : Nat) : Bool :=
  (s.orbitHeld.dropLast).any (fun r => r.2 != 0 && overlap a n r.1 r.2)

/-- A write to program memory or to the active bank of an engine that runs a placed block (R47). -/
def State.windowLocked (s : State) (a n : Nat) : Bool :=
  engines.any (fun e => (s.engine e).running && (overlap a n (progBase e) 0x80000 || overlap a n (bankBase e (s.engine e).bankB) bankBytes))

/-- Whether a store by a master ends in a protection error (R47, R48, R255, R660, R662, R765). -/
def State.protects (s : State) (m : Master) (a n : Nat) : Bool :=
  isRom a || isXip a || s.hashLocked a n || (isKeep a && s.mode != 7 && m != .hull) ||
  (m != .loader && (s.orbitPlaced a n || (s.mode != 7 && s.windowLocked a n)))

/-- Bytes stored with valid codes; a page of a shadow bank becomes stale (R344). -/
def State.busStore (s : State) (a : Nat) (l : List Byte) : State :=
  let t := s.storeBytes a l
  match bankOf a with
  | some (e, b) => if (s.engine e).bankB != b then t.staleBank e ((a - bankBase e b) / 4096) else t
  | none => t

/-- Engines into whose program memory a store other than the loader's goes hold a program without the checks of R217 (R249). -/
def State.uncheck (s : State) (m : Master) (a n : Nat) : State :=
  if m = .loader then s
  else s.allEngines (fun e x => if overlap a n (progBase e) 0x80000 then { x with unchecked := true } else x)

/-- A store of bytes by a master: nothing is written where it does not end ok. A refused window write is counted (R47). -/
def State.busWrite (s : State) (m : Master) (a : Nat) (l : List Byte) : BusRes × State :=
  let n := l.length
  if s.mapRoom a < n then (.decode, s)
  else if isControl a then State.putRegWords m (bytesWords l) a s
  else if s.protects m a n then
    (.protect, if s.mode != 7 && s.windowLocked a n then { s with winErrors := s.winErrors + 1 } else s)
  else if !s.reachable a then (.busError, s)
  else match s.partialBad a n with
    | some _ => (.refused, s.count O.partialWritesRefused 32 1)
    | none => (.ok, ((s.correct a n).busStore a l).uncheck m a n)

/-- A write of a register by Hull firmware or the loader (R11). -/
def execRegisterWrite (loader : Bool) (a : BitVec 40) (v : BitVec 64) (s : State) : Out :=
  let m := if loader then Master.loader else Master.hull
  .next (match regAt a.toNat with
    | some (r, _) => (s.regWrite m r (v.toNat % 2 ^ (8 * r.bytes))).2
    | none => s)

/-- A loader write of VEn_RANGEk, for the next boundary; any other write ends in a bus error (R389). -/
def execRangeRegisterWrite (loader : Bool) (e : Fin 8) (k : Fin 4) (w : BitVec 64) (s : State) : Out :=
  .next (s.regWrite (if loader then .loader else .hull) (.range e k) w.toNat).2

/-- A Hull firmware write of 1 to flags of HSP_STATUS (R646). -/
def execHspStatusClear (flags : BitVec 7) (s : State) : Out := .next (s.clearHsp flags.toNat)

end Sys2Proof.Machine
end

