-- ==== Sys2Proof/Machine/KeepOps.lean ====
section
/-! DEFINITION. The Keep store: areas, records, the current record, writing a record (R762 to R766). -/
namespace Sys2Proof.Machine
open Sys2Proof

/-- The header line of a record (R763). -/
def keepHeader (kind seq len tick : Nat) : List Byte :=
  leBytes 4 0x4B454550 ++ leBytes 1 kind ++ leBytes 1 1 ++ leBytes 2 0 ++ leBytes 8 seq ++ leBytes 4 len ++ leBytes 4 0 ++ leBytes 8 tick ++
  List.replicate 32 0

/-- The whole record (R763). -/
def keepRecord (kind seq tick : Nat) (payload : List Byte) : List Byte :=
  let body := keepHeader kind seq payload.length tick ++ payload ++ List.replicate (pad8 payload.length - payload.length) 0
  body ++ leBytes 4 (crc32c body).toNat ++ leBytes 4 0 ++ leBytes 8 (2 ^ 64 - 1 - seq % 2 ^ 64)

/-- Slots that hold something and no valid record: a magic number or a commit word without a record (R764). -/
def State.keepInvalid (s : State) (kind : Nat) : List Nat :=
  (List.range (keepArea kind).2.2).filter (fun i => !s.keepValid kind i &&
    (s.load (keepSlot kind i) 4 != 0 || (s.badIn (keepSlot kind i) (keepArea kind).2.1).isSome))

/-- A record is written in the slot that follows the current one (R765, R766). -/
def State.keepWrite (s : State) (kind : Nat) (payload : List Byte) : State :=
  let n := (keepArea kind).2.2
  let i := match s.keepCurrent kind with
    | some j => (j + 1) % n
    | none => 0
  let seq := s.obj O.keepLastSeq + 1
  (((s.storeBytes (keepSlot kind i) (keepRecord kind seq s.tick payload)).setObj O.keepLastSeq seq).count O.keepRecordsWritten 64 1)

/-! ### The dictionary snapshot (R768) -/

/-- Words 0 up of a payload. -/
def payloadWord (l : List Byte) (i : Nat) : Nat := leNat ((l.drop (4 * i)).take 4)

/-- The fixed entries of a snapshot from word `i` on: object address and value words; and the word after the last. -/
def snapEntries (l : List Byte) : Nat → Nat → List (Nat × List (BitVec 32)) × Nat
  | 0, i => ([], i)
  | k + 1, i =>
    let n := payloadWord l (i + 1) % 65
    let r := snapEntries l k (i + 2 + n)
    ((payloadWord l i, (List.range n).map (fun j => BitVec.ofNat 32 (payloadWord l (i + 2 + j)))) :: r.1, r.2)

/-- The fixed entries of the current snapshot. -/
def State.snapshotFixed (s : State) : List (Nat × List (BitVec 32)) :=
  match s.keepPayload 3 with
  | none => []
  | some l => (snapEntries l (payloadWord l 0) 1).1

/-- GRAPH_ID, PARAM_COUNT and the parameter words of the current snapshot. -/
def State.snapshotParams (s : State) : Option (Nat × Nat × List (BitVec 32)) :=
  match s.keepPayload 3 with
  | none => none
  | some l =>
    let i := (snapEntries l (payloadWord l 0) 1).2
    some (payloadWord l i, payloadWord l (i + 1), (List.range (payloadWord l (i + 1))).map (fun j => BitVec.ofNat 32 (payloadWord l (i + 2 + j))))

end Sys2Proof.Machine
end

