-- ==== Sys2Proof/Machine/Live.lean ====
section
/-! DEFINITION. Commands of the live parameters (R323 to R354, R853). -/
namespace Sys2Proof.Machine
open Sys2Proof

/-- A write of a parameter bound to coefficient words (R324, R332). An object bound elsewhere is not this command's. -/
def execBankedWrite (src : Src) (a : BitVec 24) (words : List (BitVec 32)) (s : State) : Out :=
  match s.param a.toNat with
  | some p => .next (if p.bind = 0 && p.ty != 16 then s.writeParam src.key src.link.val a.toNat words else s)
  | none => .next (s.writeParam src.key src.link.val a.toNat words)

/-- A write of a parameter bound to X or Y words (R354). -/
def execXyParameterWrite (src : Src) (a : BitVec 24) (words : List (BitVec 32)) (s : State) : Out :=
  match s.param a.toNat with
  | some p => .next (if p.bind = 1 && p.ty != 16 then s.writeParam src.key src.link.val a.toNat words else s)
  | none => .next (s.writeParam src.key src.link.val a.toNat words)

/-- Levelling of engine `e` ends (R328, R857). -/
def execLevellingEnd (e : Fin 8) (s : State) : Out := .next (s.level e)

/-- The oldest stale page of an array. -/
def State.oldestStale (s : State) (r : PageArray) : Option Nat :=
  match r with
  | .bank e => (s.engine e).stale.head?.map (fun i => s.bankPage e false i)
  | _ => s.integ.stalePages.find? (pageHolds r)

/-- A page leaves the stale state. -/
def State.freshPage (s : State) (r : PageArray) (page : Nat) : State :=
  match r with
  | .bank e => s.modEngine e (fun x => { x with stale := x.stale.drop 1 })
  | _ => s.setStale (s.integ.stalePages.filter (fun p => p != page))

/-- The page coder of an array completes its oldest stale page; an uncorrectable word it reads is found, and the page stays
stale (R700, R853). -/
def execPageCoderDone (r : PageArray) (s : State) : Out :=
  .next (match s.oldestStale r with
    | none => s
    | some page =>
      match s.badIn page 4096 with
      | some a => s.noteBad 8 a
      | none => (s.codePage page).freshPage r page)

/-- A write of Commit (R334). -/
def execCommitObjectWrite (src : Src) (words : List (BitVec 32)) (s : State) : Out :=
  .next (s.commitReq src.key src.link.val words false)

/-- A commit reaches the boundary controller (R70): its set joins those examined at the latch instants, in order of arrival. -/
def State.commitArrives (s : State) (gen : Nat) : State :=
  let it := fun (u : UpSet) => u.phase = .sealed && u.gen = gen && !u.arrived
  { s with sets := s.sets.filter (fun u => !it u) ++ (s.sets.filter it).map (fun u => { u with arrived := true }) }

def execCommitArrival (gen : BitVec 32) (s : State) : Out := .next (s.commitArrives gen.toNat)

/-- A write of UpdateSetAbort (R337). -/
def execUpdateSetAbort (src : Src) (words : List (BitVec 32)) (s : State) : Out :=
  .next (s.writeReq src.key src.link.val O.updateSetAbort words {} (fun s => s.abortSet src.key))

end Sys2Proof.Machine
end

