-- ==== Sys2Proof/Machine/GraphImg.lean ====
section
/-! DEFINITION. Graph images and block images as read from their bytes (R220 to R226, R362 to R370). -/
namespace Sys2Proof.Machine
open Sys2Proof

/-- The little-endian number of `n` bytes at an offset of an image (R10); a byte beyond its end counts as zero. -/
def numAt (l : List Byte) (off n : Nat) : Nat := leNat ((l.drop off).take n)

/-- No entry, no offset, no limit. -/
def none32 : Nat := 0xFFFFFFFF

/-- A block table entry (R364). -/
structure GBlock where
  imageOff : Nat
  imageBytes : Nat
  pin : Nat
  flags : Nat
  xfade : Nat
  w : Nat
  small : Nat
  rsv : Nat
  deriving DecidableEq, Repr

def gBlock (l : List Byte) : GBlock :=
  { imageOff := numAt l 0 4, imageBytes := numAt l 4 4, pin := numAt l 8 4, flags := numAt l 12 2, xfade := numAt l 14 2, w := numAt l 16 4
    small := numAt l 20 4, rsv := numAt l 24 8 }

/-- The engine and the device a block is pinned to. -/
def GBlock.pinEng (b : GBlock) : Option Nat := if b.pin.testBit 30 then some (b.pin / 2 ^ 12 % 8) else none
def GBlock.pinDev (b : GBlock) : Option Nat := if b.pin.testBit 31 then some (b.pin % 4096) else none
/-- MIGRATE. -/
def GBlock.migrate (b : GBlock) : Nat := b.flags % 4

/-- A region table entry (R365). -/
structure GRegion where
  block : Nat
  kind : Nat
  state : Nat
  align : Nat
  rsv : Nat
  bytes : Nat
  initOff : Nat
  initBytes : Nat
  rsv2 : Nat
  deriving DecidableEq, Repr

def gRegion (l : List Byte) : GRegion :=
  { block := numAt l 0 4, kind := numAt l 4 1, state := numAt l 5 1, align := numAt l 6 1, rsv := numAt l 7 1, bytes := numAt l 8 4
    initOff := numAt l 12 4, initBytes := numAt l 16 4, rsv2 := numAt l 20 12 }

/-- A line table entry (R366). -/
structure GLine where
  block : Nat
  fmt : Nat
  place : Nat
  state : Nat
  rsv : Nat
  maxLen : Nat
  len : Nat
  spanLo : Nat
  spanGroups : Nat
  tapCount : Nat
  aliasOf : Nat
  initOff : Nat
  deriving DecidableEq, Repr

def gLine (l : List Byte) : GLine :=
  { block := numAt l 0 4, fmt := numAt l 4 1, place := numAt l 5 1, state := numAt l 6 1, rsv := numAt l 7 1, maxLen := numAt l 8 4
    len := numAt l 12 4, spanLo := numAt l 16 4, spanGroups := numAt l 20 2, tapCount := numAt l 22 2, aliasOf := numAt l 24 4
    initOff := numAt l 28 4 }

/-- An endpoint of an edge (R368). -/
inductive Endpoint where
  | block (b : Nat)
  | sap (dev port first : Nat)
  | bad
  deriving DecidableEq, Repr

/-- The endpoint an endpoint word names, in a graph of `nb` blocks. -/
def endpoint (nb w : Nat) : Endpoint :=
  if w / 2 ^ 28 = 0 then (if w < 2 ^ 14 ∧ w < nb then .block w else .bad)
  else if w / 2 ^ 28 = 1 ∧ w / 16 % 1024 = 0 then .sap (w / 2 ^ 16 % 4096) (w / 2 ^ 14 % 4) (w % 16)
  else .bad

def Endpoint.block? : Endpoint → Option Nat
  | .block b => some b
  | _ => none

def Endpoint.isSap : Endpoint → Bool
  | .sap _ _ _ => true
  | _ => false

/-- An edge table entry (R367). -/
structure GEdge where
  src : Endpoint
  dst : Endpoint
  channels : Nat
  carrier : Nat
  fmt : Nat
  latMax : Nat
  flags : Nat
  policy : Nat
  rsv : Nat
  region : Nat
  rsv2 : Nat
  deriving DecidableEq, Repr

def gEdge (nb : Nat) (l : List Byte) : GEdge :=
  { src := endpoint nb (numAt l 0 4), dst := endpoint nb (numAt l 4 4), channels := numAt l 8 2, carrier := numAt l 10 1, fmt := numAt l 11 1
    latMax := numAt l 12 1, flags := numAt l 13 1, policy := numAt l 14 1, rsv := numAt l 15 1, region := numAt l 16 4, rsv2 := numAt l 20 12 }

/-- DELAY1. -/
def GEdge.delay1 (e : GEdge) : Bool := e.flags.testBit 0
/-- Channel groups of a carrier-2 edge (R316). -/
def GEdge.groups (e : GEdge) : Nat := (e.channels + 15) / 16

/-- A path table entry (R369) with its list of edges. -/
structure GPath where
  listOff : Nat
  count : Nat
  latMax : Nat
  rsv : Nat
  edges : List Nat
  deriving DecidableEq, Repr

def gPath (data l : List Byte) : GPath :=
  { listOff := numAt l 0 4, count := numAt l 4 4, latMax := numAt l 8 4, rsv := numAt l 12 4
    edges := (List.range (numAt l 4 4 % 256)).map (fun i => numAt data (numAt l 0 4 + 4 * i) 4) }

/-- A parameter map entry (R370). -/
structure GParam where
  ty : Nat
  bind : Nat
  flags : Nat
  rights : Nat
  target : Nat
  offset : Nat
  words : Nat
  dflt : Nat
  lo : Nat
  hi : Nat
  dfltOff : Nat
  deriving DecidableEq, Repr

def gParam (l : List Byte) : GParam :=
  { ty := numAt l 0 1, bind := numAt l 1 1, flags := numAt l 2 1, rights := numAt l 3 1, target := numAt l 4 4, offset := numAt l 8 4
    words := numAt l 12 4, dflt := numAt l 16 4, lo := numAt l 20 4, hi := numAt l 24 4, dfltOff := numAt l 28 4 }

/-- TYPE DOMAIN. -/
def GParam.domain (p : GParam) : Bool := p.ty = 16

/-- A graph image as its tables give it (R362, R363). -/
structure GImage where
  bytes : List Byte
  fabric : Bool
  id : Nat
  rate : Nat
  data : List Byte
  blocks : List GBlock
  regions : List GRegion
  lines : List GLine
  edges : List GEdge
  params : List GParam
  paths : List GPath
  deriving DecidableEq, Repr

/-- The tables of a graph image: number in the diagnostics, header offset of the count, entry size, largest count (R363, R412). -/
def gTables : List (Nat × Nat × Nat × Nat) :=
  [(1, 0x14, 32, 16384), (2, 0x1C, 32, 65536), (3, 0x24, 32, 1048576), (4, 0x2C, 32, 16384), (5, 0x34, 32, 262144), (6, 0x3C, 16, 4096)]

/-- The entries of the table whose count stands at header offset `at_`, as lists of bytes. -/
def tableEntries (l : List Byte) (at_ size : Nat) : List (List Byte) :=
  (List.range (numAt l at_ 4)).map (fun i => (l.drop (numAt l (at_ + 4) 4 + size * i)).take size)

/-- An image read by its header. -/
def gImage (l : List Byte) : GImage :=
  let data := (l.drop (numAt l 0x44 4)).take (numAt l 0x48 4)
  { bytes := l, fabric := (numAt l 6 2).testBit 0, id := numAt l 0x0C 4, rate := numAt l 0x10 4, data := data
    blocks := (tableEntries l 0x14 32).map gBlock, regions := (tableEntries l 0x1C 32).map gRegion, lines := (tableEntries l 0x24 32).map gLine
    edges := (tableEntries l 0x2C 32).map (gEdge (numAt l 0x14 4)), params := (tableEntries l 0x34 32).map gParam
    paths := (tableEntries l 0x3C 16).map (gPath data) }

/-! ### Block images (R220 to R226) -/

/-- A relocation entry (R224). -/
structure Reloc where
  hi : Nat
  mid : Nat
  lo : Nat
  kind : Nat
  rsv : Nat
  symbol : Nat
  addend : Int
  deriving DecidableEq, Repr

def reloc (l : List Byte) : Reloc :=
  { hi := numAt l 0 2, mid := numAt l 2 2, lo := numAt l 4 2, kind := numAt l 6 1, rsv := numAt l 7 1, symbol := numAt l 8 4
    addend := (BitVec.ofNat 32 (numAt l 12 4)).toInt }

/-- A block image (R220, R221). -/
structure BImage where
  bytes : List Byte
  unified : Bool
  decl : Nat
  issue : Nat
  code : List Nat
  relocs : List Reloc
  freeX : Nat
  deriving DecidableEq, Repr

def bImage (l : List Byte) : BImage :=
  let n := numAt l 12 2
  { bytes := l, unified := (numAt l 6 2).testBit 0, decl := numAt l 8 2, issue := numAt l 10 2
    code := (List.range n).map (fun i => numAt l (64 + 16 * i) 16)
    relocs := (List.range (numAt l 14 2)).map (fun i => reloc ((l.drop (64 + 16 * n + 16 * i)).take 16)), freeX := numAt l 0x28 4 }

/-- The block image of block `b` of a graph. -/
def GImage.block (g : GImage) (b : GBlock) : BImage := bImage ((g.data.drop b.imageOff).take b.imageBytes)

/-- Bundle `i` of a code section; the zero bundle beyond its end. -/
def codeAt (code : List Nat) (i : Nat) : Nat := code.getD i 0

/-- The C-slot field of a bundle and its opcode. -/
def cField (w : Nat) : Nat := w % 2 ^ 20
def cOp (w : Nat) : Nat := w / 2 ^ 15 % 32
/-- Whether a bundle holds REP, its repeat count and body length (R204, R207). -/
def isRep (w : Nat) : Bool := cOp w = 1
def repCount (w : Nat) : Nat := w % 128 + 1
def repLen (w : Nat) : Nat := w / 128 % 128 + 1

/-- Bundles issued from code index `lo` up to `hi` (R210): 1 + c × B for each REP; an inner body ends with its outer body. -/
def issueCount (code : List Nat) : Nat → Nat → Nat → Nat
  | 0, _, _ => 0
  | n + 1, lo, hi =>
    if hi ≤ lo then 0
    else
      let w := codeAt code lo
      if isRep w then
        let stop := min hi (lo + 1 + repLen w)
        1 + repCount w * issueCount code n (lo + 1) stop + issueCount code n stop hi
      else 1 + issueCount code n (lo + 1) hi

/-- The code indices issued from `lo` up to `hi`, in order. -/
def issueTrace (code : List Nat) : Nat → Nat → Nat → List Nat
  | 0, _, _ => []
  | n + 1, lo, hi =>
    if hi ≤ lo then []
    else
      let w := codeAt code lo
      if isRep w then
        let stop := min hi (lo + 1 + repLen w)
        lo :: ((List.replicate (repCount w) (issueTrace code n (lo + 1) stop)).flatten ++ issueTrace code n stop hi)
      else lo :: issueTrace code n (lo + 1) hi

/-- Issue count of a whole code section. -/
def BImage.issues (b : BImage) : Nat := issueCount b.code b.code.length 0 b.code.length
/-- Issue order of a whole code section. -/
def BImage.trace (b : BImage) : List Nat := issueTrace b.code b.code.length 0 b.code.length

/-- The immediate of a C slot replaced. -/
def setImm (w imm : Nat) : Nat := w / 2 ^ 11 * 2 ^ 11 + imm % 2 ^ 11

/-- The immediates of one relocation with value `v` written into a code section (R226). -/
def patchCode (code : List Nat) (r : Reloc) (v : Nat) : List Nat :=
  let c1 := code.set r.hi (setImm (codeAt code r.hi) (v / 2 ^ 31 * 1024 + v / 2 ^ 22))
  let c2 := c1.set r.mid (setImm (codeAt c1 r.mid) (v / 2 ^ 11))
  c2.set r.lo (setImm (codeAt c2 r.lo) v)

/-- The value of a relocation (R226). -/
def Reloc.value (r : Reloc) (base : Nat) : Nat := (((base : Int) + r.addend) % 2 ^ 32).toNat

/-- A bundle that holds REP c, L = 1 and nothing else, with c given. -/
def repBundle (c : Nat) : Nat := 2 ^ 15 + (c - 1)

/-- The padding of a gap of `r` bundles (R215). `fuel` is at least `r`. -/
def padding : Nat → Nat → List Nat
  | 0, _ => []
  | n + 1, r =>
    if 129 < r then repBundle 128 :: 0 :: padding n (r - 129)
    else if 3 ≤ r then [repBundle (r - 1), 0]
    else List.replicate r 0

/-- A bundle with ENTRY in its C slot and nothing else (R212). -/
def entryBundle : Nat := 0x13 * 2 ^ 15

/-- The bundles a placed block occupies: its patched code with ENTRY in bundle 0, and its padding (R229, R388). -/
def BImage.placed (b : BImage) (code : List Nat) : List Nat :=
  (entryBundle :: code.drop 1) ++ padding (b.decl + 1) (b.decl - b.issue)

end Sys2Proof.Machine
end

