-- ==== Sys2Proof/Machine/CodeCheck.lean ====
section
/-! DEFINITION. The loader's checks of a block's bundles and relocations (R214 to R217, R227, R242, R854). -/
namespace Sys2Proof.Machine
open Sys2Proof

/-! ### Slot fields of a bundle (R151) -/

def mField (w : Nat) : Nat := w / 2 ^ 104 % 2 ^ 24
def aField (w : Nat) : Nat := w / 2 ^ 80 % 2 ^ 24
def xField (w : Nat) : Nat := w / 2 ^ 62 % 2 ^ 18
def yField (w : Nat) : Nat := w / 2 ^ 44 % 2 ^ 18
def oField (w : Nat) : Nat := w / 2 ^ 20 % 2 ^ 24
def mOpOf (w : Nat) : Nat := mField w / 2 ^ 19
def aOpOf (w : Nat) : Nat := aField w / 2 ^ 18
def xOpOf (w : Nat) : Nat := xField w / 2 ^ 15
def yOpOf (w : Nat) : Nat := yField w / 2 ^ 15
def oOpOf (w : Nat) : Nat := oField w / 2 ^ 19

/-- Bits `lo` to `hi` of a field as a mask. -/
def bitSpan (lo hi : Nat) : Nat := 2 ^ (hi + 1) - 2 ^ lo

/-! ### Reserved bits below the opcode (R854, R173, R204) -/

/-- Reserved bits of the M slot by opcode. -/
def mReserved (op : Nat) : Nat :=
  if op = 0 then bitSpan 0 18
  else if op ∈ [5, 6, 7] then bitSpan 0 1 + bitSpan 10 10
  else if op ∈ [8, 10] then bitSpan 0 2 + bitSpan 6 10
  else if op = 9 then bitSpan 0 2 + bitSpan 6 15
  else bitSpan 0 1

/-- Reserved bits of the A slot by opcode. -/
def aReserved (op : Nat) : Nat :=
  let d3 := bitSpan 16 17
  let a3 := bitSpan 11 12
  let b := bitSpan 3 7
  if op = 0 then bitSpan 0 17
  else if op ∈ [0x05, 0x06, 0x0B, 0x0C, 0x2C, 0x2F] then bitSpan 7 7
  else if op ∈ [0x07, 0x08, 0x10, 0x11, 0x23, 0x30, 0x31, 0x32] then b
  else if op = 0x12 then bitSpan 7 12
  else if op ∈ [0x18, 0x19, 0x1A] then d3
  else if op ∈ [0x1B, 0x1C] then d3 + bitSpan 7 7
  else if op ∈ [0x1D, 0x1E, 0x1F] then d3 + a3 + bitSpan 6 7
  else if op = 0x20 then d3 + a3 + b
  else if op = 0x21 then d3 + bitSpan 12 12 + bitSpan 7 7
  else if op = 0x22 then d3 + bitSpan 3 12
  else if op ∈ [0x24, 0x29] then a3 + b
  else if op = 0x26 then a3
  else if op = 0x27 then bitSpan 17 17 + b
  else if op = 0x28 then bitSpan 17 17 + a3 + b
  else 0

/-- Reserved bits of the X and Y slots by opcode. -/
def xyReserved (op : Nat) : Nat :=
  if op = 0 then bitSpan 0 14 else if op = 4 then bitSpan 14 14 + bitSpan 0 2 else if op = 5 then bitSpan 14 14 else 0

/-- Reserved bits of the O slot by opcode. -/
def oReserved (op : Nat) : Nat :=
  if op = 0 then bitSpan 0 18
  else if op ∈ [2, 3, 4, 5, 0x0C, 0x0D] then bitSpan 0 0 + bitSpan 17 18
  else if op = 6 then bitSpan 0 0 + bitSpan 13 13
  else if op ∈ [7, 8, 9, 0x0A] then bitSpan 0 0 + bitSpan 13 13 + bitSpan 17 18
  else if op = 0x0E then bitSpan 0 0 + bitSpan 4 8
  else if 0x0F ≤ op then bitSpan 0 0 + bitSpan 13 13
  else bitSpan 0 0

/-- Reserved bits of the C slot by opcode. -/
def cReserved (op : Nat) : Nat :=
  if op ∈ [0x01, 0x05, 0x06, 0x0C, 0x11, 0x12] then 0
  else if op = 0x02 then bitSpan 4 14
  else if op = 0x03 then bitSpan 5 11
  else if op = 0x04 then bitSpan 0 7
  else if op ∈ [0x07, 0x08, 0x09, 0x0A, 0x0B] then bitSpan 0 2
  else if op ∈ [0x0D, 0x0E] then bitSpan 5 6
  else if op ∈ [0x0F, 0x10] then bitSpan 0 4
  else bitSpan 0 14

/-! ### The rows of R217 that look at one bundle -/

/-- Row 1: a reserved opcode, or addressing mode 0b111 of an access. -/
def opcodesBad (w : Nat) : Bool :=
  decide (0x0A < mOpOf w) || (decide (0x32 < aOpOf w) && decide (aOpOf w < 0x38)) || decide (5 < xOpOf w) || decide (0x14 < oOpOf w) ||
  (decide (0x13 < cOp w) && cOp w != 0x1F) || (xOpOf w != 0 && xField w / 8 % 8 = 7) || (yOpOf w != 0 && yField w / 8 % 8 = 7)

/-- Row 2: a reserved bit is set. -/
def reservedBad (w : Nat) : Bool :=
  (mField w &&& mReserved (mOpOf w)) != 0 || (aField w &&& aReserved (aOpOf w)) != 0 || (xField w &&& xyReserved (xOpOf w)) != 0 ||
  (yField w &&& xyReserved (yOpOf w)) != 0 || (oField w &&& oReserved (oOpOf w)) != 0 || (cField w &&& cReserved (cOp w)) != 0

/-- Row 3: F on MLD, MCLR, MADDV or MNOP (R172). -/
def fBitBad (w : Nat) : Bool := decide (mOpOf w ∈ [0, 8, 9, 10]) && (mField w).testBit 2

/-- Row 4: a reserved group of BEXP or BEXPA (R175). -/
def groupBad (w : Nat) : Bool := decide (aOpOf w ∈ [0x25, 0x26]) && decide (3 ≤ aField w / 8 % 32)

/-- Row 7: ROT by 0. -/
def rotBad (w : Nat) : Bool := cOp w = 2 && w % 16 = 0

/-! ### Timing of the operations of a bundle (R189, R216) -/

/-- Occupancy of an O operation. -/
def oOccupancy (op : Nat) : Nat :=
  if op = 0 then 1 else if op ∈ [4, 5, 9, 0x0A] then 32 else if op ≤ 0x0E then 16 else 2

/-- First and last claimed bundle of an interpolated tap or table read, counted from its issue. -/
def oClaim (op : Nat) : Option (Nat × Nat) :=
  if op ∈ [2, 3, 7, 8, 0x0C, 0x0D] then some (20, 23) else if op ∈ [4, 5, 9, 0x0A] then some (36, 43) else none

/-- Latest bundle offset at which a slot sees the result of an O operation; 0 where it has none. -/
def oLatency (op : Nat) : Nat :=
  if op ∈ [2, 3, 7, 8, 0x0C, 0x0D] then 27 else if op ∈ [4, 5, 9, 0x0A] then 47 else if op ∈ [1, 6, 0x0B] then 24
  else if op ∈ [0x0F, 0x11, 0x13] then 12 else 0

/-- Latency of an A-slot operation. -/
def aLatency (op : Nat) : Nat :=
  if op = 0 then 0 else if op ∈ [0x25, 0x26, 0x27, 0x28, 0x30, 0x31, 0x32] then 3
  else if op ∈ [0x23, 0x24, 0x29, 0x2A, 0x2B, 0x2C, 0x2D, 0x2E, 0x2F] then 2 else 1

/-- Latency of an X- or Y-slot operation. -/
def xyLatency (op : Nat) : Nat := if op ∈ [1, 3, 4] then 3 else if op ∈ [6, 7] then 4 else if op = 0 then 0 else 1

/-- Latency of a C-slot operation. -/
def cLatency (op : Nat) : Nat := if op ∈ [0, 1, 0x1F] then 0 else if op = 0x12 then 2 else 1

/-- The largest figure by which a bundle must issue before the declared length (R216). -/
def bundleNeed (w : Nat) : Nat :=
  let claim := match oClaim (oOpOf w) with
    | some (_, b) => b + 1
    | none => 0
  [if mOpOf w = 0 then 0 else 4, aLatency (aOpOf w), xyLatency (xOpOf w), xyLatency (yOpOf w), oLatency (oOpOf w),
    if oOpOf w = 0 then 0 else oOccupancy (oOpOf w), claim, cLatency (cOp w)].foldl max 0

/-- What the issue of a program's bundles in order shows: the O slot is busy up to a position, ranges of claimed positions, and the
lowest failing code index of the rows O occupancy, M claim and Latency. -/
structure IssueScan where
  busy : Nat
  claims : List (Nat × Nat)
  row5 : Option Nat
  row6 : Option Nat
  row9 : Option Nat
  deriving DecidableEq, Repr

/-- The lower of a failing index and one found before. -/
def lower (o : Option Nat) (bad : Bool) (i : Nat) : Option Nat :=
  if bad then some (match o with
    | some j => min i j
    | none => i) else o

/-- One issued bundle: position, code index, bundle. -/
def IssueScan.next (decl : Nat) (c : IssueScan) (p i w : Nat) : IssueScan :=
  let o := oOpOf w
  let within := o != 0 && decide (p < c.busy)
  let claims := c.claims.filter (fun r => decide (p ≤ r.2))
  let new := match oClaim o with
    | some (a, b) => [(p + a, p + b)]
    | none => []
  { busy := if o = 0 then c.busy else max c.busy (p + oOccupancy o)
    claims := claims ++ new
    row5 := lower c.row5 within i
    row6 := lower c.row6 (mOpOf w != 0 && claims.any (fun r => decide (r.1 ≤ p) && decide (p ≤ r.2))) i
    row9 := lower c.row9 (decide (decl < p + bundleNeed w)) i }

/-- The scan of a whole program. -/
def issueScan (decl : Nat) (code : List Nat) (trace : List Nat) : IssueScan :=
  (trace.zipIdx).foldl (fun c q => c.next decl q.2 q.1 (codeAt code q.1)) { busy := 0, claims := [], row5 := none, row6 := none, row9 := none }

/-- Row 8: the first REP nested deeper than four, or whose body ends after an outer body or past the last bundle (R209). -/
def repFault (n : Nat) (code : List Nat) : Option Nat :=
  (code.zipIdx.foldl (fun (acc : Option Nat × List Nat) q =>
    let open_ := acc.2.filter (fun e => decide (q.2 ≤ e))
    if acc.1.isSome ∨ isRep q.1 = false then (acc.1, open_)
    else
      let e := q.2 + repLen q.1
      if 4 ≤ open_.length ∨ n ≤ e ∨ open_.any (fun x => decide (x < e)) then (some q.2, open_) else (none, e :: open_)) (none, [])).1

/-- Row 11: bundle 0 is all-NOP and no bundle holds ENTRY (R212). -/
def entryFault (code : List Nat) : Option Nat :=
  if codeAt code 0 != 0 then some 0 else code.findIdx? (fun w => cOp w = 0x13)

/-- Row 10: the bundle whose issue would reach the declared length, or 0 where only the bundle budget is exceeded (R63, R217). -/
def lengthFault (budget decl : Nat) (trace : List Nat) : Option Nat :=
  if decl < trace.length then some (trace.getD decl 0) else if budget < decl then some 0 else none

/-- The first failing row of R217 and its code index. -/
def bundleFault (budget : Nat) (b : BImage) : Option (Nat × Nat) :=
  let tr := b.trace
  let sc := issueScan b.decl b.code tr
  let rows : List (Option Nat) := [b.code.findIdx? opcodesBad, b.code.findIdx? reservedBad, b.code.findIdx? fBitBad, b.code.findIdx? groupBad,
    sc.row5, sc.row6, b.code.findIdx? rotBad, repFault b.code.length b.code, sc.row9, lengthFault budget b.decl tr, entryFault b.code]
  (rows.zipIdx).findSome? (fun r => r.1.map (fun i => (r.2 + 1, i)))

/-! ### Relocations (R227, R228) -/

/-- The scalar register a C-slot operation writes, if any (R204). -/
def cScalarDest (w : Nat) : Option Nat :=
  if cOp w ∈ [5, 6, 7, 8, 9, 0x0A, 0x0B, 0x0C, 0x0D, 0x0E, 0x12] then some (w / 2 ^ 11 % 16)
  else if cOp w = 0x10 then some (w / 2 ^ 5 % 16) else none

/-- Whether the three bundles of an entry hold SLI, SLU, SLU on one register with zero immediates, in order, with no write of that
register between them (R227). -/
def relocShape (code : List Nat) (r : Reloc) : Bool :=
  let sd := cScalarDest (codeAt code r.hi)
  let three := [(r.hi, 5), (r.mid, 6), (r.lo, 6)]
  decide (r.hi < r.mid) && decide (r.mid < r.lo) && decide (r.lo < code.length) &&
  three.all (fun q => cOp (codeAt code q.1) = q.2 && cScalarDest (codeAt code q.1) = sd && codeAt code q.1 % 2 ^ 11 = 0) &&
  (code.zipIdx).all (fun q => !(decide (r.hi < q.2) && decide (q.2 < r.lo) && q.2 != r.mid && cScalarDest q.1 = sd))

/-- Bundles an entry names. -/
def Reloc.names (r : Reloc) : List Nat := [r.hi, r.mid, r.lo]

/-- The first relocation entry that breaks R227; no bundle may be named twice. -/
def relocFault (code : List Nat) (l : List Reloc) : Option Nat :=
  (l.zipIdx.foldl (fun (acc : Option Nat × List Nat) q =>
    if acc.1.isSome then acc
    else if relocShape code q.1 && q.1.names.all (fun i => !acc.2.contains i) then (none, q.1.names ++ acc.2) else (some q.2, acc.2))
    (none, [])).1

/-! ### Charges and deadlines of the O operations (R242, R245) -/

/-- Column of R242 for a line's format; far delays have the charges of plain lines. -/
def chargeRank (fmt : Nat) (far : Bool) : Nat := if far ∨ fmt = 0 then 0 else if fmt = 1 then 1 else 2

/-- Charge of an O operation at the rank of the most costly line the block declares. R242 says so for tap forms and DWR, and names no line for a
table read: the same column is taken for TRD, TRD4 and TRD4A (log entry 125). -/
def oCharge (op rank : Nat) : Nat :=
  if op = 0 then 0
  else if op ∈ [1, 6, 0x0B] then (if rank = 0 then 64 else 128)
  else if op ≤ 0x0D then (if rank = 2 then 192 else 128)
  else if op = 0x0E then (if rank = 0 then 128 else 256)
  else 8

/-- An O operation as the service model sees it: ENG cycle of its issue counted from the boundary, charge, deadline in bundles or 0. -/
structure Charge where
  cycle : Nat
  charge : Nat
  dead : Nat
  deriving DecidableEq, Repr

/-- Deadline of an O operation in bundles from its issue; 0 for B(n+1). -/
def oDeadline (op : Nat) : Nat := if op ≤ 0x0D then 20 else if op ∈ [0x0F, 0x11, 0x13] then 10 else 0

/-- The charge of the bundle issued at a position. -/
def chargeAt (rank p w : Nat) : Charge := { cycle := 256 + p, charge := oCharge (oOpOf w) rank, dead := oDeadline (oOpOf w) }

/-- The charges of a block placed from issue position `start` on (R64, R243). -/
def BImage.charges (b : BImage) (start rank : Nat) : List Charge :=
  ((b.trace.zipIdx).map (fun q => chargeAt rank (start + q.2) (codeAt b.code q.1))).filter (fun c => c.charge != 0)

/-- ORB cycles before cycle `t` that are not idle, in the phase in which cycle 0 finds the frame counter at `phase` (R237). -/
def busyCycles (phase t : Nat) : Nat := t - ((t + phase) / 8 - phase / 8)

/-- Whether share `g` serves every access by its deadline in one phase of the frame counter; `p` is the ORB cycles of a tick (R244,
R245, R247). Owned bank-cycles are numbered g to the cycle that is not idle, and the accesses take them in order. -/
def meets (g p phase : Nat) (l : List Charge) : Bool :=
  (l.foldl (fun (acc : Bool × Nat) c =>
    let first := max acc.2 (g * busyCycles phase (c.cycle / 2 + 1))
    let last := min p (if c.dead = 0 then p else c.cycle / 2 + c.dead / 2)
    (acc.1 && decide (first + c.charge ≤ g * busyCycles phase last), first + c.charge)) (true, 0)).1

/-- Whether a share meets every deadline in every phase. -/
def meetsAll (g p : Nat) (l : List Charge) : Bool := (List.range 8).all (fun f => meets g p f l)

/-- The smallest share that meets every deadline, if 64 does (R380). -/
def leastShare (p : Nat) (l : List Charge) : Option Nat := (List.range 65).find? (fun g => meetsAll g p l)

end Sys2Proof.Machine
end

