-- ==== Sys2Proof/Machine/GraphCheck.lean ====
section
/-! DEFINITION. Admission of a graph image: the checks of R378 that need no placement, codes 0x01 to 0x0B. -/
namespace Sys2Proof.Machine
open Sys2Proof

/-- A rejection as the diagnostic objects report it (R378, R379). -/
structure Diag where
  code : Nat
  table : Nat
  entry : Nat
  detail : Nat
  need : Nat
  have_ : Nat
  eng : Nat
  /-- The device concerned where it is not this one. -/
  dev : Option Nat := none
  deriving DecidableEq, Repr

/-- A rejection without quantities. -/
def diag (code table entry detail : Nat) : Diag :=
  { code := code, table := table, entry := entry, detail := detail, need := 0, have_ := 0, eng := 0 }

/-- What of the device a check sees (R361): its fabric address or 0xFFF, the devices of the fabric, mode, tick rate, bundle budget. -/
structure GEnv where
  own : Nat
  devices : List Nat
  mode : Nat
  rate : Nat
  budget : Nat
  deriving DecidableEq, Repr

/-- The device a device field names: 0xFFF is the loading device. -/
def GEnv.dev (v : GEnv) (d : Nat) : Nat := if d = 0xFFF then v.own else d
/-- Whether a device field names a device that is there. -/
def GEnv.present (v : GEnv) (d : Nat) : Bool := d = 0xFFF || v.dev d = v.own || v.devices.contains d

/-- The first true condition of a list, as the number beside it. -/
def firstOf (l : List (Bool × Nat)) : Option Nat := (l.find? (fun p => p.1)).map (·.2)

/-- The first entry of a table with a failing field. -/
def firstEntry {α : Type} (code table : Nat) (l : List α) (f : α → Option Nat) : Option Diag :=
  (l.zipIdx).findSome? (fun p => (f p.1).map (fun off => diag code table p.2 off))

/-! ### 0x01 Header -/

def headerFault (l : List Byte) : Option Diag :=
  let n := numAt l 8 4
  let counts := gTables.map (fun t => (decide (t.2.2.2 < numAt l t.2.1 4) || (t.1 = 1 && numAt l t.2.1 4 = 0), t.2.1))
  let tests : List (Bool × Nat) := [(numAt l 0 4 != 0x54475248, 0), (numAt l 4 2 != 1, 4), (decide (1 < numAt l 6 2), 6),
    (numAt l 0x4C 48 != 0, 0x4C)] ++ counts ++
    [(decide (n < 128) || decide (2 ^ 30 < n) || n != l.length, 8), ((crc32c (l.take 0x7C ++ l.drop 0x80)).toNat != numAt l 0x7C 4, 0x7C)]
  (firstOf tests).map (fun off => diag 1 0 off 0)

/-! ### 0x02 Layout -/

/-- Offset and size of a table in the image. -/
def tableSpan (l : List Byte) (t : Nat × Nat × Nat × Nat) : Nat × Nat := (numAt l (t.2.1 + 4) 4, numAt l t.2.1 4 * t.2.2.1)

/-- Whether two spans of bytes meet; an empty span meets none. -/
def spansMeet (a b : Nat × Nat) : Bool := a.2 != 0 && b.2 != 0 && decide (a.1 < b.1 + b.2) && decide (b.1 < a.1 + a.2)

/-- Tables and the data area (R362): each inside the image, on a multiple of 8, apart from the header and from each other. The offset of
an empty table is held to the first two. -/
def layoutFault (l : List Byte) : Option Diag :=
  let data := (numAt l 0x44 4, numAt l 0x48 4)
  let bad := fun (t : Nat × Nat × Nat × Nat) =>
    let s := tableSpan l t
    s.1 % 8 != 0 || decide (l.length < s.1 + s.2) ||
    (s.2 != 0 && (decide (s.1 < 128) || spansMeet s data || gTables.any (fun u => decide (u.1 < t.1) && spansMeet s (tableSpan l u))))
  let tests : List (Bool × Nat) := (decide (l.length < data.1 + data.2) || (decide (data.1 < 128) && data.2 != 0), 0x44) ::
    gTables.map (fun t => (bad t, t.2.1 + 4))
  (firstOf tests).map (fun off => diag 2 0 off 0)

/-- Whether an optional data-area range runs past the data area. -/
def rangePast (n off size : Nat) : Bool := off != none32 && decide (n < off + size)

/-- Data-area ranges named in entries. -/
def rangeFault (g : GImage) : Option Diag :=
  let n := g.data.length
  (firstEntry 2 1 g.blocks (fun b => firstOf [(b.imageOff % 8 != 0 || decide (n < b.imageOff + b.imageBytes), 0)])).orElse fun _ =>
  (firstEntry 2 2 g.regions (fun r => firstOf [(rangePast n r.initOff r.initBytes, 0x0C)])).orElse fun _ =>
  (firstEntry 2 3 g.lines (fun x => firstOf [(rangePast n x.initOff (4 * x.len), 0x1C)])).orElse fun _ =>
  (firstEntry 2 5 g.params (fun p => firstOf [(p.domain && rangePast n p.dfltOff (4 * p.words), 0x1C)])).orElse fun _ =>
  firstEntry 2 6 g.paths (fun p => firstOf [(decide (n < p.listOff + 4 * p.count), 0)])

/-! ### 0x03 Reference and entry fields -/

/-- The block of an endpoint of edge `k`, 0 where it has none. -/
def GEdge.producer (e : GEdge) : Nat := e.src.block?.getD 0
def GEdge.consumer (e : GEdge) : Nat := e.dst.block?.getD 0

/-- Whether an endpoint does not fit its edge: names nothing, an absent device, or a SAP without carrier 2, or one whose groups run past the 16
groups of its port, which is taken as a field outside its range (R368, log entry 126). -/
def GEnv.endBad (v : GEnv) (e : GEdge) (p : Endpoint) : Bool :=
  match p with
  | .bad => true
  | .block _ => false
  | .sap d _ first => e.carrier != 2 || !v.present d || decide (16 < first + e.groups)

/-- Whether the region of an edge is not as its carrier asks (R367). -/
def GImage.edgeRegionBad (g : GImage) (e : GEdge) : Bool :=
  if e.carrier = 0 then
    match g.regions[e.region]? with
    | none => true
    | some r => r.block != e.producer || decide (2 < r.kind)
  else e.region != none32

/-- The first field of an edge that fails (R367, R368). An edge between two SAP endpoints has no block that computes it, and its second endpoint
is taken as of the wrong kind (log entry 126). -/
def GImage.edgeFault (g : GImage) (v : GEnv) (e : GEdge) : Option Nat :=
  firstOf [(decide (2 < e.carrier), 0x0A), (v.endBad e e.src, 0), (v.endBad e e.dst || (e.src.isSap && e.dst.isSap), 4), (e.channels = 0, 8),
    (decide (4 < e.fmt) || (decide (e.carrier < 2) && e.fmt != 0), 0x0B), (decide (1 < e.flags), 0x0D), (e.rsv != 0, 0x0F), (e.rsv2 != 0, 0x14),
    (decide (2 < e.policy), 0x0E), (g.edgeRegionBad e, 0x10)]

/-- Whether the region or line a parameter names is not of the kind its binding asks (R370). -/
def GImage.targetBad (g : GImage) (p : GParam) : Bool :=
  if p.bind = 2 then decide (g.lines.length ≤ p.target)
  else if p.bind < 2 then
    match g.regions[p.target]? with
    | none => true
    | some r => if p.bind = 0 then r.kind != 3 else decide (2 < r.kind)
  else false

/-- Whether a path's list is not a chain of edges from a SAP input to a SAP output (R369). -/
def GImage.pathBad (g : GImage) (p : GPath) : Bool :=
  let es := p.edges.map (fun i => g.edges[i]?)
  es.any (·.isNone) || !((es.head?.getD none).map (fun (e : GEdge) => e.src.isSap)).getD false || !((es.getLast?.getD none).map (fun (e : GEdge) => e.dst.isSap)).getD false ||
  (es.zip (es.drop 1)).any (fun q => match q with
    | (some a, some b) => a.dst != b.src
    | _ => true)

/-- Fields of a line that R259, R260, R265 and R366 bound. -/
def GImage.lineField (g : GImage) (x : GLine) : Option Nat :=
  let blocked := x.fmt != 0 || x.place = 2
  firstOf [(decide (4 < x.fmt), 4), (decide (2 < x.place), 5), (decide (3 < x.state), 6), (x.rsv != 0, 7),
    (decide (x.maxLen < 2) || decide (4194304 < x.maxLen) || (blocked && x.maxLen % 16 != 0), 8),
    (decide (x.len < 2) || decide (x.maxLen < x.len) || (blocked && x.len % 16 != 0) ||
      (x.aliasOf != none32 && decide (((g.lines[x.aliasOf]?).map (·.len)).getD 0 < x.len)), 0x0C),
    (x.spanLo != 0 && decide (x.spanLo < 64), 0x10), (decide (1023 < x.spanGroups), 0x14)]

/-- Whether an alias names no other line, or one that is itself an alias (R265). -/
def GImage.aliasBad (g : GImage) (k : Nat) (x : GLine) : Bool :=
  x.aliasOf != none32 && (x.aliasOf = k || ((g.lines[x.aliasOf]?).map (fun y => y.aliasOf != none32)).getD true)

/-- Code 0x03: the references of every table first, then the fields of blocks, regions and lines, which R378 leaves open (log entry 73). -/
def GImage.refFault (g : GImage) (v : GEnv) : Option Diag :=
  let nb := g.blocks.length
  (firstEntry 3 2 g.regions (fun r => firstOf [(decide (nb ≤ r.block), 0)])).orElse fun _ =>
  (firstEntry 3 3 g.lines.zipIdx (fun x => firstOf [(decide (nb ≤ x.1.block), 0), (g.aliasBad x.2 x.1, 0x18)])).orElse fun _ =>
  (firstEntry 3 4 g.edges (g.edgeFault v)).orElse fun _ =>
  (firstEntry 3 5 g.params (fun p => firstOf [(g.targetBad p, 4)])).orElse fun _ =>
  (firstEntry 3 6 g.paths (fun p => firstOf [(decide (p.count = 0) || decide (255 < p.count), 4), (p.rsv != 0, 0x0C), (g.pathBad p, 0)])).orElse fun _ =>
  (firstEntry 3 1 g.blocks (fun b => firstOf [(decide (b.migrate = 3) || decide (3 < b.flags), 0x0C), (b.pin / 2 ^ 15 % 2 ^ 15 != 0, 8),
    (b.rsv != 0, 0x18), (decide (16777215 < b.w), 0x10)])).orElse fun _ =>
  (firstEntry 3 2 g.regions (fun r => firstOf [(decide (r.kind ∉ [0, 1, 2, 3, 7]), 4), (decide (3 < r.state), 5),
    (decide (r.align < 2) || decide (16 < r.align), 6), (r.rsv != 0, 7), (r.rsv2 != 0, 0x14), (r.bytes % 4 != 0 || decide (r.bytes < 4), 8),
    (decide (r.bytes < r.initBytes), 0x10)])).orElse fun _ =>
  firstEntry 3 3 g.lines g.lineField

/-! ### 0x04 Block image, 0x05 Bundle, 0x06 Relocation -/

/-- Row 1 of R230. -/
def imageHeaderBad (l : List Byte) : Bool :=
  let within := fun off hi => decide (1 ≤ numAt l off 2) && decide (numAt l off 2 ≤ hi)
  decide (l.length < 64) || numAt l 0 4 != 0x54424C4B || numAt l 4 2 != 1 || decide (1 < numAt l 6 2) || numAt l 0x22 2 != 0 || numAt l 0x38 4 != 0 ||
  !within 8 32768 || !within 10 32768 || !within 12 32768 || decide (4096 < numAt l 14 2) || decide (4096 < numAt l 0x20 2) ||
  64 + 16 * (numAt l 12 2 + numAt l 14 2) != l.length

/-- Whether a relocation names an object of its kind placed for the block: one of its own, or the buffer of a carrier-0 edge it
consumes (R233, R363). -/
def GImage.symbolOk (g : GImage) (b : Nat) (r : Reloc) : Bool :=
  if r.kind = 4 then ((g.lines[r.symbol]?).map (fun x => decide (x.block = b))).getD false
  else if r.kind = 5 ∨ r.kind = 6 then
    ((g.edges[r.symbol]?).map (fun e => e.carrier = (if r.kind = 5 then 2 else 1) && (e.src.block? = some b || e.dst.block? = some b))).getD false
  else ((g.regions[r.symbol]?).map (fun x => x.kind = r.kind &&
    (x.block = b || g.edges.any (fun e => e.carrier = 0 && e.region = r.symbol && e.dst.block? = some b)))).getD false

/-- Labels after two blocks are joined: the lower label stands for both. -/
def joinLabels (l : List Nat) (p : Nat × Nat) : List Nat :=
  let a := l.getD p.1 0
  let b := l.getD p.2 0
  l.map (fun x => if x = max a b then min a b else x)

/-- The label of every block under a list of pairs. -/
def GImage.labels (g : GImage) (l : List (Nat × Nat)) : List Nat := l.foldl joinLabels (List.range g.blocks.length)

/-- Pairs of blocks that one engine must hold (R380) under pins of blocks to engines: carrier-0 edges, a shared pinned engine, alias
lines and what they view. -/
def GImage.pairsUnder (g : GImage) (pin : GBlock × Nat → Option (Nat × Nat)) : List (Nat × Nat) :=
  (g.edges.filter (fun e => e.carrier = 0)).map (fun e => (e.producer, e.consumer)) ++
  (g.blocks.zipIdx).filterMap (fun x => (pin x).bind (fun p => ((g.blocks.zipIdx).find? (fun y => pin y = some p)).map (fun y => (y.2, x.2)))) ++
  (g.lines.filter (fun x => x.aliasOf != none32)).map (fun x => (x.block, ((g.lines[x.aliasOf]?).map (·.block)).getD x.block))

/-- The device of a SAP endpoint of a block's edges. -/
def GImage.sapDev (g : GImage) (v : GEnv) (b : Nat) : Option Nat :=
  g.edges.findSome? (fun e =>
    match e.src, e.dst with
    | .sap d _ _, .block c => if c = b then some (v.dev d) else none
    | .block c, .sap d _ _ => if c = b then some (v.dev d) else none
    | _, _ => none)

/-- The device on which a block with a pinned engine is: its pin, else that of a SAP it reaches, else the loading device; that for every
block where FABRIC is clear (R363, R380). -/
def GImage.pinHome (g : GImage) (v : GEnv) (b : Nat) (pin : Option Nat) : Nat :=
  if g.fabric then (pin.orElse fun _ => g.sapDev v b).getD v.own else v.own

/-- The cluster label of every block by the pins of the image alone. -/
def GImage.clusterLabels (g : GImage) (v : GEnv) : List Nat :=
  g.labels (g.pairsUnder (fun x => x.1.pinEng.map (fun p => (p, g.pinHome v x.2 (x.1.pinDev.map v.dev)))))

/-- The extent of the object a relocation names, in the unit of its kind; a line set is the one line named (R228). -/
def GImage.extent (g : GImage) (r : Reloc) : Nat :=
  if r.kind = 4 then 1
  else if r.kind = 5 then ((g.edges[r.symbol]?).map (·.channels)).getD 0
  else if r.kind = 6 then 4 * ((g.edges[r.symbol]?).map (·.channels)).getD 0
  else ((g.regions[r.symbol]?).map (·.bytes)).getD 0

/-- Whether a relocation entry breaks R228. -/
def GImage.valueFault (g : GImage) (b : BImage) : Bool := b.relocs.any (fun r => decide (r.addend < 0) || decide ((g.extent r : Int) ≤ r.addend))

/-- The first failing row of R230 of a block. Row 4 (R223): an earlier block of its cluster, which one engine must hold,
has the other fetch mode; a whole cluster finds its engine at placement. DEDUCED (log entry 74): rows 6 and 8, which are R227 and R228,
need no placement and are reported here, so that code 0x06 finds no failure left. -/
def GImage.imageRow (g : GImage) (labels : List Nat) (b : Nat) (x : GBlock) : Option Nat :=
  let l := (g.data.drop x.imageOff).take x.imageBytes
  if imageHeaderBad l then some 1
  else if (crc32c (l.take 0x3C ++ l.drop 0x40)).toNat != numAt l 0x3C 4 then some 2
  else
    let i := bImage l
    firstOf [(i.issues != i.issue, 3),
      ((g.blocks.zipIdx).any (fun y => decide (y.2 < b) && labels.getD y.2 0 = labels.getD b 0 && (g.block y.1).unified != i.unified), 4),
      (i.relocs.any (fun r => decide (7 < r.kind) || r.rsv != 0), 5), ((Machine.relocFault i.code i.relocs).isSome, 6),
      (i.relocs.any (fun r => !g.symbolOk b r), 7), (g.valueFault i, 8)]

/-- The first relocation entry of a block that breaks R227, else the first that breaks R228. -/
def GImage.relocFault (g : GImage) (b : BImage) : Option Nat :=
  (Machine.relocFault b.code b.relocs).orElse fun _ =>
    b.relocs.findIdx? (fun r => decide (r.addend < 0) || decide ((g.extent r : Int) ≤ r.addend))

def GImage.codeFault (g : GImage) (v : GEnv) : Option Diag :=
  (firstEntry 4 1 g.blocks.zipIdx (fun x => g.imageRow (g.clusterLabels v) x.2 x.1)).orElse fun _ =>
  (firstEntry 5 7 g.blocks (fun x => (bundleFault v.budget (g.block x)).map (fun f => f.2 * 16 + f.1))).orElse fun _ =>
  firstEntry 6 8 g.blocks (fun x => g.relocFault (g.block x))

/-! ### 0x08 Edge order -/

/-- Blocks reached from a set along carrier-0 edges without DELAY1, in `n` rounds. -/
def GImage.reach (g : GImage) : Nat → List Nat → List Nat
  | 0, l => l
  | n + 1, l =>
    g.reach n ((l ++ (g.edges.filter (fun e => e.carrier = 0 && !e.delay1 && l.contains e.producer)).map (·.consumer)).eraseDups)

/-- Whether an edge lies on a cycle of carrier-0 edges without DELAY1 (R79). -/
def GImage.onCycle (g : GImage) (e : GEdge) : Bool :=
  e.carrier = 0 && !e.delay1 && (g.reach g.blocks.length [e.consumer]).contains e.producer

/-- Whether two blocks are pinned to different devices, or, where `engines` is set, to different engines. -/
def GImage.apart (g : GImage) (v : GEnv) (engines : Bool) (a b : Nat) : Bool :=
  match g.blocks[a]?, g.blocks[b]? with
  | some x, some y =>
    (match x.pinDev, y.pinDev with
     | some p, some q => v.dev p != v.dev q
     | _, _ => false) ||
    (engines && (match x.pinEng, y.pinEng with
     | some p, some q => p != q
     | _, _ => false))
  | _, _ => false

def GImage.orderFault (g : GImage) (v : GEnv) : Option Diag :=
  (firstEntry 8 4 g.edges (fun e => firstOf [(g.onCycle e || (decide (e.carrier < 2) && g.apart v (e.carrier = 0) e.producer e.consumer), 0)])).orElse fun _ =>
  firstEntry 8 3 g.lines (fun x => firstOf [(x.aliasOf != none32 && g.apart v true x.block (((g.lines[x.aliasOf]?).map (·.block)).getD x.block), 0)])

/-! ### 0x09 State -/

/-- Bytes of storage of a line (R305, R374). -/
def GLine.bytes (x : GLine) : Nat := if x.fmt = 0 then 4 * x.maxLen else (x.maxLen / 16 * groupBytes x.fmt + 63) / 64 * 64

/-- The small state of a block in bytes (R374). -/
def GImage.smallBytes (g : GImage) (b : Nat) : Nat :=
  sumNat ((g.regions.filter (fun r => r.block = b && r.state = 3)).map (·.bytes)) +
  sumNat ((g.lines.filter (fun x => x.block = b && x.state = 3)).map GLine.bytes) +
  sumNat ((g.edges.filter (fun e => e.carrier = 0 && e.delay1 && e.dst.block? = some b)).map (fun e => 4 * e.channels))

def GImage.stateFault (g : GImage) : Option Diag :=
  (firstEntry 9 1 g.blocks (fun b => firstOf [((b.migrate = 2) != (b.xfade != 0), 0x0E)])).orElse fun _ =>
  (firstEntry 9 2 g.regions (fun r => firstOf [((r.state = 3 && decide (2 < r.kind)) || (r.kind = 3 && decide (1 < r.state)), 5)])).orElse fun _ =>
  firstEntry 9 1 g.blocks.zipIdx (fun b => firstOf [(b.1.small != g.smallBytes b.2, 0x14),
    (g.lines.any (fun x => x.block = b.2 && x.state = 2 && decide (b.1.w < x.maxLen)), 0x10)])

/-! ### 0x0A Parameter -/

/-- A 32-bit value compared by a parameter's type: signed but for UINT32 (R460). -/
def GParam.val (p : GParam) (v : Nat) : Int := if p.ty = 8 then v else (BitVec.ofNat 32 v).toInt

/-- LEN of a line as placed: the DEFAULT of its BIND 2 parameter, if it has one (R373). -/
def GImage.lineLen (g : GImage) (k : Nat) : Nat :=
  match (g.params.filter (fun p => p.bind = 2 && p.target = k)).getLast? with
  | some p => p.dflt
  | none => ((g.lines[k]?).map (·.len)).getD 0

/-- Whether R270 would refuse a length of line `k`. -/
def GImage.lenRefused (g : GImage) (k v : Nat) : Bool :=
  match g.lines[k]? with
  | none => true
  | some x =>
    decide (v < 2) || decide (x.maxLen < v) || ((x.fmt != 0 || x.place = 2) && v % 16 != 0) || (x.aliasOf != none32 && decide (g.lineLen x.aliasOf < v)) ||
    (g.lines.zipIdx).any (fun y => y.1.aliasOf = k && decide (v < g.lineLen y.2))

/-- The first field of a parameter that fails (R370, R372, R378). TYPE DOMAIN has no length in samples to give: with BIND 2 it is taken as a bad
BIND (log entry 127). -/
def GImage.paramFault (g : GImage) (p : GParam) : Option Nat :=
  let room := if p.bind < 2 then ((g.regions[p.target]?).map (·.bytes)).getD 0 else 0
  let repl := p.flags.testBit 1
  firstOf [(decide (p.ty ∉ [4, 8, 10, 11, 16]), 0), (decide (2 < p.bind) || (p.bind = 2 && p.domain), 1),
    (decide (7 < p.flags) || (p.flags.testBit 0 && p.bind != 0) || (repl && p.domain), 2), (decide (15 < p.rights), 3),
    (decide (p.words < 1) || (decide (1 < p.words) && !repl && !p.domain) || (p.bind = 2 && p.words != 1), 0x0C),
    (if p.bind < 2 then p.offset % 4 != 0 || decide (room < p.offset + 4 * p.words) else p.offset != 0, 8),
    (!p.domain && decide (p.val p.hi < p.val p.lo), 0x14),
    (!p.domain && (decide (p.val p.dflt < p.val p.lo) || decide (p.val p.hi < p.val p.dflt)), 0x10),
    (p.bind = 2 && g.lenRefused p.target p.dflt, 0x10)]

/-! ### 0x0B Pin -/

/-- Whether a block's pin cannot be met, or a block of a Hosted graph lacks one (R385). -/
def GImage.pinBad (g : GImage) (v : GEnv) (b : GBlock) : Bool :=
  (match b.pinDev with
   | some d => !v.present d || (!g.fabric && v.dev d != v.own)
   | none => false) ||
  (v.mode = 3 && (b.pinEng.isNone || (g.fabric && b.pinDev.isNone)))

/-- The checks of R378 in the order of their codes, up to 0x0B. -/
def graphFault (v : GEnv) (l : List Byte) : Option Diag :=
  (headerFault l).orElse fun _ => (layoutFault l).orElse fun _ =>
  let g := gImage l
  (rangeFault g).orElse fun _ => (g.refFault v).orElse fun _ => (g.codeFault v).orElse fun _ =>
  (if g.rate != 0 && g.rate != v.rate then some (diag 7 0 0x10 v.rate) else none).orElse fun _ =>
  (g.orderFault v).orElse fun _ => g.stateFault.orElse fun _ => (firstEntry 10 5 g.params g.paramFault).orElse fun _ =>
  firstEntry 11 1 g.blocks (fun b => firstOf [(g.pinBad v b, 0)])

end Sys2Proof.Machine
end

