-- ==== Sys2Proof/Machine/Reserve.lean ====
section
/-! DEFINITION. The Origin's slot reservation: the fabric as its topology gives it, routes, segments, places of runs, run tables, repair plans
(R76 to R78, R566, R588, R589, R599 to R602, R606). -/
namespace Sys2Proof.Machine
open Sys2Proof

/-! ### The fabric as the Origin knows it -/

/-- One direction of a fabric link: its ends, its lanes, and whether it may carry runs (R599, R600). -/
structure FabLink where
  dev : Nat
  port : Nat
  peer : Nat
  peerPort : Nat
  lanes : Nat
  ok : Bool
  deriving DecidableEq, Repr

/-- The tick rate, the directed links, and the route table of every device (R588). -/
structure FabMap where
  rate : Nat
  links : List FabLink
  routes : List (Nat × List (Nat × Nat))
  deriving DecidableEq, Repr

/-- A port value that TOPOLOGY carries as 32 bits in two's complement. -/
def signed32 (n : Nat) : Int := (BitVec.ofNat 32 n).toInt

/-- The directed link from port `k` of a device, if TOPOLOGY names its far end: both ends Up, and the margins as the receiving end has measured
them (R599). TOPOLOGY carries no lane count: two lanes are taken, but for the own links (log entry 119). -/
def fabLink (l : List TopoDev) (addr : Nat → Option Nat) (fs : Nat) (lanes : Nat → Nat → Nat) (a k : Nat) (p : TopoPort) : Option FabLink :=
  match topoDev l p.nbUid, addr p.nbUid with
  | some e, some b =>
    match e.ports[p.nbPort]? with
    | some q =>
      let n := if lanes a k = 0 then (if lanes b p.nbPort = 0 then 2 else lanes b p.nbPort) else lanes a k
      some { dev := a, port := k, peer := b, peerPort := p.nbPort, lanes := n
             ok := p.state = 4 && q.state = 4 && marginsHold fs n q.delay (signed32 q.lead) }
    | none => none
  | _, _ => none

/-- The directed links of a topology. -/
def fabLinks (l : List TopoDev) (addr : Nat → Option Nat) (fs : Nat) (lanes : Nat → Nat → Nat) : List FabLink :=
  l.flatMap (fun d => match addr d.key.uid with
    | some a => (d.ports.zipIdx).filterMap (fun p => fabLink l addr fs lanes a p.2 p.1)
    | none => [])

/-- The route table of every device (R589). -/
def fabRoutes (l : List TopoDev) (addrs : List (Nat × Nat)) (own : Nat) : List (Nat × List (Nat × Nat)) :=
  match torusDims l own with
  | some (x, y) => addrs.map (fun p => (p.2, torusRoutes x y (p.2 % x) (p.2 / x)))
  | none => addrs.filterMap (fun p => (topoDev l p.1).map (fun d => (p.2, plainRoutes l addrs d)))

/-- The fabric as this device knows it, at a tick rate. -/
def State.fabMap (s : State) (fs : Nat) : FabMap :=
  let l := s.ownTopo :: s.net.topo
  let addr := fun u => (s.net.assigned.find? (fun p => p.1 = u)).map (·.2)
  let lanes := fun a k => if a = s.ownAddr ∧ k < 4 then s.obj (O.lanesTrained k) else 0
  { rate := fs, links := fabLinks l addr fs lanes, routes := fabRoutes l s.net.assigned (s.obj O.uid) }

/-- The link of a port, if it may carry runs. -/
def FabMap.link (m : FabMap) (a k : Nat) : Option FabLink := m.links.find? (fun x => x.dev = a && x.port = k && x.ok)

/-- The route of R589 from a device: primary port, else alternate, at every device. -/
def FabMap.route (m : FabMap) (dst : Nat) : Nat → Nat → Option (List FabLink)
  | 0, _ => none
  | n + 1, a =>
    if a = dst then some []
    else
      let e := aGet 0xFF (aGet [] m.routes a) dst
      match (m.link a (e % 16)).orElse (fun _ => m.link a (e / 16)) with
      | some k => (m.route dst n k.peer).map (fun t => k :: t)
      | none => none

/-- Hops to a device over the links that may carry runs, by `n` rounds. -/
def FabMap.hops (m : FabMap) (dst : Nat) : Nat → List (Nat × Nat)
  | 0 => [(dst, 0)]
  | n + 1 =>
    let t := m.hops dst n
    let near := (m.links.filter (fun k => k.ok && t.any (fun p => p.1 = k.peer) && !t.any (fun p => p.1 = k.dev))).map (·.dev)
    t ++ near.eraseDups.map (fun a => (a, n + 1))

/-- A shortest way by the lowest ports, given the hops. -/
def FabMap.descend (m : FabMap) (t : List (Nat × Nat)) : Nat → Nat → Option (List FabLink)
  | 0, _ => some []
  | n + 1, a =>
    match m.links.find? (fun k => k.dev = a && k.ok && t.any (fun p => p.1 = k.peer && p.2 = n)) with
    | some k => (m.descend t n k.peer).map (fun r => k :: r)
    | none => none

/-- A shortest way from a device to another over the links that may carry runs. -/
def FabMap.shortest (m : FabMap) (a dst : Nat) : Option (List FabLink) :=
  let t := m.hops dst m.routes.length
  (t.find? (fun p => p.1 = a)).bind (fun p => m.descend t p.2 a)

/-- The map without a link, in both directions. -/
def FabMap.avoid (m : FabMap) (a b : Nat × Nat) : FabMap :=
  { m with links := m.links.map (fun k => if sameLink (k.dev, k.port) (k.peer, k.peerPort) a b then { k with ok := false } else k) }

/-- The largest hop distance from a device. -/
def FabMap.radius (m : FabMap) (a : Nat) : Nat := (m.hops a m.routes.length).foldl (fun n p => max n p.2) 0

/-! ### Places of runs (R550, R566, R600) -/

/-- A run of a reservation on one link, from a device and port to its far end (R600): its first channel group, which names it, format, blocks
and first frame block; where it arrived, port and first block, if it is forwarded in the tick of arrival (R566); whether it is held from
the latch before (R571); whether the far end latches it. -/
structure RunAt where
  dev : Nat
  port : Nat
  peer : Nat
  peerPort : Nat
  first : Nat
  fmt : Nat
  blocks : Nat
  block : Nat
  via : Option (Nat × Nat)
  hold : Bool
  latch : Bool
  deriving DecidableEq, Repr

/-- Frame blocks of a run (R319, R556). -/
def RunSpec.blocks (x : RunSpec) : Nat := (x.groups * groupBits x.fmt + 63) / 64

/-- The lane position of a frame block (R550). -/
def lanePos (lanes j : Nat) : Nat := if lanes = 2 then 1 + j / 2 else 1 + j

/-- Whether `n` blocks that arrive from block `i` on may leave from block `c` on (R566). -/
def mayForward (inLanes i outLanes c n : Nat) : Bool := (List.range n).all (fun b => decide (lanePos inLanes (i + b) + 75 ≤ lanePos outLanes (c + b)))

/-- The blocks of a port direction that runs take: first block and length. -/
def taken (l : List RunAt) (k : FabLink) : List (Nat × Nat) := (l.filter (fun r => r.dev = k.dev && r.port = k.port)).map (fun r => (r.block, r.blocks))

/-- The first free position of `n` blocks on a link, after their arrival where they are forwarded. -/
def firstFree (fs : Nat) (l : List RunAt) (k : FabLink) (n : Nat) (after : Option (Nat × Nat)) : Option Nat :=
  ((List.range (audioBlocks fs k.lanes + 1 - n)).map (fun i => i + 4)).find? (fun c =>
    (taken l k).all (fun u => decide (u.1 + u.2 ≤ c) || decide (c + n ≤ u.1)) &&
    (match after with
     | some (lanes, i) => mayForward lanes i k.lanes c n
     | none => true))

/-- The far end of a run latches it: the end of a segment, or a receiver. -/
def latchAt (l : List RunAt) (r : RunAt) : List RunAt :=
  l.map (fun x => if x.first = r.first ∧ x.dev = r.dev ∧ x.port = r.port then { x with latch := true } else x)

/-- A run laid along the rest of a route, `h` hops after its source; `last` is the run of the hop before with the lanes of its link. A run that
the tree has on a link already is shared. Every segment of `seg` hops begins with the groups latched at the end of the one before (R78, R571). -/
def FabMap.lay (m : FabMap) (seg : Nat) (x : RunSpec) : List FabLink → Nat → Option (RunAt × Nat) → List RunAt → List RunAt ⊕ FabLink
  | [], _, last, l => .inl (match last with
    | some (r, _) => latchAt l r
    | none => l)
  | k :: rest, h, last, l =>
    let head := h % seg = 0
    let l1 := match last with
      | some (r, _) => if head then latchAt l r else l
      | none => l
    match l1.find? (fun r => r.first = x.first && r.dev = k.dev && r.port = k.port) with
    | some r => m.lay seg x rest (h + 1) (some (r, k.lanes)) l1
    | none =>
      let prev := if head then none else last
      match firstFree m.rate l1 k x.blocks (prev.map (fun p => (p.2, p.1.block))) with
      | none => .inr k
      | some c =>
        let r : RunAt := {
          dev := k.dev, port := k.port, peer := k.peer, peerPort := k.peerPort, first := x.first, fmt := x.fmt, blocks := x.blocks, block := c
          via := prev.map (fun p => (p.1.peerPort, p.1.block)), hold := head && decide (0 < h), latch := false }
        m.lay seg x rest (h + 1) (some (r, k.lanes)) (l1 ++ [r])

/-- A way for every receiver: none if one has no way. -/
def ways (f : Nat → Option (List FabLink)) : List Nat → Option (List (List FabLink))
  | [] => some []
  | d :: t => match f d, ways f t with
    | some w, some r => some (w :: r)
    | _, _ => none

/-- The tree of a run laid along the ways to its receivers. -/
def FabMap.layAll (m : FabMap) (seg : Nat) (x : RunSpec) : List (List FabLink) → List RunAt → List RunAt ⊕ FabLink
  | [], l => .inl l
  | w :: t, l =>
    match m.lay seg x w 0 none l with
    | .inl l2 => m.layAll seg x t l2
    | .inr k => .inr k

/-- A run as one run for each of its groups: a run that is too long to cross its hops in one frame is split (R569). -/
def RunSpec.split (x : RunSpec) : List RunSpec := (List.range x.groups).map (fun i => { x with first := x.first + i, groups := 1 })

/-- Why an edge is not placed: its table entry, port, slots needed and the most that the port has free in one piece (R378, R379). -/
structure NoRoom where
  edge : Nat
  port : Nat
  need : Nat
  have_ : Nat
  deriving DecidableEq, Repr

/-- The largest number of groups, below the need, that a link still has room for. -/
def freeGroups (fs : Nat) (l : List RunAt) (k : FabLink) (x : RunSpec) : Nat :=
  ((List.range x.groups).reverse.find? (fun n => (firstFree fs l k ({ x with groups := n } : RunSpec).blocks none).isSome)).getD 0

/-- One edge placed: whole, else group by group (R600). With it the runs as they are named, or why it has no room. -/
def FabMap.place (m : FabMap) (seg : Nat) (x : RunSpec) (w : List (List FabLink)) (l : List RunAt) : (List RunAt × List RunSpec) ⊕ NoRoom :=
  match m.layAll seg x w l with
  | .inl l2 => .inl (l2, [x])
  | .inr k =>
    match x.split.foldl (fun (o : Option (List RunAt)) y => o.bind (fun acc => match m.layAll seg y w acc with
        | .inl l2 => some l2
        | .inr _ => none)) (some l) with
    | some l2 => .inl (l2, x.split)
    | none => .inr { edge := x.edge, port := k.port, need := x.groups, have_ := freeGroups m.rate l k x }

/-- A reservation: its runs, what they carry, and the edges without room. -/
structure Reservation where
  runs : List RunAt
  specs : List RunSpec
  faults : List NoRoom
  deriving DecidableEq, Repr

/-- The reservation of a list of edges, in their order (R600). -/
def FabMap.reserve (m : FabMap) (l : List RunSpec) : Reservation :=
  let seg := max 1 (2304000 / m.rate)
  l.foldl (fun r x =>
    match ways (fun d => m.route d (m.routes.length + 1) x.src) x.dsts with
    | none => { r with faults := r.faults ++ [{ edge := x.edge, port := aGet 0xFF (aGet [] m.routes x.src) (x.dsts.headD 0) % 16, need := x.groups, have_ := 0 }] }
    | some w => match m.place seg x w r.runs with
      | .inl p => { r with runs := p.1, specs := r.specs ++ p.2 }
      | .inr f => { r with faults := r.faults ++ [f] }) { runs := [], specs := [], faults := [] }

/-! ### Run tables (R601) -/

/-- The transmit entry of a run, and the receive entry at its far end. -/
def RunAt.txWord (r : RunAt) : Nat :=
  2 ^ 63 + bitIf r.via.isSome 62 + (r.via.map (·.1)).getD 0 % 4 * 2 ^ 60 + r.block * 2 ^ 46 + r.blocks * 2 ^ 32 + (r.via.map (·.2)).getD 0 * 2 ^ 18 +
    bitIf r.hold 17 + r.fmt * 2 ^ 13 + (if r.via.isSome then 0 else r.first)
def RunAt.rxWord (r : RunAt) : Nat := 2 ^ 63 + r.blocks * 2 ^ 32 + r.block * 2 ^ 18 + r.fmt * 2 ^ 13 + r.first

/-- A run table: device, port, transmit. -/
abbrev TableKey := Nat × Nat × Bool

/-- The entries of runs: their table, the run's name, the word. -/
def runEntryWords (l : List RunAt) : List (TableKey × Nat × Nat) :=
  l.map (fun r => ((r.dev, r.port, true), r.first, r.txWord)) ++ (l.filter (·.latch)).map (fun r => ((r.peer, r.peerPort, false), r.first, r.rxWord))

/-- The entries of one table in order: names and words. -/
def tableOf (l : List RunAt) (t : TableKey) : List (Nat × Nat) := ((runEntryWords l).filter (fun e => e.1 = t)).map (·.2)

/-- The tables that runs use. -/
def tablesOf (l : List RunAt) : List TableKey := ((runEntryWords l).map (·.1)).eraseDups

/-- A run table entry as RESERVE names it. -/
def runWrite (t : TableKey) (i w : Nat) : RunWrite :=
  { port := port4 t.2.1, transmit := t.2.2, index := ⟨i % 10752, Nat.mod_lt _ (by decide)⟩, word := BitVec.ofNat 64 w }

/-- What a table's new content writes: its words, and zero for the entries that an earlier reservation has written beyond them. -/
def tableWrites (l : List RunAt) (t : TableKey) (filled : Nat) : List RunWrite :=
  let w := (tableOf l t).map (·.2)
  ((w ++ List.replicate (filled - w.length) 0).zipIdx).map (fun (p : Nat × Nat) => runWrite t p.2 p.1)

/-! ### Repair plans (R606) -/

/-- The links that runs use, each once: the two ends. -/
def usedLinks (l : List RunAt) : List ((Nat × Nat) × (Nat × Nat)) :=
  l.foldl (fun acc r => if acc.any (fun p => sameLink p.1 p.2 (r.dev, r.port) (r.peer, r.peerPort)) then acc
    else acc ++ [((r.dev, r.port), (r.peer, r.peerPort))]) []

/-- Segments of a way. -/
def segments (seg h : Nat) : Nat := (h + seg - 1) / seg

/-- The names of the runs that cross a link. -/
def crossing (l : List RunAt) (k : (Nat × Nat) × (Nat × Nat)) : List Nat :=
  ((l.filter (fun r => sameLink k.1 k.2 (r.dev, r.port) (r.peer, r.peerPort))).map (·.first)).eraseDups

/-- A run of a reservation placed again without a link: over shortest ways that have as many segments as before; none where there are none. -/
def FabMap.replace (m : FabMap) (k : (Nat × Nat) × (Nat × Nat)) (x : RunSpec) (l : List RunAt) : Option (List RunAt) :=
  let seg := max 1 (2304000 / m.rate)
  let n := m.avoid k.1 k.2
  match ways (fun d => m.route d (m.routes.length + 1) x.src) x.dsts, ways (n.shortest x.src) x.dsts with
  | some old, some new =>
    if (old.zip new).all (fun (p : List FabLink × List FabLink) => segments seg p.1.length = segments seg p.2.length) then
      match n.layAll seg x new l with
      | .inl l2 => some l2
      | .inr _ => none
    else none
  | _, _ => none

/-- The plan for one link: the runs once those that cross it are placed again, and the names that have no place. -/
def FabMap.planLink (m : FabMap) (r : Reservation) (k : (Nat × Nat) × (Nat × Nat)) : List RunAt × List Nat :=
  let gone := crossing r.runs k
  (r.specs.filter (fun x => gone.contains x.first)).foldl (fun (acc : List RunAt × List Nat) x =>
    match m.replace k x acc.1 with
    | some l => (l, acc.2)
    | none => (acc.1, acc.2 ++ [x.first])) (r.runs.filter (fun x => !gone.contains x.first), [])

/-- The entries a plan changes in one table: the words of the runs placed again go to the entries they had and then behind the table; an entry
that is left over is made void. -/
def planWrites (old new : List RunAt) (gone : List Nat) (t : TableKey) : List RunWrite :=
  let was := tableOf old t
  let free := ((was.zipIdx).filter (fun (p : (Nat × Nat) × Nat) => gone.contains p.1.1)).map (·.2)
  let words := ((tableOf new t).filter (fun p => gone.contains p.1)).map (·.2)
  let at_ := free ++ (List.range (words.length - free.length)).map (fun i => was.length + i)
  (at_.zipIdx).filterMap (fun p =>
    let w := words.getD p.2 0
    if ((was[p.1]?).map (·.2)) = some w then none else some (runWrite t p.1 w))

/-- The plan entries of a reservation for every link that carries runs, with the device each is for; and the runs with no plan. -/
def FabMap.plans (m : FabMap) (r : Reservation) : List (Nat × PlanWrite) × Nat :=
  (usedLinks r.runs).foldl (fun (acc : List (Nat × PlanWrite) × Nat) k =>
    let p := m.planLink r k
    let gone := (crossing r.runs k).filter (fun n => !p.2.contains n)
    let l := (tablesOf r.runs ++ tablesOf p.1).eraseDups.flatMap (fun t => (planWrites r.runs p.1 gone t).map (fun w =>
      (t.1, ({ addrA := BitVec.ofNat 12 k.1.1, portA := port4 k.1.2, addrB := BitVec.ofNat 12 k.2.1, portB := port4 k.2.2, entry := w } : PlanWrite))))
    (acc.1 ++ l, acc.2 + p.2.length)) ([], 0)

/-! ### RESERVE and ACTIVATE (R601, R602) -/

/-- A run table entry as the table holds it: the reserved bits read zero (R11, R601). -/
def runEntryWord (w : BitVec 64) : Nat := (w &&& ~~~(0x11000 : BitVec 64)).toNat

def planEntry (p : PlanWrite) : PlanEntry :=
  { endA := (p.addrA.toNat, p.portA.val), endB := (p.addrB.toNat, p.portB.val), port := p.entry.port.val, transmit := p.entry.transmit
    index := p.entry.index.val, word := runEntryWord p.entry.word }

/-- An entry written into a pending run table (R601). -/
def State.writeRun (s : State) (r : RunWrite) : State :=
  s.modLink r.port (fun l => if r.transmit then { l with txPend := aPut 0 l.txPend r.index.val (runEntryWord r.word) }
    else { l with rxPend := aPut 0 l.rxPend r.index.val (runEntryWord r.word) })

/-- Pending run tables and repair plans of a generation, which its activation puts in force; at most 16,384 plan entries are held
(R601, R606, R608). -/
def State.takeReserve (s : State) (gen : Nat) (runs : List RunWrite) (plans : List PlanWrite) : State :=
  let s1 := runs.foldl State.writeRun s
  let old := if s.net.reserveGen = gen then s.net.plansPend else []
  let all := old ++ plans.map planEntry
  s1.modNet (fun n => { n with reserveGen := gen, plansPend := all.take 16384, unplanned := all.length - 16384 })

/-- Bytes of a run table entry and of a plan entry in a RESERVE (log entry 119). -/
def runBytes (r : RunWrite) : List Byte := leBytes 1 (r.port.val + bitIf r.transmit 7) ++ leBytes 2 r.index.val ++ leBytes 8 r.word.toNat
def planBytes (p : PlanWrite) : List Byte :=
  leBytes 2 p.addrA.toNat ++ leBytes 1 p.portA.val ++ leBytes 2 p.addrB.toNat ++ leBytes 1 p.portB.val ++ runBytes p.entry

/-- The payloads of the RESERVE messages to a device, at least one, which names the generation, each within the 2,048 bytes of a message (R561, R576). -/
def reserveBytes (gen : Nat) (runs : List RunWrite) (plans : List PlanWrite) : List (List Byte) :=
  if runs.isEmpty && plans.isEmpty then [leBytes 4 gen ++ leBytes 4 0] else
  (List.range ((runs.length + 179) / 180)).map (fun i =>
    let l := (runs.drop (180 * i)).take 180
    leBytes 4 gen ++ leBytes 2 l.length ++ l.flatMap runBytes ++ leBytes 2 0) ++
  (List.range ((plans.length + 109) / 110)).map (fun i =>
    let l := (plans.drop (110 * i)).take 110
    leBytes 4 gen ++ leBytes 2 0 ++ leBytes 2 l.length ++ l.flatMap planBytes)

/-- The Origin's reservation sent: RESERVE and ACTIVATE to every device of the fabric, its own part taken here (R600 to R602, R606, R608).
The activation tick is not below its bound; by how much it lies above is open (log entry 119). -/
def State.sendReservation (s : State) (specs : List RunSpec) : State :=
  let m := s.fabMap (s.obj O.tickRate)
  let r := m.reserve specs
  let p := m.plans r
  let gen := wrapAdd 32 s.net.reserveGen 1
  let tables := (tablesOf r.runs ++ s.net.filled.map (·.1)).eraseDups
  let writes := fun (a : Nat) => (tables.filter (fun t => t.1 = a)).flatMap (fun t =>
    tableWrites r.runs t (((s.net.filled.find? (fun f => f.1 = t)).map (·.2)).getD 0))
  let plans := fun (a : Nat) => (p.1.filter (fun x => x.1 = a)).map (·.2)
  let high := fun (t : TableKey) => (p.1.filter (fun x => x.1 = t.1 && x.2.entry.port.val = t.2.1 && x.2.entry.transmit == t.2.2)).foldl
    (fun n x => max n (x.2.entry.index.val + 1)) (max (tableOf r.runs t).length (((s.net.filled.find? (fun f => f.1 = t)).map (·.2)).getD 0))
  let tick := (s.tick + 2 * m.radius s.ownAddr + 16 + (Config.freeNat s.freeCtr).toNat) % 2 ^ 48
  let all := (tables ++ p.1.map (fun x => (x.1, x.2.entry.port.val, x.2.entry.transmit))).eraseDups
  let s1 := ({ s with freeCtr := s.freeCtr + 1 } : State).takeReserve gen (writes s.ownAddr) (plans s.ownAddr)
  let s2 := s1.modNet (fun n =>
    { n with unplanned := n.unplanned + p.2, activate := some (gen, tick), replan := false, reserved := (m.rate, specs), filled := all.map (fun t => (t, high t)) })
  ((s.net.assigned.map (·.2)).filter (fun a => a != s.ownAddr)).foldl (fun s a =>
    ((reserveBytes gen (writes a) (plans a)).foldl (fun s b => s.sendDown (s.mkMsg a 0 0xB b)) s).sendDown
      (s.mkMsg a 0 0xC (leBytes 4 gen ++ leBytes 6 tick))) s2

end Sys2Proof.Machine
end

