-- ==== Sys2Proof/Machine/Place.lean ====
section
/-! DEFINITION. The Tiler's placement: clusters, engines, memories, lines, areas, groups, latencies, shares (R380 to R384, R243 to R253). -/
namespace Sys2Proof.Machine
open Sys2Proof

/-- What a placement is a function of besides the image (R361): the environment of the checks, ENG cycles of a tick, LPDDR5X fitted
and the part of it that the journal ring takes, hops between devices and the size of a torus, first port by device, on an Origin the fabric,
closed to placement, pins given by requests, devices assigned to blocks that nothing binds. `here` is the device whose engines and memories
are filled. -/
structure PlaceEnv where
  env : GEnv
  here : Nat
  cycles : Nat
  lpddr : Nat
  ring : Nat × Nat
  hops : List (Nat × List (Nat × Nat))
  torus : Nat × Nat
  route : List (Nat × Nat)
  fab : Option FabMap
  closed : Bool
  pins : List (Nat × Nat × Nat)
  away : List (Nat × Nat)
  deriving DecidableEq, Repr

/-- Steps the shorter way round a ring of `n`. -/
def ringSteps (a b n : Nat) : Nat := min ((a + n - b) % n) ((b + n - a) % n)

/-- Hops between two devices (R76): by the topology, else on a torus by the coordinates (R585, R589); 1 where neither tells (log entry 76). -/
def PlaceEnv.between (v : PlaceEnv) (a b : Nat) : Nat :=
  let x := v.torus.1
  let n := x * v.torus.2
  if a = b then 0
  else match (aGet [] v.hops a).find? (fun p => p.1 = b) with
    | some p => max 1 p.2
    | none => if a < n ∧ b < n then ringSteps (a % x) (b % x) x + ringSteps (a / x) (b / x) v.torus.2 else 1

/-- The hop budget H of the tick rate (R76). -/
def PlaceEnv.budgetH (v : PlaceEnv) : Nat := 2304000 / v.env.rate

/-- ORB cycles of a tick (R241). -/
def PlaceEnv.orb (v : PlaceEnv) : Nat := v.cycles / 2
/-- A later pin of a block by a request, before its pin in the image (R413). -/
def PlaceEnv.pinEng (v : PlaceEnv) (b : Nat) (x : GBlock) : Option Nat :=
  ((v.pins.find? (fun p => p.1 = b)).map (fun p => p.2.2)).orElse fun _ => x.pinEng
def PlaceEnv.pinDev (v : PlaceEnv) (b : Nat) (x : GBlock) : Option Nat :=
  ((v.pins.find? (fun p => p.1 = b)).map (fun p => p.2.1)).orElse fun _ => x.pinDev.map v.env.dev

/-- The next multiple of `m` from `n` on. -/
def roundUp (n m : Nat) : Nat := (n + m - 1) / m * m

/-- Where a new object may begin beside used ranges: at 0 and behind each, aligned. -/
def startsIn (used : List (Nat × Nat)) (align : Nat) : List Nat := (0 :: used.map (·.2)).map (fun p => roundUp p align)

/-- The lowest aligned base at which `size` bytes fit below `cap` beside used ranges. -/
def fitIn (used : List (Nat × Nat)) (size align cap : Nat) : Option Nat :=
  ((startsIn used align).filter (fun a => decide (a + size ≤ cap) && used.all (fun u => decide (a + size ≤ u.1) || decide (u.2 ≤ a)))).min?

/-- The bytes of the largest object of an alignment that fits below `cap` beside used ranges (R379). -/
def roomIn (used : List (Nat × Nat)) (align cap : Nat) : Nat :=
  (startsIn used align).foldl (fun m a =>
    if used.any (fun u => decide (u.1 ≤ a) && decide (a < u.2)) then m
    else max m (used.foldl (fun c u => if a ≤ u.1 then min c u.1 else c) cap - a)) 0

/-! ### Clusters (R380) -/

/-- Pairs of blocks that one engine must hold, with the pins of requests. -/
def GImage.enginePairs (g : GImage) (v : PlaceEnv) : List (Nat × Nat) :=
  g.pairsUnder (fun x => (v.pinEng x.2 x.1).map (fun p => (p, g.pinHome v.env x.2 (v.pinDev x.2 x.1))))

/-- Pairs that one device must hold besides: carrier-1 edges. -/
def GImage.devicePairs (g : GImage) (v : PlaceEnv) : List (Nat × Nat) :=
  g.enginePairs v ++ (g.edges.filter (fun e => e.carrier = 1)).map (fun e => (e.producer, e.consumer))


/-- The device of every block: that of the first block joined with it that is pinned, else of a SAP it reaches, else the one assigned to it,
else the own device; the own device for every block where FLAGS.FABRIC is clear (R363). -/
def GImage.devices (g : GImage) (v : PlaceEnv) : List Nat :=
  if g.fabric = false then List.replicate g.blocks.length v.env.own else
  let lab := g.labels (g.devicePairs v)
  (List.range g.blocks.length).map (fun b =>
    let mates := (g.blocks.zipIdx).filter (fun x => lab.getD x.2 0 = lab.getD b 0)
    ((mates.findSome? (fun x => v.pinDev x.2 x.1)).orElse fun _ => mates.findSome? (fun x => g.sapDev v.env x.2)).getD (aGet v.env.own v.away b))

/-- Blocks that must run after a block under a list of orders, in `n` rounds. -/
def runsAfter (order : List (Nat × Nat)) : Nat → List Nat → List Nat
  | 0, l => l
  | n + 1, l => runsAfter order n ((l ++ (order.filter (fun p => l.contains p.1)).map (·.2)).eraseDups)

/-- Orders between blocks: a producer before its consumer; the consumer of a DELAY1 edge before its producer where R79 leaves it open. -/
def GImage.orders (g : GImage) : List (Nat × Nat) :=
  let hard := (g.edges.filter (fun e => e.carrier = 0 && !e.delay1)).map (fun e => (e.producer, e.consumer))
  (g.edges.filter (fun e => e.carrier = 0 && e.delay1)).foldl (fun o e =>
    if e.producer = e.consumer ∨ (runsAfter o g.blocks.length [e.producer]).contains e.consumer then o else o ++ [(e.consumer, e.producer)]) hard

/-- A list of blocks put in order: each time the lowest whose predecessors are done. -/
def inOrder (order : List (Nat × Nat)) : Nat → List Nat → List Nat
  | 0, _ => []
  | n + 1, rest =>
    match (rest.find? (fun b => !order.any (fun p => p.2 = b && rest.contains p.1))).orElse (fun _ => rest.head?) with
    | none => []
    | some b => b :: inOrder order n (rest.filter (fun x => x != b))

/-- Insertion into a list sorted by `le`, behind equal elements. -/
def insertBy {α : Type} (le : α → α → Bool) (x : α) : List α → List α
  | [] => [x]
  | y :: t => if le y x then y :: insertBy le x t else x :: y :: t

/-- A list sorted by `le`, equal elements in their order. -/
def sortBy {α : Type} (le : α → α → Bool) (l : List α) : List α := l.foldl (fun acc x => insertBy le x acc) []

/-- Declared length of a list of blocks. -/
def GImage.declared (g : GImage) (l : List Nat) : Nat := sumNat (l.map (fun b => ((g.blocks[b]?).map (fun x => (g.block x).decl)).getD 0))

/-- The clusters of the device that is filled, blocks in program order, longest first, on equal length the lowest block first. -/
def GImage.clusters (g : GImage) (v : PlaceEnv) : List (List Nat) :=
  let lab := g.labels (g.enginePairs v)
  let devs := g.devices v
  let mine := (List.range g.blocks.length).filter (fun b => devs.getD b 0 = v.here)
  let groups := ((mine.map (fun b => lab.getD b 0)).eraseDups).map (fun k => mine.filter (fun b => lab.getD b 0 = k))
  let ordered := groups.map (fun c => inOrder g.orders c.length c)
  sortBy (fun a b => decide (g.declared b < g.declared a) || (g.declared a = g.declared b && decide (a.foldl min (a.headD 0) ≤ b.foldl min (b.headD 0)))) ordered

/-! ### Engines and their memories -/

/-- What an engine holds so far: declared length, fetch mode, used bytes of X, Y and coefficient bank, descriptors, blocks. -/
structure EngFill where
  len : Nat
  mode : Option Bool
  x : List (Nat × Nat)
  y : List (Nat × Nat)
  c : List (Nat × Nat)
  d : Nat
  blocks : List Nat
  regions : List PlacedRegion
  deriving DecidableEq, Repr

def EngFill.empty : EngFill := { len := 0, mode := none, x := [], y := [], c := [], d := 0, blocks := [], regions := [] }

/-- A region placed on engine `e`: at the lowest place in its array; a unified region in X, else in Y, in the other order where `inY` says
so, else across both (R101, R225, R365). -/
def EngFill.region (f : EngFill) (e i : Nat) (r : GRegion) (inY : Bool) : EngFill ⊕ Diag :=
  let al := 2 ^ r.align
  let half := 0x200000
  let used := fun (b : Nat) (l : List (Nat × Nat)) => (b, b + r.bytes) :: l
  let put_ := fun (base : Nat) (f : EngFill) =>
    ({ f with regions := f.regions ++ [{ region := i, eng := e, kind := r.kind, base := base, bytes := r.bytes }] } : EngFill)
  let fail := fun (have_ : Nat) =>
    ({ code := 0x0D, table := 2, entry := i, detail := r.kind, need := r.bytes, have_ := have_, eng := e } : Diag)
  if r.kind = 3 then
    match fitIn f.c r.bytes al 0x80000 with
    | some b => .inl (put_ b { f with c := used b f.c })
    | none => .inr (fail (roomIn f.c al 0x80000))
  else if r.kind = 1 then
    match fitIn f.y r.bytes al half with
    | some b => .inl (put_ b { f with y := used b f.y })
    | none => .inr (fail (roomIn f.y al half))
  else
    let x := (fitIn f.x r.bytes al half).map (fun b => put_ b { f with x := used b f.x })
    let y := (fitIn f.y r.bytes al half).map (fun b => put_ (half + b) { f with y := used b f.y })
    if r.kind = 0 then
      match x with
      | some g => .inl g
      | none => .inr (fail (roomIn f.x al half))
    else
      let all := f.x ++ f.y.map (fun u => (u.1 + half, u.2 + half))
      match (if inY then y.orElse (fun _ => x) else x.orElse (fun _ => y)) with
      | some g => .inl g
      | none =>
        match fitIn all r.bytes al (2 * half) with
        | some b => .inl (put_ b { f with x := (b, half) :: f.x, y := (0, b + r.bytes - half) :: f.y })
        | none => .inr (fail (roomIn all al (2 * half)))

/-- The descriptors of a block's lines on an engine. -/
def EngFill.lines (f : EngFill) (e : Nat) (l : List Nat) : EngFill ⊕ Diag :=
  if f.d + l.length ≤ 4096 then .inl { f with d := f.d + l.length }
  else .inr { code := 0x0D, table := 3, entry := l.getD (4096 - f.d) 0, detail := 4, need := f.d + l.length, have_ := 4096, eng := e }

/-- Two steps of a fill, the first failure standing. -/
def fillThen (a : EngFill ⊕ Diag) (f : EngFill → EngFill ⊕ Diag) : EngFill ⊕ Diag :=
  match a with
  | .inl x => f x
  | .inr d => .inr d

/-- Indices of the regions and of the lines of a block. -/
def GImage.regionsOf (g : GImage) (b : Nat) : List (GRegion × Nat) := (g.regions.zipIdx).filter (fun r => r.1.block = b)
def GImage.linesOf (g : GImage) (b : Nat) : List Nat := ((g.lines.zipIdx).filter (fun x => x.1.block = b)).map (·.2)

/-- A cluster placed on engine `e`, in the order of its blocks; `inY` names unified regions that take Y before X. -/
def GImage.fillCluster (g : GImage) (e : Nat) (c : List Nat) (inY : Nat → Bool) (f : EngFill) : EngFill ⊕ Diag :=
  c.foldl (fun acc b =>
    let a1 := ((g.regionsOf b).filter (fun r => r.1.kind != 7)).foldl (fun a r => fillThen a (fun f => f.region e r.2 r.1 (inY r.2))) acc
    fillThen a1 (fun f => f.lines e (g.linesOf b))) (.inl f)

/-- Fetch mode of a block. -/
def GImage.modeOf (g : GImage) (b : Nat) : Bool := ((g.blocks[b]?).map (fun x => (g.block x).unified)).getD false

/-- The engines so far and the rejections found. -/
abbrev EngFills := List EngFill × List Diag

/-- A cluster goes to the lowest permitted engine on which it fits: budget, fetch mode, memories, descriptors (R63, R223, R380). -/
def GImage.placeCluster (g : GImage) (v : PlaceEnv) (acc : EngFills) (c : List Nat) : EngFills :=
  let size := g.declared c
  let mode := g.modeOf (c.headD 0)
  let pins := (c.filterMap (fun b => (g.blocks[b]?).bind (fun x => v.pinEng b x))).eraseDups
  let allowed := if v.closed then [] else match pins with
    | [] => List.range 8
    | [p] => [p]
    | _ => []
  let at_ := fun e => acc.1.getD e EngFill.empty
  let same := c.all (fun b => g.modeOf b == mode)
  let ready := allowed.filter (fun e => same && decide ((at_ e).len + size ≤ v.env.budget) && ((at_ e).mode.getD mode) == mode)
  let tries := ready.map (fun e => (e, g.fillCluster e c (fun _ => false) (at_ e)))
  match tries.findSome? (fun t => t.2.getLeft?.map (fun f => (t.1, f))) with
  | some (e, f) => (acc.1.set e { f with len := f.len + size, mode := some mode, blocks := f.blocks ++ c }, acc.2)
  | none =>
    let mem := tries.filterMap (fun t => t.2.getRight?)
    match mem.foldl (fun (o : Option Diag) d => match o with
      | none => some d
      | some p => if p.have_ < d.have_ then some d else some p) none with
    | some d => (acc.1, acc.2 ++ [d])
    | none =>
      let room := fun e => if same && (at_ e).mode.getD mode == mode then v.env.budget - (at_ e).len else 0
      let best := allowed.foldl (fun (p : Nat × Nat) e => if p.2 < room e then (e, room e) else p) (allowed.headD 0, 0)
      (acc.1, acc.2 ++ [{ code := 0x0C, table := 1, entry := c.headD 0, detail := 0, need := size, have_ := best.2, eng := best.1 }])

/-- Every cluster placed. -/
def GImage.placeEngines (g : GImage) (v : PlaceEnv) : EngFills :=
  (g.clusters v).foldl (g.placeCluster v) (List.replicate 8 EngFill.empty, [])

/-- The blocks of each group that one device must hold and that neither a pin nor a SAP binds to one, longest group first (R380). -/
def GImage.unbound (g : GImage) (v : PlaceEnv) : List (List Nat) :=
  let lab := g.labels (g.devicePairs v)
  let groups := ((List.range g.blocks.length).map (fun b => lab.getD b 0)).eraseDups.map (fun k =>
    (List.range g.blocks.length).filter (fun b => lab.getD b 0 = k))
  sortBy (fun a b => decide (g.declared b ≤ g.declared a)) (groups.filter (fun bs => bs.all (fun b =>
    ((g.blocks[b]?).bind (v.pinDev b)).isNone && (g.sapDev v.env b).isNone)))

/-- The device assignment of the Origin in Fabric member mode (R380, R387): each unbound group goes to the first device, the own one before
the others by address, on whose engines it fits; it stays on the own device where it fits on none. The spec says no more of the assignment
(log entry 133). -/
def GImage.assign (g : GImage) (v : PlaceEnv) : PlaceEnv :=
  if g.fabric = false || v.env.mode != 5 || v.fab.isNone then v
  else
    let devs := v.env.own :: sortBy (fun a b => decide (a ≤ b)) (v.env.devices.filter (fun d => d != v.env.own))
    (g.unbound v).foldl (fun v bs =>
      let on := fun (d : Nat) => ({ v with away := bs.map (fun b => (b, d)) ++ v.away } : PlaceEnv)
      match devs.find? (fun d =>
        let fills := (g.placeEngines { on d with here := d, closed := v.closed && d = v.env.own }).1
        bs.all (fun b => fills.any (fun f => f.blocks.contains b))) with
      | some d => on d
      | none => v) v

/-! ### Lines, private regions, exchange area, staging (R259, R274, R279, R283, R285) -/

/-- First byte of the I/O area in Orbit memory (R281). -/
def ioOffset : Nat := 0x5F00000

/-- Bytes of Orbit memory that a line takes: a table line, which carries the page code (R286), has its pages to itself. -/
def GLine.room (x : GLine) : Nat := if x.state = 1 then roundUp x.bytes 4096 else x.bytes
def GLine.alignment (x : GLine) : Nat := if x.state = 1 then 4096 else 64

/-- Of the 16 values of WP mod 16, the lowest of those that fewest far delays have (R279). -/
def leastUsed (l : List Nat) : Nat :=
  (List.range 16).foldl (fun m k => if (l.filter (fun x => x % 16 = k)).length < (l.filter (fun x => x % 16 = m)).length then k else m) 0

/-- The memories shared by the engines as they fill: used bytes of Orbit memory and of LPDDR5X, with the journal ring; WP mod 16 of the far
delays placed, as it was when the graph was loaded. -/
structure OrbFill where
  orb : List (Nat × Nat)
  lp : List (Nat × Nat)
  wps : List Nat
  lines : List PlacedLine
  regions : List PlacedRegion
  priv : List (Nat × Nat × Nat)
  faults : List Diag
  deriving DecidableEq, Repr

/-- The part of LPDDR5X that the journal ring takes. -/
def PlaceEnv.ringUsed (v : PlaceEnv) : List (Nat × Nat) := if v.ring.2 = 0 then [] else [(v.ring.1, v.ring.1 + v.ring.2)]

/-- A far delay (R274, R279): its place in LPDDR5X and its initial write position, of the least used of the 16 values. -/
def OrbFill.far (f : OrbFill) (v : PlaceEnv) (k e q : Nat) (x : GLine) : OrbFill :=
  let no := x.spanLo = 0 || x.maxLen % 16 != 0 || x.len % 16 != 0
  match (if no then none else fitIn f.lp x.bytes 64 v.lpddr) with
  | none =>
    { f with faults := f.faults ++ [{ code := 0x11, table := 3, entry := k, detail := 0, need := x.bytes
                                      have_ := if no then 0 else roomIn f.lp 64 v.lpddr, eng := e }] }
  | some b =>
    { f with lp := (b, b + x.bytes) :: f.lp, wps := f.wps ++ [leastUsed f.wps]
             lines := f.lines ++ [{ line := k, eng := e, desc := q, base := 0x1000000000 + b, far := true, stage := 0, wp := leastUsed f.wps }] }

/-- A line with storage of its own. -/
def OrbFill.line (f : OrbFill) (v : PlaceEnv) (k e q : Nat) (x : GLine) : OrbFill :=
  if x.place = 2 then f.far v k e q x
  else match fitIn f.orb x.room x.alignment ioOffset with
    | some b =>
      { f with orb := (b, b + x.room) :: f.orb
               lines := f.lines ++ [{ line := k, eng := e, desc := q, base := 0x100000000 + b, far := false, stage := 0, wp := 0 }] }
    | none =>
      if x.place = 1 then
        { f with faults := f.faults ++ [{ code := 0x0E, table := 3, entry := k, detail := 0, need := x.room, have_ := roomIn f.orb x.alignment ioOffset, eng := e }] }
      else f.far v k e q x

/-- Engine and descriptor number of every line of the own device: descriptors count in line-table order on each engine. -/
def GImage.descriptors (g : GImage) (fs : List EngFill) : List (Nat × Nat × Nat) :=
  (fs.zipIdx).flatMap (fun f =>
    let mine := ((g.lines.zipIdx).filter (fun x => f.1.blocks.contains x.1.block)).map (·.2)
    (mine.zipIdx).map (fun k => (k.1, f.2, k.2)))

/-- Lines in the order in which they take storage: those with a PLACE, then the others by TAPCOUNT / MAXLEN (R380). -/
def GImage.lineOrder (g : GImage) (ds : List (Nat × Nat × Nat)) : List (Nat × Nat × Nat × GLine) :=
  let own := (ds.filterMap (fun d => (g.lines[d.1]?).map (fun x => (d.1, d.2.1, d.2.2, x)))).filter (fun d => d.2.2.2.aliasOf = none32)
  let byIndex := sortBy (fun (a b : Nat × Nat × Nat × GLine) => decide (a.1 ≤ b.1)) own
  byIndex.filter (fun d => d.2.2.2.place != 0) ++
  sortBy (fun (a b : Nat × Nat × Nat × GLine) => decide (b.2.2.2.tapCount * a.2.2.2.maxLen ≤ a.2.2.2.tapCount * b.2.2.2.maxLen))
    (byIndex.filter (fun d => d.2.2.2.place = 0))

/-- Alias lines take the storage of the line they view (R265). One of a far delay is a far delay, which its own fields must allow (R260,
R366): code 0x11. -/
def OrbFill.aliases (f : OrbFill) (g : GImage) (ds : List (Nat × Nat × Nat)) : OrbFill :=
  ds.foldl (fun f d =>
    match g.lines[d.1]? with
    | none => f
    | some x =>
      if x.aliasOf = none32 then f
      else match f.lines.find? (fun y => y.line = x.aliasOf) with
        | none => f
        | some y =>
          let g := { f with lines := f.lines ++ [{ y with line := d.1, eng := d.2.1, desc := d.2.2 }] }
          if y.far && (decide (x.spanLo < 64) || x.maxLen % 16 != 0 || x.len % 16 != 0) then
            { g with faults := g.faults ++ [{ code := 0x11, table := 3, entry := d.1, detail := 0, need := x.bytes, have_ := 0, eng := d.2.1 }] }
          else g) f

/-- The private region of an engine (R285): the private regions of its blocks, one after the other. -/
def OrbFill.private_ (f : OrbFill) (g : GImage) (e : Nat) (blocks : List Nat) : OrbFill :=
  let rs := blocks.flatMap (fun b => (g.regionsOf b).filter (fun r => r.1.kind = 7))
  let laid := rs.foldl (fun (acc : Nat × List PlacedRegion) r =>
    let o := roundUp acc.1 (2 ^ r.1.align)
    (o + r.1.bytes, acc.2 ++ [{ region := r.2, eng := e, kind := 7, base := o, bytes := r.1.bytes }])) (0, [])
  if laid.1 = 0 then f
  else match fitIn f.orb laid.1 64 ioOffset with
    | some b => { f with orb := (b, b + laid.1) :: f.orb, regions := f.regions ++ laid.2, priv := f.priv ++ [(e, b, laid.1)] }
    | none =>
      let room := roomIn f.orb 64 ioOffset
      let r := ((laid.2.find? (fun r => decide (room < r.base + r.bytes))).map (·.region)).getD 0
      { f with faults := f.faults ++ [{ code := 0x0E, table := 2, entry := r, detail := 0, need := laid.1, have_ := room, eng := e }] }

/-- Staging regions of the far delays (R274). -/
def OrbFill.staging (f : OrbFill) (g : GImage) : OrbFill :=
  (f.lines.filter (fun x => x.far)).foldl (fun f x =>
    let n := 64 * (((g.lines[x.line]?).map (·.spanGroups)).getD 0 + 8)
    match fitIn f.orb n 64 ioOffset with
    | some b => { f with orb := (b, b + n) :: f.orb, lines := f.lines.map (fun y => if y.line = x.line then { y with stage := b / 64 } else y) }
    | none => { f with faults := f.faults ++ [{ code := 0x0E, table := 3, entry := x.line, detail := 0, need := n, have_ := roomIn f.orb 64 ioOffset, eng := x.eng }] }) f

/-- The far-delay reservation: twice the largest number of far delays with one value of WP mod 16 (R279). -/
def farReservation (l : List Nat) : Nat := 2 * ((List.range 16).map (fun k => (l.filter (fun x => x % 16 = k)).length)).foldl max 0

/-! ### Edges (R283, R381 to R384) -/

/-- Byte offset in the exchange area of every carrier-1 edge between blocks of this device, and the bytes of all. -/
def GImage.exchange (g : GImage) (mine : Nat → Bool) : List (Nat × Nat × Nat) × Nat :=
  (g.edges.zipIdx).foldl (fun (acc : List (Nat × Nat × Nat) × Nat) e =>
    if e.1.carrier = 1 ∧ mine e.1.producer = true then (acc.1 ++ [(e.2, acc.2, roundUp (4 * e.1.channels) 64)], acc.2 + roundUp (4 * e.1.channels) 64)
    else acc) ([], 0)

/-- First channel group of every carrier-2 edge: its SAP's groups, else free numbers from 64 up in edge-table order (R383). -/
def GImage.groups (g : GImage) : List (Nat × Nat) × List Diag :=
  let r := (g.edges.zipIdx).foldl (fun (acc : List (Nat × Nat) × List Diag × Nat) e =>
    if e.1.carrier != 2 then acc
    else
      match e.1.src, e.1.dst with
      | .sap _ p first, _ => (acc.1 ++ [(e.2, 16 * p + first)], acc.2)
      | _, .sap _ p first => (acc.1 ++ [(e.2, 16 * p + first)], acc.2)
      | _, _ =>
        if acc.2.2 + e.1.groups ≤ 4096 then (acc.1 ++ [(e.2, acc.2.2)], acc.2.1, acc.2.2 + e.1.groups)
        else
          let d : Diag := { code := 0x12, table := 4, entry := e.2, detail := 0xFF, need := acc.2.2 + e.1.groups - 64, have_ := 4032, eng := 0 }
          (acc.1, acc.2.1 ++ [d], acc.2.2)) ([], [], 64)
  (r.1, r.2.1)

/-- Latency in ticks of an edge between two devices (R76, R78): `h` hops against the hop budget of the rate. -/
def hopLatency (rate h : Nat) : Nat := if h ≤ 2304000 / rate then 2 else 1 + (h + 2304000 / rate - 1) / (2304000 / rate)

/-- Latency of an edge (R381). The table has no row for a carrier-2 edge whose SAP endpoint is on another device than its block: it counts 0
ticks as every edge of a SAP (log entry 76). -/
def GEdge.latency (e : GEdge) (v : PlaceEnv) (devs : List Nat) : Nat :=
  if e.carrier = 0 then (if e.delay1 then 1 else 0)
  else if e.carrier = 1 then 1
  else match e.src.block?, e.dst.block? with
    | some a, some b =>
      if devs.getD a 0 = devs.getD b 0 then 2 else hopLatency v.env.rate (v.between (devs.getD a 0) (devs.getD b 0))
    | _, _ => 0

/-- The edges between two devices, with their indices and the devices of their ends. -/
def GImage.linked (g : GImage) (devs : List Nat) : List (GEdge × Nat × Nat × Nat) :=
  (g.edges.zipIdx).filterMap (fun e => match e.1.src.block?, e.1.dst.block? with
    | some a, some b => if devs.getD a 0 = devs.getD b 0 then none else some (e.1, e.2, devs.getD a 0, devs.getD b 0)
    | _, _ => none)

/-- Slots of this device's ports, per port and direction: every edge of a list that enters or leaves this device must find its slots (R319,
R600). -/
def slotFaults (v : PlaceEnv) (l : List (GEdge × Nat × Nat × Nat)) : List Diag :=
  let area := 458752 * 48000 / v.env.rate
  (l.foldl (fun (acc : List Diag × List ((Nat × Bool) × Nat)) e =>
    let da := e.2.2.1
    let db := e.2.2.2
    if da ≠ v.env.own ∧ db ≠ v.env.own then acc
    else
      let out := decide (da = v.env.own)
      let port := aGet 0xFF v.route (if out then db else da) % 16
      let bits := fabricGroupBits e.1.fmt
      let used := ((acc.2.find? (fun p => p.1 = (port, out))).map (·.2)).getD 0 + e.1.groups * bits
      let d : Diag := { code := 0x12, table := 4, entry := e.2.1, detail := port, need := used / bits, have_ := area / bits, eng := 0 }
      if port < 4 ∧ used ≤ area then (acc.1, ((port, out), used) :: acc.2.filter (fun p => p.1 != (port, out))) else (acc.1 ++ [d], acc.2)) ([], [])).1

/-- What a graph sends over the fabric (R600): every carrier-2 edge between devices, its groups from `firsts`. While blocks `bs` stand on device
`dev` too, their input edges go there as well, and their output edges have the `second` groups from there (R404). -/
def GImage.runSpecs (g : GImage) (firsts : List (Nat × Nat)) (devs bs : List Nat) (dev : Nat) (second : List (Nat × Nat)) : List RunSpec :=
  (g.edges.zipIdx).flatMap (fun e =>
    match e.1.carrier, e.1.src.block?, e.1.dst.block? with
    | 2, some a, some b =>
      let to_ := fun (src : Nat) => (([devs.getD b 0] ++ (if bs.contains b then [dev] else [])).filter (fun d => d != src)).eraseDups
      let run := fun (src : Nat) (l : List (Nat × Nat)) => match l.find? (fun x => x.1 = e.2) with
        | some x => if to_ src = [] then [] else [({ src := src, dsts := to_ src, first := x.2, groups := e.1.groups, fmt := e.1.fmt, edge := e.2 } : RunSpec)]
        | none => []
      run (devs.getD a 0) firsts ++ (if bs.contains a then run dev second else [])
    | _, _, _ => [])

/-- Edges that the Origin cannot place in the slots of the fabric (R600). -/
def reserveFaults (v : PlaceEnv) (l : List RunSpec) : List Diag :=
  match v.fab with
  | some m => (m.reserve l).faults.map (fun f => { code := 0x12, table := 4, entry := f.edge, detail := f.port, need := f.need, have_ := f.have_, eng := 0 })
  | none => []

/-- Latency of a path (R80): 2 plus the sum of its edges. -/
def pathLatency (lats : List Nat) (p : GPath) : Nat := 2 + sumNat (p.edges.map (fun i => lats.getD i 0))

/-- Edges and paths that exceed their limit (R384). -/
def GImage.latencyFaults (g : GImage) (lats : List Nat) : List Diag :=
  (g.edges.zipIdx).filterMap (fun e => if e.1.latMax != 0xFF && decide (e.1.latMax < lats.getD e.2 0) then
    some { code := 0x13, table := 4, entry := e.2, detail := lats.getD e.2 0, need := lats.getD e.2 0, have_ := e.1.latMax, eng := 0 } else none) ++
  (g.paths.zipIdx).filterMap (fun p => if p.1.latMax != none32 && decide (p.1.latMax < pathLatency lats p.1) then
    some { code := 0x13, table := 6, entry := p.2, detail := pathLatency lats p.1, need := pathLatency lats p.1, have_ := p.1.latMax, eng := 0 } else none)

/-! ### Shares and reservations (R243 to R253) -/

/-- The charge rank of a block: its most costly line. -/
def GImage.rank (g : GImage) (lines : List PlacedLine) (b : Nat) : Nat :=
  (g.linesOf b).foldl (fun m k => max m (chargeRank (((g.lines[k]?).map (·.fmt)).getD 0) (lines.any (fun x => x.line = k && x.far)))) 0

/-- The blocks of an engine laid out one after the other in program memory (R388). -/
def GImage.layout (g : GImage) (own e : Nat) (l : List Nat) : List PlacedBlock :=
  (l.foldl (fun (acc : List PlacedBlock × Nat) b =>
    match g.blocks[b]? with
    | none => acc
    | some x =>
      let i := g.block x
      let n := (i.placed i.code).length
      (acc.1 ++ [{ block := b, dev := own, eng := e, start := acc.2, size := n, code := i.code.length }], acc.2 + n)) ([], 0)).1

/-- Blocks in the order of their program positions. -/
def inProgram (l : List PlacedBlock) : List PlacedBlock := sortBy (fun a b => decide (a.start ≤ b.start)) l

/-- The charges of an engine's program at its issue positions (R243, R247): a block issues its declared length, and a position of no block
one bundle (R391, R392). -/
def GImage.engineCharges (g : GImage) (lines : List PlacedLine) (l : List PlacedBlock) : List Charge :=
  ((inProgram l).foldl (fun (acc : List Charge × Nat × Nat) p =>
    match g.blocks[p.block]? with
    | none => acc
    | some x =>
      let start := acc.2.1 + (p.start - acc.2.2)
      (acc.1 ++ (g.block x).charges start (g.rank lines p.block), start + (g.block x).decl, p.start + p.size)) ([], 0, 0)).1

/-- The share that would meet every deadline if there were more than 64 to have: what DiagNeed reports (R379). -/
def shareNeeded (p : Nat) (l : List Charge) : Nat :=
  ((List.range (66 + sumNat (l.map (·.charge)))).find? (fun g => meetsAll g p l)).getD 65

/-- The shares of the engines, each the smallest that meets its deadlines within what is left of 64 (R380), for the charges and the first
block of each. -/
def shares (p : Nat) (l : List (List Charge × Nat)) : List Nat × List Diag :=
  let own := p - (p + 7) / 8
  (l.zipIdx).foldl (fun (acc : List Nat × List Diag) c =>
    let left := 64 - sumNat acc.1
    match (leastShare p c.1.1).filter (fun g => decide (g ≤ left)) with
    | some g => (acc.1 ++ [g], acc.2)
    | none => (acc.1 ++ [0], acc.2 ++ [{ code := 0x0F, table := 1, entry := c.1.2, detail := c.2, need := shareNeeded p c.1.1 * own, have_ := left * own, eng := c.2 }])) ([], [])

/-- The port-buffer reservation of edges, each with its first group: a group of each direction once, a loopback group three times (R252,
R382). -/
def portCount (own : Nat) (dev : Endpoint → Nat) (l : List (GEdge × Nat)) : Nat :=
  let of := fun (f : GEdge → Bool) => (l.filter (fun e => f e.1)).flatMap (fun e => (List.range e.1.groups).map (fun i => e.2 + i))
  let ins := of (fun e => dev e.dst = own && (e.src.isSap || dev e.src != own))
  let outs := of (fun e => dev e.src = own && (e.dst.isSap || dev e.dst != own))
  let loops := of (fun e => !e.src.isSap && !e.dst.isSap && dev e.src = own && dev e.dst = own)
  ins.eraseDups.length + outs.eraseDups.length + 3 * loops.length

/-- The device of an endpoint, for the devices of the blocks. -/
def PlaceEnv.devOf (v : PlaceEnv) (devs : List Nat) (p : Endpoint) : Nat :=
  match p with
  | .block b => devs.getD b 0
  | .sap d _ _ => v.env.dev d
  | .bad => v.env.own

/-- The carrier-2 edges that have a first group in a list of (edge, group). -/
def GImage.grouped (g : GImage) (groups : List (Nat × Nat)) : List (GEdge × Nat) :=
  (g.edges.zipIdx).filterMap (fun e => if e.1.carrier = 2 then (groups.find? (fun p => p.1 = e.2)).map (fun p => (e.1, p.2)) else none)

/-! ### The whole placement -/

/-- A placement: device of every block, engines with their blocks and regions, lines, private regions, exchange area, groups,
latencies, shares, reservations; and what failed. -/
structure Plan where
  devs : List Nat
  engs : List EngFill
  orb : OrbFill
  exOffs : List (Nat × Nat × Nat)
  exSize : Nat
  exBase : Nat
  groups : List (Nat × Nat)
  lats : List Nat
  paths : List Nat
  share : List Nat
  port : Nat
  far : Nat
  faults : List Diag
  deriving DecidableEq, Repr

/-- The idle bank-cycles of a tick that reservations may take half of (R253). -/
def idleEighth (p : Nat) : Nat := 63 * (p / 8)

/-- R253: the two reservations are at most half of the idle bank-cycles. -/
def idleFault (p n : Nat) : List Diag :=
  if idleEighth p < 2 * n then [{ code := 0x10, table := 0, entry := 0, detail := 0, need := n, have_ := idleEighth p / 2, eng := 0 }] else []

/-- The exchange area: its base, or the rejection where its two halves do not fit. -/
def exchangePlace (orb : List (Nat × Nat)) (x : List (Nat × Nat × Nat)) (size : Nat) : Nat × List Diag :=
  if size = 0 then (0, [])
  else match fitIn orb (2 * size) 64 ioOffset with
    | some b => (b, [])
    | none => (0, [{ code := 0x0E, table := 4, entry := (x.map (·.1)).headD 0, detail := 0, need := 2 * size, have_ := roomIn orb 64 ioOffset, eng := 0 }])

/-- The placement of a graph image (R380). -/
def GImage.plan (g : GImage) (v : PlaceEnv) : Plan :=
  let devs := g.devices v
  let engs := g.placeEngines v
  let ds := g.descriptors engs.1
  let start : OrbFill := { orb := [], lp := v.ringUsed, wps := [], lines := [], regions := [], priv := [], faults := [] }
  let o1 := (g.lineOrder ds).foldl (fun f d => f.line v d.1 d.2.1 d.2.2.1 d.2.2.2) start
  let o2 := (engs.1.zipIdx).foldl (fun f e => f.private_ g e.2 e.1.blocks) o1
  let ex := g.exchange (fun b => devs.getD b 0 = v.here)
  let exSize := roundUp ex.2 256
  let exP := exchangePlace o2.orb ex.1 exSize
  let o3 := { o2 with orb := if exSize = 0 then o2.orb else (exP.1, exP.1 + 2 * exSize) :: o2.orb }.staging g
  let o4 := o3.aliases g ds
  let grp := g.groups
  let lats := g.edges.map (fun e => e.latency v devs)
  let sh := shares v.orb ((engs.1.zipIdx).map (fun f => (g.engineCharges o4.lines (g.layout v.here f.2 f.1.blocks), f.1.blocks.headD 0)))
  let port := portCount v.here (v.devOf devs) (g.grouped grp.1)
  let far := farReservation o4.wps
  { devs := devs, engs := engs.1, orb := o4, exOffs := ex.1, exSize := exSize, exBase := exP.1, groups := grp.1, lats := lats
    paths := g.paths.map (pathLatency lats), share := sh.1, port := port, far := far
    faults := if engs.2 = [] then o4.faults ++ exP.2 ++ sh.2 ++ idleFault v.orb (port + far) ++ grp.2 ++ slotFaults v (g.linked devs) ++
      reserveFaults v (g.runSpecs grp.1 devs [] 0 []) ++ g.latencyFaults lats else engs.2 }

/-- The engines of the blocks of other devices, as the solver of each places them from the same inputs (R361, R387); their ENG frequency and
memories are taken to be the own ones (log entry 111). -/
def GImage.remoteEngines (g : GImage) (v : PlaceEnv) (devs : List Nat) : List (Nat × Nat) :=
  ((devs.filter (fun d => d != v.here)).eraseDups).flatMap (fun d =>
    (((g.placeEngines { v with here := d, closed := false }).1).zipIdx).flatMap (fun f => f.1.blocks.map (fun b => (b, f.2))))

/-- The rejections from code 0x0C to 0x11 of another device, for blocks with devices and engines given (R66, R413; log entry 111). -/
def GImage.faultsOn (g : GImage) (v : PlaceEnv) (d : Nat) (pins : List (Nat × Nat × Nat)) : List Diag :=
  ((g.plan { v with here := d, closed := false, fab := none, pins := pins }).faults.filter (fun f => decide (0x0C ≤ f.code) && decide (f.code ≤ 0x11))).map
    (fun f => { f with dev := some d })

/-- The rejection of the lowest code. -/
def leastFault (l : List Diag) : Option Diag :=
  l.foldl (fun (o : Option Diag) d => match o with
    | none => some d
    | some p => if d.code < p.code then some d else some p) none

end Sys2Proof.Machine
end

