-- ==== Sys2Proof/Machine/Loader.lean ====
section
/-! DEFINITION. The Tiler loader: a placement written into the engines, the delay units, Orbit memory and the objects (R229, R373, R380). -/
namespace Sys2Proof.Machine
open Sys2Proof

/-! ### What a check and a placement see of the device (R361) -/

/-- The own address, 0xFFF while not joined. -/
def State.selfDev (s : State) : Nat := if s.joined then s.ownAddr else 0xFFF

/-- Addresses of the fabric that this device knows: those of its route table and of its topology. -/
def State.knownDevs (s : State) : List Nat :=
  if s.joined then (s.net.routes.filter (fun p => p.2 != 0xFF)).map (·.1) ++ s.net.assigned.map (·.2) else []

/-- Hops between the devices of the fabric, by address, as the Origin's topology gives them (R76). -/
def State.hopsTo (s : State) : List (Nat × List (Nat × Nat)) :=
  let devs := (s.obj O.uid, s.selfDev) :: s.net.assigned.filter (fun p => p.1 != s.obj O.uid)
  devs.map (fun d =>
    let t := hopTable (s.ownTopo :: s.net.topo) d.1 (s.net.topo.length + 1)
    (d.2, devs.filterMap (fun p => (t.find? (fun q => q.1 = p.1)).map (fun q => (p.2, q.2)))))

def State.graphEnv (s : State) (mode : Nat) : GEnv :=
  { own := s.selfDev, devices := s.knownDevs, mode := mode, rate := s.obj O.tickRate, budget := s.obj O.bundleBudget }

def State.placeEnv (s : State) (mode : Nat) : PlaceEnv :=
  { env := s.graphEnv mode, here := s.selfDev, cycles := s.obj O.cyclesPerTick, lpddr := s.lpddrBytes
    ring := (s.obj O.lpddrRingBase - 0x1000000000, if s.obj O.locusDrainEnable = 0 then 0 else 32 * 2 ^ s.obj O.lpddrRingLog2)
    hops := s.hopsTo, torus := (if s.joined then s.obj O.torusX else 0, s.obj O.torusY), route := s.net.routes, fab := if s.joined && s.isOrigin then some (s.fabMap (s.obj O.tickRate)) else none, closed := s.til.closed, pins := s.til.pins, away := [] }

/-- What the placement of a new image sees, with the device assignment of the Origin: the pins that requests gave blocks of the graph in force
are none of its inputs (R361, R380). -/
def State.imageEnv (s : State) (mode : Nat) (g : GImage) : PlaceEnv := g.assign { s.placeEnv mode with pins := [] }

/-! ### Diagnostics (R379, R412, R415) -/

def State.setDiag (s : State) (d : Diag) : State :=
  s.setObjs [(O.diagCode, d.code), (O.diagTable, d.table), (O.diagEntry, d.entry), (O.diagDetail, d.detail), (O.diagNeed, d.need),
    (O.diagHave, d.have_), (O.diagDevice, if s.joined then d.dev.getD s.ownAddr else 0xFFFF), (O.diagEngine, d.eng)]

def State.clearDiag (s : State) : State :=
  s.setObjs [(O.diagCode, 0), (O.diagTable, 0), (O.diagEntry, 0), (O.diagDetail, 0), (O.diagNeed, 0), (O.diagHave, 0), (O.diagDevice, 0), (O.diagEngine, 0)]

/-! ### Relocation and code -/

/-- The parsed image of a graph. -/
def Graph.img (g : Graph) : GImage := gImage g.image

/-- The placed base a relocation counts from (R225); 0 for an object that is not placed here. -/
def Graph.relocBase (g : Graph) (r : Reloc) : Nat :=
  if r.kind = 4 then ((g.lines.find? (fun x => x.line = r.symbol)).map (·.desc)).getD 0
  else if r.kind = 5 then 16 * ((g.edges.find? (fun x => x.edge = r.symbol)).map (·.first)).getD 0
  else if r.kind = 6 then ((g.exOffs.find? (fun x => x.1 = r.symbol)).map (fun x => x.2.1)).getD 0
  else ((g.regions.find? (fun x => x.region = r.symbol)).map (·.base)).getD 0

/-- The bundles of block `b` as loaded: relocated, ENTRY in bundle 0, padded (R229). -/
def Graph.bundles (g : Graph) (b : Nat) : List Nat :=
  match g.img.blocks[b]? with
  | none => []
  | some x =>
    let i := g.img.block x
    i.placed (i.relocs.foldl (fun c r => patchCode c r (r.value (g.relocBase r))) i.code)

/-- A list of bundles stored from a program position on. -/
def State.storeCode (s : State) (e : Fin 8) (pos : Nat) (l : List Nat) : State :=
  (l.zipIdx).foldl (fun s w => s.store (progBase e + 16 * ((pos + w.2) % 32768)) 16 w.1) s

/-! ### Regions and lines -/

/-- Bus address of byte 0 of a placed region outside the coefficient banks. -/
def State.regionAddr (s : State) (r : PlacedRegion) : Nat :=
  if r.kind = 1 then yBase r.eng + r.base
  else if r.kind = 7 then orbitBase + lane s.io.privBase (eng8 r.eng) + r.base
  else xBase r.eng + r.base

/-- Bus addresses of a region: both banks for a coefficient region (R373). -/
def State.regionAddrs (s : State) (r : PlacedRegion) : List Nat :=
  if r.kind = 3 then [bankBase r.eng false + r.base, bankBase r.eng true + r.base] else [s.regionAddr r]

/-- The pages a range of bytes meets. -/
def pagesOf (a n : Nat) : List Nat := if n = 0 then [] else (List.range ((a + n - 1) / 4096 - a / 4096 + 1)).map (fun i => (a / 4096 + i) * 4096)

/-- The pages of a coefficient region written by the loader: the shadow page is stale, the active page coded. -/
def State.codeBank (s : State) (page : Nat) : State :=
  match bankOf page with
  | some (e, b) => if (s.engine e).bankB = b then s.codePage page else s.staleBank e ((page - bankBase e b) / 4096)
  | none => s

/-- A range that becomes static: its pages carry the page code and are stale until it is computed (R99, R286). -/
def State.makeStatic (s : State) (a n : Nat) : State :=
  (pagesOf a n).foldl (fun s p => ({ s with integ := { s.integ with staticPages := setAdd s.integ.staticPages p } } : State).markStale p) s

/-- The pages of the retained graph image, static where it stands in LPDDR5X (R695, R697); where they lie is open (log entry 116). -/
def State.imagePages (s : State) (g : Graph) : List Nat :=
  if s.lpddrBytes = 0 then []
  else (List.range ((g.image.length + 4095) / 4096)).map (fun i => 0x1000000000 + (Config.imagePage i).toNat % s.lpddrBytes / 4096 * 4096)

/-- Whether `n` bytes of the retained image from byte `o` on meet a marked page of it (R708). -/
def State.imageMarked (s : State) (g : Graph) (o n : Nat) : Bool :=
  (s.imagePages g).zipIdx.any (fun p => overlap o n (4096 * p.2) 4096 && s.integ.poison.contains p.1)

/-- The loader writes a range: initial content, then zero (R229, R365). -/
def State.fillRange (s : State) (a n : Nat) (init : List Byte) : State := (s.zeroRange a n).storeBytes a init

/-- A placed region takes its initial content (R373). A table in X or Y memory carries the page code (R99); a private region is streaming
whatever its STATE (R286). -/
def State.loadRegion (s : State) (g : GImage) (r : PlacedRegion) : State :=
  match g.regions[r.region]? with
  | none => s
  | some x =>
    let init := if x.initOff = none32 then [] else (g.data.drop x.initOff).take x.initBytes
    let s1 := (s.regionAddrs r).foldl (fun s a => s.fillRange a r.bytes init) s
    if r.kind = 3 then ((s.regionAddrs r).flatMap (fun a => pagesOf a r.bytes)).foldl State.codeBank s1
    else if x.state = 1 ∧ r.kind ≠ 7 then s1.makeStatic (s.regionAddr r) r.bytes else s1

/-- The samples a line starts with: INIT_OFF at its first LEN positions, then zero (R366). -/
def GImage.lineSamples (g : GImage) (x : GLine) : List Word :=
  if x.initOff = none32 then [] else (List.range x.len).map (fun p => BitVec.ofNat 32 (numAt g.data (x.initOff + 4 * p) 4))

/-- A line's storage takes samples, encoded in groups of 16 for a Facet line (R305). -/
def State.fillLine (s : State) (x : GLine) (base : Nat) (xs : List Word) : State :=
  let n := groupBytes x.fmt
  let s1 := s.zeroRange base x.bytes
  if x.fmt = 0 then (xs.zipIdx).foldl (fun s w => s.store (base + 4 * w.2) 4 w.1.toNat) s1
  else (List.range (x.maxLen / 16)).foldl (fun s q =>
    s.store (base + n * q) n (encodeGroup x.fmt ((List.range 16).map (fun i => xs.getD (16 * q + i) 0)))) s1

/-- A line's storage takes its initial samples (R366). A table line in Orbit memory carries the page code, on the pages it has to itself
(R286). -/
def State.loadLine (s : State) (g : GImage) (p : PlacedLine) : State :=
  match g.lines[p.line]? with
  | none => s
  | some x =>
    if x.aliasOf != none32 then s
    else
      let s2 := s.fillLine x p.base (g.lineSamples x)
      if x.state = 1 ∧ p.far = false then s2.makeStatic p.base x.room else s2

/-- The descriptor of a placed line (R259); its LEN is that of R373. -/
def GImage.lineDesc (g : GImage) (all : List PlacedLine) (p : PlacedLine) (x : GLine) : Desc :=
  let len := g.lineLen p.line
  { Desc.zero with
    loc := if p.far then 1 else 0, fmt := BitVec.ofNat 3 x.fmt, valid := true, aliased := x.aliasOf != none32
    writer := if x.aliasOf = none32 then 0 else ((all.find? (fun y => y.line = x.aliasOf)).map (·.desc)).getD 0
    base := p.base, tapCount := x.tapCount, maxLen := x.maxLen, len := len, hwm := len, wp := p.wp
    stageLine := p.stage, spanGroups := if p.far then x.spanGroups else 0, spanLo := if p.far then x.spanLo else 0 }

/-- The groups of a far delay's span, and those that enter it within two ticks, stand in staging when the loader is done with it (R274,
R277). -/
def State.stageSpan (s : State) (e : Fin 8) (q : Nat) : State :=
  let d := s.desc e q
  if d.loc != 1 || d.aliased then s
  else
    let near := [1, 2].flatMap (fun k => spanGroupList (d.wp + k) d.len d.spanLo 0)
    (near.foldl setAdd d.span).foldl (fun s g => s.stageGroup e q g) s

/-- A line's storage and descriptor loaded. -/
def State.placeLine (s : State) (g : GImage) (all : List PlacedLine) (p : PlacedLine) : State :=
  match g.lines[p.line]? with
  | none => s
  | some x => ((s.loadLine g p).setDesc (eng8 p.eng) p.desc (g.lineDesc all p x)).stageSpan (eng8 p.eng) p.desc

/-! ### Parameters (R370 to R373) -/

/-- Where a parameter's first word stands: bank word, bus address, or descriptor. -/
def State.paramBase (s : State) (regions : List PlacedRegion) (lines : List PlacedLine) (p : GParam) : Option (Nat × Nat) :=
  if p.bind = 2 then (lines.find? (fun x => x.line = p.target)).map (fun x => (x.eng, x.desc))
  else (regions.find? (fun r => r.region = p.target)).map (fun r =>
    (r.eng, if p.bind = 0 then (r.base + p.offset) / 4 else s.regionAddr r + p.offset))

/-- The block that owns what a parameter names. -/
def GImage.paramBlock (g : GImage) (p : GParam) : Nat :=
  if p.bind = 2 then ((g.lines[p.target]?).map (·.block)).getD 0 else ((g.regions[p.target]?).map (·.block)).getD 0

/-- Object address of parameter `k` (R372). -/
def paramAddr (k : Nat) : Nat := (0x8000 + k / 8) * 256 + (k % 8 + 1)

/-- Parameter `k` as an object, if its words are on this device. -/
def State.mkParam (s : State) (g : Graph) (k : Nat) (p : GParam) : Option Param :=
  (s.paramBase g.regions g.lines p).map (fun b =>
    { addr := paramAddr k, ty := p.ty, bind := p.bind, glide := p.flags.testBit 0, strict := p.flags.testBit 2, replicate := p.flags.testBit 1
      rights := p.rights, engine := b.1, base := b.2, words := p.words, lo := p.lo, hi := p.hi, dflt := p.dflt, block := g.img.paramBlock p
      lenVal := p.dflt, mirror := none })

/-- The words a parameter starts with: DEFAULT in all its words, or its DOMAIN default content (R371, R373). -/
def GImage.paramWords (g : GImage) (p : GParam) : List Nat :=
  if p.domain then (if p.dfltOff = none32 then [] else (List.range p.words).map (fun i => numAt g.data (p.dfltOff + 4 * i) 4))
  else List.replicate p.words p.dflt

/-- The default of a parameter written into its words; in both banks where they are coefficients (R373). -/
def State.loadParam (s : State) (g : GImage) (regions : List PlacedRegion) (lines : List PlacedLine) (p : GParam) : State :=
  if p.bind = 2 then s
  else match s.paramBase regions lines p with
    | none => s
    | some (e, b) =>
      let put_ := fun (a : Nat) (s : State) => ((g.paramWords p).zipIdx).foldl (fun s w => s.store (a + 4 * w.2) 4 w.1) s
      if p.bind = 0 then put_ (bankBase e false + 4 * b) (put_ (bankBase e true + 4 * b) s) else put_ b s

/-- The parameters of a graph as objects, and their defaults in place. -/
def State.loadParams (s : State) (g : Graph) : State :=
  let i := g.img
  let s1 := i.params.foldl (fun s p => s.loadParam i g.regions g.lines p) s
  { s1 with params := (i.params.zipIdx).filterMap (fun p => s.mkParam g p.2 p.1) }

/-! ### The objects of a placement (R81, R252, R254, R383, R412) -/

/-- The cycles in which port 2 of X and Y memory of an engine is free in a tick, less those the state mover uses (R101, R103); 0 without a
program (R104). -/
def portCycles (cycles len free mover : Nat) (unified : Bool) : Nat :=
  if len = 0 then 0 else if unified then 88 + (128 - mover) + (cycles - 256 - len) + free else cycles - 40 - mover

/-- First program position after a list of blocks. -/
def programEnd (l : List PlacedBlock) : Nat := l.foldl (fun m b => max m (b.start + b.size)) 0

/-- The issued bundles that count as free in a program of blocks up to a position: FREE_X of each, and every position of no block (R103,
R221). -/
def GImage.freeBundles (g : GImage) (l : List PlacedBlock) (stop : Nat) : Nat :=
  sumNat (l.map (fun b => ((g.blocks[b.block]?).map (fun x => (g.block x).freeX)).getD 0)) + (stop - sumNat (l.map (·.size)))

/-- BlockPlace of a placed block. -/
def placeWord (b : PlacedBlock) : Nat := 2 ^ 31 + b.eng * 2 ^ 12 + b.dev

/-- The blocks of a graph that stand in the program of an engine of this device. -/
def Graph.onEngine (g : Graph) (e : Nat) : List PlacedBlock := g.blocks.filter (fun b => b.eng = e && b.size != 0)

/-- BackgroundPortCycles of every engine (R104), for the program it will have at the next boundary. `more` are blocks that a migration adds
to an engine, `gone` blocks whose range is inert, `mover` the cycles of the state mover on engines that it concerns. The Tiler places no
other background transfer on an engine, and the state mover keeps to cycles 96 to 223 (R402), so what R104 asks holds. -/
def State.portObjects (s : State) (g : Graph) (more : List PlacedBlock) (gone : List Nat) (mover : List (Nat × Nat)) : State :=
  engines.foldl (fun s e =>
    let new := more.filter (fun b => b.eng = e.val)
    let l := (g.onEngine e.val).filter (fun b => !gone.contains b.block) ++ new
    s.setObj (O.backgroundPortCycles e.val) (portCycles (s.obj O.cyclesPerTick) ((s.engine e).pendLen.getD (s.engine e).progLen)
      (g.img.freeBundles l (programEnd (g.onEngine e.val ++ new))) (aGet 0 mover e.val) ((s.engine e).pendFetch.getD (s.engine e).unified))) s

/-- The value of an object once the writes that wait for the boundary are in force. -/
def State.soon (s : State) (a : Nat) : Nat := ((s.pendObjs.reverse.find? (fun p => p.1 = a)).map (·.2)).getD (s.obj a)

/-- The reservations and the DMA floor that follow from them, for the next boundary (R252, R254, R279). -/
def State.reserve (s : State) (port far : Nat) : State :=
  { s with pendObjs := s.pendObjs ++ [(O.farReservation, far), (O.portReservation, port), (O.dmaFloor, idleEighth (s.obj O.cyclesPerTick / 2) - (port + far))] }

/-- Whether an edge has an end on this device: a block placed here, or a port of this device. -/
def State.touches (s : State) (g : Graph) (e : GEdge) : Bool :=
  [e.src, e.dst].any (fun p => match p with
    | .block b => ((g.blocks.find? (fun x => x.block = b)).map (fun x => x.dev == s.selfDev)).getD false
    | .sap d _ _ => d = 0xFFF || d = s.selfDev
    | .bad => false)

/-- The groups of this device's carrier-2 edges, each with the POLICY of its edge (R383). A group below 64 that a port's input edge and
its output edge share has one GroupFaultPolicy: R383 does not say which POLICY it takes, the model lets the later edge's stand (log entry 130). -/
def State.edgePolicies (s : State) (g : Graph) : List (Nat × Nat) :=
  (g.img.edges.zipIdx).flatMap (fun e =>
    match g.edges.find? (fun x => x.edge = e.2) with
    | some x => if e.1.carrier = 2 && s.touches g e.1 then (List.range e.1.groups).map (fun i => (O.groupFaultPolicy (x.first + i), e.1.policy)) else []
    | none => [])

/-- Groups take policies; a GroupFaultPolicy written before, and not yet in force, is replaced too (R150, R383). -/
def State.putPolicies (s : State) (pol : List (Nat × Nat)) : State :=
  { s.setObjs pol with pendObjs := s.pendObjs.filter (fun p => pol.all (fun q => q.1 != p.1)) }

/-- The objects that report a placement. -/
def State.placeObjects (s : State) (g : Graph) (paths : List Nat) (port far : Nat) : State :=
  let s1 := g.edges.foldl (fun s e => s.setObjs [(O.edgeLatency e.edge, e.latency), (O.edgeFirstGroup e.edge, e.first)]) s
  let s2 := (paths.zipIdx).foldl (fun s p => s.setObj (O.pathLatency p.2) p.1) s1
  let s3 := g.blocks.foldl (fun s b => s.setObj (O.blockPlace b.block) (placeWord b)) s2
  ((s3.putPolicies (s.edgePolicies g)).portObjects g [] [] []).reserve port far

/-! ### Loading a graph -/

/-- The graph a placement makes of an image, with the engines of the blocks of other devices. -/
def GImage.graph (g : GImage) (own : Nat) (p : Plan) (remote : List (Nat × Nat)) : Graph :=
  let here := (p.engs.zipIdx).flatMap (fun f => g.layout own f.2 f.1.blocks)
  let blocks := (List.range g.blocks.length).map (fun b =>
    (here.find? (fun x => x.block = b)).getD
      { block := b, dev := p.devs.getD b 0, eng := aGet 0 remote b, start := 0, size := 0, code := 0 })
  { image := g.bytes, id := g.id, blocks := blocks, regions := p.engs.flatMap (·.regions) ++ p.orb.regions, lines := p.orb.lines
    edges := (g.edges.zipIdx).map (fun e =>
      { edge := e.2, carrier := e.1.carrier, first := ((p.groups.find? (fun x => x.1 = e.2)).map (·.2)).getD 0xFFFF, latency := p.lats.getD e.2 0
        channels := e.1.channels })
    exBase := p.exBase, exSize := p.exSize, exOffs := p.exOffs, priv := p.orb.priv }

/-- The exchange regions of a graph: the engine of the producing block, first byte offset, bytes (R135, R283). -/
def Graph.exRegions (g : Graph) : List (Nat × Nat × Nat) :=
  g.exOffs.map (fun x => ((((g.img.edges[x.1]?).bind (fun e => g.blocks.find? (fun b => b.block = e.producer))).map (·.eng)).getD 0, x.2.1, x.2.2))

/-- The areas of Orbit memory that a graph takes (R283, R285). -/
def State.loadAreas (s : State) (g : Graph) : State :=
  let at_ := fun (f : Nat × Nat → Nat) => (tab (fun (e : Fin 8) => ((g.priv.find? (fun p => p.1 = e.val)).map (fun p => f p.2)).getD 0) : Vector Nat 8)
  let io := { s.io with
    exBase0 := orbitBase + g.exBase, exBase1 := orbitBase + g.exBase + g.exSize, exSize := g.exSize, exBy := [], exFaulted := []
    exRegions := g.exRegions, privBase := at_ (·.1), privSize := at_ (·.2) }
  let s1 : State := { s with io := io }
  let s2 := g.priv.foldl (fun s p => s.zeroRange (orbitBase + p.2.1) p.2.2) s1
  s2.zeroRange (orbitBase + g.exBase) (2 * g.exSize)

/-- Bank A of an engine that a program is loaded onto becomes active, and bank B takes its content: what differs is levelled at once, with
the page parity of both in place, and claims that waited for it end (R323, R332). -/
def State.resetBank (s : State) (e : Fin 8) : State :=
  let s1 := (s.engine e).stale.foldl (fun s i => (s.codePage (bankBase e.val false + 4096 * i)).codePage (bankBase e.val true + 4096 * i)) s
  (s1.modEngine e (fun x => { x with bankB := false, levelling := true, stale := [] })).level e

def State.resetBanks (s : State) (g : Graph) : State :=
  engines.foldl (fun s e => if (g.onEngine e.val).isEmpty then s else s.resetBank e) s

/-- The code of every block of this device stored at its place. -/
def State.storeBlocks (s : State) (g : Graph) : State :=
  g.blocks.foldl (fun s b => if b.size = 0 then s else s.storeCode (eng8 b.eng) b.start (g.bundles b.block)) s

/-- The programs of the engines: code, declared length, fetch mode, bank A active (R323); nothing runs yet (R229, R106). A FetchMode write
that waits on an engine that takes no block stays (R106). -/
def State.loadPrograms (s : State) (g : Graph) (p : Plan) : State :=
  let s1 := (p.engs.zipIdx).foldl (fun s f => s.modEngine (eng8 f.2) (fun x =>
    { x with running := false, progLen := f.1.len, pendLen := none, unchecked := false, pendFetch := f.1.mode.orElse (fun _ => x.pendFetch), desc := []
             ranges := Vector.replicate 4 0, pendRanges := Vector.replicate 4 none, trapPage := none })) s
  (s1.resetBanks g).storeBlocks g

/-- The word of ORB_SHARE for a list of shares. -/
def shareWord (l : List Nat) : BitVec 64 := BitVec.ofNat 64 ((l.zipIdx).foldl (fun acc g => acc + g.1 * 2 ^ (8 * g.2)) 0)

/-- The set that RESTORE writes opened is committed at once, so that it is in force when the graph starts (R770). -/
def State.commitRestore (s : State) : State :=
  if (s.openSet .restore).isSome then (s.commitReq .restore 0 [1] false).commitArrives s.nextGen else s

/-- The RESTORE writes of a graph's parameters from the current snapshot, where its GRAPH_ID and PARAM_COUNT match (R768, R770). -/
def State.restoreParams (s : State) (g : Graph) : State :=
  match s.snapshotParams with
  | none => s
  | some (id, count, words) =>
    if id = g.id ∧ count = g.img.params.length then
      ((words.zipIdx).foldl (fun s w =>
        match s.param (paramAddr w.2) with
        | some p => if p.ty = 16 then s else s.writeParam .restore 0 p.addr [w.1]
        | none => s) s).commitRestore
    else s

/-- A graph loaded with its placement (R229, R373, R378): GraphState 2, the image retained (R697). The table gives PlacementChanges its name
and range alone; the model counts the graphs placed (log entry 131). -/
def State.loadGraph (s : State) (g : Graph) (p : Plan) : State :=
  let i := g.img
  let s1 := (s.loadPrograms g p).loadAreas g
  let s2 := g.regions.foldl (fun s r => s.loadRegion i r) s1
  let s3 := g.lines.foldl (fun s x => s.placeLine i g.lines x) s2
  let s4 := (s3.loadParams g).writeOrbShare true (shareWord p.share)
  let s5 : State := { s4 with til := { s4.til with graph := some g } }
  let s6 := ((s5.placeObjects g p.paths p.port p.far).setObjs [(O.graphState, 2), (O.graphId, g.id)]).count O.placementChanges 32 1
  ((s6.imagePages g).foldl (fun s a => s.makeStatic a 4096) s6).restoreParams g

/-! ### Unloading (R357, R395, R462) -/

/-- Every update set of the graph ends: open sets are discarded, sealed ones dropped; queued words and glides go with it. -/
def State.dropSets (s : State) : State :=
  let s1 := (s.sets.filter (fun u => u.phase = .opened && u.engines != [])).foldl (fun s u => s.abortSet u.key) s
  let s2 := (s1.sets.filter (fun u => u.phase = .sealed && u.engines != [])).foldl State.dropSet s1
  ({ s2 with xyQueue := [] } : State).allEngines (fun _ x => { x with glides := [] })

/-- A page of Hull SRAM: its static pages do not depend on a graph (R695). -/
def isHullPage (p : Nat) : Bool := inRange 0x10000000 0x400000 p

/-- An engine without a program. -/
def Engine.emptied (x : Engine) : Engine :=
  { x with running := false, active := false, progLen := 0, pendLen := none, desc := [], ops := [], flights := []
           ranges := Vector.replicate 4 0, pendRanges := Vector.replicate 4 none, trapPage := none }

/-- The objects of a placement back at their defaults. -/
def State.clearPlace (s : State) (g : Graph) : State :=
  let s1 := g.edges.foldl (fun s e => s.setObjs [(O.edgeLatency e.edge, 0), (O.edgeFirstGroup e.edge, 0xFFFF)]) s
  let s2 := (List.range g.img.paths.length).foldl (fun s p => s.setObj (O.pathLatency p) 0) s1
  let s3 := g.blocks.foldl (fun s b => s.setObj (O.blockPlace b.block) 0) s2
  let s4 := engines.foldl (fun s e => s.setObj (O.backgroundPortCycles e.val) 0) s3
  s4.reserve 0 0

/-- Orbit areas with nothing placed. -/
def OrbitIo.emptied (io : OrbitIo) : OrbitIo :=
  { io with owners := [], loop := [], exBy := [], exBase0 := 0, exBase1 := 0, exSize := 0, exFaulted := [], exRegions := []
            privBase := Vector.replicate 8 0, privSize := Vector.replicate 8 0 }

/-- Whether programs of the graph in force run on an engine. -/
def State.graphRuns (s : State) : Bool := engines.any (fun e => (s.engine e).running)

/-- The graph in force is unloaded: its sets end, its programs stop, its memories, parameters and objects go, with the pins that requests
gave its blocks, and its outputs fade where it ran. What the shares become is not stated: the model writes ORB_SHARE 0 (log entry 131). -/
def State.dropGraph (s : State) : State :=
  match s.til.graph with
  | none => s
  | some g =>
    let s1 := (s.dropSets.allEngines (fun _ x => x.emptied)).clearPlace g
    let s2 : State := { s1 with
      io := s1.io.emptied, params := [], til := { s1.til with graph := none, mig := none, unload := false, toDrain := [], pins := [], clearing := [], landing := [], reopt := false }
      net := { s1.net with xfades := [] }
      integ := { s1.integ with staticPages := s1.integ.staticPages.filter isHullPage
                               stalePages := s1.integ.stalePages.filter (fun p => isProgAddr p || isHullPage p) } }
    let s3 := (s2.setStale s2.integ.stalePages).writeOrbShare true 0
    let s4 := (s3.setObj O.graphId 0).setObj O.domainStagingFree (s3.obj O.domainStagingFree + g.image.length)
    if s.graphRuns then s4.mute .graphReplace else s4

end Sys2Proof.Machine
end

