-- ==== Sys2Proof/Machine/Migrate.lean ====
section
/-! DEFINITION. Moving a block while it runs: what may move, the load at the destination, the copy, the release (R396 to R411). -/
namespace Sys2Proof.Machine
open Sys2Proof

/-! ### Program layout (R388 to R392) -/


/-- Bundles that a program of these blocks issues when it ends at `stop`: the declared lengths, and one for each position of no block. -/
def GImage.programLength (g : GImage) (l : List PlacedBlock) (stop : Nat) : Nat :=
  g.declared (l.map (·.block)) + (stop - sumNat (l.map (·.size)))

/-- A RANGE register word (R389): modes 0 off, 1 quiet, 2 inert. -/
def rangeWord (mode start stop : Nat) : BitVec 64 := BitVec.ofNat 64 (mode * 2 ^ 62 + stop * 2 ^ 32 + start)

/-- The range of a list of blocks, from the first of them to the end of the last. -/
def rangeOf (mode : Nat) (l : List PlacedBlock) : BitVec 64 :=
  if mode = 0 then 0 else rangeWord mode (l.foldl (fun m b => min m b.start) (programEnd l)) (programEnd l)

/-- The loader writes RANGE register `k` of an engine, in force from the next boundary (R389). It uses RANGE0 for a migration and the others
for blocks that leave the program otherwise. -/
def State.setRange (s : State) (e : Nat) (k : Fin 4) (w : BitVec 64) : State :=
  s.modEngine (eng8 e) (fun x => { x with pendRanges := put x.pendRanges k (some w) })

/-- Whether a list of blocks is inert in force under RANGE register `k`. -/
def State.inertNow (s : State) (e : Nat) (k : Fin 4) (l : List PlacedBlock) : Bool := lane (s.engine (eng8 e)).ranges k = rangeOf 2 l

/-- The first program position from `pos` on at which `n` positions are free among used ranges in order, past the last where none are. -/
def firstGap (n : Nat) : List (Nat × Nat) → Nat → Nat
  | [], pos => pos
  | (a, b) :: t, pos => if pos + n ≤ a then pos else firstGap n t (max pos b)

/-- The declared length of an engine's program from the next boundary on. -/
def State.setLength (s : State) (e n : Nat) : State := s.modEngine (eng8 e) (fun x => { x with pendLen := some n })

/-! ### What can move (R377, R380, R396) -/

/-- The blocks of the cluster of block `b`, in program order. -/
def GImage.clusterOf (g : GImage) (v : PlaceEnv) (b : Nat) : List Nat :=
  let lab := g.labels (g.enginePairs v)
  let c := (List.range g.blocks.length).filter (fun x => lab.getD x x = lab.getD b b)
  inOrder g.orders c.length c

/-- The X and the Y part of `n` bytes at the base of a placed region, a unified region divided at the X/Y division (R101). -/
def PlacedRegion.parts (r : PlacedRegion) (n : Nat) : Nat × Nat :=
  if r.kind = 1 then (0, n) else (min 0x200000 (r.base + n) - r.base, r.base + n - max 0x200000 r.base)

/-- Small state of a block in X memory and in Y memory (R374, R377): regions of STATE 3, and the buffers of the DELAY1 edges it consumes. -/
def GImage.smallXY (g : GImage) (regions : List PlacedRegion) (b : Nat) : Nat × Nat :=
  let own := regions.filter (fun r => ((g.regions[r.region]?).map (fun x => decide (x.block = b ∧ x.state = 3))).getD false)
  let bufs := (g.edges.filter (fun e => e.carrier = 0 && e.delay1 && e.dst.block? = some b)).filterMap (fun e =>
    (regions.find? (fun r => r.region = e.region)).map (fun r => r.parts (4 * e.channels)))
  (own.map (fun r => r.parts r.bytes) ++ bufs).foldl (fun p q => (p.1 + q.1, p.2 + q.2)) (0, 0)

/-- Small state of a list of blocks, per array. -/
def GImage.smallOf (g : GImage) (regions : List PlacedRegion) (bs : List Nat) : Nat × Nat :=
  (bs.map (g.smallXY regions)).foldl (fun p q => (p.1 + q.1, p.2 + q.2)) (0, 0)

/-- Whether a block may be moved at all (R377). -/
def GImage.movable (g : GImage) (regions : List PlacedRegion) (b : Nat) : Bool :=
  match g.blocks[b]? with
  | none => false
  | some x =>
    let small := g.smallXY regions b
    x.migrate != 0 && g.lines.all (fun l => !(l.block = b && l.state = 3)) && decide (small.1 ≤ 32768) && decide (small.2 ≤ 32768) &&
    decide (x.small ≤ 65536)

/-- The edges of a list of blocks, with their indices. -/
def GImage.edgesOf (g : GImage) (bs : List Nat) : List (GEdge × Nat) :=
  (g.edges.zipIdx).filter (fun e => (e.1.src.block?.map bs.contains).getD false || (e.1.dst.block?.map bs.contains).getD false)

/-- Devices of the blocks once a list of blocks stands on another device. -/
def Graph.devsAfter (g : Graph) (bs : List Nat) (dev : Nat) : List Nat := g.blocks.map (fun b => if bs.contains b.block then dev else b.dev)

/-- Whether R396 permits the move of a cluster to a device: all its blocks movable, latencies kept, and across devices carrier 2 alone,
no SAP, warm start only with MIGRATE 0b10 (R408), both ends of every edge within H hops. A cluster moves as one migration, and the state
mover brings at most 32,768 bytes per array into an engine at a boundary (R402): a cluster with more small state in sum does not move. -/
def Graph.mayMove (g : Graph) (v : PlaceEnv) (bs : List Nat) (fromDev toDev : Nat) : Bool :=
  let i := g.img
  let devs := g.devsAfter bs toDev
  bs.all (fun b => i.movable g.regions b) &&
  decide ((i.smallOf g.regions bs).1 ≤ 32768) && decide ((i.smallOf g.regions bs).2 ≤ 32768) &&
  (i.edgesOf bs).all (fun e => e.1.latency v devs = ((g.edges.find? (fun x => x.edge = e.2)).map (·.latency)).getD 0) &&
  (fromDev = toDev ||
    ((i.edgesOf bs).all (fun e => e.1.carrier = 2 && !e.1.src.isSap && !e.1.dst.isSap &&
        [e.1.src, e.1.dst].all (fun p => match p.block? with
          | some b => decide (v.between (devs.getD b 0) toDev ≤ v.budgetH)
          | none => true)) &&
      bs.all (fun b => match i.blocks[b]? with
        | some x => x.small = 0 || x.migrate = 2
        | none => false)))

/-! ### The place at the destination -/

/-- The places a moved cluster takes: blocks, regions, lines, private regions, the shares then, the reservations. -/
structure Move where
  dst : List PlacedBlock
  regions : List PlacedRegion
  lines : List PlacedLine
  priv : List (Nat × Nat × Nat)
  share : List Nat
  port : Nat
  far : Nat
  deriving DecidableEq, Repr

/-- What an engine holds of a graph. -/
def Graph.fillOf (g : Graph) (e : Nat) : EngFill :=
  let half := 0x200000
  let f0 : EngFill := { EngFill.empty with
    d := (g.lines.filter (fun x => x.eng = e)).length
    blocks := (g.onEngine e).map (·.block) }
  (g.regions.filter (fun r => r.eng = e)).foldl (fun f r =>
    let stop := r.base + r.bytes
    if r.kind = 3 then { f with c := (r.base, stop) :: f.c }
    else if r.kind = 1 then { f with y := (r.base, stop) :: f.y }
    else if r.kind = 7 then f
    else { f with x := if r.base < half then (r.base, min half stop) :: f.x else f.x
                  y := if half < stop then (r.base - half, stop - half) :: f.y else f.y }) f0

/-- The lowest `n` descriptor numbers that an engine's lines leave free. -/
def Graph.freeDescs (g : Graph) (e n : Nat) : List Nat :=
  let used := (g.lines.filter (fun x => x.eng = e)).map (·.desc)
  ((List.range (used.length + n)).filter (fun q => !used.contains q)).take n

/-- Unified regions that stand in Y memory: a move keeps them in the array they have, so that the limit of R402 holds there too. -/
def Graph.standsInY (g : Graph) (k : Nat) : Bool := g.regions.any (fun r => r.region = k && decide (0x200000 ≤ r.base))

/-- WP mod 16 of the far delays of a list of placed lines, as it was when the graph was loaded (R279); aliases count with their writers. -/
def GImage.farClasses (i : GImage) (l : List PlacedLine) : List Nat :=
  (l.filter (fun x => x.far && ((i.lines[x.line]?).map (fun y => y.aliasOf == none32)).getD false)).map (·.wp)

def Graph.farClasses (g : Graph) : List Nat := g.img.farClasses g.lines

/-- What Orbit memory and LPDDR5X hold of a graph, beside the journal ring. -/
def Graph.orbFill (g : Graph) (v : PlaceEnv) : OrbFill :=
  let i := g.img
  let span := fun (a n : Nat) => (a, a + n)
  let bytes := fun (x : PlacedLine) => ((i.lines[x.line]?).map GLine.room).getD 0
  let near := (g.lines.filter (fun x => !x.far)).map (fun x => span (x.base - orbitBase) (bytes x))
  let stage := (g.lines.filter (·.far)).map (fun x => span (64 * x.stage) (64 * (((i.lines[x.line]?).map (·.spanGroups)).getD 0 + 8)))
  { orb := near ++ stage ++ g.priv.map (fun p => span p.2.1 p.2.2) ++ (if g.exSize = 0 then [] else [span g.exBase (2 * g.exSize)])
    lp := v.ringUsed ++ (g.lines.filter (·.far)).map (fun x => span (x.base - 0x1000000000) (bytes x))
    wps := g.farClasses
    lines := [], regions := [], priv := g.priv, faults := [] }

/-- The blocks of a cluster laid out in the range of removed blocks, if their code fits one, else past the end of an engine's program (R388,
R392); `used` are positions that are still to be cleared. All carrier-0 edges of a cluster lie within it, so any range keeps R79. -/
def Graph.layoutAfter (g : Graph) (own e : Nat) (bs : List Nat) (used : List PlacedBlock) : List PlacedBlock :=
  let l := g.img.layout own e bs
  let at_ := firstGap (sumNat (l.map (·.size))) ((inProgram (g.onEngine e ++ used)).map (fun b => (b.start, b.start + b.size))) 0
  l.map (fun b => { b with start := b.start + at_ })

/-- Private regions of a cluster on an engine: a new area, or places in the engine's own area, extended as far as nothing stands behind it. -/
def OrbFill.movePriv (f : OrbFill) (g : Graph) (e : Nat) (bs : List Nat) : OrbFill :=
  match f.priv.find? (fun p => p.1 = e) with
  | none => f.private_ g.img e bs
  | some p =>
    let stop := (f.orb.filter (fun u => decide (p.2.1 + p.2.2 ≤ u.1))).foldl (fun c u => min c u.1) ioOffset
    (bs.flatMap (fun b => (g.img.regionsOf b).filter (fun r => r.1.kind = 7))).foldl (fun f r =>
      let used := ((g.regions ++ f.regions).filter (fun x => x.kind = 7 && x.eng = e)).map (fun x => (x.base, x.base + x.bytes))
      match fitIn used r.1.bytes (2 ^ r.1.align) (stop - p.2.1) with
      | some b =>
        { f with regions := f.regions ++ [{ region := r.2, eng := e, kind := 7, base := b, bytes := r.1.bytes }]
                 orb := (p.2.1 + b, p.2.1 + b + r.1.bytes) :: f.orb
                 priv := f.priv.map (fun q => if q.1 = e then (e, q.2.1, max q.2.2 (b + r.1.bytes)) else q) }
      | none =>
        { f with faults := f.faults ++ [{ code := 0x0E, table := 2, entry := r.2, detail := 0, need := r.1.bytes
                                          have_ := roomIn used (2 ^ r.1.align) (stop - p.2.1), eng := e }] }) f

/-- The first groups of the carrier-2 edges of a graph. -/
def Graph.firsts (g : Graph) : List (Nat × Nat) := g.edges.map (fun e => (e.edge, e.first))

/-- The port-buffer reservation of a graph while output edges have second groups, with their devices then (R252, R404). -/
def Graph.portNeed (g : Graph) (v : PlaceEnv) (second : List (Nat × Nat)) (after : List Nat) : Nat :=
  let i := g.img
  portCount v.env.own (v.devOf (g.blocks.map (·.dev))) (i.grouped g.firsts) + portCount v.env.own (v.devOf after) (i.grouped second)

/-- What a migration across devices needs of slots and group numbers, of those that this device knows (R404, R413): input edges multicast
to the destination, second groups for the output edges, beside what the graph uses. -/
def Graph.routeFaults (g : Graph) (v : PlaceEnv) (bs : List Nat) (second : List (Nat × Nat)) (dev : Nat) : List Diag :=
  let i := g.img
  let more := (i.linked (g.devsAfter bs dev)).filter (fun e => (i.edgesOf bs).any (fun x => x.2 = e.2.1))
  let top := second.foldl (fun m p => max m (p.2 + ((i.edges[p.1]?).map GEdge.groups).getD 0)) 0
  slotFaults v (i.linked (g.blocks.map (·.dev)) ++ more) ++ reserveFaults v (i.runSpecs g.firsts (g.blocks.map (·.dev)) bs dev second) ++
  (if top ≤ 4096 then [] else
    [{ code := 0x12, table := 4, entry := (second.map (·.1)).headD 0, detail := 0xFF, need := top - 64, have_ := 4032, eng := 0 }])

/-- The small state that a migration brings into an engine is at most 32,768 bytes per array (R402): code 0x0D where the arrays left room
only in one (log entry 47). -/
def GImage.smallFault (i : GImage) (regions : List PlacedRegion) (e : Nat) (bs : List Nat) : Option Diag :=
  let n := i.smallOf regions bs
  if max n.1 n.2 ≤ 32768 then none
  else some { code := 0x0D, table := 1, entry := bs.headD 0, detail := if n.2 < n.1 then 0 else 1, need := max n.1 n.2, have_ := 32768, eng := e }

/-- The place of a cluster on engine `e` of this device, or the check from code 0x0C on that it fails (R380, R413). `used` are positions
still to be cleared there, `second` the second groups of a migration across devices. -/
def Graph.prepare (g : Graph) (v : PlaceEnv) (unified : Option Bool) (e : Nat) (bs : List Nat) (used : List PlacedBlock)
    (second : List (Nat × Nat)) : Move ⊕ Diag :=
  let i := g.img
  let here := g.onEngine e
  let dst := g.layoutAfter v.env.own e bs used
  let all := here ++ dst
  let len := i.programLength all (programEnd all)
  let now := i.programLength here (programEnd here)
  let sameMode := bs.all (fun b => i.modeOf b = unified.getD (i.modeOf b))
  let fits := decide (len ≤ v.env.budget) && decide (programEnd all ≤ 32768) && sameMode
  if !fits then
    .inr { code := 0x0C, table := 1, entry := bs.headD 0, detail := 0, need := len - now
           have_ := if !sameMode then 0 else min (v.env.budget - now) (32768 - programEnd here), eng := e }
  else match i.fillCluster e bs g.standsInY (g.fillOf e) with
    | .inr d => .inr d
    | .inl f =>
      let mine := ((i.lines.zipIdx).filter (fun x => bs.contains x.1.block)).map (·.2)
      let ds := (mine.zip (g.freeDescs e mine.length)).map (fun k => (k.1, e, k.2))
      let o1 := (i.lineOrder ds).foldl (fun f d => f.line v d.1 d.2.1 d.2.2.1 d.2.2.2) (g.orbFill v)
      let o2 := ((o1.movePriv g e bs).staging i).aliases i ds
      let placed := o2.lines.map (fun p => { p with wp := ((g.lines.find? (fun q => q.line = p.line)).map (·.wp)).getD p.wp })
      let far := farReservation (g.farClasses ++ i.farClasses placed)
      let port := g.portNeed v second (g.devsAfter bs v.env.own)
      let per := fun (k : Nat) => i.engineCharges (g.lines ++ placed) (g.onEngine k ++ (if k = e then dst else []))
      let sh := shares v.orb ((List.range 8).map (fun k => (per k, ((inProgram (g.onEngine k ++ (if k = e then dst else []))).map (·.block)).headD 0)))
      let cross := if second = [] then [] else g.routeFaults v bs second v.env.own
      match leastFault ((i.smallFault f.regions e bs).toList ++ o2.faults ++ sh.2 ++ idleFault v.orb (port + far) ++ cross) with
      | some d => .inr d
      | none => .inl { dst := dst, regions := f.regions ++ o2.regions, lines := placed, priv := o2.priv, share := sh.1, port := port, far := far }

/-- A graph with a migration's places in force in place of the source's, and the second groups of its output edges in place of the first
ones (R404, R405). -/
def Graph.moved (g : Graph) (m : Migration) : Graph :=
  let i := g.img
  let away := fun (b : Nat) => m.blocks.contains b
  { g with
    blocks := g.blocks.map (fun b => (m.dst.find? (fun d => d.block = b.block)).getD
      (if away b.block then { b with dev := m.toDev, eng := m.toEng, start := 0, size := 0, code := 0 } else b))
    regions := g.regions.filter (fun r => !away (((i.regions[r.region]?).map (·.block)).getD 0)) ++ m.regions
    lines := g.lines.filter (fun x => !away (((i.lines[x.line]?).map (·.block)).getD 0)) ++ m.lines
    priv := if m.dst = [] then g.priv else m.priv
    edges := g.edges.map (fun e => match m.second.find? (fun p => p.1 = e.edge) with
      | some p => { e with first := p.2 }
      | none => e) }

/-! ### The load (R398, R399) -/

/-- A range of bytes copied. -/
def State.copyRange (s : State) (src dst n : Nat) : State := (s.noteSofts src n).storeBytes dst (memBytes s.mem src n)

/-- The WP of a far delay that joins others, so that it keeps its class (R279): its WP at load time moved on as theirs have. -/
def State.wpNow (s : State) (g : Graph) (p : PlacedLine) : Nat :=
  match g.lines.find? (fun x => x.far) with
  | some q => (p.wp + (s.desc (eng8 q.eng) q.desc).wp + 16 - q.wp % 16) % 16
  | none => p.wp

/-- Dirty rows of the destination for the words of a coefficient region whose source rows are dirty. -/
def movedRows (dirty : List Nat) (src dst bytes : Nat) : List Nat :=
  ((List.range (bytes / 4)).filter (fun i => dirty.contains ((src / 4 + i) / 64))).map (fun i => (dst / 4 + i) / 64)

/-- The coefficient words of a region copied, active bank to active bank and shadow to shadow, with dirty rows and glide entries. -/
def State.copyBank (s : State) (a b : PlacedRegion) : State :=
  let x := s.engine (eng8 a.eng)
  let y := s.engine (eng8 b.eng)
  let go := fun (act : Bool) (s : State) => s.copyRange (bankBase a.eng (x.bankB == act) + a.base) (bankBase b.eng (y.bankB == act) + b.base) a.bytes
  let inside := fun (g : Glide) => decide (a.base / 4 ≤ g.word) && decide (g.word < (a.base + a.bytes) / 4)
  let gs := (x.glides.filter inside).map (fun g => { g with word := g.word + b.base / 4 - a.base / 4 })
  let s1 := (go true (go false s)).modEngine (eng8 b.eng) (fun z =>
    { z with dirty := (movedRows x.dirty a.base b.base a.bytes).foldl setAdd z.dirty, glides := z.glides ++ gs })
  ([true, false].flatMap (fun act => pagesOf (bankBase b.eng (y.bankB == act) + b.base) b.bytes)).foldl State.codeBank s1

/-- The descriptor of a line at the destination: that of the source line with its own places, its storage zero, HWM = LEN (R398). -/
def Desc.movedTo (d : Desc) (base writer stage : Nat) : Desc :=
  { d with base := base, writer := writer, stageLine := stage, hwm := d.len, stage := [], missing := [], fetching := []
           behind := [], turn := 0, openVals := Vector.replicate 16 0, openFlags := 0 }

/-- A line's storage at the destination: a table line takes its initial content, every other line is zero, a Facet line in zero groups of its
format (R305, R399). -/
def State.moveStorage (s : State) (g : GImage) (p : PlacedLine) : State :=
  match g.lines[p.line]? with
  | none => s
  | some x => if x.state = 1 then s.loadLine g p else if x.aliasOf != none32 then s else s.fillLine x p.base []

/-- A line loaded at the destination, with the WP of the source line (R399), or with that of its class where the source is elsewhere. -/
def State.moveLine (s : State) (g : Graph) (all : List PlacedLine) (p : PlacedLine) : State :=
  match g.lines.find? (fun x => x.line = p.line) with
  | none =>
    let w := if p.far then s.wpNow g p else p.wp
    match g.img.lines[p.line]? with
    | some x => ((s.moveStorage g.img p).setDesc (eng8 p.eng) p.desc { g.img.lineDesc all p x with wp := w }).stageSpan (eng8 p.eng) p.desc
    | none => s
  | some q =>
    let wr := (((g.img.lines[p.line]?).bind (fun x => all.find? (fun y => y.line = x.aliasOf))).map (·.desc)).getD 0
    ((s.moveStorage g.img p).setDesc (eng8 p.eng) p.desc ((s.desc (eng8 q.eng) q.desc).movedTo p.base wr p.stage)).stageSpan (eng8 p.eng) p.desc

/-- A region loaded at the destination, coefficient words and tables from the source if it stands here. -/
def State.moveRegion (s : State) (g : Graph) (r : PlacedRegion) : State :=
  let s1 := s.loadRegion g.img r
  match g.regions.find? (fun x => x.region = r.region) with
  | none => s1
  | some q => if r.kind = 3 then s1.copyBank q r else s1

/-- Queued writes of `n` bytes of X or Y memory concern the copy at another address too (R403). -/
def State.mirrorQueue (s : State) (src dst n : Nat) : State :=
  { s with xyQueue := s.xyQueue.flatMap (fun w =>
      if src ≤ w.addr ∧ w.addr < src + n then [w, { w with addr := w.addr - src + dst }] else [w]) }

/-- The words of the X and Y parameters of the moved blocks, with the writes to them that wait (R400, R403). -/
def State.moveParams (s : State) (g : Graph) (m : Migration) : State :=
  s.params.foldl (fun s p =>
    match m.blocks.contains p.block, g.img.params[(p.addr / 256 - 0x8000) * 8 + (p.addr % 256 - 1)]? with
    | true, some x =>
      (match s.paramBase m.regions m.lines x with
       | none => s
       | some t =>
         let s1 : State := { s with params := s.params.map (fun z => if z.addr = p.addr then { z with mirror := some t } else z) }
         if p.bind = 1 then (s1.copyRange p.base t.2 (4 * p.words)).mirrorQueue p.base t.2 (4 * p.words) else s1)
    | _, _ => s) s

/-- The parameters of blocks that come from another device: what their words hold there, after the writes they have had, is not known here, so
each word is a free value (R398; log entry 132). -/
def State.remoteParams (s : State) (g : Graph) (m : Migration) : State :=
  (g.img.params.filter (fun p => m.blocks.contains (g.img.paramBlock p) && p.bind != 2)).foldl (fun s p =>
    match s.paramBase m.regions m.lines p with
    | none => s
    | some (e, b) => (List.range p.words).foldl (fun s i =>
        let r := s.free
        let put_ := fun (a : Nat) (s : State) => s.store (a + 4 * i) 4 r.1.toNat
        if p.bind = 0 then put_ (bankBase e false + 4 * b) (put_ (bankBase e true + 4 * b) r.2) else put_ b r.2) s) s

/-- A write of the bank words of a moved region concerns the destination too (R356). -/
def mirrorWrite (g : Graph) (m : Migration) (w : BankWrite) : List BankWrite :=
  match m.regions.findSome? (fun r => (g.regions.find? (fun q => q.region = r.region && r.kind = 3 && q.eng = w.engine &&
      decide (q.base / 4 ≤ w.word) && decide (w.word < (q.base + q.bytes) / 4))).map (fun q => (r, q))) with
  | some (r, q) => [w, { w with engine := r.eng, word := w.word + r.base / 4 - q.base / 4 }]
  | none => [w]

/-- Whether sets that concern engine `e` and others that concern engine `f` would meet on `f` if a block of `e` ran there too: each engine is
one set's (R332, R400; log entry 110). -/
def State.claimsMeet (s : State) (e f : Nat) : Bool :=
  let on := fun (f : Nat) => s.sets.filter (fun u => u.phase != .swapped && u.engines.contains f)
  (on e).any (fun u => (on f).any (fun v => v != u)) ||
  s.held.any (fun h => h.writes.any (fun w => w.engine = e) && (on f).any (fun v => v.phase = .opened && v.key != h.key))

/-- Sets and held writes that concern the source engine concern the destination too (R400). -/
def State.mirrorSets (s : State) (g : Graph) (m : Migration) : State :=
  { s with
    sets := s.sets.map (fun u => if u.engines.contains m.fromEng then
      { u with engines := setAdd u.engines m.toEng, words := u.words.flatMap (mirrorWrite g m) } else u)
    held := s.held.map (fun h => { h with writes := h.writes.flatMap (mirrorWrite g m) }) }

/-- The private regions of Orbit memory as a list gives them. -/
def OrbitIo.setPriv (io : OrbitIo) (l : List (Nat × Nat × Nat)) : OrbitIo :=
  { io with
    privBase := tab (fun (k : Fin 8) => ((l.find? (fun p => p.1 = k.val)).map (·.2.1)).getD 0)
    privSize := tab (fun (k : Fin 8) => ((l.find? (fun p => p.1 = k.val)).map (·.2.2)).getD 0) }

/-- Cycles of the state mover in which it moves the small state of blocks: 64 words of each array per cycle (R402). -/
def GImage.moverCycles (g : GImage) (regions : List PlacedRegion) (bs : List Nat) : Nat :=
  let n := g.smallOf regions bs
  (max n.1 n.2 + 255) / 256

/-- The cycles of the state mover on the engines of this device that a migration concerns: both within the device; across devices the source
for its snapshot, the destination for the write of it (R402, R406). -/
def State.moverOn (s : State) (g : Graph) (m : Migration) : List (Nat × Nat) :=
  let k := g.img.moverCycles (if m.fromDev = s.selfDev then g.regions else m.regions) m.blocks
  (if m.fromDev = s.selfDev then [(m.fromEng, k)] else []) ++ (if m.toDev = s.selfDev then [(m.toEng, k)] else [])

/-- BackgroundPortCycles with what a migration under way adds: its blocks once their code is stored, and the state mover (R103, R104). -/
def State.portsNow (s : State) (g : Graph) : State :=
  match s.til.mig with
  | some m => s.portObjects g (if s.obj O.migrationState = 1 then [] else m.dst) [] (s.moverOn g m)
  | none => s.portObjects g [] [] []

/-- A levelled destination that shares no claim takes what concerns the source (R400): the loader waits for levelling on either engine. An
engine without a block has bank A active (R323). -/
def State.levelMove (s : State) (g : Graph) (m : Migration) : State :=
  let s1 := if m.fromDev = m.toDev then s.level (eng8 m.fromEng) else s
  if g.onEngine m.toEng = [] then s1.resetBank (eng8 m.toEng) else s1.level (eng8 m.toEng)

/-- The destination being loaded: range inert from the next boundary, regions, lines, parameters, shares (R392, R398). The code follows
once the range is inert. -/
def State.loadMove (s : State) (g : Graph) (m : Migration) (mv : Move) : State :=
  let e := m.toEng
  let s0 := s.levelMove g m
  let s1 : State := { s0 with io := s0.io.setPriv m.priv }
  let s2 := mv.regions.foldl (fun s r => s.moveRegion g r) s1
  let s3 := mv.lines.foldl (fun s p => s.moveLine g mv.lines p) s2
  let s4 := s3.setRange e 0 (rangeOf 2 mv.dst)
  let s5 := if (g.onEngine e) = [] then s4.modEngine (eng8 e) (fun x => { x with pendFetch := some (g.img.modeOf m.block) }) else s4
  let s6 := if m.fromDev = m.toDev then (s5.moveParams g m).mirrorSets g m else s5.remoteParams g m
  ((s6.writeOrbShare true (shareWord mv.share)).reserve mv.port mv.far).portsNow g

/-! ### The end of a migration -/

/-- The objects of a migration's state. -/
def State.setMig (s : State) (st : Nat) (m : Migration) : State :=
  ({ s with til := { s.til with mig := some m } } : State).setObj O.migrationState st

/-- The mirrors of the parameters of the moved blocks go. -/
def State.unmirror (s : State) (m : Migration) : State :=
  { s with params := s.params.map (fun p => if m.blocks.contains p.block then { p with mirror := none } else p) }

/-- The code of blocks overwritten with all-NOP bundles (R392). -/
def State.eraseCode (s : State) (l : List PlacedBlock) : State := l.foldl (fun s b => s.storeCode (eng8 b.eng) b.start (List.replicate b.size 0)) s

/-- The RANGE register, 1 to 3, under which the next blocks leave an engine's program. -/
def State.clearReg (s : State) (e : Nat) : Nat := (s.til.clearing.filter (fun c => c.1 = e)).length % 3 + 1

/-- A RANGE register number as one. -/
def reg4 (k : Nat) : Fin 4 := ⟨k % 4, Nat.mod_lt _ (by decide)⟩

/-- Blocks leave an engine's program (R392): where their range is inert already it is overwritten with all-NOP bundles and released; else
it becomes inert first, under one of three registers in turn; blocks whose register still clears others wait for it. -/
def State.removeBlocks (s : State) (e : Nat) (l : List PlacedBlock) : State :=
  if l = [] then s
  else if s.inertNow e 0 l then (s.eraseCode l).setRange e 0 0
  else
    let k := s.clearReg e
    let s1 := s.setRange e 0 0
    let s2 := if s.til.clearing.any (fun c => c.1 = e && c.2.1 = k) then s1 else s1.setRange e (reg4 k) (rangeOf 2 l)
    { s2 with til := { s2.til with clearing := s2.til.clearing ++ [(e, k, l)] } }

/-- Ranges that have become inert are overwritten and released; the next blocks that wait for the register become inert. -/
def State.clearBlocks (s : State) : State :=
  s.til.clearing.foldl (fun s c =>
    if s.inertNow c.1 (reg4 c.2.1) c.2.2 then
      let rest := s.til.clearing.filter (fun d => d != c)
      let next := (rest.find? (fun d => d.1 = c.1 && d.2.1 = c.2.1)).map (fun d => rangeOf 2 d.2.2)
      let t := (s.eraseCode c.2.2).setRange c.1 (reg4 c.2.1) (next.getD 0)
      { t with til := { t.til with clearing := rest } }
    else s) s

/-- Whether the graph in force has been started: also while a later image is under check (R378, R393). -/
def State.started (s : State) : Bool := s.obj O.graphState = 3 || (s.obj O.graphState = 1 && s.til.checking.any (fun c => c.2.1 = 3))

/-- Blocks that were placed here as new take their code where it is inert or the engine holds no other, and run from the next boundary (R392,
R410). -/
def State.landBlocks (s : State) : State :=
  match s.til.graph, s.til.landing with
  | some g, b :: l =>
    let on := g.onEngine b.eng
    if s.inertNow b.eng 0 (b :: l) || on.all (fun x => (b :: l).contains x) then
      let run := s.started
      let t := (((b :: l).foldl (fun s b => s.storeCode (eng8 b.eng) b.start (g.bundles b.block)) s).setRange b.eng 0 0).setLength b.eng
        (g.img.programLength on (programEnd on))
      ({ t with til := { t.til with landing := [] } } : State).modEngine (eng8 b.eng) (fun x => { x with running := x.running || run })
    else s
  | _, _ => s

/-- Pages that are no longer static. -/
def State.unstatic (s : State) (pages : List Nat) : State :=
  ({ s with integ := { s.integ with staticPages := s.integ.staticPages.filter (fun p => !pages.contains p) } } : State).setStale
    (s.integ.stalePages.filter (fun p => isProgAddr p || !pages.contains p))

/-- The lines of a list lose their descriptors, and the pages of table lines are no longer static. -/
def State.freeLines (s : State) (g : GImage) (l : List PlacedLine) : State :=
  let pages := l.flatMap (fun p => match g.lines[p.line]? with
    | some x => if x.state = 1 ∧ p.far = false ∧ x.aliasOf = none32 then pagesOf p.base x.room else []
    | none => [])
  (l.foldl (fun s x => s.setDesc (eng8 x.eng) x.desc Desc.zero) s).unstatic pages

/-- The pages of regions that go are no longer static. -/
def State.freePages (s : State) (l : List PlacedRegion) : State :=
  s.unstatic ((l.filter (fun r => decide (r.kind < 3))).flatMap (fun r => pagesOf (s.regionAddr r) r.bytes))

/-- The shares, reservations and port cycles of a graph as it stands, with its placement (R240, R252, R254). -/
def State.reshare (s : State) (g : Graph) : State :=
  let sh := shares (s.obj O.cyclesPerTick / 2) ((List.range 8).map (fun k => (g.img.engineCharges g.lines (g.onEngine k), 0)))
  let v := s.placeEnv s.mode
  ((s.writeOrbShare true (shareWord sh.1)).reserve (g.portNeed v [] []) (farReservation g.farClasses)).portObjects g [] [] []

/-- Whether a word of a bank lies in the region that a migration takes at its destination. -/
def Migration.takes (m : Migration) (eng word : Nat) : Bool :=
  m.regions.any (fun r => r.kind = 3 && r.eng = eng && decide (r.base / 4 ≤ word) && decide (word < (r.base + r.bytes) / 4))

/-- What a migration mirrored to its destination goes: claims and words of sets, held and queued writes, glides (R400, R411). -/
def State.unmirrorSets (s : State) (m : Migration) : State :=
  let stays := fun (w : BankWrite) => !m.takes w.engine w.word
  let queued := fun (a : Nat) => m.regions.any (fun r => decide (r.kind < 3) && inRange (s.regionAddr r) r.bytes a)
  ({ s with
    sets := s.sets.map (fun u =>
      let ws := u.words.filter stays
      { u with words := ws, engines := u.engines.filter (fun e => e != m.toEng || u.words = ws || ws.any (fun w => w.engine = e)) })
    held := s.held.map (fun h => { h with writes := h.writes.filter stays })
    xyQueue := s.xyQueue.filter (fun w => !queued w.addr) } : State).modEngine (eng8 m.toEng)
      (fun x => { x with glides := x.glides.filter (fun g => !m.takes m.toEng g.word) })

/-- The second groups of a migration as numbers. -/
def Graph.secondList (g : Graph) (m : Migration) : List Nat :=
  m.second.flatMap (fun p => (List.range (((g.img.edges[p.1]?).map GEdge.groups).getD 0)).map (fun i => p.2 + i))

/-- The groups of a carrier-2 edge as numbers. -/
def Graph.groupsOf (g : Graph) (k : Nat) (e : GEdge) : List Nat :=
  let first := ((g.edges.find? (fun x => x.edge = k)).map (·.first)).getD 0
  (List.range e.groups).map (fun i => first + i)

/-- The engines that write the output groups of a graph, and the groups that loop back (R139, R382). -/
def Graph.io (g : Graph) (io : OrbitIo) : OrbitIo :=
  let es := (g.img.edges.zipIdx).filter (fun e => e.1.carrier = 2)
  let here := fun (p : Endpoint) => (p.block?.bind (fun b => g.blocks.find? (fun x => x.block = b))).bind (fun b => if b.size = 0 then none else some b.eng)
  { io with
    owners := es.flatMap (fun e => match here e.1.src with
      | some x => (g.groupsOf e.2 e.1).map (fun k => (k, x))
      | none => [])
    loop := (es.filter (fun e => (here e.1.src).isSome && (here e.1.dst).isSome)).flatMap (fun e => g.groupsOf e.2 e.1)
    exRegions := g.exRegions }

/-- Blocks of this device that a drain does not move: those in no cluster of `heads` (R414). -/
def State.staying (s : State) (g : Graph) (heads : List Nat) : Nat :=
  let v := s.placeEnv s.mode
  (g.blocks.filter (fun b => b.dev = v.env.own && b.size != 0 && !heads.contains ((g.img.clusterOf v b.block).foldl min b.block))).length

/-- A block whose migration is abandoned stays: a drain that its device is in counts it (R414). -/
def State.noteStay (s : State) (g : Graph) (m : Migration) : State :=
  if s.til.closed && m.fromDev = s.selfDev && s.obj O.diagCode = 0 then s.setObj O.diagHave (s.staying g s.til.toDrain) else s

/-- The parameters of blocks that stay where the graph has them after a switch across devices: again on the device of the source only
(R463). -/
def State.stayParams (s : State) (g : Graph) (m : Migration) : List Param :=
  s.params.filter (fun p => !m.blocks.contains p.block) ++
  (g.img.params.zipIdx).filterMap (fun p => if m.blocks.contains (g.img.paramBlock p.1) then s.mkParam g p.2 p.1 else none)

/-- A migration abandoned with a cause (R411): what the destination took is released, and the source runs on with the program, the claims
and the private regions it had; a source range made inert by the switch is in force again. -/
def State.abandon (s : State) (cause : Nat) : State :=
  match s.til.mig, s.til.graph with
  | some m, some g =>
    let pages := m.regions.filter (fun r => g.regions.all (fun q => q.eng != r.eng || q.base / 4096 != r.base / 4096))
    let old := g.blocks.filter (fun b => m.blocks.contains b.block && b.size != 0)
    let s1 := (((s.freeLines g.img m.lines).freePages pages).unmirror m).unmirrorSets m
    let s2 := if m.dst = [] then s1 else
      (((if s.obj O.migrationState = 1 then s1.setRange m.toEng 0 0 else s1.removeBlocks m.toEng m.dst).setLength m.toEng
        (g.img.programLength (g.onEngine m.toEng) (programEnd (g.onEngine m.toEng)))).reshare g)
    let s3 := if old = [] || !m.switched then s2 else
      (s2.setRange m.fromEng 0 0).setLength m.fromEng (g.img.programLength (g.onEngine m.fromEng) (programEnd (g.onEngine m.fromEng)))
    let s4 : State := { s3 with
      params := if m.switched && m.fromDev != m.toDev then s3.stayParams g m else s3.params
      til := { s3.til with mig := none }, io := (if m.dst = [] then s3.io else g.io (s3.io.setPriv g.priv))
      net := { s3.net with xfades := s3.net.xfades.filter (fun x => !(g.secondList m).contains x.second) } }
    (((s4.setObjs [(O.migrationState, 6), (O.migrationCause, cause)]).count O.migrationsAbandoned 32 1).event 0x0603
      (m.block % 65536 + cause * 65536)).noteStay g m
  | _, _ => s

/-- Where the small state of the moved blocks stands: regions of STATE 3, and the buffers of DELAY1 edges. -/
def GImage.smallRegions (g : GImage) (bs : List Nat) : List Nat :=
  ((g.regions.zipIdx).filter (fun r => bs.contains r.1.block && r.1.state = 3)).map (·.2) ++
  (g.edges.filter (fun e => e.carrier = 0 && e.delay1 && (e.dst.block?.map bs.contains).getD false)).map (·.region)

/-- The small state copied word by word: an uncorrectable word is written as zero, sets POISON of the source engine and is recovered
(R398, R700). -/
def State.copySmall (s : State) (g : Graph) (m : Migration) : State :=
  (g.img.smallRegions m.blocks).foldl (fun s k =>
    match g.regions.find? (fun r => r.region = k), m.regions.find? (fun r => r.region = k) with
    | some q, some r =>
      let src := s.regionAddr q
      let dst := s.regionAddr r
      let bad := s.bad.filter (fun a => decide (src ≤ a) && decide (a < src + q.bytes))
      let s1 := s.copyRange src dst q.bytes
      bad.foldl (fun s a => ((s.store (dst + (a - src)) 4 0).noteBad 2 a).modFault (eng8 q.eng) (fun w => fwPoison w 1)) s1
    | _, _ => s) s

/-- The small state read for a snapshot (R406): its bytes, an uncorrectable word as zero, with POISON of the source engine and its recovery
(R700). -/
def State.smallState (s : State) (g : Graph) (m : Migration) : List Byte × State :=
  (g.img.smallRegions m.blocks).foldl (fun (acc : List Byte × State) k => match g.regions.find? (fun r => r.region = k) with
    | some q =>
      let src := s.regionAddr q
      let bad := s.bad.filter (fun a => decide (src ≤ a) && decide (a < src + q.bytes))
      let l := (List.range q.bytes).map (fun i => if bad.any (fun a => decide (a ≤ src + i) && decide (src + i < a + 4)) then 0 else memByte s.mem (src + i))
      (acc.1 ++ l, bad.foldl (fun s a => (s.noteBad 2 a).modFault (eng8 q.eng) (fun w => fwPoison w 1)) (acc.2.noteSofts src q.bytes))
    | none => acc) ([], s)

/-- A snapshot written into the small state of the destination. -/
def State.writeSmall (s : State) (m : Migration) (ks : List Nat) (data : List Byte) : State :=
  (ks.foldl (fun (p : State × List Byte) k =>
    match m.regions.find? (fun r => r.region = k) with
    | some r => (p.1.storeBytes (p.1.regionAddr r) (p.2.take r.bytes), p.2.drop r.bytes)
    | none => p) (s, data)).1

/-- The parameters of a graph whose blocks have moved: those of the blocks at their new places, on the device that holds their words (R372,
R463). -/
def State.movedParams (s : State) (g : Graph) (m : Migration) : List Param :=
  let kept := s.params.filterMap (fun p =>
    if !m.blocks.contains p.block then some p
    else match p.mirror with
      | some t => some { p with engine := t.1, base := t.2, mirror := none }
      | none => if m.dst = [] then none else some p)
  kept ++ (g.img.params.zipIdx).filterMap (fun p =>
    if m.blocks.contains (g.img.paramBlock p.1) && kept.all (fun k => k.addr != paramAddr p.2) then s.mkParam (g.moved m) p.2 p.1 else none)

/-- From a switch across devices on, the parameters of the blocks exist on the destination only (R463). -/
def State.switchParams (s : State) (g : Graph) (m : Migration) : State := { s with params := s.movedParams g m }

/-- The graph in force with the blocks of a migration at their destination: areas, parameters, shares, reservations, and the objects of the
placement, edges with the groups of the destination (R372, R398, R405). -/
def State.settle (s : State) (g : Graph) (m : Migration) : State :=
  let g2 := g.moved m
  let s1 : State := { s with io := g2.io s.io, til := { s.til with graph := some g2, mig := none }, params := s.movedParams g m }
  let s2 := m.blocks.foldl (fun s b => match g2.blocks.find? (fun x => x.block = b) with
    | some p => s.setObj (O.blockPlace b) (placeWord p)
    | none => s) (s1.reshare g2)
  m.second.foldl (fun s p => s.setObj (O.edgeFirstGroup p.1) p.2) s2

/-- The source is released (R392, R398): its code leaves the program, its regions and lines are freed. -/
def State.release (s : State) (g : Graph) (m : Migration) : State :=
  let g2 := g.moved m
  let old := g.blocks.filter (fun b => m.blocks.contains b.block && b.size != 0)
  let lines := g.lines.filter (fun x => !g2.lines.contains x)
  let regions := g.regions.filter (fun r => !g2.regions.contains r && g2.regions.all (fun q => q.eng != r.eng || q.base / 4096 != r.base / 4096))
  let s1 := ((s.removeBlocks m.fromEng old).freeLines g.img lines).freePages regions
  let s2 := if old = [] then s1 else
    s1.setLength m.fromEng (g.img.programLength (g2.onEngine m.fromEng) (programEnd (g2.onEngine m.fromEng)))
  (((s2.settle g m).setObjs [(O.migrationState, 5), (O.migrationCause, 0)]).count O.migrationsCompleted 32 1).event 0x0602 (m.block % 65536)

end Sys2Proof.Machine
end

