-- ==== Sys2Proof/Machine/Tiler.lean ====
section
/-! DEFINITION. Commands of the Tiler: admission, start, unloading, migration, draining, reload (R357, R378, R393, R396 to R415, R705). -/
namespace Sys2Proof.Machine
open Sys2Proof

/-! ### Admission (R378, R379) -/

/-- The image with the pins that the Origin ordered for blocks of this member: each of them stands here (R387). -/
def State.ordered (s : State) (g : GImage) : GImage :=
  if s.mode != 5 || !s.joined || s.isOrigin then g
  else s.net.orders.foldl (fun g o =>
    let pin := if o.2.1.testBit 31 then o.2.1 else 2 ^ 31 + o.2.1 / 2 ^ 12 * 2 ^ 12 + s.selfDev
    { g with blocks := g.blocks.modify o.1 (fun x => { x with pin := pin }) }) g

/-- The placement of an image on this device (R380, R387). -/
def State.planOf (s : State) (bytes : List Byte) (mode : Nat) : Plan :=
  let i := s.ordered (gImage bytes)
  i.plan (s.imageEnv mode i)

/-- The first check an image fails, in the order of R378; `late` says that it arrived where 0x14 refuses it. -/
def State.judge (s : State) (bytes : List Byte) (mode : Nat) (late : Bool) : Option Diag :=
  (graphFault (s.graphEnv mode) bytes).orElse fun _ =>
  (leastFault (s.planOf bytes mode).faults).orElse fun _ =>
  if late || decide (mode ∈ [0, 1, 6, 7]) then some (diag 0x14 0 0 mode) else none

/-- A rejection: reported, the staging of the image given back, GraphState as `st` (R378). -/
def State.rejectImage (s : State) (bytes : List Byte) (d : Diag) (st : Nat) : State :=
  (((s.setDiag d).event 0x0601 d.code).setObjs [(O.graphState, st), (O.domainStagingFree, s.obj O.domainStagingFree + bytes.length)])

/-- An image is delivered: accepted for checking, or rejected at once while another is checked or a graph is being unloaded (R378, R415). -/
def State.offerImage (s : State) (bytes : List Byte) : State :=
  if s.obj O.graphState = 1 ∨ s.obj O.graphState = 5 then
    match s.judge bytes s.mode true with
    | some d => s.clearDiag.rejectImage bytes d (s.obj O.graphState)
    | none => s
  else
    let s1 := s.clearDiag.setObj O.graphState 1
    { s1 with til := { s1.til with checking := some (bytes, s.obj O.graphState, s.mode) } }

/-- The memory limits of a TILER_ORDER, whose form the spec does not give (log entry 87): bytes of X, Y, coefficient bank, Orbit memory below
the I/O area, LPDDR5X in pages. -/
def State.memLimits (s : State) : List Nat := [0x200000, 0x200000, 0x80000, ioOffset, s.lpddrBytes / 4096]

/-- TILER_ORDER to a device: a block, its pin, memory limits (R387, R576). -/
def State.sendOrder (s : State) (dev block pin : Nat) : State :=
  if s.mode = 5 && s.joined && s.isOrigin && dev != s.ownAddr then
    s.sendRouted false (s.mkMsg dev 0 0x18 (leBytes 2 block ++ leBytes 4 pin ++ s.memLimits.flatMap (leBytes 4)))
  else s

/-- TILER_ORDER to the device of each block that is placed elsewhere (R387). -/
def State.sendOrders (s : State) (g : Graph) : State :=
  g.blocks.foldl (fun s b => s.sendOrder b.dev b.block (((g.img.blocks[b.block]?).map (·.pin)).getD 0)) s

/-- An accepted image is placed and loaded in place of the graph in force (R378, R395), whose programs finish their tick (R88; log entry
134). -/
def State.admitImage (s : State) (bytes : List Byte) (mode : Nat) : State :=
  let i := s.ordered (gImage bytes)
  let p := s.planOf bytes mode
  let s0 := if s.graphRuns then s.finishTick else s
  let s1 := (if s0.til.mig.isSome then s0.abandon 6 else s0).dropGraph
  let g := i.graph s.selfDev p (i.remoteEngines (s.imageEnv mode i) p.devs)
  (s1.loadGraph g p).sendOrders g

/-- GraphState after a rejection: what it was before the image arrived while that graph is still in force, 5 while it is being unloaded, else
4 (R378). -/
def State.rejectedState (s : State) (prev : Nat) : Nat :=
  if s.til.unload || s.obj O.graphState = 5 then 5 else if (prev = 2 || prev = 3) && s.til.graph.isSome then prev else 4

def execGraphAdmission (s : State) : Out :=
  match s.til.checking with
  | none => .next s
  | some (bytes, prev, mode) =>
    let s1 : State := { s with til := { s.til with checking := none } }
    .next (match s.judge bytes mode false with
      | some d => s1.rejectImage bytes d (s.rejectedState prev)
      | none => s1.admitImage bytes mode)

/-! ### Migration (R396 to R413) -/

/-- Form of MigrateRequest, MigrationFrom and MigrationTo (R412). -/
def migWord (eng dev block : Nat) : Nat := eng * 2 ^ 28 + dev % 4096 * 2 ^ 16 + block

/-- The place of a block. -/
def Graph.place (g : Graph) (b : Nat) : Option PlacedBlock := g.blocks.find? (fun x => x.block = b)

/-- Numbers of the second groups of the output edges: from the highest number in use on (R404). -/
def Graph.secondGroups (g : Graph) (bs : List Nat) : List (Nat × Nat) :=
  let i := g.img
  let top := (g.edges.filter (fun e => e.carrier = 2)).foldl (fun m e => max m (e.first + ((i.edges[e.edge]?).map GEdge.groups).getD 0)) 64
  (((i.edges.zipIdx).filter (fun e => (e.1.src.block?.map bs.contains).getD false)).foldl (fun (acc : List (Nat × Nat) × Nat) e =>
    (acc.1 ++ [(e.2, acc.2)], acc.2 + e.1.groups)) ([], top)).1

/-- The second groups that a move of blocks to a device needs: none within one device. -/
def Graph.seconds (g : Graph) (bs : List Nat) (dev : Nat) : List (Nat × Nat) :=
  if bs.any (fun b => ((g.place b).map (fun p => p.dev != dev)).getD false) then g.secondGroups bs else []

/-- Block, device and engine of every block, as pins; those of a cluster at another place. -/
def Graph.pinsWith (g : Graph) (bs : List Nat) (dev eng : Nat) : List (Nat × Nat × Nat) :=
  g.blocks.map (fun b => if bs.contains b.block then (b.block, dev, eng) else (b.block, b.dev, b.eng))

/-- The destination of a cluster on this device, or none on another; or the check it fails (R413). Of another device the Tiler checks engines,
memories, shares and reservations as it would place the blocks there (log entry 111), slots and group numbers. A device closed to placement
takes no block (R414). -/
def State.destination (s : State) (g : Graph) (v : PlaceEnv) (bs : List Nat) (dev eng : Nat) : Option Move ⊕ Diag :=
  let second := g.seconds bs dev
  if dev != v.env.own then
    match leastFault (g.img.faultsOn v dev (g.pinsWith bs dev eng) ++ g.routeFaults v bs second dev) with
    | some d => .inr d
    | none => .inl none
  else if v.closed then
    .inr { code := 0x0C, table := 1, entry := bs.headD 0, detail := 0, need := g.img.declared bs, have_ := 0, eng := eng }
  else
    let used := (s.til.clearing.filter (fun c => c.1 = eng)).flatMap (·.2.2)
    match g.prepare v (if (g.onEngine eng) = [] then none else some (s.engine (eng8 eng)).unified) eng bs used second with
    | .inl m => .inl (some m)
    | .inr d => .inr d

/-- What the graph in force sends over the fabric, with what a migration across devices adds (R404, R600). -/
def State.fabricRuns (s : State) : List RunSpec :=
  match s.til.graph with
  | none => []
  | some g =>
    let devs := g.blocks.map (·.dev)
    match s.til.mig with
    | some m => if m.fromDev = m.toDev then g.img.runSpecs g.firsts devs [] 0 [] else g.img.runSpecs g.firsts devs m.blocks m.toDev m.second
    | none => g.img.runSpecs g.firsts devs [] 0 []

/-- The Origin reserves what its graph sends over the fabric: anew when that or the tick rate has changed, after a repair, without a link that
has become Degraded or Long, and when it has assigned addresses (R572, R590, R600, R608). -/
def State.keepReservation (s : State) : State :=
  let l := s.fabricRuns
  if s.joined && s.isOrigin && (s.net.replan || l != s.net.reserved.2 || (l != [] && s.net.reserved.1 != s.obj O.tickRate)) then s.sendReservation l else s

/-- The second groups of a migration that this device sends or receives, with the POLICY of their edges (R383, R404). -/
def State.secondPolicies (s : State) (g : Graph) (m : Migration) : List (Nat × Nat) :=
  m.second.flatMap (fun p => match g.img.edges[p.1]? with
    | some e => if m.toDev = s.selfDev || s.touches g e then (List.range e.groups).map (fun i => (O.groupFaultPolicy (p.2 + i), e.policy)) else []
    | none => [])

/-- An accepted migration begins: its objects, slots and routes reserved first across devices, and the load where the destination is this
device (R398, R404, R412, R415). -/
def State.startMove (s : State) (g : Graph) (v : PlaceEnv) (b dev eng : Nat) (mv : Option Move) : State :=
  let bs := g.img.clusterOf v b
  let p := (g.place b).getD { block := b, dev := 0, eng := 0, start := 0, size := 0, code := 0 }
  let cross := p.dev != dev
  let small := bs.any (fun x => ((g.img.blocks[x]?).map (fun y => y.small != 0)).getD false)
  let second := g.seconds bs dev
  let m : Migration := {
    block := b, blocks := bs, fromDev := p.dev, fromEng := p.eng, toDev := dev, toEng := eng, warm := cross && small
    dst := (mv.map (·.dst)).getD [], regions := (mv.map (·.regions)).getD [], lines := (mv.map (·.lines)).getD []
    priv := (mv.map (·.priv)).getD g.priv, second := second, aTick := 0, switched := false, mover := false, snapshot := [] }
  let s1 := s.setObjs [(O.migrationBlock, b), (O.migrationFrom, migWord p.eng p.dev b), (O.migrationTo, migWord eng dev b),
    (O.migrationSwitchTick, 0), (O.migrationMethod, if m.warm then 1 else 0), (O.migrationCause, 0)]
  let s2 := ((s1.setMig 1 m).keepReservation).putPolicies (s.secondPolicies g m)
  match mv with
  | none => (bs.foldl (fun s x => s.sendOrder dev x (3 * 2 ^ 30 + eng * 2 ^ 12 + dev)) s2).portsNow g
  | some x => s2.loadMove g m x

/-- What a MigrateRequest word asks for. -/
def reqBlock (w : Nat) : Nat := w % 2 ^ 14
def reqDev (v : PlaceEnv) (w : Nat) : Nat := v.env.dev (w / 2 ^ 16 % 4096)
def reqEng (w : Nat) : Nat := w / 2 ^ 28 % 8

/-- The reason for which a request is out of range (R413). -/
def State.requestFault (s : State) (w : Nat) : Option Diag :=
  let v := s.placeEnv s.mode
  let b := reqBlock w
  let dev := reqDev v w
  match s.til.graph.bind (fun g => (g.place b).map (fun p => (g, p))) with
  | none => some (diag 3 1 b 0)
  | some (g, p) =>
    if !(v.env.present (w / 2 ^ 16 % 4096)) || (p.dev = dev && p.eng = reqEng w) || (!g.img.fabric && dev != v.env.own) then some (diag 0x0B 1 b 0)
    else match s.destination g v (g.img.clusterOf v b) dev (reqEng w) with
      | .inl _ => none
      | .inr d => some d

/-- Whether R396 permits a request; one for no placed block fails elsewhere. -/
def State.requestMode (s : State) (w : Nat) : Bool :=
  let v := s.placeEnv s.mode
  match s.til.graph.bind (fun g => (g.place (reqBlock w)).map (fun p => (g, p))) with
  | none => true
  | some (g, p) => g.mayMove v (g.img.clusterOf v (reqBlock w)) p.dev (reqDev v w)

/-- Whether a migration is under way, or a block that one has left here is still to be stored (R397). -/
def State.migrating (s : State) : Bool := s.til.mig.isSome || !s.til.landing.isEmpty

/-- Whether the sets that a request would bring together on its destination forbid it now (R332, R400; log entry 110). -/
def State.requestClash (s : State) (w : Nat) : Bool :=
  let v := s.placeEnv s.mode
  (s.til.graph.bind (fun g => g.place (reqBlock w))).any (fun p => p.dev = v.env.own && reqDev v w = v.env.own && s.claimsMeet p.eng (reqEng w))

/-- A write of MigrateRequest (R397, R413, R415). -/
def State.writeMigrate (s : State) (k : SessKey) (kport : Nat) (words : List (BitVec 32)) : State :=
  let w := wordsNat words
  let fault := s.requestFault w
  let x : Extra := { mode := s.requestMode w, range := fault.isNone, res := !s.migrating && !s.requestClash w && s.firmwareCan O.migrateRequest true }
  let code := s.checkWrite k O.migrateRequest words x
  let s1 := if s.serving && (code = rcRange || code = rcOk) then s.clearDiag else s
  let s2 := match s.serving && decide (code = rcRange), fault with
    | true, some d => s1.setDiag d
    | _, _ => s1
  s2.writeReq k kport O.migrateRequest words x (fun s =>
    match s.til.graph with
    | none => s
    | some g =>
      let v := s.placeEnv s.mode
      match s.destination g v (g.img.clusterOf v (reqBlock w)) (reqDev v w) (reqEng w) with
      | .inr _ => s
      | .inl mv =>
        let s1 := s.startMove g v (reqBlock w) (reqDev v w) (reqEng w) mv
        if s.mode = 4 || s.mode = 5 then
          { s1 with til := { s1.til with pins := (reqBlock w, reqDev v w, reqEng w) :: s1.til.pins.filter (fun p => p.1 != reqBlock w) } }
        else s1)

def execMigrateRequest (src : Src) (words : List (BitVec 32)) (s : State) : Out := .next (s.writeMigrate src.key src.link.val words)

/-- W of the moved blocks, and the largest XFADE. -/
def Graph.window (g : Graph) (bs : List Nat) : Nat := (bs.map (fun b => ((g.img.blocks[b]?).map (·.w)).getD 0)).foldl max 0
def Graph.xfade (g : Graph) (bs : List Nat) : Nat := (bs.map (fun b => ((g.img.blocks[b]?).map (·.xfade)).getD 0)).foldl max 0

/-- MigrationSwitchTick while the switch is ahead: a + W, or 0 for a warm start. -/
def Graph.switchTick (g : Graph) (m : Migration) (a : Nat) : Nat := if m.warm then 0 else wrapAdd 48 a (g.window m.blocks)

/-- The second groups that this device's destination engine writes, and those of them that loop back to receivers here (R139, R382, R404). -/
def Graph.secondIo (g : Graph) (m : Migration) (io : OrbitIo) : OrbitIo :=
  let here := m.second.filter (fun p => (((g.img.edges[p.1]?).bind (fun e => e.dst.block?)).bind g.place).any (fun b => b.size != 0))
  { io with owners := io.owners ++ (g.secondList m).map (fun k => (k, m.toEng)), loop := io.loop ++ g.secondList { m with second := here } }

/-- The load is done: the code stands in the inert range, and from the next boundary a on the destination runs in parallel, its outputs
unperformed within one device, and in the second groups across devices (R398, R404). -/
def State.loadDone (s : State) (g : Graph) (m : Migration) : State :=
  let a := wrapAdd 48 s.tick 1
  let all := g.onEngine m.toEng ++ m.dst
  let run := s.started
  let cross := m.fromDev != m.toDev
  let s1 := if m.dst = [] then s else
    (((m.dst.foldl (fun s b => s.storeCode (eng8 b.eng) b.start ((g.moved m).bundles b.block)) s).setRange m.toEng 0
      (rangeOf (if cross then 0 else 1) m.dst)).setLength m.toEng (g.img.programLength all (programEnd all))).modEngine
      (eng8 m.toEng) (fun x => { x with running := x.running || run })
  let s2 : State := if cross && m.dst != [] then { s1 with io := g.secondIo m s1.io } else s1
  ((s2.setMig 2 { m with aTick := a }).setObj O.migrationSwitchTick (g.switchTick m a)).portsNow g

/-- Whether the loader may write the code of a migration: the engine held no block, or the range is inert in this tick (R392). -/
def State.mayStore (s : State) (g : Graph) (m : Migration) : Bool := m.dst = [] || g.onEngine m.toEng = [] || s.inertNow m.toEng 0 m.dst

def execMigrationLoadDone (s : State) : Out :=
  .next (match s.til.mig, s.til.graph with
    | some m, some g => if s.obj O.migrationState = 1 && s.mayStore g m then s.loadDone g m else s
    | _, _ => s)

/-- The count of W restarts: parallel running begins anew at tick `a` (R410). -/
def State.restartMove (s : State) (g : Graph) (m : Migration) (a : Nat) : State :=
  (s.setMig 2 { m with aTick := a }).setObj O.migrationSwitchTick (g.switchTick m a)

/-- The source range of a migration becomes inert (R389, R398): its positions issue one bundle each. -/
def State.quietSource (s : State) (g : Graph) (m : Migration) : State :=
  let old := g.blocks.filter (fun b => m.blocks.contains b.block && b.size != 0)
  let stay := (g.onEngine m.fromEng).filter (fun b => !m.blocks.contains b.block)
  if old = [] then s
  else ((s.setRange m.fromEng 0 (rangeOf 2 old)).setLength m.fromEng (g.img.programLength stay (programEnd (g.onEngine m.fromEng)))).portObjects
    g m.dst m.blocks (s.moverOn g m)

/-- The switch at B(s): the tick ends; within one device the state mover is to copy the small state in the window, the destination range
becomes active and the source range inert at B(s) (R398), across devices the source range at B(s+1) (R405). A destination that is faulted in
the last tick of parallel running restarts the count (R410). -/
def State.switchMove (s : State) (g : Graph) (m : Migration) : State :=
  let s0 := s.finishTick
  let b := wrapAdd 48 s.tick 1
  if m.toDev = s.selfDev && s0.engineFaulted m.toEng then s0.restartMove g m b
  else
    let s1 := (s0.setMig 2 { m with switched := true, mover := m.fromDev = m.toDev }).setObj O.migrationSwitchTick b
    if m.fromDev = m.toDev then (s1.setRange m.toEng 0 0).quietSource g m else s1.switchParams g m

def execMigrationSwitch (s : State) : Out :=
  .next (match s.til.mig, s.til.graph with
    | some m, some g =>
      if s.obj O.migrationState = 2 && !m.warm && !m.switched && tickLe (m.aTick + g.window m.blocks) (s.tick + 1) then s.switchMove g m else s
    | _, _ => s)

/-- Where a snapshot buffer of `n` bytes stands in Orbit memory, free of what is placed there (R406). -/
def State.snapshotAt (s : State) (g : Graph) (n : Nat) : Option Nat := fitIn (g.orbFill (s.placeEnv s.mode)).orb n 64 ioOffset

/-- A snapshot on its way over the bulk channel, in messages of at most 2,048 bytes whose TYPE the spec does not give (R561, R684; log entry
87). -/
def State.sendSnapshot (s : State) (dev : Nat) : Nat → List Byte → State
  | 0, _ => s
  | n + 1, l => if l = [] then s else State.sendSnapshot (s.sendRouted true (s.mkMsg dev 0 0x83 (l.take 2048))) dev n (l.drop 2048)

/-- The snapshot of a warm start: in its buffer, and on its way to the destination (R406). Without room for the buffer it is lost, and the
migration abandoned (R410; log entry 87). -/
def State.takeSnapshot (s : State) (g : Graph) (m : Migration) : State :=
  let r := s.smallState g m
  match r.2.snapshotAt g r.1.length with
  | none => r.2.abandon 7
  | some a =>
    let t := (r.2.storeBytes (orbitBase + a) r.1).setMig 3 { m with mover := false, snapshot := r.1 }
    if m.fromDev = s.selfDev then t.sendSnapshot m.toDev (r.1.length / 2048 + 1) r.1 else t

/-- A warm start: the state mover is to copy the small state into a snapshot at B(k) with k at least a + W - 1 (R406). -/
def execSnapshotCopy (s : State) : Out :=
  .next (match s.til.mig, s.til.graph with
    | some m, some g =>
      if s.obj O.migrationState = 2 && m.warm && tickLe (m.aTick + g.window m.blocks) (s.tick + 2) then s.setMig 3 { m with mover := true } else s
    | _, _ => s)

/-- The state mover in cycles 96 to 223 of a boundary window: the copy of a switch, or a snapshot (R398, R402, R406). -/
def State.moverStep (s : State) : State :=
  match s.til.mig, s.til.graph with
  | some m, some g =>
    if !m.mover then s
    else if m.fromDev = m.toDev then
      let t := s.copySmall g m
      { t with til := { t.til with mig := some { m with mover := false } } }
    else s.takeSnapshot g m
  | _, _ => s

/-- XFADE of the block that produces an edge (R407). -/
def GImage.xfadeOf (g : GImage) (e : GEdge) : Nat := ((g.blocks[e.producer]?).map (·.xfade)).getD 0

/-- The crossfades of the output edges that this device receives, groups of the source first (R404, R407): over XFADE of the producing block
in a warm start, at once in an exact one. -/
def Graph.crossfades (g : Graph) (m : Migration) (own wait : Nat) : List Xfade :=
  m.second.flatMap (fun p =>
    match g.img.edges[p.1]?, g.edges.find? (fun e => e.edge = p.1) with
    | some e, some x =>
      let total := if m.warm then g.img.xfadeOf e else 0
      if ((e.dst.block?.bind g.place).map (fun b => b.dev == own)).getD false then
        (List.range e.groups).map (fun i => { wait := wait, first := x.first + i, second := p.2 + i, j := 0, total := total })
      else []
    | _, _ => [])

/-- Crossfades added, before those in force: of a block that has moved twice, receivers of its first groups take what its second groups
deliver (R407). -/
def State.addXfades (s : State) (l : List Xfade) : State :=
  { s with net := { s.net with xfades := l ++ s.net.xfades.filter (fun x => l.all (fun y => y.first != x.first)) } }

/-- Bytes of the small state of the moved blocks, as their regions give them. -/
def GImage.smallSize (g : GImage) (bs : List Nat) : Nat := sumNat ((g.smallRegions bs).map (fun k => ((g.regions[k]?).map (·.bytes)).getD 0))

/-- A complete snapshot is written into the destination's small state at B(m); the receivers crossfade (R406, R407). One that does not
arrive complete is lost in transit, and the migration abandoned (R410). -/
def State.snapshotArrives (s : State) (g : Graph) (m : Migration) (data : List Byte) : State :=
  if data.length ≠ g.img.smallSize m.blocks then s.abandon 7
  else
    let s0 := s.finishTick
    let s1 := if m.dst = [] then s0 else s0.writeSmall m (g.img.smallRegions m.blocks) data
    ((((s1.addXfades (g.crossfades m s.selfDev 2)).setMig 4 { m with switched := true, mover := false }).setObj O.migrationSwitchTick
      (wrapAdd 48 s.tick 1))).switchParams g m

def execSnapshotArrival (data : List Byte) (s : State) : Out :=
  .next (match s.til.mig, s.til.graph with
    | some m, some g => if m.warm && (s.obj O.migrationState = 2 || s.obj O.migrationState = 3) then s.snapshotArrives g m data else s
    | _, _ => s)

/-! ### Orders and reports (R387) -/

/-- A member places the block of an order on its own device, and keeps what it finds in its diagnostic objects (R379, R387). A block of its
graph in force that stands elsewhere begins to move here, with its cluster (R404). An image under check is placed with the pins of the orders.
With neither there is nothing to place, and the block is named as absent (log entry 87). -/
def State.placeOrder (s : State) (block pin : Nat) : State :=
  match s.til.checking, s.til.graph with
  | some (bytes, _, mode), _ =>
    (match leastFault (s.planOf bytes mode).faults with
     | some d => s.setDiag d
     | none => s.clearDiag)
  | none, some g =>
    let v := s.placeEnv s.mode
    let eng := if pin.testBit 30 then pin / 2 ^ 12 % 8 else 0
    (match g.place block with
     | none => s.setDiag (diag 3 1 block 0)
     | some p =>
       if p.dev = v.env.own || s.til.mig.any (fun m => m.blocks.contains block) then s.clearDiag
       else if s.migrating then s.setDiag (diag 0x0C 1 block 0)
       else match s.destination g v (g.img.clusterOf v block) v.env.own eng with
         | .inr d => s.setDiag d
         | .inl mv => s.clearDiag.startMove g v block v.env.own eng mv)
  | none, none => s.setDiag (diag 3 1 block 0)

/-- A member receives its device assignment, and reports its own placement result to the Origin (R387). -/
def execTilerOrder (block : BitVec 14) (pin : BitVec 32) (limits : List (BitVec 32)) (s : State) : Out :=
  let s := ((s.takeMsg 0x18).modNet (fun n =>
    { n with orders := n.orders.filter (fun p => p.1 != block.toNat) ++ [(block.toNat, pin.toNat, limits.map (·.toNat))] })).placeOrder block.toNat pin.toNat
  let bytes := leBytes 2 block.toNat ++ leBytes 1 (if s.obj O.diagCode = 0 then 0 else 1) ++ leBytes 1 (s.obj O.diagCode) ++
    leBytes 1 (s.obj O.diagTable) ++ leBytes 4 (s.obj O.diagEntry) ++ leBytes 4 (s.obj O.diagDetail) ++ leBytes 4 (s.obj O.diagNeed) ++
    leBytes 4 (s.obj O.diagHave) ++ leBytes 2 (s.obj O.diagDevice) ++ leBytes 1 (s.obj O.diagEngine)
  .next (s.sendRouted false (s.mkMsg (s.obj O.originAddress) 1 0x19 bytes))

/-- A member rejects the block of a migration that is not yet switched: the migration ends. R412 has no cause for it (log entry 87). -/
def State.orderRefused (s : State) (block : Nat) : State :=
  if s.til.mig.any (fun m => m.blocks.contains block && m.toDev != s.selfDev && !m.switched) then s.abandon 0 else s

/-- The Origin receives a member's placement result; a rejection stands in its diagnostic objects (R379, R387). -/
def execTilerReport (block : BitVec 14) (result diagCode diagTable : BitVec 8) (entry detail need have_ : BitVec 32) (device : BitVec 16)
    (engine : BitVec 8) (s : State) : Out :=
  let s1 := (s.takeMsg 0x19).modNet (fun n => { n with reports := n.reports.filter (fun p => p.1 != block.toNat) ++
    [(block.toNat, result.toNat, [diagCode.toNat, diagTable.toNat, entry.toNat, detail.toNat, need.toNat, have_.toNat, device.toNat, engine.toNat])] })
  .next (if result = 0 then s1 else (s1.orderRefused block.toNat).setObjs [(O.diagCode, diagCode.toNat), (O.diagTable, diagTable.toNat), (O.diagEntry, entry.toNat),
    (O.diagDetail, detail.toNat), (O.diagNeed, need.toNat), (O.diagHave, have_.toNat), (O.diagDevice, device.toNat), (O.diagEngine, engine.toNat)])

/-! ### Re-optimisation and draining (R386, R414) -/

/-- The load of an engine of a graph (R386), times 64 × BundleBudget: total declared length, or share. -/
def Graph.loadOf (g : Graph) (budget share e : Nat) : Nat :=
  max (g.img.declared ((g.onEngine e).map (·.block)) * 64) (share * budget)

/-- The largest load of the engines of a graph. -/
def Graph.peak (g : Graph) (v : PlaceEnv) : Nat :=
  let sh := shares v.orb ((List.range 8).map (fun k => (g.img.engineCharges g.lines (g.onEngine k), 0)))
  (List.range 8).foldl (fun m e => max m (g.loadOf v.env.budget (sh.1.getD e 0) e)) 0

/-- The largest load of the engines of another device, as the Tiler would place the blocks there (R386; log entry 111). -/
def Graph.peakOn (g : Graph) (v : PlaceEnv) (d : Nat) : Nat :=
  let p := g.img.plan { v with here := d, closed := false, fab := none, pins := g.pinsWith [] 0 0 }
  (p.engs.zip p.share).foldl (fun m x => max m (max (x.1.len * 64) (x.2 * v.env.budget))) 0

/-- The largest load on the device; across the fabric for the Origin in Fabric member mode (R386). -/
def Graph.loadPeak (g : Graph) (v : PlaceEnv) : Nat :=
  if v.env.mode = 5 && v.fab.isSome && g.img.fabric then
    ((v.env.devices.filter (fun d => d != v.env.own)).map (g.peakOn v)).foldl max (g.peak v)
  else g.peak v

/-- A migration of a cluster as it would stand when done; without a place on this device it goes to another. -/
def Graph.trial (g : Graph) (bs : List Nat) (src dst : Nat × Nat) (mv : Option Move) : Graph :=
  g.moved { block := bs.headD 0, blocks := bs, fromDev := src.1, fromEng := src.2, toDev := dst.1, toEng := dst.2, warm := false
            dst := (mv.map (·.dst)).getD [], regions := (mv.map (·.regions)).getD [], lines := (mv.map (·.lines)).getD []
            priv := (mv.map (·.priv)).getD g.priv, second := [], aTick := 0, switched := false, mover := false, snapshot := [] }

/-- The devices whose blocks the Tiler may move to, and from: this one, on the Origin in Fabric member mode all of the fabric, by address
behind the own one (R385, R386). -/
def Graph.moveDevs (g : Graph) (v : PlaceEnv) : List Nat :=
  v.env.own :: (if v.env.mode = 5 && v.fab.isSome && g.img.fabric then
    sortBy (fun a b => decide (a ≤ b)) (v.env.devices.filter (fun d => d != v.env.own)) else [])

/-- A migration that the Tiler may choose: block, device and engine, place on this device, largest load after it. -/
abbrev Candidate := Nat × (Nat × Nat) × Option Move × Nat

/-- The migrations that R396 and the pins permit (R386): within this device, and across devices on the Origin. One within another device is
that device's own. -/
def State.candidates (s : State) (g : Graph) (v : PlaceEnv) : List Candidate :=
  let devs := g.moveDevs v
  let heads := (((g.blocks.filter (fun b => devs.contains b.dev)).map (fun b => (g.img.clusterOf v b.block).foldl min b.block)).eraseDups)
  heads.flatMap (fun b =>
    let bs := g.img.clusterOf v b
    let src := ((g.place b).map (fun p => (p.dev, p.eng))).getD (0, 0)
    if bs.any (fun x => ((g.img.blocks[x]?).bind (v.pinEng x)).isSome) then []
    else (devs.filter (fun d => g.mayMove v bs src.1 d && (d = src.1 || bs.all (fun x => ((g.img.blocks[x]?).bind (v.pinDev x)).isNone)))).flatMap (fun d =>
      ((List.range 8).filter (fun f => (d, f) != src && (d != src.1 || (d = v.env.own && !s.claimsMeet src.2 f)))).filterMap (fun f =>
        match s.destination g v bs d f with
        | .inl mv => some (b, (d, f), mv, (g.trial bs src (d, f) mv).loadPeak v)
        | .inr _ => none)))

/-- The single migration with the largest gain of at least 0.05, the lowest block on equal gain, begins (R386); in shed stage 2 or above
the evaluation is deferred (R21). -/
def State.reoptimise (s : State) : State :=
  match s.til.graph with
  | none => s
  | some g =>
    if (s.mode != 4 && s.mode != 5) || s.obj O.reoptimise != 1 || s.migrating || s.obj O.graphState != 3 then s
    else if 2 ≤ s.obj O.hullShedStage then { s with til := { s.til with reopt := true } }
    else
      let v := s.placeEnv s.mode
      let peak := g.loadPeak v
      match (s.candidates g v).foldl (fun (o : Option Candidate) c =>
        if 64 * v.env.budget ≤ 20 * (peak - c.2.2.2) then
          (match o with
           | none => some c
           | some p => if c.2.2.2 < p.2.2.2 then some c else some p)
        else o) none with
      | some c => s.startMove g v c.1 c.2.1.1 c.2.1.2 c.2.2.1
      | none => s

/-- What shed stage 2 deferred is done once the stage is below 2 (R21). -/
def State.reoptDue (s : State) : State :=
  if s.til.reopt && decide (s.obj O.hullShedStage < 2) then ({ s with til := { s.til with reopt := false } } : State).reoptimise else s

/-- The place on another device to which a cluster may move (R414): the lowest address, and on it the lowest engine, that R396 and the checks
of a request permit; none for a graph that may not leave its device (R363). -/
def State.drainTo (s : State) (g : Graph) (v : PlaceEnv) (b : Nat) : Option (Nat × Nat) :=
  let bs := g.img.clusterOf v b
  if g.img.fabric = false then none
  else (sortBy (fun a b => decide (a ≤ b)) (v.env.devices.filter (fun d => d != v.env.own && g.mayMove v bs v.env.own d))).findSome? (fun d =>
    ((List.range 8).find? (fun e => (s.destination g v bs d e).isLeft)).map (fun e => (d, e)))

/-- The next block of a drain that finds a place begins to move, in Fabric member mode; those before it stay, and are counted (R385, R414). -/
def State.drainNext (s : State) : State :=
  match s.til.graph with
  | none => s
  | some g =>
    if s.til.toDrain.isEmpty || s.migrating || s.mode != 5 then s
    else
      let v := s.placeEnv s.mode
      let l := s.til.toDrain.dropWhile (fun b => (s.drainTo g v b).isNone)
      let s1 : State := { s with til := { s.til with toDrain := l.drop 1 } }
      let s2 := if l.length < s.til.toDrain.length && s.obj O.diagCode = 0 then s1.setObj O.diagHave (s.staying g l) else s1
      match l.head?.bind (fun b => (s.drainTo g v b).map (fun d => (b, d))) with
      | some (b, d) => s2.startMove g v b d.1 d.2 none
      | none => s2

/-- A write of DrainDevice: accepted in Fabric member mode only (R414). -/
def State.writeDrain (s : State) (k : SessKey) (kport : Nat) (words : List (BitVec 32)) : State :=
  s.writeReq k kport O.drainDevice words { mode := s.mode = 5 } (fun s =>
    match s.til.graph with
    | none => ({ s with til := { s.til with closed := true } } : State).clearDiag
    | some g =>
      let v := s.placeEnv s.mode
      let mine := (g.blocks.filter (fun b => b.dev = v.env.own && b.size != 0)).map (·.block)
      let heads := (mine.map (fun b => (g.img.clusterOf v b).foldl min b)).eraseDups
      let go := heads.filter (fun b => (s.drainTo g v b).isSome)
      let s1 : State := { s with til := { s.til with closed := true, toDrain := go } }
      (s1.clearDiag.setObj O.diagHave (s.staying g go)).drainNext)

def execDrainDevice (src : Src) (words : List (BitVec 32)) (s : State) : Out := .next (s.writeDrain src.key src.link.val words)

/-- A completed migration makes way for the next one. -/
def State.releaseNext (s : State) (g : Graph) (m : Migration) : State := (s.release g m).drainNext.reoptimise

/-- The crossfade has ended: the receivers deliver the destination alone, the source is released (R407). -/
def execCrossfadeEnd (s : State) : Out :=
  .next (match s.til.mig, s.til.graph with
    | some m, some g =>
      if m.warm && (s.obj O.migrationState = 3 || s.obj O.migrationState = 4) &&
          s.net.xfades.all (fun x => m.second.all (fun p => p.2 != x.second) || decide (x.total ≤ x.j)) then s.releaseNext g m else s
    | _, _ => s)

/-! ### Start and unloading (R357, R393 to R395) -/

/-- All blocks of a loaded graph start at the next boundary, with the ramp of R35 (R393). -/
def State.startGraph (s : State) (g : Graph) : State :=
  let more := if s.obj O.migrationState = 1 then [] else (s.til.mig.map Migration.dst).getD []
  let s1 := s.allEngines (fun e x => if (g.onEngine e.val) = [] ∧ (more.all (fun b => b.eng != e.val)) = true then x else { x with running := true })
  let s2 : State := { s1 with io := g.io s1.io }
  let s3 := (s2.setObjs [(O.graphState, 3), (O.graphStartTick, wrapAdd 48 s.tick 1)]).event 0x0600 g.id
  ((s3.unmute .graphReplace).unmute .modeChange).reoptimise

def execGraphStart (s : State) : Out :=
  .next (match s.til.graph with
    | some g => if s.obj O.graphState = 2 && decide (3 ≤ s.mode) && decide (s.mode ≤ 5) then s.startGraph g else s
    | none => s)

/-- A write of GraphUnload: PendingStartMode is cleared; a loaded graph goes at the next boundary (R357, R860). -/
def State.writeUnload (s : State) (k : SessKey) (kport : Nat) (words : List (BitVec 32)) : State :=
  s.writeReq k kport O.graphUnload words {} (fun s =>
    let s1 := s.setObj O.pendingStartMode 0
    if s.til.graph.isNone then s1
    else
      let s2 := (if s1.migrating then s1.abandon 6 else s1).setObj O.graphState 5
      { s2 with til := { s2.til with unload := true } })

def execGraphUnload (src : Src) (words : List (BitVec 32)) (s : State) : Out := .next (s.writeUnload src.key src.link.val words)

/-! ### Devices lost (R410, R609) -/

/-- The destination's regions, lines and parameters as a new placement has them (R229, R373): the state is zero. -/
def State.freshState (s : State) (g : Graph) (m : Migration) : State :=
  let s1 := m.regions.foldl (fun s r => s.loadRegion g.img r) s
  let s2 := m.lines.foldl (fun s p => if ((g.img.lines[p.line]?).map (fun x => x.state != 1)).getD false then
    (s.loadLine g.img p).setDesc (eng8 p.eng) p.desc (({ s.desc (eng8 p.eng) p.desc with pendSpan := none } : Desc).movedTo p.base
      (s.desc (eng8 p.eng) p.desc).writer p.stage) else s) s1
  (g.img.params.filter (fun p => m.blocks.contains (g.img.paramBlock p))).foldl (fun s p => s.loadParam g.img m.regions m.lines p) s2

/-- The source device is lost: the block is placed on the destination as a new one, with zeroed state (R410). On this device its code is
stored where its range is inert, if the load was not yet done; another device has the order for it. The placement has changed (R386). -/
def State.sourceLost (s : State) (g : Graph) (m : Migration) : State :=
  let land := if s.obj O.migrationState = 1 then m.dst else []
  let s1 := s.addXfades (g.crossfades { m with warm := false } s.selfDev 0)
  let s2 := (if m.dst = [] then s1 else s1.freshState g m).settle g m
  let s3 : State := { s2 with til := { s2.til with landing := land } }
  let s4 := if m.toDev = s.selfDev then s3.landBlocks
    else m.blocks.foldl (fun s b => s.sendOrder m.toDev b (3 * 2 ^ 30 + m.toEng * 2 ^ 12 + m.toDev)) s3
  let s5 := (s4.setObjs [(O.migrationState, 6), (O.migrationCause, 5)]).count O.migrationsAbandoned 32 1
  (m.blocks.foldl (fun s b => s.event 0x0604 b) (s5.event 0x0603 (m.block % 65536 + 5 * 65536))).reoptimise

/-- The Origin declares a device lost (R609), and its Tiler handles a migration to or from it. -/
def execDeviceLost (addr : BitVec 12) (s : State) : Out :=
  let dev := addr.toNat
  .next (if !(s.joined && s.isOrigin) || dev = s.ownAddr then s
    else
      let s1 := s.event 0x0906 dev
      match s1.til.mig, s1.til.graph with
      | some m, some g => if m.fromDev = m.toDev then s1 else if m.toDev = dev then s1.abandon 4 else if m.fromDev = dev then s1.sourceLost g m else s1
      | _, _ => s1)

/-! ### Reload (R705) -/

/-- The graph with what a migration under way has placed here beside its own blocks, and its second groups. -/
def Graph.withMove (g : Graph) (mig : Option Migration) : Graph :=
  match mig with
  | some m => { g with blocks := g.blocks ++ m.dst, regions := g.regions ++ m.regions, lines := g.lines ++ m.lines }
  | none => g

/-- The bundles of a block as they stand on an engine: those of the destination of a migration under way are relocated to its places. -/
def State.codeOn (s : State) (g : Graph) (b : PlacedBlock) : List Nat :=
  match s.til.mig with
  | some m => if m.dst.contains b then (if s.obj O.migrationState = 1 then [] else (g.moved m).bundles b.block) else g.bundles b.block
  | none => g.bundles b.block

/-- The page as the retained image gives it: code with its relocations, tables and constant regions with their parameters' defaults; that
of a destination too, while a migration is under way. None where a page of the image that it needs is marked (R708). -/
def State.rebuilt (s : State) (g0 : Graph) (page : Nat) : Option (List Byte) :=
  let g := g0.withMove s.til.mig
  let i := g.img
  let meets := fun (a n : Nat) => decide (a < page + 4096) && decide (page < a + n)
  let lost := fun (o n : Nat) => s.imageMarked g0 (i.bytes.length - i.data.length + o) n
  match progOf page with
  | some e =>
    let on := (g.onEngine e.val).filter (fun b => meets (progBase e + 16 * b.start) (16 * b.size))
    if on.any (fun b => ((i.blocks[b.block]?).map (fun x => lost x.imageOff x.imageBytes)).getD false) then none
    else
      let t := on.foldl (fun s b => s.storeCode e b.start (s.codeOn g0 b)) (s.zeroRange page 4096)
      some (memBytes t.mem page 4096)
  | none =>
    let rs := g.regions.filter (fun r => ((i.regions[r.region]?).map (fun x => x.state == 1)).getD false && (s.regionAddrs r).any (fun a => meets a r.bytes))
    let ls := g.lines.filter (fun l => ((i.lines[l.line]?).map (fun x => decide (x.state = 1) && meets l.base x.bytes)).getD false)
    let cut := rs.any (fun r => ((i.regions[r.region]?).map (fun x => lost x.initOff x.initBytes)).getD false) ||
      ls.any (fun l => ((i.lines[l.line]?).map (fun x => lost x.initOff (4 * x.len))).getD false)
    if (rs.isEmpty && ls.isEmpty) || cut then none
    else
      let t1 := rs.foldl (fun s r => s.loadRegion i r) (s.zeroRange page 4096)
      let t2 := ls.foldl (fun s l => s.loadLine i l) t1
      let t3 := (i.params.filter (fun p => p.bind = 1 && rs.any (fun r => r.region = p.target))).foldl (fun s p => s.loadParam i g.regions g.lines p) t2
      some (memBytes t3.mem page 4096)

/-- The loader reloads a static page that waits for its origin. -/
def execPageReload (a : BitVec 40) (s : State) : Out :=
  let page := a.toNat / 4096 * 4096
  .next (match s.til.graph with
    | none => s
    | some g =>
      if s.integ.poison.contains page then
        match s.rebuilt g page with
        | some l => (s.storeBytes page l).reloaded page
        | none => s
      else s)

/-! ### What a boundary does for the Tiler -/

/-- The devices at the other ends of the routes that a migration across devices has reserved: its source, and those of its edges (R404). -/
def Graph.peers (g : Graph) (m : Migration) : List Nat :=
  (m.fromDev :: (g.img.edgesOf m.blocks).flatMap (fun e => [e.1.src, e.1.dst].filterMap (fun p =>
    p.block?.bind (fun b => if m.blocks.contains b then none else (g.place b).map (·.dev))))).filter (fun d => d != m.toDev)

/-- Whether a route between two devices is lost, or leads over more than H hops, as far as this device knows: by its route table as an end of
it, by the topology as the Origin (R410). -/
def State.hopsLost (s : State) (v : PlaceEnv) (a b : Nat) : Bool :=
  let other := if a = s.selfDev then b else a
  (decide (a = s.selfDev ∨ b = s.selfDev) && (s.route other).isNone) || decide (v.budgetH < v.between a b) ||
  (s.isOrigin && v.hops.any (fun h => h.1 = a) && !(aGet [] v.hops a).any (fun p => p.1 = b))

/-- Whether a route that a migration has reserved is lost, or leads over more than H hops (R410). -/
def State.routeLost (s : State) (g : Graph) (m : Migration) : Bool :=
  let v := s.placeEnv s.mode
  s.joined && (g.peers m).any (fun d => s.hopsLost v d m.toDev)

/-- A switched migration at boundary `n` (R398, R405, R407): within one device the source is released at B(s+1). Across devices an exact
one makes the source range inert at B(s+1), and from the latch of B(s+2) the receivers use the groups of the destination; a warm one makes
it inert at the boundary after the last crossfaded tick. -/
def State.switchedBoundary (s : State) (n : Nat) (g : Graph) (m : Migration) : State :=
  let k := s.obj O.migrationSwitchTick
  if m.warm then (if n = wrapAdd 48 k (g.xfade m.blocks) ∧ m.fromDev = s.selfDev then s.quietSource g m else s)
  else if m.fromDev = m.toDev then (if tickLe (k + 1) n then s.releaseNext g m else s)
  else if n = wrapAdd 48 k 1 then (if m.fromDev = s.selfDev then s.quietSource g m else s)
  else if tickLe (k + 2) n then (s.addXfades (g.crossfades m s.selfDev 0)).releaseNext g m
  else s

/-- A migration at boundary `n`: an unreachable peer ends it before the switch, the count of W restarts while the destination is faulted on
this device, and what follows the switch (R398, R405, R410). -/
def State.migBoundary (s : State) (n : Nat) (g : Graph) (m : Migration) : State :=
  if m.fromDev != m.toDev && !m.switched && s.routeLost g m then s.abandon 3
  else if s.obj O.migrationState = 2 && !m.switched && m.toDev = s.selfDev && s.engineFaulted m.toEng && tickLe (m.aTick + 1) n then
    s.restartMove g m n
  else if m.switched then s.switchedBoundary n g m
  else s

/-- GraphState 5 ends when the outputs of an unloaded graph have faded, at once where none ran (R357); an image under check shows again. -/
def State.unloaded (s : State) : State :=
  if s.obj O.graphState = 5 && s.til.graph.isNone && (s.allSilent || !(decide (MuteReason.graphReplace ∈ s.mutes))) then
    (s.setObj O.graphState (if s.til.checking.isSome then 1 else 0)).unmute .graphReplace
  else s

/-- Before the swap of boundary `n`: unloading, ranges to clear, the migration under way, the next block of a drain, members that have joined,
the reservation. -/
def State.tilerBoundary (s : State) (n : Nat) : State :=
  let s1 := ((if s.til.unload then s.dropGraph else s).unloaded).clearBlocks.landBlocks
  let s2 := match s1.til.mig, s1.til.graph with
    | some m, some g => s1.migBoundary n g m
    | _, _ => s1
  let s3 := if s2.rateSeq.isNone then s2.drainNext else s2
  let k := s3.obj O.memberCount
  let s4 : State := { s3 with til := { s3.til with members := k } }
  (if s3.til.members < k then s4.reoptimise else s4).keepReservation

end Sys2Proof.Machine
end

