-- ==== Sys2Proof/Machine/ClockOps.lean ====
section
/-! DEFINITION. Budgets, the tick source and the PLLs (R50 to R62, R789 to R809). -/
namespace Sys2Proof.Machine
open Sys2Proof

/-! ### Budgets (R60 to R62, R77, R795) -/

/-- The part of the nominal ENG, in 1/400, that a spread code may take away. -/
def spreadLoss (code : Nat) : Nat := ([0, 2, 4, 8, 1, 2, 4] : List Nat).getD code 0

/-- CyclesPerTick: floor(ENG_min / fs) (R60). -/
def cyclesFor (khz spread rate : Nat) : Nat := khz * 1000 * (400 - spreadLoss spread) / (400 * rate)

/-- The bundle budget (R62). -/
def budgetFor (cycles : Nat) : Nat := min (cycles - 256) 32768

/-- The hop budget H (R77). -/
def hopBudgetFor (rate : Nat) : Nat := 2304000 / rate

/-- The longest declared length of a placed program. -/
def State.longestProgram (s : State) : Nat := engines.foldl (fun m e => max m (max (s.engine e).progLen ((s.engine e).pendLen.getD 0))) 0

/-- What other cycles per tick change: the port cycles of a placement in force and the DMA floor (R103, R254). The shares stay: the Tiler
writes them with a placement only (R240). -/
def State.replace (s : State) : State :=
  let s1 := match s.til.graph with
    | some g => s.portsNow g
    | none => s
  s1.reserve (s1.soon O.portReservation) (s1.soon O.farReservation)

/-- CyclesPerTick and BundleBudget for the ENG, spread and rate in force. -/
def State.rebudget (s : State) : State :=
  let c := cyclesFor (s.obj O.engineFrequency) (s.obj O.engineSpread) (s.obj O.tickRate)
  (s.setObjs [(O.cyclesPerTick, c), (O.bundleBudget, budgetFor c), (O.hopBudget, hopBudgetFor (s.obj O.tickRate))]).replace

/-! ### The tick source (R52 to R57) -/

/-- TickSourceOffset as a number. -/
def State.mediaOffset (s : State) : Int := (BitVec.ofNat 32 (s.obj O.tickSourceOffset)).toInt

/-- The offset of a source against REF: 0 for the crystal, else a free value within the range of the media PLL, which is ±200 ppm for
the fabric (R592, R801; log entry 2). The Origin, which a device alone is of itself (R579), treats source 6 as the crystal. -/
def State.sourceOffset (s : State) (v : Nat) : Int × State :=
  let crystal := v = 0 || (v = 6 && s.isOrigin)
  let range := if v = 6 then 200000 else 1000000
  if crystal then (0, s)
  else (((Config.freeNat s.freeCtr).toNat % (2 * range + 1) : Nat) - (range : Int), { s with freeCtr := s.freeCtr + 1 })

/-- A source is selected: the word moves toward it, the status reads acquiring (R56). -/
def State.selectSource (s : State) (v status : Nat) : State :=
  let r := s.sourceOffset v
  let s1 : State := { r.2 with mediaTarget := r.1, clk := { r.2.clk with source := v, prevStatus := 1 } }
  (s1.setObjs [(O.tickSourceStatus, status), (O.mediaState, 1)]).sapRecheck

/-- The media PLL holds its word (R54). -/
def State.holdover (s : State) : State :=
  ({ s with mediaTarget := s.mediaOffset } : State).setObjs [(O.tickSourceStatus, 2), (O.mediaState, 3)]

/-- Loss of the selected source: fail-over where the fallback is valid, else holdover and the tick-source cause (R54, R55). -/
def State.sourceLost0 (s : State) (valid : Bool) : State :=
  let s1 := s.event 0x0200 (s.obj O.tickSource)
  let f := s.obj O.tickSourceFallback
  if f != 0xFF && valid && f != s.clk.source then (s1.selectSource f 3).event 0x0201 (s.obj O.tickSource)
  else s1.holdover.raiseCause 0

/-- During a rate sequence the media PLL holds its word, and the status stays "acquiring" (R84, R86). -/
def State.holdWord (s : State) : State :=
  let s1 : State := { s with mediaTarget := s.mediaOffset }
  if s.clk.mediaGated then s1 else s1.setObj O.mediaState 3

/-- Whether the selected source can be lost: the crystal only with REF, the fabric only after 64 ticks with no parent and no election
in progress (R53, R610, R806). -/
def State.canLose (s : State) : Bool :=
  s.clk.source != 0 && s.obj O.mediaState != 0 && (s.clk.source != 6 || decide (64 ≤ s.net.adrift))

/-- The selected source is lost; in a rate sequence the word is held, and R55 applies once the sequence is complete (R86). -/
def execTickSourceLost (fallbackValid : Bool) (s : State) : Out :=
  .next (if !s.canLose then s
    else if s.rateSeq.isSome then ({ s with clk := { s.clk with lostWait := some fallbackValid } } : State).holdWord
    else s.sourceLost0 fallbackValid)

/-- The media PLL is locked to its source: the phase is fixed, the cause clears (R57). -/
def State.sourceLocked (s : State) (phase : Nat) : State :=
  let st := if s.clk.source = s.obj O.tickSource then 0 else 3
  let q := phase % s.mediaPerTick
  let s1 := ((s.setObjs [(O.tickSourceStatus, st), (O.mediaState, 2), (O.tickSourcePhase, q)]).clearCause 0).event 0x0202 (s.obj O.tickSource)
  if 1 ≤ s.clk.source ∧ s.clk.source ≤ 4 then s1.fixPhase (port4 (s.clk.source - 1)) q else s1

def execTickSourceLocked (phase : BitVec 16) (s : State) : Out :=
  .next (if s.rateSeq.isSome || s.obj O.mediaState = 0 || s.clk.mediaGated || s.obj O.refState = 1 then s
    else s.sourceLocked phase.toNat)

/-- A write of TickSource: in force at the next boundary (R56, R86). -/
def State.writeTickSource (s : State) (k : SessKey) (kport : Nat) (words : List (BitVec 32)) : State :=
  s.writeReq k kport O.tickSource words {} (fun s => { s with clk := { s.clk with pendSource := some (wordsNat words) } })

def execTickSourceWrite (src : Src) (words : List (BitVec 32)) (s : State) : Out := .next (s.writeTickSource src.key src.link.val words)

/-- The source written takes over at the boundary; a loss of the source before it that still waited no longer counts (R56, R86). -/
def State.applySource (s : State) : State :=
  match s.clk.pendSource with
  | some v => (({ s with clk := { s.clk with pendSource := none, lostWait := none } } : State).setObj O.tickSource v).selectSource v 1
  | none => s

/-- One tick of the media word: at most 1 ppm toward its target (R56, R802). It stands while REF is lost (R806). -/
def State.mediaStep (s : State) : State :=
  let d := s.mediaTarget - s.mediaOffset
  let step := if d < -1000 then -1000 else if 1000 < d then 1000 else d
  if s.obj O.refState = 1 then s else s.setObj O.tickSourceOffset (intObj (s.mediaOffset + step))

/-! ### Changing the tick rate (R65, R66, R82 to R86) -/

/-- The checks from code 0x0C to 0x11 that other members would fail at other cycles, with their blocks where they stand: what the Origin's Tiler
checks for every member (R66). It takes their ENG frequency to be its own (log entry 111). -/
def State.memberFaults (s : State) (g : Graph) (v : PlaceEnv) : List Diag :=
  if s.mode != 5 || !s.isOrigin then []
  else (((g.blocks.filter (fun b => b.dev != v.env.own)).map (·.dev)).eraseDups).flatMap (fun d => g.img.faultsOn v d (g.pinsWith [] 0 0))

/-- Engines whose share in force would no longer meet their deadlines (R247). -/
def State.shareFaults (s : State) (g : Graph) (p : Nat) : List Diag :=
  let own := p - (p + 7) / 8
  engines.filterMap (fun e =>
    let l := g.img.engineCharges g.lines (g.onEngine e.val)
    let n := lane s.io.share e
    if meetsAll n p l then none
    else some { code := 0x0F, table := 1, entry := ((inProgram (g.onEngine e.val)).map (·.block)).headD 0, detail := e.val
                need := shareNeeded p l * own, have_ := n * own, eng := e.val })

/-- The checks of R378 that depend on rate and cycles, for the placement in force (R66). -/
def State.placementFaults (s : State) (g : Graph) (rate cycles : Nat) : List Diag :=
  let i := g.img
  let w := s.placeEnv s.mode
  let v : PlaceEnv := { w with cycles := cycles, env := { w.env with rate := rate, budget := budgetFor cycles }, fab := w.fab.map (fun _ => s.fabMap rate) }
  let devs := g.blocks.map (·.dev)
  let lats := i.edges.map (fun e => e.latency v devs)
  let long := engines.filter (fun e => decide (budgetFor cycles < (s.engine e).progLen))
  let ovf := s.obj O.portReservation + s.obj O.farReservation
  (if i.rate != 0 && i.rate != rate then [diag 7 0 0x10 rate] else []) ++
  long.map (fun e => { code := 0x0C, table := 1, entry := (((g.onEngine e.val).map (·.block)).headD 0), detail := 0, need := (s.engine e).progLen
                       have_ := budgetFor cycles, eng := e.val }) ++
  s.shareFaults g v.orb ++ s.memberFaults g v ++ idleFault v.orb ovf ++ slotFaults v (i.linked devs) ++
  reserveFaults v (i.runSpecs g.firsts devs [] 0 []) ++ i.latencyFaults lats ++
  (g.edges.filter (fun e => lats.getD e.edge 0 != e.latency)).map (fun e =>
    { code := 0x13, table := 4, entry := e.edge, detail := lats.getD e.edge 0, need := lats.getD e.edge 0, have_ := e.latency, eng := 0 })

/-- Why a rate, frequency or spread is out of range: a program that no longer fits, or a check of the placement in force. -/
def State.rateFault (s : State) (rate : Nat) : Option Diag :=
  let c := cyclesFor (s.obj O.engineFrequency) (s.obj O.engineSpread) rate
  match s.til.graph with
  | some g => leastFault (s.placementFaults g rate c)
  | none => none

/-- The sequence of R83 begins: every output fades, the status reads "acquiring" (R84). -/
def State.startRate (s : State) (r : Nat) : State :=
  let s1 : State := { s with rateSeq := some (r, false), clk := { s.clk with prevStatus := s.obj O.tickSourceStatus, lostWait := none } }
  (s1.setObj O.tickSourceStatus 1).mute .rateChange

/-- A write of TickRate (R65, R66, R82, R83, R778, R817). -/
def State.writeTickRate (s : State) (k : SessKey) (kport : Nat) (words : List (BitVec 32)) : State :=
  let r := wordsNat words
  let fault := if r = 0 then none else s.rateFault r
  let follows := s.joined && !s.isOrigin
  let mode := s.obj O.powerState = 0 && !(s.mode = 5 && follows) && !((s.mode = 1 || s.mode = 2) && !follows)
  let x : Extra := { mode := mode, range := fault.isNone && (r = 0 || decide (s.longestProgram ≤ budgetFor (cyclesFor (s.obj O.engineFrequency) (s.obj O.engineSpread) r)))
                     res := s.rateSeq.isNone && s.clk.engSeq.isNone }
  let code := s.checkWrite k O.tickRate words x
  let s1 := match s.serving && decide (code = rcRange), fault with
    | true, some d => s.setDiag d
    | _, _ => s
  s1.writeReq k kport O.tickRate words x (fun s => s.startRate r)

def execTickRateWrite (src : Src) (words : List (BitVec 32)) (s : State) : Out := .next (s.writeTickRate src.key src.link.val words)

/-- A member follows its Origin: a parent whose header names another rate starts the sequence at that rate (R82, R611). -/
def State.followRate (s : State) : State :=
  let r := match s.parent with
    | some k => (tickRates[(s.linkOf k).nbRate]?).getD 0
    | none => 0
  if s.joined && !s.isOrigin && !s.inSequence && r != 0 && r != s.obj O.tickRate then s.startRate r else s

/-- A member that has lost its parent holds its frequency, and follows again once it has one. An Origin in holdover locks again at the
frequency it has (R610); a device alone, its own Origin, follows the crystal (R579, R592). -/
def State.followTime (s : State) : State :=
  if s.clk.source != 6 || s.rateSeq.isSome || s.obj O.mediaState = 0 || s.obj O.refState = 1 then s
  else if s.isOrigin then
    let s1 := if s.obj O.mediaState = 3 then s.selectSource 6 1 else s
    if s.joined then { s1 with mediaTarget := (if s.obj O.mediaState = 3 then s.mediaOffset else s.mediaTarget) } else { s1 with mediaTarget := 0 }
  else if !s.joined then s
  else if s.parent.isNone then (if s.obj O.mediaState = 3 then s else s.holdover)
  else if s.obj O.mediaState = 3 then s.selectSource 6 1
  else s

/-- A migration in parallel running ends at the first tick of the fade (R86). -/
def State.rateAbandon (s : State) : State :=
  match s.rateSeq with
  | some (_, false) => if s.til.mig.any (fun m => !m.switched) then s.abandon 2 else s
  | _ => s

/-- The fade is complete: boundaries stop; a change of family gates MEDIA for its retune; the converters re-lock (R83, R803). -/
def execTickRateStop (s : State) : Out :=
  .next (match s.rateSeq with
    | some (r, false) =>
      if s.allSilent then
        let t := s.finishTick
        let family := mediaHz r != mediaHz (t.obj O.tickRate)
        let t1 : State := { t with rateSeq := some (r, true), clk := { t.clk with mediaGated := family } }
        (if family then t1.setObj O.mediaState 1 else t1).sapRelock
      else s
    | _ => s)

/-- Whether a converter that had to lock again still does (R83). -/
def State.relocking (s : State) : Bool :=
  s.clk.relock.any (fun x => s.conv x.1 x.2 = 1 && (s.portState x.1 = 1 || s.portState x.1 = 2))

/-- TickSourceStatus after the sequence: as the media PLL is, or as it was. -/
def State.statusAfter (s : State) : Nat :=
  if s.obj O.mediaState = 3 then 2 else if s.obj O.mediaState = 1 then 1 else s.clk.prevStatus

/-- Boundaries start at the new rate once the converters have locked (R83, R86); a loss of the source that waited is handled now (R55). -/
def execTickRateRestart (s : State) : Out :=
  .next (match s.rateSeq with
    | some (r, true) =>
      if s.clk.mediaGated || s.relocking then s
      else
        let s1 := s.setObjs [(O.tickRate, r), (O.mediaFamily, if mediaHz r = 49152000 then 0 else 1), (O.tickSourceStatus, s.statusAfter)]
        let s2 := (({ s1 with rateSeq := none, clk := { s1.clk with lostWait := none, relock := [] } } : State).rebudget.unmute .rateChange).event 0x0203 r
        (match s.clk.lostWait with
         | some valid => s2.sourceLost0 valid
         | none => s2)
    | _ => s)

/-! ### The engine clock (R65, R794 to R800) -/

/-- The grade maximum of ENG in kHz (R5). -/
def State.gradeMax (s : State) : Nat := s.obj O.speedGrade * 100000

/-- The sequence of R797 begins. -/
def State.startEngSeq (s : State) (khz spread : Nat) : State :=
  (({ s with clk := { s.clk with engSeq := some { khz := khz, spread := spread, stopped := false } } } : State).setObj O.enginePllState 1).mute .engineClock

/-- What a change of frequency or spread must meet (R65, R800, R817). -/
def State.engExtra (s : State) (khz spread : Nat) : Extra :=
  { mode := s.obj O.powerState = 0, range := decide (khz ≤ s.gradeMax) && decide (s.longestProgram ≤ budgetFor (cyclesFor khz spread (s.obj O.tickRate)))
    res := s.rateSeq.isNone && s.clk.engSeq.isNone }

def State.writeEngineFrequency (s : State) (k : SessKey) (kport : Nat) (words : List (BitVec 32)) : State :=
  s.writeReq k kport O.engineFrequency words (s.engExtra (wordsNat words) (s.obj O.engineSpread)) (fun s =>
    s.startEngSeq (wordsNat words) (s.obj O.engineSpread))

def execEngineFrequency (src : Src) (words : List (BitVec 32)) (s : State) : Out := .next (s.writeEngineFrequency src.key src.link.val words)

def State.writeEngineSpread (s : State) (k : SessKey) (kport : Nat) (words : List (BitVec 32)) : State :=
  s.writeReq k kport O.engineSpread words (s.engExtra (s.obj O.engineFrequency) (wordsNat words)) (fun s =>
    s.startEngSeq (s.obj O.engineFrequency) (wordsNat words))

def execEngineSpread (src : Src) (words : List (BitVec 32)) (s : State) : Out := .next (s.writeEngineSpread src.key src.link.val words)

/-- At the boundary at which the fade reaches zero the engines stop, and ENG is HULL/2. -/
def execEngineClockStop (s : State) : Out :=
  .next (match s.clk.engSeq with
    | some q =>
      if !q.stopped && s.allSilent then
        let t := s.finishTick
        { t with clk := { t.clk with engLock := false, engSeq := some { q with stopped := true } } }
      else s
    | none => s)

/-! ### PLLs (R790, R791, R805 to R809). Numbers as in event 0x0C02: 0 media, 1 engine, 2 system, 3 SerDes, 4 DDR -/

/-- State and loss count of a PLL. -/
def pllStateObj (p : Nat) : Nat := if p = 0 then O.mediaState else if p = 1 then O.enginePllState else O.pllState (p - 2)
def pllLossObj (p : Nat) : Nat := if p = 1 then O.engineLockLosses else O.pllLockLosses (p - 2)

/-- The lock time of the engine PLL has run: outside a sequence ENG is ungated; a sequence completes with its new clock (R797). -/
def State.engineLocked (s : State) : State :=
  let s1 := (s.setObj O.enginePllState 2).event 0x0C03 1
  let s2 : State := { s1 with clk := { s1.clk with engLock := true } }
  match s.clk.engSeq with
  | some q =>
    let s3 := (s2.setObjs [(O.engineFrequency, q.khz), (O.engineSpread, q.spread)])
    let s4 := ({ s3 with clk := { s3.clk with engSeq := none } } : State).rebudget
    ((s4.unmute .engineClock).event 0x0C06 (q.khz + q.spread * 2 ^ 32)).clearCause 1
  | none => s2.clearCause 1

/-- The media PLL after its retune or its start: boundaries have a clock again (R803, R804). -/
def State.mediaLocked (s : State) : State :=
  let s1 : State := { s with clk := { s.clk with mediaGated := false } }
  let s2 := (s1.setObj O.mediaState (if s.clk.lostWait.isSome then 3 else 2)).event 0x0C03 0
  if s.rateSeq.isSome then s2
  else ((s2.setObj O.tickSourceStatus (if s.clk.source = s.obj O.tickSource then 0 else 3)).clearCause 0).event 0x0202 (s.obj O.tickSource)

/-- Whether a PLL acquires and can lock now: not while REF is lost, nor the engine PLL before its sequence has stopped ENG. -/
def State.pllWaits (s : State) (p : Nat) : Bool :=
  let st := s.obj (pllStateObj p)
  (st = 1 || (st = 3 && p != 0)) && s.obj O.refState = 0 && !(p = 1 && s.clk.engLock)

def execPllLocked (p : Fin 5) (s : State) : Out :=
  .next (if !s.pllWaits p.val then s
    else if p = 0 then s.mediaLocked
    else if p = 1 then s.engineLocked
    else (s.setObj (pllStateObj p.val) 2).event 0x0C03 p.val)

/-- What the loss of a PLL's output does (R791, R807 to R809, R824). -/
def State.pllGated (s : State) (p : Nat) : State :=
  let s1 := ((s.setObj (pllStateObj p) 3).count (pllLossObj p) 32 1).event 0x0C02 p
  if p = 1 then
    let s2 : State := { s1 with clk := { s1.clk with engLock := false } }
    s2.raiseCause 1
  else if p = 3 then (ports.filter (fun k => decide (2 ≤ s1.linkState k))).foldl State.linkDown s1
  else s1

/-- Loss of lock: only a PLL that is locked has its detector armed (R791). The media PLL goes into holdover (R54). -/
def execPllLockLost (p : Fin 5) (s : State) : Out :=
  .next (if p = 0 then
      (if s.obj O.mediaState = 2 && s.rateSeq.isNone then (s.event 0x0C02 0).holdover.raiseCause 0 else s)
    else if s.obj (pllStateObj p.val) = 2 || (p = 1 && s.clk.engLock) then s.pllGated p.val
    else s)

/-- REF is lost: the engine, system, SerDes and DDR PLLs are gated, the media PLL holds its word (R805, R806). -/
def State.refLost (s : State) : State :=
  let s1 := (s.setObj O.refState 1).event 0x0C04 0
  let s2 := ([1, 2, 3, 4] : List Nat).foldl (fun s p => if s.obj (pllStateObj p) = 2 || (p = 1 && s.clk.engLock) then s.pllGated p else s) s1
  if s.obj O.mediaState != 0 then (if s.rateSeq.isSome then s2.holdWord else s2.holdover) else s2

def execRefLost (s : State) : Out := .next (if s.obj O.refState = 0 then s.refLost else s)

/-- REF is restored: every gated PLL acquires, and the media PLL follows its source again unless that is lost itself (R806). In a rate
sequence the status reads acquiring, and a source lost in it stays so (R84, R86). -/
def execRefRestored (s : State) : Out :=
  .next (if s.obj O.refState = 1 then
    let s1 := (s.setObj O.refState 0).event 0x0C05 0
    let s2 := ([1, 2, 3, 4] : List Nat).foldl (fun s p => if s.obj (pllStateObj p) = 3 then s.setObj (pllStateObj p) 1 else s) s1
    let lost := (s.clk.source != 0 && (s.obj O.safeMuteCause).testBit 0) || s.clk.lostWait.isSome
    if s.obj O.mediaState = 3 && !lost then s2.selectSource s.clk.source (if s.clk.source = s.obj O.tickSource || s.rateSeq.isSome then 1 else 3) else s2
  else s)

/-! ### Clock outputs (R810, R811) -/

/-- A write of ClkOutConfig. -/
def State.writeClkOut (s : State) (k : SessKey) (kport : Nat) (n : Fin 4) (words : List (BitVec 32)) : State :=
  let v := wordsNat words
  let old := s.obj (O.clkOutConfig n.val)
  let fixed := v / 2 ^ 29 % 4 = old / 2 ^ 29 % 4 && v / 2 ^ 24 % 4 = old / 2 ^ 24 % 4
  s.writeReq k kport (O.clkOutConfig n.val) words { range := v / 2 ^ 29 % 4 != 3 && (!old.testBit 31 || fixed) } (fun s => s.setObj (O.clkOutConfig n.val) v)

def execClkOutConfig (src : Src) (n : Fin 4) (words : List (BitVec 32)) (s : State) : Out := .next (s.writeClkOut src.key src.link.val n words)

end Sys2Proof.Machine
end

