-- ==== Sys2Proof/Machine/PerOps.lean ====
section
/-! DEFINITION. The peripheral serial master: its transfer records (R649, R650). -/
namespace Sys2Proof.Machine
open Sys2Proof

/-- One record at the head of a list of words, and the words after it; none where a reserved field, DIV or the length is wrong. -/
def perRec (l : List (BitVec 32)) : Option (PerRec × List (BitVec 32)) :=
  match l with
  | a :: b :: rest =>
    let c := a.toNat
    let n := c / 256 % 256 + 1
    if c % 128 != 0 || b.toNat / 65536 != 0 || decide (c / 65536 % 256 < 12) || decide (rest.length < n) then none
    else some ({ dev := c / 2 ^ 28, cpol := c.testBit 27, cpha := c.testBit 26, width := c / 2 ^ 24 % 4, div := c / 2 ^ 16 % 256, keep := c.testBit 7
                 post := b.toNat % 65536, tx := rest.take n }, rest.drop n)
  | _ => none

/-- The records of a request, at most `fuel`; none where one is not well formed, or KEEP is set before a record of another DEV. -/
def perRecs : Nat → List (BitVec 32) → Option (List PerRec)
  | 0, _ => none
  | _ + 1, [] => some []
  | fuel + 1, l =>
    match perRec l with
    | none => none
    | some (r, rest) =>
      match perRecs fuel rest with
      | none => none
      | some rs =>
        if r.keep && (match rs.head? with
          | some q => q.dev != r.dev
          | none => false) then none
        else some (r :: rs)

/-- The records of a request. -/
def perParse (l : List (BitVec 32)) : Option (List PerRec) := perRecs (l.length + 1) l

/-- Bits of a word of a record (R649). -/
def PerRec.bits (r : PerRec) : Nat := 8 * (r.width + 1)

/-- The master starts on a list of records (R650). -/
def State.perStart (s : State) (l : List PerRec) : State := ({ s with per := some l } : State).setObj O.periphState 1

end Sys2Proof.Machine
end

