-- ==== Sys2Proof/Machine/Patchbay.lean ====
section
/-! DEFINITION. Patchbay: its objects, the start sequence, one tick of its two programs (R774 to R788). -/
namespace Sys2Proof.Machine
open Sys2Proof

/-! ### Gains and glides (R424, R348) -/

/-- Whether 2^28 × 10^(g / 1280) is at least w - 1/2, for a gain g in 1/64 dB. -/
def gainReaches (g : Int) (w : Nat) : Bool :=
  w = 0 || (if 0 ≤ g then decide ((2 * w - 1) ^ 1280 ≤ 2 ^ (29 * 1280) * 10 ^ g.toNat)
    else decide ((2 * w - 1) ^ 1280 * 10 ^ (-g).toNat ≤ 2 ^ (29 * 1280)))

/-- The largest word that a gain reaches, found bit by bit. -/
def gainSearch (g : Int) : Nat → Nat → Nat
  | 0, w => w
  | n + 1, w => gainSearch g n (if gainReaches g (w + 2 ^ n) then w + 2 ^ n else w)

/-- The Q4.28 word of a GAIN value; mute gives 0, and 0 dB gives 2^28 (R424). -/
def gainWord (v : Nat) : Word :=
  if v = 0x80000000 then 0 else if v = 0 then 0x10000000 else BitVec.ofNat 32 (gainSearch (BitVec.ofNat 32 v).toInt 32 0)

/-- The word a ramp delivers in this tick. -/
def Ramp.now (r : Ramp) : Word := if r.total ≤ r.k then r.v1 else glideValue r.v0 r.v1 r.k r.total
def Ramp.next (r : Ramp) : Ramp := { r with k := r.k + 1 }
def Ramp.done (r : Ramp) : Bool := decide (r.total ≤ r.k)
/-- A ramp that has arrived. -/
def Ramp.at (w : Word) : Ramp := { v0 := w, v1 := w, k := 0, total := 0 }
/-- A new ramp from the word last delivered (R350). -/
def Ramp.to (r : Ramp) (w : Word) (total : Nat) : Ramp :=
  { v0 := if r.k = 0 ∨ r.total ≤ r.k then (if r.total ≤ r.k then r.v1 else r.v0) else glideValue r.v0 r.v1 (r.k - 1) r.total, v1 := w, k := 0, total := total }

/-! ### Steady values of the objects -/

/-- A crosspoint in force. -/
def State.cross (s : State) (i : Nat) : Cross :=
  ((s.pb.cross.find? (fun p => p.1 = i)).map (·.2)).getD { source := s.obj (O.crossSource i), next := none, gain := Ramp.at (gainWord (s.obj (O.crossGain i))) }

/-- The tap of an output. -/
def State.tap (s : State) (o : Nat) : Tap :=
  ((s.pb.taps.find? (fun p => p.1 = o)).map (·.2)).getD { old := .place (s.obj (O.outputDelay o)), new := s.obj (O.outputDelay o), j := 64 }

/-- What the tap delivered last, from which a new change starts (R350). -/
def Tap.delivered (t : Tap) : TapFrom := if 64 ≤ t.j then .place t.new else if t.j = 0 then t.old else .mix t.old t.new t.j

/-- The sample a tap stands for, over the samples of the line. -/
def TapFrom.value (at_ : Nat → Word) : TapFrom → Word
  | .place d => at_ d
  | .mix old new j => xfadeWord (old.value at_) (at_ new) j 64

/-- Coefficient `i` of the fields of a band: bypass is the identity. -/
def bandCoef (word rate i : Nat) : Word := if word / 2 ^ 60 = 0 then (if i = 0 then 0x10000000 else 0) else Config.eqCoef word rate i

/-- A coefficient in force. -/
def State.pbCoef (s : State) (band i : Nat) : Ramp :=
  ((s.pb.coef.find? (fun p => p.1 = 5 * band + i)).map (·.2)).getD (Ramp.at (bandCoef (s.obj (O.eqBand band)) (s.obj O.tickRate) i))

def Biquad.zero : Biquad := { x1 := 0, x2 := 0, y1 := 0, y2 := 0 }

def State.modPb (s : State) (f : Patchbay → Patchbay) : State := { s with pb := f s.pb }

/-- An entry of a table replaced. -/
def tPut {α : Type} (l : List (Nat × α)) (k : Nat) (v : α) : List (Nat × α) := l.filter (fun p => p.1 != k) ++ [(k, v)]

/-! ### Writes that take effect at a boundary while Patchbay runs (R779) -/

/-- What an accepted write starts when it takes effect. Called with the old values still in force. -/
def State.pbWrite (s : State) (a v : Nat) : State :=
  let n := (a / 256 % 128) * 128 + (a % 256 - 1)
  let idx := a / 256
  if 0x5800 ≤ idx ∧ idx ≤ 0x587F then
    let c := s.cross n
    s.modPb (fun p => { p with cross := tPut p.cross n { c with next := some v, gain := c.gain.to 0 240 } })
  else if 0x5880 ≤ idx ∧ idx ≤ 0x58FF then
    let c := s.cross n
    if c.next.isSome then s else s.modPb (fun p => { p with cross := tPut p.cross n { c with gain := c.gain.to (gainWord v) 240 } })
  else if 0x5900 ≤ idx ∧ idx ≤ 0x5907 then
    let t := s.tap n
    s.modPb (fun p => { p with taps := tPut p.taps n { old := t.delivered, new := v, j := 0 } })
  else if 0x5908 ≤ idx ∧ idx ≤ 0x590F then
    let o := n - 1024
    s.modPb (fun p => { p with swaps := tPut p.swaps o { phase := .fade 64 0, x := aGet 0 p.last o, wait := 0 } })
  else if 0x5A00 ≤ idx ∧ idx ≤ 0x5A3F then
    (List.range 5).foldl (fun t i =>
      t.modPb (fun p => { p with coef := tPut p.coef (5 * n + i) ((s.pbCoef n i).to (bandCoef v (s.obj O.tickRate) i) 480) })) s
  else s

/-- The Patchbay objects that wait for this boundary start their changes. -/
def State.pbApply (s : State) : State :=
  if s.obj O.patchbayState = 2 then s.pendObjs.foldl (fun s p => s.pbWrite p.1 p.2) s else s

/-! ### One tick (R774 to R776) -/

/-- A source channel: the input half that IN reads; a remote group stands at receive group 64 + i (log entry 50). -/
def State.pbSource (s : State) (c : Nat) : Int :=
  let i := c / 16
  let v := s.obj (O.sourceGroup i)
  let g := if v = 0 then i else 64 + i
  (memWord s.mem (inHalfBase s.io.inHalf + 64 * g + 4 * (c % 16))).toInt

/-- An exact Q4.28 sum moved out: rounded, and whether it saturates. -/
def pbMove (sum : Int) : Word × Bool :=
  let r := roundHalfEven sum (2 ^ 28)
  (BitVec.ofInt 32 (satInt 32 r), decide (r < -(2 ^ 31)) || decide (2 ^ 31 - 1 < r))

/-- Matrix output `o`: the sum of its crosspoints (R776). -/
def State.pbMatrix (s : State) (o : Nat) : Word × Bool :=
  pbMove ((List.range 16).foldl (fun acc k =>
    let c := s.cross (16 * o + k)
    if c.source = 0xFFFF then acc else acc + c.gain.now.toInt * s.pbSource c.source) 0)

/-- A crosspoint after a tick: a source that waited takes over once its gain is zero; a finished change is no longer listed. -/
def State.crossNext (s : State) (p : Nat × Cross) : Option (Nat × Cross) :=
  let c := { p.2 with gain := p.2.gain.next }
  if !c.gain.done then some (p.1, c)
  else match c.next with
    | some v => some (p.1, { source := v, next := none, gain := { v0 := 0, v1 := gainWord (s.obj (O.crossGain p.1)), k := 0, total := 240 } })
    | none => none

/-- The delayed sample of an output, with the crossfade of its tap (R407, R779). -/
def State.pbDelay (s : State) (o : Nat) (x : Word) (line : List Word) : Word :=
  let t := s.tap o
  let at_ := fun (d : Nat) => if d = 0 then x else line.getD d 0
  if t.j < 64 then xfadeWord (t.old.value at_) (at_ t.new) (t.j + 1) 64 else at_ t.new

/-- One band of an output (R782): direct form I, the sum rounded from Q4.28. -/
def State.pbBand (s : State) (band : Nat) (x : Word) : Word × Biquad :=
  let b := ((s.pb.bands.find? (fun p => p.1 = band)).map (·.2)).getD Biquad.zero
  let c := fun i => (s.pbCoef band i).now.toInt
  let y := (pbMove (c 0 * x.toInt + c 1 * b.x1.toInt + c 2 * b.x2.toInt + c 3 * b.y1.toInt + c 4 * b.y2.toInt)).1
  (y, { x1 := x, x2 := b.x1, y1 := y, y2 := b.y1 })

/-- The eight bands of an output, with their new states. -/
def State.pbEq (s : State) (o : Nat) (x : Word) : Word × List (Nat × Biquad) :=
  (List.range 8).foldl (fun (acc : Word × List (Nat × Biquad)) b =>
    let r := s.pbBand (8 * o + b) acc.1
    (r.1, acc.2 ++ [(8 * o + b, r.2)])) (x, [])

/-- The output's sample while its line is replaced, and the change after the tick (R779). -/
def LineSwap.tick (w : LineSwap) (delay : Nat) (y : Word) : Word × Option LineSwap × Bool :=
  match w.phase with
  | .fade len k =>
    if k + 1 < len then (fadeSample len k w.x, some { w with phase := .fade len (k + 1) }, false)
    else (fadeSample len k w.x, some { w with phase := .pass, wait := delay }, true)
  | .pass => if 0 < w.wait then (0, some { w with wait := w.wait - 1 }, false) else (rampSample 1 y, some { w with phase := .ramp 2 }, false)
  | .ramp j => (rampSample j y, if j < 64 then some { w with phase := .ramp (j + 1) } else none, false)

/-- What VE1 does for output `o`: delay, equaliser, meters, OUT. -/
def State.pbOutput (s : State) (o : Nat) : State :=
  let x := aGet 0 s.pb.bus o
  let keep := s.obj (O.delayReserve o) != 0
  let old := ((s.pb.lines.find? (fun p => p.1 = o)).map (·.2)).getD []
  let line := if keep then (x :: old).take 48128 else []
  let e := s.pbEq o (s.pbDelay o x line)
  let w := (s.pb.swaps.find? (fun p => p.1 = o)).map (·.2)
  let r := match w with
    | some w => w.tick (s.obj (O.outputDelay o)) e.1
    | none => (e.1, none, false)
  let y := r.1
  let t := s.tap o
  let mag := y.toInt.natAbs
  let s1 := s.modPb (fun p => { p with
    lines := if r.2.2 || !keep then p.lines.filter (fun q => q.1 != o) else tPut p.lines o line
    taps := if t.j + 1 < 64 then tPut p.taps o { t with j := t.j + 1 } else p.taps.filter (fun q => q.1 != o)
    bands := e.2.foldl (fun l b => aPut Biquad.zero l b.1 b.2) p.bands
    swaps := match r.2.1 with
      | some w => tPut p.swaps o w
      | none => p.swaps.filter (fun q => q.1 != o)
    last := aPut 0 p.last o y
    peak := if p.window < 2400 then aPut 0 p.peak o (max (aGet 0 p.peak o) mag) else p.peak
    power := if p.window < 2400 then aPut 0 p.power o (aGet 0 p.power o + mag * mag) else p.power })
  let s2 := s1.store (outHalfBase s1.io.outHalf + 4 * o) 4 y.toNat
  { s2 with io := { s2.io with outBy := s2.io.outBy.filter (fun q => q.1 != o) ++ [(o, (0, 1))] } }

/-- Source groups named in other devices whose run was latched at the last boundary (R786). -/
def State.activeSubs (s : State) : Nat :=
  ((List.range 64).filter (fun i => s.obj (O.sourceGroup i) != 0 && s.net.latched.any (fun p => p.1 = 64 + i))).length

/-- One tick of Patchbay: VE1 works on what VE0 summed one tick before (R775). -/
def State.patchbayTick (s : State) : State :=
  let m := (List.range 1024).map (fun o => (o, s.pbMatrix o))
  let sat := (m.filter (fun p => p.2.2)).length
  let s1 := (List.range 1024).foldl State.pbOutput s
  let s2 := s1.modPb (fun p => { p with
    bus := m.foldl (fun l q => aPut 0 l q.1 q.2.1) []
    cross := p.cross.filterMap s.crossNext
    coef := (p.coef.map (fun q => (q.1, q.2.next))).filter (fun q => !q.2.done)
    window := min 2400 (p.window + 1) })
  (s2.modFault 0 (fun w => fwMoveSat w sat)).setObj O.subscriptionsActive s.activeSubs

/-- A meter window of 2,400 ticks ends (R783). -/
def execMeterWindow (s : State) : Out :=
  let top := 2 ^ 31 - 1
  .next (if s.obj O.patchbayState = 2 && s.pb.window = 2400 then
    let s1 := (List.range 1024).foldl (fun t o =>
      t.setObjs [(O.meterPeak o, min top (aGet 0 s.pb.peak o)), (O.meterPower o, min top (roundHalfEven (aGet 0 s.pb.power o : Nat) (2400 * 2 ^ 31)).toNat)]) s
    s1.modPb (fun p => { p with peak := [], power := [], window := 0 })
  else s)

/-! ### Writes of the objects (R779 to R787) -/

/-- The value of an object once the writes that wait for a boundary are in force. -/
def State.objSoon (s : State) (a : Nat) : Nat := ((s.pendObjs.reverse.find? (fun p => p.1 = a)).map (·.2)).getD (s.obj a)

/-- An object's write waits for the boundary; of several the last takes effect (R431, R432). -/
def State.pend (s : State) (a v : Nat) : State := { s with pendObjs := s.pendObjs.filter (fun p => p.1 != a) ++ [(a, v)] }

/-- The conditions a Patchbay object adds to the checks. -/
def State.pbRange (s : State) (a v : Nat) : Bool :=
  let idx := a / 256
  let o := (a / 256 % 8) * 128 + (a % 256 - 1)
  if 0x5900 ≤ idx ∧ idx ≤ 0x5907 then v = 0 || decide (v + 1 ≤ s.objSoon (O.delayReserve o))
  else if 0x5908 ≤ idx ∧ idx ≤ 0x590F then
    (s.objSoon (O.outputDelay o) = 0 || decide (s.objSoon (O.outputDelay o) + 1 ≤ v)) && decide (v ≤ s.obj O.delayPoolFree + s.objSoon a)
  else if 0x5A00 ≤ idx ∧ idx ≤ 0x5A3F then
    let freq := v / 2 ^ 32 % 2 ^ 25
    let q := v / 2 ^ 16 % 2 ^ 16
    let gain := (BitVec.ofNat 16 v).toInt
    decide (v / 2 ^ 60 ≤ 5) && v / 2 ^ 57 % 8 = 0 && decide (20000 ≤ freq) && decide (freq ≤ 20000000) && decide (100 ≤ q) && decide (q ≤ 20000) &&
    decide (-1536 ≤ gain) && decide (gain ≤ 1536) && decide (freq * 20 < 9 * s.obj O.tickRate * 1000)
  else if idx = 0x5D00 then
    v = 0 || (v.testBit 31 && v / 2 ^ 28 % 8 = 0 && v / 2 ^ 6 % 1024 = 0)
  else true

/-- The delay pool once an object is to take a value: DelayReserve takes its samples from it (R781). -/
def State.takePool (s : State) (a v : Nat) : State :=
  if 0x5908 ≤ a / 256 ∧ a / 256 ≤ 0x590F then s.setObj O.delayPoolFree (s.obj O.delayPoolFree + s.objSoon a - v) else s

/-- A write of a Patchbay object. -/
def State.writePb (s : State) (k : SessKey) (kport a : Nat) (words : List (BitVec 32)) : State :=
  let v := wordsNat words
  s.writeReq k kport a words { range := s.pbRange a v } (fun s => (s.takePool a v).pend a v)

def execCrossGain (src : Src) (o : Fin 1024) (k : Fin 16) (words : List (BitVec 32)) (s : State) : Out :=
  .next (s.writePb src.key src.link.val (O.crossGain (16 * o.val + k.val)) words)

def execCrossSource (src : Src) (o : Fin 1024) (k : Fin 16) (words : List (BitVec 32)) (s : State) : Out :=
  .next (s.writePb src.key src.link.val (O.crossSource (16 * o.val + k.val)) words)

def execOutputDelay (src : Src) (o : Fin 1024) (words : List (BitVec 32)) (s : State) : Out :=
  .next (s.writePb src.key src.link.val (O.outputDelay o.val) words)

def execDelayReserve (src : Src) (o : Fin 1024) (words : List (BitVec 32)) (s : State) : Out :=
  .next (s.writePb src.key src.link.val (O.delayReserve o.val) words)

def execEqBand (src : Src) (o : Fin 1024) (b : Fin 8) (words : List (BitVec 32)) (s : State) : Out :=
  .next (s.writePb src.key src.link.val (O.eqBand (8 * o.val + b.val)) words)

def execSourceGroup (src : Src) (i : Fin 64) (words : List (BitVec 32)) (s : State) : Out :=
  .next (s.writePb src.key src.link.val (O.sourceGroup i.val) words)

/-! ### The converter-setup table (R784) -/

/-- The table of a slot: absent, invalid, or its records. -/
inductive SetupTable where
  | absent
  | invalid
  | records (l : List PerRec)
  deriving DecidableEq, Repr

def State.setupTable (s : State) (slot : Nat) : SetupTable :=
  let a := slot * 0x4000000 + 0x400
  let h := s.flashBytes a 16
  let len := leNat ((h.drop 6).take 2)
  let body := s.flashBytes (a + 16) len
  if s.flashFails a (16 + len) then .invalid
  else if leNat (h.take 4) != 0x50534554 then .absent
  else if leNat ((h.drop 4).take 2) != 1 || len % 4 != 0 || decide (len < 8) || decide (3056 < len) || leNat (h.drop 12) != 0 ||
      leNat ((h.drop 8).take 4) != (crc32c body).toNat then .invalid
  else match perParse (bytesWords body) with
    | some l => .records l
    | none => .invalid

/-- The slots in the order in which their tables are read (R784). -/
def State.tableSlots (s : State) : List Nat :=
  if s.obj O.bootSlot < 2 then [s.obj O.bootSlot] ++ (([0, 1] : List Nat).filter (fun x => x != s.obj O.bootSlot)) else [0, 1]

/-- The first valid table, which is sent, with the result and the slots whose table was read and failed (log entry 128). -/
def State.chooseTable (s : State) : Option (List PerRec) × Nat × List Nat :=
  let all := s.tableSlots.map (fun x => (x, s.setupTable x))
  let sent : SetupTable → Bool := fun t => match t with
    | .records _ => true
    | _ => false
  let bad := ((all.takeWhile (fun p => !sent p.2)).filter (fun p => p.2 = .invalid)).map (·.1)
  if s.clk.bootsel = 2 then (none, 4, [])
  else match all.findSome? (fun p => match p.2 with
      | .records l => some l
      | _ => none) with
    | some l => (some l, 1, bad)
    | none => (none, if bad = [] then 2 else 3, bad)

/-- The table is read and sent; an invalid one is reported (R773, R788). -/
def State.sendTable (s : State) : State :=
  let c := s.chooseTable
  let s1 := s.setObj O.setupTableResult c.2.1
  let s2 := match c.2.2 with
    | [] => s1
    | [x] => s1.event 0x0B0B (x + c.2.1 * 256)
    | _ => s1.event 0x0B0B (0xFF + c.2.1 * 256)
  match c.1 with
  | some l => s2.perStart l
  | none => s2

/-! ### Start and stop (R777, R785) -/

/-- Entry to Patchbay or Recovery: the start sequence begins. -/
def State.patchbayBegin (s : State) : State := s.setObjs [(O.patchbayState, 1), (O.setupTableResult, 0)]

/-- Patchbay stops: its programs no longer run. -/
def State.patchbayStop (s : State) : State :=
  if s.obj O.patchbayState = 0 then s
  else { (s.setObj O.patchbayState 0) with pb := Patchbay.reset, io := { s.io with owners := s.io.owners.filter (fun p => decide (64 ≤ p.1)) } }

/-- Patchbay objects restored from the Keep snapshot as RESTORE writes (R770, R777). -/
def State.restorePb (s : State) : State :=
  (s.snapshotFixed.filter (fun p => decide (0x5800 ≤ p.1 / 256) && decide (p.1 / 256 < 0x6000))).foldl (fun s p =>
    s.writeReq .restore 0 p.1 p.2 { range := s.pbRange p.1 (wordsNat p.2) } (fun s =>
      let t := (s.takePool p.1 (wordsNat p.2)).setObj p.1 (wordsNat p.2)
      { t with pendObjs := t.pendObjs.filter (fun q => q.1 != p.1) })) s

/-- The rest of the start sequence, once the table has been sent: rate, ports, tick source, restore, programs. -/
def State.patchbayGo (s : State) (sap0 : Bool) : State :=
  let follows := s.joined && !s.isOrigin
  let s1 := if follows || s.obj O.tickRate = 48000 then s else (s.setObjs [(O.tickRate, 48000), (O.mediaFamily, 0)]).rebudget
  let s2 := ports.foldl State.enablePort s1
  let s3 := if follows then (s2.setObj O.tickSource 6).selectSource 6 1
    else if sap0 then (s2.setObjs [(O.tickSource, 1), (O.tickSourceFallback, 0)]).selectSource 1 1
    else (s2.setObj O.tickSource 0).selectSource 0 1
  let s4 := s3.restorePb
  let s5 : State := { s4 with pb := Patchbay.reset, io := { s4.io with owners := (List.range 64).map (fun g => (g, 1)), outBy := [] } }
  ((s5.setObj O.patchbayState 2).unmute .modeChange).unmute .graphReplace

/-- The start sequence of Patchbay goes on: first the table, then, when no transfer runs, the rest. `sap0` says that SAP0 frame starts
arrive within 100 ms at 48 kHz ± 1,000 ppm. -/
def execPatchbayStart (sap0 : Bool) (s : State) : Out :=
  .next (if s.obj O.patchbayState != 1 then s
    else
      let s1 := if s.obj O.setupTableResult = 0 then s.sendTable else s
      if s1.per.isSome then s1 else s1.patchbayGo sap0)

end Sys2Proof.Machine
end

