-- ==== Sys2Proof/Machine/BootOps.lean ====
section
/-! DEFINITION. Secure start: fuses, image headers, verification, slot selection, confirmation, configuration and snapshots (R731 to R770). -/
namespace Sys2Proof.Machine
open Sys2Proof

/-! ### Fuses (R745, R748) -/

/-- The number in `n` fuse bits from `lo` up. -/
def State.fuseField (s : State) (lo n : Nat) : Nat := s.fuses.foldl (fun acc b => if lo ≤ b ∧ b < lo + n then acc + 2 ^ (b - lo) else acc) 0

/-- The rollback counter: 1 plus the highest ROLLBACK bit that reads 1 (R748). -/
def State.rollback (s : State) : Nat := s.fuses.foldl (fun m b => if 1228 ≤ b ∧ b < 1356 then max m (b - 1227) else m) 0

/-- KEYHASH of a key slot as bytes, byte 0 lowest. -/
def State.keyHash (s : State) (k : Nat) : List Byte := leBytes 48 (s.fuseField (68 + 384 * k) 384)

/-- A fuse bit burned; it is never cleared. -/
def State.burn (s : State) (b : Nat) : State := { s with fuses := setAdd s.fuses b }

/-- Key slots whose digest is not zero. -/
def State.keySlots (s : State) : Nat := ([0, 1, 2] : List Nat).foldl (fun acc k => acc + bitIf (s.fuseField (68 + 384 * k) 384 != 0) k) 0

/-- The objects that show the fuses. -/
def State.loadFuses (s : State) : State :=
  s.setObjs [(O.siliconStep, s.fuseField 1656 8), (O.speedGrade, s.fuseField 1649 7), (O.extendedScreen, s.fuseField 1648 1), (O.uid, s.fuseField 0 64),
    (O.rollbackCounter, s.rollback), (O.keysRevoked, s.fuseField 1220 3), (O.keySlotsProgrammed, s.keySlots),
    (O.debugLocked, if s.fuseField 1644 4 = 0 then 0 else 1), (O.securityOptions, s.fuseField 1612 3)]

/-! ### Image headers (R734 to R736, R739) -/

/-- A field of a header. -/
def hdr (h : List Byte) (off n : Nat) : Nat := leNat ((h.drop off).take n)
def hdrBytes (h : List Byte) (off n : Nat) : List Byte := (h.drop off).take n

/-- Check 2 of R739: magic, format, reserved fields, ranges. -/
def hdrFormOk (h : List Byte) : Bool :=
  let load := hdr h 0x10 4
  let enc := hdr h 6 2 = 1
  hdr h 0 4 = 0x48554C49 && hdr h 4 2 = 1 && decide (hdr h 6 2 ≤ 1) && decide (1 ≤ hdr h 8 4) && decide (hdr h 8 4 ≤ 0xFFFFFFFE) &&
  decide (hdr h 0xC 1 ≤ 128) && decide (hdr h 0xD 1 ≤ 2) && hdr h 0xE 2 = 0 && load % 64 = 0 && decide (64 ≤ load) && decide (load ≤ 2097152) &&
  hdr h 0x14 4 % 4 = 0 && decide (hdr h 0x14 4 < load) && hdr h 0x18 4 % 32 = 0 && decide (hdr h 0x1C 4 ≤ 16384) &&
  decide (hdr h 0x18 4 + 32 * hdr h 0x1C 4 ≤ load) && (enc || (hdr h 0x20 12 = 0 && hdr h 0x2C 16 = 0)) && hdr h 0xCC 180 = 0

/-- Check 5: the key is programmed, not revoked, and that of the header. -/
def State.keyOk (s : State) (h : List Byte) : Bool :=
  let k := hdr h 0xD 1
  s.fuseField (68 + 384 * k) 384 != 0 && s.fuseField (1220 + k) 1 = 0 && Config.sha384 (hdrBytes h 0x6C 96) == s.keyHash k

/-- The checks of a header with no status words: codes 2, 5, 6, 12, or 0. -/
def State.hdrCode (s : State) (h : List Byte) : Nat :=
  if !hdrFormOk h then 2
  else if !s.keyOk h then 5
  else if hdr h 0xC 1 < s.rollback then 6
  else if hdr h 6 2 = 0 ∧ s.fuseField 1612 1 = 1 then 12
  else 0

/-- The first check that a slot fails as a candidate, in the order of R739, or 0. -/
def State.slotCode (s : State) (h : List Byte) : Nat :=
  if !hdrFormOk h then 2
  else if hdr h 0x200 4 ≠ 0 then 3
  else if hdr h 0x20C 4 ≠ 0xFFFFFFFF then 4
  else if hdr h 0x208 4 ≠ 0 ∧ hdr h 0x204 4 % 8 = 0 then 11
  else s.hdrCode h

/-- Bus addresses of the retained header page and of the payload copy (R741). -/
def headerPage : Nat := 0x1037F000
def payloadBase : Nat := 0x10000000

/-- The verification of an image: header and payload are copied, then the signature, the tag and the digest are checked on the copy
(R741, R743). The result is 1, 7, 8 or 9. -/
def State.verifyImage (s : State) (h payload : List Byte) : Nat × State :=
  let s1 := s.storeBytes headerPage h
  let sig := Config.ecdsaP384 (hdrBytes h 0x6C 96) (Config.sha384 (hdrBytes h 0 0x180)) (hdrBytes h 0x180 96)
  if !sig then (7, s1)
  else
    let plain := if hdr h 6 2 = 1 then
        Config.aesGcm (leBytes 32 (s.fuseField 1356 256)) (hdrBytes h 0x20 12) (hdrBytes h 0 0x20) payload (hdrBytes h 0x2C 16)
      else some payload
    match plain with
    | none => (9, s1.zeroRange payloadBase payload.length)
    | some p =>
      let s2 := s1.storeBytes payloadBase p
      if Config.sha384 p == hdrBytes h 0x3C 48 then (1, s2) else (8, s2)

/-- Whether the image copy in Hull SRAM still verifies (R24, R742). -/
def State.copyVerifies (s : State) : Bool :=
  let h := memBytes s.mem headerPage 4096
  Config.ecdsaP384 (hdrBytes h 0x6C 96) (Config.sha384 (hdrBytes h 0 0x180)) (hdrBytes h 0x180 96) &&
  Config.sha384 (memBytes s.mem payloadBase (hdr h 0x10 4)) == hdrBytes h 0x3C 48 && (s.badIn headerPage 4096).isNone &&
  (s.badIn payloadBase (hdr h 0x10 4)).isNone

/-- The verified image starts: the objects of the boot, the pages of the copy static (R732, R738, R742). -/
def State.startImage (s : State) (slot : Nat) (h : List Byte) (confirmed xip : Bool) : State :=
  let s1 := s.setObjs [(O.bootSlot, slot), (O.bootGeneration, hdr h 8 4), (O.bootSecVer, hdr h 0xC 1), (O.bootKeySlot, hdr h 0xD 1),
    (O.bootConfirmed, if confirmed then 1 else 0), (O.xipBase, if slot < 2 then slot * 0x4000000 else s.obj O.xipBase), (O.updateState, if confirmed then 0 else 5),
    (O.bootTime, (Config.freeNat s.freeCtr).toNat % 2 ^ 32)]
  let s2 : State := { s1 with
    freeCtr := s1.freeCtr + 1, clk := { s1.clk with monitor := false }
    xip := { s1.xip with enable := xip, lock := xip, hashBase := payloadBase + hdr h 0x18 4, hashCount := hdr h 0x1C 4, lines := [] } }
  ((s2.makeStatic headerPage 4096).makeStatic payloadBase (hdr h 0x10 4)).event 0x0B00 (slot + hdr h 8 4 * 256)

/-- Flash base of a slot, and its header. -/
def slotBase (i : Nat) : Nat := i * 0x4000000
def State.slotHeader (s : State) (i : Nat) : List Byte := s.flashBytes (slotBase i) 4096

/-- The object with the result of a slot. -/
def slotResult (i : Nat) : Nat := if i = 0 then O.slotAResult else O.slotBResult

/-- One trial of an unconfirmed candidate is used up: the lowest set bit of TRIALS[2:0] (R738). -/
def State.useTrial (s : State) (i : Nat) (h : List Byte) : State :=
  let t := hdr h 0x204 4
  if hdr h 0x208 4 = 0 then s
  else
    let bit := if t % 2 = 1 then 1 else if t / 2 % 2 = 1 then 2 else 4
    s.flashProgram (slotBase i + 0x204) (leBytes 4 (0xFFFFFFFF - bit))

/-- The code that stops slot `i` as a candidate, or 0: 10 where its header sector fails to read twice (R656, R739). -/
def State.headerCode (s : State) (i : Nat) : Nat := if s.flashFails (slotBase i) 4096 then 10 else s.slotCode (s.slotHeader i)

/-- A candidate is tried: the slot has booted, or its failure is recorded. `mark`: a trial is used up. -/
def State.trySlot (s : State) (mark : Bool) (i : Nat) : Bool × State :=
  let h := s.slotHeader i
  let s1 := (if mark then s.useTrial i h else s).noteFlash (slotBase i + 0x1000) (hdr h 0x10 4)
  let r := if s1.flashFails (slotBase i + 0x1000) (hdr h 0x10 4) then (10, s1) else s1.verifyImage h (s1.flashBytes (slotBase i + 0x1000) (hdr h 0x10 4))
  let s2 := r.2.setObj (slotResult i) r.1
  if r.1 = 1 then (true, s2.startImage i h (hdr h 0x208 4 = 0) true)
  else (false, s2.event 0x0B01 (i + r.1 * 256))

/-- The candidates by generation, highest first, slot A first on equal generation. -/
def State.candidateSlots (s : State) : List Nat :=
  let l := ([0, 1] : List Nat).filter (fun i => s.headerCode i = 0)
  match l with
  | [a, b] => if hdr (s.slotHeader a) 8 4 < hdr (s.slotHeader b) 8 4 then [b, a] else [a, b]
  | _ => l

/-- Slot selection (R738): true where an image has started. For one slot only, at the exit from Sleep, no trial is used (R822). -/
def State.slotSelect (s : State) (only : Option Nat) : Bool × State :=
  let s1 := ([0, 1] : List Nat).foldl (fun t i => (t.noteFlash (slotBase i) 4096).setObj (slotResult i) (s.headerCode i)) s
  let all := (s.candidateSlots).filter (fun i => only.getD i = i)
  all.foldl (fun (p : Bool × State) i => if p.1 then (true, p.2.setObj (slotResult i) 13) else p.2.trySlot only.isNone i) (false, s1)

/-! ### Recovery and the monitor -/

/-- The graph's programs finish their tick (R88) and stop, and its outputs have no writer; a running graph is a placed one (R35). -/
def State.stopGraph (s : State) : State :=
  let s0 := if s.graphRuns then s.finishTick else s
  let s1 := if s0.til.mig.isSome then s0.abandon 6 else s0
  let s2 := s1.allEngines (fun _ x => { x with running := false, active := false })
  let s3 : State := { s2 with io := { s2.io with owners := [], loop := [] } }
  if s3.obj O.graphState = 3 then s3.setObj O.graphState 2 else s3

/-- Every output fades, and the start sequence of Patchbay begins (R35, R777). -/
def State.toPatchbay (s : State) : State := ((s.mute .modeChange).stopGraph).patchbayBegin

/-- The Hull core enters the ROM loader: the monitor runs, no image does (R28, R744). -/
def State.romLoader (s : State) : State := ({ s with clk := { s.clk with monitor := true } } : State).setObj O.bootSlot 0xFF

/-- Recovery is entered with a cause: the ROM loader runs and Patchbay starts (R28, R738, R758). In Safe-mute the mode to resume is
Recovery. -/
def State.enterRecovery (s : State) (cause : Nat) : State :=
  let s1 := if s.mode = 6 then s.setObj O.resumeMode 1 else s.enterMode 1 cause
  ((s1.event 0x0B02 cause).romLoader).toPatchbay

/-! ### Confirmation and rollback (R749, R755) -/

/-- Rollback bits burned up to a value; `fail` is a bit that never reads 1 (R749). -/
def State.advanceRollback (s : State) (v : Nat) (fail : Option Nat) : State :=
  let now := s.rollback
  let bits := (List.range (v - now)).map (fun i => now + i)
  let good := match fail with
    | some f => bits.takeWhile (fun b => b != f)
    | none => bits
  let s1 := good.foldl (fun s b => s.burn (1228 + b)) s
  let s2 := if good.length < bits.length then s1.count O.fuseFailures 32 1 else s1
  let s3 := s2.setObj O.rollbackCounter s2.rollback
  if s3.rollback = now then s3 else s3.event 0x0B05 s3.rollback

/-- The slot that is not running. -/
def State.otherSlot (s : State) : Nat := 1 - s.obj O.bootSlot

/-- A trial image confirms itself, in the order of R755; steps already done are not repeated (R756). -/
def State.confirmImage (s : State) : State :=
  let me := s.obj O.bootSlot
  let h := s.slotHeader me
  let o := s.slotHeader s.otherSlot
  let s1 := if hdr h 0x208 4 = 0 then s else (s.flashProgram (slotBase me + 0x208) (leBytes 4 0)).event 0x0B03 (hdr h 8 4)
  let retire := hdr o 0x200 4 = 0 && decide (hdr o 8 4 < hdr h 8 4) && hdr o 0x20C 4 = 0xFFFFFFFF
  let s2 := if retire then (s1.flashProgram (slotBase s.otherSlot + 0x20C) (leBytes 4 0)).event 0x0B04 s.otherSlot else s1
  let s3 := if s2.obj O.autoRollback = 1 then s2.advanceRollback (s2.obj O.bootSecVer) none else s2
  s3.setObjs [(O.bootConfirmed, 1), (O.updateState, 0)]

/-! ### The update (R753) -/

/-- The payload and XIP content of a slot image. -/
def imagePayload (img : List Byte) : List Byte := (img.drop 0x1000).take (hdr img 0x10 4)

/-- The plaintext payload of a staged image, with the code that stops the update, or 0. -/
def State.stagedPayload (s : State) (img : List Byte) : Nat × List Byte :=
  let sig := Config.ecdsaP384 (hdrBytes img 0x6C 96) (Config.sha384 (hdrBytes img 0 0x180)) (hdrBytes img 0x180 96)
  let c := s.hdrCode (img.take 4096)
  if img.length < 4096 + hdr img 0x10 4 then (2, [])
  else if c ≠ 0 then (c, [])
  else if !sig then (7, [])
  else
    let plain := if hdr img 6 2 = 1 then
        Config.aesGcm (leBytes 32 (s.fuseField 1356 256)) (hdrBytes img 0x20 12) (hdrBytes img 0 0x20) (imagePayload img) (hdrBytes img 0x2C 16)
      else some (imagePayload img)
    match plain with
    | none => (9, [])
    | some p => if Config.sha384 p == hdrBytes img 0x3C 48 then (0, p) else (8, p)

/-- Whether every XIP hash entry from 1 on fits the staged blocks. -/
def xipHashesOk (img payload : List Byte) : Bool :=
  (List.range (hdr img 0x1C 4)).all (fun i => i = 0 ||
    (let block := (img.drop (4096 * i)).take 4096
     (Config.sha384 (block ++ List.replicate (4096 - block.length) 0xFF)).take 32 == (payload.drop (hdr img 0x18 4 + 32 * i)).take 32))

/-- The code that stops a staged image, or 0: header, signature, digest, erased status words, generation, XIP hashes. -/
def State.updateCode (s : State) (img : List Byte) : Nat :=
  let p := s.stagedPayload img
  if p.1 ≠ 0 then p.1
  else if hdrBytes img 0x200 16 ≠ List.replicate 16 0xFF then 2
  else if hdr img 8 4 ≤ s.obj O.bootGeneration then 2
  else if !xipHashesOk img p.2 then 8
  else 0

/-- A slot written in the order of R753: header sector erased, the rest erased, content, header, COMMIT last. -/
def State.writeSlot (s : State) (slot : Nat) (img : List Byte) (commit : Bool) : State :=
  let b := slotBase slot
  let s1 := (s.flashErase b 4096).flashErase (b + 4096) (0x4000000 - 4096)
  let s2 := (s1.flashProgram (b + 4096) (img.drop 4096)).setObj O.updateProgress (img.length - 4096)
  if commit then ((s2.flashProgram b (img.take 0x200)).flashProgram (b + 0x200) (leBytes 4 0)).dropLines b 0x4000000 else s2.dropLines b 0x4000000

/-! ### Keep: configuration and snapshot (R767 to R770) -/

/-- The start mode of the current configuration record. -/
def State.startModeRecord (s : State) : Option Nat :=
  match s.keepPayload 1 with
  | some (b :: _) => if 2 ≤ b.toNat ∧ b.toNat ≤ 5 then some b.toNat else none
  | _ => none

/-- One fixed object of a snapshot: RW, outside 0x7000 to 0x7FFF, not at its default, no per-session object, no host profile (R768). -/
def snapObj (p : Nat × Nat) : Option (Nat × Nat × Nat) :=
  match objRow p.1 with
  | none => none
  | some r =>
    let idx := p.1 / 256
    if r.acc = .rw ∧ r.ty ≠ .domain ∧ ¬ (0x7000 ≤ idx ∧ idx < 0x8000) ∧ p.2 ≠ objDefault p.1 ∧
        p.1 ∉ [O.updateSetGlide, O.proxyTarget, O.hostProfile, O.hostDummy] then some (p.1, r.words, p.2) else none

/-- The fixed objects a snapshot holds, FetchMode of an engine in the unified mode among them (R768). -/
def State.snapObjs (s : State) : List (Nat × Nat × Nat) :=
  (s.objs ++ (engines.filter (fun e => (s.engine e).unified)).map (fun (e : Fin 8) => (O.fetchMode e.val, 1))).filterMap snapObj

/-- The payload of a snapshot (R768). -/
def State.snapshotBytes (s : State) : List Byte :=
  let l := s.snapObjs
  leBytes 4 l.length ++ l.flatMap (fun p => leBytes 4 p.1 ++ leBytes 4 p.2.1 ++ leBytes (4 * p.2.1) p.2.2) ++ leBytes 4 (s.obj O.graphId) ++
  leBytes 4 s.params.length ++ s.params.flatMap (fun p => leBytes 4 (if p.ty = 16 then 0 else s.paramValue p))

/-- Whether an address lies in X or Y memory or a coefficient bank of an engine, whose words stand in word banks (R96). -/
def isBanked (a : Nat) : Bool :=
  decide (0x200000000 ≤ a) && decide (a < 0x204000000) && (decide (a % 0x800000 < 0x400000) || decide (0x500000 ≤ a % 0x800000))

/-- The soft-repair entry of a candidate: for a line of Orbit memory KIND 0, row, with the bank and the row of R234 and an array number that
the spec does not give; in X, Y or a coefficient bank the word bank of R96; the rest, and an entry of another memory, open (R767, log entry
51). -/
def repairWord (l : Nat) : Nat :=
  let e := (Config.repairEntry l).toNat
  if orbitBase ≤ l ∧ l < orbitBase + 0x6000000 then
    let k := (l - orbitBase) / 64
    e / 2 ^ 40 % 65536 * 2 ^ 40 + lineBank k * 2 ^ 24 + lineRow k
  else if isBanked l then e / 2 ^ 40 * 2 ^ 40 + l / 4 % 64 * 2 ^ 24 + e % 2 ^ 24
  else e

/-- The soft-repair map as a record holds it: a count, then the entries (R767). -/
def State.repairBytes (s : State) : List Byte :=
  let new := s.integ.candidates.map repairWord
  let all := ((s.integ.softRepairs ++ new).eraseDups).take 1024
  leBytes 4 all.length ++ all.flatMap (fun e => leBytes 8 e)

/-- Firmware writes a snapshot, and the soft-repair map with it where there are new candidates (R721, R769). -/
def State.writeSnapshot (s : State) : State :=
  let s1 := s.keepWrite 3 s.snapshotBytes
  if s.obj O.softRepairEnable = 1 && !s.integ.candidates.isEmpty then
    let t := s1.keepWrite 2 s1.repairBytes
    ({ t with integ := { t.integ with candidates := [] } } : State).setObj O.softRepairCandidates 0
  else s1

/-- A snapshot that is due: written, or deferred and counted at shed stage 1 or above (R21, R769). -/
def State.snapshotDue (s : State) : State :=
  if s.keepPayload 3 = some s.snapshotBytes then s
  else if s.obj O.hullShedStage != 0 then (s.count O.keepSnapshotsDeferred 32 1).event 0x0B09 0
  else s.writeSnapshot

/-- What firmware finds in the Keep store at start: the highest SEQ, invalid records, the soft-repair map (R720, R764, R766). -/
def State.keepStart (s : State) : State :=
  let kinds : List Nat := [1, 2, 4, 5, 3]
  let top := kinds.foldl (fun m k => (s.keepRecords k).foldl (fun m p => max m p.1) m) 0
  let bad := kinds.flatMap (fun k => (s.keepInvalid k).map (fun i => keepSlot k i - 0x20000000))
  let s1 := (s.setObj O.keepLastSeq top).count O.keepInvalidRecords 32 bad.length
  bad.foldl (fun s a => s.event 0x0B08 a) s1

/-- Spares of a bank by kind of entry: 8 rows, 4 columns (R720). -/
def spareRoom (e : Nat) : Nat := if e / 2 ^ 56 = 0 then 8 else 4

/-- A soft-repair entry is applied where its bank has a spare of its kind left (R720, R767). -/
def addRepair (p : List Nat × Nat) (e : Nat) : List Nat × Nat :=
  if (p.1.filter (fun x => x / 2 ^ 24 = e / 2 ^ 24)).length < spareRoom e then (p.1 ++ [e], p.2) else (p.1, p.2 + 1)

/-- The soft-repair map in force from this reset on; an entry without a spare counts in SpareExhausted (R720). -/
def State.keepRepairs (s : State) : State :=
  match s.keepPayload 2 with
  | none => s
  | some l =>
    let r := ((List.range (payloadWord l 0)).map (fun i => leNat ((l.drop (4 + 8 * i)).take 8))).foldl addRepair ([], 0)
    ((({ s with integ := { s.integ with softRepairs := r.1 } } : State).setObj O.softRepairEntries r.1.length).count O.spareExhausted 32 r.2)

end Sys2Proof.Machine
end

