-- ==== Sys2Proof/Machine/Answer.lean ====
section
/-! DEFINITION. Where the answer of a queued or remote request goes (R443, R456, R604, R634). -/
namespace Sys2Proof.Machine
open Sys2Proof

/-- DICT_RSP to the device and session of a request: the result code and address, the TAG, the value read (R604). -/
def State.sendRsp (s : State) (dev session tag code a : Nat) (words : List (BitVec 32)) : State :=
  s.sendRouted false (s.mkMsg dev session 0x11 (leBytes 4 (code * 2 ^ 24 + a % 2 ^ 24) ++ leBytes 4 tag ++ wordsBytes words))

/-- The response of a waiting read of the host is there. -/
def State.readReady (s : State) (code : Nat) (words : List (BitVec 32)) : State :=
  { s with hsp := { s.hsp with read := s.hsp.read.map (fun r => { r with res := some (code, words) }) } }

/-- The last response given goes to its requester: over the fabric, or to the read frame that waits. -/
def State.routeAnswer (s : State) (r : FwReq) : State :=
  match s.resp with
  | none => s
  | some p =>
    match r.key, r.tag with
    | .fabric dev n, some t => s.sendRsp dev n t p.code r.addr p.words
    | .host, _ => if r.write || r.unit then s else s.readReady p.code p.words
    | _, _ => s

end Sys2Proof.Machine
end

