-- ==== Sys2Proof/Machine/Units.lean ====
section
/-! DEFINITION. Units of domain transfers: DOMAIN values, open transfers, the record of an END or ABORT, a unit that is refused (R448 to R454,
R437, R451). -/
namespace Sys2Proof.Machine
open Sys2Proof

/-! ### Ranges -/

/-- Whether TOTAL_BYTES lies in the range of an object (R460, R470, R649, R751, R767). -/
def State.totalOk (s : State) (a n : Nat) : Bool :=
  match s.param a with
  | some p => n = 4 * p.words
  | none =>
    if a = O.graphImage then decide (128 ≤ n ∧ n ≤ 2 ^ 30)
    else if a = O.periphRequest then decide (8 ≤ n ∧ n ≤ 65536)
    else if a = O.updateImage then decide (4160 ≤ n ∧ n ≤ 2 ^ 26)
    else decide (n ≤ 65456)

/-! ### Open transfers -/

/-- Staging that a session's open transfer holds (R454). -/
def Session.staged (x : Session) : Nat := (x.xfer.map (·.total)).getD 0 + (x.snap.map (fun p => p.2.length)).getD 0

/-- Whether a session has an open transfer, of either kind. -/
def Session.busy (x : Session) : Bool := x.xfer.isSome || x.snap.isSome

/-- Free staging changes by what is given back or taken. -/
def State.giveStaging (s : State) (n : Nat) : State := s.setObj O.domainStagingFree (s.obj O.domainStagingFree + n)
def State.takeStaging (s : State) (n : Nat) : State := s.setObj O.domainStagingFree (s.obj O.domainStagingFree - n)

/-- The open transfer of a session ends; `keep` is the staging that stays in use. -/
def State.closeXfer (s : State) (k : SessKey) (keep : Nat) : State :=
  let x := s.session k
  if x.busy then (s.giveStaging (x.staged - keep)).setSession { x with xfer := none, snap := none } else s

/-- A START in a session with an open transfer discards that transfer and counts it (R452). -/
def State.discardOpen (s : State) (k : SessKey) : State :=
  if (s.session k).busy then (s.closeXfer k 0).count O.domainAborts 32 1 else s

/-- Staging free for a new transfer of a session. -/
def State.stagingFor (s : State) (k : SessKey) : Nat := s.obj O.domainStagingFree + (s.session k).staged

/-- The open write transfer of a session on an object. -/
def State.openXfer (s : State) (k : SessKey) (a : Nat) : Option Xfer :=
  match (s.session k).xfer with
  | some x => if x.obj = a then some x else none
  | none => none

/-- A unit answered: the words of a response unit, which for the host session also become pending under the address of its frame (R630). -/
def State.answerUnit (s : State) (k : SessKey) (addr code : Nat) (words : List (BitVec 32)) : State :=
  let s1 := s.respond k (addr % 2 ^ 24) code words
  if k = .host ∧ code = rcOk ∧ words ≠ [] then s1.setSession { s1.session k with unit := some (addr, words) } else s1

/-! ### ENDs and ABORTs that are refused or recorded (R434, R437, R451) -/

/-- The bytes of a transfer. -/
def Xfer.bytes (x : Xfer) : List Byte := (wordsBytes x.words).take x.total

/-- Data bytes received of a transfer (R477). -/
def Xfer.received (x : Xfer) : Nat := min (4 * x.words.length) x.total

/-- The record of an END of an open transfer (R475, R477). -/
def State.endRecord (s : State) (k : SessKey) (kport addr : Nat) (x : Xfer) (c : Nat) : Record :=
  s.recordOf k kport 2 (addr % 2 ^ 24) c (s.oldValue k (addr % 2 ^ 24) true) (digestOf x.bytes) true

/-- An END answered with a code other than OK: BUSY and "journal full" leave the transfer open, every other code discards it (R451). -/
def State.refuseEnd (s : State) (k : SessKey) (kport addr : Nat) (x : Xfer) (c : Nat) : State :=
  let s1 := if c = rcJournal ∨ c = rcBusy then s else s.closeXfer k 0
  (if c = rcJournal then s1.refuseStrict else s1.journal (s.endRecord k kport addr x c)).answerUnit k addr c []

/-- An ABORT of an open transfer with its result code known. -/
def State.abortXfer (s : State) (k : SessKey) (kport addr : Nat) (x : Xfer) (c : Nat) : State :=
  let t := if c = rcOk then s.closeXfer k 0 else s
  (t.journal (s.recordOf k kport 3 (addr % 2 ^ 24) c 0 x.received false)).answerUnit k addr c []

/-- A unit answered with a code and not performed: an END or ABORT of an open transfer leaves its record (R437). -/
def State.refuseUnit (s : State) (k : SessKey) (kport addr kind c : Nat) : State :=
  match s.openXfer k (addr % 2 ^ 24) with
  | none => s.answerUnit k addr c []
  | some x => if kind = 3 then s.refuseEnd k kport addr x c else if kind = 4 then s.abortXfer k kport addr x c else s.answerUnit k addr c []

/-- KIND of a unit, from its control word (R448). -/
def unitKind (unit : List (BitVec 32)) : Nat := (unit.headD 0).toNat / 2 ^ 28

/-- Whether a control word is well formed. -/
def controlOk (c : Nat) : Bool :=
  let kind := c / 2 ^ 28
  let data := kind = 2 || kind = 6
  decide (1 ≤ kind ∧ kind ≤ 7) && c / 2 ^ 9 % 2 ^ 7 == 0 && (if data then decide (c % 512 ≤ 255) else c % 2 ^ 28 == 0)

/-- Whether firmware serves the END of an object (R441). -/
def endServed (a : Nat) : Bool := a = O.graphImage || firmwareServed a true

/-- A request answered with a code before it is performed. -/
def State.refuse (s : State) (r : FwReq) (code : Nat) : State :=
  if r.write then s.finishWrite r.key r.link r.addr r.words code id
  else if r.unit then s.refuseUnit r.key r.link r.addr (unitKind r.words) code
  else s.respond r.key r.addr code []

end Sys2Proof.Machine
end

