-- ==== Sys2Proof/Machine/Boot.lean ====
section
/-! DEFINITION. The commands of Secure start: fuses, update, confirmation, the recovery loader, Keep records (R731 to R771). -/
namespace Sys2Proof.Machine
open Sys2Proof

/-! ### Keys and rollback (R747, R749, R750) -/

/-- Whether an image runs: one of a slot, or one the loader started. -/
def State.imageRuns (s : State) : Bool := s.obj O.bootSlot != 0xFF

/-- A write of KeyRevoke. -/
def State.writeKeyRevoke (s : State) (k : SessKey) (kport : Nat) (words : List (BitVec 32)) : State :=
  let v := wordsNat words
  s.writeReq k kport O.keyRevoke words { mode := !(s.imageRuns && v = s.obj O.bootKeySlot) } (fun s =>
    ((s.burn (1220 + v)).setObj O.keysRevoked ((s.burn (1220 + v)).fuseField 1220 3)).event 0x0B06 v)

def execKeyRevoke (src : Src) (words : List (BitVec 32)) (s : State) : Out := .next (s.writeKeyRevoke src.key src.link.val words)

/-- A write of RollbackAdvance; `fail` is the ROLLBACK bit, if any, that still reads 0 after 8 attempts. -/
def State.writeRollback (s : State) (k : SessKey) (kport : Nat) (words : List (BitVec 32)) (fail : Option Nat) : State :=
  let v := wordsNat words
  s.writeReq k kport O.rollbackAdvance words { range := decide (s.rollback ≤ v) && decide (v ≤ s.obj O.bootSecVer) } (fun s => s.advanceRollback v fail)

def execRollbackAdvance (src : Src) (words : List (BitVec 32)) (fail : Option (Fin 128)) (s : State) : Out :=
  .next (s.writeRollback src.key src.link.val words (fail.map (·.val)))

/-! ### The update (R751 to R754) -/

/-- Whether an update is accepted at END (R752): the running image is confirmed, and no update stands. -/
def State.updateFree (s : State) : Bool := s.obj O.bootConfirmed = 1 && (s.obj O.updateState = 0 || s.obj O.updateState = 6)

/-- A slot image accepted for checking. -/
def State.takeUpdate (s : State) (img : List Byte) : State :=
  ({ s with update := img } : State).setObjs [(O.updateState, 1), (O.updateResult, 0), (O.updateProgress, 0)]

/-- The staged image of an update is given up, with its staging. -/
def State.dropUpdate (s : State) : State := ({ s with update := [] } : State).setObj O.domainStagingFree (s.obj O.domainStagingFree + s.update.length)

/-- An update that failed with a code. -/
def State.failUpdate (s : State) (code : Nat) : State := (s.dropUpdate.setObjs [(O.updateState, 6), (O.updateResult, code)]).event 0x0B07 code

/-- Firmware performs the accepted update; `readback` tells whether every comparison of the programmed bytes holds. -/
def execUpdateComplete (readback : Bool) (s : State) : Out :=
  .next (if s.obj O.updateState != 1 then s
    else
      let c := s.updateCode s.update
      if c ≠ 0 then s.failUpdate c
      else
        let t := (s.setObj O.updateTargetSlot s.otherSlot).writeSlot s.otherSlot s.update readback
        if readback then t.dropUpdate.setObj O.updateState 4 else t.failUpdate 10)

/-! ### Resets of the Hull core (R23, R24, R754, R856) -/

/-- A queued request answered BUSY (R443, R444). -/
def State.busyReq (s : State) (r : FwReq) : State :=
  let u := ({ s with applyTick := some r.accepted } : State).refuse r rcBusy
  ({ u with applyTick := none } : State).routeAnswer r

/-- The Hull core resets: its queue is answered BUSY, a migration not yet scheduled is abandoned, the loader restarts. -/
def State.hullReset (s : State) : State :=
  let q := s.fwQueue
  let s1 := q.foldl State.busyReq (({ s with fwQueue := [] } : State).setObj O.hullReady 0)
  let s2 := if s1.til.mig.any (fun m => s1.obj O.migrationState = 1 || (m.warm && !m.switched)) then s1.abandon 1 else s1
  s2.setObj O.loaderState 0

/-- The ROM after a reset of the Hull core: the image copy is started again, or slot selection runs and the flag is cleared. The ROM
monitor starts again where it ran. -/
def State.romReentry (s : State) : State :=
  if s.aon.activate then
    let r := ({ s with aon := { s.aon with activate := false } } : State).slotSelect none
    if r.1 then r.2 else r.2.enterRecovery 6
  else if s.clk.monitor || s.copyVerifies then s
  else
    let r := s.slotSelect none
    if r.1 then r.2 else r.2.enterRecovery 6

/-- Whether a page belongs to the verified Hull image: the retained header or the payload copy of an image that runs (R695, R742). -/
def State.hullImagePage (s : State) (page : Nat) : Bool :=
  !s.clk.monitor && (page = headerPage || inRange payloadBase (hdr (memBytes s.mem headerPage 4096) 0x10 4) page) && s.integ.staticPages.contains page

/-- A Hull-image page that cannot be recovered: the Hull core resets, and the image is loaded again from flash (R24, R708). -/
def State.imagePageLost (s : State) (page : Nat) : State :=
  let r := s.hullReset.slotSelect none
  if r.1 then r.2.reloaded page else r.2.enterRecovery 6

/-- The page at the front of the recovery queue is handled (R702, R708). -/
def execPageRecovery (s : State) : Out :=
  .next (match s.integ.queue with
    | [] => s
    | page :: rest =>
      let t := ({ s with integ := { s.integ with queue := rest } } : State).handlePage page
      if s.hullImagePage page && t.integ.poison.contains page then t.imagePageLost page else t)

/-- The activation flag set, then the Hull core reset. -/
def State.activate (s : State) : State := ({ s with aon := { s.aon with activate := true } } : State).hullReset.romReentry

/-- A write of UpdateActivate. -/
def State.writeActivate (s : State) (k : SessKey) (kport : Nat) (words : List (BitVec 32)) : State :=
  s.writeReq k kport O.updateActivate words { mode := s.obj O.updateState = 4 } State.activate

def execUpdateActivate (src : Src) (words : List (BitVec 32)) (s : State) : Out := .next (s.writeActivate src.key src.link.val words)

/-- The Hull watchdog expires while the Hull core runs. -/
def execHullWatchdogExpiry (s : State) : Out :=
  .next (if s.life != .up || decide (3 ≤ s.obj O.powerState) then s
    else
      let s1 := s.setObj O.hullWatchdogResets ((s.obj O.hullWatchdogResets + 1) % 2 ^ 32)
      ((s1.event 0x0300 (s1.obj O.hullWatchdogResets)).hullReset).romReentry)

/-! ### Confirmation (R755) -/

/-- Whether a trial image of a slot runs, not yet confirmed. -/
def State.onTrial (s : State) : Bool := decide (s.obj O.bootSlot < 2) && s.obj O.bootConfirmed = 0

/-- A write of ImageConfirm: with policy 1 the trial image confirms itself (log entry 53). -/
def State.writeConfirm (s : State) (k : SessKey) (kport : Nat) (words : List (BitVec 32)) : State :=
  s.writeReq k kport O.imageConfirm words { mode := s.obj O.confirmPolicy = 1 } (fun s => if s.onTrial then s.confirmImage else s)

def execImageConfirm (src : Src) (words : List (BitVec 32)) (s : State) : Out := .next (s.writeConfirm src.key src.link.val words)

/-- ConfirmDelay has passed without a watchdog reset; `healthy` is the result of the self-test. -/
def execConfirmDelayExpiry (healthy : Bool) (s : State) : Out :=
  .next (if s.obj O.confirmPolicy = 0 && s.onTrial && healthy then s.confirmImage else s)

/-! ### The recovery loader (R758 to R761) -/

/-- The staging area: header sector, payload. -/
def stagingBase : Nat := 0x10000000
def stagingBytes : Nat := 0x201000

def State.stagedHeader (s : State) : List Byte := memBytes s.mem stagingBase 4096
def State.stagedImage (s : State) : List Byte := memBytes s.mem stagingBase (4096 + hdr s.stagedHeader 0x10 4)

/-- The staged image checked and copied (R739, R741): 1, or the code that fails it. -/
def State.loaderVerify (s : State) : Nat × State :=
  let h := s.stagedHeader
  let c := s.hdrCode h
  if c ≠ 0 then (c, s) else s.verifyImage h (memBytes s.mem (stagingBase + 0x1000) (hdr h 0x10 4))

def State.loaderFail (s : State) (code : Nat) : State := s.setObjs [(O.loaderState, 3), (O.loaderResult, code)]

/-- LoaderCommand 1: the image runs, with the window off; this is no slot boot. -/
def State.loaderRun (s : State) : State :=
  let h := s.stagedHeader
  let r := s.loaderVerify
  if r.1 = 1 then
    ((r.2.startImage 2 h false false).setObjs [(O.updateState, 0), (O.loaderState, 0), (O.loaderResult, 1), (O.hullReady, 0)])
  else r.2.loaderFail r.1

/-- The slot LoaderCommand 2 writes: one that is not valid, else the one of lower GENERATION. -/
def State.loaderSlot (s : State) : Nat :=
  if s.headerCode 0 ≠ 0 then 0
  else if s.headerCode 1 ≠ 0 then 1
  else if hdr (s.slotHeader 0) 8 4 ≤ hdr (s.slotHeader 1) 8 4 then 0 else 1

/-- The code that stops LoaderCommand 2 after verification: status words not erased, or an XIP hash (R753). -/
def programCode (img plain : List Byte) : Nat :=
  if hdrBytes img 0x200 16 ≠ List.replicate 16 0xFF then 2 else if !xipHashesOk img plain then 8 else 0

/-- LoaderCommand 2: the image is programmed and slot selection follows; `readback` as for an update. -/
def State.loaderProgram (s : State) (readback : Bool) : State :=
  let img := s.stagedImage
  let r := s.loaderVerify
  let c := programCode img (memBytes r.2.mem payloadBase (hdr img 0x10 4))
  if r.1 ≠ 1 then r.2.loaderFail r.1
  else if c ≠ 0 then r.2.loaderFail c
  else
    let t := r.2.writeSlot r.2.loaderSlot img readback
    if !readback then t.loaderFail 10
    else ((t.setObjs [(O.loaderState, 0), (O.loaderResult, 1)]).activate)

/-- A write of LoaderCommand. -/
def State.writeLoader (s : State) (k : SessKey) (kport : Nat) (words : List (BitVec 32)) (readback : Bool) : State :=
  let v := wordsNat words
  let h := s.stagedHeader
  let fits := v != 2 || decide (hdr h 0x1C 4 * 4096 ≤ 0x1000 + hdr h 0x10 4)
  s.writeReq k kport O.loaderCommand words
    { mode := s.mode = 1, range := fits, res := s.obj O.loaderState != 1 && s.obj O.loaderState != 2 } (fun s =>
    if v = 1 then s.loaderRun else if v = 2 then s.loaderProgram readback else s.zeroRange stagingBase stagingBytes)

def execVerifyAndRun (src : Src) (s : State) : Out := .next (s.writeLoader src.key src.link.val [1] true)
def execVerifyAndProgram (src : Src) (readback : Bool) (s : State) : Out := .next (s.writeLoader src.key src.link.val [2] readback)
def execStagingClear (src : Src) (s : State) : Out := .next (s.writeLoader src.key src.link.val [3] true)

/-! ### Keep records (R767, R769) -/

/-- A write of KeepSnapshotNow. -/
def State.writeSnapNow (s : State) (k : SessKey) (kport : Nat) (words : List (BitVec 32)) : State :=
  s.writeReq k kport O.keepSnapshotNow words {} State.snapshotDue

def execKeepSnapshotNow (src : Src) (words : List (BitVec 32)) (s : State) : Out := .next (s.writeSnapNow src.key src.link.val words)

/-- The period of snapshots has passed; with period 0 none is written on its own. -/
def execKeepSnapshotPeriod (s : State) : Out :=
  .next (if s.serving && s.obj O.keepSnapshotPeriod != 0 && s.obj O.hullReady = 1 && !s.clk.monitor then s.snapshotDue else s)

/-- A write of StartMode: a configuration record is written. -/
def State.writeStartMode (s : State) (k : SessKey) (kport : Nat) (words : List (BitVec 32)) : State :=
  let v := wordsNat words
  s.writeReq k kport O.startMode words {} (fun s => (s.setObj O.startMode v).keepWrite 1 [BitVec.ofNat 8 v, 0, 0, 0])

def execStartMode (src : Src) (words : List (BitVec 32)) (s : State) : Out := .next (s.writeStartMode src.key src.link.val words)

end Sys2Proof.Machine
end

