-- ==== Sys2Proof/Machine/Dma.lean ====
section
/-! DEFINITION. Commands of the DMA engine (R665 to R689). -/
namespace Sys2Proof.Machine
open Sys2Proof

def execChannelHead (src : Src) (c : Fin 32) (words : List (BitVec 32)) (s : State) : Out :=
  .next (s.writeChannelHead src.key src.link.val c words)

def execDoorbell (src : Src) (c : Fin 32) (words : List (BitVec 32)) (s : State) : Out := .next (s.writeDoorbell src.key src.link.val c words)

def execChannelResume (src : Src) (c : Fin 32) (words : List (BitVec 32)) (s : State) : Out :=
  .next (s.writeChannelResume src.key src.link.val c words)

def execChannelStop (src : Src) (c : Fin 32) (words : List (BitVec 32)) (s : State) : Out :=
  .next (s.writeChannelStop src.key src.link.val c words)

/-! ### Reading a descriptor (R671 to R673, R680, R681) -/

/-- A failed access: a bus error that is not from decode or protection is retried up to RetryLimit times, every other failure halts (R680). -/
def State.dmaFail (s : State) (c : Fin 32) (r : BusRes) : State :=
  match r with
  | .ok => s
  | .poison => s.haltChan c 2
  | .refused => s.haltChan c 3
  | .fetchFault => s.haltChan c 4
  | .decode => s.haltChan c 5
  | .protect => s.haltChan c 5
  | .busError =>
    if (s.chan c).attempts < s.obj (O.retryLimit c.val) then
      s.modChan c (fun x => { x with attempts := x.attempts + 1, retries := min (x.retries + 1) 15 })
    else s.haltChan c 1

/-- Bytes of a descriptor that have neither been moved nor received. -/
def DmaChan.open_ (x : DmaChan) : Nat :=
  match x.desc with
  | some d => d.length - x.done - x.rx.length
  | none => 0

/-- The receiving channel grants credit once what it granted has been used (R684). -/
def State.grantCredit (s : State) (c : Fin 32) : State :=
  let x := s.chan c
  match x.desc.bind DmaDesc.receives with
  | none => s
  | some dev =>
    let n := min x.open_ 65536
    if x.granted != 0 || n = 0 then s
    else (s.modChan c (fun x => { x with granted := n })).sendRouted true (s.mkMsg dev c.val 0x81 (leBytes 4 n))

/-- A descriptor with OWN = 1 has been read: a link, a refused one, or one to move (R673, R680). A link is one whatever its other fields hold
(log entry 149). -/
def State.takeDesc (s : State) (c : Fin 32) (d : DmaDesc) : State :=
  let s1 := (s.modChan c (fun x => { x with desc := some d, attempts := 0 })).setObj (O.channelRemaining c.val) (d.length - (s.chan c).done)
  if d.length = 0 then s1
  else if !d.ok then s1.haltChan c 5
  else s1.grantCredit c

/-- A stub: a pending doorbell has it read once more, otherwise the channel parks (R671, R678). -/
def State.takeStub (s : State) (c : Fin 32) : State :=
  let s1 := s.goDesc c (s.chanDesc c)
  if (s.chan c).bell then s1.modChan c (fun x => { x with bell := false }) else s1.setObj (O.channelState c.val) 2

/-- The channel reads the descriptor it stands at, whole. -/
def State.readDesc (s : State) (c : Fin 32) : State :=
  if s.chanState c != 1 || (s.chan c).desc.isSome then s
  else if !s.descPlace (s.chanDesc c) then s.haltChan c 5
  else match s.busRead 4 (s.chanDesc c) 32 with
    | (.ok, l, t) => if (dmaDesc l).own then t.takeDesc c (dmaDesc l) else t.takeStub c
    | (r, _, t) => t.dmaFail c r

def execDescriptorRead (c : Fin 32) (s : State) : Out := .next (s.readDesc c)

/-! ### Bursts (R666, R667) -/

/-- Credit held for a device and channel. -/
def State.credit (s : State) (p : Nat × Nat) : Nat := (s.dma.credits.filter (fun q => q.1 = p)).foldl (fun acc q => acc + q.2) 0

/-- The credit of a device and channel set. -/
def State.setCredit (s : State) (p : Nat × Nat) (n : Nat) : State :=
  let rest := s.dma.credits.filter (fun q => q.1 != p)
  s.modDma (fun d => { d with credits := if n = 0 then rest else rest ++ [(p, n)] })

/-- Bytes of the next burst of a channel, 0 where none is ready (R666, R684). -/
def State.burstSize (s : State) (c : Fin 32) : Nat :=
  let x := s.chan c
  match x.desc with
  | none => 0
  | some d =>
    let toEdge := fun (a : Nat) => 4096 - (a + x.done) % 4096
    let a := min (64 * 2 ^ d.burst) (d.length - x.done)
    let b := if d.srcKind = 0 then min a (toEdge d.src.toNat) else if d.srcKind = 2 then min a x.rx.length else a
    match d.sends with
    | some p => min b (s.credit p)
    | none => min b (toEdge d.dst.toNat)

/-- Whether a channel has a burst ready. -/
def State.burstReady (s : State) (c : Fin 32) : Bool := s.chanState c = 1 && s.burstSize c != 0

/-- The 32 channels. -/
def channels : List (Fin 32) := List.finRange 32

/-- The channel the arbiter grants: the highest priority, and among equals the next above the one it granted last (R667). -/
def State.granted (s : State) : Option (Fin 32) :=
  let l := channels.filter s.burstReady
  let top := l.foldl (fun m c => max m (s.obj (O.channelPriority c.val))) 0
  let eq := l.filter (fun c => s.obj (O.channelPriority c.val) = top)
  match s.dma.lastGrant.find? (fun p => p.1 = top) with
  | none => eq.head?
  | some p => (eq.find? (fun c => decide (p.2 < c.val))).orElse (fun _ => eq.head?)

/-- The bytes a burst takes from its source. -/
def State.burstRead (s : State) (x : DmaChan) (d : DmaDesc) (n : Nat) : BusRes × List Byte × State :=
  if d.srcKind = 0 then s.busRead 4 (d.src.toNat + x.done) n
  else if d.srcKind = 1 then (.ok, (List.range (n / 4)).flatMap (fun _ => leBytes 4 (fieldOf d.src 0 32)), s)
  else (.ok, x.rx.take n, s)

/-- BULK_DATA messages of at most 2,048 bytes (R684). -/
def State.sendBulk (s : State) (p : Nat × Nat) : Nat → List Byte → State
  | 0, _ => s
  | n + 1, l => if l = [] then s else State.sendBulk (s.sendRouted true (s.mkMsg p.1 p.2 0x80 (l.take 2048))) p n (l.drop 2048)

/-- The bytes a burst delivers to its destination. -/
def State.burstWrite (s : State) (x : DmaChan) (d : DmaDesc) (l : List Byte) : BusRes × State :=
  match d.sends with
  | some p => (.ok, (s.setCredit p (s.credit p - l.length)).sendBulk p 2 l)
  | none => s.busWrite .dma (d.dst.toNat + x.done) l

/-- Words of engine memory in a range that a store of a bundle in progress addresses: a background write of the same cycle loses them
(R107, R713; log entry 42). -/
def State.storesIn (s : State) (a n : Nat) : List Nat :=
  ((engines.flatMap (fun e => (s.engine e).stores.flatMap (fun r => r.words.map (·.1)))).filter (fun w => decide (a ≤ w) && decide (w < a + n))).eraseDups

/-- The bytes of a burst to address `a` without the words it loses, which keep what they hold. -/
def State.keepLost (s : State) (a : Nat) (l : List Byte) (lost : List Nat) : List Byte :=
  (l.zipIdx).map (fun p => if lost.any (fun w => decide (w ≤ a + p.2) && decide (a + p.2 < w + 4)) then memByte s.mem (a + p.2) else p.1)

/-- Words lost to collisions: COLLISION in the descriptor's STATUS, counted in LostWords; they are not written again (R679). -/
def State.noteCollision (s : State) (c : Fin 32) (k : Nat) : State :=
  if k = 0 then s else (s.modChan c (fun x => { x with collision := true })).count (O.lostWords c.val) 32 k

/-- A burst of `n` bytes has been moved. -/
def State.burstDone (s : State) (c : Fin 32) (n : Nat) : State :=
  let s1 := s.modChan c (fun x => { x with done := x.done + n, attempts := 0, rx := x.rx.drop n })
  let x := s1.chan c
  s1.setObjs [(O.bytesMoved c.val, wrapAdd 64 (s1.obj (O.bytesMoved c.val)) n),
    (O.channelRemaining c.val, ((x.desc.map (·.length)).getD 0) - x.done)]

/-- One burst of a channel. -/
def State.burst (s : State) (c : Fin 32) : State :=
  let x := s.chan c
  let n := s.burstSize c
  match x.desc with
  | none => s
  | some d =>
    match s.burstRead x d n with
    | (.ok, l, t) =>
      let a := d.dst.toNat + x.done
      let lost := if d.sends.isSome then [] else t.storesIn a n
      match t.burstWrite x d (t.keepLost a l lost) with
      | (.ok, u) => (u.noteCollision c lost.length).burstDone c n
      | (r, u) => u.dmaFail c r
    | (r, _, t) => t.dmaFail c r

/-- The arbiter grants the next burst (R667). -/
def execDmaBurst (s : State) : Out :=
  .next (match s.granted with
    | none => s
    | some c =>
      let p := s.obj (O.channelPriority c.val)
      (s.modDma (fun d => { d with lastGrant := (p, c.val) :: d.lastGrant.filter (fun q => q.1 != p) })).burst c)

/-! ### Completion (R674, R676) -/

/-- Every byte of the descriptor has been moved: write-back, then the next descriptor, or Idle after END. -/
def execDescriptorWriteBack (c : Fin 32) (s : State) : Out :=
  let x := s.chan c
  .next (match x.desc with
    | none => s
    | some d =>
      if s.chanState c != 1 || decide (x.done < d.length) then s
      else
        let t := s.writeBack c d true 0 1
        if d.last then (t.modChan c (fun _ => DmaChan.reset)).setObj (O.channelState c.val) 0 else t.goDesc c (d.next * 32))

/-! ### Transfers between devices (R684) -/

/-- A BULK_CREDIT arrives at the sender: credit for the receiving channel of a device. -/
def execBulkCredit (dev : BitVec 12) (session : BitVec 8) (n : BitVec 32) (s : State) : Out :=
  let p := (dev.toNat, session.toNat)
  .next ((s.takeMsg 0x81).setCredit p (s.credit p + n.toNat))

/-- BULK_DATA that no channel takes: counted, answered with BULK_ABORT. -/
def State.discardBulk (s : State) (dev session : Nat) : State :=
  (if session < 32 then s.count (O.bulkDiscards session) 32 1 else s).sendRouted true (s.mkMsg dev session 0x82 [])

/-- BULK_DATA arrives for a receiving channel, within its credit; anything else is discarded. -/
def execBulkData (dev : BitVec 12) (session : BitVec 8) (data : List Byte) (s : State) : Out :=
  let t := s.takeMsg 0x80
  let c : Fin 32 := ⟨session.toNat % 32, Nat.mod_lt _ (by decide)⟩
  let x := t.chan c
  let mine := session.toNat < 32 && t.chanState c = 1 && x.desc.bind DmaDesc.receives = some dev.toNat && decide (data.length ≤ x.granted)
  .next (if mine then (t.modChan c (fun x => { x with rx := x.rx ++ data, granted := x.granted - data.length })).grantCredit c
    else t.discardBulk dev.toNat session.toNat)

/-- Whether a descriptor belongs to a session of a device: it receives on channel `c` from it, or sends to its channel. -/
def DmaDesc.inSession (d : DmaDesc) (c : Fin 32) (dev session : Nat) : Bool :=
  (d.receives = some dev && c.val = session) || d.sends = some (dev, session)

/-- A remote failure: the channel halts with RESULT 6, and what it granted ends. -/
def State.remoteFail (s : State) (c : Fin 32) : State := (s.haltChan c 6).modChan c (fun x => { x with granted := 0 })

/-- BULK_ABORT halts the Running channel of its session; the credit of the session ends. -/
def execBulkAbort (dev : BitVec 12) (session : BitVec 8) (s : State) : Out :=
  let t := (s.takeMsg 0x82).setCredit (dev.toNat, session.toNat) 0
  let hit := channels.filter (fun c => t.chanState c = 1 && ((t.chan c).desc.map (fun d => d.inSession c dev.toNat session.toNat)).getD false)
  .next (hit.foldl State.remoteFail t)

/-- RemoteTimeout without progress: a Running fabric channel halts with RESULT 6 and tells its peer. -/
def execDmaRemoteTimeout (c : Fin 32) (s : State) : Out :=
  .next (match (s.chan c).desc with
    | none => s
    | some d => if s.chanState c = 1 && (d.receives.isSome || d.sends.isSome) then (s.remoteFail c).sendAbort c d else s)

end Sys2Proof.Machine
end

