-- ==== Sys2Proof/Machine/Locus.lean ====
section
/-! DEFINITION. Commands of the Locus journal: gaps, drain, acknowledgement, rings, summaries, the window (R483 to R494). -/
namespace Sys2Proof.Machine
open Sys2Proof

/-- A further slot is free: an open gap record closes (R490). -/
def execGapClose (s : State) : Out := .next s.closeGap

/-- Number of records that are final (R480). -/
def State.finalCount (s : State) : Nat :=
  match s.gap with
  | some g => g.seq
  | none => s.obj O.locusWriteSeq

/-- Records up to a number leave the on-chip ring (R482). -/
def State.freeUpTo (s : State) (n : Nat) : State := { s with locusFreed := max s.locusFreed n }

/-- A write of LocusAckSeq (R482, R486). -/
def State.writeLocusAck (s : State) (k : SessKey) (kport : Nat) (words : List (BitVec 32)) : State :=
  let v := wordsNat words
  s.writeReq k kport O.locusAckSeq words { range := decide (s.obj O.locusAckSeq ≤ v) && decide (v ≤ s.finalCount) } (fun s =>
    let t := s.setObj O.locusAckSeq v
    (if t.obj O.locusDrainEnable = 0 then t.freeUpTo v else t).closeGap)

def execLocusAckSeq (src : Src) (words : List (BitVec 32)) (s : State) : Out := .next (s.writeLocusAck src.key src.link.val words)

/-- A write of LocusDrainEnable: 1 stops channel 31 and gives it to the drain, which goes on with the first record still on chip (R495, R669). -/
def State.writeDrainEnable (s : State) (k : SessKey) (kport : Nat) (words : List (BitVec 32)) : State :=
  let v := wordsNat words
  s.writeReq k kport O.locusDrainEnable words { range := v = 0 || s.lpddrBytes != 0 } (fun s =>
    if v = 0 then s.setObj O.locusDrainEnable 0
    else
      let t := s.stopChan 31
      let n := max (t.obj O.locusDrainSeq) t.locusFreed
      let u := t.setObjs [(O.locusDrainEnable, 1), (O.locusDrainSeq, n)]
      if n = t.obj O.locusDrainSeq then u else { u with locusSum := { u.locusSum with drainLo := n } })

/-- A write of LocusRetainMode. The slots that acknowledgement has freed in mode 0 stay freed in mode 1 (R485). -/
def State.writeRetainMode (s : State) (k : SessKey) (kport : Nat) (words : List (BitVec 32)) : State :=
  s.writeReq k kport O.locusRetainMode words {} (fun s =>
    let t := if s.obj O.locusRetainMode = 0 then { s with locusSum := { s.locusSum with drainLo := max s.locusSum.drainLo (s.obj O.locusAckSeq) } } else s
    t.setObj O.locusRetainMode (wordsNat words))

def execLocusDrainEnable (src : Src) (words : List (BitVec 32)) (s : State) : Out := .next (s.writeDrainEnable src.key src.link.val words)

/-- Whether a ring of 2^k records at a base is aligned and fits the fitted LPDDR5X (R483). -/
def State.ringFits (s : State) (base k : Nat) : Bool :=
  base % (32 * 2 ^ k) = 0 && decide (0x1000000000 ≤ base) && decide (base + 32 * 2 ^ k ≤ 0x1000000000 + s.lpddrBytes)

def State.writeRingBase (s : State) (k : SessKey) (kport : Nat) (words : List (BitVec 32)) : State :=
  s.writeReq k kport O.lpddrRingBase words { mode := s.obj O.locusDrainEnable = 0, range := s.ringFits (wordsNat words) (s.obj O.lpddrRingLog2) }
    (fun s => s.setObj O.lpddrRingBase (wordsNat words))

def execLpddrRingBase (src : Src) (words : List (BitVec 32)) (s : State) : Out := .next (s.writeRingBase src.key src.link.val words)

def State.writeRingLog2 (s : State) (k : SessKey) (kport : Nat) (words : List (BitVec 32)) : State :=
  s.writeReq k kport O.lpddrRingLog2 words { mode := s.obj O.locusDrainEnable = 0, range := s.ringFits (s.obj O.lpddrRingBase) (wordsNat words) }
    (fun s => s.setObj O.lpddrRingLog2 (wordsNat words))

def execLpddrRingLog2 (src : Src) (words : List (BitVec 32)) (s : State) : Out := .next (s.writeRingLog2 src.key src.link.val words)

/-! ### The drain (R484, R485, R494) -/

/-- Bus address of record `r` in the LPDDR5X ring. -/
def State.lpddrRing (s : State) (r : Nat) : Nat := s.obj O.lpddrRingBase + 32 * (r % 2 ^ s.obj O.lpddrRingLog2)

/-- A held record with an uncorrectable word at `a` is rewritten as a gap record with CORRUPT = 1 and one record lost (R494). -/
def State.corruptRecord (s : State) (a : Nat) : State :=
  let b := leBytes 6 s.tick ++ leBytes 2 s.recordEpoch ++ leBytes 4 0 ++ [0x61] ++ leBytes 3 0 ++ leBytes 8 1 ++ leBytes 8 s.tick
  ((s.storeBytes a b).count O.locusDrainHalts 32 1).event 0x0A03 0

/-- A bus error of the drain: channel 31 halts (R494). -/
def State.haltDrain (s : State) : State := ((s.setObj (O.channelState 31) 3).count O.locusDrainHalts 32 1).event 0x0A02 0

/-- Whether the drain goes on: enabled, not halted, a final record to copy, room in the LPDDR5X ring in mode 0 (R485). -/
def State.drainReady (s : State) : Bool :=
  let q := s.obj O.locusDrainSeq
  s.obj O.locusDrainEnable = 1 && s.chanState 31 != 3 && decide (q < s.finalCount) &&
  (s.obj O.locusRetainMode = 1 || decide (q - s.obj O.locusAckSeq < 2 ^ s.obj O.lpddrRingLog2))

/-- One record is copied to the LPDDR5X ring, and its on-chip slot is freed. At an uncorrectable word of the record the channel halts, the
record is rewritten, and the drain restarts at once (R494, log entry 124). -/
def State.drainOne (s : State) : State :=
  let q := s.obj O.locusDrainSeq
  let dst := s.lpddrRing q
  if !s.drainReady then s
  else if !s.reachable dst then s.haltDrain
  else
    let s1 := match s.badIn (ringAddr q) 32 with
      | some a => ((s.noteBad 4 a).event 0x0A02 0).corruptRecord (ringAddr q)
      | none => s.noteSofts (ringAddr q) 32
    let ovf := s.obj O.locusRetainMode = 1 && decide (s.locusSum.drainLo + 2 ^ s.obj O.lpddrRingLog2 ≤ q)
    let s2 := (s1.storeBytes dst (s1.ringBytes q)).count O.locusOverwritten 64 (if ovf then 1 else 0)
    (s2.setObj O.locusDrainSeq (q + 1)).freeUpTo (q + 1)

/-- A burst of up to 64 records (R484). -/
def State.drainBurst : Nat → State → State
  | 0, s => s
  | n + 1, s => State.drainBurst n s.drainOne

def execLocusDrain (s : State) : Out := .next ((State.drainBurst 64 s).closeGap)

/-! ### Keep summaries (R491) -/

/-- The payload of a summary (R767). -/
def State.summaryBytes (s : State) : List Byte :=
  let x := s.locusSum
  leBytes 8 x.first ++ leBytes 8 (x.first + x.count - 1) ++ leBytes 8 x.firstTick ++ leBytes 8 x.lastTick ++
  leBytes 4 (s.obj O.locusChain) ++ leBytes 4 x.nonOk ++ leBytes 4 x.lost

/-- Firmware writes a summary once a period of records has become final, unless shedding has deferred it. -/
def execLocusSummary (s : State) : Out :=
  let x := s.locusSum
  .next (if decide (s.obj O.locusSummaryPeriod ≤ x.count) && s.obj O.hullShedStage = 0 && s.obj O.hullReady = 1 then
    let t := (s.keepWrite 4 s.summaryBytes).setObj O.locusSummarySeq (x.first + x.count - 1)
    { t with locusSum := { LocusSum.reset with first := x.first + x.count, drainLo := x.drainLo } }
  else s)

/-! ### The window (R492, R493) -/

/-- Where record `r` is held: on chip until its slot is freed, in the LPDDR5X ring once drained and not freed there. -/
def State.recordPlace (s : State) (r : Nat) : Option Nat :=
  let q := s.obj O.locusDrainSeq
  let size := 2 ^ s.obj O.lpddrRingLog2
  let lo := max s.locusSum.drainLo (if s.obj O.locusRetainMode = 0 then s.obj O.locusAckSeq else 0)
  if s.finalCount ≤ r then none
  else if s.locusFreed ≤ r then some (ringAddr r)
  else if lo ≤ r ∧ r < q ∧ q ≤ r + size then some (s.lpddrRing r) else none

/-- Whether a record passes LocusFilter. -/
def filterPasses (f : Nat) (b : List Byte) : Bool :=
  let at_ := fun i => ((b.getD i 0) : Byte).toNat
  let kind := at_ 12 / 16
  let idx := at_ 9 + 256 * at_ 10
  f.testBit (24 + kind) && (decide (4 < kind) ||
    (decide (f / 2 ^ 32 % 65536 ≤ idx) && decide (idx ≤ f / 2 ^ 48) && f.testBit (20 + at_ 12 / 4 % 4) && f.testBit (at_ 11 % 16)))

/-- The entries of the window from record `r` on: at most `n`, within `fuel` records. -/
def State.windowFrom : Nat → Nat → Nat → State → List Byte × State
  | 0, _, _, s => ([], s)
  | fuel + 1, r, n, s =>
    if n = 0 ∨ s.finalCount ≤ r then ([], s)
    else match s.recordPlace r with
      | none => State.windowFrom fuel (r + 1) n s
      | some a =>
        let s1 := match s.badIn a 32 with
          | some w => (s.noteBad 6 w).corruptRecord a
          | none => s.noteSofts a 32
        let b := memBytes s1.mem a 32
        if filterPasses (s1.obj O.locusFilter) b then
          let t := State.windowFrom fuel (r + 1) (n - 1) s1
          (leBytes 8 r ++ b ++ t.1, t.2)
        else State.windowFrom fuel (r + 1) n s1

/-- The snapshot of LocusWindow: from the first record held at or above LocusReadFrom, at most 8,192 entries. -/
def State.locusWindow (s : State) : List Byte × State :=
  let start := max (s.obj O.locusReadFrom) (min s.locusFreed (max s.locusSum.drainLo (s.obj O.locusDrainSeq - 2 ^ s.obj O.lpddrRingLog2)))
  State.windowFrom (s.finalCount - start) start 8192 s

end Sys2Proof.Machine
end

