-- ==== Sys2Proof/Machine/Domain.lean ====
section
/-! DEFINITION. Domain transfers: write and read units, staging, the DOMAIN objects (R448 to R455, R649 to R651, R751, R767). -/
namespace Sys2Proof.Machine
open Sys2Proof

/-! ### DOMAIN values, and what a read of one meets -/

/-- The value of a DOMAIN object, and the state after it is gathered. -/
def State.domainValue (s : State) (a : Nat) : List Byte × State := if a = O.locusWindow then s.locusWindow else (s.domainBytes a, s)

/-- The correctable words that a read of a parameter meets are logged (R699). -/
def State.readSofts (s : State) (a : Nat) : State :=
  match s.param a with
  | some p => if p.bind = 2 then s else s.noteSofts (s.paramAddr0 p) (4 * p.readWords)
  | none => s

/-- An uncorrectable word among the bound words of a DOMAIN parameter. -/
def State.domainBad (s : State) (a : Nat) : Option Nat := (s.param a).bind (fun p => s.badIn (s.paramAddr0 p) (4 * p.words))

/-! ### Write transfers (R449 to R452) -/

/-- Whether the mode permits a transfer to an object (R817, R744). -/
def State.domainMode (s : State) (a : Nat) : Bool := !s.monitorRefuses a true && (a != O.graphImage || s.obj O.powerState = 0)

/-- Words a parameter's transfer of `n` words would bank. -/
def State.domainRes (s : State) (k : SessKey) (a : Nat) (words : List (BitVec 32)) : Bool :=
  match s.param a with
  | some p => !s.paramBusy p && (p.bind != 0 || s.bankedFree k (p.bankWrites words))
  | none => true

/-- Whether another session holds an open write transfer on an object (R452). -/
def State.xferElsewhere (s : State) (k : SessKey) (a : Nat) : Bool :=
  s.sessions.any (fun x => x.key != k && (match x.xfer with
    | some t => t.obj = a
    | none => false))

/-- The result code of a START. -/
def State.startCode (s : State) (k : SessKey) (a total : Nat) : Nat :=
  match s.info a with
  | none => rcNoObject
  | some r =>
    if r.acc = .const ∨ r.acc = .ro then rcAccess
    else if !s.permits k a true then rcRights
    else if !s.domainMode a then rcMode
    else if r.ty ≠ .domain then rcType
    else if !s.totalOk a total || decide (s.stagingFor k < total) then rcRange
    else if s.xferElsewhere k a || !s.canEnter k || !s.domainRes k a (List.replicate (total / 4) 0) then rcBusy
    else rcOk

/-- A START: it opens the transfer and reserves staging. -/
def State.domainStart (s : State) (k : SessKey) (addr total : Nat) : State :=
  let a := addr % 2 ^ 24
  let c := s.startCode k a total
  let s1 := if c = rcOk then
      let t := (s.discardOpen k).takeStaging total
      t.setSession { t.session k with xfer := some { obj := a, total := total, words := [], nextSeq := 0 } }
    else s
  (s1.noteRights k a c true).answerUnit k addr c [0x10000000, BitVec.ofNat 32 total]

/-- Words of a transfer of `n` bytes. -/
def unitWords (n : Nat) : Nat := (n + 3) / 4

/-- A DATA unit with WORDS + 1 = `n`: its words are added in sequence, or the transfer is discarded (R450). -/
def State.domainData (s : State) (k : SessKey) (addr seq n : Nat) (words : List (BitVec 32)) : State :=
  let a := addr % 2 ^ 24
  match s.openXfer k a with
  | none => s.answerUnit k addr rcSequence []
  | some x =>
    if seq ≠ x.nextSeq ∨ words.length ≠ n ∨ unitWords x.total < x.words.length + n then (s.closeXfer k 0).answerUnit k addr rcSequence []
    else
      (s.setSession { s.session k with xfer := some { x with words := x.words ++ words, nextSeq := (seq + 1) % 4096 } }).answerUnit k addr rcOk []

/-- The result code of an END (R435 steps 4 to 8, R450, R451, R650, R752). -/
def State.endCode (s : State) (k : SessKey) (a : Nat) (x : Xfer) (crc : BitVec 32) : Nat :=
  if x.words.length ≠ unitWords x.total ∨ ((wordsBytes x.words).drop x.total).any (fun b => b != 0) then rcSequence
  else if crc32c x.bytes ≠ crc then rcChecksum
  else if (s.info a).isNone then rcNoObject
  else if !s.domainMode a || (a = O.graphImage && s.clk.monitor) || (a = O.updateImage && !s.updateFree) then rcMode
  else if a = O.periphRequest && (perParse x.words).isNone then rcRange
  else if (endServed a && !s.firmwareCan a true) || (a = O.periphRequest && s.per.isSome) || !s.domainRes k a x.words then rcBusy
  else if s.isStrict a && s.journalFull then rcJournal
  else rcOk

/-- The effect of a transferred value. -/
def State.domainEffect (s : State) (k : SessKey) (a : Nat) (x : Xfer) : State :=
  match s.param a with
  | some p => s.paramEffect k p x.words
  | none =>
    if a = O.graphImage then s.offerImage x.bytes
    else if a = O.updateImage then s.takeUpdate x.bytes
    else if a = O.keepUser then s.keepWrite 5 x.bytes
    else match perParse x.words with
      | some l => s.perStart l
      | none => s

/-- Staging that an accepted image keeps: a graph for as long as it is loaded, an update until it is performed (R697; log entry 55). -/
def keptStaging (a : Nat) (x : Xfer) : Nat := if a = O.graphImage ∨ a = O.updateImage then x.total else 0

/-- An END of an open transfer with its result code known. -/
def State.endXfer (s : State) (k : SessKey) (kport addr : Nat) (x : Xfer) (c : Nat) : State :=
  let a := addr % 2 ^ 24
  if c = rcOk then (((s.closeXfer k (keptStaging a x)).domainEffect k a x).journal (s.endRecord k kport addr x c)).answerUnit k addr c []
  else s.refuseEnd k kport addr x c

/-- An END: the transfer is checked and applied. -/
def State.domainEnd (s : State) (k : SessKey) (kport addr : Nat) (crc : BitVec 32) : State :=
  match s.openXfer k (addr % 2 ^ 24) with
  | none => s.answerUnit k addr rcSequence []
  | some x => s.endXfer k kport addr x (s.endCode k (addr % 2 ^ 24) x crc)

/-- An ABORT: the transfer is discarded, and answered OK. -/
def State.domainAbort (s : State) (k : SessKey) (kport addr : Nat) : State :=
  match s.openXfer k (addr % 2 ^ 24) with
  | none => s.answerUnit k addr rcSequence []
  | some x => s.abortXfer k kport addr x rcOk

/-! ### Read transfers (R453, R454) -/

/-- The result code of a READ_START for a value of `n` bytes. -/
def State.readStartCode (s : State) (k : SessKey) (a n : Nat) : Nat :=
  match s.info a with
  | none => rcNoObject
  | some r =>
    if r.acc = .wo then rcAccess
    else if !s.permits k a false then rcRights
    else if s.monitorRefuses a false then rcMode
    else if r.ty ≠ .domain then rcType
    else if s.stagingFor k < n then rcRange
    else if !s.canEnter k || (firmwareServed a false && !s.firmwareCan a false) then rcBusy
    else if (s.domainBad a).isSome then rcMemory
    else rcOk

/-- A READ_START: a snapshot of the whole value. -/
def State.readStart (s : State) (k : SessKey) (addr : Nat) : State :=
  let a := addr % 2 ^ 24
  let v := s.domainValue a
  let c := s.readStartCode k a v.1.length
  let s1 := if c = rcOk then
      let t := ((v.2.readSofts a).discardOpen k).takeStaging v.1.length
      t.setSession { t.session k with snap := some (a, v.1) }
    else match c == rcMemory, s.domainBad a with
      | true, some w => s.noteBad 6 w
      | _, _ => s
  (s1.noteRights k a c false).answerUnit k addr c [0x10000000, BitVec.ofNat 32 v.1.length, crc32c v.1]

/-- The snapshot of a session on an object. -/
def State.openSnap (s : State) (k : SessKey) (a : Nat) : Option (List Byte) :=
  match (s.session k).snap with
  | some p => if p.1 = a then some p.2 else none
  | none => none

/-- Words of a snapshot from an offset, ones past its end. -/
def snapWords (l : List Byte) (off n : Nat) : List (BitVec 32) :=
  let w := bytesWords l
  (List.range n).map (fun i => w.getD (off + i) 0xFFFFFFFF)

/-- OVERRUN is set (R645). -/
def State.overrun (s : State) : State := { s with hsp := { s.hsp with flags := s.hsp.flags ||| 2 } }

/-- A READ_DATA of WORDS + 1 = `n` words; `seq` is echoed. -/
def State.readData (s : State) (k : SessKey) (addr seq n off : Nat) : State :=
  match s.openSnap k (addr % 2 ^ 24) with
  | none => s.answerUnit k addr rcSequence []
  | some l =>
    let past := decide (unitWords l.length < off + n)
    (if past then s.overrun else s).answerUnit k addr rcOk
      (BitVec.ofNat 32 (0x20000000 + seq * 65536 + (n - 1)) :: snapWords l off n)

/-- A READ_END: the snapshot is released. -/
def State.readEnd (s : State) (k : SessKey) (addr : Nat) : State :=
  match s.openSnap k (addr % 2 ^ 24) with
  | none => s.answerUnit k addr rcSequence []
  | some _ => (s.closeXfer k 0).answerUnit k addr rcOk [0x70000000]

/-! ### A unit as words (R448) -/

/-- A unit by its KIND (R449 to R453); an END or ABORT with a wrong number of words is a sequence error like any other word count that
does not match (R436; log entry 58). -/
def State.unitOf (s : State) (k : SessKey) (kport addr kind seq n : Nat) (body : List (BitVec 32)) : State :=
  if kind = 2 then s.domainData k addr seq n body
  else match body with
    | [] =>
      if kind = 4 then s.domainAbort k kport addr
      else if kind = 5 then s.readStart k addr
      else if kind = 7 then s.readEnd k addr
      else s.refuseUnit k kport addr kind rcSequence
    | [w] =>
      if kind = 1 then s.domainStart k addr w.toNat
      else if kind = 3 then s.domainEnd k kport addr w
      else if kind = 6 then s.readData k addr seq n w.toNat
      else s.refuseUnit k kport addr kind rcSequence
    | _ => s.refuseUnit k kport addr kind rcSequence

/-- A unit presented by a session under an address: its control word and its words. -/
def State.domainUnit (s : State) (k : SessKey) (kport addr : Nat) (unit : List (BitVec 32)) : State :=
  match unit with
  | [] => s.answerUnit k addr rcMalformed []
  | c :: body =>
    if !controlOk c.toNat then s.refuseUnit k kport addr (c.toNat / 2 ^ 28) rcMalformed
    else s.unitOf k kport addr (c.toNat / 2 ^ 28) (c.toNat / 2 ^ 16 % 4096) (c.toNat % 512 + 1) body

/-! ### The commands -/

/-- A unit while the dictionary serves requests. -/
def State.unitReq (s : State) (f : State → State) : State := if s.serving then f s else s

def execDomainStart (src : Src) (a : BitVec 24) (total : BitVec 32) (s : State) : Out :=
  .next (s.unitReq (fun s => s.domainStart src.key a.toNat total.toNat))

def execDomainData (src : Src) (a : BitVec 24) (seq : BitVec 12) (n : Fin 256) (words : List (BitVec 32)) (s : State) : Out :=
  .next (s.unitReq (fun s => s.domainData src.key a.toNat seq.toNat (n.val + 1) words))

def execDomainEnd (src : Src) (a : BitVec 24) (crc : BitVec 32) (s : State) : Out :=
  .next (s.unitReq (fun s => s.domainEnd src.key src.link.val a.toNat crc))

def execDomainAbort (src : Src) (a : BitVec 24) (s : State) : Out := .next (s.unitReq (fun s => s.domainAbort src.key src.link.val a.toNat))

def execReadStart (src : Src) (a : BitVec 24) (s : State) : Out := .next (s.unitReq (fun s => s.readStart src.key a.toNat))

def execReadData (src : Src) (a : BitVec 24) (n : Fin 256) (offset : BitVec 32) (s : State) : Out :=
  .next (s.unitReq (fun s => s.readData src.key a.toNat 0 (n.val + 1) offset.toNat))

def execReadEnd (src : Src) (a : BitVec 24) (s : State) : Out := .next (s.unitReq (fun s => s.readEnd src.key a.toNat))

/-- The ENDs with a rule of their own: PeriphRequest (R650), UpdateImage (R751), KeepUser (R767). -/
def execPeriphRequest (src : Src) (crc : BitVec 32) (s : State) : Out :=
  .next (s.unitReq (fun s => s.domainEnd src.key src.link.val O.periphRequest crc))

def execUpdateImage (src : Src) (crc : BitVec 32) (s : State) : Out :=
  .next (s.unitReq (fun s => s.domainEnd src.key src.link.val O.updateImage crc))

def execKeepUser (src : Src) (crc : BitVec 32) (s : State) : Out :=
  .next (s.unitReq (fun s => s.domainEnd src.key src.link.val O.keepUser crc))

/-- DomainTimeout has passed without a unit of the session's transfer (R455, R437). -/
def execDomainTimeout (src : Src) (s : State) : Out :=
  let k := src.key
  let x := s.session k
  let gone := fun (s : State) (a : Nat) => ((s.closeXfer k 0).count O.domainAborts 32 1).event 0x0D02 a
  .next (match x.xfer, x.snap with
    | some t, _ => (gone s t.obj).journal (s.recordOf k src.link.val 4 t.obj rcOk 0 t.received false)
    | none, some p => gone s p.1
    | none, none => s)

/-- A fabric session idle for SessionIdleRelease seconds, with no open set and no open transfer (R447). -/
def execSessionRelease (dev : BitVec 12) (num : BitVec 8) (s : State) : Out :=
  let k := SessKey.fabric dev.toNat num.toNat
  .next (if (s.session k).busy || (s.openSet k).isSome then s else { s with sessions := s.sessions.filter (fun x => x.key != k) })

/-- The master has performed every record; `rx` are the words it received (R651). -/
def execPeriphDone (rx : List (BitVec 32)) (s : State) : Out :=
  .next (match s.per with
    | none => s
    | some l =>
      let widths := l.flatMap (fun r => r.tx.map (fun _ => r.bits))
      let got := (widths.zipIdx).map (fun w => BitVec.ofNat 32 ((rx.getD w.2 0).toNat % 2 ^ w.1))
      ((({ s with per := none, perResp := got } : State).setObj O.periphState 2).count O.periphTransfers 32 l.length))

end Sys2Proof.Machine
end

