-- ==== Sys2Proof/Machine/Modes.lean ====
section
/-! DEFINITION. Operating modes, Safe-mute pins, temperature, rails and shed stages (R20 to R43, R848 to R851). -/
namespace Sys2Proof.Machine
open Sys2Proof

/-! ### Changes of mode (R28, R34, R35, R42) -/

/-- Whether the Patchbay programs run or start. -/
def State.pbOn (s : State) : Bool := s.obj O.patchbayState != 0

/-- A mode is entered with its cause at a boundary. Among Hosted, Autonomous and Fabric member only placement authority changes;
into or out of Patchbay and Recovery the outputs fade, and the program changes. Out of Safe-mute the program that ran decides. -/
def State.changeMode (s : State) (m cause : Nat) : State :=
  let was := if s.mode = 6 then s.obj O.resumeMode else s.mode
  let s1 := (s.unmute .safeMute).enterMode m cause
  if m = 1 ∨ m = 2 then
    if was = m && s.pbOn then s1
    else (if m = 1 then (s1.event 0x0B02 cause).romLoader else s1).toPatchbay
  else if s.pbOn then (s1.mute .modeChange).patchbayStop
  else s1

/-- Whether the precondition of R28 for a requested mode holds. -/
def State.modeReady (s : State) (v : Nat) : Bool :=
  let graph := s.obj O.graphState = 2 || s.obj O.graphState = 3
  if v = 3 ∨ v = 4 then graph else if v = 5 then graph && s.obj O.fabricState = 3 else true

/-- A write of ModeRequest (R32, R33, R41, R42, R817). -/
def State.writeMode (s : State) (k : SessKey) (kport : Nat) (words : List (BitVec 32)) : State :=
  let v := wordsNat words
  let free := s.mode != 0 && s.mode != 7 && s.obj O.powerState = 0 && (s.mode != 6 || s.obj O.safeMuteCause = 0)
  let resume := s.mode = 6 && v = s.obj O.resumeMode
  s.writeReq k kport O.modeRequest words { mode := free && (resume || s.modeReady v) } (fun s =>
    ({ s with pendMode := some (v, 7) } : State).setObj O.pendingStartMode 0)

def execModeRequest (src : Src) (words : List (BitVec 32)) (s : State) : Out := .next (s.writeMode src.key src.link.val words)

/-- The requested mode is entered at the boundary. -/
def State.applyMode (s : State) : State :=
  match s.pendMode with
  | some (m, cause) => ({ s with pendMode := none } : State).changeMode m cause
  | none => s

/-- The pending start mode is entered at the first boundary after a graph is placed, for mode 5 once FabricState is 3 (R32). In
Safe-mute it goes on waiting (log entry 70). -/
def execPendingStartModeEntry (s : State) : Out :=
  let p := s.obj O.pendingStartMode
  .next (if p != 0 && s.obj O.graphState = 2 && (p != 5 || s.obj O.fabricState = 3) && decide (1 ≤ s.mode ∧ s.mode ≤ 5) && s.obj O.powerState = 0 then
    (s.changeMode p 8).setObj O.pendingStartMode 0
  else s)

/-- A boundary with every cause clear, where MUTE_N was the only one: back to ResumeMode (R40). -/
def State.autoExit (s : State) : State :=
  if s.mode = 6 && !s.otherCause && s.obj O.safeMuteCause = 0 then s.changeMode (s.obj O.resumeMode) 0x0B else s

/-- A mode has been entered from Secure start, or Run from a lower power state: a cause that stands enters Safe-mute (R36, R824). -/
def State.muteIfCaused (s : State) : State :=
  if s.obj O.safeMuteCause != 0 && decide (1 ≤ s.mode ∧ s.mode ≤ 5) then s.enterSafeMute
  else if s.mode = 7 && (s.obj O.safeMuteCause).testBit 4 then s.mute .muteInService
  else s

/-! ### MUTE_N (R36, R40, R840) -/

def execMuteNAssert (s : State) : Out :=
  let s1 : State := { s with clk := { s.clk with muteLow := true } }
  .next (if s.life = .up && decide (s.obj O.powerState ≤ 3) then s1.raiseCause 4 else s1)

def execMuteNRelease (s : State) : Out :=
  let s1 : State := { s with clk := { s.clk with muteLow := false } }
  .next (if s.life = .up then s1.clearCause 4 else s1)

/-! ### Temperature and rails (R43, R848 to R851) -/

/-- DieTemperature and PeakTemperature of a sample. -/
def State.noteTemp (s : State) (t : BitVec 16) : State :=
  let peak := (BitVec.ofNat 32 (s.obj O.peakTemperature)).toInt
  s.setObjs [(O.dieTemperature, intObj t.toInt), (O.peakTemperature, intObj (if peak < t.toInt then t.toInt else peak))]

/-- The warning threshold. -/
def State.warnTemp (s : State) (t : BitVec 16) : State :=
  if !s.clk.warn && decide (1600 ≤ t.toInt) then ({ s with clk := { s.clk with warn := true } } : State).event 0x0C10 t.toNat
  else if s.clk.warn && decide (t.toInt < 1552) then ({ s with clk := { s.clk with warn := false } } : State).event 0x0C11 t.toNat
  else s

/-- The Safe-mute threshold. -/
def State.muteTemp (s : State) (t : BitVec 16) : State :=
  let set := (s.obj O.safeMuteCause).testBit 2
  if !set && decide (1760 ≤ t.toInt) then (s.event 0x0C12 t.toNat).raiseCause 2
  else if set && decide (t.toInt ≤ 1680) then (s.clearCause 2).event 0x0C13 t.toNat
  else s

/-- Bytes of the Keep store, which no reset clears (R726). -/
def keepCell (c : Host.Cell) : Bool := isKeep c.1

/-- The device in reset: the pins, the always-on island, the Keep store, the flash, the fuses and the board remain (log entry 54). -/
def State.hold (s : State) : State :=
  { State.reset with
    pending := s.pending, mem := s.mem.filter keepCell, bad := s.bad.filter isKeep, soft := s.soft.filter isKeep, freeCtr := s.freeCtr
    clk := { Clk.reset with resetN := s.clk.resetN, pwrgd := s.clk.pwrgd, muteLow := s.clk.muteLow, bootsel := s.clk.bootsel }
    aon := { Aon.reset with shutdownTemp := s.aon.shutdownTemp }, board := s.board, test := s.test, flash := s.flash, fuses := s.fuses }

/-- Every clock stops and FAULT_N is driven low; the always-on island holds the temperature. Nothing of the tick in progress is completed,
and as only RESET_N ends the stop, the blocks are held as in reset (R43, R849). -/
def State.shutdown (s : State) (t : BitVec 16) : State :=
  let h := s.hold.setObjs [(O.resetCause, s.obj O.resetCause), (O.resetCount, s.obj O.resetCount)]
  { h with life := .stopped, clk := { h.clk with faultN := true }, aon := { h.aon with shutdownTemp := some (intObj t.toInt) } }

/-- A sample of the hottest sensor, in 1/16 °C. -/
def execThermalSample (t : BitVec 16) (s : State) : Out :=
  .next (if s.life = .inReset || s.life = .stopped then s
    else
      let s1 := ((s.noteTemp t).warnTemp t).muteTemp t
      if 1920 ≤ t.toInt then s1.shutdown t else s1)

/-- The rail monitor finds a rail out of its range; there is no reset. -/
def execRailFault (rail : Fin 9) (mv : BitVec 16) (s : State) : Out :=
  .next (if s.life != .up then s
    else ((s.setObj (O.railVoltage rail.val) mv.toNat).count O.railFaults 32 1).event 0x0C15 (rail.val + mv.toNat * 256))

/-! ### Hull load and shed stages (R20 to R22) -/

/-- HullLoad of a window of ticks: the percentage of HULL cycles outside the idle loop, to nearest with ties to even (R20). -/
def hullLoadOf (l : List (Nat × Nat)) : Nat :=
  (roundHalfEven (100 * ((l.map (·.1)).foldl (· + ·) 0 : Nat)) ((l.map (·.2)).foldl (· + ·) 0)).toNat

/-- HullLoad over the last 4,096 ticks, `busy` of `total` HULL cycles of the last one outside the idle loop, and the ticks for which it
has been high or low (R20, R22). -/
def State.noteLoad (s : State) (busy total : Nat) : State :=
  let l := ((min busy total, total) :: s.clk.loads).take 4096
  let load := hullLoadOf l
  let s1 := s.setObj O.hullLoad load
  { s1 with clk := { s1.clk with
      loads := l
      highTicks := if 90 ≤ load then min 4096 (s1.clk.highTicks + 1) else 0
      lowTicks := if load < 70 then min 4096 (s1.clk.lowTicks + 1) else 0 } }

def State.shedTo (s : State) (stage : Nat) : State :=
  (({ s with clk := { s.clk with highTicks := 0, lowTicks := 0 } } : State).setObj O.hullShedStage stage).event 0x0301 stage

def execShedStageAdvance (s : State) : Out :=
  .next (if decide (4096 ≤ s.clk.highTicks) && decide (s.obj O.hullShedStage < 3) then s.shedTo (s.obj O.hullShedStage + 1) else s)

def execShedStageRetreat (s : State) : Out :=
  .next (if decide (4096 ≤ s.clk.lowTicks) && decide (0 < s.obj O.hullShedStage) then (s.shedTo (s.obj O.hullShedStage - 1)).reoptDue else s)

end Sys2Proof.Machine
end

