-- ==== Sys2Proof/Machine/Power.lean ====
section
/-! DEFINITION. Reset and the power ladder (R28 to R30, R726, R804, R812 to R824, R834 to R837, R849). -/
namespace Sys2Proof.Machine
open Sys2Proof

/-! ### Reset (R836) -/

/-- A reset with its ResetCause; ResetCount counts it. -/
def State.hardReset (s : State) (cause : Nat) : State :=
  s.hold.setObjs [(O.resetCause, cause), (O.resetCount, (s.obj O.resetCount + 1) % 2 ^ 32)]

/-- ResetCause of a reset by a pin: 0 for PWRGD, 1 for RESET_N, 3 for RESET_N after a thermal shutdown (R836, R849). -/
def State.pinCause (s : State) (power : Bool) : Nat := if power then 0 else if s.life = .stopped then 3 else 1

/-- PWRGD falls (`power`), or RESET_N is low for at least 1 µs. A reset that runs goes on; a thermal shutdown ends only through RESET_N (R43). -/
def execReset (power : Bool) (s : State) : Out :=
  let t : State := if s.life = .inReset || (s.life = .stopped && power) then s else
    let r := s.hardReset (s.pinCause power)
    if s.obj O.powerState = 0 || power then r else r.setObj O.lastWakeCause 4
  .next { t with clk := { t.clk with resetN := t.clk.resetN && power, pwrgd := t.clk.pwrgd && !power } }

/-- The power-on fill begins, and the PLLs start to acquire (R726, R790). -/
def State.startFill (s : State) : State :=
  ({ s with life := .filling } : State).setObjs
    [(O.enginePllState, 1), (O.mediaState, 1), (O.pllState 0, 1), (O.pllState 1, 1), (O.pllState 2, 1)]

/-- The reset ends once RESET_N and PWRGD are both high. -/
def State.tryFill (s : State) : State := if s.life = .inReset && s.clk.resetN && s.clk.pwrgd then s.startFill else s

/-- RESET_N rises: BOOTSEL is sampled (R29). -/
def execResetRelease (bootsel : Fin 4) (s : State) : Out :=
  .next (if s.life = .inReset && !s.clk.resetN then
    ({ s with clk := { s.clk with resetN := true, bootsel := bootsel.val } } : State).tryFill
  else s)

/-- PWRGD has been high for 1 ms. -/
def execPwrgdHigh (s : State) : Out :=
  .next (if s.life = .inReset || s.life = .stopped then ({ s with clk := { s.clk with pwrgd := true } } : State).tryFill else s)

/-! ### The end of the power-on fill (R28, R30, R655, R726, R737) -/

/-- The first record after a reset (R477, R478). -/
def State.resetMarker (s : State) : State :=
  let last := match s.keepPayload 4 with
    | some l => leNat ((l.drop 8).take 8)
    | none => 0
  s.journal { obj := O.resetCause, result := 0, kind := 5, origin := 0, digest := false, session := 0, port := 0, device := 0,
              old := last, new := s.obj O.resetCause, tick := s.tick }

/-- What the always-on island holds of a thermal shutdown is shown (R849). -/
def State.showShutdown (s : State) : State :=
  match s.aon.shutdownTemp with
  | some t => ((({ s with aon := { s.aon with shutdownTemp := none } } : State).setObj O.lastShutdownTemperature t)).event 0x0C14 (t % 65536)
  | none => s

/-- LPDDR5X is initialised, and domain staging lies in it where it is fitted (R454, R470). -/
def State.initBoard (s : State) (lpddr : Nat) : State :=
  let s1 := ({ s with board := { lpddrMib := lpddr } } : State).setObj O.lpddrCapacity lpddr
  if lpddr = 0 then s1 else s1.setObj O.domainStagingFree (min (lpddr * 0x100000) (2 ^ 30))

/-- The flash port after its start: the parameter table gives the capacity, and 8D-8D-8D where it declares it and the check of the entry holds
(R655, R656). -/
def State.initFlash (s : State) (f : FlashStart) (mib : Nat) : State :=
  (s.modXip (fun x => { x with bad := f.bad.map (·.toNat) })).setObjs [(O.flashMode, if f.octal && f.checked then 1 else 0), (O.flashCapacity, mib)]

/-- Slot selection after a reset; with no image the device enters Recovery. -/
def State.bootSlots (s : State) : State :=
  let r := s.slotSelect none
  if r.1 then r.2 else (r.2.enterRecovery 6).muteIfCaused

/-- The ROM acts on BOOTSEL (R28, R30, R737); a Dormant exit has its own ModeCause (R822). -/
def State.romStart (s : State) (f : FlashStart) (mib : Nat) : State :=
  let dormant := s.obj O.resetCause = 2
  let locked := s.obj O.debugLocked = 1
  let cause := fun (c : Nat) => if dormant then 0x0C else c
  if s.clk.bootsel = 1 then (((s.setObj O.modeCause (cause 0)).initFlash f mib).enterRecovery 2).muteIfCaused
  else if s.clk.bootsel = 2 then
    let s1 := s.enterMode 2 (cause 3)
    (({ s1 with clk := { s1.clk with monitor := true } } : State).patchbayBegin).muteIfCaused
  else if s.clk.bootsel = 3 && !locked then (s.enterMode 7 (cause 4)).muteIfCaused
  else ((s.setObj O.modeCause (cause (if s.clk.bootsel = 3 then 5 else 1))).initFlash f mib).bootSlots

/-- Memory after the power-on fill, with what the Keep store and the fuses give (R720, R726, R745). -/
def State.filled (s : State) : State := ((s.keepRepairs).fill).loadFuses

/-- The device before the ROM acts: the engine clock of its grade, the board, the first journal record, a shutdown that was kept. -/
def State.released (s : State) (lpddr : Nat) : State :=
  let s1 := (({ s with life := .up } : State).setObj O.engineFrequency s.gradeMax).rebudget
  ((s1.initBoard lpddr).resetMarker).showShutdown

/-- MUTE_N low at the release sets its cause bit (R36, R40). -/
def State.muteAtStart (s : State) : State := if s.clk.muteLow then s.raiseCause 4 else s

/-- The fill is complete and the Hull core is released into the ROM. The operands are what it finds: MiB of LPDDR5X fitted, what
the flash port finds, and MiB of flash. -/
def execPowerOnFillComplete (lpddr : Fin 16385) (flash : FlashStart) (flashMib : BitVec 16) (s : State) : Out :=
  .next (if s.life != .filling then s else (((s.filled).released lpddr.val).muteAtStart).romStart flash flashMib.toNat)

/-! ### Down the ladder (R814 to R819) -/

/-- One step of the ladder: PowerState changed, counted, with its event. -/
def State.setPower (s : State) (v : Nat) : State :=
  let old := s.obj O.powerState
  ((s.setObj O.powerState v).count O.powerTransitions 32 1).event 0x0C00 (v + old * 256)

/-- Coast: ENG is gated, and links are in fast idle. -/
def State.coastStep (s : State) : State :=
  let s1 := s.finishTick
  let s2 := ports.foldl (fun s k => if s.linkState k = 4 || s.linkState k = 5 then s.setLink k 7 else s) s1
  s2.setPower 1

/-- A power bank taken to a state by the ladder, its state before kept; a bank that is off stays off. -/
def State.bankDown (s : State) (a v : Nat) : State :=
  let old := s.obj a
  if v ≤ old then s
  else
    let keep := if s.clk.savedBanks.any (fun p => p.1 = a) then s.clk.savedBanks else s.clk.savedBanks ++ [(a, old)]
    ({ s with clk := { s.clk with savedBanks := keep } } : State).setObj a v

/-- Objects of the Orbit and engine power banks, and of Hull SRAM. -/
def coreBanks : List Nat := (List.range 24).map O.orbitPowerBank ++ (List.range 8).map O.enginePowerBank
def hullBanks : List Nat := (List.range 4).map O.hullPowerBank

/-- Doze: DMA stops, memories go to retention, links to deep idle, the engine PLL off. -/
def State.dozeStep (s : State) : State :=
  let s1 := (List.finRange 32).foldl (fun s c => s.stopChan c) s
  let s2 := coreBanks.foldl (fun s a => s.bankDown a 1) s1
  let s3 := ports.foldl (fun s k => if s.linked k then s.setLink k 8 else s) s2
  (({ s3 with clk := { s3.clk with engLock := false } } : State).setObj O.enginePllState 0).setPower 2

/-- A port off at once, without the fade. -/
def State.portCut (s : State) (p : Fin 4) : State :=
  if s.portState p = 0 then s
  else (((s.setConv p true 0).setConv p false 0).setPort p 0).modSap p Sap.anew

/-- Nap: the media word stored, ports and media PLL off, memories off, Hull SRAM in retention. -/
def State.napStep (s : State) : State :=
  let s1 : State := { s with aon := { s.aon with mediaWord := some s.mediaOffset } }
  let s2 := (ports.foldl State.portCut s1).setObj O.mediaState 0
  let s3 := coreBanks.foldl (fun s a => s.bankDown a 2) s2
  let s4 := hullBanks.foldl (fun s a => s.bankDown a 1) s3
  s4.setPower 3

/-- SEQ and payload of the current record of an area. -/
def State.keepPair (s : State) (kind : Nat) : Option (Nat × List Byte) :=
  match s.keepCurrent kind, s.keepPayload kind with
  | some i, some l => some (s.keepSeq (keepSlot kind i), l)
  | _, _ => none

/-- Bytes a record takes in the cache. -/
def keepBytes (r : Option (Nat × List Byte)) : Nat :=
  match r with
  | some p => 80 + pad8 p.2.length
  | none => 0

/-- The Keep cache takes the current records; where they exceed 1 MiB the snapshot is made current in the store and not held (R815). -/
def State.fillCache (s : State) : State :=
  let c := s.keepPair 1
  let d := s.keepPair 3
  if keepBytes c + keepBytes d ≤ 0x100000 then { s with aon := { s.aon with config := c, snapshot := d } }
  else
    let t := if s.keepPayload 3 = some s.snapshotBytes then s else s.writeSnapshot
    { t with aon := { t.aon with config := c, snapshot := none } }

/-- Sleep: the cache filled, Hull SRAM off, the system, SerDes and DDR PLLs off. -/
def State.sleepStep (s : State) : State :=
  let s1 := hullBanks.foldl (fun s a => s.bankDown a 2) s.fillCache
  (s1.setObjs [(O.pllState 0, 0), (O.pllState 1, 0), (O.pllState 2, 0)]).setPower 4

/-- One step down from a state. -/
def State.stepDown (s : State) : State :=
  match s.obj O.powerState with
  | 0 => s.coastStep
  | 1 => s.dozeStep
  | 2 => s.napStep
  | 3 => s.sleepStep
  | 4 => s.setPower 5
  | _ => s

/-- The steps from a state down to its target, in order, each once. -/
def State.descend : Nat → State → State
  | 0, s => s
  | n + 1, s => if s.obj O.powerState < s.clk.powTarget then State.descend n s.stepDown else { s with clk := { s.clk with powTarget := 0 } }

/-! ### Back to Run (R821, R822) -/

/-- Power banks back to the states they had; one woken from off is cleared (R725). -/
def State.banksUp (s : State) : State :=
  let saved := s.clk.savedBanks
  let s1 := (coreBanks ++ hullBanks).foldl (fun s a => match saved.find? (fun p => p.1 = a) with
    | some p => s.setObj a p.2
    | none => s) s
  (({ s1 with clk := { s1.clk with savedBanks := [] } } : State).wakeBanks s)

/-- The graph's code, regions, lines and parameter defaults are loaded again at their places (R229, R819). Update sets, open or sealed, and
glide entries stay: R819 does not say what becomes of them (log entry 147). -/
def State.reloadGraph (s : State) (g : Graph) : State :=
  let i := g.img
  let s1 := (s.resetBanks g).storeBlocks g
  let s2 := g.regions.foldl (fun s r => s.loadRegion i r) s1
  let s3 := g.lines.foldl (fun s x => s.placeLine i g.lines x) s2
  let s4 := i.params.foldl (fun s p => s.loadParam i g.regions g.lines p) s3
  { s4 with params := s4.params.map (fun p => { p with lenVal := p.dflt }), xyQueue := [] }

/-- What Nap has taken from the programs: a graph is loaded again, unless its image was lost with Hull SRAM; Patchbay starts with
cleared memories (R819). -/
def State.reviveProgram (s : State) (slept : Bool) : State :=
  let s1 : State := { s with pb := { Patchbay.reset with cross := s.pb.cross, taps := s.pb.taps, coef := s.pb.coef } }
  match s1.til.graph with
  | some g => if slept && s1.lpddrBytes = 0 then (s1.dropGraph).setObj O.graphState 0 else s1.reloadGraph g
  | none => s1

/-- The ROM at the exit from Sleep: the slot of BootSlot is selected again, without a trial (R822). -/
def State.sleepBoot (s : State) : State :=
  let s1 := ({ s with clk := { s.clk with fromSleep := true } } : State).setObj O.hullReady 0
  let r := s1.slotSelect (some (s1.obj O.bootSlot))
  if r.1 then r.2 else r.2.enterRecovery 6

/-- The media PLL restarts from the stored word, in holdover until the source locks (R804). -/
def State.mediaUp (s : State) : State :=
  let w := s.aon.mediaWord.getD 0
  ({ s with mediaTarget := w, aon := { s.aon with mediaWord := none } } : State).setObjs
    [(O.tickSourceOffset, intObj w), (O.mediaState, 3), (O.tickSourceStatus, 2)]

/-- Steps back from Sleep, from Nap, from Doze and from Coast. -/
def State.leaveSleep (s : State) : State :=
  (s.setObjs [(O.pllState 0, 1), (O.pllState 1, 1), (O.pllState 2, 1)]).setPower 3

def State.leaveNap (s : State) : State :=
  let s1 := s.mediaUp
  (ports.foldl (fun s p => if s.obj (O.portEnable p.val) = 1 then s.sapStart p else s) s1).setPower 2

def State.leaveDoze (s : State) : State :=
  let s1 := ports.foldl (fun s k => if s.linkState k = 8 then s.setLink k 2 else s) (s.setObj O.enginePllState 1)
  s1.setPower 1

def State.leaveCoast (s : State) : State := (ports.foldl (fun s k => if s.linkState k = 7 then s.setLink k 4 else s) s).setPower 0

/-- The exit from Coast, Doze, Nap or Sleep. -/
def State.ascend (s : State) : State :=
  let p := s.obj O.powerState
  let s1 := if 4 ≤ p then s.leaveSleep else s
  let s2 := if 3 ≤ p then s1.leaveNap else s1
  let s3 := (if 2 ≤ p then s2.leaveDoze else s2).banksUp
  let s4 := if 4 ≤ p then s3.sleepBoot else s3
  let s5 := (if 3 ≤ p then s4.reviveProgram (decide (4 ≤ p)) else s4).leaveCoast
  let s6 := if s5.clk.muteLow && !(s5.obj O.safeMuteCause).testBit 4 then s5.raiseCause 4 else s5
  s6.muteIfCaused

/-- The exit from Dormant: a reset with ResetCause 2 (R822). -/
def State.leaveDormant (s : State) : State := (s.hardReset 2).startFill

/-- A wake source acts: event 0x0C01, LastWakeCause, and the exit. -/
def State.wakeNow (s : State) (source : Nat) : State :=
  let s1 := { s with clk := { s.clk with powTarget := 0, wakePend := none } }
  let s2 := if s.obj O.powerState = 5 then s1.leaveDormant else s1
  let s3 := (s2.setObj O.lastWakeCause source).event 0x0C01 source
  if s.obj O.powerState = 5 then s3 else s3.ascend

/-- Whether a wake source is enabled and effective in the state (R820). -/
def State.wakes (s : State) (source : Nat) : Bool :=
  let p := s.obj O.powerState
  let on := source = 0 || (s.obj O.wakeSources).testBit source
  on && decide (if source = 1 then p ≤ 3 else if source = 2 then p ≤ 2 else p ≤ 5)

/-- A wake event (R820, R824). During the fade of an entry it waits for the step in progress; while REF is lost in Coast or Doze it
waits for REF. -/
def State.wakeBy (s : State) (source : Nat) : State :=
  if s.life != .up || !s.wakes source then s
  else if s.obj O.powerState = 0 then (if s.clk.powTarget = 0 then s else { s with clk := { s.clk with wakePend := some source } })
  else if s.obj O.powerState ≤ 2 ∧ s.obj O.refState = 1 then { s with clk := { s.clk with wakePend := some source } }
  else s.wakeNow source

/-- WAKE_N, HCS_N or signal detect (sources 0 to 2 of R820). The falling edge of HCS_N that starts a host frame (R823) is this
command with source 1, not a part of the frame's own command (log entry 150). -/
def execWake (source : Fin 3) (s : State) : Out := .next (s.wakeBy source.val)

/-- WakeTimer milliseconds have passed since the entry. -/
def execWakeTimer (s : State) : Out := .next (if s.obj O.wakeTimer = 0 || s.obj O.powerState = 0 then s else s.wakeBy 3)

/-- A wake that waited for REF acts at the first boundary with REF. -/
def State.wakeWaiting (s : State) : State :=
  match s.clk.wakePend with
  | some w => if s.obj O.powerState ≠ 0 ∧ s.obj O.refState = 0 then s.wakeNow w else s
  | none => s

/-! ### PowerRequest (R814, R816) -/

/-- A write of PowerRequest. -/
def State.writePower (s : State) (k : SessKey) (kport : Nat) (words : List (BitVec 32)) : State :=
  let v := wordsNat words
  let deep := decide (2 ≤ v)
  let forwards := ports.any (fun p => s.obj (O.runsForwarded p.val) != 0)
  let origin := s.joined && s.isOrigin && decide (1 < s.obj O.memberCount)
  let mode := s.mode != 0 && s.mode != 1 && s.mode != 7 && !(deep && (forwards || origin))
  let mig := decide (1 ≤ s.obj O.migrationState) && decide (s.obj O.migrationState ≤ 4)
  let res := !mig && s.rateSeq.isNone && s.clk.engSeq.isNone && s.obj O.graphState != 1 && s.clk.powTarget = 0
  s.writeReq k kport O.powerRequest words { mode := mode, range := decide (s.obj O.powerState < v), res := res } (fun s =>
    let t : State := { s with clk := { s.clk with powTarget := v, wakePend := none } }
    if s.obj O.powerState = 0 then t.mute .power else State.descend 6 t)

def execPowerRequest (src : Src) (words : List (BitVec 32)) (s : State) : Out := .next (s.writePower src.key src.link.val words)

/-- The Coast fade has reached zero at a boundary: ENG is gated and the entry goes on, or ends at a wake that came meanwhile. -/
def execCoastEngGate (s : State) : Out :=
  .next (if s.clk.powTarget = 0 || s.obj O.powerState != 0 || !s.allSilent then s
    else match s.clk.wakePend with
      | some w => (s.coastStep).wakeNow w
      | none => State.descend 6 s)

end Sys2Proof.Machine
end

