-- ==== Sys2Proof/Machine/Dictionary.lean ====
section
/-! DEFINITION. The dictionary's requests as one: writes and reads of every object, the firmware queue, fabric and proxied requests
(R106, R150, R435 to R447, R456 to R459, R604, R622, R662, R817, R820). -/
namespace Sys2Proof.Machine
open Sys2Proof

/-! ### Writes with a rule of their own -/

/-- A write that stores the value. -/
def State.writePlain (s : State) (k : SessKey) (kport a : Nat) (words : List (BitVec 32)) (x : Extra) : State :=
  s.writeReq k kport a words x (fun s => s.setObj a (wordsNat words))

/-- A write in force at the next boundary (R431, R432). -/
def State.writeBoundary (s : State) (k : SessKey) (kport a : Nat) (words : List (BitVec 32)) : State :=
  s.writeReq k kport a words {} (fun s => { s with pendObjs := s.pendObjs ++ [(a, wordsNat words)] })

/-- A write of UpdateSetAbort (R337). -/
def State.writeSetAbort (s : State) (k : SessKey) (kport : Nat) (words : List (BitVec 32)) : State :=
  s.writeReq k kport O.updateSetAbort words {} (fun s => s.abortSet k)

/-- A write of a per-session object: UpdateSetGlide or ProxyTarget (R446, R447). -/
def State.writeGlide (s : State) (k : SessKey) (kport : Nat) (words : List (BitVec 32)) : State :=
  s.writeReq k kport O.updateSetGlide words { res := s.canEnter k } (fun s => s.setSession { s.session k with glide := wordsNat words })

def State.writeProxyTarget (s : State) (k : SessKey) (kport : Nat) (words : List (BitVec 32)) : State :=
  s.writeReq k kport O.proxyTarget words { res := s.canEnter k } (fun s => s.setSession { s.session k with proxy := wordsNat words })

/-- Whether a block of the graph in force is placed on engine `e` of this device, or one that a migration places there. -/
def State.blockOn (s : State) (e : Fin 8) : Bool :=
  match s.til.graph with
  | some g => (g.blocks ++ (s.til.mig.map Migration.dst).getD []).any (fun b => b.size != 0 && b.eng = e.val)
  | none => false

/-- A write of FetchMode (R106). -/
def State.writeFetchMode (s : State) (k : SessKey) (kport : Nat) (e : Fin 8) (words : List (BitVec 32)) : State :=
  s.writeReq k kport (O.fetchMode e.val) words { mode := !s.blockOn e } (fun s =>
    s.modEngine e (fun x => { x with pendFetch := some (wordsNat words = 1) }))

/-- A write of HostProfile or HostDummy: four and eight lanes, and two, need two dummy cycles (R622). -/
def State.writeHostProfile (s : State) (k : SessKey) (kport : Nat) (words : List (BitVec 32)) : State :=
  s.writePlain k kport O.hostProfile words { range := wordsNat words = 0 || decide (2 ≤ s.obj O.hostDummy) }

def State.writeHostDummy (s : State) (k : SessKey) (kport : Nat) (words : List (BitVec 32)) : State :=
  s.writePlain k kport O.hostDummy words { range := decide (2 ≤ wordsNat words) || s.obj O.hostProfile = 0 }

/-- A write of XipBase, refused while XIP_CTRL.LOCK is 1 (R657, R662). -/
def State.writeXipBase (s : State) (k : SessKey) (kport : Nat) (words : List (BitVec 32)) : State :=
  if s.xip.lock then (if s.serving then s.finishWrite k kport O.xipBase words rcAccess id else s)
  else s.writePlain k kport O.xipBase words { range := decide (wordsNat words < s.obj O.flashCapacity * 0x100000) || wordsNat words = 0 }

/-- A write of WakeSources: WAKE_N stays enabled (R820). -/
def State.writeWakeSources (s : State) (k : SessKey) (kport : Nat) (words : List (BitVec 32)) : State :=
  s.writeReq k kport O.wakeSources words {} (fun s => s.setObj O.wakeSources (wordsNat words ||| 1))

/-! ### Every write (R435) -/

/-- The writes of one object each. -/
def State.writeSingle (s : State) (k : SessKey) (kport a : Nat) (words : List (BitVec 32)) : Option State :=
  if a = O.commit then some (s.commitReq k kport words false)
  else if a = O.updateSetAbort then some (s.writeSetAbort k kport words)
  else if a = O.updateSetGlide then some (s.writeGlide k kport words)
  else if a = O.proxyTarget then some (s.writeProxyTarget k kport words)
  else if a = O.tickRate then some (s.writeTickRate k kport words)
  else if a = O.tickSource then some (s.writeTickSource k kport words)
  else if a = O.modeRequest then some (s.writeMode k kport words)
  else if a = O.graphUnload then some (s.writeUnload k kport words)
  else if a = O.drainDevice then some (s.writeDrain k kport words)
  else if a = O.migrateRequest then some (s.writeMigrate k kport words)
  else if a = O.engineFrequency then some (s.writeEngineFrequency k kport words)
  else if a = O.engineSpread then some (s.writeEngineSpread k kport words)
  else if a = O.powerRequest then some (s.writePower k kport words)
  else if a = O.originPriority then some (s.writePriority k kport words)
  else if a = O.wakeSources then some (s.writeWakeSources k kport words)
  else if a = O.hostProfile then some (s.writeHostProfile k kport words)
  else if a = O.hostDummy then some (s.writeHostDummy k kport words)
  else if a = O.xipBase then some (s.writeXipBase k kport words)
  else none

/-- The writes of the journal, of memory integrity and of boot. -/
def State.writeService (s : State) (k : SessKey) (kport a : Nat) (words : List (BitVec 32)) : Option State :=
  if a = O.locusDrainEnable then some (s.writeDrainEnable k kport words)
  else if a = O.locusRetainMode then some (s.writeRetainMode k kport words)
  else if a = O.lpddrRingBase then some (s.writeRingBase k kport words)
  else if a = O.lpddrRingLog2 then some (s.writeRingLog2 k kport words)
  else if a = O.locusAckSeq then some (s.writeLocusAck k kport words)
  else if a = O.rangeStart then some (s.writeRangeStart k kport words)
  else if a = O.fullTest then some (s.writeFullTest k kport words)
  else if a = O.imageConfirm then some (s.writeConfirm k kport words)
  else if a = O.rollbackAdvance then some (s.writeRollback k kport words none)
  else if a = O.keyRevoke then some (s.writeKeyRevoke k kport words)
  else if a = O.updateActivate then some (s.writeActivate k kport words)
  else if a = O.loaderCommand then some (s.writeLoader k kport words true)
  else if a = O.keepSnapshotNow then some (s.writeSnapNow k kport words)
  else if a = O.startMode then some (s.writeStartMode k kport words)
  else none

/-- The writes of objects of which there are several: engines, ports, links, channels, banks, Patchbay. -/
def State.writeArray (s : State) (k : SessKey) (kport a : Nat) (words : List (BitVec 32)) : Option State :=
  let idx := a / 256
  let sub := a % 256
  let p := port4 (idx / 256)
  if 0x4100 ≤ idx ∧ idx ≤ 0x4107 then
    (if sub = 1 then some (s.writeFetchMode k kport (eng8 (idx - 0x4100)) words) else if sub = 2 then some (s.writeBoundary k kport a words) else none)
  else if 0x4800 ≤ idx ∧ idx ≤ 0x481F then some (s.writeBoundary k kport a words)
  else if 0x1000 ≤ idx ∧ idx < 0x1400 ∧ idx % 256 = 0 then
    (if sub = 1 then some (s.writePortEnable k kport p words) else if sub = 3 then some (s.writeSapSetting k kport p 0 words)
     else if sub = 4 then some (s.writeSapSetting k kport p 1 words) else if sub = 5 then some (s.writeSapSetting k kport p 2 words) else none)
  else if 0x1400 ≤ idx ∧ idx < 0x1800 ∧ idx % 256 = 0 ∧ sub = 1 then some (s.writeLinkEnable k kport p words)
  else if idx = 0x2010 ∧ 1 ≤ sub ∧ sub ≤ 4 then some (s.writeClkOut k kport (port4 (sub - 1)) words)
  else if 0x3800 ≤ idx ∧ idx ≤ 0x381F then
    (let c : Fin 32 := ⟨idx % 32, Nat.mod_lt _ (by decide)⟩
     if a = O.channelHead c.val then some (s.writeChannelHead k kport c words) else if a = O.doorbell c.val then some (s.writeDoorbell k kport c words)
     else if a = O.channelStop c.val then some (s.writeChannelStop k kport c words)
     else if a = O.channelResume c.val then some (s.writeChannelResume k kport c words)
     else if a = O.channelPriority c.val ∨ a = O.retryLimit c.val then some (s.writeChannelSetting k kport a c words) else none)
  else if idx = 0x3060 ∧ 1 ≤ sub ∧ sub ≤ 24 then some (s.writePowerBank k kport (.orbit ⟨(sub - 1) % 24, Nat.mod_lt _ (by decide)⟩) words)
  else if idx = 0x3061 ∧ 1 ≤ sub ∧ sub ≤ 8 then some (s.writePowerBank k kport (.engine (eng8 (sub - 1))) words)
  else if idx = 0x3062 ∧ 1 ≤ sub ∧ sub ≤ 4 then some (s.writePowerBank k kport (.hull (port4 (sub - 1))) words)
  else if (0x5800 ≤ idx ∧ idx ≤ 0x5AFF) ∨ idx = 0x5D00 then some (s.writePb k kport a words)
  else none

/-- A write request of any object. -/
def State.dictWrite (s : State) (k : SessKey) (kport a : Nat) (words : List (BitVec 32)) : State :=
  if (s.param a).isSome then s.writeParam k kport a words
  else (((s.writeSingle k kport a words).orElse (fun _ => s.writeService k kport a words)).orElse (fun _ => s.writeArray k kport a words)).getD
    (s.writePlain k kport a words {})

/-! ### Every read (R435, R439, R461, R473) -/

/-- Where dictionary storage lies (R696). -/
def dictBase : Nat := 0x103C0000
def dictEnd : Nat := 0x10400000

/-- An uncorrectable word in the storage of a fixed object; the spec does not say where in dictionary storage an object lies (R473, R696;
log entry 139). -/
def State.storageBad (s : State) (a : Nat) : Option Nat :=
  let place := dictBase + (Config.objectPlace a).toNat
  s.bad.find? (fun c => decide (dictBase ≤ c) && decide (c < dictEnd) &&
    decide (c < place + 4 * ((objRow a).map (·.words)).getD 0) && decide (place < c + codeWordBytes c))

/-- An uncorrectable word among the words that a read of an object takes: bound words of a parameter, or storage of a fixed object. -/
def State.readBad (s : State) (a : Nat) : Option Nat :=
  match s.param a with
  | some p => if p.bind = 2 then none else s.badIn (s.paramAddr0 p) (4 * p.readWords)
  | none => s.storageBad a

/-- A read request of any object; `early` as in `State.readAt`. -/
def State.dictRead (s : State) (k : SessKey) (a : Nat) (early : Bool := false) : State :=
  let res := (!perSession a || s.canEnter k) && (!firmwareServed a false || s.firmwareCan a false)
  let c := s.checkRead k a res
  let words := match s.info a with
    | some r => natWords r.words (s.readAt k a early)
    | none => []
  if !s.serving then s
  else if c ≠ rcOk then (s.noteRights k a c false).respond k a c []
  else match s.readBad a with
    | some w => (s.noteBad 6 w).respond k a rcMemory []
    | none => ((if perSession a then s.enter k else s).readSofts a).respond k a rcOk words

/-! ### The firmware queue (R441 to R444) -/

/-- Whether firmware serves a request (R441); of the units of a domain transfer an END, and a READ_START as a read. -/
def FwReq.firmware (r : FwReq) : Bool :=
  let a := r.addr % 2 ^ 24
  if r.unit then (unitKind r.words = 3 && endServed a) || (unitKind r.words = 5 && firmwareServed a false) else firmwareServed a r.write

/-- A request performed and answered now. -/
def State.perform (s : State) (r : FwReq) (early : Bool) : State :=
  if r.unit then s.domainUnit r.key r.link r.addr r.words
  else if r.write then s.dictWrite r.key r.link r.addr r.words
  else s.dictRead r.key r.addr early

/-- The result code of the last response. -/
def State.lastCode (s : State) : Option Nat := s.resp.map (·.code)

/-- Requests of a device that wait for their answers (R457). -/
def State.outstanding (s : State) (dev : Nat) : Nat := (s.fwQueue.filter (fun r => r.key.isFabric && r.key.device 0 = dev)).length

/-- Whether the source of a fabric request holds all its outstanding requests (R457). -/
def State.sourceFull (s : State) (r : FwReq) : Bool := r.key.isFabric && decide (16 ≤ s.outstanding (r.key.device 0))

/-- A request is made: one that firmware has not yet answered enters the queue of 32, where the checks of R435 pass it; every other is answered
now (R442). -/
def State.request (s : State) (r : FwReq) (held : Bool) (early : Bool := false) : State :=
  if !s.serving then s
  else if s.sourceFull r then s.refuse r rcBusy
  else
    let t := s.perform r early
    if held && r.firmware && t.lastCode = some rcOk && decide (s.fwQueue.length < 32) then { s with fwQueue := s.fwQueue ++ [{ r with accepted := s.tick }] } else t

/-- Whether a request waits in the queue after it has been made. -/
def State.queuedMore (s t : State) : Bool := decide (s.fwQueue.length < t.fwQueue.length)

/-- Firmware answers the oldest request of the queue, while the dictionary serves requests: its apply step. -/
def State.answerFw (s : State) : State :=
  match s.fwQueue with
  | [] => s
  | r :: rest =>
    if !s.serving then s
    else
      let u := ({ s with fwQueue := rest, applyTick := some r.accepted } : State).perform r false
      ({ u with applyTick := none } : State).routeAnswer r

/-- Firmware answers up to `n` requests. -/
def State.serveFw : Nat → State → State
  | 0, s => s
  | n + 1, s => State.serveFw n s.answerFw

def execDictionaryRead (src : Src) (a : BitVec 24) (time : ReadTime) (s : State) : Out :=
  .next (s.request { key := src.key, link := src.link.val, write := false, addr := a.toNat, words := [], accepted := 0, tag := none }
    (time = .held) (time = .early))

def execDictionaryWrite (src : Src) (a : BitVec 24) (words : List (BitVec 32)) (held : Bool) (s : State) : Out :=
  .next (s.request { key := src.key, link := src.link.val, write := true, addr := a.toNat, words := words, accepted := 0, tag := none } held)

/-- FirmwareDeadline has passed for the oldest request: BUSY, and the request is cancelled. -/
def execFirmwareDeadlineExpiry (s : State) : Out :=
  .next (match s.fwQueue with
    | [] => s
    | r :: rest => ({ s with fwQueue := rest } : State).busyReq r)

def execFetchMode (src : Src) (e : Fin 8) (words : List (BitVec 32)) (s : State) : Out := .next (s.writeFetchMode src.key src.link.val e words)

def execGroupFaultPolicy (src : Src) (g : Fin 4096) (words : List (BitVec 32)) (s : State) : Out :=
  .next (s.writeBoundary src.key src.link.val (O.groupFaultPolicy g.val) words)

/-! ### Requests of other devices (R446, R456, R457, R604) -/

/-- A fabric request as the dictionary takes it. -/
def fabricReq (dev session : Nat) (k : Fin 4) (w0 w1 : BitVec 32) (words : List (BitVec 32)) : FwReq :=
  { key := .fabric dev session, link := k.val, write := w0.toNat / 2 ^ 28 = 2, addr := w0.toNat % 2 ^ 24, words := words, accepted := 0
    tag := some (w1.toNat % 65536), unit := w0.toNat / 2 ^ 28 = 3 }

/-- A fabric request answered with a code before it is performed. -/
def State.refuseFabric (s : State) (r : FwReq) (code : Nat) : State := (s.refuse r code).routeAnswer r

/-- Whether the last response comes before the check of resources (R435 steps 1 to 6). -/
def State.refusedEarly (s : State) : Bool :=
  match s.lastCode with
  | some c => c != rcOk && c != rcBusy && c != rcJournal && c != rcMemory
  | none => false

/-- Whether a fabric request is malformed: a reserved OP or a reserved bit that is not zero. -/
def reqMalformed (w0 w1 : BitVec 32) : Bool :=
  let op := w0.toNat / 2 ^ 28
  !decide (1 ≤ op ∧ op ≤ 3) || w0.toNat / 2 ^ 24 % 16 != 0 || w1.toNat / 65536 != 0

/-- A fabric request, performed as a local request of class FABRIC. One of a proxied host needs an entry of the session table, a resource
that the checks come to last (R435, R446). -/
def State.fabricRequest (s : State) (w0 w1 : BitVec 32) (r : FwReq) (held : Bool) : State :=
  if !s.serving then s
  else if reqMalformed w0 w1 then s.refuseFabric r rcMalformed
  else if s.sourceFull r then s.refuseFabric r rcBusy
  else
    let can := r.key.session != 0 || s.canEnter r.key
    let s1 := if r.key.session = 0 && can then s.enter r.key else s
    let t := s1.request r held
    if !can && !(s1.request r false).refusedEarly then s.refuseFabric r rcBusy
    else if s1.queuedMore t then t
    else t.routeAnswer r

def execDictReq (dev : BitVec 12) (session : BitVec 8) (k : Fin 4) (w0 w1 : BitVec 32) (words : List (BitVec 32)) (held : Bool) (s : State) : Out :=
  .next ((s.takeMsg 0x10).fabricRequest w0 w1 (fabricReq dev.toNat session.toNat k w0 w1 words) held)

/-! ### Requests of the host to other devices (R458, R459) -/

/-- A proxied request is sent, or answered "no route". `op` as in R604. -/
def State.proxySend (s : State) (op addr : Nat) (words : List (BitVec 32)) : Option State :=
  let target := (s.session .host).proxy
  if target = 0xFFFF || !s.hasRoute target then none
  else
    let tag := s.net.nextTag
    let s1 := s.modNet (fun n => { n with
      nextTag := (n.nextTag + 1) % 65536, proxied := n.proxied ++ [{ tag := tag, target := target, op := op, addr := addr }] })
    some (s1.sendRouted false (s1.mkMsg target 0 0x10 (leBytes 4 (op * 2 ^ 28 + addr % 2 ^ 24) ++ leBytes 4 tag ++ wordsBytes words)))

/-- The answer of a proxied request reaches the host: a waiting read, a pending unit, or the last result alone. -/
def State.proxyAnswer (s : State) (p : Proxied) (code : Nat) (words : List (BitVec 32)) : State :=
  if p.op = 3 then s.answerUnit .host p.addr code words
  else
    let s1 := s.respond .host (p.addr % 2 ^ 24) code words
    if p.op = 1 then s1.readReady code words else s1

/-- A proxied request leaves those that wait. -/
def State.dropProxied (s : State) (p : Proxied) : State := s.modNet (fun n => { n with proxied := n.proxied.erase p })

def State.findProxied (s : State) (tag : Nat) : Option Proxied := s.net.proxied.find? (fun p => p.tag = tag)

def execDictRsp (result : BitVec 8) (a : BitVec 24) (tag : BitVec 16) (words : List (BitVec 32)) (s : State) : Out :=
  let s1 := s.takeMsg 0x11
  .next (match s1.findProxied tag.toNat with
    | some p => if p.addr % 2 ^ 24 = a.toNat then (s1.dropProxied p).proxyAnswer p result.toNat words else s1
    | none => s1)

/-- ProxyTimeout has passed without a response to a proxied request. -/
def execProxyTimeout (tag : BitVec 16) (s : State) : Out :=
  .next (match s.findProxied tag.toNat with
    | some p =>
      let s1 := (((s.dropProxied p).count O.remoteTimeouts 32 1).event 0x0D01 (p.addr % 2 ^ 24 + p.target * 2 ^ 24))
      s1.proxyAnswer p rcRemote []
    | none => s)

end Sys2Proof.Machine
end

