-- ==== Sys2Proof/Machine/Fabric.lean ====
section
/-! DEFINITION. Commands of the fabric: HELLO, election, addresses, routes, reservation, repair, time (R576 to R610). -/
namespace Sys2Proof.Machine
open Sys2Proof

/-- HELLO of period 256 on every link in Framing or later (R580). -/
def execHelloPeriod (s : State) : Out :=
  .next ((ports.filter (fun k => decide (3 ≤ s.linkState k) && decide (s.linkState k ≤ 7))).foldl (fun s k => s.sendHello k) s)

/-- Keys of a HELLO. -/
def helloOwn (h : Hello) : Key := { prio := h.prio.toNat, uid := h.uid.toNat }
def helloBest (h : Hello) : Key := { prio := h.bestPrio.toNat, uid := h.bestUid.toNat }
def helloOrigin (h : Hello) : Key := if h.joined then { prio := h.originPrio.toNat, uid := h.originUid.toNat } else helloOwn h

/-- A member of the worse fabric leaves it for the better one: outputs fade, the graph is unloaded under R357, the address is given up (R583). -/
def State.leaveFabric (s : State) (k : Fin 4) : State :=
  let s1 := ((s.mute .graphReplace).setObjs [(O.fabricAddress, 0xFFFF), (O.fabricState, 2)]).modNet
    (fun n => { n with origin := none, stepFrom := some k.val, path := some k.val })
  { s1 with til := { s1.til with unload := true } }

/-- The device with the worse Origin key meets another fabric of several members (R583). -/
def State.mergePoint (s : State) (k : Fin 4) (h : Hello) : State :=
  if s.obj O.mergePolicy = 0 then
    ((s.writeLinkEnable .firm 0 k [0]).event 0x0907 (k.val + (helloOrigin h).uid % 2 ^ 48 * 65536)).setObj O.fabricState 4
  else s.leaveFabric k

/-- A HELLO from the neighbour of port `k` (R580 to R584). -/
def State.hello (s : State) (k : Fin 4) (h : Hello) : State :=
  let first := !(s.linkOf k).nbHello
  let s1 := (s.modLink k (fun l => { l with nbUid := h.uid.toNat, nbPort := h.port.val, nbHello := true })).modNet
    (fun n => { n with maxEpoch := max n.maxEpoch h.epoch.toNat })
  let s2 := ((s1.learnKey (helloOwn h)).learnKey (helloBest h))
  let s2 := if s2.joined && h.joined && s2.net.path = some k.val && some (helloOrigin h) = s2.net.origin
    then s2.setObj O.memberCount h.members.toNat else s2
  let s3 := if !s2.joined && (s2.obj O.fabricState = 0 || s2.obj O.fabricState = 1) then s2.setObj O.fabricState 2 else s2
  let worse := (helloOrigin h).better s3.originKey
  let differ := helloOrigin h != s3.originKey
  if s3.member && h.joined && differ && decide (1 < s3.obj O.memberCount) && decide (1 < h.members.toNat) then
    (if worse then s3.mergePoint k h else s3)
  else if s3.joined && s3.isOrigin && !h.joined then s3.floodClaim (s3.obj O.fabricEpoch)
  else if first && differ && worse && s3.linkState k = 3 then s3.modNet (fun n => { n with stepFrom := some k.val })
  else s3

def execHello (k : Fin 4) (h : Hello) (s : State) : Out :=
  .next (if s.framing k then (s.takeMsg 1).hello k h else s)

/-- The settle count is reached with the own key best: CLAIM with a new epoch (R581). -/
def State.claimSelf (s : State) : State :=
  let e := nextEpoch s.net.maxEpoch
  let s1 := (s.setObjs [(O.originUid, s.obj O.uid), (O.fabricEpoch, e), (O.originAddress, s.obj O.fabricAddress)]).modNet
    (fun n => { n with origin := some s.ownKey, maxEpoch := e, path := none, topo := [], settle := 0 })
  (s1.floodClaim e).event 0x0900 (s1.obj O.originAddress % 4096 + e * 65536)

def execElectionSettle (s : State) : Out :=
  .next (if s.bestKey = s.ownKey ∧ s.obj O.originSettle ≤ s.net.settle ∧ s.isAlone = false ∧ s.net.origin ≠ some s.ownKey then s.claimSelf else s)

/-- Whether a CLAIM comes from the better of two fabrics: this device is the member of one whose Origin has a worse key (R583). -/
def State.claimMerges (s : State) (o : Key) : Bool :=
  match s.net.origin with
  | some k => s.joined && o.better k && decide (1 < s.obj O.memberCount)
  | none => false

/-- A CLAIM from port `k`: dropped if seen; flooded on; answered by an Origin with a better key; adopted if its key is the best known and its
epoch not below, by a member of a worse fabric as it leaves that one; it stops the election of a device with a better key (R577, R581 to R583, log
entry 121). -/
def State.claim (s : State) (k : Fin 4) (src seq : Nat) (o : Key) (epoch : Nat) : State :=
  if s.seenFlood src seq then s
  else
    let s1 := ((s.noteFlood src seq).learnKey o).flood src 2 (leBytes 1 o.prio ++ leBytes 8 o.uid ++ leBytes 4 epoch ++ leBytes 2 seq) (some k)
    if s1.joined && s1.isOrigin && s1.ownKey.better o then s1.floodClaim (s1.obj O.fabricEpoch)
    else if o = s1.bestKey && s1.claimMerges o then (s1.leaveFabric k).adoptOrigin o epoch k
    else if o = s1.bestKey && decide (s1.obj O.fabricEpoch ≤ epoch) then s1.adoptOrigin o epoch k
    else if s1.obj O.fabricState = 2 && decide (s1.obj O.fabricEpoch ≤ epoch) then (s1.setObj O.fabricState 1).modNet (fun n => { n with settle := 0 })
    else s1

def execClaim (k : Fin 4) (src : BitVec 12) (prio : BitVec 8) (uid : BitVec 64) (epoch : BitVec 32) (seq : BitVec 16) (s : State) : Out :=
  .next (if s.framing k then (s.takeMsg 2).claim k src.toNat seq.toNat { prio := prio.toNat, uid := uid.toNat } epoch.toNat else s)

/-- A LINK_DOWN received on port `k`: flooded on, and the repair plans of the link wait for B(f + 64) (R577, R607). -/
def execLinkDown (k : Fin 4) (src : BitVec 12) (addrA : BitVec 12) (portA : Fin 4) (addrB : BitVec 12) (portB : Fin 4) (f : BitVec 48)
    (seq : BitVec 16) (s : State) : Out :=
  let bytes := leBytes 2 addrA.toNat ++ leBytes 1 portA.val ++ leBytes 2 addrB.toNat ++ leBytes 1 portB.val ++ leBytes 6 f.toNat ++ leBytes 2 seq.toNat
  .next (if s.framing k = false then s
    else if s.seenFlood src.toNat seq.toNat then s.takeMsg 3
    else ((((s.takeMsg 3).noteFlood src.toNat seq.toNat).flood src.toNat 3 bytes (some k)).noteLost (addrA.toNat, portA.val) (addrB.toNat, portB.val) f.toNat))

/-- A port of a TOPOLOGY as the Origin keeps it. -/
def topoPort (p : TopologyPort) : TopoPort := { state := p.state.toNat, nbUid := p.nbUid.toNat, nbPort := p.nbPort.val, delay := p.delay.toNat, lead := p.lead.toNat }

/-- TOPOLOGY: the Origin collects it and assigns addresses once it is complete, and reserves anew where a link has become Degraded or Long;
another device passes it toward the Origin (R572, R581, R585). -/
def State.topology (s : State) (d : TopoDev) : State :=
  if s.leads then
    (s.modNet (fun n => { n with
      replan := n.replan || !n.reserved.2.isEmpty && n.topo.any (fun x => x.key.uid = d.key.uid && (x.ports.zip d.ports).any (fun p => p.1.state = 4 && (p.2.state = 5 || p.2.state = 6)))
      topo := n.topo.filter (fun x => x.key.uid != d.key.uid) ++ [d] })).assignAll
  else match s.net.path with
    | some k => s.sendOn (port4 k) false (s.mkMsg 0xFFF 0 8 d.bytes)
    | none => s

def execTopology (uid : BitVec 64) (prio : BitVec 8) (addr : BitVec 16) (p0 p1 p2 p3 : TopologyPort) (s : State) : Out :=
  .next ((s.takeMsg 8).topology { key := { prio := prio.toNat, uid := uid.toNat }, addr := addr.toNat, ports := [p0, p1, p2, p3].map topoPort })

/-- ADDRESS: the device it names takes its address and coordinates; another passes it on (R576, R585). -/
def execAddress (sender : BitVec 12) (uid : BitVec 64) (addr : BitVec 12) (x y : BitVec 8) (coord : BitVec 16) (s : State) : Out :=
  .next (if uid.toNat = s.obj O.uid then (s.takeMsg 9).takeAddress addr.toNat x.toNat y.toNat coord.toNat sender.toNat else (s.takeMsg 9).passOn (s.addressMsg sender.toNat uid.toNat addr.toNat x.toNat y.toNat coord.toNat))

/-- ROUTES: entries of the pending route table (R589, R590). -/
def execRoutes (first : BitVec 12) (entries : List (BitVec 8)) (s : State) : Out :=
  .next ((s.takeMsg 10).modNet (fun n =>
    { n with routesPend := some ((entries.zipIdx).foldl (fun t p => aPut 0xFF t ((first.toNat + p.2) % 4096) p.1.toNat) (n.routesPend.getD []))
             routesGot := n.routesGot + entries.length }))

/-- RESERVE: pending run tables and repair plans of a generation (R601, R606). -/
def execReserve (gen : BitVec 32) (runs : List RunWrite) (plans : List PlanWrite) (s : State) : Out :=
  .next ((s.takeMsg 11).takeReserve gen.toNat runs plans)

/-- ACTIVATE: the activation tick of the reservation held (R602). -/
def execActivate (gen : BitVec 32) (tick : BitVec 48) (s : State) : Out :=
  .next (if gen.toNat = s.net.reserveGen then (s.takeMsg 12).modNet (fun n => { n with activate := some (gen.toNat, tick.toNat) }) else s.takeMsg 12)

/-- From B(f + 64) on, the repair plan of a lost link is installed (R607). -/
def execRepairInstall (addrA : BitVec 12) (portA : Fin 4) (addrB : BitVec 12) (portB : Fin 4) (s : State) : Out :=
  let a := (addrA.toNat, portA.val)
  let b := (addrB.toNat, portB.val)
  .next (match s.net.lost.find? (fun l => sameLink l.1 l.2.1 a b) with
    | some l => if tickLe (l.2.2 + 64) s.tick then s.installPlan a b l.2.2 else s
    | none => s)

/-- After 256 ticks without a parent the device starts an election with a new epoch, unless one is in progress (R610). -/
def execHoldoverElection (s : State) : Out :=
  .next (if s.joined = true ∧ s.isOrigin = false ∧ 256 ≤ s.net.orphan ∧ s.obj O.fabricState ≠ 2 then
    (s.setObj O.fabricState 2).modNet (fun n => { n with origin := none, best := none, settle := 0, maxEpoch := max n.maxEpoch (s.obj O.fabricEpoch) })
  else s)

/-- |ORIGIN_OFFSET| within 20 ns for 256 ticks: aligned (R596). -/
def execTimeAligned (s : State) : Out := .next (if s.obj O.timeState = 1 ∧ 256 ≤ s.net.near then s.setTime 2 else s)

/-- |ORIGIN_OFFSET| above 40 ns for 16 ticks: acquiring again (R596). -/
def execTimeAcquiring (s : State) : Out := .next (if s.obj O.timeState = 2 ∧ 16 ≤ s.net.far then s.setTime 1 else s)

end Sys2Proof.Machine
end

