-- ==== Sys2Proof/Machine/Boundary.lean ====
section
/-! DEFINITION. The start of the firmware (R31, R32, R433, R756, R770, R856), and the boundary B(n) with its window (R68). -/
namespace Sys2Proof.Machine
open Sys2Proof

/-! ### The firmware starts -/

/-- RESTORE writes of the fixed entries of the current snapshot, in its order (R433, R770). -/
def State.restoreFixed (s : State) : State := s.snapshotFixed.foldl (fun s p => s.dictWrite .restore 0 p.1 p.2) s

/-- The steps of a confirmation that has begun are completed (R756). -/
def State.finishConfirm (s : State) : State :=
  if 1 < s.obj O.bootSlot ∨ hdr (s.slotHeader (s.obj O.bootSlot)) 0x208 4 = 0xFFFFFFFF then s
  else
    let u := s.obj O.updateState
    (s.confirmImage).setObj O.updateState (if u = 5 then 0 else u)

/-- The mode after a successful secure start: Patchbay, with the start mode of the configuration record pending (R31, R32). ModeCause
is 8 with a record, also while its mode waits, and 9 without one (log entry 70). -/
def State.enterStartMode (s : State) : State :=
  match s.startModeRecord with
  | some m => (s.changeMode 2 8).setObj O.pendingStartMode (if m = 2 then 0 else m)
  | none => s.changeMode 2 9

/-- What firmware of a slot does at its start: the Keep store, the start mode, the confirmation, the RESTORE writes. After a Secure start
it enters its mode; after Sleep it only restores; after a watchdog reset it takes over what runs (R24, R754, R822). -/
def State.startFirmware (s : State) : State :=
  let s1 := s.keepStart
  let s2 := match s1.startModeRecord with
    | some m => s1.setObj O.startMode m
    | none => s1
  let s3 := s2.finishConfirm
  let s4 : State := { s3 with clk := { s3.clk with fromSleep := false } }
  if s.mode ≤ 1 ∧ s.obj O.bootSlot ≤ 1 then (s4.restoreFixed.enterStartMode).muteIfCaused
  else if s.clk.fromSleep then s4.restoreFixed
  else s4

/-- The restarted firmware, or the ROM monitor, opens its request queue. -/
def execHullQueueOpen (s : State) : Out :=
  .next (if s.life != .up || decide (2 < s.obj O.powerState) || s.obj O.hullReady = 1 then s
    else
      let s1 := s.setObj O.hullReady 1
      if s1.clk.monitor then s1 else s1.startFirmware)

/-! ### The boundary -/

/-- Cycle 0: the tick that ends is completed and its outputs published, the halves swap, TickCount takes the value n, and what the
boundary does for placement and fabric. -/
def State.boundarySwap (s : State) (n : Nat) : State :=
  let s1 := s.finishTick
  let s2 := if s1.obj O.patchbayState = 2 && s1.engRuns then s1.patchbayTick else s1
  let s3 := (s2.rateAbandon.tilerBoundary n).latchInputs s.tick
  ((s3.setObj O.tickCount n).exchangeSwap).publish

/-- Cycles 0 to 63: fault words frozen, far-delay lines checked, live-state objects copied to their snapshot, lines advanced. -/
def State.boundaryFreeze (s : State) (n : Nat) : State :=
  let s1 := engines.foldl (fun s e => s.freezeFault e) s
  let s2 := (engines.foldl (fun s e => s.deadlineCheck n e) s1).snapLive
  engines.foldl (fun s e => s.advanceLines n e) s2

/-- The writes that take effect at the boundary: objects, tick source, engine settings, shares (R431). -/
def State.applySettings (s : State) : State :=
  let s1 := s.pbApply
  let s2 := (s1.applyObjs).wakeBanks s1
  let s3 := (s2.applySource).allEngines (fun _ x => x.applyPending)
  { s3 with io := s3.io.applyShare }

/-- What takes effect at the boundary: the writes that wait for it, and the mode. -/
def State.boundarySettings (s : State) : State := s.applySettings.applyMode.autoExit

/-- Cycles 64 to 95: commits selected and banks swapped; repair swaps; glides. -/
def State.boundaryLatch (s : State) (n : Nat) : State :=
  let s1 := s.latch n
  let s2 := engines.foldl (fun t e => t.repairSwap s e) s1
  s2.allEngines (fun _ x => x.glideTick)

/-- Cycles 224 on: queued words written, engine reset, the programs of the tick start. -/
def State.boundaryStart (s : State) : State :=
  let s1 := (s.xyWrite).allEngines (fun _ x => x.tickReset)
  engines.foldl (fun s e => s.startProgram e) s1

/-- The fade of a power entry or exit ends once the device runs again (R821). -/
def State.unfadePower (s : State) : State := if s.obj O.powerState = 0 && s.clk.powTarget = 0 && s.engRuns then s.unmute .power else s

/-- A boundary in Run: cycle 0, the window with the state mover in its cycles 96 to 223, the programs of the tick, and what follows. The
publication comes before the boundary's objects: an entry into substitution at it goes by the policy of before (log entry 146). -/
def State.boundaryRun (s : State) : State :=
  let n := wrapAdd 48 s.tick 1
  let s1 := ((((s.boundarySwap n).boundaryFreeze n).boundarySettings).boundaryLatch n).moverStep
  (s1.boundaryStart.netTick.followTime.followRate.mediaStep).unfadePower

/-- The latches of a boundary in Coast or Doze: the ports, and in Coast, where links carry runs, those of the fabric (R519, R522, R571). -/
def State.idleLatch (s : State) : State :=
  let s1 := ports.foldl State.sapEdge s
  if s1.obj O.powerState = 1 then s1.latchRuns s1.tick else s1

/-- A boundary in Coast or Doze: TickCount advances, writes that wait for a boundary take effect, the fabric time follows its links, and the
window performs no engine event (R431, R818). -/
def State.boundaryIdle (s : State) : State :=
  ((s.idleLatch.setObj O.tickCount (wrapAdd 48 s.tick 1)).applySettings.netTick.followTime.mediaStep).wakeWaiting

/-- Whether boundaries run: MEDIA runs, and no rate change has stopped them (R83, R813). -/
def State.boundariesRun (s : State) : Bool :=
  s.life = .up && decide (s.obj O.powerState ≤ 2) && !s.clk.mediaGated && s.obj O.mediaState != 0 &&
  (match s.rateSeq with
   | some (_, stopped) => !stopped
   | none => true)

/-- The boundary B(n). `hull` is the Hull core's use of the tick that ends (R20); firmware has answered `served` of its waiting requests
in it. -/
def execBoundary (hull : HullUse) (served : Fin 33) (s : State) : Out :=
  .next (if !s.boundariesRun then s
    else
      let s1 := State.serveFw served.val s
      if !s1.boundariesRun then s1
      else if s1.obj O.powerState = 0 then (s1.boundaryRun).noteLoad hull.busy.toNat hull.total.toNat
      else (s1.boundaryIdle).noteLoad hull.busy.toNat hull.total.toNat)

end Sys2Proof.Machine
end

