-- ==== Sys2Proof/Machine/Host.lean ====
section
/-! DEFINITION. The host serial port: frames, write buffers, read frames, its commands (R615 to R648, R759, R760). -/
namespace Sys2Proof.Machine
open Sys2Proof

/-! ### Frames (R619 to R625, R638, R639, R643) -/

/-- Lanes of the command, address and data phases of a profile (R621). -/
def profileLanes (p : Nat) : Nat × Nat × Nat :=
  if p = 0 then (1, 1, 1) else if p = 1 then (1, 2, 2) else if p = 2 then (1, 4, 4) else if p = 3 then (4, 4, 4) else (8, 8, 8)

/-- Edges before the data phase, of a data word, and of a frame with N words in the profile in force (R638). -/
def State.headEdges (s : State) : Nat :=
  let l := profileLanes (s.obj O.hostProfile)
  24 / l.1 + 32 / l.2.1 + s.obj O.hostDummy
def State.wordEdges (s : State) : Nat := 32 / (profileLanes (s.obj O.hostProfile)).2.2
def State.needEdges (s : State) (n : Nat) : Nat := s.headEdges + n * s.wordEdges

/-- Whether the port works: after a reset, in Run to Nap (R813). -/
def State.hostUp (s : State) : Bool := s.life = .up && decide (s.obj O.powerState ≤ 3)

/-- Flags of HSP_STATUS set. -/
def State.flagHsp (s : State) (mask : Nat) : State := { s with hsp := { s.hsp with flags := s.hsp.flags ||| mask } }

/-- A frame discarded for its edge count (R639): SHORT, with MIDWORD inside a data word, or LONG. -/
def State.notExact (s : State) (need head edges : Nat) : State :=
  let mid := decide (head < edges) && (edges - head) % s.wordEdges != 0
  let t := s.count O.hostFramesDiscarded 32 1
  if need < edges then t.flagHsp 4 else t.flagHsp (8 + bitIf mid 4)

/-- A frame discarded for its command (R625). -/
def State.refuseFrame (s : State) : State := (s.count O.hostFramesDiscarded 32 1).flagHsp 64

def State.accepted (s : State) : State := s.count O.framesAccepted 32 1

/-- HRDY outside frames, and low while a read frame waits (R635). -/
def State.setReady (s : State) : State :=
  { s with hsp := { s.hsp with hrdy := s.hsp.read.isNone && decide (s.hsp.buffers.length < 2) } }

/-! ### Write buffers (R640, R641) -/

/-- The region of the map an address phase names, and the bus address (R631). -/
def State.hostAddr (s : State) (a : Nat) : Nat := s.obj O.hostWindowHigh * 2 ^ 32 + a

/-- The result code of a bus access of the host. -/
def busCode (r : BusRes) : Nat :=
  match r with
  | .ok => rcOk
  | .decode => rcRange
  | .protect => rcAccess
  | .busError => rcMemory
  | .fetchFault => rcMemory
  | .poison => rcMemory
  | .refused => rcMemory

/-- A memory write of the host (R631, R644). -/
def State.hostMwr (s : State) (a : Nat) (words : List (BitVec 32)) : State :=
  let b := s.hostAddr a
  if s.mode ≠ 7 then s.hostResult 0 rcMode
  else if s.mapRoom b < 4 * words.length then s.hostResult 0 rcRange
  else
    let r := s.busWrite .host b (wordsBytes words)
    r.2.hostResult 0 (busCode r.1)

/-- A LOAD as the loader takes it (R758 to R760). -/
def State.hostLoad (s : State) (off : Nat) (words : List (BitVec 32)) : State :=
  if s.fuses.contains 1613 then s.hostResult 0 rcRights
  else if s.mode ≠ 1 then s.hostResult 0 rcMode
  else if stagingBytes < off + 4 * words.length then s.hostResult 0 rcRange
  else if s.obj O.loaderState = 1 ∨ s.obj O.loaderState = 2 then s.hostResult 0 rcBusy
  else (s.storeBytes (stagingBase + off) (wordsBytes words)).hostResult 0 rcOk

/-- A COMMIT of the host session; its generation is the third STAT word (R627, R628). -/
def State.hostCommit (s : State) : State :=
  let t := s.commitReq .host 0 [1] true
  let gen := match t.resp with
    | some p => if p.code = rcOk then (t.session .host).lastGen else 0
    | none => 0
  { t with hsp := { t.hsp with gen := gen } }

/-- The reset of the port (R643). -/
def State.portReset (s : State) : State :=
  let t := s.setObjs [(O.hostProfile, 0), (O.hostDummy, 0)]
  let u := if (t.session .host).unit.isSome then t.setSession { t.session .host with unit := none } else t
  { u with hsp := { u.hsp with flags := 0, fast := false } }

/-- Whether an address phase names another device (R458). -/
def isProxied (addr : Nat) : Bool := decide (2 ^ 31 ≤ addr)

/-- A write of the host, here or on another device; the first accepted write of HostProfile sets FAST (R618). -/
def State.hostDwr (s : State) (addr : Nat) (words : List (BitVec 32)) (held : Bool) : State :=
  if isProxied addr then (s.proxySend 2 addr words).getD (s.respond .host (addr % 2 ^ 24) rcNoRoute [])
  else
    let t := s.request { key := .host, link := 0, write := true, addr := addr, words := words, accepted := 0, tag := none } held
    match t.resp with
    | some p => if addr = O.hostProfile ∧ p.code = rcOk then { t with hsp := { t.hsp with fast := true } } else t
    | none => t

/-- A domain unit of the host. -/
def State.hostDbw (s : State) (addr : Nat) (words : List (BitVec 32)) (held : Bool) : State :=
  if isProxied addr then (s.proxySend 3 addr words).getD (s.respond .host (addr % 2 ^ 24) rcNoRoute [])
  else s.request { key := .host, link := 0, write := false, addr := addr, words := words, accepted := 0, tag := none, unit := true } held

/-- What a buffer does when it is presented. -/
def State.performBuf (s : State) (b : WBuf) (held : Bool) : State :=
  match b with
  | .dwr a w => s.hostDwr a w held
  | .commit => s.hostCommit
  | .dbw a w => s.hostDbw a w held
  | .mwr a w => s.hostMwr a w
  | .load o w => s.hostLoad o w
  | .portReset => s.portReset

/-- The oldest buffer is presented, while the dictionary engine serves requests. -/
def State.presentOne (s : State) (held : Bool) : State :=
  if !s.serving then s
  else match s.hsp.buffers with
    | [] => s
    | b :: rest => ({ s with hsp := { s.hsp with buffers := rest } } : State).performBuf b held

/-- Both buffers are presented. -/
def State.presentAll (s : State) : State := (s.presentOne false).presentOne false

/-- An exact write frame enters a buffer, or is lost where both are full (R640). -/
def State.enterBuf (s : State) (b : WBuf) : State :=
  if s.hsp.buffers.length < 2 then ({ s with hsp := { s.hsp with buffers := s.hsp.buffers ++ [b] } } : State).accepted
  else (s.count O.writeBufferOverflows 32 1).flagHsp 32

/-- Whether a buffer changes how the next frame is read (R623). -/
def WBuf.setsProfile (b : WBuf) : Bool :=
  match b with
  | .dwr a _ => a = O.hostProfile || a = O.hostDummy
  | .portReset => true
  | _ => false

/-- A frame begins: a read frame that still waits has been released during its wait (R644), and a new profile is in force. -/
def State.openFrame (s : State) : State :=
  let t := if s.hsp.read.isSome then (({ s with hsp := { s.hsp with read := none } } : State).count O.hostFramesDiscarded 32 1).flagHsp 8 else s
  if t.hsp.buffers.any WBuf.setsProfile then t.presentAll else t

/-- A frame of a command with N words: bad, not exact, or performed. -/
def State.frame (s : State) (ok : Bool) (n edges : Nat) (miss perform : State → State) : State :=
  if !s.hostUp then s
  else
    let t := s.openFrame
    (if !ok then t.refuseFrame
     else if edges = t.needEdges n then perform t
     else (miss t).notExact (t.needEdges n) t.headEdges edges).setReady

/-! ### Write frames -/

/-- An object address as DRD, DWR, DBR and DBW carry it (R458). -/
def objectPhase (addr : Nat) : Bool := addr / 2 ^ 24 % 128 == 0

def execHostDwr (addr : BitVec 32) (words : List (BitVec 32)) (edges : BitVec 16) (s : State) : Out :=
  .next (s.frame (objectPhase addr.toNat) words.length edges.toNat id (fun s => s.enterBuf (.dwr addr.toNat words)))

def execCommit (addr : BitVec 32) (n : BitVec 9) (edges : BitVec 16) (s : State) : Out :=
  .next (s.frame (n = 0 && addr = 0) 0 edges.toNat id (fun s => s.enterBuf .commit))

def execDbw (addr : BitVec 32) (words : List (BitVec 32)) (edges : BitVec 16) (s : State) : Out :=
  .next (s.frame (objectPhase addr.toNat && decide (1 ≤ words.length) && decide (words.length ≤ 257)) words.length edges.toNat id
    (fun s => s.enterBuf (.dbw addr.toNat words)))

def execMwr (addr : BitVec 32) (words : List (BitVec 32)) (edges : BitVec 16) (s : State) : Out :=
  .next (s.frame (addr.toNat % 4 == 0 && decide (1 ≤ words.length) && decide (words.length ≤ 256)) words.length edges.toNat id
    (fun s => s.enterBuf (.mwr addr.toNat words)))

def execLoad (addr : BitVec 32) (words : List (BitVec 32)) (edges : BitVec 16) (s : State) : Out :=
  .next (s.frame (decide (1 ≤ words.length) && decide (words.length ≤ 256)) words.length edges.toNat id (fun s => s.enterBuf (.load addr.toNat words)))

/-- PORTRESET: 24 edges in every profile; the buffers released before are presented first. -/
def execPortreset (edges : BitVec 16) (s : State) : Out :=
  .next (if !s.hostUp then s
    else
      let t := s.openFrame
      (if edges.toNat = 24 then (if t.serving then t.presentAll.portReset.accepted else t.enterBuf .portReset)
       else t.notExact 24 24 edges.toNat).setReady)

/-- Whether N lies in the range of an opcode's command (R624); HOST_DWR answers a wrong N itself (R632). -/
def nInRange (op n : Nat) : Bool :=
  if op = 0x05 then decide (1 ≤ n ∧ n ≤ 4)
  else if op = 0x06 then n % 4 == 0 && decide (4 ≤ n ∧ n ≤ 256)
  else if op = 0x20 then decide (2 ≤ n ∧ n ≤ 17)
  else if op = 0x21 then true
  else if op = 0x22 then n == 0
  else if op = 0x24 then decide (2 ≤ n ∧ n ≤ 258)
  else if op = 0x25 then decide (1 ≤ n ∧ n ≤ 257)
  else if op = 0x30 then decide (2 ≤ n ∧ n ≤ 257)
  else if op = 0x31 ∨ op = 0x60 then decide (1 ≤ n ∧ n ≤ 256)
  else false

/-- Whether the zero-required bits of an address phase are zero (R458, R624). -/
def phaseOk (op addr : Nat) : Bool :=
  if op = 0x05 then decide (addr < 128)
  else if op = 0x06 ∨ op = 0x22 then addr == 0
  else if op = 0x20 ∨ op = 0x21 ∨ op = 0x24 ∨ op = 0x25 then objectPhase addr
  else if op = 0x30 ∨ op = 0x31 then addr % 4 == 0
  else true

/-- Whether a frame is refused for its command word or its address phase (R625). -/
def badCommand (cmd addr : Nat) : Bool := cmd / 2 ^ 9 % 2 ^ 7 != 0 || !nInRange (cmd / 2 ^ 16) (cmd % 512) || !phaseOk (cmd / 2 ^ 16) addr

def execBadCommand (cmd : BitVec 24) (addr : BitVec 32) (s : State) : Out :=
  .next (if s.hostUp && badCommand cmd.toNat addr.toNat then (s.openFrame.refuseFrame).setReady else s)

def execWriteBufferPresent (held : Bool) (s : State) : Out := .next ((s.presentOne held).setReady)

/-! ### Read frames (R626 to R630, R633 to R637, R645) -/

/-- The words of a read frame have been delivered. -/
def State.sendOut (s : State) (l : List (BitVec 32)) : State := ({ s with hsp := { s.hsp with out := l, read := none } } : State).accepted

/-- Words past the end are counted and flagged. -/
def State.noteOverrun (s : State) : State := s.overrun.count O.overrunReads 32 1

/-- A read of N words with its result: the result word, then the value. `shown` is the address in the result word. -/
def State.deliverRead (s : State) (shown n code : Nat) (words : List (BitVec 32)) : State :=
  let value := (List.range (n - 1)).map (fun i => if code = rcOk then words.getD i 0xFFFFFFFF else 0xFFFFFFFF)
  let t := if code = rcOk ∧ words.length < n - 1 then s.noteOverrun else s
  t.sendOut (BitVec.ofNat 32 (code * 2 ^ 24 + shown % 2 ^ 24) :: value)

/-- A read frame waits for its response. -/
def State.waitRead (s : State) (r : HostRead) : State := { s with hsp := { s.hsp with read := some r } }

/-- The dictionary read behind a DRD. -/
def State.startDrd (s : State) (addr n : Nat) (held : Bool) : State :=
  let w : HostRead := { addr := addr, n := n, dbr := false, todo := false, res := none }
  if isProxied addr then
    match s.proxySend 1 addr [] with
    | some t => t.waitRead w
    | none => (s.respond .host (addr % 2 ^ 24) rcNoRoute []).deliverRead addr n rcNoRoute []
  else
    let t := s.request { key := .host, link := 0, write := false, addr := addr, words := [], accepted := 0, tag := none } held
    if s.queuedMore t then t.waitRead w
    else match t.resp with
      | some p => t.deliverRead addr n p.code p.words
      | none => t

/-- The response unit that is pending for an address, delivered (R630). -/
def State.startDbr (s : State) (addr n : Nat) : State :=
  let x := s.session .host
  match x.unit with
  | some (a, ws) =>
    if a = addr then ((s.setSession { x with unit := none }).hostResult addr rcOk).deliverRead addr n rcOk ws
    else (s.hostResult addr rcSequence).deliverRead addr n rcSequence []
  | none => (s.hostResult addr rcSequence).deliverRead addr n rcSequence []

/-- A read frame is served, or waits where the dictionary does not serve requests (R823). -/
def State.startRead (s : State) (r : HostRead) (held : Bool) : State :=
  if !s.serving then s.waitRead { r with todo := true }
  else if r.dbr then s.startDbr r.addr r.n
  else s.startDrd r.addr r.n held

/-- A proxied read that is released with a wrong count after its address phase still goes to the target (R624, R642, R644). -/
def State.missDrd (s : State) (addr edges : Nat) : State :=
  let t := s.presentAll
  if isProxied addr && t.serving && decide (s.headEdges - s.obj O.hostDummy ≤ edges) then (t.proxySend 1 addr []).getD t else s

def execDrd (addr : BitVec 32) (n : BitVec 9) (edges : BitVec 16) (held : Bool) (s : State) : Out :=
  .next (s.frame (objectPhase addr.toNat && nInRange 0x20 n.toNat) n.toNat edges.toNat (fun s => s.missDrd addr.toNat edges.toNat)
    (fun s => s.presentAll.startRead { addr := addr.toNat, n := n.toNat, dbr := false, todo := false, res := none } held))

def execDbr (addr : BitVec 32) (n : BitVec 9) (edges : BitVec 16) (s : State) : Out :=
  .next (s.frame (objectPhase addr.toNat && nInRange 0x24 n.toNat) n.toNat edges.toNat id
    (fun s => s.presentAll.startRead { addr := addr.toNat, n := n.toNat, dbr := true, todo := false, res := none } false))

/-- The response of a waiting read frame is ready: the sync byte, then the words. -/
def execHostResponseReady (s : State) : Out :=
  .next (match s.hsp.read with
    | none => s
    | some r =>
      match r.todo, r.res with
      | true, _ =>
        if s.serving then ((({ s with hsp := { s.hsp with read := none } } : State).presentAll).startRead { r with todo := false } false).setReady
        else s
      | false, some (c, ws) => (s.deliverRead r.addr r.n c ws).setReady
      | false, none => s)

/-- STAT: HSP_STATUS, the last result, the generation of the last COMMIT, DeviceStatus; then the flags are cleared (R627, R646). -/
def execStat (addr : BitVec 32) (n : BitVec 9) (edges : BitVec 16) (s : State) : Out :=
  .next (s.frame (decide (addr.toNat < 128) && nInRange 0x05 n.toNat) n.toNat edges.toNat id (fun s =>
    let t := s.presentAll
    let words := [t.hostStatus, t.hsp.last, t.hsp.gen, t.deviceStatus].map (BitVec.ofNat 32)
    (t.sendOut (words.take n.toNat)).clearHsp addr.toNat))

/-- The four words of an event record (R464, R629). -/
def Event.words (e : Event) : List (BitVec 32) := natWords 4 (e.tick % 2 ^ 48 + e.code % 2 ^ 16 * 2 ^ 48 + e.data % 2 ^ 64 * 2 ^ 64)

/-- EVT: k records, zeros where the queue is empty; they are removed (R467, R629). -/
def execEvt (addr : BitVec 32) (n : BitVec 9) (edges : BitVec 16) (s : State) : Out :=
  .next (s.frame (addr = 0 && nInRange 0x06 n.toNat) n.toNat edges.toNat id (fun s =>
    let t := s.presentAll
    let k := n.toNat / 4
    let l := (t.events.take k).flatMap Event.words
    ({ t with events := t.events.drop k } : State).sendOut (l ++ List.replicate (n.toNat - l.length) 0)))

/-- MRD: a memory read in Service mode; it stops at the end of its region (R631, R645). -/
def State.hostMrd (s : State) (a n : Nat) : State :=
  let b := s.hostAddr a
  let room := s.mapRoom b
  let bytes := min (4 * (n - 1)) (room / 4 * 4)
  if s.mode ≠ 7 then (s.hostResult 0 rcMode).deliverRead 0 n rcMode []
  else if room = 0 then (s.hostResult 0 rcRange).deliverRead 0 n rcRange []
  else
    let r := s.busRead 5 b bytes
    (r.2.2.hostResult 0 (busCode r.1)).deliverRead 0 n (busCode r.1) (bytesWords r.2.1)

def execMrd (addr : BitVec 32) (n : BitVec 9) (edges : BitVec 16) (s : State) : Out :=
  .next (s.frame (addr.toNat % 4 == 0 && nInRange 0x30 n.toNat) n.toNat edges.toNat id (fun s => s.presentAll.hostMrd addr.toNat n.toNat))

end Sys2Proof.Machine
end

