-- ==== Sys2Proof/Machine/Dispatch.lean ====
section
/-! DEFINITION. One arm per command of the table: each calls its own meaning. -/
namespace Sys2Proof.Machine
open Sys2Proof

def exec (i : Instr) (s : State) : Host.Outcome State Fault Refusal :=
  match i with
  | .reset power => Sys2Proof.Machine.execReset power s
  | .resetRelease bootsel => Sys2Proof.Machine.execResetRelease bootsel s
  | .powerOnFillComplete lpddr flash flashMib => Sys2Proof.Machine.execPowerOnFillComplete lpddr flash flashMib s
  | .hullWatchdogExpiry => Sys2Proof.Machine.execHullWatchdogExpiry s
  | .hullQueueOpen => Sys2Proof.Machine.execHullQueueOpen s
  | .shedStageAdvance => Sys2Proof.Machine.execShedStageAdvance s
  | .shedStageRetreat => Sys2Proof.Machine.execShedStageRetreat s
  | .muteNAssert => Sys2Proof.Machine.execMuteNAssert s
  | .muteNRelease => Sys2Proof.Machine.execMuteNRelease s
  | .pendingStartModeEntry => Sys2Proof.Machine.execPendingStartModeEntry s
  | .thermalSample t => Sys2Proof.Machine.execThermalSample t s
  | .railFault rail mv => Sys2Proof.Machine.execRailFault rail mv s
  | .boundary hull served => Sys2Proof.Machine.execBoundary hull served s
  | .tickSourceLost fallbackValid => Sys2Proof.Machine.execTickSourceLost fallbackValid s
  | .tickSourceLocked phase => Sys2Proof.Machine.execTickSourceLocked phase s
  | .tickRateWrite src words => Sys2Proof.Machine.execTickRateWrite src words s
  | .tickRateStop => Sys2Proof.Machine.execTickRateStop s
  | .tickRateRestart => Sys2Proof.Machine.execTickRateRestart s
  | .tickSourceWrite src words => Sys2Proof.Machine.execTickSourceWrite src words s
  | .modeRequest src words => Sys2Proof.Machine.execModeRequest src words s
  | .ifetchTrap e w => Sys2Proof.Machine.execIfetchTrap e w s
  | .mnop e => Sys2Proof.Machine.execMnop e s
  | .mpy e d a b m f => Sys2Proof.Machine.execMpy e d a b m f s
  | .mpyn e d a b m f => Sys2Proof.Machine.execMpyn e d a b m f s
  | .mac e d a b m f => Sys2Proof.Machine.execMac e d a b m f s
  | .msu e d a b m f => Sys2Proof.Machine.execMsu e d a b m f s
  | .mpys e d a b m f => Sys2Proof.Machine.execMpys e d a b m f s
  | .macs e d a b m f => Sys2Proof.Machine.execMacs e d a b m f s
  | .msus e d a b m f => Sys2Proof.Machine.execMsus e d a b m f s
  | .mld e d a m => Sys2Proof.Machine.execMld e d a m s
  | .mclr e d m => Sys2Proof.Machine.execMclr e d m s
  | .maddv e d a m => Sys2Proof.Machine.execMaddv e d a m s
  | .anop e => Sys2Proof.Machine.execAnop e s
  | .add e d a b m => Sys2Proof.Machine.execAdd e d a b m s
  | .sub e d a b m => Sys2Proof.Machine.execSub e d a b m s
  | .addw e d a b m => Sys2Proof.Machine.execAddw e d a b m s
  | .subw e d a b m => Sys2Proof.Machine.execSubw e d a b m s
  | .adds e d a b m => Sys2Proof.Machine.execAdds e d a b m s
  | .subs e d a b m => Sys2Proof.Machine.execSubs e d a b m s
  | .vabs e d a m => Sys2Proof.Machine.execVabs e d a m s
  | .neg e d a m => Sys2Proof.Machine.execNeg e d a m s
  | .vmin e d a b m => Sys2Proof.Machine.execVmin e d a b m s
  | .vmax e d a b m => Sys2Proof.Machine.execVmax e d a b m s
  | .mins e d a b m => Sys2Proof.Machine.execMins e d a b m s
  | .maxs e d a b m => Sys2Proof.Machine.execMaxs e d a b m s
  | .vand e d a b m => Sys2Proof.Machine.execVand e d a b m s
  | .vor e d a b m => Sys2Proof.Machine.execVor e d a b m s
  | .vxor e d a b m => Sys2Proof.Machine.execVxor e d a b m s
  | .vnot e d a m => Sys2Proof.Machine.execVnot e d a m s
  | .mov e d a m => Sys2Proof.Machine.execMov e d a m s
  | .movs e d b m => Sys2Proof.Machine.execMovs e d b m s
  | .asri e d a k m => Sys2Proof.Machine.execAsri e d a k m s
  | .asrv e d a b m => Sys2Proof.Machine.execAsrv e d a b m s
  | .lsri e d a k m => Sys2Proof.Machine.execLsri e d a k m s
  | .shli e d a k m => Sys2Proof.Machine.execShli e d a k m s
  | .shlwi e d a k m => Sys2Proof.Machine.execShlwi e d a k m s
  | .cmpeq e d a b m => Sys2Proof.Machine.execCmpeq e d a b m s
  | .cmplt e d a b m => Sys2Proof.Machine.execCmplt e d a b m s
  | .cmple e d a b m => Sys2Proof.Machine.execCmple e d a b m s
  | .cmplts e d a b m => Sys2Proof.Machine.execCmplts e d a b m s
  | .cmpgts e d a b m => Sys2Proof.Machine.execCmpgts e d a b m s
  | .mand e d a b m => Sys2Proof.Machine.execMand e d a b m s
  | .mor e d a b m => Sys2Proof.Machine.execMor e d a b m s
  | .mxor e d a b m => Sys2Proof.Machine.execMxor e d a b m s
  | .mnot e d a m => Sys2Proof.Machine.execMnot e d a m s
  | .mset e d a b m => Sys2Proof.Machine.execMset e d a b m s
  | .mguard e d m => Sys2Proof.Machine.execMguard e d m s
  | .norm e d a m => Sys2Proof.Machine.execNorm e d a m s
  | .vexp e d a m => Sys2Proof.Machine.execVexp e d a m s
  | .bexp e d a g m => Sys2Proof.Machine.execBexp e d a g m s
  | .bexpa e d a g m => Sys2Proof.Machine.execBexpa e d a g m s
  | .bexps e d a m => Sys2Proof.Machine.execBexps e d a m s
  | .bexpas e d a m => Sys2Proof.Machine.execBexpas e d a m s
  | .mova e d a m => Sys2Proof.Machine.execMova e d a m s
  | .lroti e d a k m => Sys2Proof.Machine.execLroti e d a k m s
  | .lrotih e d a k m => Sys2Proof.Machine.execLrotih e d a k m s
  | .lrots e d a b m => Sys2Proof.Machine.execLrots e d a b m s
  | .bcasti e d a k m => Sys2Proof.Machine.execBcasti e d a k m s
  | .bcastih e d a k m => Sys2Proof.Machine.execBcastih e d a k m s
  | .bcasts e d a b m => Sys2Proof.Machine.execBcasts e d a b m s
  | .rsum e d a m => Sys2Proof.Machine.execRsum e d a m s
  | .rmax e d a m => Sys2Proof.Machine.execRmax e d a m s
  | .rmin e d a m => Sys2Proof.Machine.execRmin e d a m s
  | .sel e t d a b m => Sys2Proof.Machine.execSel e t d a b m s
  | .xnop e => Sys2Proof.Machine.execXnop e s
  | .ynop e => Sys2Proof.Machine.execYnop e s
  | .ldv e y v p mode m => Sys2Proof.Machine.execLdv e y v p mode m s
  | .stv e y v p mode m => Sys2Proof.Machine.execStv e y v p mode m s
  | .ldb e y v p mode m => Sys2Proof.Machine.execLdb e y v p mode m s
  | .lds e y v p mode => Sys2Proof.Machine.execLds e y v p mode s
  | .sts e y v p mode m => Sys2Proof.Machine.execSts e y v p mode m s
  | .ldc e v p mode m => Sys2Proof.Machine.execLdc e v p mode m s
  | .ldcb e v p mode m => Sys2Proof.Machine.execLdcb e v p mode m s
  | .onop e => Sys2Proof.Machine.execOnop e s
  | .tap e d q t m => Sys2Proof.Machine.execTap e d q t m s
  | .tap4 e d q t m => Sys2Proof.Machine.execTap4 e d q t m s
  | .tap4a e d q t m => Sys2Proof.Machine.execTap4a e d q t m s
  | .tap8 e d q t m => Sys2Proof.Machine.execTap8 e d q t m s
  | .tap8a e d q t m => Sys2Proof.Machine.execTap8a e d q t m s
  | .taps e d q t m => Sys2Proof.Machine.execTaps e d q t m s
  | .taps4 e d q t m => Sys2Proof.Machine.execTaps4 e d q t m s
  | .taps4a e d q t m => Sys2Proof.Machine.execTaps4a e d q t m s
  | .taps8 e d q t m => Sys2Proof.Machine.execTaps8 e d q t m s
  | .taps8a e d q t m => Sys2Proof.Machine.execTaps8a e d q t m s
  | .trd e d q t m => Sys2Proof.Machine.execTrd e d q t m s
  | .trd4 e d q t m => Sys2Proof.Machine.execTrd4 e d q t m s
  | .trd4a e d q t m => Sys2Proof.Machine.execTrd4a e d q t m s
  | .dwr e q v m => Sys2Proof.Machine.execDwr e q v m s
  | .chanIn e v q j m => Sys2Proof.Machine.execChanIn e v q j m s
  | .chanOut e v q j m => Sys2Proof.Machine.execChanOut e v q j m s
  | .exr e v q j m => Sys2Proof.Machine.execExr e v q j m s
  | .exw e v q j m => Sys2Proof.Machine.execExw e v q j m s
  | .old e v q j m => Sys2Proof.Machine.execOld e v q j m s
  | .ost e v q j m => Sys2Proof.Machine.execOst e v q j m s
  | .orbitAccessServed e => Sys2Proof.Machine.execOrbitAccessServed e s
  | .cnop e => Sys2Proof.Machine.execCnop e s
  | .rep e count len rot => Sys2Proof.Machine.execRep e count len rot s
  | .rot e r => Sys2Proof.Machine.execRot e r s
  | .sacs e k imm => Sys2Proof.Machine.execSacs e k imm s
  | .sacsr e k a => Sys2Proof.Machine.execSacsr e k a s
  | .sli e d imm => Sys2Proof.Machine.execSli e d imm s
  | .slu e d imm => Sys2Proof.Machine.execSlu e d imm s
  | .sadd e d a b => Sys2Proof.Machine.execSadd e d a b s
  | .ssub e d a b => Sys2Proof.Machine.execSsub e d a b s
  | .sand e d a b => Sys2Proof.Machine.execSand e d a b s
  | .sor e d a b => Sys2Proof.Machine.execSor e d a b s
  | .sxor e d a b => Sys2Proof.Machine.execSxor e d a b s
  | .saddi e d a imm => Sys2Proof.Machine.execSaddi e d a imm s
  | .sshli e d a k => Sys2Proof.Machine.execSshli e d a k s
  | .slsri e d a k => Sys2Proof.Machine.execSlsri e d a k s
  | .pwr e f x a => Sys2Proof.Machine.execPwr e f x a s
  | .prd e d f x => Sys2Proof.Machine.execPrd e d f x s
  | .paddi e d imm => Sys2Proof.Machine.execPaddi e d imm s
  | .sget e d a j => Sys2Proof.Machine.execSget e d a j s
  | .entry e => Sys2Proof.Machine.execEntry e s
  | .bkpt e => Sys2Proof.Machine.execBkpt e s
  | .fetchMode src e words => Sys2Proof.Machine.execFetchMode src e words s
  | .groupFaultPolicy src g words => Sys2Proof.Machine.execGroupFaultPolicy src g words s
  | .orbShare loader w => Sys2Proof.Machine.execOrbShare loader w s
  | .rangeRegisterWrite loader e k w => Sys2Proof.Machine.execRangeRegisterWrite loader e k w s
  | .descriptorFileWrite tiler e q w0 w1 w2 w3 => Sys2Proof.Machine.execDescriptorFileWrite tiler e q w0 w1 w2 w3 s
  | .farFetchComplete e q g => Sys2Proof.Machine.execFarFetchComplete e q g s
  | .farGroupCopy e q g => Sys2Proof.Machine.execFarGroupCopy e q g s
  | .spanChangeApply e q => Sys2Proof.Machine.execSpanChangeApply e q s
  | .delayLengthWrite src a words => Sys2Proof.Machine.execDelayLengthWrite src a words s
  | .bankedWrite src a words => Sys2Proof.Machine.execBankedWrite src a words s
  | .levellingEnd e => Sys2Proof.Machine.execLevellingEnd e s
  | .pageCoderDone r => Sys2Proof.Machine.execPageCoderDone r s
  | .commitObjectWrite src words => Sys2Proof.Machine.execCommitObjectWrite src words s
  | .commitArrival gen => Sys2Proof.Machine.execCommitArrival gen s
  | .updateSetAbort src words => Sys2Proof.Machine.execUpdateSetAbort src words s
  | .xyParameterWrite src a words => Sys2Proof.Machine.execXyParameterWrite src a words s
  | .graphAdmission => Sys2Proof.Machine.execGraphAdmission s
  | .graphStart => Sys2Proof.Machine.execGraphStart s
  | .graphUnload src words => Sys2Proof.Machine.execGraphUnload src words s
  | .migrateRequest src words => Sys2Proof.Machine.execMigrateRequest src words s
  | .migrationLoadDone => Sys2Proof.Machine.execMigrationLoadDone s
  | .migrationSwitch => Sys2Proof.Machine.execMigrationSwitch s
  | .snapshotCopy => Sys2Proof.Machine.execSnapshotCopy s
  | .snapshotArrival data => Sys2Proof.Machine.execSnapshotArrival data s
  | .crossfadeEnd => Sys2Proof.Machine.execCrossfadeEnd s
  | .drainDevice src words => Sys2Proof.Machine.execDrainDevice src words s
  | .dictionaryRead src a time => Sys2Proof.Machine.execDictionaryRead src a time s
  | .dictionaryWrite src a words held => Sys2Proof.Machine.execDictionaryWrite src a words held s
  | .registerWrite loader a v => Sys2Proof.Machine.execRegisterWrite loader a v s
  | .firmwareDeadlineExpiry => Sys2Proof.Machine.execFirmwareDeadlineExpiry s
  | .domainStart src a total => Sys2Proof.Machine.execDomainStart src a total s
  | .domainData src a seq n words => Sys2Proof.Machine.execDomainData src a seq n words s
  | .domainEnd src a crc => Sys2Proof.Machine.execDomainEnd src a crc s
  | .domainAbort src a => Sys2Proof.Machine.execDomainAbort src a s
  | .readStart src a => Sys2Proof.Machine.execReadStart src a s
  | .readData src a n offset => Sys2Proof.Machine.execReadData src a n offset s
  | .readEnd src a => Sys2Proof.Machine.execReadEnd src a s
  | .domainTimeout src => Sys2Proof.Machine.execDomainTimeout src s
  | .sessionRelease dev num => Sys2Proof.Machine.execSessionRelease dev num s
  | .proxyTimeout tag => Sys2Proof.Machine.execProxyTimeout tag s
  | .dictReq dev session k w0 w1 words held => Sys2Proof.Machine.execDictReq dev session k w0 w1 words held s
  | .dictRsp result a tag words => Sys2Proof.Machine.execDictRsp result a tag words s
  | .gapClose => Sys2Proof.Machine.execGapClose s
  | .locusDrain => Sys2Proof.Machine.execLocusDrain s
  | .locusAckSeq src words => Sys2Proof.Machine.execLocusAckSeq src words s
  | .locusDrainEnable src words => Sys2Proof.Machine.execLocusDrainEnable src words s
  | .lpddrRingBase src words => Sys2Proof.Machine.execLpddrRingBase src words s
  | .lpddrRingLog2 src words => Sys2Proof.Machine.execLpddrRingLog2 src words s
  | .locusSummary => Sys2Proof.Machine.execLocusSummary s
  | .portEnable src p => Sys2Proof.Machine.execPortEnable src p s
  | .portShutdown src p => Sys2Proof.Machine.execPortShutdown src p s
  | .portShutdownComplete p => Sys2Proof.Machine.execPortShutdownComplete p s
  | .sapFormatWrite src p which words => Sys2Proof.Machine.execSapFormatWrite src p which words s
  | .sapFrame p bclk q rate lanes => Sys2Proof.Machine.execSapFrame p bclk q rate lanes s
  | .sapClockLoss p => Sys2Proof.Machine.execSapClockLoss p s
  | .converterLocked p inbound => Sys2Proof.Machine.execConverterLocked p inbound s
  | .converterUnlock p inbound => Sys2Proof.Machine.execConverterUnlock p inbound s
  | .mclkConfigWrite src p which words => Sys2Proof.Machine.execMclkConfigWrite src p which words s
  | .linkEnable src k => Sys2Proof.Machine.execLinkEnable src k s
  | .linkDisable src k => Sys2Proof.Machine.execLinkDisable src k s
  | .linkShutdownComplete k => Sys2Proof.Machine.execLinkShutdownComplete k s
  | .linkSignalDetect k => Sys2Proof.Machine.execLinkSignalDetect k s
  | .laneBlockLock k lane swapped inverted => Sys2Proof.Machine.execLaneBlockLock k lane swapped inverted s
  | .laneLockLoss k lane => Sys2Proof.Machine.execLaneLockLoss k lane s
  | .trainingComplete k two => Sys2Proof.Machine.execTrainingComplete k two s
  | .trainingTimeout k => Sys2Proof.Machine.execTrainingTimeout k s
  | .tickFrameTransmit k => Sys2Proof.Machine.execTickFrameTransmit k s
  | .tickFrameReceived k marks mark h0 h1 h2 h3 got bad late arrival => Sys2Proof.Machine.execTickFrameReceived k marks mark h0 h1 h2 h3 got bad late arrival s
  | .errorWindowEnd k => Sys2Proof.Machine.execErrorWindowEnd k s
  | .cellReceived k bulk blocks => Sys2Proof.Machine.execCellReceived k bulk blocks s
  | .cellRetransmit k bulk => Sys2Proof.Machine.execCellRetransmit k bulk s
  | .hello k h => Sys2Proof.Machine.execHello k h s
  | .helloPeriod => Sys2Proof.Machine.execHelloPeriod s
  | .electionSettle => Sys2Proof.Machine.execElectionSettle s
  | .claim k src prio uid epoch seq => Sys2Proof.Machine.execClaim k src prio uid epoch seq s
  | .linkDown k src addrA portA addrB portB f seq => Sys2Proof.Machine.execLinkDown k src addrA portA addrB portB f seq s
  | .topology uid prio addr p0 p1 p2 p3 => Sys2Proof.Machine.execTopology uid prio addr p0 p1 p2 p3 s
  | .address sender uid addr x y coord => Sys2Proof.Machine.execAddress sender uid addr x y coord s
  | .routes first entries => Sys2Proof.Machine.execRoutes first entries s
  | .reserve gen runs plans => Sys2Proof.Machine.execReserve gen runs plans s
  | .activate gen tick => Sys2Proof.Machine.execActivate gen tick s
  | .tilerOrder block pin limits => Sys2Proof.Machine.execTilerOrder block pin limits s
  | .tilerReport block result diagCode diagTable entry detail need have_ device engine => Sys2Proof.Machine.execTilerReport block result diagCode diagTable entry detail need have_ device engine s
  | .repairInstall addrA portA addrB portB => Sys2Proof.Machine.execRepairInstall addrA portA addrB portB s
  | .deviceLost addr => Sys2Proof.Machine.execDeviceLost addr s
  | .holdoverElection => Sys2Proof.Machine.execHoldoverElection s
  | .timeAligned => Sys2Proof.Machine.execTimeAligned s
  | .timeAcquiring => Sys2Proof.Machine.execTimeAcquiring s
  | .stat addr n edges => Sys2Proof.Machine.execStat addr n edges s
  | .evt addr n edges => Sys2Proof.Machine.execEvt addr n edges s
  | .drd addr n edges held => Sys2Proof.Machine.execDrd addr n edges held s
  | .hostDwr addr words edges => Sys2Proof.Machine.execHostDwr addr words edges s
  | .commit addr n edges => Sys2Proof.Machine.execCommit addr n edges s
  | .dbr addr n edges => Sys2Proof.Machine.execDbr addr n edges s
  | .dbw addr words edges => Sys2Proof.Machine.execDbw addr words edges s
  | .mrd addr n edges => Sys2Proof.Machine.execMrd addr n edges s
  | .mwr addr words edges => Sys2Proof.Machine.execMwr addr words edges s
  | .load addr words edges => Sys2Proof.Machine.execLoad addr words edges s
  | .portreset edges => Sys2Proof.Machine.execPortreset edges s
  | .badCommand cmd addr => Sys2Proof.Machine.execBadCommand cmd addr s
  | .writeBufferPresent held => Sys2Proof.Machine.execWriteBufferPresent held s
  | .hostResponseReady => Sys2Proof.Machine.execHostResponseReady s
  | .hspStatusClear flags => Sys2Proof.Machine.execHspStatusClear flags s
  | .periphRequest src crc => Sys2Proof.Machine.execPeriphRequest src crc s
  | .periphDone rx => Sys2Proof.Machine.execPeriphDone rx s
  | .xipFill o => Sys2Proof.Machine.execXipFill o s
  | .xipLock => Sys2Proof.Machine.execXipLock s
  | .xipInvalidate => Sys2Proof.Machine.execXipInvalidate s
  | .flashRawCommand a op => Sys2Proof.Machine.execFlashRawCommand a op s
  | .flashProgramComplete => Sys2Proof.Machine.execFlashProgramComplete s
  | .channelHead src c words => Sys2Proof.Machine.execChannelHead src c words s
  | .doorbell src c words => Sys2Proof.Machine.execDoorbell src c words s
  | .channelResume src c words => Sys2Proof.Machine.execChannelResume src c words s
  | .channelStop src c words => Sys2Proof.Machine.execChannelStop src c words s
  | .descriptorRead c => Sys2Proof.Machine.execDescriptorRead c s
  | .dmaBurst => Sys2Proof.Machine.execDmaBurst s
  | .descriptorWriteBack c => Sys2Proof.Machine.execDescriptorWriteBack c s
  | .bulkCredit dev session n => Sys2Proof.Machine.execBulkCredit dev session n s
  | .bulkData dev session data => Sys2Proof.Machine.execBulkData dev session data s
  | .bulkAbort dev session => Sys2Proof.Machine.execBulkAbort dev session s
  | .dmaRemoteTimeout c => Sys2Proof.Machine.execDmaRemoteTimeout c s
  | .pageRecovery => Sys2Proof.Machine.execPageRecovery s
  | .pageReload addr => Sys2Proof.Machine.execPageReload addr s
  | .scrubLine a => Sys2Proof.Machine.execScrubLine a s
  | .stormWindowEnd => Sys2Proof.Machine.execStormWindowEnd s
  | .rangeStart src words => Sys2Proof.Machine.execRangeStart src words s
  | .rangePassComplete => Sys2Proof.Machine.execRangePassComplete s
  | .backgroundTestPage page fail => Sys2Proof.Machine.execBackgroundTestPage page fail s
  | .fullTest src words => Sys2Proof.Machine.execFullTest src words s
  | .powerBankWrite src b words => Sys2Proof.Machine.execPowerBankWrite src b words s
  | .keyRevoke src words => Sys2Proof.Machine.execKeyRevoke src words s
  | .rollbackAdvance src words fail => Sys2Proof.Machine.execRollbackAdvance src words fail s
  | .updateImage src crc => Sys2Proof.Machine.execUpdateImage src crc s
  | .updateComplete readback => Sys2Proof.Machine.execUpdateComplete readback s
  | .updateActivate src words => Sys2Proof.Machine.execUpdateActivate src words s
  | .imageConfirm src words => Sys2Proof.Machine.execImageConfirm src words s
  | .confirmDelayExpiry healthy => Sys2Proof.Machine.execConfirmDelayExpiry healthy s
  | .verifyAndRun src => Sys2Proof.Machine.execVerifyAndRun src s
  | .verifyAndProgram src readback => Sys2Proof.Machine.execVerifyAndProgram src readback s
  | .stagingClear src => Sys2Proof.Machine.execStagingClear src s
  | .keepSnapshotNow src words => Sys2Proof.Machine.execKeepSnapshotNow src words s
  | .keepSnapshotPeriod => Sys2Proof.Machine.execKeepSnapshotPeriod s
  | .startMode src words => Sys2Proof.Machine.execStartMode src words s
  | .keepUser src crc => Sys2Proof.Machine.execKeepUser src crc s
  | .patchbayStart sap0 => Sys2Proof.Machine.execPatchbayStart sap0 s
  | .crossGain src o k words => Sys2Proof.Machine.execCrossGain src o k words s
  | .crossSource src o k words => Sys2Proof.Machine.execCrossSource src o k words s
  | .outputDelay src o words => Sys2Proof.Machine.execOutputDelay src o words s
  | .delayReserve src o words => Sys2Proof.Machine.execDelayReserve src o words s
  | .eqBand src o b words => Sys2Proof.Machine.execEqBand src o b words s
  | .sourceGroup src g words => Sys2Proof.Machine.execSourceGroup src g words s
  | .meterWindow => Sys2Proof.Machine.execMeterWindow s
  | .engineFrequency src words => Sys2Proof.Machine.execEngineFrequency src words s
  | .engineSpread src words => Sys2Proof.Machine.execEngineSpread src words s
  | .engineClockStop => Sys2Proof.Machine.execEngineClockStop s
  | .pllLocked p => Sys2Proof.Machine.execPllLocked p s
  | .pllLockLost p => Sys2Proof.Machine.execPllLockLost p s
  | .refLost => Sys2Proof.Machine.execRefLost s
  | .refRestored => Sys2Proof.Machine.execRefRestored s
  | .clkOutConfig src n words => Sys2Proof.Machine.execClkOutConfig src n words s
  | .powerRequest src words => Sys2Proof.Machine.execPowerRequest src words s
  | .coastEngGate => Sys2Proof.Machine.execCoastEngGate s
  | .wake source => Sys2Proof.Machine.execWake source s
  | .wakeTimer => Sys2Proof.Machine.execWakeTimer s
  | .sleepReceived k => Sys2Proof.Machine.execSleepReceived k s
  | .pwrgdHigh => Sys2Proof.Machine.execPwrgdHigh s

end Sys2Proof.Machine
end

