-- ==== Sys2Proof/Machine/Encode.lean ====
section
/-! DEFINITION. The encodings of the slot operations in a bundle (R151 to R204), written from the encoding tables of each slot. -/
namespace Sys2Proof.Machine
open Sys2Proof

/-- The fields of an M-slot operation: op [23:19], d [18:16], a [15:11], b [10:6], m [5:3], F [2] (R170). -/
def mWord (op d a b m : Nat) (f : Bool) : Nat := op * 2 ^ 19 + d * 2 ^ 16 + a * 2 ^ 11 + b * 2 ^ 6 + m * 2 ^ 3 + (if f then 4 else 0)

/-- The fields of an A-slot operation: op [23:18], d [17:13], a [12:8], b [7:3], m [2:0] (R173, R174). -/
def aWord (op d a b m : Nat) : Nat := op * 2 ^ 18 + d * 2 ^ 13 + a * 2 ^ 8 + b * 2 ^ 3 + m

/-- The fields of an X- or Y-slot operation: op [17:15], v [14:10], p [9:6], mode [5:3], m [2:0] (R160, R180). -/
def xyWord (op v p mode m : Nat) : Nat := op * 2 ^ 15 + v * 2 ^ 10 + p * 2 ^ 6 + mode * 2 ^ 3 + m

/-- The fields of an O-slot operation: op [23:19], v [18:14], q [13:9], t [8:4], m [3:1] (R189). -/
def oWord (op v q t m : Nat) : Nat := op * 2 ^ 19 + v * 2 ^ 14 + q * 2 ^ 9 + t * 2 ^ 4 + m * 2

/-- A C-slot operation: op [19:15] over its fields (R204). -/
def cWord (op fields : Nat) : Nat := op * 2 ^ 15 + fields

/-- Slot, engine and encoding of a slot operation; slots are numbered 0 to 5 for M, A, X, Y, O, C (R154). -/
def slotCode (i : Instr) : Option (Nat × Fin 8 × Nat) :=
  match i with
  | .mnop e => some (0, e, 0)
  | .mpy e d a b m f => some (0, e, mWord 0x01 d.val a.val b.val m.val f)
  | .mpyn e d a b m f => some (0, e, mWord 0x02 d.val a.val b.val m.val f)
  | .mac e d a b m f => some (0, e, mWord 0x03 d.val a.val b.val m.val f)
  | .msu e d a b m f => some (0, e, mWord 0x04 d.val a.val b.val m.val f)
  | .mpys e d a b m f => some (0, e, mWord 0x05 d.val a.val b.val m.val f)
  | .macs e d a b m f => some (0, e, mWord 0x06 d.val a.val b.val m.val f)
  | .msus e d a b m f => some (0, e, mWord 0x07 d.val a.val b.val m.val f)
  | .mld e d a m => some (0, e, mWord 0x08 d.val a.val 0 m.val false)
  | .mclr e d m => some (0, e, mWord 0x09 d.val 0 0 m.val false)
  | .maddv e d a m => some (0, e, mWord 0x0A d.val a.val 0 m.val false)
  | .anop e => some (1, e, 0)
  | .add e d a b m => some (1, e, aWord 0x01 d.val a.val b.val m.val)
  | .sub e d a b m => some (1, e, aWord 0x02 d.val a.val b.val m.val)
  | .addw e d a b m => some (1, e, aWord 0x03 d.val a.val b.val m.val)
  | .subw e d a b m => some (1, e, aWord 0x04 d.val a.val b.val m.val)
  | .adds e d a b m => some (1, e, aWord 0x05 d.val a.val b.val m.val)
  | .subs e d a b m => some (1, e, aWord 0x06 d.val a.val b.val m.val)
  | .vabs e d a m => some (1, e, aWord 0x07 d.val a.val 0 m.val)
  | .neg e d a m => some (1, e, aWord 0x08 d.val a.val 0 m.val)
  | .vmin e d a b m => some (1, e, aWord 0x09 d.val a.val b.val m.val)
  | .vmax e d a b m => some (1, e, aWord 0x0A d.val a.val b.val m.val)
  | .mins e d a b m => some (1, e, aWord 0x0B d.val a.val b.val m.val)
  | .maxs e d a b m => some (1, e, aWord 0x0C d.val a.val b.val m.val)
  | .vand e d a b m => some (1, e, aWord 0x0D d.val a.val b.val m.val)
  | .vor e d a b m => some (1, e, aWord 0x0E d.val a.val b.val m.val)
  | .vxor e d a b m => some (1, e, aWord 0x0F d.val a.val b.val m.val)
  | .vnot e d a m => some (1, e, aWord 0x10 d.val a.val 0 m.val)
  | .mov e d a m => some (1, e, aWord 0x11 d.val a.val 0 m.val)
  | .movs e d b m => some (1, e, aWord 0x12 d.val 0 b.val m.val)
  | .asri e d a b m => some (1, e, aWord 0x13 d.val a.val b.val m.val)
  | .asrv e d a b m => some (1, e, aWord 0x14 d.val a.val b.val m.val)
  | .lsri e d a b m => some (1, e, aWord 0x15 d.val a.val b.val m.val)
  | .shli e d a b m => some (1, e, aWord 0x16 d.val a.val b.val m.val)
  | .shlwi e d a b m => some (1, e, aWord 0x17 d.val a.val b.val m.val)
  | .cmpeq e d a b m => some (1, e, aWord 0x18 d.val a.val b.val m.val)
  | .cmplt e d a b m => some (1, e, aWord 0x19 d.val a.val b.val m.val)
  | .cmple e d a b m => some (1, e, aWord 0x1A d.val a.val b.val m.val)
  | .cmplts e d a b m => some (1, e, aWord 0x1B d.val a.val b.val m.val)
  | .cmpgts e d a b m => some (1, e, aWord 0x1C d.val a.val b.val m.val)
  | .mand e d a b m => some (1, e, aWord 0x1D d.val a.val b.val m.val)
  | .mor e d a b m => some (1, e, aWord 0x1E d.val a.val b.val m.val)
  | .mxor e d a b m => some (1, e, aWord 0x1F d.val a.val b.val m.val)
  | .mnot e d a m => some (1, e, aWord 0x20 d.val a.val 0 m.val)
  | .mset e d a b m => some (1, e, aWord 0x21 d.val a.val b.val m.val)
  | .mguard e d m => some (1, e, aWord 0x22 d.val 0 0 m.val)
  | .norm e d a m => some (1, e, aWord 0x23 d.val a.val 0 m.val)
  | .vexp e d a m => some (1, e, aWord 0x24 d.val a.val 0 m.val)
  | .bexp e d a b m => some (1, e, aWord 0x25 d.val a.val b.val m.val)
  | .bexpa e d a b m => some (1, e, aWord 0x26 d.val a.val b.val m.val)
  | .bexps e d a m => some (1, e, aWord 0x27 d.val a.val 0 m.val)
  | .bexpas e d a m => some (1, e, aWord 0x28 d.val a.val 0 m.val)
  | .mova e d a m => some (1, e, aWord 0x29 d.val a.val 0 m.val)
  | .lroti e d a b m => some (1, e, aWord 0x2A d.val a.val b.val m.val)
  | .lrotih e d a b m => some (1, e, aWord 0x2B d.val a.val b.val m.val)
  | .lrots e d a b m => some (1, e, aWord 0x2C d.val a.val b.val m.val)
  | .bcasti e d a b m => some (1, e, aWord 0x2D d.val a.val b.val m.val)
  | .bcastih e d a b m => some (1, e, aWord 0x2E d.val a.val b.val m.val)
  | .bcasts e d a b m => some (1, e, aWord 0x2F d.val a.val b.val m.val)
  | .rsum e d a m => some (1, e, aWord 0x30 d.val a.val 0 m.val)
  | .rmax e d a m => some (1, e, aWord 0x31 d.val a.val 0 m.val)
  | .rmin e d a m => some (1, e, aWord 0x32 d.val a.val 0 m.val)
  | .sel e t d a b m => some (1, e, aWord (0x38 + t.val) d.val a.val b.val m.val)
  | .xnop e => some (2, e, 0)
  | .ynop e => some (3, e, 0)
  | .ldv e y v p mode m => some (if y then 3 else 2, e, xyWord 1 v.val p.val mode.toNat m.val)
  | .stv e y v p mode m => some (if y then 3 else 2, e, xyWord 2 v.val p.val mode.toNat m.val)
  | .ldb e y v p mode m => some (if y then 3 else 2, e, xyWord 3 v.val p.val mode.toNat m.val)
  | .lds e y v p mode => some (if y then 3 else 2, e, xyWord 4 v.val p.val mode.toNat 0)
  | .sts e y v p mode m => some (if y then 3 else 2, e, xyWord 5 v.val p.val mode.toNat m.val)
  | .ldc e v p mode m => some (3, e, xyWord 6 v.val p.val mode.toNat m.val)
  | .ldcb e v p mode m => some (3, e, xyWord 7 v.val p.val mode.toNat m.val)
  | .onop e => some (4, e, 0)
  | .tap e v q t m => some (4, e, oWord 0x01 v.val q.val t.val m.val)
  | .tap4 e v q t m => some (4, e, oWord 0x02 v.val q.val t.val m.val)
  | .tap4a e v q t m => some (4, e, oWord 0x03 v.val q.val t.val m.val)
  | .tap8 e v q t m => some (4, e, oWord 0x04 v.val q.val t.val m.val)
  | .tap8a e v q t m => some (4, e, oWord 0x05 v.val q.val t.val m.val)
  | .taps e v q t m => some (4, e, oWord 0x06 v.val q.val t.val m.val)
  | .taps4 e v q t m => some (4, e, oWord 0x07 v.val q.val t.val m.val)
  | .taps4a e v q t m => some (4, e, oWord 0x08 v.val q.val t.val m.val)
  | .taps8 e v q t m => some (4, e, oWord 0x09 v.val q.val t.val m.val)
  | .taps8a e v q t m => some (4, e, oWord 0x0A v.val q.val t.val m.val)
  | .trd e v q t m => some (4, e, oWord 0x0B v.val q.val t.val m.val)
  | .trd4 e v q t m => some (4, e, oWord 0x0C v.val q.val t.val m.val)
  | .trd4a e v q t m => some (4, e, oWord 0x0D v.val q.val t.val m.val)
  | .dwr e q v m => some (4, e, oWord 0x0E v.val q.val 0 m.val)
  | .chanIn e v q t m => some (4, e, oWord 0x0F v.val q.val t.val m.val)
  | .chanOut e v q t m => some (4, e, oWord 0x10 v.val q.val t.val m.val)
  | .exr e v q t m => some (4, e, oWord 0x11 v.val q.val t.val m.val)
  | .exw e v q t m => some (4, e, oWord 0x12 v.val q.val t.val m.val)
  | .old e v q t m => some (4, e, oWord 0x13 v.val q.val t.val m.val)
  | .ost e v q t m => some (4, e, oWord 0x14 v.val q.val t.val m.val)
  | .cnop e => some (5, e, 0)
  | .rep e count len rot => some (5, e, cWord 0x01 ((if rot then 2 ^ 14 else 0) + len.val * 2 ^ 7 + count.val))
  | .rot e r => some (5, e, cWord 0x02 r.toNat)
  | .sacs e k imm => some (5, e, cWord 0x03 (k.val * 2 ^ 12 + imm.toNat))
  | .sacsr e k a => some (5, e, cWord 0x04 (k.val * 2 ^ 12 + a.val * 2 ^ 8))
  | .sli e d imm => some (5, e, cWord 0x05 (d.val * 2 ^ 11 + imm.toNat))
  | .slu e d imm => some (5, e, cWord 0x06 (d.val * 2 ^ 11 + imm.toNat))
  | .sadd e d a b => some (5, e, cWord 0x07 (d.val * 2 ^ 11 + a.val * 2 ^ 7 + b.val * 2 ^ 3))
  | .ssub e d a b => some (5, e, cWord 0x08 (d.val * 2 ^ 11 + a.val * 2 ^ 7 + b.val * 2 ^ 3))
  | .sand e d a b => some (5, e, cWord 0x09 (d.val * 2 ^ 11 + a.val * 2 ^ 7 + b.val * 2 ^ 3))
  | .sor e d a b => some (5, e, cWord 0x0A (d.val * 2 ^ 11 + a.val * 2 ^ 7 + b.val * 2 ^ 3))
  | .sxor e d a b => some (5, e, cWord 0x0B (d.val * 2 ^ 11 + a.val * 2 ^ 7 + b.val * 2 ^ 3))
  | .saddi e d a imm => some (5, e, cWord 0x0C (d.val * 2 ^ 11 + a.val * 2 ^ 7 + imm.toNat))
  | .sshli e d a k => some (5, e, cWord 0x0D (d.val * 2 ^ 11 + a.val * 2 ^ 7 + k.val))
  | .slsri e d a k => some (5, e, cWord 0x0E (d.val * 2 ^ 11 + a.val * 2 ^ 7 + k.val))
  | .pwr e f x a => some (5, e, cWord 0x0F (f.toNat * 2 ^ 13 + x.val * 2 ^ 9 + a.val * 2 ^ 5))
  | .prd e d f x => some (5, e, cWord 0x10 (f.toNat * 2 ^ 13 + x.val * 2 ^ 9 + d.val * 2 ^ 5))
  | .paddi e d imm => some (5, e, cWord 0x11 (d.val * 2 ^ 11 + imm.toNat))
  | .sget e d a j => some (5, e, cWord 0x12 (d.val * 2 ^ 11 + a.val * 2 ^ 6 + j.val))
  | .entry e => some (5, e, cWord 0x13 0)
  | .bkpt e => some (5, e, cWord 0x1F 0)
  | _ => none

/-- The operation that a field of slot `k` spells for engine `e`. -/
def decodeSlot (k : Nat) (e : Fin 8) (w : Nat) : Instr :=
  match k with
  | 0 => decodeM e w
  | 1 => decodeA e w
  | 2 => decodeXY e false w
  | 3 => decodeXY e true w
  | 4 => decodeO e w
  | _ => decodeC e w

/-- Width of the field of slot `k` (R151). -/
def slotWidth (k : Nat) : Nat := if k = 2 ∨ k = 3 then 18 else if k = 5 then 20 else 24

end Sys2Proof.Machine
end

