-- ==== Sys2Proof/Safety.lean ====
section
/-! DEFINITION. What every step must keep: the canonical tables, and the sizes the spec gives the bounded buffers. -/
namespace Sys2Proof.Machine
open Sys2Proof

/-- The object table is in its one form: addresses strictly rising. -/
def objsRising : List (Nat × Nat) → Bool
  | [] => true
  | (k, _) :: t => t.all (fun e => decide (k < e.1)) && objsRising t

/-- The invariant of the block: memory, boot flash and the object table are in canonical form, and no buffer holds more than its size. -/
structure State.Inv (s : State) : Prop where
  mem : Memory.wf s.mem
  flash : aWf 0xFF#8 s.flash = true
  objs : objsRising s.objs = true
  /-- The recovery queue holds 32 pages (R701). -/
  queue : s.integ.queue.length ≤ 32
  /-- The correction log has 64 entries (R699). -/
  log : s.integ.corrLog.length ≤ 64
  /-- The uncorrectable-word record holds 256 entries (R852). -/
  record : s.integ.record.length ≤ 256
  /-- The event queue holds 256 records (R467), the event history 16 (R466). -/
  events : s.events.length ≤ 256
  evHist : s.evHist.length ≤ 16
  /-- The commit history holds 16 commits (R360). -/
  history : s.history.length ≤ 16
  /-- The firmware queue has 32 entries (R442). -/
  fwQueue : s.fwQueue.length ≤ 32

/-! ### What journalling and answering a request leave alone -/

/-- What journalling and answering a request never touch. -/
def State.outside (s : State) :=
  (s.pending, s.life, s.eng, s.io, s.groups, s.mutes, s.freeCtr, s.regErrors, s.winErrors, s.pendMode, s.otherCause, s.mediaTarget, s.rateSeq, s.sets, s.history, s.held, s.xyQueue, s.fwQueue, s.live, s.liveWas, s.applyTick, s.pendObjs, s.params, s.locusFreed, s.til, s.sap, s.link, s.net, s.dma, s.per, s.perResp, s.xip, s.clk, s.aon, s.board, s.test, s.pb, s.update, s.flash, s.fuses)

/-- The host port, but for the result it reports of the last request (R627, R646). -/
def State.hspKept (s : State) : Hsp := { s.hsp with last := 0, flags := 0 }

/-- The objects that journalling and answering a request write. -/
def bookkeeping (a : Nat) : Bool :=
  [O.eventsLost, O.staticPagesStale, O.locusChain, O.locusWriteSeq, O.locusRecordsLost, O.requestsServed, O.busyResponses, O.rightsDenials,
   O.locusStrictRefusals].contains a

/-- `t` differs from `s` by journalling and answering alone: records in the on-chip ring (R481), events, counts of the journal and of
the requests, the session's last error and the response. -/
structure Booked (s t : State) : Prop where
  outside : t.outside = s.outside
  obj : ∀ a, bookkeeping a = false → t.obj a = s.obj a
  mem : ∀ a, a < 0x300000000 ∨ 0x300200000 ≤ a → memByte t.mem a = memByte s.mem a
  hsp : t.hspKept = s.hspKept

end Sys2Proof.Machine
end

