-- ==== Sys2Proof/WellFormed.lean ====
section
/-! DEFINITION. Which commands are well-formed: the bounds of the operands that their types do not carry. -/
namespace Sys2Proof

/-- A source is well-formed if its device address has 12 bits and its session number 8 (R445). -/
def Src.wf (x : Src) : Bool :=
  match x.key with
  | .fabric dev num => decide (dev < 4096) && decide (num < 256)
  | .host => true
  | .firm => true
  | .restore => true

/-- A run table word of a RESERVE lies on block positions 4 and up when the entry is in use (R601). -/
def RunWrite.wf (x : RunWrite) : Bool :=
  !x.word.getLsbD 63 || !x.transmit || decide (4 ≤ (x.word.extractLsb' 46 14).toNat)

/-- The source a command names, if it carries one. -/
def Instr.source (i : Instr) : Option Src :=
  match i with
  | .reset _ => none
  | .resetRelease _ => none
  | .powerOnFillComplete _ _ _ => none
  | .hullWatchdogExpiry => none
  | .hullQueueOpen => none
  | .shedStageAdvance => none
  | .shedStageRetreat => none
  | .muteNAssert => none
  | .muteNRelease => none
  | .pendingStartModeEntry => none
  | .thermalSample _ => none
  | .railFault _ _ => none
  | .boundary _ _ => none
  | .tickSourceLost _ => none
  | .tickSourceLocked _ => none
  | .tickRateWrite src _ => some src
  | .tickRateStop => none
  | .tickRateRestart => none
  | .tickSourceWrite src _ => some src
  | .modeRequest src _ => some src
  | .ifetchTrap _ _ => none
  | .mnop _ => none
  | .mpy _ _ _ _ _ _ => none
  | .mpyn _ _ _ _ _ _ => none
  | .mac _ _ _ _ _ _ => none
  | .msu _ _ _ _ _ _ => none
  | .mpys _ _ _ _ _ _ => none
  | .macs _ _ _ _ _ _ => none
  | .msus _ _ _ _ _ _ => none
  | .mld _ _ _ _ => none
  | .mclr _ _ _ => none
  | .maddv _ _ _ _ => none
  | .anop _ => none
  | .add _ _ _ _ _ => none
  | .sub _ _ _ _ _ => none
  | .addw _ _ _ _ _ => none
  | .subw _ _ _ _ _ => none
  | .adds _ _ _ _ _ => none
  | .subs _ _ _ _ _ => none
  | .vabs _ _ _ _ => none
  | .neg _ _ _ _ => none
  | .vmin _ _ _ _ _ => none
  | .vmax _ _ _ _ _ => none
  | .mins _ _ _ _ _ => none
  | .maxs _ _ _ _ _ => none
  | .vand _ _ _ _ _ => none
  | .vor _ _ _ _ _ => none
  | .vxor _ _ _ _ _ => none
  | .vnot _ _ _ _ => none
  | .mov _ _ _ _ => none
  | .movs _ _ _ _ => none
  | .asri _ _ _ _ _ => none
  | .asrv _ _ _ _ _ => none
  | .lsri _ _ _ _ _ => none
  | .shli _ _ _ _ _ => none
  | .shlwi _ _ _ _ _ => none
  | .cmpeq _ _ _ _ _ => none
  | .cmplt _ _ _ _ _ => none
  | .cmple _ _ _ _ _ => none
  | .cmplts _ _ _ _ _ => none
  | .cmpgts _ _ _ _ _ => none
  | .mand _ _ _ _ _ => none
  | .mor _ _ _ _ _ => none
  | .mxor _ _ _ _ _ => none
  | .mnot _ _ _ _ => none
  | .mset _ _ _ _ _ => none
  | .mguard _ _ _ => none
  | .norm _ _ _ _ => none
  | .vexp _ _ _ _ => none
  | .bexp _ _ _ _ _ => none
  | .bexpa _ _ _ _ _ => none
  | .bexps _ _ _ _ => none
  | .bexpas _ _ _ _ => none
  | .mova _ _ _ _ => none
  | .lroti _ _ _ _ _ => none
  | .lrotih _ _ _ _ _ => none
  | .lrots _ _ _ _ _ => none
  | .bcasti _ _ _ _ _ => none
  | .bcastih _ _ _ _ _ => none
  | .bcasts _ _ _ _ _ => none
  | .rsum _ _ _ _ => none
  | .rmax _ _ _ _ => none
  | .rmin _ _ _ _ => none
  | .sel _ _ _ _ _ _ => none
  | .xnop _ => none
  | .ynop _ => none
  | .ldv _ _ _ _ _ _ => none
  | .stv _ _ _ _ _ _ => none
  | .ldb _ _ _ _ _ _ => none
  | .lds _ _ _ _ _ => none
  | .sts _ _ _ _ _ _ => none
  | .ldc _ _ _ _ _ => none
  | .ldcb _ _ _ _ _ => none
  | .onop _ => none
  | .tap _ _ _ _ _ => none
  | .tap4 _ _ _ _ _ => none
  | .tap4a _ _ _ _ _ => none
  | .tap8 _ _ _ _ _ => none
  | .tap8a _ _ _ _ _ => none
  | .taps _ _ _ _ _ => none
  | .taps4 _ _ _ _ _ => none
  | .taps4a _ _ _ _ _ => none
  | .taps8 _ _ _ _ _ => none
  | .taps8a _ _ _ _ _ => none
  | .trd _ _ _ _ _ => none
  | .trd4 _ _ _ _ _ => none
  | .trd4a _ _ _ _ _ => none
  | .dwr _ _ _ _ => none
  | .chanIn _ _ _ _ _ => none
  | .chanOut _ _ _ _ _ => none
  | .exr _ _ _ _ _ => none
  | .exw _ _ _ _ _ => none
  | .old _ _ _ _ _ => none
  | .ost _ _ _ _ _ => none
  | .orbitAccessServed _ => none
  | .cnop _ => none
  | .rep _ _ _ _ => none
  | .rot _ _ => none
  | .sacs _ _ _ => none
  | .sacsr _ _ _ => none
  | .sli _ _ _ => none
  | .slu _ _ _ => none
  | .sadd _ _ _ _ => none
  | .ssub _ _ _ _ => none
  | .sand _ _ _ _ => none
  | .sor _ _ _ _ => none
  | .sxor _ _ _ _ => none
  | .saddi _ _ _ _ => none
  | .sshli _ _ _ _ => none
  | .slsri _ _ _ _ => none
  | .pwr _ _ _ _ => none
  | .prd _ _ _ _ => none
  | .paddi _ _ _ => none
  | .sget _ _ _ _ => none
  | .entry _ => none
  | .bkpt _ => none
  | .fetchMode src _ _ => some src
  | .groupFaultPolicy src _ _ => some src
  | .orbShare _ _ => none
  | .rangeRegisterWrite _ _ _ _ => none
  | .descriptorFileWrite _ _ _ _ _ _ _ => none
  | .farFetchComplete _ _ _ => none
  | .farGroupCopy _ _ _ => none
  | .spanChangeApply _ _ => none
  | .delayLengthWrite src _ _ => some src
  | .bankedWrite src _ _ => some src
  | .levellingEnd _ => none
  | .pageCoderDone _ => none
  | .commitObjectWrite src _ => some src
  | .commitArrival _ => none
  | .updateSetAbort src _ => some src
  | .xyParameterWrite src _ _ => some src
  | .graphAdmission => none
  | .graphStart => none
  | .graphUnload src _ => some src
  | .migrateRequest src _ => some src
  | .migrationLoadDone => none
  | .migrationSwitch => none
  | .snapshotCopy => none
  | .snapshotArrival _ => none
  | .crossfadeEnd => none
  | .drainDevice src _ => some src
  | .dictionaryRead src _ _ => some src
  | .dictionaryWrite src _ _ _ => some src
  | .registerWrite _ _ _ => none
  | .firmwareDeadlineExpiry => none
  | .domainStart src _ _ => some src
  | .domainData src _ _ _ _ => some src
  | .domainEnd src _ _ => some src
  | .domainAbort src _ => some src
  | .readStart src _ => some src
  | .readData src _ _ _ => some src
  | .readEnd src _ => some src
  | .domainTimeout src => some src
  | .sessionRelease _ _ => none
  | .proxyTimeout _ => none
  | .dictReq _ _ _ _ _ _ _ => none
  | .dictRsp _ _ _ _ => none
  | .gapClose => none
  | .locusDrain => none
  | .locusAckSeq src _ => some src
  | .locusDrainEnable src _ => some src
  | .lpddrRingBase src _ => some src
  | .lpddrRingLog2 src _ => some src
  | .locusSummary => none
  | .portEnable src _ => some src
  | .portShutdown src _ => some src
  | .portShutdownComplete _ => none
  | .sapFormatWrite src _ _ _ => some src
  | .sapFrame _ _ _ _ _ => none
  | .sapClockLoss _ => none
  | .converterLocked _ _ => none
  | .converterUnlock _ _ => none
  | .mclkConfigWrite src _ _ _ => some src
  | .linkEnable src _ => some src
  | .linkDisable src _ => some src
  | .linkShutdownComplete _ => none
  | .linkSignalDetect _ => none
  | .laneBlockLock _ _ _ _ => none
  | .laneLockLoss _ _ => none
  | .trainingComplete _ _ => none
  | .trainingTimeout _ => none
  | .tickFrameTransmit _ => none
  | .tickFrameReceived _ _ _ _ _ _ _ _ _ _ _ => none
  | .errorWindowEnd _ => none
  | .cellReceived _ _ _ => none
  | .cellRetransmit _ _ => none
  | .hello _ _ => none
  | .helloPeriod => none
  | .electionSettle => none
  | .claim _ _ _ _ _ _ => none
  | .linkDown _ _ _ _ _ _ _ _ => none
  | .topology _ _ _ _ _ _ _ => none
  | .address _ _ _ _ _ _ => none
  | .routes _ _ => none
  | .reserve _ _ _ => none
  | .activate _ _ => none
  | .tilerOrder _ _ _ => none
  | .tilerReport _ _ _ _ _ _ _ _ _ _ => none
  | .repairInstall _ _ _ _ => none
  | .deviceLost _ => none
  | .holdoverElection => none
  | .timeAligned => none
  | .timeAcquiring => none
  | .stat _ _ _ => none
  | .evt _ _ _ => none
  | .drd _ _ _ _ => none
  | .hostDwr _ _ _ => none
  | .commit _ _ _ => none
  | .dbr _ _ _ => none
  | .dbw _ _ _ => none
  | .mrd _ _ _ => none
  | .mwr _ _ _ => none
  | .load _ _ _ => none
  | .portreset _ => none
  | .badCommand _ _ => none
  | .writeBufferPresent _ => none
  | .hostResponseReady => none
  | .hspStatusClear _ => none
  | .periphRequest src _ => some src
  | .periphDone _ => none
  | .xipFill _ => none
  | .xipLock => none
  | .xipInvalidate => none
  | .flashRawCommand _ _ => none
  | .flashProgramComplete => none
  | .channelHead src _ _ => some src
  | .doorbell src _ _ => some src
  | .channelResume src _ _ => some src
  | .channelStop src _ _ => some src
  | .descriptorRead _ => none
  | .dmaBurst => none
  | .descriptorWriteBack _ => none
  | .bulkCredit _ _ _ => none
  | .bulkData _ _ _ => none
  | .bulkAbort _ _ => none
  | .dmaRemoteTimeout _ => none
  | .pageRecovery => none
  | .pageReload _ => none
  | .scrubLine _ => none
  | .stormWindowEnd => none
  | .rangeStart src _ => some src
  | .rangePassComplete => none
  | .backgroundTestPage _ _ => none
  | .fullTest src _ => some src
  | .powerBankWrite src _ _ => some src
  | .keyRevoke src _ => some src
  | .rollbackAdvance src _ _ => some src
  | .updateImage src _ => some src
  | .updateComplete _ => none
  | .updateActivate src _ => some src
  | .imageConfirm src _ => some src
  | .confirmDelayExpiry _ => none
  | .verifyAndRun src => some src
  | .verifyAndProgram src _ => some src
  | .stagingClear src => some src
  | .keepSnapshotNow src _ => some src
  | .keepSnapshotPeriod => none
  | .startMode src _ => some src
  | .keepUser src _ => some src
  | .patchbayStart _ => none
  | .crossGain src _ _ _ => some src
  | .crossSource src _ _ _ => some src
  | .outputDelay src _ _ => some src
  | .delayReserve src _ _ => some src
  | .eqBand src _ _ _ => some src
  | .sourceGroup src _ _ => some src
  | .meterWindow => none
  | .engineFrequency src _ => some src
  | .engineSpread src _ => some src
  | .engineClockStop => none
  | .pllLocked _ => none
  | .pllLockLost _ => none
  | .refLost => none
  | .refRestored => none
  | .clkOutConfig src _ _ => some src
  | .powerRequest src _ => some src
  | .coastEngGate => none
  | .wake _ => none
  | .wakeTimer => none
  | .sleepReceived _ => none
  | .pwrgdHigh => none

/-- The bounds on a command's lists: a host frame's N has 9 bits (R620); a message holds 2,048 bytes (R561); a cell is
one header, up to 8 payload blocks and a trailer (R560); no place of a frame is given twice (R551); ROUTES carries up to
2,040 entries (R576); the busy HULL cycles of a tick are among its HULL cycles (R20); the small state is at most 64 KiB (R406). -/
def Instr.listsWf (i : Instr) : Bool :=
  match i with
  | .reset _ => true
  | .resetRelease _ => true
  | .powerOnFillComplete _ _ _ => true
  | .hullWatchdogExpiry => true
  | .hullQueueOpen => true
  | .shedStageAdvance => true
  | .shedStageRetreat => true
  | .muteNAssert => true
  | .muteNRelease => true
  | .pendingStartModeEntry => true
  | .thermalSample _ => true
  | .railFault _ _ => true
  | .boundary hull _ => decide (hull.busy.toNat ≤ hull.total.toNat)
  | .tickSourceLost _ => true
  | .tickSourceLocked _ => true
  | .tickRateWrite _ words => decide (words.length < 512)
  | .tickRateStop => true
  | .tickRateRestart => true
  | .tickSourceWrite _ words => decide (words.length < 512)
  | .modeRequest _ words => decide (words.length < 512)
  | .ifetchTrap _ _ => true
  | .mnop _ => true
  | .mpy _ _ _ _ _ _ => true
  | .mpyn _ _ _ _ _ _ => true
  | .mac _ _ _ _ _ _ => true
  | .msu _ _ _ _ _ _ => true
  | .mpys _ _ _ _ _ _ => true
  | .macs _ _ _ _ _ _ => true
  | .msus _ _ _ _ _ _ => true
  | .mld _ _ _ _ => true
  | .mclr _ _ _ => true
  | .maddv _ _ _ _ => true
  | .anop _ => true
  | .add _ _ _ _ _ => true
  | .sub _ _ _ _ _ => true
  | .addw _ _ _ _ _ => true
  | .subw _ _ _ _ _ => true
  | .adds _ _ _ _ _ => true
  | .subs _ _ _ _ _ => true
  | .vabs _ _ _ _ => true
  | .neg _ _ _ _ => true
  | .vmin _ _ _ _ _ => true
  | .vmax _ _ _ _ _ => true
  | .mins _ _ _ _ _ => true
  | .maxs _ _ _ _ _ => true
  | .vand _ _ _ _ _ => true
  | .vor _ _ _ _ _ => true
  | .vxor _ _ _ _ _ => true
  | .vnot _ _ _ _ => true
  | .mov _ _ _ _ => true
  | .movs _ _ _ _ => true
  | .asri _ _ _ _ _ => true
  | .asrv _ _ _ _ _ => true
  | .lsri _ _ _ _ _ => true
  | .shli _ _ _ _ _ => true
  | .shlwi _ _ _ _ _ => true
  | .cmpeq _ _ _ _ _ => true
  | .cmplt _ _ _ _ _ => true
  | .cmple _ _ _ _ _ => true
  | .cmplts _ _ _ _ _ => true
  | .cmpgts _ _ _ _ _ => true
  | .mand _ _ _ _ _ => true
  | .mor _ _ _ _ _ => true
  | .mxor _ _ _ _ _ => true
  | .mnot _ _ _ _ => true
  | .mset _ _ _ _ _ => true
  | .mguard _ _ _ => true
  | .norm _ _ _ _ => true
  | .vexp _ _ _ _ => true
  | .bexp _ _ _ _ _ => true
  | .bexpa _ _ _ _ _ => true
  | .bexps _ _ _ _ => true
  | .bexpas _ _ _ _ => true
  | .mova _ _ _ _ => true
  | .lroti _ _ _ _ _ => true
  | .lrotih _ _ _ _ _ => true
  | .lrots _ _ _ _ _ => true
  | .bcasti _ _ _ _ _ => true
  | .bcastih _ _ _ _ _ => true
  | .bcasts _ _ _ _ _ => true
  | .rsum _ _ _ _ => true
  | .rmax _ _ _ _ => true
  | .rmin _ _ _ _ => true
  | .sel _ _ _ _ _ _ => true
  | .xnop _ => true
  | .ynop _ => true
  | .ldv _ _ _ _ _ _ => true
  | .stv _ _ _ _ _ _ => true
  | .ldb _ _ _ _ _ _ => true
  | .lds _ _ _ _ _ => true
  | .sts _ _ _ _ _ _ => true
  | .ldc _ _ _ _ _ => true
  | .ldcb _ _ _ _ _ => true
  | .onop _ => true
  | .tap _ _ _ _ _ => true
  | .tap4 _ _ _ _ _ => true
  | .tap4a _ _ _ _ _ => true
  | .tap8 _ _ _ _ _ => true
  | .tap8a _ _ _ _ _ => true
  | .taps _ _ _ _ _ => true
  | .taps4 _ _ _ _ _ => true
  | .taps4a _ _ _ _ _ => true
  | .taps8 _ _ _ _ _ => true
  | .taps8a _ _ _ _ _ => true
  | .trd _ _ _ _ _ => true
  | .trd4 _ _ _ _ _ => true
  | .trd4a _ _ _ _ _ => true
  | .dwr _ _ _ _ => true
  | .chanIn _ _ _ _ _ => true
  | .chanOut _ _ _ _ _ => true
  | .exr _ _ _ _ _ => true
  | .exw _ _ _ _ _ => true
  | .old _ _ _ _ _ => true
  | .ost _ _ _ _ _ => true
  | .orbitAccessServed _ => true
  | .cnop _ => true
  | .rep _ _ _ _ => true
  | .rot _ _ => true
  | .sacs _ _ _ => true
  | .sacsr _ _ _ => true
  | .sli _ _ _ => true
  | .slu _ _ _ => true
  | .sadd _ _ _ _ => true
  | .ssub _ _ _ _ => true
  | .sand _ _ _ _ => true
  | .sor _ _ _ _ => true
  | .sxor _ _ _ _ => true
  | .saddi _ _ _ _ => true
  | .sshli _ _ _ _ => true
  | .slsri _ _ _ _ => true
  | .pwr _ _ _ _ => true
  | .prd _ _ _ _ => true
  | .paddi _ _ _ => true
  | .sget _ _ _ _ => true
  | .entry _ => true
  | .bkpt _ => true
  | .fetchMode _ _ words => decide (words.length < 512)
  | .groupFaultPolicy _ _ words => decide (words.length < 512)
  | .orbShare _ _ => true
  | .rangeRegisterWrite _ _ _ _ => true
  | .descriptorFileWrite _ _ _ _ _ _ _ => true
  | .farFetchComplete _ _ _ => true
  | .farGroupCopy _ _ _ => true
  | .spanChangeApply _ _ => true
  | .delayLengthWrite _ _ words => decide (words.length < 512)
  | .bankedWrite _ _ words => decide (words.length < 512)
  | .levellingEnd _ => true
  | .pageCoderDone _ => true
  | .commitObjectWrite _ words => decide (words.length < 512)
  | .commitArrival _ => true
  | .updateSetAbort _ words => decide (words.length < 512)
  | .xyParameterWrite _ _ words => decide (words.length < 512)
  | .graphAdmission => true
  | .graphStart => true
  | .graphUnload _ words => decide (words.length < 512)
  | .migrateRequest _ words => decide (words.length < 512)
  | .migrationLoadDone => true
  | .migrationSwitch => true
  | .snapshotCopy => true
  | .snapshotArrival data => decide (data.length ≤ 65536)
  | .crossfadeEnd => true
  | .drainDevice _ words => decide (words.length < 512)
  | .dictionaryRead _ _ _ => true
  | .dictionaryWrite _ _ words _ => decide (words.length < 512)
  | .registerWrite _ _ _ => true
  | .firmwareDeadlineExpiry => true
  | .domainStart _ _ _ => true
  | .domainData _ _ _ _ words => decide (words.length < 512)
  | .domainEnd _ _ _ => true
  | .domainAbort _ _ => true
  | .readStart _ _ => true
  | .readData _ _ _ _ => true
  | .readEnd _ _ => true
  | .domainTimeout _ => true
  | .sessionRelease _ _ => true
  | .proxyTimeout _ => true
  | .dictReq _ _ _ _ _ words _ => decide (words.length < 512)
  | .dictRsp _ _ _ words => decide (words.length ≤ 510)
  | .gapClose => true
  | .locusDrain => true
  | .locusAckSeq _ words => decide (words.length < 512)
  | .locusDrainEnable _ words => decide (words.length < 512)
  | .lpddrRingBase _ words => decide (words.length < 512)
  | .lpddrRingLog2 _ words => decide (words.length < 512)
  | .locusSummary => true
  | .portEnable _ _ => true
  | .portShutdown _ _ => true
  | .portShutdownComplete _ => true
  | .sapFormatWrite _ _ _ words => decide (words.length < 512)
  | .sapFrame _ _ _ _ _ => true
  | .sapClockLoss _ => true
  | .converterLocked _ _ => true
  | .converterUnlock _ _ => true
  | .mclkConfigWrite _ _ _ words => decide (words.length < 512)
  | .linkEnable _ _ => true
  | .linkDisable _ _ => true
  | .linkShutdownComplete _ => true
  | .linkSignalDetect _ => true
  | .laneBlockLock _ _ _ _ => true
  | .laneLockLoss _ _ => true
  | .trainingComplete _ _ => true
  | .trainingTimeout _ => true
  | .tickFrameTransmit _ => true
  | .tickFrameReceived _ _ _ _ _ _ _ got _ _ _ => (got.map (·.1)).eraseDups.length == got.length
  | .errorWindowEnd _ => true
  | .cellReceived _ _ blocks => decide (2 ≤ blocks.length) && decide (blocks.length ≤ 10)
  | .cellRetransmit _ _ => true
  | .hello _ _ => true
  | .helloPeriod => true
  | .electionSettle => true
  | .claim _ _ _ _ _ _ => true
  | .linkDown _ _ _ _ _ _ _ _ => true
  | .topology _ _ _ _ _ _ _ => true
  | .address _ _ _ _ _ _ => true
  | .routes _ entries => decide (entries.length ≤ 2040)
  | .reserve _ runs plans => runs.all (·.wf) && plans.all (·.entry.wf)
  | .activate _ _ => true
  | .tilerOrder _ _ _ => true
  | .tilerReport _ _ _ _ _ _ _ _ _ _ => true
  | .repairInstall _ _ _ _ => true
  | .deviceLost _ => true
  | .holdoverElection => true
  | .timeAligned => true
  | .timeAcquiring => true
  | .stat _ _ _ => true
  | .evt _ _ _ => true
  | .drd _ _ _ _ => true
  | .hostDwr _ words _ => decide (words.length < 512)
  | .commit _ _ _ => true
  | .dbr _ _ _ => true
  | .dbw _ words _ => decide (words.length < 512)
  | .mrd _ _ _ => true
  | .mwr _ words _ => decide (words.length < 512)
  | .load _ words _ => decide (words.length < 512)
  | .portreset _ => true
  | .badCommand _ _ => true
  | .writeBufferPresent _ => true
  | .hostResponseReady => true
  | .hspStatusClear _ => true
  | .periphRequest _ _ => true
  | .periphDone _ => true
  | .xipFill _ => true
  | .xipLock => true
  | .xipInvalidate => true
  | .flashRawCommand _ _ => true
  | .flashProgramComplete => true
  | .channelHead _ _ words => decide (words.length < 512)
  | .doorbell _ _ words => decide (words.length < 512)
  | .channelResume _ _ words => decide (words.length < 512)
  | .channelStop _ _ words => decide (words.length < 512)
  | .descriptorRead _ => true
  | .dmaBurst => true
  | .descriptorWriteBack _ => true
  | .bulkCredit _ _ _ => true
  | .bulkData _ _ data => decide (data.length ≤ 2048)
  | .bulkAbort _ _ => true
  | .dmaRemoteTimeout _ => true
  | .pageRecovery => true
  | .pageReload _ => true
  | .scrubLine _ => true
  | .stormWindowEnd => true
  | .rangeStart _ words => decide (words.length < 512)
  | .rangePassComplete => true
  | .backgroundTestPage _ _ => true
  | .fullTest _ words => decide (words.length < 512)
  | .powerBankWrite _ _ words => decide (words.length < 512)
  | .keyRevoke _ words => decide (words.length < 512)
  | .rollbackAdvance _ words _ => decide (words.length < 512)
  | .updateImage _ _ => true
  | .updateComplete _ => true
  | .updateActivate _ words => decide (words.length < 512)
  | .imageConfirm _ words => decide (words.length < 512)
  | .confirmDelayExpiry _ => true
  | .verifyAndRun _ => true
  | .verifyAndProgram _ _ => true
  | .stagingClear _ => true
  | .keepSnapshotNow _ words => decide (words.length < 512)
  | .keepSnapshotPeriod => true
  | .startMode _ words => decide (words.length < 512)
  | .keepUser _ _ => true
  | .patchbayStart _ => true
  | .crossGain _ _ _ words => decide (words.length < 512)
  | .crossSource _ _ _ words => decide (words.length < 512)
  | .outputDelay _ _ words => decide (words.length < 512)
  | .delayReserve _ _ words => decide (words.length < 512)
  | .eqBand _ _ _ words => decide (words.length < 512)
  | .sourceGroup _ _ words => decide (words.length < 512)
  | .meterWindow => true
  | .engineFrequency _ words => decide (words.length < 512)
  | .engineSpread _ words => decide (words.length < 512)
  | .engineClockStop => true
  | .pllLocked _ => true
  | .pllLockLost _ => true
  | .refLost => true
  | .refRestored => true
  | .clkOutConfig _ _ words => decide (words.length < 512)
  | .powerRequest _ words => decide (words.length < 512)
  | .coastEngGate => true
  | .wake _ => true
  | .wakeTimer => true
  | .sleepReceived _ => true
  | .pwrgdHigh => true

/-- A command is well-formed when its source and its lists are. -/
def Instr.wf (i : Instr) : Bool :=
  (match i.source with
   | some x => x.wf
   | none => true) && i.listsWf

end Sys2Proof
end

