-- ==== Sys2Proof/Certificates/Slice0/Obligations.lean ====
section
/-! DEFINITION. The statements for the provers. Each docstring names the rules of the specification it formalises. -/
namespace Sys2Proof.Claims
end Sys2Proof.Claims
open Sys2Proof Sys2Proof.Machine Sys2Proof.Claims

namespace Sys2Proof.Claims
open Sys2Proof Sys2Proof.Machine

/-- `r` is the integer nearest to `n / d`, a tie going to the even integer. -/
def NearestEven (n d r : Int) : Prop := 2 * (n - r * d) ≤ d ∧ -d ≤ 2 * (n - r * d) ∧ (2 * (n - r * d) = d ∨ 2 * (n - r * d) = -d → r % 2 = 0)

/-- An integer clamped to the range of a 32-bit two's-complement word. -/
def clamp32 (z : Int) : Word := BitVec.ofInt 32 (max (-(2 ^ 31)) (min (2 ^ 31 - 1) z))

/-- The engine `e` as an operation of slot `k` finds it: with the bundle open in which the operation issues. -/
def seen (s : State) (e : Fin 8) (k : Nat) : Engine := (s.openSlot e k).engine e

/-- Lane `l` of logical vector register Va, as a word and as a signed integer. -/
def vw (x : Engine) (a : Fin 32) (l : Fin 64) : Word := lane (lane x.v (physReg x.wb a)) l
def vi (x : Engine) (a : Fin 32) (l : Fin 64) : Int := (vw x a l).toInt

/-- Scalar register Sb, as a word and as a signed integer; bit `l` of mask register Mm. -/
def sw (x : Engine) (b : Fin 16) : Word := lane x.scl b
def si (x : Engine) (b : Fin 16) : Int := (sw x b).toInt
def mb (x : Engine) (m : Fin 8) (l : Fin 64) : Bool := (lane x.msk m).getLsbD l.val

/-- The command answers the state in which nothing has changed but engine `e`, which is now `y`, beside the bundle of slot `k` being open. -/
def EngineNext (s : State) (i : Instr) (e : Fin 8) (k : Nat) (y : Engine) : Prop :=
  exec i s = .next ((s.openSlot e k).setEngine e y)

/-- The command schedules lanes `f` for the lanes of Mm of vector register Vd, seen `lat` bundles later, and changes nothing else. -/
def VecNext (s : State) (i : Instr) (e : Fin 8) (k lat : Nat) (d : Fin 32) (m : Fin 8) (f : Engine → Fin 64 → Word) : Prop :=
  ∃ val : Lanes Word, EngineNext s i e k ((seen s e k).sched lat (.vec (physReg (seen s e k).wb d) (lane (seen s e k).msk m) val)) ∧
    ∀ l, lane val l = f (seen s e k) l

/-- The command schedules bits `f` for the lanes of Mm of mask register Md, seen from the next bundle, and changes nothing else. -/
def MaskNext (s : State) (i : Instr) (e d m : Fin 8) (f : Engine → Fin 64 → Bool) : Prop :=
  ∃ val : BitVec 64, EngineNext s i e slotA ((seen s e slotA).sched 1 (.msk d (lane (seen s e slotA).msk m) val)) ∧
    ∀ l, val.getLsbD l.val = f (seen s e slotA) l

/-- The command schedules the word `f` for scalar register Sd, seen `lat` bundles later, and changes nothing else. -/
def ScalarNext (s : State) (i : Instr) (e : Fin 8) (k lat : Nat) (d : Fin 16) (f : Engine → Word) : Prop :=
  EngineNext s i e k ((seen s e k).sched lat (.scl d (f (seen s e k))))

end Sys2Proof.Claims

/-- For every state and every command c at the front of its queue, step answers what exec answers for c on the state whose queue is the rest. (01_architecture.md, 95_what_each_step_holds.md) -/
def Obligations.StepRunsTheFrontCommand : Prop :=
  ∀ (s : State) (c : Instr) (rest : List Instr), s.pending = c :: rest → step s = exec c { s with pending := rest }

/-- For every command and every state, exec answers a next state whose queue of waiting commands is the one before. No command ends in a fault or a refusal. (01_architecture.md, 95_what_each_step_holds.md) -/
def Obligations.EveryCommandAnswersAndLeavesTheQueue : Prop :=
  ∀ (c : Instr) (s : State), ∃ t, exec c s = .next t ∧ t.pending = s.pending

/-- For every state that meets the invariant, if step answers a next state then that state meets it: memory, flash and the object table are in their one canonical form, the recovery queue holds at most 32 pages, the correction log 64 entries, the uncorrectable-word record 256, the event queue 256, the event history 16, the commit history 16 and the firmware queue 32. (R10, R360, R442, R466, R467, R699, R701, R852) -/
def Obligations.EveryStepKeepsTheInvariant : Prop :=
  ∀ (s t : State), s.Inv → step s = .next t → t.Inv

/-- State.reset meets the invariant that every step keeps. (R10, R442, R467, R699, R701, R852) -/
def Obligations.ResetMeetsTheInvariant : Prop :=
  State.reset.Inv

/-- The sentence of R745 that a fuse bit is never cleared: for every state, every step that answers a next state leaves every burned fuse bit burned. (R745) -/
def Obligations.FuseBitsAreNeverCleared : Prop :=
  ∀ (s t : State) (b : Nat), b ∈ s.fuses → step s = .next t → b ∈ t.fuses

namespace Sys2Proof.Claims
open Sys2Proof Sys2Proof.Machine

/-- A clearing M-slot operation: `term` is the exact value of each lane in units of 2^-63. In a bundle whose M slot is claimed it acts as MNOP.
The lanes of Mm take the value and lose their freeze bit; the other lanes keep both; the A slot sees the result four bundles later. -/
def ClearNext (s : State) (i : Instr) (e d m : Fin 8) (term : Engine → Fin 64 → Int) : Prop :=
  let x := seen s e slotM
  if x.mClaimed then EngineNext s i e slotM x
  else ∃ (new : Lanes AccWord) (fz : BitVec 64),
    EngineNext s i e slotM (({ x with acc := put x.acc d new, freeze := put x.freeze d fz } : Engine).sched 4 (.accA d (lane x.msk m) new)) ∧
    ∀ l, (mb x m l = true → (lane new l).toInt = term x l ∧ fz.getLsbD l.val = false) ∧
      (mb x m l = false → lane new l = lane (lane x.acc d) l ∧ fz.getLsbD l.val = (lane x.freeze d).getLsbD l.val)

/-- An accumulating M-slot operation (R114, R115): in a lane of Mm that is not frozen, the exact sum, or on guard overflow the largest or smallest
word, the freeze bit, the sticky guard flag, and one GUARD_OVF for each lane that overflows. `ovf` is the set of these lanes. -/
def AccNext (s : State) (i : Instr) (e d m : Fin 8) (term : Engine → Fin 64 → Int) : Prop :=
  let x := seen s e slotM
  if x.mClaimed then EngineNext s i e slotM x
  else ∃ (new : Lanes AccWord) (ovf : BitVec 64),
    let y : Engine := { x with
      acc := put x.acc d new
      freeze := put x.freeze d (lane x.freeze d ||| ovf)
      guard := x.guard ||| ovf
      fault := fwGuard x.fault (popCount ovf) }
    EngineNext s i e slotM ((y.sched 4 (.accA d (lane x.msk m) new)).sched 4 (.guardA ovf)) ∧
    ∀ l, let z := (lane (lane x.acc d) l).toInt + term x l
      if mb x m l = true ∧ (lane x.freeze d).getLsbD l.val = false then
        (-(2 ^ 71) ≤ z ∧ z < 2 ^ 71 → (lane new l).toInt = z ∧ ovf.getLsbD l.val = false) ∧
        (2 ^ 71 ≤ z → lane new l = 0x7FFFFFFFFFFFFFFFFF#72 ∧ ovf.getLsbD l.val = true) ∧
        (z < -(2 ^ 71) → lane new l = 0x800000000000000000#72 ∧ ovf.getLsbD l.val = true)
      else lane new l = lane (lane x.acc d) l ∧ ovf.getLsbD l.val = false

/-- `n` is NORM of the bits below a sign bit at position `top`: the `n` bits below the sign equal it, and the next does not, unless `n = top`. -/
def IsRedundant {w : Nat} (x : BitVec w) (top n : Nat) : Prop :=
  n ≤ top ∧ (∀ j, top - n ≤ j → j < top → x.getLsbD j = x.getLsbD top) ∧ (n < top → x.getLsbD (top - n - 1) ≠ x.getLsbD top)

/-- `r` is NORM of word `w` (R125). -/
def IsNorm (w : Word) (r : Int) : Prop := ∃ n, IsRedundant w 31 n ∧ r = n

/-- `r` is EXP of accumulator lane `a` (R126). -/
def IsExp (a : AccWord) (r : Int) : Prop := ∃ n : Nat, IsRedundant a 71 n ∧ r = min ((n : Int) - 8) 15

/-- `r` is the least of a lane quantity over some lanes, `none` where there is none of them. -/
def IsLeast (lanes : Fin 64 → Prop) (q : Fin 64 → Int → Prop) (none r : Int) : Prop :=
  ((∀ l, ¬ lanes l) → r = none) ∧ (∀ l v, lanes l → q l v → r ≤ v) ∧ ((∃ l, lanes l) → ∃ l, lanes l ∧ q l r)

/-- `r` is the greatest of a lane quantity over some lanes. -/
def IsGreatest (lanes : Fin 64 → Prop) (q : Fin 64 → Int → Prop) (r : Int) : Prop :=
  (∀ l v, lanes l → q l v → v ≤ r) ∧ ((∃ l, lanes l) → ∃ l, lanes l ∧ q l r)

/-- Lane `l` of accumulator As as the A slot sees it. -/
def va (x : Engine) (a : Fin 8) (l : Fin 64) : AccWord := lane (lane x.accA a) l

/-- As VecNext, with a relation between the engine, the lane and the signed value that lane takes. -/
def VecRel (s : State) (i : Instr) (e : Fin 8) (k lat : Nat) (d : Fin 32) (m : Fin 8) (f : Engine → Fin 64 → Int → Prop) : Prop :=
  ∃ val : Lanes Word, EngineNext s i e k ((seen s e k).sched lat (.vec (physReg (seen s e k).wb d) (lane (seen s e k).msk m) val)) ∧
    ∀ l, mb (seen s e k) m l = true → f (seen s e k) l (lane val l).toInt

/-- As ScalarNext, with a relation for the signed value. -/
def ScalarRel (s : State) (i : Instr) (e : Fin 8) (k lat : Nat) (d : Fin 16) (f : Engine → Int → Prop) : Prop :=
  ∃ v : Word, EngineNext s i e k ((seen s e k).sched lat (.scl d v)) ∧ f (seen s e k) v.toInt

end Sys2Proof.Claims

/-- A NOP of a slot answers the state with the bundle of that slot open and nothing else changed; if the slot is still to come in the open bundle, only the engine's record of the next slot differs. (R154, R170, R174, R180, R189, R204) -/
def Obligations.NopSlotsChangeNothing : Prop :=
  ∀ (s : State) (e : Fin 8),
    exec (.mnop e) s = .next (s.openSlot e slotM) ∧ exec (.anop e) s = .next (s.openSlot e slotA) ∧
    exec (.xnop e) s = .next (s.openSlot e (slotXY false)) ∧ exec (.ynop e) s = .next (s.openSlot e (slotXY true)) ∧
    exec (.onop e) s = .next (s.openSlot e slotO) ∧ exec (.cnop e) s = .next (s.openSlot e slotC) ∧
    (∀ k, (s.engine e).nextSlot ≤ k → s.openSlot e k = s.setEngine e { s.engine e with nextSlot := k + 1 })

/-- R116. In a bundle whose M slot is not claimed, each unmasked lane of Ad takes the exact value (the product of a Q1.31 sample and a Q1.31 or, with F, Q4.28 coefficient, its negation, Va placed exactly, or 0) and its freeze bit is cleared; masked lanes keep both; the A slot sees the accumulator four bundles later; nothing else changes. In a claimed bundle the operation acts as MNOP. (R116) -/
def Obligations.MClearingOperations : Prop :=
  ∀ (s : State) (e d m : Fin 8) (a b : Fin 32) (c : Fin 16) (f : Bool),
    ClearNext s (.mpy e d a b m f) e d m (fun x l => vi x a l * vi x b l * (if f then 16 else 2)) ∧
    ClearNext s (.mpyn e d a b m f) e d m (fun x l => -(vi x a l * vi x b l * (if f then 16 else 2))) ∧
    ClearNext s (.mpys e d a c m f) e d m (fun x l => vi x a l * si x c * (if f then 16 else 2)) ∧
    ClearNext s (.mld e d a m) e d m (fun x l => vi x a l * 2 ^ 32) ∧
    ClearNext s (.mclr e d m) e d m (fun _ _ => 0)

/-- R114 and R115. In a bundle whose M slot is not claimed, each unmasked lane that is not frozen takes the exact sum if it is in range; otherwise it takes the largest or smallest accumulator word, its freeze bit and sticky guard flag are set and GUARD_OVF rises by one for it; frozen and masked lanes are unchanged and count nothing. Nothing else changes. In a claimed bundle the operation acts as MNOP. (R114, R115) -/
def Obligations.MAccumulatingOperations : Prop :=
  ∀ (s : State) (e d m : Fin 8) (a b : Fin 32) (c : Fin 16) (f : Bool),
    AccNext s (.mac e d a b m f) e d m (fun x l => vi x a l * vi x b l * (if f then 16 else 2)) ∧
    AccNext s (.msu e d a b m f) e d m (fun x l => -(vi x a l * vi x b l * (if f then 16 else 2))) ∧
    AccNext s (.macs e d a c m f) e d m (fun x l => vi x a l * si x c * (if f then 16 else 2)) ∧
    AccNext s (.msus e d a c m f) e d m (fun x l => -(vi x a l * si x c * (if f then 16 else 2))) ∧
    AccNext s (.maddv e d a m) e d m (fun x l => vi x a l * 2 ^ 32)

/-- Each unmasked lane of Vd takes, from the next bundle, the sum, difference, absolute value or negation of the signed lanes clamped to 32 bits, or for ADDW and SUBW reduced modulo 2^32. Masked lanes, every other register, the flags and memory are unchanged. (R89, R92, R111, R156, R174) -/
def Obligations.SaturatingAndWrappingArithmetic : Prop :=
  ∀ (s : State) (e m : Fin 8) (d a b : Fin 32) (c : Fin 16),
    VecNext s (.add e d a b m) e slotA 1 d m (fun x l => clamp32 (vi x a l + vi x b l)) ∧
    VecNext s (.sub e d a b m) e slotA 1 d m (fun x l => clamp32 (vi x a l - vi x b l)) ∧
    VecNext s (.addw e d a b m) e slotA 1 d m (fun x l => BitVec.ofNat 32 ((vw x a l).toNat + (vw x b l).toNat)) ∧
    VecNext s (.subw e d a b m) e slotA 1 d m (fun x l => BitVec.ofInt 32 (vi x a l - vi x b l)) ∧
    VecNext s (.adds e d a c m) e slotA 1 d m (fun x l => clamp32 (vi x a l + si x c)) ∧
    VecNext s (.subs e d a c m) e slotA 1 d m (fun x l => clamp32 (vi x a l - si x c)) ∧
    VecNext s (.vabs e d a m) e slotA 1 d m (fun x l => clamp32 (max (vi x a l) (-vi x a l))) ∧
    VecNext s (.neg e d a m) e slotA 1 d m (fun x l => if vw x a l = 0x80000000#32 then 0x7FFFFFFF#32 else -vw x a l)

/-- Each unmasked lane of Vd takes, from the next bundle, the smaller or larger as signed integers, the bitwise result, Va, or the scalar Sb. Nothing else changes. (R89, R92, R156, R174) -/
def Obligations.MinMaxBitwiseAndMoves : Prop :=
  ∀ (s : State) (e m : Fin 8) (d a b : Fin 32) (c : Fin 16),
    VecRel s (.vmin e d a b m) e slotA 1 d m (fun x l r => r = min (vi x a l) (vi x b l)) ∧
    VecRel s (.vmax e d a b m) e slotA 1 d m (fun x l r => r = max (vi x a l) (vi x b l)) ∧
    VecRel s (.mins e d a c m) e slotA 1 d m (fun x l r => r = min (vi x a l) (si x c)) ∧
    VecRel s (.maxs e d a c m) e slotA 1 d m (fun x l r => r = max (vi x a l) (si x c)) ∧
    VecNext s (.vand e d a b m) e slotA 1 d m (fun x l => vw x a l &&& vw x b l) ∧
    VecNext s (.vor e d a b m) e slotA 1 d m (fun x l => vw x a l ||| vw x b l) ∧
    VecNext s (.vxor e d a b m) e slotA 1 d m (fun x l => vw x a l ^^^ vw x b l) ∧
    VecNext s (.vnot e d a m) e slotA 1 d m (fun x l => vw x a l ^^^ 0xFFFFFFFF#32) ∧
    VecNext s (.mov e d a m) e slotA 1 d m (fun x l => vw x a l) ∧
    VecNext s (.movs e d c m) e slotA 1 d m (fun x _ => sw x c)

/-- Each unmasked lane of Vd takes, from the next bundle, the quotient by 2^n rounded to nearest with ties to even, the logical right shift, the left shift clamped to 32 bits, or the left shift modulo 2^32; n is the immediate, or for ASRV the low five bits of the lane of Vb. Nothing else changes. (R89, R156, R174) -/
def Obligations.ShiftsRoundAndSaturate : Prop :=
  ∀ (s : State) (e m : Fin 8) (d a b n : Fin 32),
    VecRel s (.asri e d a n m) e slotA 1 d m (fun x l r => NearestEven (vi x a l) (2 ^ n.val) r) ∧
    VecRel s (.asrv e d a b m) e slotA 1 d m (fun x l r => NearestEven (vi x a l) (2 ^ ((vw x b l).toNat % 32)) r) ∧
    VecNext s (.lsri e d a n m) e slotA 1 d m (fun x l => BitVec.ofNat 32 ((vw x a l).toNat / 2 ^ n.val)) ∧
    VecNext s (.shli e d a n m) e slotA 1 d m (fun x l => clamp32 (vi x a l * 2 ^ n.val)) ∧
    VecNext s (.shlwi e d a n m) e slotA 1 d m (fun x l => BitVec.ofNat 32 ((vw x a l).toNat * 2 ^ n.val))

/-- R178. From the next bundle, the bits of Md whose bit in Mm is 1 take the signed comparison, the mask combination, bit k of Sb:Sa, or the sticky guard flag of the lane as the A slot sees it; the other bits of Md keep their values (the last clause, where such a write lands), and nothing else changes. (R178) -/
def Obligations.MaskOperations : Prop :=
  (∀ (s : State) (e d m : Fin 8) (a b : Fin 32) (c c' : Fin 16) (p q : Fin 8),
    MaskNext s (.cmpeq e d a b m) e d m (fun x l => decide (vi x a l = vi x b l)) ∧
    MaskNext s (.cmplt e d a b m) e d m (fun x l => decide (vi x a l < vi x b l)) ∧
    MaskNext s (.cmple e d a b m) e d m (fun x l => decide (vi x a l ≤ vi x b l)) ∧
    MaskNext s (.cmplts e d a c m) e d m (fun x l => decide (vi x a l < si x c)) ∧
    MaskNext s (.cmpgts e d a c m) e d m (fun x l => decide (si x c < vi x a l)) ∧
    MaskNext s (.mand e d p q m) e d m (fun x l => mb x p l && mb x q l) ∧
    MaskNext s (.mor e d p q m) e d m (fun x l => mb x p l || mb x q l) ∧
    MaskNext s (.mxor e d p q m) e d m (fun x l => mb x p l != mb x q l) ∧
    MaskNext s (.mnot e d p m) e d m (fun x l => !mb x p l) ∧
    MaskNext s (.mset e d c c' m) e d m (fun x l => ((sw x c).toNat + (sw x c').toNat * 2 ^ 32).testBit l.val) ∧
    MaskNext s (.mguard e d m) e d m (fun x l => x.guardA.getLsbD l.val)) ∧
  ∀ (x : Engine) (d : Fin 8) (mask val : BitVec 64) (l : Fin 64),
    (lane (x.land (.msk d mask val)).msk d).getLsbD l.val = if mask.getLsbD l.val then val.getLsbD l.val else (lane x.msk d).getLsbD l.val

/-- R177. From the next bundle each lane of Vd whose bit in Mm is 1 takes Va where its bit in Ms is 1 and Vb where it is 0, for all Ms and Mm, the same register included. Nothing else changes. (R177) -/
def Obligations.SelectByMask : Prop :=
  ∀ (s : State) (e t m : Fin 8) (d a b : Fin 32),
    VecNext s (.sel e t d a b m) e slotA 1 d m (fun x l => if mb x t l = true then vw x a l else vw x b l)

/-- NORM and EXP count the redundant sign bits of the word or of the accumulator lane; the BEXP forms take the least of them over the unmasked lanes of each group of 16, 32 or 64 lanes (31 or 15 in a scalar destination where every lane is masked); MOVA delivers the accumulator lane times 2^ACS rounded to nearest even and clamped, and MOVE_SAT rises by one if any unmasked lane saturates. Nothing else changes. (R120, R122, R123, R125, R126, R127, R128, R129, R174, R175) -/
def Obligations.ExponentsAndAccumulatorMove : Prop :=
  ∀ (s : State) (e m : Fin 8) (d a g : Fin 32) (c : Fin 8) (t : Fin 16),
    (let size : Nat := if g.val = 0 then 16 else if g.val = 1 then 32 else 64
     VecRel s (.norm e d a m) e slotA 2 d m (fun x l r => IsNorm (vw x a l) r) ∧
     VecRel s (.vexp e d c m) e slotA 2 d m (fun x l r => IsExp (va x c l) r) ∧
     VecRel s (.bexp e d a g m) e slotA 3 d m (fun x l r =>
       IsLeast (fun j => j.val / size = l.val / size ∧ mb x m j = true) (fun j v => IsNorm (vw x a j) v) 31 r) ∧
     VecRel s (.bexpa e d c g m) e slotA 3 d m (fun x l r =>
       IsLeast (fun j => j.val / size = l.val / size ∧ mb x m j = true) (fun j v => IsExp (va x c j) v) 15 r)) ∧
    ScalarRel s (.bexps e t a m) e slotA 3 t (fun x r => IsLeast (fun j => mb x m j = true) (fun j v => IsNorm (vw x a j) v) 31 r) ∧
    ScalarRel s (.bexpas e t c m) e slotA 3 t (fun x r => IsLeast (fun j => mb x m j = true) (fun j v => IsExp (va x c j) v) 15 r) ∧
    (let x := seen s e slotA
     let n := fun l => (va x c l).toInt * 2 ^ ((lane x.acs c).toInt + 16).toNat
     ∃ (val : Lanes Word) (q : Fin 64 → Int), (∀ l, NearestEven (n l) (2 ^ 48) (q l)) ∧ (∀ l, lane val l = clamp32 (q l)) ∧
       EngineNext s (.mova e d c m) e slotA
         { x.sched 2 (.vec (physReg x.wb d) (lane x.msk m) val) with
           fault := if ∃ l, mb x m l = true ∧ (q l > 2 ^ 31 - 1 ∨ q l < -(2 ^ 31)) then fwMoveSat x.fault 1 else x.fault })

/-- Rotations give lane k the lane (k + r) mod 64 of Va, broadcasts the one lane named; both after two bundles. RSUM gives every lane of Mm the exact sum over those lanes clamped to 32 bits, RMAX and RMIN the largest and smallest, after three bundles. Nothing else changes. (R89, R156, R174, R176) -/
def Obligations.LaneMovesAndReductions : Prop :=
  ∀ (s : State) (e m : Fin 8) (d a n : Fin 32) (c : Fin 16),
    VecNext s (.lroti e d a n m) e slotA 2 d m (fun x l => vw x a (Fin.ofNat 64 (l.val + n.val))) ∧
    VecNext s (.lrotih e d a n m) e slotA 2 d m (fun x l => vw x a (Fin.ofNat 64 (l.val + n.val + 32))) ∧
    VecNext s (.lrots e d a c m) e slotA 2 d m (fun x l => vw x a (Fin.ofNat 64 (l.val + (sw x c).toNat % 64))) ∧
    VecNext s (.bcasti e d a n m) e slotA 2 d m (fun x _ => vw x a (Fin.ofNat 64 n.val)) ∧
    VecNext s (.bcastih e d a n m) e slotA 2 d m (fun x _ => vw x a (Fin.ofNat 64 (n.val + 32))) ∧
    VecNext s (.bcasts e d a c m) e slotA 2 d m (fun x _ => vw x a (Fin.ofNat 64 (sw x c).toNat)) ∧
    VecNext s (.rsum e d a m) e slotA 3 d m (fun x _ => clamp32 (((List.finRange 64).map (fun j => if mb x m j = true then vi x a j else 0)).sum)) ∧
    VecRel s (.rmax e d a m) e slotA 3 d m (fun x _ r => IsGreatest (fun j => mb x m j = true) (fun j v => v = vi x a j) r) ∧
    VecRel s (.rmin e d a m) e slotA 3 d m (fun x _ r => IsLeast (fun j => mb x m j = true) (fun j v => v = vi x a j) (2 ^ 31 - 1) r)

namespace Sys2Proof.Claims
open Sys2Proof Sys2Proof.Machine

/-- The word a load of engine `e` delivers from bus address `a`: zero where the word is uncorrectable (R99). -/
def loaded (s : State) (a : Nat) : Word := if a ∈ s.bad then 0 else memWord s.mem a

/-- A vector load: the lanes `val` are scheduled for Vd, the pointer is updated, the fault word may have counted poisoned reads, a coefficient read
may have asked for a repair swap; memory and the other engines are unchanged. Lane `l` of Mm takes `f l`. -/
def LoadNext (s : State) (i : Instr) (e : Fin 8) (k lat : Nat) (v : Fin 32) (m : Fin 8) (p : Fin 16) (mode : BitVec 3) (size : Nat) (f : Fin 64 → Word) : Prop :=
  let b := s.openSlot e k
  let x := b.engine e
  ∃ (t : State) (fw : BitVec 64) (swap : Bool) (val : Lanes Word), exec i s = .next t ∧
    t.engine e = (({ x with fault := fw, repairSwap := swap } : Engine).sched lat (.vec (physReg x.wb v) (lane x.msk m) val)).bumpPtr p mode size ∧
    t.mem = b.mem ∧ (∀ e', e' ≠ e → t.engine e' = b.engine e') ∧ ∀ l, mb x m l = true → lane val l = f l

/-- The coefficient at byte offset `off` of the active bank: the glide value of this tick where the word glides, else the bank word (R183). -/
def coefficient (s : State) (e : Fin 8) (off : Nat) : Word :=
  match (s.engine e).glides.find? (fun g => g.word = off / 4) with
  | some g => g.now
  | none => loaded s (bankBase e (s.engine e).bankB + off)

/-- Register values as an address sees them: low two bits zero; P, PB, PL unsigned, N signed (R91, R162). -/
def addrU (w : Word) : Int := (w.toNat / 4 * 4 : Nat)
def addrS (w : Word) : Int := w.toInt / 4 * 4

/-- The address of lane `l` in a space of `size` bytes (R161, R163, R164, R165). -/
def laneAddress (x : Engine) (p : Fin 16) (mode : BitVec 3) (size l : Nat) : Int :=
  let a := addrU (lane x.p p) + (if mode = 4 then addrS (lane x.n p) else 0)
  let pb := addrU (lane x.pb p)
  let pl := addrU (lane x.pl p)
  (if pl = 0 then a + 4 * l else pb + (a - pb + 4 * l) % pl) % size

/-- The update of a pointer by `d` bytes (R163, R164). -/
def movedPointer (x : Engine) (p : Fin 16) (size : Nat) (d : Int) : Word :=
  let a := addrU (lane x.p p)
  let pb := addrU (lane x.pb p)
  let pl := addrU (lane x.pl p)
  BitVec.ofInt 32 (if pl = 0 then (a + d) % size else pb + (a + d - pb) % pl)

/-- An O operation of occupancy `occ` enters the queue of its delay unit, or acts as ONOP within the occupancy of the one before (R190, R218). -/
def QueueNext (s : State) (i : Instr) (e : Fin 8) (occ : Nat) (m : Fin 8) (form : Engine → OForm) (quiet : Bool)
    (name : Engine → Fin 64 → Nat) (arg : Engine → Fin 64 → Word) : Prop :=
  let x := seen s e slotO
  if x.oBusy = 0 then
    ∃ o : OrbitOp, EngineNext s i e slotO { x with ops := x.ops ++ [o], oBusy := occ } ∧ o.form = form x ∧ o.age = 0 ∧ o.pos = x.issued ∧
      o.served = false ∧ o.mask = (if quiet = true ∧ x.running = true ∧ x.rangeMode x.pc = 1 then 0 else lane x.msk m) ∧
      ∀ l, lane o.name l = name x l ∧ lane o.arg l = arg x l
  else EngineNext s i e slotO x

/-- `v` is `w` with the `n`-bit counter field from bit `lo` raised by `k`, stopping at all ones, and no other bit changed. -/
def FieldRaised (w v : BitVec 64) (lo n k : Nat) : Prop :=
  v.toNat / 2 ^ lo % 2 ^ n = min (w.toNat / 2 ^ lo % 2 ^ n + k) (2 ^ n - 1) ∧ ∀ b, b < lo ∨ lo + n ≤ b → v.getLsbD b = w.getLsbD b

end Sys2Proof.Claims

/-- Each unmasked lane takes the word at the lane's address (LDB, LDCB: at the base address), zero if it is uncorrectable; LDC and LDCB take the glide value where the word glides. LDS schedules the scalar. Results are seen after 3 bundles, 4 for coefficients. The pointer is updated whatever the mask. Memory and the other engines are unchanged. (R89, R99, R156, R169, R180, R181, R182, R183, R184) -/
def Obligations.LoadsAndCoefficientReads : Prop :=
  ∀ (s : State) (e m : Fin 8) (y : Bool) (v : Fin 32) (c p : Fin 16) (mode : BitVec 3),
    (let b := s.openSlot e (slotXY y)
     let x := b.engine e
     LoadNext s (.ldv e y v p mode m) e (slotXY y) 3 v m p mode x.dataSize (fun l => loaded b (x.dataAddr e y p mode l.val)) ∧
     LoadNext s (.ldb e y v p mode m) e (slotXY y) 3 v m p mode x.dataSize (fun _ => loaded b (x.dataAddr e y p mode 0)) ∧
     ∃ (t : State) (fw : BitVec 64), exec (.lds e y c p mode) s = .next t ∧
       t.engine e = (({ x with fault := fw } : Engine).sched 3 (.scl c (loaded b (x.dataAddr e y p mode 0)))).bumpPtr p mode x.dataSize ∧
       t.mem = b.mem ∧ ∀ e', e' ≠ e → t.engine e' = b.engine e') ∧
    (let b := s.openSlot e (slotXY true)
     let x := b.engine e
     LoadNext s (.ldc e v p mode m) e (slotXY true) 4 v m p mode 0x80000 (fun l => coefficient b e (x.coefOffset p mode l.val)) ∧
     LoadNext s (.ldcb e v p mode m) e (slotXY true) 4 v m p mode 0x80000 (fun _ => coefficient b e (x.coefOffset p mode 0)))

/-- For every engine, pointer and mode: the lane address is the base (plus Np in the indexed mode) plus 4k, within the modulo region if PLp is not 0, modulo the size of the space; the update is none, +Np, +256, -Np or +4 by the mode, and in the bit-reversed mode the reverse-carry addition where PLp is a power of two of at least 8 bytes, else that of mode 1. The updated pointer is scheduled for the next bundle and no other register changes. (R161, R162, R163, R164, R165, R166, R167, R181) -/
def Obligations.AddressesAndPointerUpdates : Prop :=
  ∀ (x : Engine) (e : Fin 8) (y : Bool) (p : Fin 16) (mode : BitVec 3) (size l : Nat), 0 < size →
    x.dataAddr e y p mode l = (if x.unified = false ∧ y = true then 0x200200000 + e.val * 0x800000 else 0x200000000 + e.val * 0x800000) +
      (laneAddress x p mode (if x.unified = true then 0x400000 else 0x200000) l).toNat ∧
    x.coefOffset p mode l = (laneAddress x p mode 0x80000 l).toNat ∧
    x.bumpPtr p mode size =
      (if mode = 0 ∨ mode = 4 ∨ mode = 7 then x else x.sched 1 (.ptr 0 p (
        if mode = 1 then movedPointer x p size (addrS (lane x.n p))
        else if mode = 2 then movedPointer x p size 256
        else if mode = 3 then movedPointer x p size (-addrS (lane x.n p))
        else if mode = 5 then movedPointer x p size 4
        else if isPow2 (addrU (lane x.pl p)).toNat = true ∧ 8 ≤ addrU (lane x.pl p) then (x.ptrVals p).bitRev
        else movedPointer x p size (addrS (lane x.n p)))))

/-- STV enters one store for each lane of Mm with the lane's address and word; STS enters one store of the scalar at the base address if bit 0 of Mm is 1 and none otherwise. The pointer is updated. Memory is unchanged until the bundle closes. (R89, R160, R169, R180) -/
def Obligations.StoresEnterTheOpenBundle : Prop :=
  ∀ (s : State) (e m : Fin 8) (y : Bool) (v : Fin 32) (c p : Fin 16) (mode : BitVec 3),
    let x := seen s e (slotXY y)
    EngineNext s (.stv e y v p mode m) e (slotXY y)
      (({ x with stores := x.stores ++ [{ y := y, words := ((List.finRange 64).filter (fun l => mb x m l)).map (fun l => (x.dataAddr e y p mode l.val, vw x v l)) }] } : Engine).bumpPtr p mode x.dataSize) ∧
    EngineNext s (.sts e y c p mode m) e (slotXY y)
      (({ x with stores := x.stores ++ [{ y := y, words := if (lane x.msk m).getLsbD 0 then [(x.dataAddr e y p mode 0, sw x c)] else [] }] } : Engine).bumpPtr p mode x.dataSize)

/-- With memory in canonical form (which every step keeps), when a bundle with no delay-unit operation in the queue closes because the M slot of the next opens, every stored word is written in order, X before Y. A byte outside all stored words is unchanged; a stored word that no later store of the bundle overlaps reads back; the other engines are unchanged. (R107, R159, R160, R180) -/
def Obligations.StoresAreWrittenWhenTheBundleCloses : Prop :=
  ∀ (s : State) (e : Fin 8), Memory.wf s.mem → (s.engine e).ops = [] → 0 < (s.engine e).nextSlot →
    let words := (s.engine e).stores.flatMap (fun r => r.words)
    ∃ t, exec (.mnop e) s = .next t ∧ (t.engine e).stores = [] ∧ (∀ e', e' ≠ e → t.engine e' = s.engine e') ∧
      (∀ a, (∀ p ∈ words, a < p.1 ∨ p.1 + 4 ≤ a) → memByte t.mem a = memByte s.mem a) ∧
      ∀ before p after, words = before ++ p :: after → (∀ q ∈ after, q.1 + 4 ≤ p.1 ∨ p.1 + 4 ≤ q.1) → memWord t.mem p.1 = p.2

/-- When a bundle without ENTRY, BKPT or delay-unit operations closes because the M slot of the next opens, each lane of each vector register takes the value of the last scheduled write that is due, unmasked in that lane and addressed to that register, or keeps its content; a write not yet due stays scheduled with one bundle less to wait. (R89, R95, R156, R157, R159) -/
def Obligations.ResultsLandAfterTheirLatency : Prop :=
  ∀ (s : State) (e : Fin 8), let x := s.engine e
    x.ops = [] → x.entryNow = false → x.haltNow = false → 0 < x.nextSlot →
    ∃ t, exec (.mnop e) s = .next t ∧
      (t.engine e).flights = (x.flights.filter (fun f => decide (2 ≤ f.wait))).map (fun f => { f with wait := f.wait - 1, young := false }) ∧
      ∀ (r : Fin 32) (l : Fin 64), lane (lane (t.engine e).v r) l =
        ((x.flights.filterMap (fun f => match f.wr with
          | .vec r' mask val => if f.wait ≤ 1 ∧ r' = r ∧ mask.getLsbD l.val = true then some (lane val l) else none
          | _ => none)).getLast?).getD (lane (lane x.v r) l)

/-- Outside the occupancy of the operation before, each form enters the queue with its destination, mask, issue position, and for each lane the descriptor number, channel or offset and the delay or data word; within an occupancy it acts as ONOP. In a quiet range OUT and EXW act on no lane. Nothing else changes. (R185, R187, R188, R189, R190, R202, R218, R390) -/
def Obligations.DelayUnitOperationsEnterTheQueue : Prop :=
  ∀ (s : State) (e d m : Fin 8) (v q t : Fin 32) (c : Fin 16) (j : Fin 32),
    let lineV := fun (x : Engine) (l : Fin 64) => (vw x q l).toNat % 4096
    let lineS := fun (x : Engine) (_ : Fin 64) => (sw x c).toNat % 4096
    let delay := fun (x : Engine) (l : Fin 64) => vw x t l
    let data := fun (x : Engine) (l : Fin 64) => vw x v l
    let channel := fun (x : Engine) (l : Fin 64) => ((sw x c).toNat + 64 * j.val + l.val) % 65536
    let offset := fun (x : Engine) (l : Fin 64) => (sw x c).toNat + 256 * j.val + 4 * l.val
    let zero := fun (_ : Engine) (_ : Fin 64) => (0#32 : Word)
    QueueNext s (.tap e v q t m) e 16 m (fun x => .tap (physReg x.wb v)) false lineV delay ∧
    QueueNext s (.tap4 e d q t m) e 16 m (fun _ => .interp d false false) false lineV delay ∧
    QueueNext s (.tap4a e d q t m) e 16 m (fun _ => .interp d false true) false lineV delay ∧
    QueueNext s (.tap8 e d q t m) e 32 m (fun _ => .interp d true false) false lineV delay ∧
    QueueNext s (.tap8a e d q t m) e 32 m (fun _ => .interp d true true) false lineV delay ∧
    QueueNext s (.taps e v c t m) e 16 m (fun x => .tap (physReg x.wb v)) false lineS delay ∧
    QueueNext s (.taps4 e d c t m) e 16 m (fun _ => .interp d false false) false lineS delay ∧
    QueueNext s (.taps4a e d c t m) e 16 m (fun _ => .interp d false true) false lineS delay ∧
    QueueNext s (.taps8 e d c t m) e 32 m (fun _ => .interp d true false) false lineS delay ∧
    QueueNext s (.taps8a e d c t m) e 32 m (fun _ => .interp d true true) false lineS delay ∧
    QueueNext s (.trd e v q t m) e 16 m (fun x => .trd (physReg x.wb v)) false lineV delay ∧
    QueueNext s (.trd4 e d q t m) e 16 m (fun _ => .trd4 d false) false lineV delay ∧
    QueueNext s (.trd4a e d q t m) e 16 m (fun _ => .trd4 d true) false lineV delay ∧
    QueueNext s (.dwr e q v m) e 16 m (fun _ => .dwr) false lineV data ∧
    QueueNext s (.chanIn e v c j m) e 2 m (fun x => .chanIn (physReg x.wb v)) false channel zero ∧
    QueueNext s (.chanOut e v c j m) e 2 m (fun _ => .chanOut) true channel data ∧
    QueueNext s (.exr e v c j m) e 2 m (fun x => .exr (physReg x.wb v)) false offset zero ∧
    QueueNext s (.exw e v c j m) e 2 m (fun _ => .exw) true offset data ∧
    QueueNext s (.old e v c j m) e 2 m (fun x => .old (physReg x.wb v)) false offset zero ∧
    QueueNext s (.ost e v c j m) e 2 m (fun _ => .ost) false offset data

/-- With nothing pending, nothing changes. Otherwise the first operation not yet served is served: an IN that is not late takes, in each lane of its mask, the word of the channel in the input half latched at the boundary, or zero where that word is uncorrectable; memory is unchanged. A DWR with one lane set whose line is a valid plain line of its own, with no uncorrectable word, stores the lane's word at the write position, or for a far line in its write-behind line with the slot marked, and raises HWM if the line is still filling. (R187, R198, R199, R200, R244, R245) -/
def Obligations.DelayUnitServesItsOldestAccess : Prop :=
  ∀ (s : State) (e : Fin 8),
    ((∀ o ∈ (s.engine e).ops, o.served = true) → exec (.orbitAccessServed e) s = .next s) ∧
    ∀ (i : Nat) (o : OrbitOp), (s.engine e).ops[i]? = some o → o.served = false → (∀ j o', j < i → (s.engine e).ops[j]? = some o' → o'.served = true) →
      (∀ d, o.form = .chanIn d → o.age < 12 → ∃ t o', exec (.orbitAccessServed e) s = .next t ∧ (t.engine e).ops = (s.engine e).ops.set i o' ∧
        o'.served = true ∧ o'.form = o.form ∧ o'.mask = o.mask ∧ t.mem = s.mem ∧ ∃ val, o'.points = [val] ∧ ∀ l, o.mask.getLsbD l.val = true →
          lane val l = (let a := (if s.io.inHalf then 0x105F40000 else 0x105F00000) + 4 * lane o.name l
                        if (s.badIn a 4).isSome then 0 else memWord s.mem a)) ∧
      ∀ (l : Fin 64) (d : Desc), o.form = .dwr → o.mask = BitVec.ofNat 64 (2 ^ l.val) → aGet Desc.zero (s.engine e).desc (lane o.name l) = d →
        d.valid = true → d.aliased = false → d.fmt = 0 → s.bad = [] → Memory.wf s.mem → aWf Desc.zero (s.engine e).desc = true →
        let at_ := if d.loc = 1 then 0x100000000 + 64 * d.behindLine + 4 * (d.wp % 16) else d.base + 4 * d.wp
        ∃ t, exec (.orbitAccessServed e) s = .next t ∧ memWord t.mem at_ = lane o.arg l ∧
          (∀ a, a < at_ ∨ at_ + 4 ≤ a → memByte t.mem a = memByte s.mem a) ∧
          aGet Desc.zero (t.engine e).desc (lane o.name l) = { d with
            hwm := if d.wp = d.hwm ∧ d.hwm < d.len then d.hwm + 1 else d.hwm
            openFlags := if d.loc = 1 then d.openFlags ||| BitVec.ofNat 16 (2 ^ (d.wp % 16)) else d.openFlags }

/-- Each C-slot scalar operation schedules its result for the next bundle (SGET after two): immediates sign-extended or appended, sums and differences modulo 2^32, bitwise results, shifts, the named register of file P, N, PB or PL, or lane j of Va. PWR schedules the named register of the file, PADDI the pointer moved by 4 times the immediate within its modulo region. Nothing else changes. (R91, R156, R163, R164, R204, R205, R206) -/
def Obligations.ScalarAndPointerOperations : Prop :=
  ∀ (s : State) (e : Fin 8) (d a b : Fin 16) (v n : Fin 32) (j : Fin 64) (imm : BitVec 11) (imm7 : BitVec 7) (f : BitVec 2),
    ScalarNext s (.sli e d imm) e slotC 1 d (fun _ => BitVec.ofInt 32 imm.toInt) ∧
    ScalarNext s (.slu e d imm) e slotC 1 d (fun x => BitVec.ofNat 32 ((sw x d).toNat * 2 ^ 11 + imm.toNat)) ∧
    ScalarNext s (.sadd e d a b) e slotC 1 d (fun x => BitVec.ofNat 32 ((sw x a).toNat + (sw x b).toNat)) ∧
    ScalarNext s (.ssub e d a b) e slotC 1 d (fun x => BitVec.ofInt 32 (si x a - si x b)) ∧
    ScalarNext s (.sand e d a b) e slotC 1 d (fun x => sw x a &&& sw x b) ∧
    ScalarNext s (.sor e d a b) e slotC 1 d (fun x => sw x a ||| sw x b) ∧
    ScalarNext s (.sxor e d a b) e slotC 1 d (fun x => sw x a ^^^ sw x b) ∧
    ScalarNext s (.saddi e d a imm7) e slotC 1 d (fun x => BitVec.ofInt 32 (si x a + imm7.toInt)) ∧
    ScalarNext s (.sshli e d a n) e slotC 1 d (fun x => BitVec.ofNat 32 ((sw x a).toNat * 2 ^ n.val)) ∧
    ScalarNext s (.slsri e d a n) e slotC 1 d (fun x => BitVec.ofNat 32 ((sw x a).toNat / 2 ^ n.val)) ∧
    ScalarNext s (.prd e d f a) e slotC 1 d (fun x => match f.toNat with
      | 0 => lane x.p a
      | 1 => lane x.n a
      | 2 => lane x.pb a
      | _ => lane x.pl a) ∧
    ScalarNext s (.sget e d v j) e slotC 2 d (fun x => vw x v j) ∧
    EngineNext s (.pwr e f a b) e slotC ((seen s e slotC).sched 1 (.ptr f a (sw (seen s e slotC) b))) ∧
    EngineNext s (.paddi e d imm) e slotC ((seen s e slotC).sched 1 (.ptr 0 d (movedPointer (seen s e slotC) d (2 ^ 32) (4 * imm.toInt))))

/-- SACS schedules the immediate and SACSR the scalar clamped to -16 to +15 for ACSk; ROT adds r to the window base modulo 16; all from the next bundle. REP within four levels and outside an inert range makes the next L bundles the body, issued c times; otherwise it acts as CNOP. After the last bundle of a body, issue returns to its first with one iteration less, or goes on if none is left, and the window advances if R is 1. (R93, R124, R204, R207, R208, R209, R218, R391) -/
def Obligations.ScaleRotationAndRepeat : Prop :=
  (∀ (s : State) (e k : Fin 8) (imm : BitVec 5) (a : Fin 16) (r : BitVec 4) (c l : Fin 128) (rot : Bool),
    let x := seen s e slotC
    EngineNext s (.sacs e k imm) e slotC (x.sched 1 (.acs k imm)) ∧
    (∃ v : BitVec 5, v.toInt = max (-16) (min 15 (si x a)) ∧ EngineNext s (.sacsr e k a) e slotC (x.sched 1 (.acs k v))) ∧
    (∃ v : BitVec 4, v.toNat = (x.wb.toNat + r.toNat) % 16 ∧ EngineNext s (.rot e r) e slotC (x.sched 1 (.wb v))) ∧
    EngineNext s (.rep e c l rot) e slotC
      (if x.reps.length < 4 ∧ x.rangeMode x.pc ≠ 2 then
        { x with pushRep := some { first := x.pc + 1, last := x.pc + (l.val + 1), left := c.val + 1, rot := rot } } else x)) ∧
  (∀ (x : Engine) (r : Rep) (t : List Rep), x.pushRep = none → x.rangeMode x.pc ≠ 2 → x.reps = r :: t → r.last = x.pc → 1 < r.left →
    x.advance.pc = r.first ∧ x.advance.reps = { r with left := r.left - 1 } :: t ∧ x.advance.wb = x.wb + (if r.rot then 1 else 0) ∧ x.advance.issued = x.issued + 1) ∧
  ∀ (x : Engine) (r : Rep) (t : List Rep), x.pushRep = none → x.rangeMode x.pc ≠ 2 → x.reps = r :: t → r.last = x.pc → r.left ≤ 1 →
    (∀ q ∈ t, q.last ≠ x.pc) → x.advance.pc = x.pc + 1 ∧ x.advance.reps = t ∧ x.advance.wb = x.wb + (if r.rot then 1 else 0)

/-- R211. ENTRY marks its bundle; when that bundle closes with no result due and no delay-unit operation, every vector register, accumulator, pointer, stride, modulo register, scalar and scale is 0, every mask register all ones, the window base 0, the freeze bits clear and no repeat is active, while the sticky guard flags stay and the program counter only moves on to the next bundle. (R211) -/
def Obligations.BlockEntryResetsRegisters : Prop :=
  (∀ (s : State) (e : Fin 8), EngineNext s (.entry e) e slotC { seen s e slotC with entryNow := true }) ∧
  ∀ (s : State) (e : Fin 8), let x := s.engine e
    x.entryNow = true → x.haltNow = false → x.ops = [] → x.flights = [] → x.pushRep = none → 0 < x.nextSlot →
    ∃ t, exec (.mnop e) s = .next t ∧ let y := t.engine e
      (∀ r l, lane (lane y.v r) l = 0#32) ∧ (∀ r l, lane (lane y.acc r) l = 0#72) ∧ (∀ r, lane y.msk r = BitVec.allOnes 64) ∧
      (∀ r, lane y.p r = 0#32 ∧ lane y.n r = 0#32 ∧ lane y.pb r = 0#32 ∧ lane y.pl r = 0#32 ∧ lane y.scl r = 0#32) ∧
      (∀ r, lane y.acs r = 0#5 ∧ lane y.freeze r = 0#64) ∧ y.wb = 0#4 ∧ y.reps = [] ∧ y.guard = x.guard ∧ y.pc = x.pc + 1 ∧ y.entryNow = false

/-- In mode 7 with no DEBUGLOCK fuse bit burned, BKPT marks the bundle; when it closes the tick of the engine is abandoned and DEBUG_HALT, bit 5, is set in its fault word. In every other case nothing but the open bundle changes. That debug is enabled while no DEBUGLOCK bit is burned is the model's reading (log entry 5). (R213, R745) -/
def Obligations.BreakpointHaltsInServiceMode : Prop :=
  (∀ (s : State) (e : Fin 8), EngineNext s (.bkpt e) e slotC
    (if s.obj O.operatingMode = 7 ∧ ∀ b ∈ s.fuses, b < 1644 ∨ 1647 < b then { seen s e slotC with haltNow := true } else seen s e slotC)) ∧
  ∀ (s : State) (e : Fin 8), (s.engine e).haltNow = true → (s.engine e).ops = [] → 0 < (s.engine e).nextSlot →
    ∃ t, exec (.mnop e) s = .next t ∧ (t.engine e).active = false ∧ (t.engine e).fault.getLsbD 5 = true ∧ (t.engine e).haltNow = false

/-- For every slot operation, with every operand at every value its encoding admits, the word written from the slot's encoding table lies within the width of the slot and the slot's decoder gives the operation back. (R151, R170, R173, R174, R180, R189, R204) -/
def Obligations.SlotEncodingsAreReadBack : Prop :=
  ∀ (i : Instr) (k w : Nat) (e : Fin 8), slotCode i = some (k, e, w) → w < 2 ^ slotWidth k ∧ decodeSlot k e w = i

/-- For every slot operation, the state an engine reaches by issuing it from program memory is the one that exec answers for the command, and a worked bundle of the spec decodes to its six operations. (R88, R151, R152, R154) -/
def Obligations.ProgramOperationsRunAsCommands : Prop :=
  (∀ (i : Instr) (k w : Nat) (e : Fin 8) (s : State), slotCode i = some (k, e, w) → exec i s = .next (s.runSlot i)) ∧
  decodeBundle 3 0x1A810006312824023160800000000000 =
    [.mac 3 2 16 4 0 false, .add 3 17 17 5 0, .ldv 3 false 4 0 1 0, .ldc 3 5 8 1 0, .onop 3, .cnop 3]

/-- For every slot operation of engine e in every state, every other engine is unchanged, and so are the sessions, the fabric links, the serial ports, the network state, the fuses and the boot flash. (R87, R91, R154, R204) -/
def Obligations.EnginesDoNotReachEachOther : Prop :=
  ∀ (i : Instr) (k w : Nat) (e : Fin 8) (s t : State), slotCode i = some (k, e, w) → exec i s = .next t →
    (∀ e', e' ≠ e → t.engine e' = s.engine e') ∧ t.sessions = s.sessions ∧ t.link = s.link ∧ t.sap = s.sap ∧ t.net = s.net ∧
    t.fuses = s.fuses ∧ t.flash = s.flash

/-- R131. Raising GUARD_OVF, POISON, FAR_MISS, OUT_SUBST or MOVE_SAT by any amount gives the lesser of the sum and all ones in its field, and every bit outside the field is unchanged. (R131) -/
def Obligations.FaultCountersStop : Prop :=
  ∀ (w : BitVec 64) (k : Nat), FieldRaised w (fwGuard w k) 48 16 k ∧ FieldRaised w (fwPoison w k) 40 8 k ∧ FieldRaised w (fwFarMiss w k) 32 8 k ∧
    FieldRaised w (fwOutSubst w k) 24 8 k ∧ FieldRaised w (fwMoveSat w k) 16 8 k

namespace Sys2Proof.Claims
open Sys2Proof Sys2Proof.Machine

/-- A write of `words` at object `a` passes every check of R435; `mode`, `range` and `res` are the conditions that its own rules add. -/
def Passes (s : State) (src : Src) (a : Nat) (words : List (BitVec 32)) (mode range res : Bool) : Prop :=
  s.serving = true ∧ (firmwareServed a true = true → s.firmwareCan a true = true) ∧
    s.checkWrite src.key a words { mode := mode, range := range, res := res } = rcOk

/-- The command is answered with result code `code`; beside journalling and answering it changes the state into one with property `P`. -/
def Answers (s : State) (i : Instr) (src : Src) (code : Nat) (P : State → Prop) : Prop :=
  ∃ u t, exec i s = .next t ∧ t.resp = some { key := src.key, code := code, words := [] } ∧ Booked u t ∧ P u

/-- The command is performed and answered, and beside journalling and answering leaves state `u`. -/
def Performs (s : State) (i : Instr) (src : Src) (u : State) : Prop := Answers s i src rcOk (fun v => v = u)

/-- The command is refused with result code `code`, and changes nothing but by journalling and answering. -/
def Refuses (s : State) (i : Instr) (src : Src) (code : Nat) : Prop := Answers s i src code (fun v => v = s)

end Sys2Proof.Claims

/-- ORB_SHARE from the loader with a sum of at most 64 waits for the next boundary; any other counts as a register access error and does nothing else. A descriptor write not from the loader or the state mover does nothing, nor does one of a valid line with a LOC or FMT that does not exist; one without VALID, or that R260 admits over a descriptor without VALID, replaces the descriptor by the fields of the four words. A group whose fetch is awaited, with LPDDR5X locked, takes a free line of the span staging with its bytes and leaves the fetch list, unless it is still in write-behind; a group of write-behind is copied to its place and leaves; a pending span takes effect once every group of it is staged. Nothing else changes. (R256, R258, R259, R260, R275, R277, R280) -/
def Obligations.OrbitSharesAndDescriptors : Prop :=
  ∀ (s : State) (e : Fin 8) (q : Fin 4096) (g : BitVec 18) (loader : Bool) (w w0 w1 w2 w3 : BitVec 64),
    let d := s.desc e q.val
    exec (.orbShare loader w) s = .next (if loader = true ∧ ((List.range 8).map (fun i => w.toNat / 2 ^ (8 * i) % 256)).sum ≤ 64 then
        { s with io := { s.io with pendShare := some w } }
      else { s with regErrors := s.regErrors + 1 }) ∧
    exec (.descriptorFileWrite false e q w0 w1 w2 w3) s = .next s ∧
    (w0.getLsbD 58 = true → (w0.getLsbD 63 = true ∨ 5 ≤ w0.toNat / 2 ^ 59 % 8) → exec (.descriptorFileWrite true e q w0 w1 w2 w3) s = .next s) ∧
    (w0.getLsbD 58 = false ∨ (d.valid = false ∧ s.descOk e q.val (descWords w0 w1 w2 w3) = true) →
      exec (.descriptorFileWrite true e q w0 w1 w2 w3) s = .next (s.setDesc e q.val { Desc.zero with
        loc := BitVec.ofNat 2 (w0.toNat / 2 ^ 62)
        fmt := BitVec.ofNat 3 (w0.toNat / 2 ^ 59)
        valid := w0.getLsbD 58
        aliased := w0.getLsbD 57
        writer := w0.toNat / 2 ^ 44 % 4096
        base := w0.toNat % 2 ^ 40 / 64 * 64
        tapCount := w1.toNat / 2 ^ 48 % 65536
        maxLen := w1.toNat / 2 ^ 23 % 2 ^ 23
        len := w1.toNat % 2 ^ 23
        hwm := w1.toNat % 2 ^ 23
        clamp := w2.getLsbD 63
        wp := w2.toNat % 2 ^ 23
        stageLine := w3.toNat / 2 ^ 43 % 2 ^ 21
        spanGroups := w3.toNat / 2 ^ 32 % 1024
        spanLo := w3.toNat % 2 ^ 22 })) ∧
    (let up := s.obj (O.pllState 2) = 2
     let n := groupBytes d.fmt.toNat
     let home := d.base + g.toNat * n
     let line := fun (k : Nat) => 0x100000000 + 64 * k
     let wanted := (∃ p ∈ d.fetching, p.1 = g.toNat) ∨ g.toNat ∈ d.awaited
     let becomes := fun (t : State) (x : Desc) => t.engine e = { s.engine e with desc := aPut Desc.zero (s.engine e).desc q.val x } ∧
       ∀ f, f ≠ e → t.engine f = s.engine f
     (¬up ∨ ¬wanted ∨ (∃ p ∈ d.behind, p.1 = g.toNat) ∨ d.freeLine = none → exec (.farFetchComplete e q g) s = .next s) ∧
     (∀ k, up → wanted → (∀ p ∈ d.behind, p.1 ≠ g.toNat) → d.freeLine = some k → ∃ t, exec (.farFetchComplete e q g) s = .next t ∧
       t.mem = memPutBytes s.mem (line k) (memBytes s.mem home n) ∧ becomes t { d with
         stage := d.stage.filter (fun p => p.1 != g.toNat) ++ [(g.toNat, k)]
         fetching := d.fetching.filter (fun p => p.1 != g.toNat) }) ∧
     (¬up ∨ (∀ p ∈ d.behind, p.1 ≠ g.toNat) → exec (.farGroupCopy e q g) s = .next s) ∧
     (∀ b, up → d.behind.find? (fun p => p.1 = g.toNat) = some b → ∃ t, exec (.farGroupCopy e q g) s = .next t ∧
       t.mem = (if d.fmt = 0 then ((List.range 16).filter (fun i => b.2.2.getLsbD i)).foldl
           (fun m i => memPutBytes m (home + 4 * i) (memBytes m (line b.2.1 + 4 * i) 4)) s.mem
         else memPutBytes s.mem home (memBytes s.mem (line b.2.1) n)) ∧
       becomes t { d with behind := d.behind.filter (fun p => p != b) })) ∧
    (d.pendSpan = none ∨ d.awaited ≠ [] → exec (.spanChangeApply e q) s = .next (s.setDesc e q.val d)) ∧
    ∀ lo n, d.pendSpan = some (lo, n) → d.awaited = [] → exec (.spanChangeApply e q) s = .next (s.setDesc e q.val { d with
        spanLo := lo
        spanGroups := n
        pendSpan := none
        missing := d.missing.filter (fun k => !d.nextSpan.contains k) })

/-- A write that passes the checks: bound to one coefficient word, with no set in the way, it stands in the shadow bank and its engine is claimed by the session's open set, and no other byte outside the journal ring changes; under a sealed set that claims the engine it is held and memory is as before. Where another session's open set claims the engine it is refused with BUSY. Bound to X or Y words, one write for each word joins the queue. Bound to a length, the descriptor takes it as pending and the parameter as its value; a length below 2, above MAXLEN, or of a line without descriptor is refused with "out of range". A refused write changes nothing else. (R269, R270, R324, R330, R332, R333, R354, R371, R461) -/
def Obligations.GraphParameterWrites : Prop :=
  ∀ (s : State) (src : Src) (a : BitVec 24) (words : List (BitVec 32)) (w : BitVec 32) (p : Param), s.param a.toNat = some p → p.mirror = none → p.replicate = false → s.paramBusy p = false →
    (p.bind = 0 → p.ty ≠ 16 → p.words = 1 → p.engine < 8 → p.base < 131072 → Memory.wf s.mem →
      (∀ m, s.til.mig = some m → m.fromDev ≠ m.toDev) →
      ((∃ u ∈ s.sets, u.phase = .opened ∧ u.key ≠ src.key ∧ p.engine ∈ u.engines) → Passes s src a.toNat [w] true true true →
        Refuses s (.bankedWrite src a [w]) src rcBusy) ∧
      (Passes s src a.toNat [w] true true (s.bankedFree src.key [{ engine := p.engine, word := p.base, value := w, glide := p.glide }]) →
        (s.claims src.key [p.engine] = .lands → Answers s (.bankedWrite src a [w]) src rcOk (fun u =>
          memWord u.mem (s.bankAddr p.engine false p.base) = w ∧
          (∀ b, b < s.bankAddr p.engine false p.base ∨ s.bankAddr p.engine false p.base + 4 ≤ b → memByte u.mem b = memByte s.mem b) ∧
          (∃ z ∈ u.sets, z.phase = .opened ∧ z.key = src.key ∧ p.engine ∈ z.engines) ∧ u.xyQueue = s.xyQueue ∧ u.held = s.held ∧ u.params = s.params)) ∧
        (s.claims src.key [p.engine] = .held → Answers s (.bankedWrite src a [w]) src rcOk (fun u => u.mem = s.mem ∧ u.eng = s.eng ∧
          u.held = s.held ++ [{ key := src.key, writes := [{ engine := p.engine, word := p.base, value := w, glide := p.glide }] }])))) ∧
    (p.bind = 1 → p.ty ≠ 16 → Passes s src a.toNat words true true true → ∃ l : List XyWrite,
      Performs s (.xyParameterWrite src a words) src { s with xyQueue := s.xyQueue ++ l } ∧
      ∀ i : Nat, l[i]? = if i < p.words then (words[i]?).map (fun v => { y := decide (0x200000 ≤ (p.base - 0x200000000) % 0x800000), addr := p.base + 4 * i, value := v }) else none) ∧
    (p.bind = 2 → let d := s.desc (eng8 p.engine) p.base
      Passes s src a.toNat [w] true true true →
      ((d.valid = false ∨ w.toNat < 2 ∨ d.maxLen < w.toNat) → Refuses s (.delayLengthWrite src a [w]) src rcRange) ∧
      (s.lenOk p.engine p.base w.toNat = true → Performs s (.delayLengthWrite src a [w]) src
        (({ s with params := s.params.map (fun z => if z.addr = p.addr then { z with lenVal := w.toNat } else z) } : State).setDesc (eng8 p.engine) p.base { d with pendLen := some w.toNat })))

/-- A commit that the checks accept takes the next generation, which is 1 after FFFFFFFFh, seals the open set of its session with it (an empty one if it has none), enters the newest history entry in state 1, and changes no engine, no other set, and no memory outside the journal ring. COMMIT_ARRIVAL moves the sealed sets of its generation that had not arrived behind every other, marked as arrived, and changes nothing else. UpdateSetAbort removes the open set of its session and its held writes, and starts levelling on exactly the engines whose shadow bank the set has written; without an open set it changes nothing. (R70, R334, R336, R337, R338, R339, R360) -/
def Obligations.CommitsAndAborts : Prop :=
  ∀ (s : State) (src : Src) (words : List (BitVec 32)) (gen : BitVec 32),
    (s.serving = true → s.commitCode src.key words = rcOk →
      let g := if s.obj O.generationCounter = 0xFFFFFFFF then 1 else s.obj O.generationCounter + 1
      Answers s (.commitObjectWrite src words) src rcOk (fun u => u.obj O.generationCounter = g ∧ u.mem = s.mem ∧ u.eng = s.eng ∧
        u.history = ({ gen := g, state := 1, tick := 0 } :: s.history).take 16 ∧
        (∀ z ∈ u.sets, ¬(z.phase = .opened ∧ z.key = src.key)) ∧ (∃ z ∈ u.sets, z.phase = .sealed ∧ z.key = src.key ∧ z.gen = g) ∧
        (∀ z ∈ s.sets, ¬(z.phase = .opened ∧ z.key = src.key) → z ∈ u.sets))) ∧
    (∃ before after : List UpSet, exec (.commitArrival gen) s = .next { s with sets := before ++ after } ∧
      (∀ z, z ∈ before ↔ z ∈ s.sets ∧ ¬(z.phase = .sealed ∧ z.gen = gen.toNat ∧ z.arrived = false)) ∧
      (∀ z, z ∈ after ↔ ∃ y ∈ s.sets, y.phase = .sealed ∧ y.gen = gen.toNat ∧ y.arrived = false ∧ z = { y with arrived := true })) ∧
    (Passes s src O.updateSetAbort words true true true →
      (s.openSet src.key = none → Performs s (.updateSetAbort src words) src s) ∧
      (∀ z, s.openSet src.key = some z → Answers s (.updateSetAbort src words) src rcOk (fun u =>
        u.sets = s.sets.filter (fun y => !(y.phase = .opened && y.key = src.key)) ∧ u.held = s.held.filter (fun h => h.key != src.key) ∧ u.mem = s.mem ∧
        ∀ e : Fin 8, u.engine e = { s.engine e with levelling := (s.engine e).levelling || z.words.any (fun w => w.engine % 8 = e.val) })))

/-- On an engine that is not levelling LEVELLING_END changes nothing. With nothing uncorrectable, correctable or held, it makes every byte of every dirty row of the shadow bank equal to the active bank, leaves every other byte of memory, and clears the dirty map and the levelling state. PAGE_CODER_DONE with no stale page changes nothing; otherwise it stores the parity of the oldest stale page, which leaves the stale list, and changes no byte of memory, unless a word of that page is uncorrectable. (R326, R327, R328, R344, R700, R853) -/
def Obligations.LevellingAndPageCoding : Prop :=
  ∀ (s : State) (e : Fin 8),
    ((s.engine e).levelling = false → exec (.levellingEnd e) s = .next s) ∧
    ((s.engine e).levelling = true → s.bad = [] → s.soft = [] → s.held = [] → Memory.wf s.mem → (∀ r ∈ (s.engine e).dirty, r < 2048) →
      ∃ t, exec (.levellingEnd e) s = .next t ∧ (t.engine e).dirty = [] ∧ (t.engine e).levelling = false ∧
        (∀ r ∈ (s.engine e).dirty, ∀ j, j < 256 → memByte t.mem (s.bankAddr e false (64 * r) + j) = memByte s.mem (s.bankAddr e true (64 * r) + j)) ∧
        (∀ b, (∀ r ∈ (s.engine e).dirty, b < s.bankAddr e false (64 * r) ∨ s.bankAddr e false (64 * r) + 256 ≤ b) → memByte t.mem b = memByte s.mem b)) ∧
    ((s.engine e).stale = [] → exec (.pageCoderDone (.bank e)) s = .next s) ∧
    (∀ i rest, (s.engine e).stale = i :: rest → aWf (List.replicate 64 0) s.integ.parity = true → (s.badIn (s.bankAddr e false (1024 * i)) 4096) = none →
      ∃ t, exec (.pageCoderDone (.bank e)) s = .next t ∧ t.mem = s.mem ∧ t.objs = s.objs ∧ (t.engine e) = { s.engine e with stale := rest } ∧
        t.parityOf (s.bankAddr e false (1024 * i)) = pageParity (fun j => memByte s.mem (s.bankAddr e false (1024 * i) + j)))

/-- With an empty queue nothing changes. The front page leaves the queue. In the active bank it only makes its engine await a repair swap. A static page whose code is not stale and recovers takes the recovered bytes, PagesRecovered counts, and its mark is clear. A static page that does not recover, and that is neither a bank page nor dictionary storage, is marked and its bytes stay; where it holds the running Hull image, the Hull core restarts instead. Any other page is written with zeros, PagesZeroed counts, and its mark is clear. No byte outside the page changes, but for a restart. (R695, R701, R702, R706, R708, R709, R728) -/
def Obligations.QueuedPagesAreHandledInOrder : Prop :=
  ∀ (s : State), (s.integ.queue = [] → exec .pageRecovery s = .next s) ∧
    ∀ page rest, s.integ.queue = page :: rest →
      (∀ e, s.isActiveBank page = some e → s.hullImagePage page = false → exec .pageRecovery s =
        .next (({ s with integ := { s.integ with queue := rest } } : State).setEngine e { s.engine e with repairSwap := true })) ∧
      (s.isActiveBank page = none → s.isStatic page = true → s.isStale page = false → ∀ l n,
        recoverPage (fun i => memByte s.mem (page + i)) (s.parityOf page) (s.erasedUnits page) = some (l, n) →
        ∃ t, exec .pageRecovery s = .next t ∧ t.mem = l.foldl (fun m p => memPut m (page + p.1) p.2) s.mem ∧
          t.obj O.pagesRecovered = satAdd 32 (s.obj O.pagesRecovered) 1 ∧ page ∉ t.integ.poison ∧ page ∉ t.integ.queue) ∧
      (s.isActiveBank page = none → s.isStatic page = true →
        (s.isStale page = true ∨ recoverPage (fun i => memByte s.mem (page + i)) (s.parityOf page) (s.erasedUnits page) = none) →
        bankOf page = none → isDictStore page = false →
        (s.hullImagePage page = false → ∃ t, exec .pageRecovery s = .next t ∧ t.mem = s.mem ∧ t.eng = s.eng ∧ t.bad = s.bad ∧ page ∈ t.integ.poison ∧ t.integ.queue = rest) ∧
        (s.hullImagePage page = true → ∃ t, exec .pageRecovery s = .next t ∧ t.obj O.hullReady = 0 ∧ t.fwQueue = [] ∧ t.fuses = s.fuses ∧
          (t.obj O.bootSlot < 2 ∨ t.obj O.bootSlot = 0xFF))) ∧
      (s.isActiveBank page = none → s.isStatic page = false → ∃ t, exec .pageRecovery s = .next t ∧
        (∀ j, j < 4096 → memByte t.mem (page + j) = 0#8) ∧ (∀ a, a < page ∨ page + 4096 ≤ a → memByte t.mem a = memByte s.mem a) ∧
        t.obj O.pagesZeroed = satAdd 32 (s.obj O.pagesZeroed) 1 ∧ page ∉ t.integ.poison ∧ page ∉ t.integ.queue ∧ t.eng = s.eng)

/-- A scrubbed line outside the active banks has no correctable word left, its uncorrectable words stay and queue their page if the queue has room, and no byte changes; a line of an active bank is left alone, and a range pass that stands at it goes on to the next line. An instruction-fetch trap ends the tick of the engine that issues, sets IFETCH_TRAP, makes it wait for its program page, and changes no other engine and no byte; an idle engine is left alone. A storm window ends with the count at zero, and clears the storm cause if it was whole and held no uncorrectable word, unless TickCount holds. A range pass ends after its last line. A page test changes no byte; a failing cell counts and makes a candidate while there is room for one; the test of the last page sets TestLap, to a value left open. That a lap of the test ends with the last page is the model's choice (log entry 31). (R133, R715, R716, R718, R719, R721, R722) -/
def Obligations.ScrubbingTrapsAndTests : Prop :=
  ∀ (s : State) (a : BitVec 40) (e : Fin 8) (w : Fin 4) (page : BitVec 28) (b : BitVec 12) (bit : BitVec 8),
    let line := a.toNat / 64 * 64
    let skip := (s.isActiveBank (page.toNat * 4096)).isSome || s.isStale (page.toNat * 4096) || s.integ.queue.contains (page.toNat * 4096) ||
      s.integ.poison.contains (page.toNat * 4096)
    (∀ f, s.isActiveBank (line / 4096 * 4096) = some f →
      (∀ stop, s.integ.rangePass = some (line, stop) → exec (.scrubLine a) s = .next { s with integ := { s.integ with rangePass := some (line + 64, stop) } }) ∧
      ((∀ stop, s.integ.rangePass ≠ some (line, stop)) → exec (.scrubLine a) s = .next s)) ∧
    (s.isActiveBank (line / 4096 * 4096) = none → ∃ t, exec (.scrubLine a) s = .next t ∧ t.mem = s.mem ∧ t.bad = s.bad ∧
      t.soft = s.soft.filter (fun c => !(decide (line ≤ c) && decide (c < line + 64))) ∧
      ((∃ c ∈ s.bad, line ≤ c ∧ c < line + 64) → s.integ.queue.length < 32 → line / 4096 * 4096 ∈ t.integ.queue) ∧
      ((∀ c ∈ s.bad, ¬(line ≤ c ∧ c < line + 64)) → t.integ.queue = s.integ.queue ∧ t.eng = s.eng)) ∧
    ((s.engine e).active = false ∨ (s.engine e).rangeMode (s.engine e).pc = 2 → exec (.ifetchTrap e w) s = .next s) ∧
    ((s.engine e).active = true → (s.engine e).rangeMode (s.engine e).pc ≠ 2 → ∃ t, exec (.ifetchTrap e w) s = .next t ∧ t.mem = s.mem ∧
      (t.engine e).active = false ∧ (t.engine e).fault = fwSet (s.engine e).fault fwIfetchTrap ∧ (t.engine e).pc = (s.engine e).pc ∧
      (t.engine e).trapPage = some ((progBase e + 16 * ((s.engine e).pc % 32768)) / 4096 * 4096) ∧ ∀ f, f ≠ e → t.engine f = s.engine f) ∧
    ((∃ r, s.rateSeq = some (r, true)) → exec .stormWindowEnd s = .next s) ∧
    ((∀ r, s.rateSeq ≠ some (r, true)) →
      exec .stormWindowEnd s = .next (if s.integ.storm = 0 ∧ s.integ.cut = false ∧ (s.obj O.safeMuteCause).testBit 3 = true then
        (({ s with integ := { s.integ with storm := 0, cut := false } } : State).setObj O.safeMuteCause (s.obj O.safeMuteCause - 8)).event 0x0507 0
      else { s with integ := { s.integ with storm := 0, cut := false } })) ∧
    (∀ next stop, s.integ.rangePass = some (next, stop) →
      exec .rangePassComplete s = .next (if stop ≤ next then
        (({ s with integ := { s.integ with rangePass := none } } : State).setObj O.rangeState 2).event 0x0509 (s.obj O.rangeUncorrectable % 2 ^ 32)
      else s)) ∧
    (s.integ.rangePass = none → exec .rangePassComplete s = .next s) ∧
    (page.toNat * 4096 ≠ lastTestPage → exec (.backgroundTestPage page none) s = .next s) ∧
    (s.obj O.testEnable ≠ 0 → skip = false → page.toNat * 4096 = lastTestPage →
      exec (.backgroundTestPage page none) s = .next (s.free.2.setObj O.testLap s.free.1.toNat)) ∧
    (s.obj O.testEnable = 0 ∨ skip = true → exec (.backgroundTestPage page (some (b, bit))) s = .next s) ∧
    (s.obj O.testEnable ≠ 0 → skip = false → ∃ t, exec (.backgroundTestPage page (some (b, bit))) s = .next t ∧ t.mem = s.mem ∧ t.eng = s.eng ∧
      t.obj O.testFailures = satAdd 32 (s.obj O.testFailures) 1 ∧
      (s.integ.candidates.length < 1024 → (page.toNat * 4096 + b.toNat) / 64 * 64 ∈ t.integ.candidates))

/-- RangeStart that the checks accept starts a pass over the range given, with state 1 and every count zero; during a pass it is refused with BUSY, for a range that leaves the map or meets an active bank with "out of range". FullTest in Service mode fills every on-chip array with zeros, after which no page of a shadow bank has stale code, and leaves every other byte; in another mode it is refused with "not in this mode". A power bank that is not held on takes its state at the next boundary; one held on is refused with "not in this mode". A refused write changes nothing else. (R434, R435, R718, R723, R724, R726) -/
def Obligations.IntegrityRequests : Prop :=
  ∀ (s : State) (src : Src) (words : List (BitVec 32)) (b : PowerBank),
    let base := s.obj O.rangeBase
    let len := s.obj O.rangeLength
    let ok := (len = 0 ∨ len ≤ s.mapRoom base) ∧ s.meetsActive base len = false
    (Passes s src O.rangeStart words true true true →
      (ok → s.integ.rangePass = none → Answers s (.rangeStart src words) src rcOk (fun u => u.integ.rangePass = some (base, base + len) ∧
        u.obj O.rangeState = 1 ∧ (∀ o ∈ [O.rangeWordsRead, O.rangeCorrected, O.rangeUncorrectable, O.rangePagesRecovered, O.rangePagesReloadedOrZeroed], u.obj o = 0) ∧
        u.mem = s.mem ∧ u.eng = s.eng ∧ u.bad = s.bad)) ∧
      (¬ok → Refuses s (.rangeStart src words) src rcRange) ∧
      (ok → s.integ.rangePass ≠ none → Refuses s (.rangeStart src words) src rcBusy)) ∧
    (Passes s src O.fullTest words true true true →
      (s.mode = 7 → Answers s (.fullTest src words) src rcOk (fun u => (∀ e, u.engine e = { s.engine e with stale := [] }) ∧
        (∀ o, o ≠ O.staticPagesStale → u.obj o = s.obj o) ∧ ∀ a, memByte u.mem a =
        if (0x10000000 ≤ a ∧ a < 0x10400000) ∨ (0x100000000 ≤ a ∧ a < 0x106000000) ∨ (0x200000000 ≤ a ∧ a < 0x204000000) ∨ (0x300000000 ≤ a ∧ a < 0x300200000)
        then 0#8 else memByte s.mem a)) ∧
      (s.mode ≠ 7 → Refuses s (.fullTest src words) src rcMode)) ∧
    (Passes s src (powerObj b) words true true true →
      (s.powerHeld b = false → Performs s (.powerBankWrite src b words) src { s with pendObjs := s.pendObjs ++ [(powerObj b, wordsNat words)] }) ∧
      (s.powerHeld b = true → Refuses s (.powerBankWrite src b words) src rcMode))

/-- An MCLK object takes its value. SapFormat, PartnerRate and ConverterMode take theirs with the port Off, and are refused with "not in this mode" otherwise; a reserved bit, mode or width, or a master that detects its slots, with "out of range". Enabling an Off port starts it: its directions acquire, or a bypassed master is On and Bypassed at once; a bypass that R506 does not permit is refused with "not in this mode", a frame that the media clock does not divide into with "out of range". Enabling a port in shutdown is checked alike and queues a restart. Disabling starts the shutdown of a running port and cancels a queued restart. Other ports, engines and memory are unchanged. (R499, R502, R506, R515, R519, R521, R522, R523, R524, R530) -/
def Obligations.SerialPortRequests : Prop :=
  ∀ (s : State) (src : Src) (p : Fin 4) (which : Fin 3) (words : List (BitVec 32)),
    (Passes s src (mclkSetting p which) words true true true → Performs s (.mclkConfigWrite src p which words) src (s.setObj (mclkSetting p which) (wordsNat words))) ∧
    (Passes s src (sapSetting p which) words true true true →
      (s.portState p ≠ 0 → Refuses s (.sapFormatWrite src p which words) src rcMode) ∧
      (s.portState p = 0 → let f := wordsNat words
        (∀ y : BitVec 32, which = 0 → words = [y] → ∀ z : BitVec 32, z.toNat / 2 ^ 27 ≠ 0 ∨ z.toNat % 2 ^ 12 ≠ 0 →
          Refuses s (.sapFormatWrite src p 0 [z]) src rcRange) ∧
        let reserved := f / 2 ^ 22 % 4 = 3 ∨ f / 2 ^ 18 % 4 = 3 ∨ (f / 2 ^ 20 % 4 = 0 ∧ f.testBit 17 = true)
        (which = 0 ∧ reserved → Refuses s (.sapFormatWrite src p which words) src rcRange) ∧
        (which ≠ 0 ∨ ¬reserved → Performs s (.sapFormatWrite src p which words) src (s.setObj (sapSetting p which) f)))) ∧
    (Passes s src (O.portEnable p.val) [1] true true true →
      (s.portState p = 0 ∨ s.portState p = 3 → s.bypass p = true → s.bypassOk p = false → Refuses s (.portEnable src p) src rcMode) ∧
      (s.portState p = 0 ∨ s.portState p = 3 → (s.bypass p = false ∨ s.bypassOk p = true) → s.sapStartRange p = false → Refuses s (.portEnable src p) src rcRange) ∧
      ((s.bypass p = false ∨ s.bypassOk p = true) → s.sapStartRange p = true →
        (s.portState p = 3 → Performs s (.portEnable src p) src ((s.setObj (O.portEnable p.val) 1).setObj (O.portState p.val) 4)) ∧
        (s.portState p = 0 → Answers s (.portEnable src p) src rcOk (fun u => u.obj (O.portEnable p.val) = 1 ∧ u.mem = s.mem ∧ u.eng = s.eng ∧
          (∀ q, q ≠ p → u.sapOf q = s.sapOf q ∧ u.portState q = s.portState q ∧ ∀ b, u.conv q b = s.conv q b) ∧
          (if sapMaster (s.sapFmt p) = true ∧ s.bypass p = true then u.portState p = 2 ∧ u.conv p true = 3 ∧ u.conv p false = 3
           else u.portState p = 1 ∧ u.conv p true = 1 ∧ u.conv p false = 1 ∧ u.obj (O.detectedSlots p.val) = 0)))) ∧
      (s.portState p ≠ 0 → s.portState p ≠ 3 → Performs s (.portEnable src p) src (s.setObj (O.portEnable p.val) 1))) ∧
    (Passes s src (O.portEnable p.val) [0] true true true →
      (s.portState p = 0 → Performs s (.portShutdown src p) src (s.setObj (O.portEnable p.val) 0)) ∧
      (s.portState p = 3 ∨ s.portState p = 4 → Performs s (.portShutdown src p) src ((s.setObj (O.portEnable p.val) 0).setObj (O.portState p.val) 3)) ∧
      (s.portState p ≠ 0 → s.portState p ≠ 3 → s.portState p ≠ 4 → Answers s (.portShutdown src p) src rcOk (fun u => u.obj (O.portEnable p.val) = 0 ∧
        u.portState p = 3 ∧ u.mem = s.mem ∧ u.eng = s.eng ∧ (u.sapOf p).out = (s.sapOf p).out.fade ∧ (u.sapOf p).shut = 0 ∧ ∀ q, q ≠ p → u.sapOf q = s.sapOf q ∧ u.portState q = s.portState q)))

/-- An Off port ignores frames. A frame of the right length is captured: each channel takes the bits of its slot on its lane, most significant first and from the top of the word; a frame of another length counts as a frame error and leaves the captured words. An On port with both directions Bypassed sends the published words rounded to the slot width, or those of the tick before where its frame starts too near the tick edge. A port in shutdown takes frames without changing its state. A clock loss makes a running port Lost with both converters acquiring, and counts; a port that shuts down counts it and goes on with its shutdown; that a loss of a port Lost already and of one in shutdown count is the model's choice (log entry 140). A finished shutdown, whose frame of zeros has left or whose partner sends no frames, makes the port Off, or starts it again if a restart is queued. An acquiring converter locks with the group delay and ratio of the partner's rate; a locked one that drifts acquires again and counts. A port with the other state ignores each of these. Engines are unchanged. (R500, R501, R504, R513, R514, R515, R517, R521, R522, R523, R525, R526) -/
def Obligations.SerialPortFramesAndConverters : Prop :=
  ∀ (s : State) (p : Fin 4) (inb : Bool) (bclk q : BitVec 16) (rate : BitVec 32) (lanes : List (List Bool)),
    let w := sapWidth (s.sapFmt p)
    let f := s.sapFmt p
    let first := if sapMode f = 0 then 1 else if sapMode f = 1 then 0 else (f.testBit 13).toNat
    let place := fun (k : Nat) => if sapMode f ≠ 2 ∧ f.testBit 15 = true then 1 - k else k
    let sends := fun (t : State) (x : Nat → Word) => (t.sapOf p).sent = (List.range (s.sapChannels p)).map (fun i => slotOut w (x i))
    let off := 64 ≤ (s.sapOf p).shut ∧ ((s.sapOf p).zeroSent = true ∨ (sapMaster f = false ∧ (s.sapOf p).good = 0))
    let st := s.portState p
    let frameOk := s.sapS p ≠ 0 ∧ bclk.toNat = s.sapS p * w ∧ (sapMaster (s.sapFmt p) = true ∨ (s.conv p true ≠ 1 ∧ s.conv p false ≠ 1) ∨ (s.ratioOk rate.toNat = true ∧ s.bclkOk p rate.toNat = true))
    (st = 0 → exec (.sapFrame p bclk q rate lanes) s = .next s) ∧
    (st = 3 ∨ st = 4 → ∃ t, exec (.sapFrame p bclk q rate lanes) s = .next t ∧ t.eng = s.eng ∧ t.mem = s.mem ∧ t.portState p = st ∧
      (bclk.toNat ≠ s.sapS p * w → t.obj (O.frameErrors p.val) = satAdd 32 (s.obj (O.frameErrors p.val)) 1 ∧ (t.sapOf p).cap = (s.sapOf p).cap)) ∧
    (st ≠ 0 → st ≠ 3 → st ≠ 4 → frameOk → ∃ t, exec (.sapFrame p bclk q rate lanes) s = .next t ∧ t.eng = s.eng ∧ t.mem = s.mem ∧
      (t.sapOf p).cap.length = s.sapChannels p ∧
      (∀ c x, (t.sapOf p).cap[c]? = some x → ∀ b, b < 32 → x.getLsbD (31 - b) =
        (decide (b < w) && (lanes.getD (c / s.sapS p) []).getD (first + w * place (c % s.sapS p) + b) false)) ∧
      (∀ r, r ≠ p → t.sapOf r = s.sapOf r) ∧
      (st = 2 → s.conv p true = 3 → s.conv p false = 3 → (s.sapOf p).out.phase = .pass → s.bad = [] →
        (s.sapLateOut p = false → sends t (fun i => s.published (256 * p.val + i))) ∧
        (s.sapLateOut p = true → sends t (fun i => (s.sapOf p).old.getD i 0)))) ∧
    (st ≠ 0 → st ≠ 3 → st ≠ 4 → s.sapS p ≠ 0 → bclk.toNat ≠ s.sapS p * w → ∃ t, exec (.sapFrame p bclk q rate lanes) s = .next t ∧ t.eng = s.eng ∧
      t.obj (O.frameErrors p.val) = satAdd 32 (s.obj (O.frameErrors p.val)) 1 ∧ (t.sapOf p).cap = (s.sapOf p).cap) ∧
    (st = 0 → exec (.sapClockLoss p) s = .next s) ∧
    (st = 3 ∨ st = 4 → ∃ t, exec (.sapClockLoss p) s = .next t ∧ t.portState p = st ∧ t.conv p true = s.conv p true ∧ t.conv p false = s.conv p false ∧
      (t.sapOf p).out = (s.sapOf p).out ∧ (t.sapOf p).shut = (s.sapOf p).shut ∧ t.mem = s.mem ∧ t.eng = s.eng ∧
      t.obj (O.clockLosses p.val) = satAdd 32 (s.obj (O.clockLosses p.val)) 1 ∧ ∀ r, r ≠ p → t.sapOf r = s.sapOf r ∧ t.portState r = s.portState r) ∧
    (st ≠ 0 → st ≠ 3 → st ≠ 4 → ∃ t, exec (.sapClockLoss p) s = .next t ∧ t.portState p = 5 ∧ t.conv p true = 1 ∧ t.conv p false = 1 ∧ t.mem = s.mem ∧ t.eng = s.eng ∧
      t.obj (O.clockLosses p.val) = satAdd 32 (s.obj (O.clockLosses p.val)) 1 ∧ ∀ r, r ≠ p → t.sapOf r = s.sapOf r ∧ t.portState r = s.portState r) ∧
    ((st = 3 ∨ st = 4) → off → ∃ t, exec (.portShutdownComplete p) s = .next t ∧ t.mem = s.mem ∧ t.eng = s.eng ∧ (t.sapOf p).cap = [] ∧
      (st = 3 → t.portState p = 0 ∧ t.conv p true = 0 ∧ t.conv p false = 0) ∧ (st = 4 → t.portState p = 1 ∨ t.portState p = 2)) ∧
    ((st ≠ 3 ∧ st ≠ 4) ∨ ¬off → exec (.portShutdownComplete p) s = .next s) ∧
    (s.conv p inb = 1 → st = 1 ∨ st = 2 → (∀ n k, ((s.sapOf p).dir inb).phase = .fade n k → n ≤ k) → ¬(s.bypass p = true ∧ s.bypassOk p = true) →
      ∃ t, exec (.converterLocked p inb) s = .next t ∧ t.conv p inb = 2 ∧ t.conv p (!inb) = s.conv p (!inb) ∧ t.mem = s.mem ∧ t.eng = s.eng ∧
        t.obj (if inb then O.inConvGroupDelay p.val else O.outConvGroupDelay p.val) = s.groupDelay (s.partnerMilli p) ∧
        t.obj (if inb then O.inConvRatio p.val else O.outConvRatio p.val) = s.convRatio (s.partnerMilli p) ∧
        t.portState p = (if st = 1 ∧ (s.conv p (!inb) = 2 ∨ s.conv p (!inb) = 3) then 2 else st)) ∧
    (s.conv p inb ≠ 1 ∨ (st ≠ 1 ∧ st ≠ 2) ∨ (s.bypass p = true ∧ s.bypassOk p = true) → exec (.converterLocked p inb) s = .next s) ∧
    (s.conv p inb = 2 → ∃ t, exec (.converterUnlock p inb) s = .next t ∧ t.conv p inb = 1 ∧ t.conv p (!inb) = s.conv p (!inb) ∧ t.portState p = st ∧ t.mem = s.mem ∧ t.eng = s.eng ∧
      t.obj (if inb then O.inConvUnlocks p.val else O.outConvUnlocks p.val) = satAdd 32 (s.obj (if inb then O.inConvUnlocks p.val else O.outConvUnlocks p.val)) 1) ∧
    (s.conv p inb ≠ 2 → exec (.converterUnlock p inb) s = .next s)

/-- Enable takes a Disabled link to Training, where the lane count and equalisation in force are taken, and a closing one to Restart; disable takes a link that is not Disabled to Closing, which goes by the state before it for what it carries. The end of a shutdown makes it Disabled, sixteen SLEEP blocks sent, or Training if a restart is queued, and a link that lost its lock in a shutdown Disabled. With the SerDes clock in lock and the power state Run or Coast, a signal takes an enabled link that is Down or in Deep idle to Training. Lane lock is recorded, with the lane map while Training. Loss of a lane in use from Framing on, but in Deep idle, takes the link Down and empties it but for its run tables, its line, the settings of its training and the frames it has received. Complete training makes it Framing with the lanes trained and sends HELLO. A timeout takes it Down and counts. A clean error window that no step of TickCount cut takes Degraded to Up, or in Coast to Fast idle; none ends while TickCount holds. SLEEP takes a link with frames to Deep idle. In other states nothing happens, and engines never change. That SLEEP acts from Framing to Fast idle alone, what a loss of lock in a shutdown leads to, and that a window ends at its command whatever TickCount is, are the model's choices (log entries 114 and 143). (R532, R538, R540, R541, R542, R543, R546, R547, R569, R580) -/
def Obligations.LinkStatesFollowTheirEvents : Prop :=
  ∀ (s : State) (src : Src) (k : Fin 4) (lane : Fin 2) (swapped inverted two : Bool),
    let st := s.linkState k
    let l := s.linkOf k
    let quiet := fun (t : State) => t.eng = s.eng ∧ t.mem = s.mem ∧ ∀ j, j ≠ k → t.linkState j = s.linkState j
    let others := fun (t : State) => quiet t ∧ ∀ j, j ≠ k → t.linkOf j = s.linkOf j
    let down := fun (t : State) => quiet t ∧ t.linkState k = 1 ∧ t.linkOf k = { l.emptied with rx := s.keptRx k } ∧ t.obj (O.lanesTrained k.val) = 0
    let trains := fun (t : State) => t.linkState k = 2 ∧ (t.linkOf k).two = decide (s.obj (O.laneCount k.val) = 2) ∧ (t.linkOf k).txEq = s.obj (O.txEqualisation k.val)
    let lanes := if l.two = true ∧ two = true then 2 else 1
    let map := s.obj (O.laneMap k.val)
    (Passes s src (O.linkEnable k.val) [1] true true true → Answers s (.linkEnable src k) src rcOk (fun u => others u ∧ u.obj (O.linkEnable k.val) = 1 ∧
      (st = 0 → trains u) ∧ (st = 9 → u.linkState k = 10 ∧ u.linkOf k = l) ∧ (st ≠ 0 → st ≠ 9 → u = s.setObj (O.linkEnable k.val) 1))) ∧
    (Passes s src (O.linkEnable k.val) [0] true true true → Answers s (.linkDisable src k) src rcOk (fun u => others u ∧ u.obj (O.linkEnable k.val) = 0 ∧
      u.linkOf k = (if st = 0 ∨ st = 9 ∨ st = 10 then l else { l with was := st }) ∧ u.linkState k = if st = 0 then 0 else 9)) ∧
    (st = 9 ∨ st = 10 → ∃ t, exec (.linkShutdownComplete k) s = .next t ∧ others t ∧ t.obj (O.lanesTrained k.val) = 0 ∧
      (st = 9 → t.linkState k = 0 ∧ t.linkOf k = { (l.sleep (s.obj (O.lanesTrained k.val))).emptied with rx := s.keptRx k }) ∧ (st = 10 → trains t)) ∧
    (st = 1 → s.obj (O.linkEnable k.val) = 0 → ∃ t, exec (.linkShutdownComplete k) s = .next t ∧ others t ∧ t.linkState k = 0 ∧
      t.linkOf k = l.sleep (s.obj (O.lanesTrained k.val))) ∧
    (st ≠ 9 → st ≠ 10 → ¬(st = 1 ∧ s.obj (O.linkEnable k.val) = 0) → exec (.linkShutdownComplete k) s = .next s) ∧
    (let ready := (st = 1 ∨ st = 8) ∧ s.obj (O.linkEnable k.val) = 1 ∧ s.obj (O.pllState 1) = 2 ∧ s.obj O.powerState ≤ 1
     (ready → ∃ t, exec (.linkSignalDetect k) s = .next t ∧ others t ∧ trains t) ∧ (¬ready → exec (.linkSignalDetect k) s = .next s)) ∧
    (2 ≤ st → st ≠ 8 → ∃ t, exec (.laneBlockLock k lane swapped inverted) s = .next t ∧ others t ∧ t.linkState k = st ∧
      (t.linkOf k).lock0 = (l.lock0 || decide (lane = 0)) ∧ (t.linkOf k).lock1 = (l.lock1 || decide (lane = 1)) ∧
      t.obj (O.laneMap k.val) = if st = 2 then (if swapped then 1 else 0) + (if (if lane = 0 then inverted else map.testBit 1) then 2 else 0) +
        (if (if lane = 1 then inverted else map.testBit 2) then 4 else 0) else map) ∧
    (st < 2 ∨ st = 8 → exec (.laneBlockLock k lane swapped inverted) s = .next s) ∧
    (3 ≤ st → st ≠ 8 → (lane = 0 ∨ s.obj (O.lanesTrained k.val) = 2) → ∃ t, exec (.laneLockLoss k lane) s = .next t ∧ down t) ∧
    ((st < 3 ∨ st = 8 ∨ (lane = 1 ∧ s.obj (O.lanesTrained k.val) ≠ 2)) → exec (.laneLockLoss k lane) s = .next (s.modLink k (fun l =>
      if lane = 0 then { l with lock0 := false } else { l with lock1 := false }))) ∧
    (st = 2 → l.lock0 = true → (lanes = 1 ∨ l.lock1 = true) → ∃ t m, exec (.trainingComplete k two) s = .next t ∧ others t ∧ t.linkState k = 3 ∧
      t.obj (O.lanesTrained k.val) = lanes ∧ (t.linkOf k).ctl = l.ctl.send m ∧ m.ty = 1) ∧
    (st ≠ 2 ∨ l.lock0 = false ∨ (lanes = 2 ∧ l.lock1 = false) → exec (.trainingComplete k two) s = .next s) ∧
    (st = 2 → ∃ t, exec (.trainingTimeout k) s = .next t ∧ down t ∧ t.obj (O.linkRetrains k.val) = satAdd 32 (s.obj (O.linkRetrains k.val)) 1) ∧
    (st ≠ 2 → exec (.trainingTimeout k) s = .next s) ∧
    (s.tickHeld = true → exec (.errorWindowEnd k) s = .next s) ∧
    (s.tickHeld = false → ∃ t, exec (.errorWindowEnd k) s = .next t ∧ others t ∧ t.obj (O.windowErrors k.val) = 0 ∧ t.linkOf k = { l with cut := false } ∧
      t.linkState k = if s.obj (O.windowErrors k.val) = 0 ∧ l.cut = false ∧ st = 5 then (if s.obj O.powerState = 1 then 7 else 4) else st) ∧
    (3 ≤ st → st ≤ 7 → ∃ t, exec (.sleepReceived k) s = .next t ∧ others t ∧ t.linkState k = 8 ∧ (t.linkOf k).lock0 = false ∧ (t.linkOf k).lock1 = false) ∧
    (st < 3 ∨ 7 < st → exec (.sleepReceived k) s = .next s)

/-- A link without frames ignores each, and one that shuts down sends none. A transmitted frame carries the tick, the own address and a header CRC, starts on each lane with its TICK_MARK, scrambled, and leaves other links, engines and memory. A received frame without its marks, or with a mark that is an ERROR block, is discarded and counts, and is not kept; a block that is not of the kind its place has is an ERROR block, each of which counts; one with the expected mark is kept with its bad and late blocks, its header is read if its CRC holds and counts an error if not. A cell laid out as R560 says, of one segment, with the next sequence number and a link-local TYPE, is delivered; out of sequence nothing happens; with a wrong CRC it counts. A sent cell unacknowledged for four frames is sent again with every later one, and after 16 times the link goes Down. (R535, R548, R550, R553, R555, R557, R560, R561, R562, R563, R564) -/
def Obligations.LinkFramesAndCells : Prop :=
  ∀ (s : State) (k : Fin 4) (marks bulk : Bool) (mark : BitVec 32) (h0 h1 h2 h3 : BitVec 64) (got : List (BitVec 14 × LineBlock))
    (bad late : List (BitVec 14)) (arrival : BitVec 32) (c : TxCell) (blocks : List (BitVec 64)),
    let errors := (bad.map (·.toNat)).foldl setAdd ((got.filter (fun p => !blockFits (s.framePlaces k) p.1.toNat p.2)).map (·.1.toNat))
    let intact := ∀ j ∈ errors, j < 0x3FFE
    let x0 := headWord got 0 h0
    let x1 := headWord got 1 h1
    let x2 := headWord got 2 h2
    let x3 := headWord got 3 h3
    let lanes := s.obj (O.lanesTrained k.val)
    (s.linkState k < 3 ∨ 7 < s.linkState k → exec (.tickFrameTransmit k) s = .next s) ∧
    (s.framing k = false → exec (.tickFrameReceived k marks mark h0 h1 h2 h3 got bad late arrival) s = .next s ∧
      exec (.cellReceived k bulk blocks) s = .next s ∧ exec (.cellRetransmit k bulk) s = .next s) ∧
    (3 ≤ s.linkState k → s.linkState k ≤ 7 →
      (∃ t f g0 g1 g2, exec (.tickFrameTransmit k) s = .next t ∧ (t.linkOf k).tx = some f ∧ f.tick = s.tick ∧
        f.head = [g0, g1, g2, BitVec.ofNat 64 (blocksCrc [g0, g1, g2])] ∧ g0 = BitVec.ofNat 64 (2 ^ 60 + s.ownAddr * 2 ^ 48 + s.tick % 2 ^ 48) ∧
        (s.carries k = false → f.runs = []) ∧ t.eng = s.eng ∧ t.mem = s.mem ∧ (∀ j, j ≠ k → t.linkOf j = s.linkOf j) ∧
        (lanes ≠ 0 → ∃ b rest, (t.linkOf k).line0 = b :: rest ∧ b.before = (s.linkOf k).scr0 ∧ lineItem b = some (lineMark s.tick (decide (lanes = 2)) 0)) ∧
        (lanes = 2 → ∃ b rest, (t.linkOf k).line1 = b :: rest ∧ b.before = (s.linkOf k).scr1 ∧ lineItem b = some (lineMark s.tick true 1)))) ∧
    (s.framing k = true →
      (marks = false ∨ ¬intact → ∃ t, exec (.tickFrameReceived k marks mark h0 h1 h2 h3 got bad late arrival) s = .next t ∧ (t.linkOf k).rx = (s.linkOf k).rx ∧
        t.obj (O.linkFramesDiscarded k.val) = satAdd 32 (s.obj (O.linkFramesDiscarded k.val)) 1 ∧
        t.obj (O.blockErrors k.val) = satAdd 32 (s.obj (O.blockErrors k.val)) errors.length ∧ t.eng = s.eng ∧ t.mem = s.mem) ∧
      (let known := mark.toNat = s.tick % 2 ^ 32 ∨ mark.toNat = (s.tick + 1) % 2 ^ 32
       intact → s.linkState k ≠ 4 ∨ known →
        ∃ t, exec (.tickFrameReceived k true mark h0 h1 h2 h3 got bad late arrival) s = .next t ∧ t.eng = s.eng ∧ t.mem = s.mem ∧
          (¬known → (t.linkOf k).rx = (s.linkOf k).rx) ∧
          (known → ∃ f ∈ (t.linkOf k).rx, f.tick = (if mark.toNat = s.tick % 2 ^ 32 then s.tick else wrapAdd 48 s.tick 1) ∧ f.bad = errors ∧ f.late = late.map (·.toNat) ∧
            ∀ pos b x, got = [(pos, b)] → lineData b = some x → x ≠ 0 → f.blocks = [(pos.toNat, x)]) ∧
          (blocksCrc [x0, x1, x2] = x3.toNat % 2 ^ 32 → (t.linkOf k).nbTick = x0.toNat % 2 ^ 48 ∧ (t.linkOf k).nbDepth = x1.toNat / 2 ^ 56) ∧
          (blocksCrc [x0, x1, x2] ≠ x3.toNat % 2 ^ 32 → t.obj (O.headerCrcErrors k.val) = satAdd 32 (s.obj (O.headerCrcErrors k.val)) 1 ∧
            (t.linkOf k).nbTick = (s.linkOf k).nbTick)) ∧
      (c.dst < 4096 → c.src < 4096 → c.session < 256 → c.payload.length ≤ 8 → c.seg = 3 → (c.ty = 1 ∨ c.ty = 2 ∨ c.ty = 3) →
        (c.seq = ((s.linkOf k).ctl.last + 1) % 4096 → ∃ t, exec (.cellReceived k false c.blocks) s = .next t ∧ (t.linkOf k).ctl.last = c.seq ∧
          t.net.inbox = s.net.inbox ++ [{ dst := c.dst, src := c.src, session := c.session, ty := c.ty, payload := c.payload }] ∧ t.objs = s.objs) ∧
        (c.seq < 4096 → c.seq ≠ ((s.linkOf k).ctl.last + 1) % 4096 → exec (.cellReceived k false c.blocks) s = .next s)) ∧
      (blocksCrc blocks.dropLast ≠ (blocks.getLastD 0).toNat → ∃ t, exec (.cellReceived k bulk blocks) s = .next t ∧
        t.obj (O.cellCrcErrors k.val) = satAdd 32 (s.obj (O.cellCrcErrors k.val)) 1 ∧ t.net = s.net ∧ t.linkOf k = s.linkOf k) ∧
      (∀ x rest, ((s.linkOf k).chan bulk).queue = x :: rest →
        ((x.sent = false ∨ x.age < 4) → exec (.cellRetransmit k bulk) s = .next s) ∧
        (x.sent = true → 4 ≤ x.age → 16 ≤ x.tries → ∃ t, exec (.cellRetransmit k bulk) s = .next t ∧ t.linkState k = 1 ∧ ((t.linkOf k).chan bulk).queue = []) ∧
        (x.sent = true → 4 ≤ x.age → x.tries < 16 → ∃ t, exec (.cellRetransmit k bulk) s = .next t ∧ t.linkState k = s.linkState k ∧
          ((t.linkOf k).chan bulk).queue = (x :: rest).map (fun y => if y.sent then { y with sent := false, age := 0, tries := y.tries + 1 } else y) ∧
          t.obj (O.cellRetransmits k.val) = satAdd 32 (s.obj (O.cellRetransmits k.val)) ((x :: rest).filter (·.sent)).length)))

/-- HELLO records the neighbour, raises the highest epoch known, leaves no better key in it unknown, restarts the settle count if it brings a better one, and takes a device not joined to fabric state 2. The HELLO period sends one on each link in Framing or later and nothing else. A settled election claims with the next epoch, whose low 16 bits are not zero. A fresh CLAIM whose key no known key betters, at no lower epoch, is adopted; one with a worse key than the best known leaves the Origin, and takes an election in progress back to its start. The holdover election forgets the Origin. The time state moves to aligned and back after their counts. Where the conditions do not hold nothing changes. (R578, R580, R581, R582, R583, R596, R610, R614) -/
def Obligations.FabricElectionAndTime : Prop :=
  ∀ (s : State) (k : Fin 4) (h : Hello) (src : BitVec 12) (prio : BitVec 8) (uid : BitVec 64) (epoch : BitVec 32) (seq : BitVec 16),
    let o : Key := { prio := prio.toNat, uid := uid.toNat }
    let settled := s.bestKey = s.ownKey ∧ s.obj O.originSettle ≤ s.net.settle ∧ s.isAlone = false ∧ s.net.origin ≠ some s.ownKey
    (s.framing k = false → exec (.hello k h) s = .next s ∧ exec (.claim k src prio uid epoch seq) s = .next s) ∧
    (s.framing k = true → ∃ t, exec (.hello k h) s = .next t ∧ (t.linkOf k).nbUid = h.uid.toNat ∧ (t.linkOf k).nbPort = h.port.val ∧
      t.net.maxEpoch = max s.net.maxEpoch h.epoch.toNat ∧ (helloBest h).better t.bestKey = false ∧ (helloOwn h).better t.bestKey = false ∧ t.eng = s.eng ∧
      ((helloBest h).better s.bestKey = true → t.net.settle = 0) ∧
      (s.joined = false → s.obj O.fabricState ≤ 1 → t.obj O.fabricState = 2)) ∧
    (∃ t, exec .helloPeriod s = .next t ∧ t.objs = s.objs ∧ t.net = s.net ∧ t.eng = s.eng ∧ t.mem = s.mem ∧ ∀ j, t.linkOf j =
      if 3 ≤ s.linkState j ∧ s.linkState j ≤ 7 then { s.linkOf j with ctl := (s.linkOf j).ctl.send (s.mkMsg 0xFFF 0 1 (s.helloBytes j)) } else s.linkOf j) ∧
    ((¬settled → exec .electionSettle s = .next s) ∧
      (settled → ∃ t, exec .electionSettle s = .next t ∧ t.net.origin = some s.ownKey ∧ t.obj O.originUid = s.obj O.uid ∧ t.obj O.fabricEpoch % 65536 ≠ 0 ∧
        (t.obj O.fabricEpoch = (s.net.maxEpoch + 1) % 2 ^ 32 ∨ t.obj O.fabricEpoch = (s.net.maxEpoch + 1) % 2 ^ 32 + 1) ∧ t.net.maxEpoch = t.obj O.fabricEpoch ∧ t.eng = s.eng ∧ t.mem = s.mem)) ∧
    (s.framing k = true → s.seenFlood src.toNat seq.toNat = true → exec (.claim k src prio uid epoch seq) s = .next (s.takeMsg 2)) ∧
    (s.framing k = true → s.seenFlood src.toNat seq.toNat = false →
      (s.bestKey.better o = false → s.obj O.fabricEpoch ≤ epoch.toNat → ∃ t, exec (.claim k src prio uid epoch seq) s = .next t ∧ t.net.origin = some o ∧
        t.obj O.originUid = uid.toNat ∧ t.obj O.fabricEpoch = epoch.toNat ∧ t.net.path = some k.val ∧ t.eng = s.eng ∧ t.mem = s.mem) ∧
      (s.bestKey.better o = true → let idles := s.obj O.fabricState = 2 ∧ s.obj O.fabricEpoch ≤ epoch.toNat ∧ ¬(s.joined = true ∧ s.isOrigin = true ∧ s.ownKey.better o = true)
        ∃ t, exec (.claim k src prio uid epoch seq) s = .next t ∧ t.net.origin = s.net.origin ∧ (∀ a, a ≠ O.fabricState → t.obj a = s.obj a) ∧
          t.obj O.fabricState = (if idles then 1 else s.obj O.fabricState) ∧ (idles → t.net.settle = 0))) ∧
    exec .holdoverElection s = .next (if s.joined = true ∧ s.isOrigin = false ∧ 256 ≤ s.net.orphan ∧ s.obj O.fabricState ≠ 2 then
      { s.setObj O.fabricState 2 with net := { s.net with
        origin := none
        best := none
        settle := 0
        maxEpoch := max s.net.maxEpoch (s.obj O.fabricEpoch) } }
      else s) ∧
    exec .timeAligned s = .next (if s.obj O.timeState = 1 ∧ 256 ≤ s.net.near then
      (s.setObj O.timeState 2).event 0x0902 (2 + s.obj O.timeDepth * 256) else s) ∧
    exec .timeAcquiring s = .next (if s.obj O.timeState = 2 ∧ 16 ≤ s.net.far then
      (s.setObj O.timeState 1).event 0x0902 (1 + s.obj O.timeDepth * 256) else s)

/-- A LINK_DOWN on a link without frames does nothing, one already seen is dropped; a new one is remembered, and the link waits for repair if plans for it are held. The Origin keeps a TOPOLOGY in place of an older one of the device; another device passes it on. ADDRESS sets the address objects of the device it names; another device passes it on, once, on its other links that carry messages. ROUTES fills the pending table. RESERVE changes pending tables and plans, at most 16,384, never the active ones. ACTIVATE of the reservation held sets its tick. A repair is installed from B(f + 64) on, counts, counts as late after it, leaves the plans of links still lost alone, and asks for a new reservation. A TILER_ORDER and a TILER_REPORT are kept by block, the outcome of a placement in the diagnostic objects; a rejection ends the migration of the block to that device. That a member places against the image it holds, and names the block as absent where it holds none, that ADDRESS is passed on where no address is in force, and that a rejection ends a migration, are the model's choices (log entry 87). (R387, R577, R581, R585, R588, R590, R601, R602, R606, R607) -/
def Obligations.FabricMessagesSetAddressesRoutesAndPlans : Prop :=
  ∀ (s : State) (k portA portB : Fin 4) (src addrA addrB sender addr first : BitVec 12) (f tick : BitVec 48) (seq coord device : BitVec 16) (uid : BitVec 64)
    (prio x y result code table engine : BitVec 8) (addr16 : BitVec 16) (p0 p1 p2 p3 : TopologyPort) (entries : List (BitVec 8)) (gen pin entry detail need have_ : BitVec 32)
    (runs : List RunWrite) (plans : List PlanWrite) (block : BitVec 14) (limits : List (BitVec 32)),
    let a := (addrA.toNat, portA.val)
    let b := (addrB.toNat, portB.val)
    let dev : TopoDev := { key := { prio := prio.toNat, uid := uid.toNat }, addr := addr16.toNat, ports := [topoPort p0, topoPort p1, topoPort p2, topoPort p3] }
    (s.framing k = false → exec (.linkDown k src addrA portA addrB portB f seq) s = .next s) ∧
    (s.framing k = true → s.seenFlood src.toNat seq.toNat = true → exec (.linkDown k src addrA portA addrB portB f seq) s = .next (s.takeMsg 3)) ∧
    (s.framing k = true → s.seenFlood src.toNat seq.toNat = false → ∃ t, exec (.linkDown k src addrA portA addrB portB f seq) s = .next t ∧ t.seenFlood src.toNat seq.toNat = true ∧
      t.objs = s.objs ∧ t.eng = s.eng ∧ t.mem = s.mem ∧ t.net.lost = (if s.net.plans.any (fun p => sameLink p.endA p.endB a b) ∧ ¬(s.net.lost.any (fun l => sameLink l.1 l.2.1 a b) = true) then
        s.net.lost ++ [(a, b, f.toNat)] else s.net.lost)) ∧
    (s.leads = true → ∃ t, exec (.topology uid prio addr16 p0 p1 p2 p3) s = .next t ∧ t.net.topo = s.net.topo.filter (fun d => d.key.uid != uid.toNat) ++ [dev] ∧ t.eng = s.eng ∧ t.mem = s.mem) ∧
    (s.leads = false → ∃ t, exec (.topology uid prio addr16 p0 p1 p2 p3) s = .next t ∧ t.objs = s.objs ∧ t.net.topo = s.net.topo ∧
      ∀ j, s.net.path = some j → (t.linkOf (port4 j)).ctl.queue.length > (s.linkOf (port4 j)).ctl.queue.length) ∧
    (uid.toNat ≠ s.obj O.uid →
      let m := s.addressMsg sender.toNat uid.toNat addr.toNat x.toNat y.toNat coord.toNat
      let on := s.floodPorts (s.net.path.map port4)
      (s.seenFlood sender.toNat (s.msgMark m) = true → exec (.address sender uid addr x y coord) s = .next (s.takeMsg 9)) ∧
      (s.seenFlood sender.toNat (s.msgMark m) = false → ∃ t, exec (.address sender uid addr x y coord) s = .next t ∧ t.objs = s.objs ∧ t.eng = s.eng ∧ t.mem = s.mem ∧
        t.seenFlood sender.toNat (s.msgMark m) = true ∧ (∀ j ∉ on, t.linkOf j = s.linkOf j) ∧
        ∀ j ∈ on, t.linkOf j = { s.linkOf j with ctl := (s.linkOf j).ctl.send m })) ∧
    (uid.toNat = s.obj O.uid → ∃ t, exec (.address sender uid addr x y coord) s = .next t ∧ t.obj O.fabricAddress = addr.toNat ∧ t.obj O.torusX = x.toNat ∧
      t.obj O.torusY = y.toNat ∧ t.obj O.coordinates = coord.toNat ∧ t.obj O.originAddress = sender.toNat ∧ t.obj O.fabricState = 3 ∧ t.link = s.link ∧ t.eng = s.eng ∧ t.mem = s.mem) ∧
    (s.net.routesPend = none → entries.length ≤ 4096 → ∃ t tbl, exec (.routes first entries) s = .next t ∧ t.net.routesPend = some tbl ∧ t.net.routes = s.net.routes ∧
      t.net.routesGot = s.net.routesGot + entries.length ∧ t.objs = s.objs ∧ t.link = s.link ∧
      ∀ i e, entries[i]? = some e → aGet 0xFF tbl ((first.toNat + i) % 4096) = e.toNat) ∧
    (∃ t, exec (.reserve gen runs plans) s = .next t ∧ t.net.reserveGen = gen.toNat ∧ t.net.plans = s.net.plans ∧ t.net.plansPend.length ≤ 16384 ∧
      t.net.plansPend = ((if s.net.reserveGen = gen.toNat then s.net.plansPend else []) ++ plans.map planEntry).take 16384 ∧
      t.net.unplanned = (if s.net.reserveGen = gen.toNat then s.net.plansPend.length else 0) + plans.length - 16384 ∧
      (∀ j, (t.linkOf j).txRuns = (s.linkOf j).txRuns ∧ (t.linkOf j).rxRuns = (s.linkOf j).rxRuns) ∧
      ∀ r, runs = [r] → aWf 0 (s.linkOf r.port).txPend = true → aWf 0 (s.linkOf r.port).rxPend = true →
        aGet 0 (if r.transmit then (t.linkOf r.port).txPend else (t.linkOf r.port).rxPend) r.index.val = runEntryWord r.word) ∧
    (∃ t, exec (.activate gen tick) s = .next t ∧ t.objs = s.objs ∧ t.link = s.link ∧ t.eng = s.eng ∧
      t.net.activate = if gen.toNat = s.net.reserveGen then some (gen.toNat, tick.toNat) else s.net.activate) ∧
    (s.net.lost.find? (fun l => sameLink l.1 l.2.1 a b) = none → exec (.repairInstall addrA portA addrB portB) s = .next s) ∧
    (∀ l, s.net.lost.find? (fun l => sameLink l.1 l.2.1 a b) = some l →
      (tickLe (l.2.2 + 64) s.tick = false → exec (.repairInstall addrA portA addrB portB) s = .next s) ∧
      (tickLe (l.2.2 + 64) s.tick = true → ∃ t, exec (.repairInstall addrA portA addrB portB) s = .next t ∧ t.net.lost = s.net.lost.filter (fun z => !sameLink z.1 z.2.1 a b) ∧
        t.net.plans = s.net.plans.filter (fun p => t.net.lost.any (fun z => sameLink z.1 z.2.1 p.endA p.endB)) ∧ t.net.replan = true ∧ t.obj O.repairsApplied = satAdd 32 (s.obj O.repairsApplied) 1 ∧
        t.obj O.lateRepairs = (if tickLe s.tick (l.2.2 + 64) then s.obj O.lateRepairs else satAdd 32 (s.obj O.lateRepairs) 1) ∧ t.eng = s.eng ∧ t.mem = s.mem)) ∧
    (∃ t, exec (.tilerOrder block pin limits) s = .next t ∧ t.net.orders = s.net.orders.filter (fun p => p.1 != block.toNat) ++ [(block.toNat, pin.toNat, limits.map (·.toNat))] ∧
      let s' := (s.takeMsg 0x18).modNet (fun n => { n with orders := t.net.orders })
      let rest := t.eng = s.eng ∧ t.mem = s.mem ∧ t.til = s.til ∧ ∀ o, o ≠ O.noRouteDrops → o ∉ [O.diagCode, O.diagTable, O.diagEntry, O.diagDetail, O.diagNeed, O.diagHave,
        O.diagDevice, O.diagEngine] → t.obj o = s.obj o
      (s.til.checking = none → s.til.graph = none → rest ∧ t.obj O.diagCode = 3 ∧ t.obj O.diagEntry = block.toNat) ∧
      (∀ g p, s.til.checking = none → s.til.graph = some g → g.place block.toNat = some p → p.dev = s.selfDev → rest ∧ t.obj O.diagCode = 0) ∧
      (∀ g, s.til.checking = none → s.til.graph = some g → g.place block.toNat = none → rest ∧ t.obj O.diagCode = 3 ∧ t.obj O.diagEntry = block.toNat) ∧
      (∀ bytes prev mode, s.til.checking = some (bytes, prev, mode) → rest ∧
        t.obj O.diagCode = ((leastFault (s'.planOf bytes mode).faults).map (·.code)).getD 0)) ∧
    (∃ t, exec (.tilerReport block result code table entry detail need have_ device engine) s = .next t ∧
      t.net.reports = s.net.reports.filter (fun p => p.1 != block.toNat) ++ [(block.toNat, result.toNat, [code.toNat, table.toNat, entry.toNat, detail.toNat, need.toNat, have_.toNat, device.toNat, engine.toNat])] ∧
      (result = 0 → t.objs = s.objs ∧ t.eng = s.eng ∧ t.mem = s.mem ∧ t.til = s.til) ∧
      (∀ m g, result ≠ 0 → s.til.mig = some m → s.til.graph = some g → block.toNat ∈ m.blocks → m.toDev ≠ s.selfDev → m.switched = false →
        t.til.mig = none ∧ t.til.graph = some g ∧ t.obj O.migrationState = 6) ∧
      ((∀ m, s.til.mig = some m → block.toNat ∉ m.blocks ∨ m.toDev = s.selfDev ∨ m.switched = true) → t.eng = s.eng ∧ t.mem = s.mem ∧ t.til = s.til) ∧
      (result ≠ 0 → t.obj O.diagCode = code.toNat ∧ t.obj O.diagTable = table.toNat ∧ t.obj O.diagEntry = entry.toNat ∧ t.obj O.diagDetail = detail.toNat ∧
        t.obj O.diagNeed = need.toNat ∧ t.obj O.diagHave = have_.toNat ∧ t.obj O.diagDevice = device.toNat ∧ t.obj O.diagEngine = engine.toNat))

/-- ChannelHead of an Idle channel that the Locus drain does not own, with the address of a descriptor place, makes it Running at that descriptor; in another state it is refused with "not in this mode", at another address with "out of range". A doorbell makes a Parked channel Running, is kept pending by a Running one, and is ignored otherwise. ChannelResume makes a Halted channel Running, its position kept, and is refused otherwise. ChannelStop makes a Running, Parked or Halted channel Idle; a Running one writes STATUS with RESULT 7 and CTRL with OWN = 0 to its descriptor. Engines are unchanged, and memory but for that descriptor. (R434, R435, R669, R670, R674, R676, R677, R678, R683, R685, R689) -/
def Obligations.DmaChannelRequests : Prop :=
  ∀ (s : State) (src : Src) (c : Fin 32) (words : List (BitVec 32)),
    let a := wordsNat words
    let v := s.chanState c
    (Passes s src (O.channelHead c.val) words true true true →
      (v ≠ 0 ∨ (c.val = 31 ∧ s.obj O.locusDrainEnable = 1) → Refuses s (.channelHead src c words) src rcMode) ∧
      (v = 0 → ¬(c.val = 31 ∧ s.obj O.locusDrainEnable = 1) →
        let place := a % 32 = 0 ∧ ((0x10000000 ≤ a ∧ a < 0x10400000) ∨ (0x1000000000 ≤ a ∧ a < 0x1000000000 + s.lpddrBytes))
        (¬place → Refuses s (.channelHead src c words) src rcRange) ∧
        (place → Answers s (.channelHead src c words) src rcOk (fun u => u.chanState c = 1 ∧ u.chanDesc c = a ∧ u.obj (O.channelHead c.val) = a ∧
          u.chan c = DmaChan.reset ∧ (∀ j, j ≠ c → u.chan j = s.chan j ∧ u.chanState j = s.chanState j) ∧ u.mem = s.mem ∧ u.eng = s.eng)))) ∧
    (Passes s src (O.doorbell c.val) words true true true → Answers s (.doorbell src c words) src rcOk (fun u => u.mem = s.mem ∧ u.eng = s.eng ∧ u.chanDesc c = s.chanDesc c ∧
        (∀ j, j ≠ c → u.chan j = s.chan j ∧ u.chanState j = s.chanState j) ∧
        (v = 2 → u.chanState c = 1 ∧ (u.chan c).desc = none) ∧ (v = 1 → u.chan c = { s.chan c with bell := true } ∧ u.chanState c = 1) ∧ (v ≠ 1 → v ≠ 2 → u = s))) ∧
    (Passes s src (O.channelResume c.val) words true true true →
      (v ≠ 3 → Refuses s (.channelResume src c words) src rcMode) ∧
      (v = 3 → Answers s (.channelResume src c words) src rcOk (fun u => u.chanState c = 1 ∧ (u.chan c).desc = none ∧ (u.chan c).done = (s.chan c).done ∧
        u.chanDesc c = s.chanDesc c ∧ (∀ j, j ≠ c → u.chan j = s.chan j ∧ u.chanState j = s.chanState j) ∧ u.mem = s.mem ∧ u.eng = s.eng))) ∧
    (Passes s src (O.channelStop c.val) words true true true →
      (v = 0 ∨ 3 < v → Performs s (.channelStop src c words) src s) ∧
      (v = 1 ∨ v = 2 ∨ v = 3 → Answers s (.channelStop src c words) src rcOk (fun u => u.chanState c = 0 ∧ u.chan c = DmaChan.reset ∧ u.eng = s.eng ∧
        (∀ j, j ≠ c → u.chan j = s.chan j ∧ u.chanState j = s.chanState j) ∧ ((s.chan c).desc = none → u.mem = s.mem) ∧
        ∀ d, (s.chan c).desc = some d → v = 1 → s.bad = [] → Memory.wf s.mem → u.obj (O.lastResult c.val) = 7 ∧
          memWord u.mem (s.chanDesc c) = BitVec.ofNat 32 (d.ctrl.toNat % 2 ^ 31) ∧ memWord u.mem (s.chanDesc c + 4) = BitVec.ofNat 32 (dmaStatus false 7 (s.chan c)) ∧
          ∀ b, b < s.chanDesc c ∨ s.chanDesc c + 8 ≤ b → memByte u.mem b = memByte s.mem b)))

/-- A Running channel without a descriptor reads the one it stands at: a stub parks it, a malformed one halts it with RESULT 5, a good one is taken with its length remaining. The arbiter grants a ready channel of the highest priority; a burst that is read and written advances the channel, BytesMoved and what remains; a word of it that an open bundle stores keeps what it holds, sets COLLISION and counts in LostWords. A read of an uncorrectable word halts the channel with RESULT 2. A finished descriptor is written back with OWN = 0, and the channel goes Idle after END or to the next. Credit adds up; data within credit is received, other data counts as discarded; an abort or a timeout halts the channels of the session with RESULT 6. (R666, R667, R671, R673, R674, R676, R678, R679, R680, R681, R684, R688) -/
def Obligations.DmaDescriptorsAndBursts : Prop :=
  ∀ (s : State) (c : Fin 32) (dev : BitVec 12) (session : BitVec 8) (n : BitVec 32) (data : List Byte),
    let x := s.chan c
    let v := s.chanState c
    let halted := fun (t : State) (r : Nat) => t.chanState c = 3 ∧ t.obj (O.lastResult c.val) = r ∧ t.obj (O.halts c.val) = satAdd 32 (s.obj (O.halts c.val)) 1
    (v ≠ 1 ∨ x.desc ≠ none → exec (.descriptorRead c) s = .next s) ∧
    (v = 1 → x.desc = none → s.descPlace (s.chanDesc c) = false → ∃ t, exec (.descriptorRead c) s = .next t ∧ halted t 5 ∧ t.mem = s.mem) ∧
    (∀ l, v = 1 → x.desc = none → s.descPlace (s.chanDesc c) = true → s.busRead 4 (s.chanDesc c) 32 = (.ok, l, s) → let d := dmaDesc l
      (d.own = false → ∃ t, exec (.descriptorRead c) s = .next t ∧ (t.chan c).desc = none ∧ (t.chan c).bell = false ∧ t.chanState c = (if x.bell then 1 else 2) ∧ t.mem = s.mem) ∧
      (d.own = true → d.length ≠ 0 → d.ok = false → ∃ t, exec (.descriptorRead c) s = .next t ∧ halted t 5) ∧
      (d.own = true → d.length ≠ 0 → d.ok = true → ∃ t, exec (.descriptorRead c) s = .next t ∧ (t.chan c).desc = some d ∧ (t.chan c).attempts = 0 ∧ t.chanState c = 1 ∧
        t.obj (O.channelRemaining c.val) = d.length - x.done ∧ t.mem = s.mem ∧ t.eng = s.eng)) ∧
    (s.granted = none → exec .dmaBurst s = .next s) ∧
    (∀ d, s.granted = some c → x.desc = some d →
      let p := s.obj (O.channelPriority c.val)
      let s' := s.modDma (fun d => { d with lastGrant := (p, c.val) :: d.lastGrant.filter (fun q => q.1 != p) })
      s.burstReady c = true ∧ (∀ j, s.burstReady j = true → s.obj (O.channelPriority j.val) ≤ p) ∧
      (∀ l t u, s'.burstRead x d (s.burstSize c) = (.ok, l, t) →
        let lost := if d.sends.isSome then [] else t.storesIn (d.dst.toNat + x.done) (s.burstSize c)
        t.burstWrite x d (t.keepLost (d.dst.toNat + x.done) l lost) = (.ok, u) → ∃ r, exec .dmaBurst s = .next r ∧ r.mem = u.mem ∧ r.eng = u.eng ∧
        (r.chan c).done = (u.chan c).done + s.burstSize c ∧ r.obj (O.bytesMoved c.val) = wrapAdd 64 (u.obj (O.bytesMoved c.val)) (s.burstSize c) ∧
        (r.chan c).collision = ((u.chan c).collision || !lost.isEmpty) ∧
        r.obj (O.lostWords c.val) = if lost = [] then u.obj (O.lostWords c.val) else satAdd 32 (u.obj (O.lostWords c.val)) lost.length) ∧
      (∀ l t, s'.burstRead x d (s.burstSize c) = (.poison, l, t) → t.obj (O.halts c.val) = s.obj (O.halts c.val) → ∃ r, exec .dmaBurst s = .next r ∧ halted r 2)) ∧
    ((x.desc = none ∨ v ≠ 1 ∨ ∃ d, x.desc = some d ∧ x.done < d.length) → exec (.descriptorWriteBack c) s = .next s) ∧
    (∀ d, x.desc = some d → v = 1 → d.length ≤ x.done → s.bad = [] → Memory.wf s.mem → ∃ t, exec (.descriptorWriteBack c) s = .next t ∧
      memWord t.mem (s.chanDesc c) = BitVec.ofNat 32 (d.ctrl.toNat % 2 ^ 31) ∧ memWord t.mem (s.chanDesc c + 4) = BitVec.ofNat 32 (dmaStatus true 0 x) ∧
      t.obj (O.lastResult c.val) = 0 ∧ (t.chan c).desc = none ∧ t.eng = s.eng ∧
      (if d.last then t.chanState c = 0 else t.chanState c = 1 ∧ t.chanDesc c = d.next * 32)) ∧
    (∃ t, exec (.bulkCredit dev session n) s = .next t ∧ t.credit (dev.toNat, session.toNat) = s.credit (dev.toNat, session.toNat) + n.toNat ∧
      (∀ p, p ≠ (dev.toNat, session.toNat) → t.credit p = s.credit p) ∧ t.dma.chan = s.dma.chan ∧ t.objs = s.objs) ∧
    (v = 1 → x.desc.bind DmaDesc.receives = some dev.toNat → data.length ≤ x.granted → ∃ t, exec (.bulkData dev (BitVec.ofNat 8 c.val) data) s = .next t ∧
      (t.chan c).rx = x.rx ++ data ∧ (x.granted ≠ data.length → (t.chan c).granted = x.granted - data.length) ∧ t.mem = s.mem) ∧
    (v ≠ 1 ∨ x.granted < data.length → ∃ t, exec (.bulkData dev (BitVec.ofNat 8 c.val) data) s = .next t ∧ t.dma.chan = s.dma.chan ∧
      t.obj (O.bulkDiscards c.val) = satAdd 32 (s.obj (O.bulkDiscards c.val)) 1) ∧
    (∃ t, exec (.bulkAbort dev session) s = .next t ∧ t.credit (dev.toNat, session.toNat) = 0 ∧
      (v = 1 → ∀ d, x.desc = some d → (d.receives = some dev.toNat ∧ c.val = session.toNat) ∨ d.sends = some (dev.toNat, session.toNat) → halted t 6 ∧ (t.chan c).granted = 0) ∧
      (v ≠ 1 ∨ x.desc = none → t.chanState c = v ∧ t.chan c = x)) ∧
    (v ≠ 1 ∨ (∀ d, x.desc = some d → d.receives = none ∧ d.sends = none) → exec (.dmaRemoteTimeout c) s = .next s) ∧
    (∀ d, v = 1 → x.desc = some d → (d.receives ≠ none ∨ d.sends ≠ none) → ∃ t, exec (.dmaRemoteTimeout c) s = .next t ∧ halted t 6 ∧ (t.chan c).granted = 0)

/-- With the window enabled and no raw command, a fill of a block not cached counts, and caches it as the most recent line if its digest matches and it reads without failure, and otherwise counts a fetch fault and keeps its address; a read that fails twice returns the port to mode 0; during a raw command it waits; with the window disabled nothing happens. LOCK and INVALIDATE do what their names say. One raw command runs at a time, and none after a thermal shutdown; a program only clears bits of its range, an erase sets them, a register command changes none, and other bytes stay. A write of a read-only register counts an access error. The range registers take the MODE, END and START of a loader write for the next boundary; the hash table base takes a firmware write unless locked. A write of 1 clears a flag of HSP_STATUS. (R11, R389, R646, R656, R657, R658, R659, R661, R662, R663, R736) -/
def Obligations.XipFlashAndRegisters : Prop :=
  ∀ (s : State) (o : BitVec 26) (a : BitVec 32) (op : FlashCmd) (loader : Bool) (r : BitVec 40) (v : BitVec 64) (e : Fin 8) (k : Fin 4) (flags : BitVec 7),
    let b := o.toNat / 4096
    let block := s.flashBytes (s.obj O.xipBase + 4096 * b) 4096
    let key := s.obj O.xipBase / 4096 + b
    (s.xip.enable = false → exec (.xipFill o) s = .next s) ∧
    (s.xip.enable = true → s.xip.raw ≠ none → exec (.xipFill o) s = .next { s with xip := { s.xip with fillWait := some o.toNat } }) ∧
    (s.xip.enable = true → s.xip.raw = none → s.xip.lines.find? (fun p => p.1 = key) = none → ∃ t, exec (.xipFill o) s = .next t ∧
      t.obj O.xipFills = satAdd 32 (s.obj O.xipFills) 1 ∧ t.flash = s.flash ∧ t.mem = s.mem ∧ t.eng = s.eng ∧
      t.obj O.flashMode = (if s.flashFails (s.obj O.xipBase + 4096 * b) 4096 then 0 else s.obj O.flashMode) ∧
      (if b < s.xip.hashCount ∧ (Config.sha384 block).take 32 = memBytes s.mem (s.xip.hashBase + 32 * b) 32 ∧ s.flashFails (s.obj O.xipBase + 4096 * b) 4096 = false then
        t.xip.lines = ((key, block) :: s.xip.lines.filter (fun p => p.1 != key)).take 64
       else t.xip.lines = s.xip.lines ∧ t.obj O.xipFetchFaults = satAdd 32 (s.obj O.xipFetchFaults) 1 ∧ t.obj O.xipLastFault = (s.obj O.xipBase + 4096 * b) % 2 ^ 32)) ∧
    exec .xipLock s = .next { s with xip := { s.xip with lock := true } } ∧
    exec .xipInvalidate s = .next { s with xip := { s.xip with lines := [] } } ∧
    (s.xip.raw ≠ none ∨ s.life = .stopped → exec (.flashRawCommand a op) s = .next s) ∧
    (s.xip.raw = none → s.life ≠ .stopped → ∃ t f, exec (.flashRawCommand a op) s = .next t ∧ t.xip.raw = some (a.toNat, f) ∧ t.flash = s.flash ∧ t.objs = s.objs) ∧
    (s.xip.raw = none ∨ s.life = .stopped → exec .flashProgramComplete s = .next s) ∧
    (∀ n l, s.life ≠ .stopped → s.xip.fillWait = none → aWf 0xFF#8 s.flash = true →
      (s.xip.raw = some (n, .program l) → ∃ t, exec .flashProgramComplete s = .next t ∧ t.xip.raw = none ∧ t.mem = s.mem ∧ t.objs = s.objs ∧
        (∀ i x, l[i]? = some x → aGet 0xFF#8 t.flash (n + i) = aGet 0xFF#8 s.flash (n + i) &&& x) ∧
        (∀ q, q < n ∨ n + l.length ≤ q → aGet 0xFF#8 t.flash q = aGet 0xFF#8 s.flash q)) ∧
      (∀ m, s.xip.raw = some (n, .erase m) → ∃ t, exec .flashProgramComplete s = .next t ∧ t.xip.raw = none ∧ t.mem = s.mem ∧ t.objs = s.objs ∧
        ∀ q, aGet 0xFF#8 t.flash q = if n ≤ q ∧ q < n + m then 0xFF#8 else aGet 0xFF#8 s.flash q) ∧
      (s.xip.raw = some (n, .register) → exec .flashProgramComplete s = .next { s with xip := { s.xip with raw := none } })) ∧
    (regAt r.toNat = none → exec (.registerWrite loader r v) s = .next s) ∧
    (∀ g w, regAt r.toNat = some (g, w) → (g = .veCfg e ∨ g = .veFault e ∨ g = .veGuard e ∨ g = .veProg e ∨ g = .scrubLap ∨ g = .clkOut k ∨ ∃ c, g = .dmaCur c ∨ g = .dmaStat c) →
      exec (.registerWrite loader r v) s = .next { s with regErrors := s.regErrors + 1 }) ∧
    (∀ w, regAt r.toNat = some (.xipBase, w) → exec (.registerWrite loader r v) s = .next (if loader = false ∧ s.xip.lock = false then
      { s with xip := { s.xip with hashBase := v.toNat / 32 * 32 } } else s)) ∧
    exec (.rangeRegisterWrite false e k v) s = .next s ∧
    (∃ t, exec (.rangeRegisterWrite true e k v) s = .next t ∧ (t.engine e).pendRanges = put (s.engine e).pendRanges k (some (rangeBits v.toNat)) ∧
      (t.engine e).ranges = (s.engine e).ranges ∧ t.mem = s.mem ∧ t.objs = s.objs ∧ ∀ f, f ≠ e → t.engine f = s.engine f) ∧
    (∃ f, exec (.hspStatusClear flags) s = .next { s with hsp := { s.hsp with flags := f } } ∧ ∀ i, i < 7 → f.testBit i = (s.hsp.flags.testBit i && !flags.getLsbD i))

/-- An open gap with a free slot closes: its count is added to the records lost and the chain advances over its record; otherwise nothing changes. A drain burst copies at most 64 records in order; a single final record that is ready stands in the LPDDR5X ring, its slot is free and the drain sequence is one higher. An acknowledgement between the last one and the final count is taken, and frees slots while the drain is off; outside it is out of range. Enabling the drain idles channel 31. The ring objects are refused while the drain runs, and where the ring does not fit. A due summary is written and the next starts behind it. (R479, R480, R482, R483, R484, R485, R486, R489, R490, R491, R495, R669) -/
def Obligations.LocusJournalDrainAndRings : Prop :=
  ∀ (s : State) (src : Src) (words : List (BitVec 32)),
    let v := wordsNat words
    let q := s.obj O.locusDrainSeq
    let x := s.locusSum
    (s.gap = none ∨ s.locusFree = 0 → exec .gapClose s = .next s) ∧
    (∀ g, s.gap = some g → s.locusFree ≠ 0 → ∃ t, exec .gapClose s = .next t ∧ t.gap = none ∧ t.mem = s.mem ∧ t.eng = s.eng ∧
      t.obj O.locusRecordsLost = satAdd 64 (s.obj O.locusRecordsLost) g.lost ∧ t.locusSum.lost = x.lost + g.lost ∧
      t.obj O.locusChain = (crc32c (leBytes 4 (s.obj O.locusChain) ++ g.bytes)).toNat) ∧
    (∃ t, exec .locusDrain s = .next t ∧ q ≤ t.obj O.locusDrainSeq ∧ t.obj O.locusDrainSeq ≤ q + 64 ∧ s.locusFreed ≤ t.locusFreed ∧ t.eng = s.eng) ∧
    (s.drainReady = true → s.finalCount = q + 1 → s.reachable (s.lpddrRing q) = true → s.badIn (ringAddr q) 32 = none → Memory.wf s.mem → ∃ t, exec .locusDrain s = .next t ∧
      memBytes t.mem (s.lpddrRing q) 32 = memBytes s.mem (ringAddr q) 32 ∧ (∀ a, a < s.lpddrRing q ∨ s.lpddrRing q + 32 ≤ a → memByte t.mem a = memByte s.mem a) ∧
      t.obj O.locusDrainSeq = q + 1 ∧ t.locusFreed = max s.locusFreed (q + 1)) ∧
    (Passes s src O.locusAckSeq words true true true →
      ((v < s.obj O.locusAckSeq ∨ s.finalCount < v) → Refuses s (.locusAckSeq src words) src rcRange) ∧
      (s.obj O.locusAckSeq ≤ v → v ≤ s.finalCount → Answers s (.locusAckSeq src words) src rcOk (fun u => u.obj O.locusAckSeq = v ∧ u.mem = s.mem ∧ u.eng = s.eng ∧
        u.locusFreed = if s.obj O.locusDrainEnable = 0 then max s.locusFreed v else s.locusFreed))) ∧
    (Passes s src O.locusDrainEnable words true true true →
      (v = 0 → Performs s (.locusDrainEnable src words) src (s.setObj O.locusDrainEnable 0)) ∧
      (v ≠ 0 → s.lpddrBytes = 0 → Refuses s (.locusDrainEnable src words) src rcRange) ∧
      (v ≠ 0 → s.lpddrBytes ≠ 0 → Answers s (.locusDrainEnable src words) src rcOk (fun u => u.obj O.locusDrainEnable = 1 ∧ u.eng = s.eng ∧
        u.obj O.locusDrainSeq = max q s.locusFreed ∧ (s.chanState 31 ≤ 3 → u.chanState 31 = 0) ∧ ∀ j : Fin 32, j ≠ 31 → u.chan j = s.chan j))) ∧
    (Passes s src O.lpddrRingBase words true true true →
      (s.obj O.locusDrainEnable ≠ 0 → Refuses s (.lpddrRingBase src words) src rcMode) ∧
      (s.obj O.locusDrainEnable = 0 → s.ringFits v (s.obj O.lpddrRingLog2) = false → Refuses s (.lpddrRingBase src words) src rcRange) ∧
      (s.obj O.locusDrainEnable = 0 → s.ringFits v (s.obj O.lpddrRingLog2) = true → Performs s (.lpddrRingBase src words) src (s.setObj O.lpddrRingBase v))) ∧
    (Passes s src O.lpddrRingLog2 words true true true →
      (s.obj O.locusDrainEnable ≠ 0 → Refuses s (.lpddrRingLog2 src words) src rcMode) ∧
      (s.obj O.locusDrainEnable = 0 → s.ringFits (s.obj O.lpddrRingBase) v = false → Refuses s (.lpddrRingLog2 src words) src rcRange) ∧
      (s.obj O.locusDrainEnable = 0 → s.ringFits (s.obj O.lpddrRingBase) v = true → Performs s (.lpddrRingLog2 src words) src (s.setObj O.lpddrRingLog2 v))) ∧
    (x.count < s.obj O.locusSummaryPeriod ∨ s.obj O.hullShedStage ≠ 0 ∨ s.obj O.hullReady ≠ 1 → exec .locusSummary s = .next s) ∧
    (s.obj O.locusSummaryPeriod ≤ x.count → s.obj O.hullShedStage = 0 → s.obj O.hullReady = 1 → ∃ t, exec .locusSummary s = .next t ∧
      t.obj O.locusSummarySeq = x.first + x.count - 1 ∧ t.locusSum.first = x.first + x.count ∧ t.locusSum.count = 0 ∧ t.obj O.keepLastSeq = s.obj O.keepLastSeq + 1 ∧ t.eng = s.eng)

/-- With no image to check, admission does nothing. An image that fails a check is reported with that check's code and numbers, its staging is given back, and the graph in force and its state stay, unloading where it is being unloaded, or the state is Rejected if there was none; one that fails nothing else is refused with 0x14 in a mode that takes no graph. An accepted one is in force, loaded. A loaded graph starts in modes 3 to 5, the next tick is its start, and every engine with a block, or with one that a migration has loaded, runs. Unloading clears the pending start mode and waits for the boundary, abandoning a migration. A poisoned page that the retained image gives is rewritten. The loss of a device abandons a migration to it. (R357, R378, R379, R393, R394, R395, R410, R415, R609, R705, R860) -/
def Obligations.GraphAdmissionStartAndUnload : Prop :=
  ∀ (s : State) (src : Src) (words : List (BitVec 32)) (a : BitVec 40) (addr : BitVec 12),
    let page := a.toNat / 4096 * 4096
    (s.til.checking = none → exec .graphAdmission s = .next s) ∧
    (∀ bytes prev mode, s.til.checking = some (bytes, prev, mode) →
      (∀ d, s.judge bytes mode false = some d → ∃ t, exec .graphAdmission s = .next t ∧ t.til.checking = none ∧ t.til.graph = s.til.graph ∧ t.mem = s.mem ∧ t.eng = s.eng ∧
        t.obj O.diagCode = d.code ∧ t.obj O.diagTable = d.table ∧ t.obj O.diagEntry = d.entry ∧ t.obj O.diagDetail = d.detail ∧
        t.obj O.graphState = (if s.til.unload = true ∨ s.obj O.graphState = 5 then 5 else if (prev = 2 ∨ prev = 3) ∧ s.til.graph ≠ none then prev else 4) ∧ t.obj O.domainStagingFree = s.obj O.domainStagingFree + bytes.length) ∧
      (graphFault (s.graphEnv mode) bytes = none → leastFault (s.planOf bytes mode).faults = none →
        (mode = 0 ∨ mode = 1 ∨ mode = 6 ∨ mode = 7 → ∃ t, exec .graphAdmission s = .next t ∧ t.obj O.diagCode = 0x14 ∧ t.til.graph = s.til.graph ∧ t.eng = s.eng) ∧
        (mode ≠ 0 → mode ≠ 1 → mode ≠ 6 → mode ≠ 7 → ∃ t g, exec .graphAdmission s = .next t ∧ t.til.graph = some g ∧ g.image = bytes ∧ t.obj O.graphState = 2))) ∧
    ((s.til.graph = none ∨ s.obj O.graphState ≠ 2 ∨ s.mode < 3 ∨ 5 < s.mode) → exec .graphStart s = .next s) ∧
    (∀ g, s.til.graph = some g → s.obj O.graphState = 2 → 3 ≤ s.mode → s.mode ≤ 5 → (s.mode = 3 ∨ s.obj O.reoptimise ≠ 1) → ∃ t, exec .graphStart s = .next t ∧
      t.obj O.graphState = 3 ∧ t.obj O.graphStartTick = wrapAdd 48 s.tick 1 ∧ t.til = s.til ∧ t.mem = s.mem ∧
      ∀ e : Fin 8, t.engine e = if g.onEngine e.val = [] ∧ (s.obj O.migrationState = 1 ∨ ∀ m, s.til.mig = some m → ∀ b ∈ m.dst, b.eng ≠ e.val) then s.engine e
        else { s.engine e with running := true }) ∧
    (Passes s src O.graphUnload words true true true →
      (s.til.graph = none → Performs s (.graphUnload src words) src (s.setObj O.pendingStartMode 0)) ∧
      (s.til.graph ≠ none → s.til.mig = none → Performs s (.graphUnload src words) src { (s.setObj O.pendingStartMode 0).setObj O.graphState 5 with
        til := { s.til with unload := true } }) ∧
      (s.til.graph ≠ none → s.til.mig ≠ none → Answers s (.graphUnload src words) src rcOk (fun u => u.obj O.graphState = 5 ∧ u.til.unload = true ∧ u.til.mig = none ∧
        u.til.graph = s.til.graph ∧ u.obj O.migrationState = 6 ∧ u.obj O.migrationCause = 6))) ∧
    ((s.til.graph = none ∨ page ∉ s.integ.poison) → exec (.pageReload a) s = .next s) ∧
    (∀ g, s.til.graph = some g → page ∈ s.integ.poison →
      (s.rebuilt g page = none → exec (.pageReload a) s = .next s) ∧
      (∀ l, s.rebuilt g page = some l → Memory.wf s.mem → ∃ t, exec (.pageReload a) s = .next t ∧ memBytes t.mem page 4096 = l ∧ page ∉ t.integ.poison ∧
        ∀ b, b < page ∨ page + 4096 ≤ b → memByte t.mem b = memByte s.mem b)) ∧
    (s.joined = false ∨ s.isOrigin = false ∨ addr.toNat = s.ownAddr → exec (.deviceLost addr) s = .next s) ∧
    (s.joined = true → s.isOrigin = true → addr.toNat ≠ s.ownAddr →
      (s.til.mig = none → exec (.deviceLost addr) s = .next (s.event 0x0906 addr.toNat)) ∧
      (∀ m, s.til.mig = some m → s.til.graph ≠ none → m.fromDev ≠ m.toDev → m.toDev = addr.toNat → ∃ t, exec (.deviceLost addr) s = .next t ∧ t.til.mig = none ∧
        t.til.graph = s.til.graph ∧ t.obj O.migrationState = 6 ∧ t.obj O.migrationCause = 4))

/-- A request during a migration, or whose destination has a set of another claim (log entry 110), is refused with BUSY; an accepted one begins a migration of its block. The end of the load, once the destination's range is inert, makes state 2, makes that range quiet, or across devices active, and counts W from the next boundary; after W a migration without a warm start switches, or counts anew where the destination here is faulted; one with a warm start reaches state 3 and has its small state copied to a buffer in Orbit memory as the next boundary opens its mover window; a complete snapshot that arrives gives state 4 and the switch, another one abandons with cause 7; the end of the crossfade completes it in state 5. In other states these commands change nothing. DrainDevice closes the device in Fabric member mode and is refused with "not in this mode" otherwise. (R392, R396, R397, R398, R404, R405, R406, R407, R410, R412, R413, R414) -/
def Obligations.MigrationGoesThroughItsStates : Prop :=
  ∀ (s : State) (src : Src) (words : List (BitVec 32)) (data : List Byte),
    let w := wordsNat words
    let st := s.obj O.migrationState
    let c := s.clearDiag
    let none_ := s.til.mig = none ∨ s.til.graph = none
    (Passes s src O.migrateRequest words true true true → s.requestMode w = true → s.requestFault w = none → s.migrating = true ∨ s.requestClash w = true →
      Answers s (.migrateRequest src words) src rcBusy (fun u => u = s)) ∧
    (∀ g mv, let free := !s.migrating && !s.requestClash w
      Passes s src O.migrateRequest words (s.requestMode w) (s.requestFault w).isNone free →
      Passes c src O.migrateRequest words (s.requestMode w) (s.requestFault w).isNone free → s.til.graph = some g →
      c.destination g (c.placeEnv c.mode) (g.img.clusterOf (c.placeEnv c.mode) (w % 2 ^ 14)) (reqDev (c.placeEnv c.mode) w) (w / 2 ^ 28 % 8) = .inl mv →
      Answers s (.migrateRequest src words) src rcOk (fun u => u.obj O.migrationState = 1 ∧ ∃ m, u.til.mig = some m ∧ m.block = w % 2 ^ 14 ∧ m.toEng = w / 2 ^ 28 % 8 ∧ m.switched = false)) ∧
    (none_ → exec .migrationLoadDone s = .next s ∧ exec .migrationSwitch s = .next s ∧ exec .snapshotCopy s = .next s ∧ exec (.snapshotArrival data) s = .next s ∧ exec .crossfadeEnd s = .next s) ∧
    (∀ m g, s.til.mig = some m → s.til.graph = some g →
      let after := m.aTick + g.window m.blocks
      let next := wrapAdd 48 s.tick 1
      let sn := s.smallState g m
      (st ≠ 1 ∨ s.mayStore g m = false → exec .migrationLoadDone s = .next s) ∧
      (st = 1 → s.mayStore g m = true → ∃ t, exec .migrationLoadDone s = .next t ∧ t.obj O.migrationState = 2 ∧ t.til.mig = some { m with aTick := next } ∧
        (m.dst = [] → t.mem = s.mem) ∧
        (m.dst ≠ [] → lane (t.engine (eng8 m.toEng)).pendRanges 0 = some (rangeOf (if m.fromDev = m.toDev then 1 else 0) m.dst)) ∧
        t.obj O.migrationSwitchTick = (if m.warm then 0 else wrapAdd 48 next (g.window m.blocks))) ∧
      (st ≠ 2 ∨ m.warm = true ∨ m.switched = true ∨ tickLe after (s.tick + 1) = false → exec .migrationSwitch s = .next s) ∧
      (st = 2 → m.warm = false → m.switched = false → tickLe after (s.tick + 1) = true → ∃ t, exec .migrationSwitch s = .next t ∧ t.obj O.migrationState = 2 ∧
        if m.toDev = s.selfDev ∧ s.finishTick.engineFaulted m.toEng = true then
          t.til.mig = some { m with aTick := next } ∧ t.obj O.migrationSwitchTick = wrapAdd 48 next (g.window m.blocks)
        else t.til.mig = some { m with switched := true, mover := decide (m.fromDev = m.toDev) } ∧ t.obj O.migrationSwitchTick = next) ∧
      (st ≠ 2 ∨ m.warm = false ∨ tickLe after (s.tick + 2) = false → exec .snapshotCopy s = .next s) ∧
      (st = 2 → m.warm = true → tickLe after (s.tick + 2) = true → exec .snapshotCopy s =
        .next (({ s with til := { s.til with mig := some { m with mover := true } } } : State).setObj O.migrationState 3)) ∧
      (m.mover = false → s.moverStep = s) ∧
      (∀ a, m.mover = true → m.fromDev ≠ m.toDev → sn.2.snapshotAt g sn.1.length = some a → Memory.wf s.mem →
        s.moverStep.til.mig = some { m with mover := false, snapshot := sn.1 } ∧ s.moverStep.obj O.migrationState = 3 ∧
        ∀ j x, sn.1[j]? = some x → memByte s.moverStep.mem (orbitBase + a + j) = x) ∧
      (m.warm = false ∨ (st ≠ 2 ∧ st ≠ 3) → exec (.snapshotArrival data) s = .next s) ∧
      (m.warm = true → st = 2 ∨ st = 3 → data.length ≠ g.img.smallSize m.blocks → ∃ t, exec (.snapshotArrival data) s = .next t ∧ t.til.mig = none ∧
        t.til.graph = s.til.graph ∧ t.obj O.migrationState = 6 ∧ t.obj O.migrationCause = 7) ∧
      (m.warm = true → st = 2 ∨ st = 3 → data.length = g.img.smallSize m.blocks → ∃ t, exec (.snapshotArrival data) s = .next t ∧ t.obj O.migrationState = 4 ∧
        t.til.mig = some { m with switched := true, mover := false } ∧ t.obj O.migrationSwitchTick = next) ∧
      let faded := ∀ x ∈ s.net.xfades, (∃ p ∈ m.second, p.2 = x.second) → x.total ≤ x.j
      (m.warm = false ∨ (st ≠ 3 ∧ st ≠ 4) ∨ ¬faded → exec .crossfadeEnd s = .next s) ∧
      (m.warm = true → st = 3 ∨ st = 4 → faded → s.til.toDrain = [] → s.obj O.reoptimise ≠ 1 → ∃ t, exec .crossfadeEnd s = .next t ∧ t.til.mig = none ∧
        t.obj O.migrationState = 5 ∧ t.obj O.migrationCause = 0 ∧ t.obj O.migrationsCompleted = satAdd 32 (s.obj O.migrationsCompleted) 1)) ∧
    (Passes s src O.drainDevice words true true true →
      (s.mode ≠ 5 → Refuses s (.drainDevice src words) src rcMode) ∧
      (s.mode = 5 → s.til.graph = none → Performs s (.drainDevice src words) src ({ s with til := { s.til with closed := true } } : State).clearDiag) ∧
      (s.mode = 5 → s.til.graph ≠ none → Answers s (.drainDevice src words) src rcOk (fun u => u.til.closed = true ∧ u.til.graph = s.til.graph)))

/-- A lost source fails over to a valid fallback, or the media PLL holds and the tick-source cause stands; with no source to lose, and with the fabric as source before 64 ticks adrift, nothing happens; during a rate change the word is held and the loss waits. A locked source clears the cause and fixes the phase, that of a slave port with its framing delays where its frame sync is the source. TickSource waits for the boundary. TickRate outside Run, in Patchbay under the own control, or in a member, is refused with "not in this mode", with a placement that no longer fits as out of range with its diagnosis, during a change with BUSY; accepted, it mutes. After the fade boundaries stop, gated where the family changes; the restart, once the converters have locked again, sets rate, family, cycles and budgets. (R53, R54, R55, R56, R57, R60, R65, R66, R82, R83, R610, R803) -/
def Obligations.TickSourceAndTickRate : Prop :=
  ∀ (s : State) (src : Src) (words : List (BitVec 32)) (valid : Bool) (phase : BitVec 16),
    let v := wordsNat words
    let f := s.obj O.tickSourceFallback
    let stays := s.clk.source = 0 ∨ s.obj O.mediaState = 0 ∨ (s.clk.source = 6 ∧ s.net.adrift < 64)
    (stays → exec (.tickSourceLost valid) s = .next s) ∧
    (¬stays → s.rateSeq ≠ none → ∃ t, exec (.tickSourceLost valid) s = .next t ∧ t.clk.lostWait = some valid ∧ t.clk.source = s.clk.source ∧ t.mediaTarget = s.mediaOffset ∧
      t.rateSeq = s.rateSeq ∧ t.obj O.mediaState = (if s.clk.mediaGated then s.obj O.mediaState else 3) ∧ t.obj O.tickSourceStatus = s.obj O.tickSourceStatus ∧
      t.mem = s.mem ∧ t.eng = s.eng) ∧
    (¬stays → s.rateSeq = none → ∃ t, exec (.tickSourceLost valid) s = .next t ∧ t.mem = s.mem ∧ t.eng = s.eng ∧
      if f ≠ 0xFF ∧ valid = true ∧ f ≠ s.clk.source then t.clk.source = f ∧ t.obj O.tickSourceStatus = 3 ∧ t.obj O.mediaState = 1 ∧ t.obj O.safeMuteCause = s.obj O.safeMuteCause
      else t.clk.source = s.clk.source ∧ t.obj O.tickSourceStatus = 2 ∧ t.obj O.mediaState = 3 ∧ t.obj O.safeMuteCause = s.obj O.safeMuteCause ||| 1) ∧
    (let waits := s.rateSeq ≠ none ∨ s.obj O.mediaState = 0 ∨ s.clk.mediaGated = true ∨ s.obj O.refState = 1;
      (waits → exec (.tickSourceLocked phase) s = .next s) ∧
      let per := mediaHz (s.obj O.tickRate) / s.obj O.tickRate
      let q := phase.toNat % per
      let u := ((s.setObjs [(O.tickSourceStatus, if s.clk.source = s.obj O.tickSource then 0 else 3), (O.mediaState, 2), (O.tickSourcePhase, q)]).clearCause 0).event
        0x0202 (s.obj O.tickSource)
      (¬waits → (s.clk.source = 0 ∨ 4 < s.clk.source) → exec (.tickSourceLocked phase) s = .next u) ∧
      (∀ p : Fin 4, ¬waits → s.clk.source = p.val + 1 →
        (sapMaster (s.sapFmt p) = true → exec (.tickSourceLocked phase) s = .next u) ∧
        (sapMaster (s.sapFmt p) = false → ∃ t, exec (.tickSourceLocked phase) s = .next t ∧ (t.sapOf p) = { s.sapOf p with q := q } ∧
          (∀ r, r ≠ p → t.sapOf r = s.sapOf r) ∧ t.mem = s.mem ∧ t.eng = s.eng ∧
          t.obj (O.inputFramingDelay p.val) = (if s.conv p true = 3 then (framing per q).1 else s.obj (O.inputFramingDelay p.val)) ∧
          t.obj (O.outputFramingDelay p.val) = (if s.conv p false = 3 then (framing per q).2 else s.obj (O.outputFramingDelay p.val)) ∧
          ∀ o, o ≠ O.inputFramingDelay p.val → o ≠ O.outputFramingDelay p.val → t.obj o = u.obj o))) ∧
    (Passes s src O.tickSource words true true true → Performs s (.tickSourceWrite src words) src { s with clk := { s.clk with pendSource := some v } }) ∧
    (Passes s src O.tickRate words true true true → v ≠ 0 →
      let follows := s.joined = true ∧ s.isOrigin = false
      let wrong := s.obj O.powerState ≠ 0 ∨ (s.mode = 5 ∧ follows) ∨ ((s.mode = 1 ∨ s.mode = 2) ∧ ¬follows)
      let fits := s.longestProgram ≤ min (cyclesFor (s.obj O.engineFrequency) (s.obj O.engineSpread) v - 256) 32768
      (wrong → Refuses s (.tickRateWrite src words) src rcMode) ∧
      (¬wrong → ∀ d, s.rateFault v = some d → Passes (s.setDiag d) src O.tickRate words true true true → Answers s (.tickRateWrite src words) src rcRange (fun u => u = s.setDiag d)) ∧
      (¬wrong → s.rateFault v = none →
        (¬fits → Refuses s (.tickRateWrite src words) src rcRange) ∧
        (fits → (s.rateSeq ≠ none ∨ s.clk.engSeq ≠ none) → Refuses s (.tickRateWrite src words) src rcBusy) ∧
        (fits → s.rateSeq = none → s.clk.engSeq = none → Answers s (.tickRateWrite src words) src rcOk (fun u => u.rateSeq = some (v, false) ∧
          u.obj O.tickSourceStatus = 1 ∧ .rateChange ∈ u.mutes ∧ u.obj O.tickRate = s.obj O.tickRate ∧
          u.mem = s.mem ∧ u.eng = s.eng ∧ u.til = s.til)))) ∧
    ((s.allSilent = false ∨ ∀ r, s.rateSeq ≠ some (r, false)) → exec .tickRateStop s = .next s) ∧
    (∀ r, s.rateSeq = some (r, false) → s.allSilent = true → ∃ t, exec .tickRateStop s = .next t ∧ t.rateSeq = some (r, true) ∧ t.mem = s.finishTick.mem ∧ t.eng = s.finishTick.eng ∧
      t.clk.mediaGated = (mediaHz r != mediaHz (s.finishTick.obj O.tickRate))) ∧
    ((s.clk.mediaGated = true ∨ s.relocking = true ∨ ∀ r, s.rateSeq ≠ some (r, true)) → exec .tickRateRestart s = .next s) ∧
    (∀ r, s.rateSeq = some (r, true) → s.clk.mediaGated = false → s.relocking = false → s.clk.lostWait = none → ∃ t, exec .tickRateRestart s = .next t ∧ t.rateSeq = none ∧
      t.obj O.tickRate = r ∧ t.obj O.mediaFamily = (if r % 11025 = 0 then 1 else 0) ∧ t.clk.relock = [] ∧
      t.obj O.tickSourceStatus = (if s.obj O.mediaState = 3 then 2 else if s.obj O.mediaState = 1 then 1 else s.clk.prevStatus) ∧
      t.obj O.cyclesPerTick = s.obj O.engineFrequency * 1000 * (400 - spreadLoss (s.obj O.engineSpread)) / (400 * r) ∧
      t.obj O.hopBudget = 2304000 / r ∧ .rateChange ∉ t.mutes ∧ t.mem = s.mem ∧ t.eng = s.eng)

/-- A frequency or spread outside Run is refused with "not in this mode", above the grade or where a program no longer fits as out of range, during a sequence with BUSY; accepted, it starts the sequence and mutes, and the values in force stay until the PLL locks. The engines stop after the fade. A waiting PLL locks, the engine PLL with the sequence's values, the media PLL ungated. A lost lock gates its PLL and counts; the engine PLL raises its cause, the SerDes PLL takes every active link down, the media PLL holds. REF lost gates every locked PLL and has the media PLL hold the crystal, REF restored lets them acquire. ClkOutConfig refuses a reserved source and a change of an enabled output's format or source. (R65, R790, R791, R797, R800, R803, R805, R806, R807, R808, R810, R811) -/
def Obligations.EngineClockAndPlls : Prop :=
  ∀ (s : State) (src : Src) (n : Fin 4) (p : Fin 5) (words : List (BitVec 32)),
    let v := wordsNat words
    let can := fun (i : Instr) (khz spread : Nat) =>
      let fits := khz ≤ s.obj O.speedGrade * 100000 ∧ s.longestProgram ≤ min (cyclesFor khz spread (s.obj O.tickRate) - 256) 32768
      (s.obj O.powerState ≠ 0 → Refuses s i src rcMode) ∧
      (s.obj O.powerState = 0 → ¬fits → Refuses s i src rcRange) ∧
      (s.obj O.powerState = 0 → fits → (s.rateSeq ≠ none ∨ s.clk.engSeq ≠ none) → Refuses s i src rcBusy) ∧
      (s.obj O.powerState = 0 → fits → s.rateSeq = none → s.clk.engSeq = none → Answers s i src rcOk (fun u =>
        u.clk.engSeq = some { khz := khz, spread := spread, stopped := false } ∧ u.obj O.enginePllState = 1 ∧ .engineClock ∈ u.mutes ∧
        u.obj O.engineFrequency = s.obj O.engineFrequency ∧ u.obj O.engineSpread = s.obj O.engineSpread ∧ u.mem = s.mem ∧ u.eng = s.eng))
    (Passes s src O.engineFrequency words true true true → can (.engineFrequency src words) v (s.obj O.engineSpread)) ∧
    (Passes s src O.engineSpread words true true true → can (.engineSpread src words) (s.obj O.engineFrequency) v) ∧
    ((s.allSilent = false ∨ ∀ q, s.clk.engSeq = some q → q.stopped = true) → exec .engineClockStop s = .next s) ∧
    (∀ q, s.clk.engSeq = some q → q.stopped = false → s.allSilent = true → ∃ t, exec .engineClockStop s = .next t ∧ t.mem = s.finishTick.mem ∧ t.eng = s.finishTick.eng ∧
      t.clk.engLock = false ∧ t.clk.engSeq = some { q with stopped := true }) ∧
    (s.pllWaits p.val = false → exec (.pllLocked p) s = .next s) ∧
    (s.pllWaits p.val = true → ∃ t, exec (.pllLocked p) s = .next t ∧ t.obj (pllStateObj p.val) = (if p = 0 ∧ s.clk.lostWait ≠ none then 3 else 2) ∧ t.mem = s.mem ∧ t.eng = s.eng ∧
      (p = 0 → t.clk.mediaGated = false) ∧
      (p = 1 → t.clk.engLock = true ∧ ∀ q, s.clk.engSeq = some q → t.clk.engSeq = none ∧ t.obj O.engineFrequency = q.khz ∧ t.obj O.engineSpread = q.spread ∧ .engineClock ∉ t.mutes) ∧
      (2 ≤ p.val → t = (s.setObj (pllStateObj p.val) 2).event 0x0C03 p.val)) ∧
    (p = 0 → (s.obj O.mediaState ≠ 2 ∨ s.rateSeq ≠ none) → exec (.pllLockLost p) s = .next s) ∧
    (p = 0 → s.obj O.mediaState = 2 → s.rateSeq = none → ∃ t, exec (.pllLockLost p) s = .next t ∧ t.obj O.mediaState = 3 ∧ t.obj O.tickSourceStatus = 2 ∧
      t.obj O.safeMuteCause = s.obj O.safeMuteCause ||| 1 ∧ t.mem = s.mem ∧ t.eng = s.eng) ∧
    (p ≠ 0 → s.obj (pllStateObj p.val) ≠ 2 → (p ≠ 1 ∨ s.clk.engLock = false) → exec (.pllLockLost p) s = .next s) ∧
    (p ≠ 0 → (s.obj (pllStateObj p.val) = 2 ∨ (p = 1 ∧ s.clk.engLock = true)) → ∃ t, exec (.pllLockLost p) s = .next t ∧ t.obj (pllStateObj p.val) = 3 ∧
      t.obj (pllLossObj p.val) = satAdd 32 (s.obj (pllLossObj p.val)) 1 ∧ t.mem = s.mem ∧ t.eng = s.eng ∧
      (p = 1 → t.clk.engLock = false ∧ t.obj O.safeMuteCause = s.obj O.safeMuteCause ||| 2) ∧
      (∀ k, t.linkState k = if p = 3 ∧ 2 ≤ s.linkState k then 1 else s.linkState k)) ∧
    (s.obj O.refState ≠ 0 → exec .refLost s = .next s) ∧
    (s.obj O.refState = 0 → ∃ t, exec .refLost s = .next t ∧ t.obj O.refState = 1 ∧ t.mem = s.mem ∧ t.eng = s.eng ∧
      (s.clk.source = 0 → s.obj O.mediaState ≠ 0 → (s.rateSeq = none ∨ s.clk.mediaGated = false) → t.obj O.mediaState = 3) ∧
      (p ≠ 0 → t.obj (pllStateObj p.val) = if s.obj (pllStateObj p.val) = 2 ∨ (p = 1 ∧ s.clk.engLock = true) then 3 else s.obj (pllStateObj p.val))) ∧
    (s.obj O.refState ≠ 1 → exec .refRestored s = .next s) ∧
    (s.obj O.refState = 1 → ∃ t, exec .refRestored s = .next t ∧ t.obj O.refState = 0 ∧ t.mem = s.mem ∧ t.eng = s.eng ∧
      (p ≠ 0 → t.obj (pllStateObj p.val) = if s.obj (pllStateObj p.val) = 3 then 1 else s.obj (pllStateObj p.val))) ∧
    (Passes s src (O.clkOutConfig n.val) words true true true →
      let old := s.obj (O.clkOutConfig n.val)
      let bad := v / 2 ^ 29 % 4 = 3 ∨ (old.testBit 31 = true ∧ (v / 2 ^ 29 % 4 ≠ old / 2 ^ 29 % 4 ∨ v / 2 ^ 24 % 4 ≠ old / 2 ^ 24 % 4))
      (bad → Refuses s (.clkOutConfig src n words) src rcRange) ∧
      (¬bad → Performs s (.clkOutConfig src n words) src (s.setObj (O.clkOutConfig n.val) v)))

/-- An accepted write of a Patchbay object waits for the boundary as the last of its object; nothing else changes, but for the free delay pool. A delay beyond its reserve, a reserve below its delay or above the pool, a band with a reserved type, a frequency, Q or gain outside its limits or at 0.45 of the rate or above, and a malformed source group are out of range. A full meter window reports each output's peak and mean power and starts anew. The start enables the four ports, takes 48 kHz and the tick source that R777 names, and runs; while the table is sent it waits. (R431, R775, R777, R778, R779, R781, R782, R783, R784, R785, R786, R787) -/
def Obligations.PatchbayObjectsMetersAndStart : Prop :=
  ∀ (s : State) (src : Src) (o : Fin 1024) (k : Fin 16) (b : Fin 8) (g : Fin 64) (words : List (BitVec 32)) (sap0 : Bool),
    let v := wordsNat words
    let decides := fun (i : Instr) (a : Nat) (ok : Prop) => Passes s src a words true true true →
      (ok → Performs s i src (s.pend a v)) ∧ (¬ok → Refuses s i src rcRange)
    let reserve := s.objSoon (O.delayReserve o.val)
    let delay := s.objSoon (O.outputDelay o.val)
    let freq := v / 2 ^ 32 % 2 ^ 25
    let q := v / 2 ^ 16 % 2 ^ 16
    let gain := (BitVec.ofNat 16 v).toInt
    let follows := s.joined = true ∧ s.isOrigin = false
    decides (.crossGain src o k words) (O.crossGain (16 * o.val + k.val)) True ∧
    decides (.crossSource src o k words) (O.crossSource (16 * o.val + k.val)) True ∧
    decides (.outputDelay src o words) (O.outputDelay o.val) (v = 0 ∨ v + 1 ≤ reserve) ∧
    decides (.eqBand src o b words) (O.eqBand (8 * o.val + b.val)) (v / 2 ^ 60 ≤ 5 ∧ v / 2 ^ 57 % 8 = 0 ∧ 20000 ≤ freq ∧ freq ≤ 20000000 ∧ 100 ≤ q ∧ q ≤ 20000 ∧
      -1536 ≤ gain ∧ gain ≤ 1536 ∧ freq * 20 < 9 * s.obj O.tickRate * 1000) ∧
    decides (.sourceGroup src g words) (O.sourceGroup g.val) (v = 0 ∨ (v.testBit 31 = true ∧ v / 2 ^ 28 % 8 = 0 ∧ v / 2 ^ 6 % 1024 = 0)) ∧
    (Passes s src (O.delayReserve o.val) words true true true → let ok := (delay = 0 ∨ delay + 1 ≤ v) ∧ v ≤ s.obj O.delayPoolFree + reserve
      (ok → Performs s (.delayReserve src o words) src ((s.setObj O.delayPoolFree (s.obj O.delayPoolFree + reserve - v)).pend (O.delayReserve o.val) v)) ∧
      (¬ok → Refuses s (.delayReserve src o words) src rcRange)) ∧
    (s.obj O.patchbayState ≠ 2 ∨ s.pb.window ≠ 2400 → exec .meterWindow s = .next s) ∧
    (s.obj O.patchbayState = 2 → s.pb.window = 2400 → ∃ t, exec .meterWindow s = .next t ∧ t.pb.window = 0 ∧ t.pb.peak = [] ∧ t.pb.power = [] ∧ t.mem = s.mem ∧ t.eng = s.eng ∧
      t.obj (O.meterPeak o.val) = min (2 ^ 31 - 1) (aGet 0 s.pb.peak o.val) ∧
      ∃ r : Int, NearestEven ((aGet 0 s.pb.power o.val : Nat) : Int) (2400 * 2 ^ 31) r ∧ t.obj (O.meterPower o.val) = min (2 ^ 31 - 1) r.toNat) ∧
    (s.obj O.patchbayState ≠ 1 ∨ (s.obj O.setupTableResult ≠ 0 ∧ s.per ≠ none) → exec (.patchbayStart sap0) s = .next s) ∧
    (s.obj O.patchbayState = 1 → s.per = none → (s.obj O.setupTableResult ≠ 0 ∨ s.chooseTable.1 = none) → ∃ t, exec (.patchbayStart sap0) s = .next t ∧
      t.obj O.patchbayState = 2 ∧ t.eng = s.eng ∧ t.pb = Patchbay.reset ∧ (∀ p : Fin 4, t.obj (O.portEnable p.val) = 1) ∧ (¬follows → t.obj O.tickRate = 48000) ∧
      t.obj O.tickSource = (if follows then 6 else if sap0 then 1 else 0) ∧
      t.obj O.setupTableResult = if s.obj O.setupTableResult = 0 then s.chooseTable.2.1 else s.obj O.setupTableResult)

/-- KeyRevoke burns exactly its bit, and is refused with "not in this mode" for the key slot of the running image. RollbackAdvance outside its limits is out of range; else it burns the bits from the counter up to the one before the value, stopping at a bit that does not take, which counts. A trial image confirms itself by ImageConfirm under policy 1 (policy 0 refuses, log entry 53) and by the delay under policy 0 after a passed self-test: CONFIRM is zero, the update state 0, the counter at SECVER with AutoRollback. A due snapshot is written to its area, or deferred and counted while a shed stage is in force; an unchanged one does nothing. StartMode writes a configuration record. (R720, R745, R747, R748, R749, R750, R755, R763, R765, R767, R769) -/
def Obligations.FusesConfirmationAndKeepRecords : Prop :=
  ∀ (s : State) (src : Src) (words : List (BitVec 32)) (fail : Option (Fin 128)) (healthy : Bool), Memory.wf s.mem → aWf 0xFF#8 s.flash = true →
    let v := wordsNat words
    let trial := s.obj O.bootSlot < 2 ∧ s.obj O.bootConfirmed = 0
    let confirmed := fun (t : State) => t.obj O.bootConfirmed = 1 ∧ t.obj O.updateState = 0 ∧ t.mem = s.mem ∧ t.eng = s.eng ∧
      hdr (t.slotHeader (s.obj O.bootSlot)) 0x208 4 = 0 ∧
      (s.obj O.autoRollback ≠ 1 → t.fuses = s.fuses) ∧ (s.obj O.autoRollback = 1 → s.obj O.bootSecVer ≤ 128 → t.rollback = max s.rollback (s.obj O.bootSecVer))
    let record := fun (t : State) (kind i : Nat) (payload : List Byte) =>
      let l := keepRecord kind (s.obj O.keepLastSeq + 1) s.tick payload
      memBytes t.mem (keepSlot kind i) l.length = l
    let onlyKeep := fun (t : State) => ∀ b, isKeep b = false → memByte t.mem b = memByte s.mem b
    let snapshot := fun (t : State) => t.eng = s.eng ∧ (80 + pad8 s.snapshotBytes.length ≤ 0x200000 → (∃ i, i < 2 ∧ record t 3 i s.snapshotBytes) ∧ onlyKeep t)
    let deferred := (s.count O.keepSnapshotsDeferred 32 1).event 0x0B09 0
    (Passes s src O.keyRevoke words true true true →
      let running := s.obj O.bootSlot ≠ 0xFF ∧ v = s.obj O.bootKeySlot
      (running → Refuses s (.keyRevoke src words) src rcMode) ∧
      (¬running → Answers s (.keyRevoke src words) src rcOk (fun u => (∀ b, b ∈ u.fuses ↔ b = 1220 + v ∨ b ∈ s.fuses) ∧ u.obj O.keysRevoked = u.fuseField 1220 3 ∧
        u.mem = s.mem ∧ u.eng = s.eng))) ∧
    (Passes s src O.rollbackAdvance words true true true →
      let ok := s.rollback ≤ v ∧ v ≤ s.obj O.bootSecVer
      let stuck := ∃ f : Fin 128, fail = some f ∧ s.rollback ≤ f.val ∧ f.val < v
      (¬ok → Refuses s (.rollbackAdvance src words fail) src rcRange) ∧
      (ok → Answers s (.rollbackAdvance src words fail) src rcOk (fun u => u.mem = s.mem ∧ u.eng = s.eng ∧
        (∀ b, b ∈ u.fuses ↔ b ∈ s.fuses ∨ (1228 + s.rollback ≤ b ∧ b < 1228 + v ∧ ∀ f : Fin 128, fail = some f → s.rollback ≤ f.val → b < 1228 + f.val)) ∧
        (v ≤ 128 → ¬stuck → u.rollback = v) ∧ u.obj O.rollbackCounter = u.rollback ∧
        (stuck → u.obj O.fuseFailures = satAdd 32 (s.obj O.fuseFailures) 1) ∧ (¬stuck → u.obj O.fuseFailures = s.obj O.fuseFailures)))) ∧
    (Passes s src O.imageConfirm words true true true →
      (s.obj O.confirmPolicy ≠ 1 → Refuses s (.imageConfirm src words) src rcMode) ∧
      (s.obj O.confirmPolicy = 1 → ¬trial → Performs s (.imageConfirm src words) src s) ∧
      (s.obj O.confirmPolicy = 1 → trial → Answers s (.imageConfirm src words) src rcOk confirmed)) ∧
    ((s.obj O.confirmPolicy ≠ 0 ∨ ¬trial ∨ healthy = false) → exec (.confirmDelayExpiry healthy) s = .next s) ∧
    (s.obj O.confirmPolicy = 0 → trial → healthy = true → ∃ t, exec (.confirmDelayExpiry healthy) s = .next t ∧ confirmed t) ∧
    (Passes s src O.keepSnapshotNow words true true true →
      (s.keepPayload 3 = some s.snapshotBytes → Performs s (.keepSnapshotNow src words) src s) ∧
      (s.keepPayload 3 ≠ some s.snapshotBytes → s.obj O.hullShedStage ≠ 0 → Performs s (.keepSnapshotNow src words) src deferred) ∧
      (s.keepPayload 3 ≠ some s.snapshotBytes → s.obj O.hullShedStage = 0 → Answers s (.keepSnapshotNow src words) src rcOk snapshot)) ∧
    (let due := s.serving = true ∧ s.obj O.keepSnapshotPeriod ≠ 0 ∧ s.obj O.hullReady = 1 ∧ s.clk.monitor = false;
      ((¬due ∨ s.keepPayload 3 = some s.snapshotBytes) → exec .keepSnapshotPeriod s = .next s) ∧
      (due → s.keepPayload 3 ≠ some s.snapshotBytes → s.obj O.hullShedStage ≠ 0 → exec .keepSnapshotPeriod s = .next deferred) ∧
      (due → s.keepPayload 3 ≠ some s.snapshotBytes → s.obj O.hullShedStage = 0 → ∃ t, exec .keepSnapshotPeriod s = .next t ∧ snapshot t)) ∧
    (Passes s src O.startMode words true true true → Answers s (.startMode src words) src rcOk (fun u => u.obj O.startMode = v ∧ u.eng = s.eng ∧ onlyKeep u ∧
      ∃ i, i < 16 ∧ record u 1 i [BitVec.ofNat 8 v, 0, 0, 0]))

/-- An accepted update is checked; a failed check or comparison ends it with state 6 and its code, the running slot and a slot not yet written untouched. A good one stands in the slot that is not running, COMMIT zero, and the state is 4. UpdateActivate is refused unless the state is 4; accepted, the Hull core restarts: its queue is empty and closed, the loader idle, and a slot boots or Recovery is entered. Loader commands outside Recovery are refused with "not in this mode", during another with BUSY; verify and run starts the staged image with the window off or records its code; verify and program writes it and restarts; staging clear zeroes the area. The watchdog counts and restarts the Hull core alone. (R23, R24, R738, R739, R741, R752, R753, R754, R758, R761, R856) -/
def Obligations.UpdateLoaderAndWatchdog : Prop :=
  ∀ (s : State) (src : Src) (words : List (BitVec 32)) (readback : Bool), aWf 0xFF#8 s.flash = true →
    let c := s.updateCode s.update
    let other := s.otherSlot
    let untouched := fun (t : State) (slot : Nat) => ∀ b, (b < slotBase slot ∨ slotBase slot + 0x4000000 ≤ b) → aGet 0xFF#8 t.flash b = aGet 0xFF#8 s.flash b
    let holds := fun (t : State) (slot : Nat) (img : List Byte) => hdr (t.slotHeader slot) 0x200 4 = 0 ∧
      ∀ b, b < 0x4000000 → (b < 0x200 ∨ 0x1000 ≤ b) → ∀ x, img[b]? = some x → aGet 0xFF#8 t.flash (slotBase slot + b) = x
    let restarted := fun (t : State) => t.fwQueue = [] ∧ t.aon.activate = false ∧ t.obj O.hullReady = 0 ∧ t.obj O.loaderState = 0 ∧ t.fuses = s.fuses
    let h := s.stagedHeader
    let r := s.loaderVerify
    let fails := fun (code : Nat) (t : State) => t.obj O.loaderState = 3 ∧ t.obj O.loaderResult = code ∧ t.obj O.bootSlot = s.obj O.bootSlot ∧ t.eng = s.eng ∧ t.fuses = s.fuses
    let pc := programCode s.stagedImage (memBytes r.2.mem payloadBase (hdr s.stagedImage 0x10 4))
    (s.obj O.updateState ≠ 1 → exec (.updateComplete readback) s = .next s) ∧
    (s.obj O.updateState = 1 → (c ≠ 0 ∨ readback = false) → ∃ t, exec (.updateComplete readback) s = .next t ∧ t.obj O.updateState = 6 ∧
      t.obj O.updateResult = (if c ≠ 0 then c else 10) ∧ t.update = [] ∧ t.obj O.domainStagingFree = s.obj O.domainStagingFree + s.update.length ∧
      t.mem = s.mem ∧ t.eng = s.eng ∧ t.fuses = s.fuses ∧ (c ≠ 0 → t.flash = s.flash) ∧ (s.update.length ≤ 0x4000000 → untouched t other)) ∧
    (s.obj O.updateState = 1 → c = 0 → readback = true → ∃ t, exec (.updateComplete readback) s = .next t ∧ t.obj O.updateState = 4 ∧ t.obj O.updateTargetSlot = other ∧
      t.update = [] ∧ t.mem = s.mem ∧ t.eng = s.eng ∧ t.fuses = s.fuses ∧ (s.update.length ≤ 0x4000000 → untouched t other ∧ holds t other s.update)) ∧
    (Passes s src O.updateActivate words true true true →
      (s.obj O.updateState ≠ 4 → Refuses s (.updateActivate src words) src rcMode) ∧
      (s.obj O.updateState = 4 → Answers s (.updateActivate src words) src rcOk (fun u => restarted u ∧
        (u.obj O.bootSlot < 2 ∨ (u.obj O.bootSlot = 0xFF ∧ (u.mode = 1 ∨ u.mode = 6) ∧ u.clk.monitor = true ∧ u.obj O.patchbayState = 1))))) ∧
    (let gates := fun (i : Instr) (fits : Prop) (good : Prop) =>
        (s.mode ≠ 1 → Refuses s i src rcMode) ∧ (s.mode = 1 → ¬fits → Refuses s i src rcRange) ∧
        (s.mode = 1 → fits → (s.obj O.loaderState = 1 ∨ s.obj O.loaderState = 2) → Refuses s i src rcBusy) ∧
        (s.mode = 1 → fits → s.obj O.loaderState ≠ 1 → s.obj O.loaderState ≠ 2 → good);
      (Passes s src O.loaderCommand [1] true true true → gates (.verifyAndRun src) True
        ((r.1 = 1 → Answers s (.verifyAndRun src) src rcOk (fun u => u.obj O.bootSlot = 2 ∧ u.obj O.bootGeneration = hdr h 8 4 ∧ u.obj O.bootConfirmed = 0 ∧
          u.obj O.updateState = 0 ∧ u.obj O.loaderState = 0 ∧ u.obj O.loaderResult = 1 ∧ u.obj O.hullReady = 0 ∧ u.xip.enable = false ∧ u.eng = s.eng ∧ u.flash = s.flash)) ∧
         (r.1 ≠ 1 → Answers s (.verifyAndRun src) src rcOk (fun u => fails r.1 u ∧ u.flash = s.flash)))) ∧
      (Passes s src O.loaderCommand [2] true true true → gates (.verifyAndProgram src readback) (hdr h 0x1C 4 * 4096 ≤ 0x1000 + hdr h 0x10 4)
        ((r.1 ≠ 1 → Answers s (.verifyAndProgram src readback) src rcOk (fun u => fails r.1 u ∧ u.flash = s.flash)) ∧
         (r.1 = 1 → pc ≠ 0 → Answers s (.verifyAndProgram src readback) src rcOk (fun u => fails pc u ∧ u.flash = s.flash)) ∧
         (r.1 = 1 → pc = 0 → readback = false → Answers s (.verifyAndProgram src readback) src rcOk (fails 10)) ∧
         (r.1 = 1 → pc = 0 → readback = true → Answers s (.verifyAndProgram src readback) src rcOk (fun u => restarted u ∧ u.obj O.loaderResult = 1)))) ∧
      (Passes s src O.loaderCommand [3] true true true → gates (.stagingClear src) True (Answers s (.stagingClear src) src rcOk (fun u => u.eng = s.eng ∧ u.flash = s.flash ∧
        ∀ b, memByte u.mem b = if 0x10000000 ≤ b ∧ b < 0x10201000 then 0 else memByte s.mem b)))) ∧
    ((s.life ≠ .up ∨ 3 ≤ s.obj O.powerState) → exec .hullWatchdogExpiry s = .next s) ∧
    (s.life = .up → s.obj O.powerState < 3 → ∃ t, exec .hullWatchdogExpiry s = .next t ∧ restarted t ∧
      t.obj O.hullWatchdogResets = (s.obj O.hullWatchdogResets + 1) % 2 ^ 32 ∧
      (s.aon.activate = false → s.clk.monitor = true → (∀ m, s.til.mig = some m → s.obj O.migrationState ≠ 1 ∧ (m.warm = false ∨ m.switched = true)) → t.eng = s.eng ∧ t.obj O.bootSlot = s.obj O.bootSlot ∧ t.mode = s.mode))

/-- A reset takes the device to its reset state with ResetCause and count, and keeps flash, fuses and the Keep store; one that runs goes on, and after a thermal shutdown only RESET_N ends it; the release with PWRGD high begins the fill, whose end releases the ROM: by BOOTSEL it enters Recovery, Patchbay, Service where the debug lock is not fused, or boots a slot or Recovery. PowerRequest is refused as R816 lists; in Run it starts the fade, below Run it goes down to its state, PLLs and banks as each step says. The gate waits for silence, then goes to the target state, or back to Run at a wake that came. An enabled wake effective in the state brings the device back to Run, from Dormant by a reset with cause 2; without REF it waits. (R28, R29, R30, R43, R655, R804, R812, R814, R816, R820, R822, R836) -/
def Obligations.ResetReleaseAndPowerLadder : Prop :=
  ∀ (s : State) (power : Bool) (bootsel : Fin 4) (lpddr : Fin 16385) (f : FlashStart) (mib : BitVec 16) (src : Src) (words : List (BitVec 32)),
    let p := s.obj O.powerState
    let v := wordsNat words
    let acquiring := fun (t : State) => t.obj O.enginePllState = 1 ∧ t.obj O.mediaState = 1 ∧ t.obj (O.pllState 0) = 1 ∧ t.obj (O.pllState 1) = 1 ∧ t.obj (O.pllState 2) = 1
    let anew := fun (t : State) => t.flash = s.flash ∧ t.fuses = s.fuses ∧ t.pending = s.pending ∧ t.eng = State.reset.eng ∧ t.sessions = [] ∧ t.fwQueue = [] ∧
      (∀ a, memByte t.mem a = if isKeep a = true then memByte s.mem a else 0) ∧ t.aon.shutdownTemp = s.aon.shutdownTemp ∧ t.obj O.resetCount = (s.obj O.resetCount + 1) % 2 ^ 32
    let caused := s.clk.muteLow = true ∨ s.obj O.safeMuteCause ≠ 0
    let recovery := fun (t : State) => t.mode = (if caused then 6 else 1) ∧ t.clk.monitor = true ∧ t.obj O.bootSlot = 0xFF ∧ t.obj O.patchbayState = 1
    let goesOn := s.life = .inReset ∨ (s.life = .stopped ∧ power = true)
    (goesOn → exec (.reset power) s = .next { s with clk := { s.clk with resetN := s.clk.resetN && power, pwrgd := s.clk.pwrgd && !power } }) ∧
    (¬goesOn → ∃ t, exec (.reset power) s = .next t ∧ anew t ∧ t.life = .inReset ∧ t.obj O.resetCause = (if power then 0 else if s.life = .stopped then 3 else 1) ∧
      t.clk.resetN = (s.clk.resetN && power) ∧ t.clk.pwrgd = (s.clk.pwrgd && !power)) ∧
    ((s.life ≠ .inReset ∨ s.clk.resetN = true) → exec (.resetRelease bootsel) s = .next s) ∧
    (s.life = .inReset → s.clk.resetN = false → ∃ t, exec (.resetRelease bootsel) s = .next t ∧ t.clk.resetN = true ∧ t.clk.bootsel = bootsel.val ∧ t.mem = s.mem ∧ t.eng = s.eng ∧
      t.life = (if s.clk.pwrgd then .filling else .inReset) ∧ (s.clk.pwrgd = true → acquiring t)) ∧
    (s.life ≠ .inReset → exec .pwrgdHigh s = .next (if s.life = .stopped then { s with clk := { s.clk with pwrgd := true } } else s)) ∧
    (s.life = .inReset → ∃ t, exec .pwrgdHigh s = .next t ∧ t.clk.pwrgd = true ∧ t.mem = s.mem ∧ t.eng = s.eng ∧
      t.life = (if s.clk.resetN then .filling else .inReset) ∧ (s.clk.resetN = true → acquiring t)) ∧
    (s.life ≠ .filling → exec (.powerOnFillComplete lpddr f mib) s = .next s) ∧
    (s.life = .filling → s.mode = 0 → p = 0 → ∃ t, exec (.powerOnFillComplete lpddr f mib) s = .next t ∧ t.life = .up ∧ t.fuses = s.fuses ∧
      t.obj O.lpddrCapacity = lpddr.val ∧ t.obj O.speedGrade = s.fuseField 1649 7 ∧ t.obj O.engineFrequency = s.fuseField 1649 7 * 100000 ∧
      (s.clk.bootsel = 1 → recovery t ∧ t.obj O.flashMode = (if f.octal && f.checked then 1 else 0) ∧ t.obj O.flashCapacity = mib.toNat ∧ t.xip.bad = f.bad.map (·.toNat)) ∧
      (s.clk.bootsel = 2 → t.mode = (if caused then 6 else 2) ∧ t.clk.monitor = true ∧ t.obj O.patchbayState = 1) ∧
      (s.clk.bootsel = 3 → s.fuseField 1644 4 = 0 → t.mode = 7) ∧
      ((s.clk.bootsel = 0 ∨ (s.clk.bootsel = 3 ∧ s.fuseField 1644 4 ≠ 0)) → (t.mode = 0 ∧ t.obj O.bootSlot < 2) ∨ recovery t)) ∧
    (Passes s src O.powerRequest words true true true →
      let wrong := s.mode = 0 ∨ s.mode = 1 ∨ s.mode = 7 ∨ (2 ≤ v ∧ ((∃ k : Fin 4, s.obj (O.runsForwarded k.val) ≠ 0) ∨ (s.joined = true ∧ s.isOrigin = true ∧ 1 < s.obj O.memberCount)))
      let busy := (1 ≤ s.obj O.migrationState ∧ s.obj O.migrationState ≤ 4) ∨ s.rateSeq ≠ none ∨ s.clk.engSeq ≠ none ∨ s.obj O.graphState = 1 ∨ s.clk.powTarget ≠ 0
      (wrong → Refuses s (.powerRequest src words) src rcMode) ∧
      (¬wrong → v ≤ p → Refuses s (.powerRequest src words) src rcRange) ∧
      (¬wrong → p < v → busy → Refuses s (.powerRequest src words) src rcBusy) ∧
      (¬wrong → p < v → ¬busy →
        (p = 0 → Performs s (.powerRequest src words) src (({ s with clk := { s.clk with powTarget := v, wakePend := none } } : State).mute .power)) ∧
        (p ≠ 0 → Answers s (.powerRequest src words) src rcOk (fun u => u.obj O.powerState = v ∧ u.clk.powTarget = 0 ∧
          (p < 2 → u.obj O.enginePllState = 0 ∧ u.clk.engLock = false) ∧
          (∀ e : Fin 8, u.obj (O.enginePowerBank e.val) = max (s.obj (O.enginePowerBank e.val)) (if 3 ≤ v then 2 else 1)) ∧
          (3 ≤ v → u.obj O.mediaState = 0 ∧ u.aon.mediaWord = some s.mediaOffset ∧ ∀ k, u.portState k = 0) ∧
          (∀ k : Fin 4, 3 ≤ v → u.obj (O.hullPowerBank k.val) = max (s.obj (O.hullPowerBank k.val)) (if 4 ≤ v then 2 else 1)) ∧
          (4 ≤ v → u.obj (O.pllState 0) = 0 ∧ u.obj (O.pllState 1) = 0 ∧ u.obj (O.pllState 2) = 0))))) ∧
    ((s.clk.powTarget = 0 ∨ p ≠ 0 ∨ s.allSilent = false) → exec .coastEngGate s = .next s) ∧
    (s.clk.powTarget ≠ 0 → s.clk.powTarget ≤ 5 → p = 0 → s.allSilent = true → ∃ t, exec .coastEngGate s = .next t ∧ t.clk.powTarget = 0 ∧
      (s.clk.wakePend = none → t.obj O.powerState = s.clk.powTarget ∧ (s.clk.powTarget = 1 → t.mem = s.finishTick.mem ∧ t.eng = s.finishTick.eng ∧
        ∀ k, t.linkState k = if s.finishTick.linkState k = 4 ∨ s.finishTick.linkState k = 5 then 7 else s.finishTick.linkState k)) ∧
      (∀ w, s.clk.wakePend = some w → t.obj O.powerState = 0 ∧ t.obj O.lastWakeCause = w)) ∧
    (let acts := fun (i : Instr) (n limit : Nat) =>
        let on := s.life = .up ∧ (n = 0 ∨ (s.obj O.wakeSources).testBit n = true) ∧ p ≤ limit
        (¬on → exec i s = .next s) ∧
        (on → p = 0 → exec i s = .next (if s.clk.powTarget = 0 then s else { s with clk := { s.clk with wakePend := some n } })) ∧
        (on → p ≠ 0 → p ≤ 2 → s.obj O.refState = 1 → exec i s = .next { s with clk := { s.clk with wakePend := some n } }) ∧
        (on → p ≠ 0 → (2 < p ∨ s.obj O.refState ≠ 1) → ∃ t, exec i s = .next t ∧ t.obj O.lastWakeCause = n ∧ t.clk.powTarget = 0 ∧ t.clk.wakePend = none ∧
          (p < 5 → t.obj O.powerState = 0 ∧ t.life = .up) ∧
          (p = 1 → ∀ k, t.linkState k = if s.linkState k = 7 then 4 else s.linkState k) ∧
          (2 ≤ p → p < 5 → t.obj O.enginePllState = 1) ∧ (3 ≤ p → p < 5 → t.obj O.mediaState = 3 ∧ t.obj O.tickSourceStatus = 2) ∧
          (p = 5 → anew t ∧ t.life = .filling ∧ t.obj O.resetCause = 2 ∧ acquiring t));
      acts (.wake 0) 0 5 ∧ acts (.wake 1) 1 3 ∧ acts (.wake 2) 2 2 ∧
      ((s.obj O.wakeTimer = 0 ∨ p = 0) → exec .wakeTimer s = .next s) ∧
      (s.obj O.wakeTimer ≠ 0 → p ≠ 0 → acts .wakeTimer 3 5))

/-- A mode request whose precondition holds waits for the boundary, any other is refused with "not in this mode". The pending start mode is entered once a graph is placed. MUTE_N low sets its cause and mutes, high clears it. From the release of reset on a temperature sample moves the warning and the Safe-mute cause at their thresholds; at the shutdown threshold everything stops, FAULT_N is low and the temperature is kept. A rail fault is shown and counted. Shed stages follow the load, the average of 4,096 ticks, and a retreat below stage 2 runs what was deferred. The firmware opens its queue, and after a Secure start enters Patchbay. At a boundary in Run TickCount advances, the halves swap, a requested mode or its Safe-mute is entered; in Coast and Doze the halves stay and no engine event is performed: an engine takes only the settings that waited for a boundary. (R20, R21, R22, R28, R31, R32, R33, R36, R40, R42, R68, R849) -/
def Obligations.ModesTemperatureFirmwareStartAndBoundary : Prop :=
  ∀ (s : State) (src : Src) (words : List (BitVec 32)) (temp : BitVec 16) (rail : Fin 9) (mv : BitVec 16) (hull : HullUse) (served : Fin 33),
    let v := wordsNat words
    let p := s.obj O.powerState
    let sc := s.obj O.safeMuteCause
    let T := temp.toInt
    let same := fun (t : State) => t.mem = s.mem ∧ t.eng = s.eng
    let low : State := { s with clk := { s.clk with muteLow := true } }
    let high : State := { s with clk := { s.clk with muteLow := false } }
    (Passes s src O.modeRequest words true true true →
      let placed := s.obj O.graphState = 2 ∨ s.obj O.graphState = 3
      let ready := ((v = 3 ∨ v = 4) → placed) ∧ (v = 5 → placed ∧ s.obj O.fabricState = 3)
      let ok := s.mode ≠ 0 ∧ s.mode ≠ 7 ∧ p = 0 ∧ (s.mode = 6 → sc = 0) ∧ (ready ∨ (s.mode = 6 ∧ v = s.obj O.resumeMode))
      (ok → Performs s (.modeRequest src words) src (({ s with pendMode := some (v, 7) } : State).setObj O.pendingStartMode 0)) ∧
      (¬ok → Refuses s (.modeRequest src words) src rcMode)) ∧
    (let pend := s.obj O.pendingStartMode
      let now := pend ≠ 0 ∧ s.obj O.graphState = 2 ∧ (pend = 5 → s.obj O.fabricState = 3) ∧ 1 ≤ s.mode ∧ s.mode ≤ 5 ∧ p = 0;
      (¬now → exec .pendingStartModeEntry s = .next s) ∧
      (now → ∃ t, exec .pendingStartModeEntry s = .next t ∧ t.mode = pend ∧ t.obj O.modeCause = 8 ∧ t.obj O.pendingStartMode = 0 ∧
        (3 ≤ pend → same t ∧ t.obj O.patchbayState = 0 ∧ (s.obj O.patchbayState ≠ 0 → .modeChange ∈ t.mutes)))) ∧
    ((s.life ≠ .up ∨ 3 < p) → exec .muteNAssert s = .next low) ∧
    (s.life = .up → p ≤ 3 → ∃ t, exec .muteNAssert s = .next t ∧ same t ∧ t.clk.muteLow = true ∧ t.obj O.safeMuteCause = sc ||| 16 ∧
      (p = 0 → s.mode ≠ 0 → s.mode ≠ 6 → s.mode ≠ 7 → t.mode = 6 ∧ .safeMute ∈ t.mutes ∧ t.pendMode = none ∧ t.obj O.resumeMode = ((s.pendMode.map (·.1)).getD s.mode)) ∧
      (p = 0 → s.mode = 7 → t.mode = 7 ∧ .muteInService ∈ t.mutes) ∧
      ((p ≠ 0 ∨ s.mode = 0 ∨ s.mode = 6) → t.mode = s.mode ∧ t.mutes = s.mutes)) ∧
    (s.life ≠ .up → exec .muteNRelease s = .next high) ∧
    (s.life = .up → ∃ t, exec .muteNRelease s = .next t ∧ same t ∧ t.clk.muteLow = false ∧ t.mode = s.mode ∧ .muteInService ∉ t.mutes ∧
      ∀ b : Fin 32, (t.obj O.safeMuteCause).testBit b.val = (sc.testBit b.val && b != 4)) ∧
    (s.life = .inReset ∨ s.life = .stopped → exec (.thermalSample temp) s = .next s) ∧
    (s.life = .filling ∨ s.life = .up → T < 1920 → ∃ t, exec (.thermalSample temp) s = .next t ∧ same t ∧ t.life = s.life ∧ t.obj O.dieTemperature = (BitVec.ofInt 32 T).toNat ∧
      (BitVec.ofNat 32 (t.obj O.peakTemperature)).toInt = max (BitVec.ofNat 32 (s.obj O.peakTemperature)).toInt T ∧
      t.clk.warn = (if s.clk.warn then decide (1552 ≤ T) else decide (1600 ≤ T)) ∧
      (∀ b : Fin 32, (t.obj O.safeMuteCause).testBit b.val = if b = 2 then (if sc.testBit 2 then decide (1680 < T) else decide (1760 ≤ T)) else sc.testBit b.val) ∧
      (1760 ≤ T → sc.testBit 2 = false → p = 0 → s.mode ≠ 0 → s.mode ≠ 7 → t.mode = 6)) ∧
    (s.life = .filling ∨ s.life = .up → 1920 ≤ T → ∃ t, exec (.thermalSample temp) s = .next t ∧ t.life = .stopped ∧ t.clk.faultN = true ∧
      t.aon.shutdownTemp = some (BitVec.ofInt 32 T).toNat ∧ t.eng = State.reset.eng ∧ t.flash = s.flash ∧ t.fuses = s.fuses ∧ t.pending = s.pending ∧
      t.obj O.resetCount = s.obj O.resetCount ∧ ∀ b, memByte t.mem b = if isKeep b = true then memByte s.mem b else 0) ∧
    exec (.railFault rail mv) s = .next (if s.life = .up then
      ((s.setObj (O.railVoltage rail.val) mv.toNat).count O.railFaults 32 1).event 0x0C15 (rail.val + mv.toNat * 256) else s) ∧
    (let shed := fun (n : Nat) => (({ s with clk := { s.clk with highTicks := 0, lowTicks := 0 } } : State).setObj O.hullShedStage n).event 0x0301 n;
      exec .shedStageAdvance s = .next (if 4096 ≤ s.clk.highTicks ∧ s.obj O.hullShedStage < 3 then shed (s.obj O.hullShedStage + 1) else s) ∧
      (¬(4096 ≤ s.clk.lowTicks ∧ 0 < s.obj O.hullShedStage) → exec .shedStageRetreat s = .next s) ∧
      (4096 ≤ s.clk.lowTicks → 0 < s.obj O.hullShedStage →
        let u := shed (s.obj O.hullShedStage - 1)
        exec .shedStageRetreat s = .next (if s.til.reopt = true ∧ s.obj O.hullShedStage < 3 then
          ({ u with til := { u.til with reopt := false } } : State).reoptimise else u))) ∧
    ((s.life ≠ .up ∨ 2 < p ∨ s.obj O.hullReady = 1) → exec .hullQueueOpen s = .next s) ∧
    (s.life = .up → p ≤ 2 → s.obj O.hullReady ≠ 1 → ∃ t, exec .hullQueueOpen s = .next t ∧ t.obj O.hullReady = 1 ∧
      (s.clk.monitor = true → t = s.setObj O.hullReady 1) ∧
      (s.clk.monitor = false → s.mode ≤ 1 → s.obj O.bootSlot ≤ 1 → (t.mode = 2 ∧ (t.obj O.modeCause = 8 ∨ t.obj O.modeCause = 9)) ∨ t.mode = 6)) ∧
    (let s1 := State.serveFw served.val s
      let window := ((min hull.busy.toNat hull.total.toNat, hull.total.toNat) :: s1.clk.loads).take 4096
      let load := hullLoadOf window;
      (s.boundariesRun = false → exec (.boundary hull served) s = .next s) ∧
      (s.boundariesRun = true → s1.boundariesRun = false → exec (.boundary hull served) s = .next s1) ∧
      (s.boundariesRun = true → s1.boundariesRun = true → s1.obj O.powerState = 0 → ∃ t, exec (.boundary hull served) s = .next t ∧
        t.obj O.hullLoad = load ∧ t.clk.loads = window ∧ t.clk.highTicks = (if 90 ≤ load then min 4096 (s1.clk.highTicks + 1) else 0) ∧
        t.clk.lowTicks = (if load < 70 then min 4096 (s1.clk.lowTicks + 1) else 0) ∧
        t.io.inHalf = !s1.io.inHalf ∧ t.io.outHalf = !s1.io.outHalf ∧ t.io.exHalf = !s1.io.exHalf ∧
        (s1.net.stepFrom = none → t.obj O.tickCount = (s1.obj O.tickCount + 1) % 2 ^ 48) ∧ t.pendMode = none ∧
        (∀ m c, s1.pendMode = some (m, c) → 1 ≤ m → m ≤ 5 → t.mode = m ∨ (t.mode = 6 ∧ t.obj O.resumeMode = m))) ∧
      (s.boundariesRun = true → s1.boundariesRun = true → s1.obj O.powerState ≠ 0 → s1.clk.wakePend = none → ∃ t, exec (.boundary hull served) s = .next t ∧
        (s1.net.stepFrom = none → t.obj O.tickCount = (s1.obj O.tickCount + 1) % 2 ^ 48) ∧ t.obj O.hullLoad = load ∧
        t.sets = s1.sets ∧ t.io.inHalf = s1.io.inHalf ∧ t.io.outHalf = s1.io.outHalf ∧ t.io.exHalf = s1.io.exHalf ∧
        (s1.pendObjs = [] → (∀ e, t.engine e = (s1.engine e).applyPending) ∧ (s1.obj O.powerState ≠ 1 → t.mem = s1.mem))))

namespace Sys2Proof.Claims
open Sys2Proof Sys2Proof.Machine

/-- The command answers the session of `src` with a result code and the words of a response unit, in a state with property `P`. -/
def Replies (s : State) (i : Instr) (src : Src) (code : Nat) (words : List (BitVec 32)) (P : State → Prop) : Prop :=
  ∃ t, exec i s = .next t ∧ t.resp = some { key := src.key, code := code, words := words } ∧ P t

end Sys2Proof.Claims

/-- START opens a transfer and takes staging for it, discarding and counting an open one, or is refused by the first check that fails. DATA in sequence adds its words; out of sequence, of another number or past the total it discards the transfer with "domain sequence error". END of a wrong count, a padding byte or a wrong CRC discards it; BUSY and "journal full" leave it open; OK closes it and the value takes effect: an update or a graph is accepted for checking, a Keep record stands, the peripheral master runs. ABORT and the timeout give the staging back. READ_START takes a snapshot, READ_DATA returns its words with ones past the end, READ_END releases it. The master's end gives the received words. (R448, R449, R450, R451, R452, R453, R454, R455, R649, R650, R651, R751) -/
def Obligations.DomainTransfersAndThePeripheralMaster : Prop :=
  ∀ (s : State) (src : Src) (a : BitVec 24) (total crc offset : BitVec 32) (seq : BitVec 12) (n : Fin 256) (words : List (BitVec 32)), Memory.wf s.mem →
    let k := src.key
    let x := s.session k
    let free := s.obj O.domainStagingFree
    let now := fun (t : State) (xf : Option Xfer) (sn : Option (Nat × List Byte)) (f : Nat) => (t.session k).xfer = xf ∧ (t.session k).snap = sn ∧ t.obj O.domainStagingFree = f ∧ t.eng = s.eng
    let kept := fun (t : State) => now t x.xfer x.snap free
    let closed := fun (t : State) => now t none none (free + x.staged)
    let opened := fun (xf : Xfer) (b : Nat) => x.xfer = some xf ∧ xf.obj = b
    let never := fun (i : Instr) => s.serving = false → exec i s = .next s
    let startCode : Nat := match s.info a.toNat with
      | none => 1
      | some r =>
        if r.acc = .const ∨ r.acc = .ro then 2 else if s.permits k a.toNat true = false then 3 else if s.domainMode a.toNat = false then 7 else if r.ty ≠ .domain then 5
        else if s.totalOk a.toNat total.toNat = false ∨ free + x.staged < total.toNat then 4
        else if s.xferElsewhere k a.toNat = true ∨ s.canEnter k = false ∨ s.domainRes k a.toNat (List.replicate (total.toNat / 4) 0) = false then 6 else 0
    let ends := fun (i : Instr) (b : Nat) (effect : Xfer → State → Prop) =>
      never i ∧
      (s.serving = true → (∀ xf, ¬opened xf b) → Replies s i src 9 [] kept) ∧
      (∀ xf, s.serving = true → opened xf b →
        let whole := xf.words.length = (xf.total + 3) / 4 ∧ ((wordsBytes xf.words).drop xf.total).all (fun z => z == 0) = true
        let good := crc32c ((wordsBytes xf.words).take xf.total) = crc
        let c := s.endCode k b xf crc
        (¬whole → Replies s i src 9 [] closed) ∧ (whole → ¬good → Replies s i src 10 [] closed) ∧
        (whole → good → (c = 6 ∨ c = 8) → Replies s i src c [] kept) ∧ (whole → good → c ≠ 0 → c ≠ 6 → c ≠ 8 → Replies s i src c [] closed) ∧
        (whole → good → c = 0 → Replies s i src 0 [] (fun t => (t.session k).xfer = none ∧ (t.session k).snap = none ∧ effect xf t)))
    let update := fun (xf : Xfer) (t : State) => t.update = (wordsBytes xf.words).take xf.total ∧ t.obj O.updateState = 1 ∧ t.obj O.updateResult = 0 ∧
      t.obj O.domainStagingFree = free + x.staged - xf.total ∧ t.eng = s.eng
    let user := fun (xf : Xfer) (t : State) => xf.total ≤ 65456 → t.obj O.domainStagingFree = free + x.staged ∧ t.eng = s.eng ∧
      let l := keepRecord 5 (s.obj O.keepLastSeq + 1) s.tick ((wordsBytes xf.words).take xf.total)
      ∃ i, i < 8 ∧ memBytes t.mem (keepSlot 5 i) l.length = l
    let periph := fun (xf : Xfer) (t : State) => t.per = perParse xf.words ∧ t.per ≠ none ∧ t.obj O.periphState = 1 ∧ t.obj O.domainStagingFree = free + x.staged ∧ t.eng = s.eng
    let plain := s.param a.toNat = none
    (never (.domainStart src a total) ∧
      (s.serving = true → startCode ≠ 0 → Replies s (.domainStart src a total) src startCode [] kept) ∧
      (s.serving = true → startCode = 0 → Replies s (.domainStart src a total) src 0 [0x10000000, total] (fun t =>
        now t (some { obj := a.toNat, total := total.toNat, words := [], nextSeq := 0 }) none (free + x.staged - total.toNat) ∧
        t.obj O.domainAborts = if x.xfer ≠ none ∨ x.snap ≠ none then satAdd 32 (s.obj O.domainAborts) 1 else s.obj O.domainAborts))) ∧
    (never (.domainData src a seq n words) ∧
      (s.serving = true → (∀ xf, ¬opened xf a.toNat) → Replies s (.domainData src a seq n words) src 9 [] kept) ∧
      (∀ xf, s.serving = true → opened xf a.toNat →
        let good := seq.toNat = xf.nextSeq ∧ words.length = n.val + 1 ∧ xf.words.length + words.length ≤ (xf.total + 3) / 4
        (good → Replies s (.domainData src a seq n words) src 0 [] (fun t => now t (some { xf with words := xf.words ++ words, nextSeq := (xf.nextSeq + 1) % 4096 }) x.snap free)) ∧
        (¬good → Replies s (.domainData src a seq n words) src 9 [] closed))) ∧
    (plain → ends (.domainEnd src a crc) a.toNat (fun xf t =>
      (a.toNat = O.updateImage → update xf t) ∧ (a.toNat = O.keepUser → user xf t) ∧ (a.toNat = O.periphRequest → periph xf t) ∧
      (a.toNat = O.graphImage → s.obj O.graphState ≠ 1 → s.obj O.graphState ≠ 5 → t.obj O.graphState = 1 ∧
        t.til.checking = some ((wordsBytes xf.words).take xf.total, s.obj O.graphState, s.mode)))) ∧
    (s.param O.updateImage = none → ends (.updateImage src crc) O.updateImage update) ∧
    (s.param O.keepUser = none → ends (.keepUser src crc) O.keepUser user) ∧
    (s.param O.periphRequest = none → ends (.periphRequest src crc) O.periphRequest periph) ∧
    (never (.domainAbort src a) ∧
      (s.serving = true → (∀ xf, ¬opened xf a.toNat) → Replies s (.domainAbort src a) src 9 [] kept) ∧
      (∀ xf, s.serving = true → opened xf a.toNat → Replies s (.domainAbort src a) src 0 [] closed)) ∧
    (never (.readStart src a) ∧ (s.serving = true →
      let l := (s.domainValue a.toNat).1
      let c := s.readStartCode k a.toNat l.length
      (c ≠ 0 → Replies s (.readStart src a) src c [] (fun t => (t.session k).xfer = x.xfer ∧ (t.session k).snap = x.snap)) ∧
      (c = 0 → Replies s (.readStart src a) src 0 [0x10000000, BitVec.ofNat 32 l.length, crc32c l] (fun t => now t none (some (a.toNat, l)) (free + x.staged - l.length))))) ∧
    (never (.readData src a n offset) ∧ (s.serving = true →
      ((∀ l, x.snap ≠ some (a.toNat, l)) → Replies s (.readData src a n offset) src 9 [] kept) ∧
      (∀ l, x.snap = some (a.toNat, l) → Replies s (.readData src a n offset) src 0
        (BitVec.ofNat 32 (0x20000000 + n.val) :: (List.range (n.val + 1)).map (fun i => (bytesWords l).getD (offset.toNat + i) 0xFFFFFFFF)) (fun t => kept t ∧
          ((l.length + 3) / 4 < offset.toNat + n.val + 1 → t.hsp.flags.testBit 1 = true))))) ∧
    (never (.readEnd src a) ∧ (s.serving = true →
      ((∀ l, x.snap ≠ some (a.toNat, l)) → Replies s (.readEnd src a) src 9 [] kept) ∧
      (∀ l, x.snap = some (a.toNat, l) → Replies s (.readEnd src a) src 0 [0x70000000] closed))) ∧
    (x.xfer = none → x.snap = none → exec (.domainTimeout src) s = .next s) ∧
    ((x.xfer ≠ none ∨ x.snap ≠ none) → ∃ t, exec (.domainTimeout src) s = .next t ∧ closed t ∧ t.obj O.domainAborts = satAdd 32 (s.obj O.domainAborts) 1) ∧
    (s.per = none → exec (.periphDone words) s = .next s) ∧
    (∀ l, s.per = some l → ∃ t, exec (.periphDone words) s = .next t ∧ t.per = none ∧ t.obj O.periphState = 2 ∧ t.mem = s.mem ∧ t.eng = s.eng ∧
      t.obj O.periphTransfers = satAdd 32 (s.obj O.periphTransfers) l.length ∧
      ∀ i : Nat, t.perResp[i]? = ((l.flatMap (fun r => r.tx.map (fun _ => r.bits)))[i]?).map (fun w => BitVec.ofNat 32 ((words.getD i 0).toNat % 2 ^ w)))

/-- A read returns the object's value, or the first check that fails; it changes nothing else, but that the correctable words of a parameter it meets are logged. In cycles 0 to 15 of a boundary window a live-state object, which the model takes to be a read-only one (log entry 85), reads as its snapshot. A write of an object of security and sessions stores it, or is answered by the first check that fails; a write of an object with its own command does what that command does. A firmware-served request that waits enters the queue, if the checks pass it and there is room; its deadline answers BUSY. FetchMode is refused while a block is placed on its engine, or one that a migration places there. A fabric request is performed as the local request; a malformed one and the 17th of a device are refused, and a read with no session entry after the checks that come before. An answer or a timeout of a proxied request ends it. A session without open set or transfer is released. (R74, R106, R432, R435, R439, R441, R442, R443, R446, R447, R456, R604) -/
def Obligations.DictionaryRequestsOfEverySession : Prop :=
  ∀ (s : State) (src : Src) (a : BitVec 24) (words : List (BitVec 32)) (time : ReadTime) (held : Bool) (e : Fin 8) (g : Fin 4096) (dev : BitVec 12) (num : BitVec 8) (k : Fin 4)
      (w0 w1 : BitVec 32) (result : BitVec 8) (tag : BitVec 16),
    let v := wordsNat words
    let full := src.key.isFabric = true ∧ 16 ≤ (s.fwQueue.filter (fun r => r.key.isFabric && r.key.device 0 = src.key.device 0)).length
    let enters := s.serving = true ∧ ¬full ∧ s.fwQueue.length < 32
    let queued := fun (write : Bool) (ws : List (BitVec 32)) => { s with fwQueue := s.fwQueue ++
      [{ key := src.key, link := src.link.val, write := write, addr := a.toNat, words := ws, accepted := s.tick, tag := none }] }
    let readCode := s.checkRead src.key a.toNat ((!perSession a.toNat || s.canEnter src.key) && (!firmwareServed a.toNat false || s.firmwareCan a.toNat false))
    let alike := fun (i : Instr) (o : Nat) => s.param o = none → s.serving = true → ¬full → exec (.dictionaryWrite src (BitVec.ofNat 24 o) words false) s = exec i s
    let later : Prop := time = .held ∧ enters ∧ firmwareServed a.toNat false = true ∧ readCode = 0 ∧ s.readBad a.toNat = none
    let old := time = .early ∧ perSession a.toNat = false ∧ s.param a.toNat = none ∧ ∃ r, objRow a.toNat = some r ∧ r.acc = .ro ∧ r.ty ≠ .domain
    (later → exec (.dictionaryRead src a time) s = .next (queued false [])) ∧
    (¬later → s.serving = false → exec (.dictionaryRead src a time) s = .next s) ∧
    (s.serving = true → full → Replies s (.dictionaryRead src a time) src rcBusy [] (Booked s) ∧ Refuses s (.dictionaryWrite src a words held) src rcBusy) ∧
    (¬later → s.serving = true → ¬full → readCode ≠ 0 → Replies s (.dictionaryRead src a time) src readCode [] (Booked s)) ∧
    (¬later → s.serving = true → ¬full → readCode = 0 → s.readBad a.toNat = none → ∀ r, s.info a.toNat = some r →
      (¬old → Replies s (.dictionaryRead src a time) src 0 (natWords r.words (s.readObj src.key a.toNat)) (Booked (s.readSofts a.toNat))) ∧
      (old → Replies s (.dictionaryRead src a time) src 0 (natWords r.words ((oGet s.liveWas a.toNat).getD (objDefault a.toNat))) (Booked (s.readSofts a.toNat)))) ∧
    (¬later → s.serving = true → ¬full → readCode = 0 → s.readBad a.toNat ≠ none → Replies s (.dictionaryRead src a time) src 11 [] (fun t => t.eng = s.eng)) ∧
    (s.serving = false → exec (.dictionaryWrite src a words held) s = .next s) ∧
    (∀ t, enters → exec (.dictionaryWrite src a words false) s = .next t →
      exec (.dictionaryWrite src a words true) s = .next (if firmwareServed a.toNat true = true ∧ t.resp.map (·.code) = some rcOk then queued true words else t)) ∧
    (0x610000 ≤ a.toNat → a.toNat < 0x630000 → a.toNat ≠ O.proxyTarget → s.param a.toNat = none →
      let c := s.checkWrite src.key a.toNat words {}
      (s.serving = true → ¬full → c = 0 → Performs s (.dictionaryWrite src a words held) src (s.setObj a.toNat v)) ∧
      (s.serving = true → ¬full → c ≠ 0 → Refuses s (.dictionaryWrite src a words held) src c)) ∧
    alike (.modeRequest src words) O.modeRequest ∧ alike (.tickRateWrite src words) O.tickRate ∧ alike (.tickSourceWrite src words) O.tickSource ∧
    alike (.engineFrequency src words) O.engineFrequency ∧ alike (.engineSpread src words) O.engineSpread ∧ alike (.powerRequest src words) O.powerRequest ∧
    alike (.imageConfirm src words) O.imageConfirm ∧ alike (.keyRevoke src words) O.keyRevoke ∧ alike (.updateActivate src words) O.updateActivate ∧
    alike (.keepSnapshotNow src words) O.keepSnapshotNow ∧ alike (.startMode src words) O.startMode ∧ alike (.fetchMode src e words) (O.fetchMode e.val) ∧
    alike (.groupFaultPolicy src g words) (O.groupFaultPolicy g.val) ∧
    (Passes s src (O.fetchMode e.val) words true true true →
      let placed := ∃ m b, s.til.graph = some m ∧ (b ∈ m.blocks ∨ ∃ x, s.til.mig = some x ∧ b ∈ x.dst) ∧ b.size ≠ 0 ∧ b.eng = e.val
      (placed → Refuses s (.fetchMode src e words) src rcMode) ∧
      (¬placed → Performs s (.fetchMode src e words) src (s.setEngine e { s.engine e with pendFetch := some (decide (v = 1)) }))) ∧
    (Passes s src (O.groupFaultPolicy g.val) words true true true →
      Performs s (.groupFaultPolicy src g words) src { s with pendObjs := s.pendObjs ++ [(O.groupFaultPolicy g.val, v)] }) ∧
    (s.fwQueue = [] → exec .firmwareDeadlineExpiry s = .next s) ∧
    (∀ r rest, s.fwQueue = r :: rest → ∃ t, exec .firmwareDeadlineExpiry s = .next t ∧ t.fwQueue = rest ∧ t.resp = some { key := r.key, code := rcBusy, words := [] } ∧ t.eng = s.eng ∧
      ∀ b, b < 0x300000000 ∨ 0x300200000 ≤ b → memByte t.mem b = memByte s.mem b) ∧
    (let key := SessKey.fabric dev.toNat num.toNat
      let x := s.session key;
      ((x.xfer ≠ none ∨ x.snap ≠ none ∨ s.openSet key ≠ none) → exec (.sessionRelease dev num) s = .next s) ∧
      (x.xfer = none → x.snap = none → s.openSet key = none → exec (.sessionRelease dev num) s = .next { s with sessions := s.sessions.filter (fun y => y.key != key) })) ∧
    (let key := SessKey.fabric dev.toNat num.toNat
      let i := Instr.dictReq dev num k w0 w1 words held
      let s0 := s.takeMsg 0x10
      let op := w0.toNat / 2 ^ 28
      let malformed := op = 0 ∨ 3 < op ∨ w0.toNat / 2 ^ 24 % 16 ≠ 0 ∨ 65536 ≤ w1.toNat
      let full := 16 ≤ (s.fwQueue.filter (fun r => r.key.isFabric && r.key.device 0 = dev.toNat)).length
      let early := s0.checkRead key (w0.toNat % 2 ^ 24) true
      let answered := fun (c : Nat) => ∃ t, exec i s = .next t ∧ t.resp = some { key := key, code := c, words := [] } ∧ t.eng = s.eng
      (s.serving = false → exec i s = .next s0) ∧
      (s.serving = true → malformed → answered 13) ∧ (s.serving = true → ¬malformed → full → answered 6) ∧
      (s.serving = true → ¬malformed → ¬full → num = 0 → s.canEnter key = false → op = 1 → (early ≠ 0 → answered early) ∧ (early = 0 → answered 6)) ∧
      (s.serving = true → ¬malformed → ¬full → num ≠ 0 → held = false → op ≠ 3 →
        let local_ : Instr := if op = 1 then .dictionaryRead { key := key, link := k } (BitVec.ofNat 24 w0.toNat) .now
          else .dictionaryWrite { key := key, link := k } (BitVec.ofNat 24 w0.toNat) words false
        ∃ t u, exec i s = .next t ∧ exec local_ s0 = .next u ∧ t.resp = u.resp ∧ t.mem = u.mem ∧ t.eng = u.eng ∧ t.sessions = u.sessions ∧ t.sets = u.sets)) ∧
    ((∀ p ∈ s.net.proxied, p.tag ≠ tag.toNat) → exec (.proxyTimeout tag) s = .next s ∧ exec (.dictRsp result a tag words) s = .next (s.takeMsg 0x11)) ∧
    (∀ p, s.net.proxied.find? (fun q => q.tag = tag.toNat) = some p →
      (∃ t, exec (.proxyTimeout tag) s = .next t ∧ t.net.proxied = s.net.proxied.erase p ∧ t.obj O.remoteTimeouts = satAdd 32 (s.obj O.remoteTimeouts) 1 ∧
        t.resp = some { key := .host, code := rcRemote, words := [] } ∧ t.mem = s.mem ∧ t.eng = s.eng ∧
        (p.op = 1 → ∀ r, s.hsp.read = some r → t.hsp.read = some { r with res := some (rcRemote, []) })) ∧
      (p.addr % 2 ^ 24 ≠ a.toNat → exec (.dictRsp result a tag words) s = .next (s.takeMsg 0x11)) ∧
      (p.addr % 2 ^ 24 = a.toNat → ∃ t, exec (.dictRsp result a tag words) s = .next t ∧ t.net.proxied = s.net.proxied.erase p ∧ t.mem = s.mem ∧ t.eng = s.eng ∧
        t.resp = some { key := .host, code := result.toNat, words := if result = 0 ∧ p.op = 3 then words else [] } ∧
        (p.op = 1 → ∀ r, s.hsp.read = some r → t.hsp.read = some { r with res := some (result.toNat, words) })))

/-- A frame that begins while the port is up is discarded and counted with BAD_COMMAND for a wrong command, SHORT, MIDWORD or LONG for a wrong number of edges in the profile in force. An exact write frame enters a free buffer, or is lost and counted. The oldest buffer is presented while the dictionary serves: a write and a unit act as the host session's request, LOAD and MWR as their mode permits. STAT gives its words and clears the flags named, EVT gives and removes records, DRD and DBR deliver result word and value with ones past the end, or wait. PORTRESET of 24 edges presents the buffers and resets the port. (R619, R621, R624, R625, R626, R627, R629, R630, R638, R639, R640, R643) -/
def Obligations.HostPortFramesAndCommands : Prop :=
  ∀ (s : State) (addr : BitVec 32) (words : List (BitVec 32)) (n : BitVec 9) (edges : BitVec 16) (held : Bool) (cmd : BitVec 24), Memory.wf s.mem →
    let up := s.life = .up ∧ s.obj O.powerState ≤ 3
    let s1 := s.openFrame
    let s2 := s1.presentAll
    let profile := s1.obj O.hostProfile
    let head := (if profile ≤ 2 then 24 else if profile = 3 then 6 else 3) + (if profile = 0 then 32 else if profile = 1 then 16 else if profile ≤ 3 then 8 else 4) + s1.obj O.hostDummy
    let word := if profile = 0 then 32 else if profile = 1 then 16 else if profile ≤ 3 then 8 else 4
    let ready := fun (t : State) => t.hsp.hrdy = (t.hsp.read.isNone && decide (t.hsp.buffers.length < 2))
    let lost := fun (t u : State) (flags : Nat) => t.obj O.hostFramesDiscarded = satAdd 32 (u.obj O.hostFramesDiscarded) 1 ∧ t.hsp.flags = u.hsp.flags ||| flags ∧
      t.hsp.buffers = u.hsp.buffers ∧ t.mem = u.mem ∧ t.eng = u.eng ∧ t.events = u.events ∧ ready t
    let miss := fun (N : Nat) => let need := head + N * word
      if need < edges.toNat then 4 else if head < edges.toNat ∧ (edges.toNat - head) % word ≠ 0 then 24 else 8
    let frame := fun (i : Instr) (ok : Prop) (N : Nat) (act : State → Prop) =>
      (¬up → exec i s = .next s) ∧
      (up → ¬ok → ∃ t, exec i s = .next t ∧ lost t s1 64) ∧
      (up → ok → edges.toNat ≠ head + N * word → (∀ (x : BitVec 32) (m : BitVec 9) (h : Bool), i ≠ .drd x m edges h) → ∃ t, exec i s = .next t ∧ lost t s1 (miss N)) ∧
      (up → ok → edges.toNat = head + N * word → ∃ t, exec i s = .next t ∧ ready t ∧ act t)
    let enters := fun (b : WBuf) (t : State) => t.mem = s1.mem ∧ t.eng = s1.eng ∧
      (s1.hsp.buffers.length < 2 → t.hsp.buffers = s1.hsp.buffers ++ [b] ∧ t.obj O.framesAccepted = satAdd 32 (s1.obj O.framesAccepted) 1) ∧
      (2 ≤ s1.hsp.buffers.length → t.hsp.buffers = s1.hsp.buffers ∧ t.obj O.writeBufferOverflows = satAdd 32 (s1.obj O.writeBufferOverflows) 1 ∧ t.hsp.flags = s1.hsp.flags ||| 32)
    let delivers := fun (t : State) (code shown N : Nat) (ws : List (BitVec 32)) => t.hsp.read = none ∧
      t.hsp.out = BitVec.ofNat 32 (code * 2 ^ 24 + shown % 2 ^ 24) :: (List.range (N - 1)).map (fun i => if code = 0 then ws.getD i 0xFFFFFFFF else 0xFFFFFFFF) ∧
      (code = 0 → ws.length < N - 1 → t.hsp.flags.testBit 1 = true)
    let phase := addr.toNat / 2 ^ 24 % 128 = 0
    let host : Src := { key := .host, link := 0 }
    let waiting := fun (t : State) (dbr todo : Bool) => t.hsp.read = some { addr := addr.toNat, n := n.toNat, dbr := dbr, todo := todo, res := none }
    frame (.hostDwr addr words edges) phase words.length (enters (.dwr addr.toNat words)) ∧
    frame (.commit addr n edges) (n = 0 ∧ addr = 0) 0 (enters .commit) ∧
    frame (.dbw addr words edges) (phase ∧ 1 ≤ words.length ∧ words.length ≤ 257) words.length (enters (.dbw addr.toNat words)) ∧
    frame (.mwr addr words edges) (addr.toNat % 4 = 0 ∧ 1 ≤ words.length ∧ words.length ≤ 256) words.length (enters (.mwr addr.toNat words)) ∧
    frame (.load addr words edges) (1 ≤ words.length ∧ words.length ≤ 256) words.length (enters (.load addr.toNat words)) ∧
    frame (.stat addr n edges) (addr.toNat < 128 ∧ 1 ≤ n.toNat ∧ n.toNat ≤ 4) n.toNat (fun t =>
      t.hsp.out = ([s2.hostStatus, s2.hsp.last, s2.hsp.gen, s2.deviceStatus].map (BitVec.ofNat 32)).take n.toNat ∧
      (∀ i : Fin 7, t.hsp.flags.testBit i.val = (s2.hsp.flags.testBit i.val && !addr.toNat.testBit i.val)) ∧ t.mem = s2.mem ∧ t.eng = s2.eng) ∧
    frame (.evt addr n edges) (addr = 0 ∧ n.toNat % 4 = 0 ∧ 4 ≤ n.toNat ∧ n.toNat ≤ 256) n.toNat (fun t => t.events = s2.events.drop (n.toNat / 4) ∧ t.mem = s2.mem ∧ t.eng = s2.eng ∧
      ∀ i : Nat, t.hsp.out[i]? = if i < n.toNat then some (((s2.events.take (n.toNat / 4)).flatMap Event.words).getD i 0) else none) ∧
    frame (.drd addr n edges held) (phase ∧ 2 ≤ n.toNat ∧ n.toNat ≤ 17) n.toNat (fun t =>
      (s2.serving = false → waiting t false true) ∧
      (s2.serving = true → addr.toNat < 2 ^ 31 → ∃ u, exec (.dictionaryRead host (BitVec.ofNat 24 addr.toNat) (if held then .held else .now)) s2 = .next u ∧
        (s2.fwQueue.length < u.fwQueue.length → waiting t false false) ∧
        (∀ p, u.fwQueue.length ≤ s2.fwQueue.length → u.resp = some p → delivers t p.code addr.toNat n.toNat p.words ∧ t.mem = u.mem ∧ t.eng = u.eng)) ∧
      (s2.serving = true → 2 ^ 31 ≤ addr.toNat →
        (((s2.session .host).proxy = 0xFFFF ∨ s2.hasRoute (s2.session .host).proxy = false) → delivers t rcNoRoute addr.toNat n.toNat []) ∧
        ((s2.session .host).proxy ≠ 0xFFFF → s2.hasRoute (s2.session .host).proxy = true → waiting t false false ∧
          t.net.proxied = s2.net.proxied ++ [{ tag := s2.net.nextTag, target := (s2.session .host).proxy, op := 1, addr := addr.toNat }]))) ∧
    frame (.dbr addr n edges) (phase ∧ 2 ≤ n.toNat ∧ n.toNat ≤ 258) n.toNat (fun t =>
      (s2.serving = false → waiting t true true) ∧
      (∀ ws, s2.serving = true → (s2.session .host).unit = some (addr.toNat, ws) → delivers t 0 addr.toNat n.toNat ws ∧ (t.session .host).unit = none) ∧
      (s2.serving = true → (∀ ws, (s2.session .host).unit ≠ some (addr.toNat, ws)) → delivers t rcSequence addr.toNat n.toNat [] ∧ (t.session .host).unit = (s2.session .host).unit)) ∧
    frame (.mrd addr n edges) (addr.toNat % 4 = 0 ∧ 2 ≤ n.toNat ∧ n.toNat ≤ 257) n.toNat (fun t =>
      let b := s2.obj O.hostWindowHigh * 2 ^ 32 + addr.toNat
      let bytes := min (4 * (n.toNat - 1)) (s2.mapRoom b / 4 * 4)
      let r := s2.busRead 5 b bytes
      (s2.mode ≠ 7 → delivers t rcMode 0 n.toNat [] ∧ t.mem = s2.mem ∧ t.eng = s2.eng) ∧
      (s2.mode = 7 → s2.mapRoom b = 0 → delivers t rcRange 0 n.toNat [] ∧ t.mem = s2.mem ∧ t.eng = s2.eng) ∧
      (s2.mode = 7 → s2.mapRoom b ≠ 0 → r.1 = .ok → delivers t 0 0 n.toNat (bytesWords r.2.1)) ∧
      (s2.mode = 7 → s2.mapRoom b ≠ 0 → (r.1 = .poison ∨ r.1 = .busError ∨ r.1 = .fetchFault) → delivers t rcMemory 0 n.toNat [])) ∧
    (¬up → exec (.portreset edges) s = .next s) ∧
    (up → edges.toNat ≠ 24 → ∃ t, exec (.portreset edges) s = .next t ∧ lost t s1 (if 24 < edges.toNat then 4 else 8)) ∧
    (up → edges.toNat = 24 → s1.serving = false → ∃ t, exec (.portreset edges) s = .next t ∧ ready t ∧ enters .portReset t) ∧
    (up → edges.toNat = 24 → s1.serving = true → ∃ t, exec (.portreset edges) s = .next t ∧ ready t ∧ t.obj O.hostProfile = 0 ∧ t.obj O.hostDummy = 0 ∧ t.hsp.flags = 0 ∧
      t.hsp.fast = false ∧ (t.session .host).unit = none ∧ t.mem = s2.mem ∧ t.eng = s2.eng) ∧
    ((¬up ∨ badCommand cmd.toNat addr.toNat = false) → exec (.badCommand cmd addr) s = .next s) ∧
    (up → badCommand cmd.toNat addr.toNat = true → ∃ t, exec (.badCommand cmd addr) s = .next t ∧ lost t s1 64) ∧
    ((s.serving = false ∨ s.hsp.buffers = []) → exec (.writeBufferPresent held) s = .next s.setReady) ∧
    (∀ b rest, s.serving = true → s.hsp.buffers = b :: rest → ∃ t, exec (.writeBufferPresent held) s = .next t ∧ t.hsp.buffers = rest ∧ ready t ∧
      let v : State := { s with hsp := { s.hsp with buffers := rest } }
      (∀ a ws, b = .dwr a ws → a < 2 ^ 24 → ∃ u, exec (.dictionaryWrite host (BitVec.ofNat 24 a) ws held) v = .next u ∧ t.resp = u.resp ∧ t.mem = u.mem ∧ t.eng = u.eng ∧ t.objs = u.objs) ∧
      (∀ a ws, b = .dbw a [0x10000000, ws] → a < 2 ^ 24 → exec (.domainStart host (BitVec.ofNat 24 a) ws) v = .next { t with hsp := { t.hsp with hrdy := v.hsp.hrdy } }) ∧
      (b = .portReset → t.obj O.hostProfile = 0 ∧ t.obj O.hostDummy = 0 ∧ t.hsp.flags = 0 ∧ t.hsp.fast = false ∧ t.mem = s.mem ∧ t.eng = s.eng) ∧
      (b = .commit → t.resp ≠ none ∧ ∀ p, t.resp = some p → t.hsp.gen = if p.code = 0 then (t.session .host).lastGen else 0) ∧
      (∀ a ws, b = .mwr a ws → (s.mode ≠ 7 → t.hsp.last = rcMode * 2 ^ 24 ∧ t.mem = s.mem) ∧
        (s.mode = 7 → s.mapRoom (s.obj O.hostWindowHigh * 2 ^ 32 + a) < 4 * ws.length → t.hsp.last = rcRange * 2 ^ 24 ∧ t.mem = s.mem)) ∧
      (∀ a ws, b = .load a ws →
        (1613 ∈ s.fuses → t.hsp.last = rcRights * 2 ^ 24 ∧ t.mem = s.mem) ∧
        (1613 ∉ s.fuses → s.mode ≠ 1 → t.hsp.last = rcMode * 2 ^ 24 ∧ t.mem = s.mem) ∧
        (1613 ∉ s.fuses → s.mode = 1 → 0x201000 < a + 4 * ws.length → t.hsp.last = rcRange * 2 ^ 24 ∧ t.mem = s.mem) ∧
        (1613 ∉ s.fuses → s.mode = 1 → a + 4 * ws.length ≤ 0x201000 → (s.obj O.loaderState = 1 ∨ s.obj O.loaderState = 2) → t.hsp.last = rcBusy * 2 ^ 24 ∧ t.mem = s.mem) ∧
        (1613 ∉ s.fuses → s.mode = 1 → a + 4 * ws.length ≤ 0x201000 → s.obj O.loaderState ≠ 1 → s.obj O.loaderState ≠ 2 → t.hsp.last = 0 ∧
          memBytes t.mem (0x10000000 + a) (4 * ws.length) = wordsBytes ws ∧
          ∀ c, (c < 0x10000000 + a ∨ 0x10000000 + a + 4 * ws.length ≤ c) → memByte t.mem c = memByte s.mem c))) ∧
    (s.hsp.read = none → exec .hostResponseReady s = .next s) ∧
    (∀ r, s.hsp.read = some r →
      (r.todo = false → r.res = none → exec .hostResponseReady s = .next s) ∧ (r.todo = true → s.serving = false → exec .hostResponseReady s = .next s) ∧
      (∀ c ws, r.todo = false → r.res = some (c, ws) → ∃ t, exec .hostResponseReady s = .next t ∧ ready t ∧ delivers t c r.addr r.n ws ∧ t.mem = s.mem ∧ t.eng = s.eng) ∧
      (r.todo = true → r.dbr = true → s.serving = true → s.hsp.buffers = [] → (s.session .host).unit = none → ∃ t, exec .hostResponseReady s = .next t ∧ ready t ∧
        delivers t rcSequence r.addr r.n []))

/-- After reset the device is in Secure start and in Run, and the objects of ticks, modes, power, dictionary, sessions, host port, boot, links, ports and channels read the defaults of their tables; no command or request waits, no event is queued, no session and no update set is open, no output is muted. (R28, R38, R53, R138, R429, R444, R447, R459, R643, R726, R749, R820) -/
def Obligations.ResetLeavesTheDefaultsOfTheObjects : Prop :=
  let s := State.reset
  (∀ (g : Fin 4096) (k : Fin 4) (c : Fin 32) (i : Fin 64),
    s.obj (O.groupFaultPolicy g.val) = 1 ∧ s.obj (O.linkState k.val) = 1 ∧ s.obj (O.portState k.val) = 0 ∧ s.obj (O.channelState c.val) = 0 ∧ s.obj (O.fabricAllow i.val) = 0xFFFF) ∧
  s.obj O.operatingMode = 0 ∧ s.obj O.resumeMode = 2 ∧ s.obj O.safeMuteCause = 0 ∧ s.obj O.powerState = 0 ∧ s.obj O.wakeSources = 0xF ∧
  s.obj O.tickRate = 48000 ∧ s.obj O.tickSource = 0 ∧ s.obj O.tickSourceFallback = 0xFF ∧ s.obj O.tickCount = 0 ∧
  s.obj O.domainTimeout = 1000 ∧ s.obj O.firmwareDeadline = 5 ∧ s.obj O.domainStagingFree = 0x100000 ∧ s.obj O.sessionIdleRelease = 10 ∧ s.obj O.proxyTimeout = 2000 ∧
  s.obj O.hostProfile = 0 ∧ s.obj O.hostDummy = 0 ∧ s.obj O.bootSlot = 0xFF ∧ s.obj O.confirmDelay = 60 ∧ s.obj O.autoRollback = 1 ∧ s.obj O.hullReady = 0 ∧
  s.pending = [] ∧ s.fwQueue = [] ∧ s.events = [] ∧ s.sessions = [] ∧ s.sets = [] ∧ s.mutes = []
end

