-- ==== Sys2Proof/Laws/Keep.lean ====
section
/-! SUPPORT. What no operation undoes: the invariant, burned fuses, the waiting commands. One lemma for each operation on the state. -/
set_option Elab.async false
namespace Sys2Proof.Machine
open Sys2Proof

/-- `t` keeps what `s` has: the invariant, every burned fuse bit, and the queue. -/
structure Keeps (s t : State) : Prop where
  inv : s.Inv → t.Inv
  fuses : ∀ b ∈ s.fuses, b ∈ t.fuses
  pending : t.pending = s.pending

/-- The parts of the state that `Keeps` speaks of. -/
def State.vital (s : State) :=
  (s.mem, s.flash, s.objs, s.integ.queue, s.integ.corrLog, s.integ.record, s.events, s.evHist, s.history, s.fwQueue, s.fuses, s.pending)

theorem Keeps.refl (s : State) : Keeps s s := ⟨id, fun _ h => h, rfl⟩

theorem Keeps.trans {s t u : State} (a : Keeps s t) (b : Keeps t u) : Keeps s u :=
  ⟨b.inv ∘ a.inv, fun x h => b.fuses x (a.fuses x h), b.pending.trans a.pending⟩

/-- A change of other parts keeps everything. -/
theorem Keeps.same {u s t : State} (h : Keeps u s) (e : t.vital = s.vital) : Keeps u t := by
  simp only [State.vital, Prod.mk.injEq] at e
  obtain ⟨e1, e2, e3, e4, e5, e6, e7, e8, e9, e10, e11, e12⟩ := e
  refine ⟨fun i => ?_, ?_, ?_⟩
  · have j := h.inv i
    exact ⟨e1 ▸ j.mem, e2 ▸ j.flash, e3 ▸ j.objs, e4 ▸ j.queue, e5 ▸ j.log, e6 ▸ j.record, e7 ▸ j.events, e8 ▸ j.evHist, e9 ▸ j.history,
      e10 ▸ j.fwQueue⟩
  · rw [e11]; exact h.fuses
  · rw [e12]; exact h.pending

/-- A change that keeps fuses and queue and leads from the invariant to the invariant. -/
theorem Keeps.step {u s t : State} (h : Keeps u s) (i : s.Inv → t.Inv) (f : ∀ b ∈ s.fuses, b ∈ t.fuses) (p : t.pending = s.pending) : Keeps u t :=
  h.trans ⟨i, f, p⟩

/-- A change that shortens buffers and keeps memory canonical. -/
theorem Keeps.shrink {u s t : State} (h : Keeps u s) (mem : Memory.wf s.mem → Memory.wf t.mem := by exact id)
    (flash : t.flash = s.flash := by rfl) (objs : t.objs = s.objs := by rfl)
    (queue : t.integ.queue.length ≤ s.integ.queue.length := by exact Nat.le_refl _)
    (log : t.integ.corrLog.length ≤ s.integ.corrLog.length := by exact Nat.le_refl _)
    (record : t.integ.record.length ≤ s.integ.record.length := by exact Nat.le_refl _)
    (events : t.events.length ≤ s.events.length := by exact Nat.le_refl _)
    (evHist : t.evHist.length ≤ s.evHist.length := by exact Nat.le_refl _)
    (history : t.history.length ≤ s.history.length := by exact Nat.le_refl _)
    (fwQueue : t.fwQueue.length ≤ s.fwQueue.length := by exact Nat.le_refl _)
    (fuses : t.fuses = s.fuses := by rfl) (pending : t.pending = s.pending := by rfl) : Keeps u t :=
  h.step (fun i => ⟨mem i.mem, flash ▸ i.flash, objs ▸ i.objs, Nat.le_trans queue i.queue, Nat.le_trans log i.log, Nat.le_trans record i.record,
    Nat.le_trans events i.events, Nat.le_trans evHist i.evHist, Nat.le_trans history i.history, Nat.le_trans fwQueue i.fwQueue⟩) (by rw [fuses]; exact fun _ x => x) pending

theorem foldl_keeps {α : Type} {u : State} {g : State → α → State} (l : List α) {s : State}
    (hg : ∀ x a, Keeps u x → Keeps u (g x a)) (h : Keeps u s) : Keeps u (l.foldl g s) := by
  induction l generalizing s with
  | nil => exact h
  | cons a t ih => exact ih (hg s a h)

theorem foldl_snd_keeps {α β : Type} {u : State} {g : β × State → α → β × State} (l : List α) {s : β × State}
    (hg : ∀ x a, Keeps u x.2 → Keeps u (g x a).2) (h : Keeps u s.2) : Keeps u (l.foldl g s).2 := by
  induction l generalizing s with
  | nil => exact h
  | cons a t ih => exact ih (hg s a h)

theorem foldl_fst_keeps {α β : Type} {u : State} {g : State × β → α → State × β} (l : List α) {s : State × β}
    (hg : ∀ x a, Keeps u x.1 → Keeps u (g x a).1) (h : Keeps u s.1) : Keeps u (l.foldl g s).1 := by
  induction l generalizing s with
  | nil => exact h
  | cons a t ih => exact ih (hg s a h)

theorem Keeps.ofSnd {α : Type} {u t : State} {p : α × State} {a : α} (e : p = (a, t)) (h : Keeps u p.2) : Keeps u t := by
  subst e; exact h

theorem Keeps.ofFst {α : Type} {u t : State} {p : State × α} {a : α} (e : p = (t, a)) (h : Keeps u p.1) : Keeps u t := by
  subst e; exact h

/-- Every state an option holds is kept. -/
def KeepsOpt (u : State) (o : Option State) : Prop := ∀ t, o = some t → Keeps u t

theorem KeepsOpt.some {u t : State} (h : Keeps u t) : KeepsOpt u (some t) := by
  intro x hx; cases hx; exact h

theorem KeepsOpt.none {u : State} : KeepsOpt u none := by
  intro x hx; cases hx

theorem KeepsOpt.getD {u d : State} {o : Option State} (ho : KeepsOpt u o) (hd : Keeps u d) : Keeps u (o.getD d) := by
  cases o with
  | none => exact hd
  | some t => exact ho t rfl

theorem KeepsOpt.orElse {u : State} {o : Option State} {f : Unit → Option State} (ho : KeepsOpt u o) (hf : KeepsOpt u (f ())) :
    KeepsOpt u (o.orElse f) := by
  cases o with
  | none => exact hf
  | some t => exact ho

theorem KeepsOpt.ite {u : State} {c : Prop} [Decidable c] {a b : Option State} (ha : KeepsOpt u a) (hb : KeepsOpt u b) :
    KeepsOpt u (if c then a else b) := by
  split
  · exact ha
  · exact hb

theorem Keeps.ite {u : State} {c : Prop} [Decidable c] {a b : State} (ha : Keeps u a) (hb : Keeps u b) : Keeps u (if c then a else b) := by
  split
  · exact ha
  · exact hb

theorem Keeps.iteSnd {α : Type} {u : State} {c : Prop} [Decidable c] {a b : α × State} (ha : Keeps u a.2) (hb : Keeps u b.2) :
    Keeps u (if c then a else b).2 := by
  split
  · exact ha
  · exact hb

theorem Keeps.iteFst {α : Type} {u : State} {c : Prop} [Decidable c] {a b : State × α} (ha : Keeps u a.1) (hb : Keeps u b.1) :
    Keeps u (if c then a else b).1 := by
  split
  · exact ha
  · exact hb

/-- The next state that an outcome holds is kept. -/
def KeepsOut (u : State) (o : Out) : Prop := ∀ t, o = .next t → Keeps u t

theorem KeepsOut.next {u t : State} (h : Keeps u t) : KeepsOut u (.next t) := by
  intro x hx; cases hx; exact h

theorem KeepsOut.ite {u : State} {c : Prop} [Decidable c] {a b : Out} (ha : KeepsOut u a) (hb : KeepsOut u b) :
    KeepsOut u (if c then a else b) := by
  split
  · exact ha
  · exact hb

/-- What a table set at a key lists was listed before, or is the new entry. -/
theorem mem_aPut {α : Type} [DecidableEq α] (d : α) (l : List (Nat × α)) (k : Nat) (v : α) (e : Nat × α) (h : e ∈ aPut d l k v) :
    e = (k, v) ∨ e ∈ l := by
  induction l with
  | nil => unfold aPut at h; split at h <;> simp_all
  | cons p t ih =>
    obtain ⟨k', v'⟩ := p
    unfold aPut at h
    split at h
    · split at h
      · exact .inr h
      · exact List.mem_cons.1 h
    · split at h
      · split at h
        · exact .inr (List.mem_cons_of_mem _ h)
        · rcases List.mem_cons.1 h with h | h
          · exact .inl h
          · exact .inr (List.mem_cons_of_mem _ h)
      · rcases List.mem_cons.1 h with h | h
        · exact .inr (h ▸ List.mem_cons_self)
        · exact (ih h).imp_right (List.mem_cons_of_mem _)

theorem all_lt_aPut {α : Type} [DecidableEq α] (d : α) (l : List (Nat × α)) (k j : Nat) (v : α) (hj : j < k)
    (h : l.all (fun e => decide (j < e.1)) = true) : (aPut d l k v).all (fun e => decide (j < e.1)) = true := by
  simp only [List.all_eq_true, decide_eq_true_eq] at h ⊢
  intro e he
  rcases mem_aPut d l k v e he with rfl | h2
  · exact hj
  · exact h e h2

theorem aPut_wf {α : Type} [DecidableEq α] (d : α) (l : List (Nat × α)) (k : Nat) (v : α) (h : aWf d l = true) : aWf d (aPut d l k v) = true := by
  induction l with
  | nil => by_cases hv : v = d <;> simp [aPut, aWf, hv]
  | cons p t ih =>
    obtain ⟨k', v'⟩ := p
    simp only [aWf, Bool.and_eq_true] at h
    obtain ⟨⟨hne, hall⟩, ht⟩ := h
    unfold aPut
    split
    · rename_i hk
      split
      · simp [aWf, hne, hall, ht]
      · rename_i hv
        have h2 : t.all (fun e => decide (k < e.1)) = true := by
          simp only [List.all_eq_true, decide_eq_true_eq] at hall ⊢
          intro x hx; have := hall x hx; omega
        simp [aWf, hne, hall, ht, hv, hk, h2]
    · split
      · rename_i hk; subst hk
        split
        · exact ht
        · rename_i hv; simp [aWf, hall, ht, hv]
      · have := all_lt_aPut d t k k' v (by omega) hall
        simp [aWf, hne, this, ih ht]

theorem filter_wf {α : Type} [DecidableEq α] (d : α) (l : List (Nat × α)) (q : Nat × α → Bool) (h : aWf d l = true) : aWf d (l.filter q) = true := by
  induction l with
  | nil => rfl
  | cons p t ih =>
    obtain ⟨k, v⟩ := p
    simp only [aWf, Bool.and_eq_true] at h
    obtain ⟨⟨hne, hall⟩, ht⟩ := h
    simp only [List.all_eq_true, decide_eq_true_eq] at hall
    rw [List.filter_cons]
    split
    · simp only [aWf, Bool.and_eq_true, hne, ih ht, true_and, and_true, List.all_eq_true, decide_eq_true_eq]
      intro x hx; exact hall x (List.mem_filter.1 hx).1
    · exact ih ht

theorem memWrite_wf (n : Nat) (m : List Host.Cell) (a v : Nat) (h : Memory.wf m) : Memory.wf (memWrite m a n v) := by
  induction n generalizing m a v with
  | zero => exact h
  | succ n ih => exact ih _ _ _ (aPut_wf _ _ _ _ h)

theorem memPutBytes_wf (l : List Byte) (m : List Host.Cell) (a : Nat) (h : Memory.wf m) : Memory.wf (memPutBytes m a l) := by
  induction l generalizing m a with
  | nil => exact h
  | cons b t ih => exact ih _ _ (aPut_wf _ _ _ _ h)

theorem memClear_wf (m : List Host.Cell) (a n : Nat) (h : Memory.wf m) : Memory.wf (memClear m a n) := filter_wf _ _ _ h

theorem foldl_wf {α β : Type} [DecidableEq α] (d : α) (g : List (Nat × α) → β → List (Nat × α)) (hg : ∀ m b, aWf d m = true → aWf d (g m b) = true)
    (l : List β) (m : List (Nat × α)) (h : aWf d m = true) : aWf d (l.foldl g m) = true := by
  induction l generalizing m with
  | nil => exact h
  | cons b t ih => exact ih _ (hg m b h)

theorem mem_oPut (l : List (Nat × Nat)) (k v : Nat) (e : Nat × Nat) (h : e ∈ oPut l k v) : e = (k, v) ∨ e ∈ l := by
  induction l with
  | nil => simpa [oPut] using h
  | cons p t ih =>
    obtain ⟨k', v'⟩ := p
    unfold oPut at h
    split at h
    · exact List.mem_cons.1 h
    · split at h
      · rcases List.mem_cons.1 h with h | h
        · exact .inl h
        · exact .inr (List.mem_cons_of_mem _ h)
      · rcases List.mem_cons.1 h with h | h
        · exact .inr (h ▸ List.mem_cons_self)
        · exact (ih h).imp_right (List.mem_cons_of_mem _)

theorem all_lt_oPut (l : List (Nat × Nat)) (k j v : Nat) (hj : j < k) (h : l.all (fun e => decide (j < e.1)) = true) :
    (oPut l k v).all (fun e => decide (j < e.1)) = true := by
  simp only [List.all_eq_true, decide_eq_true_eq] at h ⊢
  intro e he
  rcases mem_oPut l k v e he with rfl | h2
  · exact hj
  · exact h e h2

theorem oPut_rising (l : List (Nat × Nat)) (k v : Nat) (h : objsRising l = true) : objsRising (oPut l k v) = true := by
  induction l with
  | nil => simp [oPut, objsRising]
  | cons p t ih =>
    obtain ⟨k', v'⟩ := p
    simp only [objsRising, Bool.and_eq_true] at h
    unfold oPut
    split
    · rename_i hk
      have h2 : t.all (fun e => decide (k < e.1)) = true := by
        have h1 := h.1
        simp only [List.all_eq_true, decide_eq_true_eq] at h1 ⊢
        intro x hx; have := h1 x hx; omega
      simp [objsRising, h.1, h.2, hk, h2]
    · split
      · rename_i hk; subst hk; simp [objsRising, h.1, h.2]
      · have := all_lt_oPut t k k' v (by omega) h.1
        simp [objsRising, this, ih h.2]

theorem length_setAdd (l : List Nat) (k : Nat) : (setAdd l k).length ≤ l.length + 1 := by
  induction l with
  | nil => simp [setAdd]
  | cons x t ih =>
    unfold setAdd
    split
    · simp
    · split
      · simp
      · simp only [List.length_cons]; omega

theorem length_setDel (l : List Nat) (k : Nat) : (setDel l k).length ≤ l.length := List.length_filter_le _ _

theorem mem_setAdd (l : List Nat) (k b : Nat) (h : b ∈ l) : b ∈ setAdd l k := by
  induction l with
  | nil => simp at h
  | cons x t ih =>
    unfold setAdd
    split
    · exact List.mem_cons_of_mem _ h
    · split
      · exact h
      · rcases List.mem_cons.1 h with h | h
        · simp [h]
        · simp [ih h]

end Sys2Proof.Machine
end

