-- ==== Sys2Proof/Laws/KeepEngine.lean ====
section
/-! SUPPORT. What the operations of the engines and their slots keep. -/
set_option Elab.async false
namespace Sys2Proof.Machine
open Sys2Proof

theorem State.setObj_keeps {u0 : State} (s : State) (a v : Nat) (h_s : Keeps u0 s) : Keeps u0 (s.setObj a v) :=
  h_s.step (fun i => ⟨i.mem, i.flash, oPut_rising _ _ _ i.objs, i.queue, i.log, i.record, i.events, i.evHist, i.history, i.fwQueue⟩)
    (fun _ x => x) rfl

theorem State.count_keeps {u0 : State} (s : Sys2Proof.Machine.State) (a : Nat) (w : Nat) (n : Nat) (h_s : Keeps u0 s) :
    Keeps u0 (State.count s a w n) := by
  unfold State.count
  apply State.setObj_keeps
  assumption

theorem State.setObjs_keeps {u0 : State} (s : Sys2Proof.Machine.State) (l : List (Nat × Nat)) (h_s : Keeps u0 s) :
    Keeps u0 (State.setObjs s l) := by
  unfold State.setObjs
  apply foldl_keeps
  · intro x0 a1 h2
    apply State.setObj_keeps
    assumption
  · assumption

theorem State.setEngine_keeps {u0 : State} (s : Sys2Proof.Machine.State) (e : Fin 8) (x : Sys2Proof.Machine.Engine) (h_s : Keeps u0 s) :
    Keeps u0 (State.setEngine s e x) := by
  unfold State.setEngine
  exact Keeps.same (s := s) (by assumption) rfl

theorem State.modEngine_keeps {u0 : State} (s : Sys2Proof.Machine.State) (e : Fin 8) (f : Sys2Proof.Machine.Engine → Sys2Proof.Machine.Engine) (h_s : Keeps u0 s) :
    Keeps u0 (State.modEngine s e f) := by
  unfold State.modEngine
  apply State.setEngine_keeps
  assumption

theorem State.allEngines_keeps {u0 : State} (s : Sys2Proof.Machine.State) (f : Fin 8 → Sys2Proof.Machine.Engine → Sys2Proof.Machine.Engine) (h_s : Keeps u0 s) :
    Keeps u0 (State.allEngines s f) := by
  unfold State.allEngines
  exact Keeps.same (s := s) (by assumption) rfl

theorem State.free_keeps {u0 : State} (s : Sys2Proof.Machine.State) (h_s : Keeps u0 s) :
    Keeps u0 (State.free s).2 := by
  unfold State.free
  try dsimp only
  exact Keeps.same (s := s) (by assumption) rfl

theorem queueEvent_length (q : List Event) (r : Event) (h : q.length ≤ 256) : (queueEvent q r).1.length ≤ 256 := by
  unfold queueEvent
  split
  · simp; omega
  · split
    · simp; omega
    · simp only [List.length_append, List.length_dropLast, Option.length_toList]
      split <;> omega

theorem State.eventAt_keeps {u0 : State} (s : State) (tick code data : Nat) (h_s : Keeps u0 s) : Keeps u0 (s.eventAt tick code data) := by
  unfold State.eventAt
  extract_lets l0 l1 l2
  have h1 : l1.length ≤ 16 := by simp [l1] <;> omega
  have h2 : l2.length ≤ 16 := by
    unfold l2
    split
    · simp <;> omega
    · exact h1
  split
  · have hq := queueEvent_length s.events l0
    generalize queueEvent s.events l0 = q at hq ⊢
    apply State.count_keeps
    exact h_s.step (fun i => ⟨i.mem, i.flash, i.objs, i.queue, i.log, i.record, hq i.events, h2, i.history, i.fwQueue⟩) (fun _ x => x) rfl
  · exact h_s.step (fun i => ⟨i.mem, i.flash, i.objs, i.queue, i.log, i.record, i.events, h1, i.history, i.fwQueue⟩) (fun _ x => x) rfl

theorem State.event_keeps {u0 : State} (s : Sys2Proof.Machine.State) (code : Nat) (data : Nat) (h_s : Keeps u0 s) :
    Keeps u0 (State.event s code data) := by
  unfold State.event
  apply State.eventAt_keeps
  assumption

theorem State.tapLoad_keeps {u0 : State} (s : Sys2Proof.Machine.State) (i : Sys2Proof.Machine.TapInstr) (h_s : Keeps u0 s) :
    Keeps u0 (State.tapLoad s i) := by
  unfold State.tapLoad
  apply Keeps.ite
  · exact Keeps.same (s := s) (by assumption) rfl
  · assumption

theorem State.mute_keeps {u0 : State} (s : Sys2Proof.Machine.State) (r : Sys2Proof.Machine.MuteReason) (h_s : Keeps u0 s) :
    Keeps u0 (State.mute s r) := by
  unfold State.mute
  apply Keeps.ite
  · assumption
  · exact Keeps.same (s := s) (by assumption) rfl

theorem State.unmute_keeps {u0 : State} (s : Sys2Proof.Machine.State) (r : Sys2Proof.Machine.MuteReason) (h_s : Keeps u0 s) :
    Keeps u0 (State.unmute s r) := by
  unfold State.unmute
  exact Keeps.same (s := s) (by assumption) rfl

theorem State.enterMode_keeps {u0 : State} (s : Sys2Proof.Machine.State) (m : Nat) (cause : Nat) (h_s : Keeps u0 s) :
    Keeps u0 (State.enterMode s m cause) := by
  unfold State.enterMode
  extract_lets l0
  apply State.event_keeps
  apply State.setObj_keeps
  apply State.setObj_keeps
  assumption

theorem State.enterSafeMute_keeps {u0 : State} (s : Sys2Proof.Machine.State) (h_s : Keeps u0 s) :
    Keeps u0 (State.enterSafeMute s) := by
  unfold State.enterSafeMute
  extract_lets l0 l1
  have h_l1 : Keeps u0 l1 := by
    unfold l1
    exact Keeps.same (s := s) (by assumption) rfl
  clear_value l1
  apply State.mute_keeps
  apply State.enterMode_keeps
  apply State.setObj_keeps
  assumption

theorem State.holdRequest_keeps {u0 : State} (s : Sys2Proof.Machine.State) (h_s : Keeps u0 s) :
    Keeps u0 (State.holdRequest s) := by
  unfold State.holdRequest
  split
  · apply State.setObj_keeps
    exact Keeps.same (s := s) (by assumption) rfl
  · assumption

theorem State.raiseCause_keeps {u0 : State} (s : Sys2Proof.Machine.State) (b : Nat) (h_s : Keeps u0 s) :
    Keeps u0 (State.raiseCause s b) := by
  unfold State.raiseCause
  extract_lets l0 l1 l2 l3 l4
  have h_l2 : Keeps u0 l2 := by
    unfold l2
    apply State.setObj_keeps
    assumption
  clear_value l2
  have h_l3 : Keeps u0 l3 := by
    unfold l3
    apply Keeps.ite
    · assumption
    · apply State.event_keeps
      assumption
  clear_value l3
  have h_l4 : Keeps u0 l4 := by
    unfold l4
    apply Keeps.ite
    · assumption
    · exact Keeps.same (s := l3) (by assumption) rfl
  clear_value l4
  apply Keeps.ite
  · assumption
  · apply Keeps.ite
    · apply Keeps.ite
      · apply State.mute_keeps
        assumption
      · assumption
    · apply Keeps.ite
      · apply State.holdRequest_keeps
        assumption
      · apply State.enterSafeMute_keeps
        assumption

theorem State.clearCause_keeps {u0 : State} (s : Sys2Proof.Machine.State) (b : Nat) (h_s : Keeps u0 s) :
    Keeps u0 (State.clearCause s b) := by
  unfold State.clearCause
  extract_lets l0 l1
  have h_l1 : Keeps u0 l1 := by
    unfold l1
    apply State.setObj_keeps
    assumption
  clear_value l1
  apply Keeps.ite
  · apply State.unmute_keeps
    assumption
  · assumption

theorem State.queuePage_keeps {u0 : State} (s : State) (addr : Nat) (h_s : Keeps u0 s) : Keeps u0 (s.queuePage addr) := by
  unfold State.queuePage
  extract_lets l0
  split
  · exact h_s
  · split
    · rename_i hl
      exact h_s.step (fun i => ⟨i.mem, i.flash, i.objs, by simp; omega, i.log, i.record, i.events, i.evHist, i.history, i.fwQueue⟩) (fun _ x => x) rfl
    · exact State.count_keeps _ _ _ _ h_s

theorem State.stormCount_keeps {u0 : State} (s : Sys2Proof.Machine.State) (h_s : Keeps u0 s) :
    Keeps u0 (State.stormCount s) := by
  unfold State.stormCount
  extract_lets l0 l1 l2
  have h_l2 : Keeps u0 l2 := by
    unfold l2
    exact Keeps.same (s := s) (by assumption) rfl
  clear_value l2
  apply Keeps.ite
  · apply State.raiseCause_keeps
    apply State.event_keeps
    assumption
  · assumption

theorem State.recordBad_keeps {u0 : State} (s : State) (addr : Nat) (h_s : Keeps u0 s) : Keeps u0 (s.recordBad addr) := by
  unfold State.recordBad
  split
  · rename_i hl
    have := length_setAdd s.integ.record addr
    exact h_s.step (fun i => ⟨i.mem, i.flash, i.objs, i.queue, i.log, by dsimp only; omega, i.events, i.evHist, i.history, i.fwQueue⟩) (fun _ x => x) rfl
  · exact h_s

theorem State.noteBad_keeps {u0 : State} (s : Sys2Proof.Machine.State) (reader : Nat) (addr : Nat) (h_s : Keeps u0 s) :
    Keeps u0 (State.noteBad s reader addr) := by
  unfold State.noteBad
  apply Keeps.ite
  · apply State.queuePage_keeps
    assumption
  · apply State.queuePage_keeps
    apply State.stormCount_keeps
    apply State.recordBad_keeps
    apply State.event_keeps
    apply State.setObj_keeps
    apply State.count_keeps
    assumption

theorem State.noteSoft_keeps {u0 : State} (s : State) (addr : Nat) (h_s : Keeps u0 s) : Keeps u0 (s.noteSoft addr) := by
  unfold State.noteSoft
  split
  · exact h_s
  · split
    · rename_i hl
      exact h_s.step (fun i => ⟨i.mem, i.flash, i.objs, i.queue, by simp; omega, i.record, i.events, i.evHist, i.history, i.fwQueue⟩) (fun _ x => x) rfl
    · exact State.count_keeps _ _ _ _ h_s

theorem State.cureWord_keeps {u0 : State} (s : State) (addr : Nat) (h_s : Keeps u0 s) : Keeps u0 (s.cureWord addr) := by
  unfold State.cureWord
  apply Keeps.ite
  · exact h_s.shrink (record := length_setDel _ _)
  · exact h_s

theorem State.cureRange_keeps {u0 : State} (s : State) (addr n : Nat) (h_s : Keeps u0 s) : Keeps u0 (s.cureRange addr n) := by
  unfold State.cureRange
  exact h_s.shrink (record := List.length_filter_le _ _)

theorem State.noteSofts_keeps {u0 : State} (s : State) (addr n : Nat) (h_s : Keeps u0 s) : Keeps u0 (s.noteSofts addr n) := by
  unfold State.noteSofts
  exact foldl_keeps _ (fun x a h => State.noteSoft_keeps x a h) h_s

theorem State.markStale_keeps {u0 : State} (s : Sys2Proof.Machine.State) (addr : Nat) (h_s : Keeps u0 s) :
    Keeps u0 (State.markStale s addr) := by
  unfold State.markStale
  extract_lets l0 l1 l2
  apply Keeps.ite
  · apply State.setObj_keeps
    exact Keeps.same (s := s) (by assumption) rfl
  · assumption

theorem State.store_keeps {u0 : State} (s : State) (addr n v : Nat) (h_s : Keeps u0 s) : Keeps u0 (s.store addr n v) := by
  unfold State.store
  exact State.markStale_keeps _ _ (h_s.shrink (mem := memWrite_wf _ _ _ _) (record := List.length_filter_le _ _))

theorem State.zeroRange_keeps {u0 : State} (s : State) (addr n : Nat) (h_s : Keeps u0 s) : Keeps u0 (s.zeroRange addr n) := by
  unfold State.zeroRange
  exact State.cureRange_keeps _ _ _ (h_s.shrink (mem := memClear_wf _ _ _))

theorem State.modFault_keeps {u0 : State} (s : Sys2Proof.Machine.State) (e : Fin 8) (f : BitVec 64 → BitVec 64) (h_s : Keeps u0 s) :
    Keeps u0 (State.modFault s e f) := by
  unfold State.modFault
  apply State.modEngine_keeps
  assumption

theorem State.poisonRead_keeps {u0 : State} (s : Sys2Proof.Machine.State) (e : Fin 8) (reader : Nat) (addr : Nat) (h_s : Keeps u0 s) :
    Keeps u0 (State.poisonRead s e reader addr) := by
  unfold State.poisonRead
  apply State.noteBad_keeps
  apply State.modFault_keeps
  assumption

theorem State.noteClamp_keeps {u0 : State} (s : Sys2Proof.Machine.State) (e : Fin 8) (q : Nat) (h_s : Keeps u0 s) :
    Keeps u0 (State.noteClamp s e q) := by
  unfold State.noteClamp
  extract_lets l0
  have h_l0 : Keeps u0 l0 := by
    unfold l0
    apply State.modEngine_keeps
    assumption
  clear_value l0
  apply State.setObj_keeps
  apply State.count_keeps
  assumption

theorem State.notePoint_keeps {u0 : State} (s : Sys2Proof.Machine.State) (e : Fin 8) (p : Sys2Proof.Machine.PointRes) (h_s : Keeps u0 s) :
    Keeps u0 (State.notePoint s e p) := by
  unfold State.notePoint
  split
  · apply State.poisonRead_keeps
    assumption
  · apply Keeps.ite
    · apply State.count_keeps
      apply State.modFault_keeps
      exact foldl_keeps _ (fun x a h => State.noteSoft_keeps x a h) h_s
    · exact foldl_keeps _ (fun x a h => State.noteSoft_keeps x a h) h_s

theorem State.noteLane_keeps {u0 : State} (s : Sys2Proof.Machine.State) (e : Fin 8) (q : Nat) (r : Sys2Proof.Machine.LaneRes) (h_s : Keeps u0 s) :
    Keeps u0 (State.noteLane s e q r) := by
  unfold State.noteLane
  extract_lets l0
  have h_l0 : Keeps u0 l0 := by
    unfold l0
    apply Keeps.ite
    · apply State.noteClamp_keeps
      assumption
    · assumption
  clear_value l0
  apply foldl_keeps
  · intro x60 a61 h62
    apply State.notePoint_keeps
    assumption
  · assumption

theorem State.serveTap_keeps {u0 : State} (s : Sys2Proof.Machine.State) (e : Fin 8) (o : Sys2Proof.Machine.OrbitOp) (h_s : Keeps u0 s) :
    Keeps u0 (State.serveTap s e o).1 := by
  unfold State.serveTap
  extract_lets l0 l1 l2 l3
  have h_l3 : Keeps u0 l3 := by
    unfold l3
    apply foldl_keeps
    · intro x60 a61 h62
      apply Keeps.ite
      · apply State.noteLane_keeps
        assumption
      · assumption
    · assumption
  clear_value l3
  try dsimp only
  assumption

theorem State.refusePartial_keeps {u0 : State} (s : Sys2Proof.Machine.State) (e : Fin 8) (c : Nat) (h_s : Keeps u0 s) :
    Keeps u0 (State.refusePartial s e c) := by
  unfold State.refusePartial
  apply State.count_keeps
  apply State.noteBad_keeps
  apply State.modFault_keeps
  assumption

theorem State.correct_keeps {u0 : State} (s : Sys2Proof.Machine.State) (a : Nat) (n : Nat) (h_s : Keeps u0 s) :
    Keeps u0 (State.correct s a n) := by
  unfold State.correct
  apply foldl_keeps
  · intro x0 a1 h2
    apply Keeps.ite
    · apply State.count_keeps
      exact Keeps.same (s := x0) (by assumption) rfl
    · assumption
  · assumption

theorem State.closeGroup_keeps {u0 : State} (s : Sys2Proof.Machine.State) (e : Fin 8) (w : Sys2Proof.Machine.Desc) (h_s : Keeps u0 s) :
    Keeps u0 (State.closeGroup s e w) := by
  unfold State.closeGroup
  extract_lets l0 l1 l2 l3 l4 l5 l6
  have h_l5 : Keeps u0 l5 := by
    unfold l5
    apply foldl_keeps
    · intro x60 a61 h62
      apply State.notePoint_keeps
      assumption
    · assumption
  clear_value l5
  have h_l6 : Keeps u0 l6 := by
    unfold l6
    apply State.count_keeps
    apply State.count_keeps
    assumption
  clear_value l6
  split
  · apply State.refusePartial_keeps
    assumption
  · apply State.store_keeps
    apply State.correct_keeps
    assumption

theorem State.orbitWord_keeps {u0 : State} (s : Sys2Proof.Machine.State) (e : Fin 8) (a : Nat) (w : Sys2Proof.Word) (h_s : Keeps u0 s) :
    Keeps u0 (State.orbitWord s e a w) := by
  unfold State.orbitWord
  split
  · apply State.refusePartial_keeps
    assumption
  · apply State.store_keeps
    apply State.correct_keeps
    assumption

theorem State.dwrLane_keeps {u0 : State} (s : Sys2Proof.Machine.State) (e : Fin 8) (q : Nat) (v : Sys2Proof.Word) (h_s : Keeps u0 s) :
    Keeps u0 (State.dwrLane s e q v) := by
  unfold State.dwrLane
  extract_lets l0 l1 l2 l3 l4 l5 l6
  have h_l2 : ∀ y60, Keeps u0 y60 → ∀ y61, Keeps u0 (l2 y60 y61) := by
    intro y60 hy60 y61
    unfold l2
    apply State.modEngine_keeps
    assumption
  clear_value l2
  apply Keeps.ite
  · assumption
  · apply Keeps.ite
    · apply h_l2
      apply State.orbitWord_keeps
      assumption
    · apply Keeps.ite
      · apply h_l2
        apply State.closeGroup_keeps
        assumption
      · apply h_l2
        assumption

theorem State.outLane_keeps {u0 : State} (s : Sys2Proof.Machine.State) (e : Fin 8) (pos : Nat) (c : Nat) (v : Sys2Proof.Word) (h_s : Keeps u0 s) :
    Keeps u0 (State.outLane s e pos c v) := by
  unfold State.outLane
  apply Keeps.ite
  · extract_lets l0 l1
    have h_l0 : Keeps u0 l0 := by
      unfold l0
      apply State.orbitWord_keeps
      assumption
    clear_value l0
    exact Keeps.same (s := l0) (by assumption) rfl
  · assumption

theorem State.exwLane_keeps {u0 : State} (s : Sys2Proof.Machine.State) (e : Fin 8) (pos : Nat) (off : Nat) (v : Sys2Proof.Word) (h_s : Keeps u0 s) :
    Keeps u0 (State.exwLane s e pos off v) := by
  unfold State.exwLane
  apply Keeps.ite
  · assumption
  · apply Keeps.ite
    · extract_lets l0 l1
      have h_l0 : Keeps u0 l0 := by
        unfold l0
        apply State.orbitWord_keeps
        assumption
      clear_value l0
      exact Keeps.same (s := l0) (by assumption) rfl
    · assumption

theorem State.serveIo_keeps {u0 : State} (s : Sys2Proof.Machine.State) (e : Fin 8) (o : Sys2Proof.Machine.OrbitOp) (h_s : Keeps u0 s) :
    Keeps u0 (State.serveIo s e o).1 := by
  unfold State.serveIo
  extract_lets l0 l1 l2
  have h_l1 : Keeps u0 l1 := by
    unfold l1
    apply foldl_keeps
    · intro x60 a61 h62
      apply State.notePoint_keeps
      assumption
    · assumption
  clear_value l1
  have h_l2 : Keeps u0 l2 := by
    unfold l2
    apply Keeps.ite
    · apply State.modFault_keeps
      assumption
    · assumption
  clear_value l2
  try dsimp only
  exact Keeps.same (s := l2) (by assumption) rfl

theorem State.serveWrite_keeps {u0 : State} (s : Sys2Proof.Machine.State) (e : Fin 8) (o : Sys2Proof.Machine.OrbitOp) (h_s : Keeps u0 s) :
    Keeps u0 (State.serveWrite s e o) := by
  unfold State.serveWrite
  apply foldl_keeps
  · intro x0 a1 h2
    apply Keeps.ite
    · split
      · apply Keeps.ite
        · apply State.dwrLane_keeps
          assumption
        · assumption
      · apply State.outLane_keeps
        assumption
      · apply State.exwLane_keeps
        assumption
      · apply Keeps.ite
        · assumption
        · apply State.orbitWord_keeps
          assumption
      · assumption
    · assumption
  · assumption

theorem State.serveOp_keeps {u0 : State} (s : Sys2Proof.Machine.State) (e : Fin 8) (o : Sys2Proof.Machine.OrbitOp) (h_s : Keeps u0 s) :
    Keeps u0 (State.serveOp s e o).1 := by
  unfold State.serveOp
  apply Keeps.iteFst
  · try dsimp only
    apply State.serveWrite_keeps
    assumption
  · apply Keeps.iteFst
    · apply State.serveIo_keeps
      assumption
    · apply State.serveTap_keeps
      assumption

theorem State.setOp_keeps {u0 : State} (s : Sys2Proof.Machine.State) (e : Fin 8) (i : Nat) (o : Sys2Proof.Machine.OrbitOp) (h_s : Keeps u0 s) :
    Keeps u0 (State.setOp s e i o) := by
  unfold State.setOp
  apply State.modEngine_keeps
  assumption

theorem State.serveAt_keeps {u0 : State} (s : Sys2Proof.Machine.State) (e : Fin 8) (i : Nat) (h_s : Keeps u0 s) :
    Keeps u0 (State.serveAt s e i) := by
  unfold State.serveAt
  split
  · assumption
  · apply Keeps.ite
    · assumption
    · extract_lets l2 l3 l4
      have h_l2 : Keeps u0 l2.1 := by
        unfold l2
        apply State.serveOp_keeps
        assumption
      clear_value l2
      have h_l3 : Keeps u0 l3 := by
        unfold l3
        apply Keeps.ite
        · apply State.count_keeps
          assumption
        · assumption
      clear_value l3
      apply Keeps.ite
      · apply State.modEngine_keeps
        apply State.setOp_keeps
        assumption
      · apply State.setOp_keeps
        assumption

theorem State.serveNext_keeps {u0 : State} (s : Sys2Proof.Machine.State) (e : Fin 8) (h_s : Keeps u0 s) :
    Keeps u0 (State.serveNext s e) := by
  unfold State.serveNext
  split
  · apply State.serveAt_keeps
    assumption
  · assumption

theorem State.serveUpTo_keeps {u0 : State} (s : Sys2Proof.Machine.State) (e : Fin 8) (n : Nat) (h_s : Keeps u0 s) :
    Keeps u0 (State.serveUpTo s e n) := by
  unfold State.serveUpTo
  apply foldl_keeps
  · intro x0 a1 h2
    apply State.serveAt_keeps
    assumption
  · assumption

theorem State.storeWord_keeps {u0 : State} (s : Sys2Proof.Machine.State) (p : Nat × Sys2Proof.Word) (h_s : Keeps u0 s) :
    Keeps u0 (State.storeWord s p) := by
  unfold State.storeWord
  apply State.store_keeps
  assumption

theorem State.doStores_keeps {u0 : State} (s : Sys2Proof.Machine.State) (e : Fin 8) (h_s : Keeps u0 s) :
    Keeps u0 (State.doStores s e) := by
  unfold State.doStores
  extract_lets l0 l1 l2
  have h_l1 : Keeps u0 l1 := by
    unfold l1
    apply foldl_keeps
    · intro x60 a61 h62
      apply foldl_keeps
      · intro x63 a64 h65
        apply State.storeWord_keeps
        assumption
      · assumption
    · assumption
  clear_value l1
  have h_l2 : Keeps u0 l2 := by
    unfold l2
    apply Keeps.ite
    · apply State.modFault_keeps
      assumption
    · assumption
  clear_value l2
  apply State.modEngine_keeps
  assumption

theorem State.closeBundle_keeps {u0 : State} (s : Sys2Proof.Machine.State) (e : Fin 8) (h_s : Keeps u0 s) :
    Keeps u0 (State.closeBundle s e) := by
  unfold State.closeBundle
  extract_lets l0 l1 l2 l3
  have h_l0 : Keeps u0 l0 := by
    unfold l0
    apply State.modEngine_keeps
    assumption
  clear_value l0
  have h_l1 : Keeps u0 l1 := by
    unfold l1
    apply State.doStores_keeps
    assumption
  clear_value l1
  have h_l2 : Keeps u0 l2 := by
    unfold l2
    apply Keeps.ite
    · assumption
    · apply State.serveUpTo_keeps
      assumption
  clear_value l2
  have h_l3 : Keeps u0 l3 := by
    unfold l3
    apply Keeps.ite
    · apply State.serveUpTo_keeps
      assumption
    · assumption
  clear_value l3
  apply State.modEngine_keeps
  assumption

theorem State.openSlot_keeps {u0 : State} (s : Sys2Proof.Machine.State) (e : Fin 8) (k : Nat) (h_s : Keeps u0 s) :
    Keeps u0 (State.openSlot s e k) := by
  unfold State.openSlot
  extract_lets l0
  have h_l0 : Keeps u0 l0 := by
    unfold l0
    apply Keeps.ite
    · apply State.closeBundle_keeps
      assumption
    · assumption
  clear_value l0
  apply State.modEngine_keeps
  assumption

theorem State.slotOp_keeps {u0 : State} (s : Sys2Proof.Machine.State) (e : Fin 8) (k : Nat) (f : Sys2Proof.Machine.Engine → Sys2Proof.Machine.Engine) (h_s : Keeps u0 s) :
    Keeps u0 (State.slotOp s e k f) := by
  unfold State.slotOp
  apply State.modEngine_keeps
  apply State.openSlot_keeps
  assumption

theorem State.mOp_keeps {u0 : State} (s : Sys2Proof.Machine.State) (e : Fin 8) (f : Sys2Proof.Machine.Engine → Sys2Proof.Machine.Engine) (h_s : Keeps u0 s) :
    Keeps u0 (State.mOp s e f) := by
  unfold State.mOp
  apply State.slotOp_keeps
  assumption

theorem execMnop_keeps {u0 : State} (e : Fin 8) (s : Sys2Proof.Machine.State) (h_s : Keeps u0 s) :
    KeepsOut u0 (execMnop e s) := by
  unfold execMnop
  apply KeepsOut.next
  apply State.openSlot_keeps
  assumption

theorem execMpy_keeps {u0 : State} (e : Fin 8) (d : Fin 8) (a : Fin 32) (b : Fin 32) (m : Fin 8) (f : Bool) (s : Sys2Proof.Machine.State) (h_s : Keeps u0 s) :
    KeepsOut u0 (execMpy e d a b m f s) := by
  unfold execMpy
  apply KeepsOut.next
  apply State.mOp_keeps
  assumption

theorem execMpyn_keeps {u0 : State} (e : Fin 8) (d : Fin 8) (a : Fin 32) (b : Fin 32) (m : Fin 8) (f : Bool) (s : Sys2Proof.Machine.State) (h_s : Keeps u0 s) :
    KeepsOut u0 (execMpyn e d a b m f s) := by
  unfold execMpyn
  apply KeepsOut.next
  apply State.mOp_keeps
  assumption

theorem execMac_keeps {u0 : State} (e : Fin 8) (d : Fin 8) (a : Fin 32) (b : Fin 32) (m : Fin 8) (f : Bool) (s : Sys2Proof.Machine.State) (h_s : Keeps u0 s) :
    KeepsOut u0 (execMac e d a b m f s) := by
  unfold execMac
  apply KeepsOut.next
  apply State.mOp_keeps
  assumption

theorem execMsu_keeps {u0 : State} (e : Fin 8) (d : Fin 8) (a : Fin 32) (b : Fin 32) (m : Fin 8) (f : Bool) (s : Sys2Proof.Machine.State) (h_s : Keeps u0 s) :
    KeepsOut u0 (execMsu e d a b m f s) := by
  unfold execMsu
  apply KeepsOut.next
  apply State.mOp_keeps
  assumption

theorem execMpys_keeps {u0 : State} (e : Fin 8) (d : Fin 8) (a : Fin 32) (b : Fin 16) (m : Fin 8) (f : Bool) (s : Sys2Proof.Machine.State) (h_s : Keeps u0 s) :
    KeepsOut u0 (execMpys e d a b m f s) := by
  unfold execMpys
  apply KeepsOut.next
  apply State.mOp_keeps
  assumption

theorem execMacs_keeps {u0 : State} (e : Fin 8) (d : Fin 8) (a : Fin 32) (b : Fin 16) (m : Fin 8) (f : Bool) (s : Sys2Proof.Machine.State) (h_s : Keeps u0 s) :
    KeepsOut u0 (execMacs e d a b m f s) := by
  unfold execMacs
  apply KeepsOut.next
  apply State.mOp_keeps
  assumption

theorem execMsus_keeps {u0 : State} (e : Fin 8) (d : Fin 8) (a : Fin 32) (b : Fin 16) (m : Fin 8) (f : Bool) (s : Sys2Proof.Machine.State) (h_s : Keeps u0 s) :
    KeepsOut u0 (execMsus e d a b m f s) := by
  unfold execMsus
  apply KeepsOut.next
  apply State.mOp_keeps
  assumption

theorem execMld_keeps {u0 : State} (e : Fin 8) (d : Fin 8) (a : Fin 32) (m : Fin 8) (s : Sys2Proof.Machine.State) (h_s : Keeps u0 s) :
    KeepsOut u0 (execMld e d a m s) := by
  unfold execMld
  apply KeepsOut.next
  apply State.mOp_keeps
  assumption

theorem execMclr_keeps {u0 : State} (e : Fin 8) (d : Fin 8) (m : Fin 8) (s : Sys2Proof.Machine.State) (h_s : Keeps u0 s) :
    KeepsOut u0 (execMclr e d m s) := by
  unfold execMclr
  apply KeepsOut.next
  apply State.mOp_keeps
  assumption

theorem execMaddv_keeps {u0 : State} (e : Fin 8) (d : Fin 8) (a : Fin 32) (m : Fin 8) (s : Sys2Proof.Machine.State) (h_s : Keeps u0 s) :
    KeepsOut u0 (execMaddv e d a m s) := by
  unfold execMaddv
  apply KeepsOut.next
  apply State.mOp_keeps
  assumption

theorem State.aLanes_keeps {u0 : State} (s : Sys2Proof.Machine.State) (e : Fin 8) (lat : Nat) (d : Fin 32) (m : Fin 8) (f : Sys2Proof.Machine.Engine → Fin 64 → Sys2Proof.Word) (h_s : Keeps u0 s) :
    Keeps u0 (State.aLanes s e lat d m f) := by
  unfold State.aLanes
  apply State.slotOp_keeps
  assumption

theorem State.aMask_keeps {u0 : State} (s : Sys2Proof.Machine.State) (e : Fin 8) (d : Fin 8) (m : Fin 8) (f : Sys2Proof.Machine.Engine → Fin 64 → Bool) (h_s : Keeps u0 s) :
    Keeps u0 (State.aMask s e d m f) := by
  unfold State.aMask
  apply State.slotOp_keeps
  assumption

theorem execAnop_keeps {u0 : State} (e : Fin 8) (s : Sys2Proof.Machine.State) (h_s : Keeps u0 s) :
    KeepsOut u0 (execAnop e s) := by
  unfold execAnop
  apply KeepsOut.next
  apply State.openSlot_keeps
  assumption

theorem execAdd_keeps {u0 : State} (e : Fin 8) (d : Fin 32) (a : Fin 32) (b : Fin 32) (m : Fin 8) (s : Sys2Proof.Machine.State) (h_s : Keeps u0 s) :
    KeepsOut u0 (execAdd e d a b m s) := by
  unfold execAdd
  apply KeepsOut.next
  apply State.aLanes_keeps
  assumption

theorem execSub_keeps {u0 : State} (e : Fin 8) (d : Fin 32) (a : Fin 32) (b : Fin 32) (m : Fin 8) (s : Sys2Proof.Machine.State) (h_s : Keeps u0 s) :
    KeepsOut u0 (execSub e d a b m s) := by
  unfold execSub
  apply KeepsOut.next
  apply State.aLanes_keeps
  assumption

theorem execAddw_keeps {u0 : State} (e : Fin 8) (d : Fin 32) (a : Fin 32) (b : Fin 32) (m : Fin 8) (s : Sys2Proof.Machine.State) (h_s : Keeps u0 s) :
    KeepsOut u0 (execAddw e d a b m s) := by
  unfold execAddw
  apply KeepsOut.next
  apply State.aLanes_keeps
  assumption

theorem execSubw_keeps {u0 : State} (e : Fin 8) (d : Fin 32) (a : Fin 32) (b : Fin 32) (m : Fin 8) (s : Sys2Proof.Machine.State) (h_s : Keeps u0 s) :
    KeepsOut u0 (execSubw e d a b m s) := by
  unfold execSubw
  apply KeepsOut.next
  apply State.aLanes_keeps
  assumption

theorem execAdds_keeps {u0 : State} (e : Fin 8) (d : Fin 32) (a : Fin 32) (b : Fin 16) (m : Fin 8) (s : Sys2Proof.Machine.State) (h_s : Keeps u0 s) :
    KeepsOut u0 (execAdds e d a b m s) := by
  unfold execAdds
  apply KeepsOut.next
  apply State.aLanes_keeps
  assumption

theorem execSubs_keeps {u0 : State} (e : Fin 8) (d : Fin 32) (a : Fin 32) (b : Fin 16) (m : Fin 8) (s : Sys2Proof.Machine.State) (h_s : Keeps u0 s) :
    KeepsOut u0 (execSubs e d a b m s) := by
  unfold execSubs
  apply KeepsOut.next
  apply State.aLanes_keeps
  assumption

theorem execVabs_keeps {u0 : State} (e : Fin 8) (d : Fin 32) (a : Fin 32) (m : Fin 8) (s : Sys2Proof.Machine.State) (h_s : Keeps u0 s) :
    KeepsOut u0 (execVabs e d a m s) := by
  unfold execVabs
  apply KeepsOut.next
  apply State.aLanes_keeps
  assumption

theorem execNeg_keeps {u0 : State} (e : Fin 8) (d : Fin 32) (a : Fin 32) (m : Fin 8) (s : Sys2Proof.Machine.State) (h_s : Keeps u0 s) :
    KeepsOut u0 (execNeg e d a m s) := by
  unfold execNeg
  apply KeepsOut.next
  apply State.aLanes_keeps
  assumption

theorem execVmin_keeps {u0 : State} (e : Fin 8) (d : Fin 32) (a : Fin 32) (b : Fin 32) (m : Fin 8) (s : Sys2Proof.Machine.State) (h_s : Keeps u0 s) :
    KeepsOut u0 (execVmin e d a b m s) := by
  unfold execVmin
  apply KeepsOut.next
  apply State.aLanes_keeps
  assumption

theorem execVmax_keeps {u0 : State} (e : Fin 8) (d : Fin 32) (a : Fin 32) (b : Fin 32) (m : Fin 8) (s : Sys2Proof.Machine.State) (h_s : Keeps u0 s) :
    KeepsOut u0 (execVmax e d a b m s) := by
  unfold execVmax
  apply KeepsOut.next
  apply State.aLanes_keeps
  assumption

theorem execMins_keeps {u0 : State} (e : Fin 8) (d : Fin 32) (a : Fin 32) (b : Fin 16) (m : Fin 8) (s : Sys2Proof.Machine.State) (h_s : Keeps u0 s) :
    KeepsOut u0 (execMins e d a b m s) := by
  unfold execMins
  apply KeepsOut.next
  apply State.aLanes_keeps
  assumption

theorem execMaxs_keeps {u0 : State} (e : Fin 8) (d : Fin 32) (a : Fin 32) (b : Fin 16) (m : Fin 8) (s : Sys2Proof.Machine.State) (h_s : Keeps u0 s) :
    KeepsOut u0 (execMaxs e d a b m s) := by
  unfold execMaxs
  apply KeepsOut.next
  apply State.aLanes_keeps
  assumption

theorem execVand_keeps {u0 : State} (e : Fin 8) (d : Fin 32) (a : Fin 32) (b : Fin 32) (m : Fin 8) (s : Sys2Proof.Machine.State) (h_s : Keeps u0 s) :
    KeepsOut u0 (execVand e d a b m s) := by
  unfold execVand
  apply KeepsOut.next
  apply State.aLanes_keeps
  assumption

theorem execVor_keeps {u0 : State} (e : Fin 8) (d : Fin 32) (a : Fin 32) (b : Fin 32) (m : Fin 8) (s : Sys2Proof.Machine.State) (h_s : Keeps u0 s) :
    KeepsOut u0 (execVor e d a b m s) := by
  unfold execVor
  apply KeepsOut.next
  apply State.aLanes_keeps
  assumption

theorem execVxor_keeps {u0 : State} (e : Fin 8) (d : Fin 32) (a : Fin 32) (b : Fin 32) (m : Fin 8) (s : Sys2Proof.Machine.State) (h_s : Keeps u0 s) :
    KeepsOut u0 (execVxor e d a b m s) := by
  unfold execVxor
  apply KeepsOut.next
  apply State.aLanes_keeps
  assumption

theorem execVnot_keeps {u0 : State} (e : Fin 8) (d : Fin 32) (a : Fin 32) (m : Fin 8) (s : Sys2Proof.Machine.State) (h_s : Keeps u0 s) :
    KeepsOut u0 (execVnot e d a m s) := by
  unfold execVnot
  apply KeepsOut.next
  apply State.aLanes_keeps
  assumption

theorem execMov_keeps {u0 : State} (e : Fin 8) (d : Fin 32) (a : Fin 32) (m : Fin 8) (s : Sys2Proof.Machine.State) (h_s : Keeps u0 s) :
    KeepsOut u0 (execMov e d a m s) := by
  unfold execMov
  apply KeepsOut.next
  apply State.aLanes_keeps
  assumption

theorem execMovs_keeps {u0 : State} (e : Fin 8) (d : Fin 32) (b : Fin 16) (m : Fin 8) (s : Sys2Proof.Machine.State) (h_s : Keeps u0 s) :
    KeepsOut u0 (execMovs e d b m s) := by
  unfold execMovs
  apply KeepsOut.next
  apply State.aLanes_keeps
  assumption

theorem execAsri_keeps {u0 : State} (e : Fin 8) (d : Fin 32) (a : Fin 32) (k5 : Fin 32) (m : Fin 8) (s : Sys2Proof.Machine.State) (h_s : Keeps u0 s) :
    KeepsOut u0 (execAsri e d a k5 m s) := by
  unfold execAsri
  apply KeepsOut.next
  apply State.aLanes_keeps
  assumption

theorem execAsrv_keeps {u0 : State} (e : Fin 8) (d : Fin 32) (a : Fin 32) (b : Fin 32) (m : Fin 8) (s : Sys2Proof.Machine.State) (h_s : Keeps u0 s) :
    KeepsOut u0 (execAsrv e d a b m s) := by
  unfold execAsrv
  apply KeepsOut.next
  apply State.aLanes_keeps
  assumption

theorem execLsri_keeps {u0 : State} (e : Fin 8) (d : Fin 32) (a : Fin 32) (k5 : Fin 32) (m : Fin 8) (s : Sys2Proof.Machine.State) (h_s : Keeps u0 s) :
    KeepsOut u0 (execLsri e d a k5 m s) := by
  unfold execLsri
  apply KeepsOut.next
  apply State.aLanes_keeps
  assumption

theorem execShli_keeps {u0 : State} (e : Fin 8) (d : Fin 32) (a : Fin 32) (k5 : Fin 32) (m : Fin 8) (s : Sys2Proof.Machine.State) (h_s : Keeps u0 s) :
    KeepsOut u0 (execShli e d a k5 m s) := by
  unfold execShli
  apply KeepsOut.next
  apply State.aLanes_keeps
  assumption

theorem execShlwi_keeps {u0 : State} (e : Fin 8) (d : Fin 32) (a : Fin 32) (k5 : Fin 32) (m : Fin 8) (s : Sys2Proof.Machine.State) (h_s : Keeps u0 s) :
    KeepsOut u0 (execShlwi e d a k5 m s) := by
  unfold execShlwi
  apply KeepsOut.next
  apply State.aLanes_keeps
  assumption

theorem execNorm_keeps {u0 : State} (e : Fin 8) (d : Fin 32) (a : Fin 32) (m : Fin 8) (s : Sys2Proof.Machine.State) (h_s : Keeps u0 s) :
    KeepsOut u0 (execNorm e d a m s) := by
  unfold execNorm
  apply KeepsOut.next
  apply State.aLanes_keeps
  assumption

theorem execVexp_keeps {u0 : State} (e : Fin 8) (d : Fin 32) (a : Fin 8) (m : Fin 8) (s : Sys2Proof.Machine.State) (h_s : Keeps u0 s) :
    KeepsOut u0 (execVexp e d a m s) := by
  unfold execVexp
  apply KeepsOut.next
  apply State.aLanes_keeps
  assumption

theorem execBexp_keeps {u0 : State} (e : Fin 8) (d : Fin 32) (a : Fin 32) (g : Fin 32) (m : Fin 8) (s : Sys2Proof.Machine.State) (h_s : Keeps u0 s) :
    KeepsOut u0 (execBexp e d a g m s) := by
  unfold execBexp
  apply KeepsOut.next
  apply State.aLanes_keeps
  assumption

theorem execBexpa_keeps {u0 : State} (e : Fin 8) (d : Fin 32) (a : Fin 8) (g : Fin 32) (m : Fin 8) (s : Sys2Proof.Machine.State) (h_s : Keeps u0 s) :
    KeepsOut u0 (execBexpa e d a g m s) := by
  unfold execBexpa
  apply KeepsOut.next
  apply State.aLanes_keeps
  assumption

theorem execLroti_keeps {u0 : State} (e : Fin 8) (d : Fin 32) (a : Fin 32) (k5 : Fin 32) (m : Fin 8) (s : Sys2Proof.Machine.State) (h_s : Keeps u0 s) :
    KeepsOut u0 (execLroti e d a k5 m s) := by
  unfold execLroti
  apply KeepsOut.next
  apply State.aLanes_keeps
  assumption

theorem execLrotih_keeps {u0 : State} (e : Fin 8) (d : Fin 32) (a : Fin 32) (k5 : Fin 32) (m : Fin 8) (s : Sys2Proof.Machine.State) (h_s : Keeps u0 s) :
    KeepsOut u0 (execLrotih e d a k5 m s) := by
  unfold execLrotih
  apply KeepsOut.next
  apply State.aLanes_keeps
  assumption

theorem execLrots_keeps {u0 : State} (e : Fin 8) (d : Fin 32) (a : Fin 32) (b : Fin 16) (m : Fin 8) (s : Sys2Proof.Machine.State) (h_s : Keeps u0 s) :
    KeepsOut u0 (execLrots e d a b m s) := by
  unfold execLrots
  apply KeepsOut.next
  apply State.aLanes_keeps
  assumption

theorem execBcasti_keeps {u0 : State} (e : Fin 8) (d : Fin 32) (a : Fin 32) (k5 : Fin 32) (m : Fin 8) (s : Sys2Proof.Machine.State) (h_s : Keeps u0 s) :
    KeepsOut u0 (execBcasti e d a k5 m s) := by
  unfold execBcasti
  apply KeepsOut.next
  apply State.aLanes_keeps
  assumption

theorem execBcastih_keeps {u0 : State} (e : Fin 8) (d : Fin 32) (a : Fin 32) (k5 : Fin 32) (m : Fin 8) (s : Sys2Proof.Machine.State) (h_s : Keeps u0 s) :
    KeepsOut u0 (execBcastih e d a k5 m s) := by
  unfold execBcastih
  apply KeepsOut.next
  apply State.aLanes_keeps
  assumption

theorem execBcasts_keeps {u0 : State} (e : Fin 8) (d : Fin 32) (a : Fin 32) (b : Fin 16) (m : Fin 8) (s : Sys2Proof.Machine.State) (h_s : Keeps u0 s) :
    KeepsOut u0 (execBcasts e d a b m s) := by
  unfold execBcasts
  apply KeepsOut.next
  apply State.aLanes_keeps
  assumption

theorem execRsum_keeps {u0 : State} (e : Fin 8) (d : Fin 32) (a : Fin 32) (m : Fin 8) (s : Sys2Proof.Machine.State) (h_s : Keeps u0 s) :
    KeepsOut u0 (execRsum e d a m s) := by
  unfold execRsum
  apply KeepsOut.next
  apply State.aLanes_keeps
  assumption

theorem execRmax_keeps {u0 : State} (e : Fin 8) (d : Fin 32) (a : Fin 32) (m : Fin 8) (s : Sys2Proof.Machine.State) (h_s : Keeps u0 s) :
    KeepsOut u0 (execRmax e d a m s) := by
  unfold execRmax
  apply KeepsOut.next
  apply State.aLanes_keeps
  assumption

theorem execRmin_keeps {u0 : State} (e : Fin 8) (d : Fin 32) (a : Fin 32) (m : Fin 8) (s : Sys2Proof.Machine.State) (h_s : Keeps u0 s) :
    KeepsOut u0 (execRmin e d a m s) := by
  unfold execRmin
  apply KeepsOut.next
  apply State.aLanes_keeps
  assumption

theorem execSel_keeps {u0 : State} (e : Fin 8) (t : Fin 8) (d : Fin 32) (a : Fin 32) (b : Fin 32) (m : Fin 8) (s : Sys2Proof.Machine.State) (h_s : Keeps u0 s) :
    KeepsOut u0 (execSel e t d a b m s) := by
  unfold execSel
  apply KeepsOut.next
  apply State.aLanes_keeps
  assumption

theorem execCmpeq_keeps {u0 : State} (e : Fin 8) (d : Fin 8) (a : Fin 32) (b : Fin 32) (m : Fin 8) (s : Sys2Proof.Machine.State) (h_s : Keeps u0 s) :
    KeepsOut u0 (execCmpeq e d a b m s) := by
  unfold execCmpeq
  apply KeepsOut.next
  apply State.aMask_keeps
  assumption

theorem execCmplt_keeps {u0 : State} (e : Fin 8) (d : Fin 8) (a : Fin 32) (b : Fin 32) (m : Fin 8) (s : Sys2Proof.Machine.State) (h_s : Keeps u0 s) :
    KeepsOut u0 (execCmplt e d a b m s) := by
  unfold execCmplt
  apply KeepsOut.next
  apply State.aMask_keeps
  assumption

theorem execCmple_keeps {u0 : State} (e : Fin 8) (d : Fin 8) (a : Fin 32) (b : Fin 32) (m : Fin 8) (s : Sys2Proof.Machine.State) (h_s : Keeps u0 s) :
    KeepsOut u0 (execCmple e d a b m s) := by
  unfold execCmple
  apply KeepsOut.next
  apply State.aMask_keeps
  assumption

theorem execCmplts_keeps {u0 : State} (e : Fin 8) (d : Fin 8) (a : Fin 32) (b : Fin 16) (m : Fin 8) (s : Sys2Proof.Machine.State) (h_s : Keeps u0 s) :
    KeepsOut u0 (execCmplts e d a b m s) := by
  unfold execCmplts
  apply KeepsOut.next
  apply State.aMask_keeps
  assumption

theorem execCmpgts_keeps {u0 : State} (e : Fin 8) (d : Fin 8) (a : Fin 32) (b : Fin 16) (m : Fin 8) (s : Sys2Proof.Machine.State) (h_s : Keeps u0 s) :
    KeepsOut u0 (execCmpgts e d a b m s) := by
  unfold execCmpgts
  apply KeepsOut.next
  apply State.aMask_keeps
  assumption

theorem execMand_keeps {u0 : State} (e : Fin 8) (d : Fin 8) (a : Fin 8) (b : Fin 8) (m : Fin 8) (s : Sys2Proof.Machine.State) (h_s : Keeps u0 s) :
    KeepsOut u0 (execMand e d a b m s) := by
  unfold execMand
  apply KeepsOut.next
  apply State.aMask_keeps
  assumption

theorem execMor_keeps {u0 : State} (e : Fin 8) (d : Fin 8) (a : Fin 8) (b : Fin 8) (m : Fin 8) (s : Sys2Proof.Machine.State) (h_s : Keeps u0 s) :
    KeepsOut u0 (execMor e d a b m s) := by
  unfold execMor
  apply KeepsOut.next
  apply State.aMask_keeps
  assumption

theorem execMxor_keeps {u0 : State} (e : Fin 8) (d : Fin 8) (a : Fin 8) (b : Fin 8) (m : Fin 8) (s : Sys2Proof.Machine.State) (h_s : Keeps u0 s) :
    KeepsOut u0 (execMxor e d a b m s) := by
  unfold execMxor
  apply KeepsOut.next
  apply State.aMask_keeps
  assumption

theorem execMnot_keeps {u0 : State} (e : Fin 8) (d : Fin 8) (a : Fin 8) (m : Fin 8) (s : Sys2Proof.Machine.State) (h_s : Keeps u0 s) :
    KeepsOut u0 (execMnot e d a m s) := by
  unfold execMnot
  apply KeepsOut.next
  apply State.aMask_keeps
  assumption

theorem execMset_keeps {u0 : State} (e : Fin 8) (d : Fin 8) (a : Fin 16) (b : Fin 16) (m : Fin 8) (s : Sys2Proof.Machine.State) (h_s : Keeps u0 s) :
    KeepsOut u0 (execMset e d a b m s) := by
  unfold execMset
  apply KeepsOut.next
  apply State.aMask_keeps
  assumption

theorem execMguard_keeps {u0 : State} (e : Fin 8) (d : Fin 8) (m : Fin 8) (s : Sys2Proof.Machine.State) (h_s : Keeps u0 s) :
    KeepsOut u0 (execMguard e d m s) := by
  unfold execMguard
  apply KeepsOut.next
  apply State.aMask_keeps
  assumption

theorem State.aScalar_keeps {u0 : State} (s : Sys2Proof.Machine.State) (e : Fin 8) (d : Fin 16) (f : Sys2Proof.Machine.Engine → Int) (h_s : Keeps u0 s) :
    Keeps u0 (State.aScalar s e d f) := by
  unfold State.aScalar
  apply State.slotOp_keeps
  assumption

theorem execBexps_keeps {u0 : State} (e : Fin 8) (d : Fin 16) (a : Fin 32) (m : Fin 8) (s : Sys2Proof.Machine.State) (h_s : Keeps u0 s) :
    KeepsOut u0 (execBexps e d a m s) := by
  unfold execBexps
  apply KeepsOut.next
  apply State.aScalar_keeps
  assumption

theorem execBexpas_keeps {u0 : State} (e : Fin 8) (d : Fin 16) (a : Fin 8) (m : Fin 8) (s : Sys2Proof.Machine.State) (h_s : Keeps u0 s) :
    KeepsOut u0 (execBexpas e d a m s) := by
  unfold execBexpas
  apply KeepsOut.next
  apply State.aScalar_keeps
  assumption

theorem execMova_keeps {u0 : State} (e : Fin 8) (d : Fin 32) (a : Fin 8) (m : Fin 8) (s : Sys2Proof.Machine.State) (h_s : Keeps u0 s) :
    KeepsOut u0 (execMova e d a m s) := by
  unfold execMova
  apply KeepsOut.next
  apply State.slotOp_keeps
  assumption

theorem State.noteLoads_keeps {u0 : State} (s : Sys2Proof.Machine.State) (e : Fin 8) (l : List Nat) (h_s : Keeps u0 s) :
    Keeps u0 (State.noteLoads s e l) := by
  unfold State.noteLoads
  apply foldl_keeps
  · intro x0 a1 h2
    apply Keeps.ite
    · apply State.poisonRead_keeps
      assumption
    · apply Keeps.ite
      · apply State.noteSoft_keeps
        assumption
      · assumption
  · assumption

theorem execXnop_keeps {u0 : State} (e : Fin 8) (s : Sys2Proof.Machine.State) (h_s : Keeps u0 s) :
    KeepsOut u0 (execXnop e s) := by
  unfold execXnop
  apply KeepsOut.next
  apply State.openSlot_keeps
  assumption

theorem execYnop_keeps {u0 : State} (e : Fin 8) (s : Sys2Proof.Machine.State) (h_s : Keeps u0 s) :
    KeepsOut u0 (execYnop e s) := by
  unfold execYnop
  apply KeepsOut.next
  apply State.openSlot_keeps
  assumption

theorem execLdv_keeps {u0 : State} (e : Fin 8) (y : Bool) (v : Fin 32) (p : Fin 16) (mode : BitVec 3) (m : Fin 8) (s : Sys2Proof.Machine.State) (h_s : Keeps u0 s) :
    KeepsOut u0 (execLdv e y v p mode m s) := by
  unfold execLdv
  extract_lets l0 l1 l2 l3
  have h_l0 : Keeps u0 l0 := by
    unfold l0
    apply State.openSlot_keeps
    assumption
  clear_value l0
  have h_l3 : Keeps u0 l3 := by
    unfold l3
    apply State.noteLoads_keeps
    assumption
  clear_value l3
  apply KeepsOut.next
  apply State.modEngine_keeps
  assumption

theorem execStv_keeps {u0 : State} (e : Fin 8) (y : Bool) (v : Fin 32) (p : Fin 16) (mode : BitVec 3) (m : Fin 8) (s : Sys2Proof.Machine.State) (h_s : Keeps u0 s) :
    KeepsOut u0 (execStv e y v p mode m s) := by
  unfold execStv
  apply KeepsOut.next
  apply State.slotOp_keeps
  assumption

theorem execLdb_keeps {u0 : State} (e : Fin 8) (y : Bool) (v : Fin 32) (p : Fin 16) (mode : BitVec 3) (m : Fin 8) (s : Sys2Proof.Machine.State) (h_s : Keeps u0 s) :
    KeepsOut u0 (execLdb e y v p mode m s) := by
  unfold execLdb
  extract_lets l0 l1 l2 l3
  have h_l0 : Keeps u0 l0 := by
    unfold l0
    apply State.openSlot_keeps
    assumption
  clear_value l0
  have h_l3 : Keeps u0 l3 := by
    unfold l3
    apply Keeps.ite
    · assumption
    · apply State.noteLoads_keeps
      assumption
  clear_value l3
  apply KeepsOut.next
  apply State.modEngine_keeps
  assumption

theorem execLds_keeps {u0 : State} (e : Fin 8) (y : Bool) (v : Fin 16) (p : Fin 16) (mode : BitVec 3) (s : Sys2Proof.Machine.State) (h_s : Keeps u0 s) :
    KeepsOut u0 (execLds e y v p mode s) := by
  unfold execLds
  extract_lets l0 l1
  have h_l0 : Keeps u0 l0 := by
    unfold l0
    apply State.openSlot_keeps
    assumption
  clear_value l0
  apply KeepsOut.next
  apply State.modEngine_keeps
  apply State.noteLoads_keeps
  assumption

theorem execSts_keeps {u0 : State} (e : Fin 8) (y : Bool) (v : Fin 16) (p : Fin 16) (mode : BitVec 3) (m : Fin 8) (s : Sys2Proof.Machine.State) (h_s : Keeps u0 s) :
    KeepsOut u0 (execSts e y v p mode m s) := by
  unfold execSts
  apply KeepsOut.next
  apply State.slotOp_keeps
  assumption

theorem State.noteCoefs_keeps {u0 : State} (s : Sys2Proof.Machine.State) (e : Fin 8) (l : List Nat) (h_s : Keeps u0 s) :
    Keeps u0 (State.noteCoefs s e l) := by
  unfold State.noteCoefs
  extract_lets l0 l1 l2
  have h_l2 : Keeps u0 l2 := by
    unfold l2
    apply State.noteLoads_keeps
    assumption
  clear_value l2
  apply Keeps.ite
  · apply State.modEngine_keeps
    assumption
  · assumption

theorem execLdc_keeps {u0 : State} (e : Fin 8) (v : Fin 32) (p : Fin 16) (mode : BitVec 3) (m : Fin 8) (s : Sys2Proof.Machine.State) (h_s : Keeps u0 s) :
    KeepsOut u0 (execLdc e v p mode m s) := by
  unfold execLdc
  extract_lets l0 l1 l2 l3
  have h_l0 : Keeps u0 l0 := by
    unfold l0
    apply State.openSlot_keeps
    assumption
  clear_value l0
  have h_l3 : Keeps u0 l3 := by
    unfold l3
    apply State.noteCoefs_keeps
    assumption
  clear_value l3
  apply KeepsOut.next
  apply State.modEngine_keeps
  assumption

theorem execLdcb_keeps {u0 : State} (e : Fin 8) (v : Fin 32) (p : Fin 16) (mode : BitVec 3) (m : Fin 8) (s : Sys2Proof.Machine.State) (h_s : Keeps u0 s) :
    KeepsOut u0 (execLdcb e v p mode m s) := by
  unfold execLdcb
  extract_lets l0 l1 l2 l3
  have h_l0 : Keeps u0 l0 := by
    unfold l0
    apply State.openSlot_keeps
    assumption
  clear_value l0
  have h_l3 : Keeps u0 l3 := by
    unfold l3
    apply Keeps.ite
    · assumption
    · apply State.noteCoefs_keeps
      assumption
  clear_value l3
  apply KeepsOut.next
  apply State.modEngine_keeps
  assumption

theorem State.tapV_keeps {u0 : State} (s : Sys2Proof.Machine.State) (e : Fin 8) (occ : Nat) (f : Sys2Proof.Machine.Engine → Sys2Proof.Machine.OForm) (q : Fin 32) (t : Fin 32) (m : Fin 8) (h_s : Keeps u0 s) :
    Keeps u0 (State.tapV s e occ f q t m) := by
  unfold State.tapV
  apply State.slotOp_keeps
  assumption

theorem State.tapS_keeps {u0 : State} (s : Sys2Proof.Machine.State) (e : Fin 8) (occ : Nat) (f : Sys2Proof.Machine.Engine → Sys2Proof.Machine.OForm) (q : Fin 16) (t : Fin 32) (m : Fin 8) (h_s : Keeps u0 s) :
    Keeps u0 (State.tapS s e occ f q t m) := by
  unfold State.tapS
  apply State.slotOp_keeps
  assumption

theorem execOnop_keeps {u0 : State} (e : Fin 8) (s : Sys2Proof.Machine.State) (h_s : Keeps u0 s) :
    KeepsOut u0 (execOnop e s) := by
  unfold execOnop
  apply KeepsOut.next
  apply State.openSlot_keeps
  assumption

theorem execTap_keeps {u0 : State} (e : Fin 8) (d : Fin 32) (q : Fin 32) (t : Fin 32) (m : Fin 8) (s : Sys2Proof.Machine.State) (h_s : Keeps u0 s) :
    KeepsOut u0 (execTap e d q t m s) := by
  unfold execTap
  apply KeepsOut.next
  apply State.tapV_keeps
  assumption

theorem execTap4_keeps {u0 : State} (e : Fin 8) (d : Fin 8) (q : Fin 32) (t : Fin 32) (m : Fin 8) (s : Sys2Proof.Machine.State) (h_s : Keeps u0 s) :
    KeepsOut u0 (execTap4 e d q t m s) := by
  unfold execTap4
  apply KeepsOut.next
  apply State.tapV_keeps
  assumption

theorem execTap4a_keeps {u0 : State} (e : Fin 8) (d : Fin 8) (q : Fin 32) (t : Fin 32) (m : Fin 8) (s : Sys2Proof.Machine.State) (h_s : Keeps u0 s) :
    KeepsOut u0 (execTap4a e d q t m s) := by
  unfold execTap4a
  apply KeepsOut.next
  apply State.tapV_keeps
  assumption

theorem execTap8_keeps {u0 : State} (e : Fin 8) (d : Fin 8) (q : Fin 32) (t : Fin 32) (m : Fin 8) (s : Sys2Proof.Machine.State) (h_s : Keeps u0 s) :
    KeepsOut u0 (execTap8 e d q t m s) := by
  unfold execTap8
  apply KeepsOut.next
  apply State.tapV_keeps
  assumption

theorem execTap8a_keeps {u0 : State} (e : Fin 8) (d : Fin 8) (q : Fin 32) (t : Fin 32) (m : Fin 8) (s : Sys2Proof.Machine.State) (h_s : Keeps u0 s) :
    KeepsOut u0 (execTap8a e d q t m s) := by
  unfold execTap8a
  apply KeepsOut.next
  apply State.tapV_keeps
  assumption

theorem execTaps_keeps {u0 : State} (e : Fin 8) (d : Fin 32) (q : Fin 16) (t : Fin 32) (m : Fin 8) (s : Sys2Proof.Machine.State) (h_s : Keeps u0 s) :
    KeepsOut u0 (execTaps e d q t m s) := by
  unfold execTaps
  apply KeepsOut.next
  apply State.tapS_keeps
  assumption

theorem execTaps4_keeps {u0 : State} (e : Fin 8) (d : Fin 8) (q : Fin 16) (t : Fin 32) (m : Fin 8) (s : Sys2Proof.Machine.State) (h_s : Keeps u0 s) :
    KeepsOut u0 (execTaps4 e d q t m s) := by
  unfold execTaps4
  apply KeepsOut.next
  apply State.tapS_keeps
  assumption

theorem execTaps4a_keeps {u0 : State} (e : Fin 8) (d : Fin 8) (q : Fin 16) (t : Fin 32) (m : Fin 8) (s : Sys2Proof.Machine.State) (h_s : Keeps u0 s) :
    KeepsOut u0 (execTaps4a e d q t m s) := by
  unfold execTaps4a
  apply KeepsOut.next
  apply State.tapS_keeps
  assumption

theorem execTaps8_keeps {u0 : State} (e : Fin 8) (d : Fin 8) (q : Fin 16) (t : Fin 32) (m : Fin 8) (s : Sys2Proof.Machine.State) (h_s : Keeps u0 s) :
    KeepsOut u0 (execTaps8 e d q t m s) := by
  unfold execTaps8
  apply KeepsOut.next
  apply State.tapS_keeps
  assumption

theorem execTaps8a_keeps {u0 : State} (e : Fin 8) (d : Fin 8) (q : Fin 16) (t : Fin 32) (m : Fin 8) (s : Sys2Proof.Machine.State) (h_s : Keeps u0 s) :
    KeepsOut u0 (execTaps8a e d q t m s) := by
  unfold execTaps8a
  apply KeepsOut.next
  apply State.tapS_keeps
  assumption

theorem execTrd_keeps {u0 : State} (e : Fin 8) (d : Fin 32) (q : Fin 32) (t : Fin 32) (m : Fin 8) (s : Sys2Proof.Machine.State) (h_s : Keeps u0 s) :
    KeepsOut u0 (execTrd e d q t m s) := by
  unfold execTrd
  apply KeepsOut.next
  apply State.tapV_keeps
  assumption

theorem execTrd4_keeps {u0 : State} (e : Fin 8) (d : Fin 8) (q : Fin 32) (t : Fin 32) (m : Fin 8) (s : Sys2Proof.Machine.State) (h_s : Keeps u0 s) :
    KeepsOut u0 (execTrd4 e d q t m s) := by
  unfold execTrd4
  apply KeepsOut.next
  apply State.tapV_keeps
  assumption

theorem execTrd4a_keeps {u0 : State} (e : Fin 8) (d : Fin 8) (q : Fin 32) (t : Fin 32) (m : Fin 8) (s : Sys2Proof.Machine.State) (h_s : Keeps u0 s) :
    KeepsOut u0 (execTrd4a e d q t m s) := by
  unfold execTrd4a
  apply KeepsOut.next
  apply State.tapV_keeps
  assumption

theorem execDwr_keeps {u0 : State} (e : Fin 8) (q : Fin 32) (v : Fin 32) (m : Fin 8) (s : Sys2Proof.Machine.State) (h_s : Keeps u0 s) :
    KeepsOut u0 (execDwr e q v m s) := by
  unfold execDwr
  apply KeepsOut.next
  apply State.slotOp_keeps
  assumption

theorem execChanIn_keeps {u0 : State} (e : Fin 8) (v : Fin 32) (q : Fin 16) (j : Fin 32) (m : Fin 8) (s : Sys2Proof.Machine.State) (h_s : Keeps u0 s) :
    KeepsOut u0 (execChanIn e v q j m s) := by
  unfold execChanIn
  apply KeepsOut.next
  apply State.slotOp_keeps
  assumption

theorem execChanOut_keeps {u0 : State} (e : Fin 8) (v : Fin 32) (q : Fin 16) (j : Fin 32) (m : Fin 8) (s : Sys2Proof.Machine.State) (h_s : Keeps u0 s) :
    KeepsOut u0 (execChanOut e v q j m s) := by
  unfold execChanOut
  apply KeepsOut.next
  apply State.slotOp_keeps
  assumption

theorem execExr_keeps {u0 : State} (e : Fin 8) (v : Fin 32) (q : Fin 16) (j : Fin 32) (m : Fin 8) (s : Sys2Proof.Machine.State) (h_s : Keeps u0 s) :
    KeepsOut u0 (execExr e v q j m s) := by
  unfold execExr
  apply KeepsOut.next
  apply State.slotOp_keeps
  assumption

theorem execExw_keeps {u0 : State} (e : Fin 8) (v : Fin 32) (q : Fin 16) (j : Fin 32) (m : Fin 8) (s : Sys2Proof.Machine.State) (h_s : Keeps u0 s) :
    KeepsOut u0 (execExw e v q j m s) := by
  unfold execExw
  apply KeepsOut.next
  apply State.slotOp_keeps
  assumption

theorem execOld_keeps {u0 : State} (e : Fin 8) (v : Fin 32) (q : Fin 16) (j : Fin 32) (m : Fin 8) (s : Sys2Proof.Machine.State) (h_s : Keeps u0 s) :
    KeepsOut u0 (execOld e v q j m s) := by
  unfold execOld
  apply KeepsOut.next
  apply State.slotOp_keeps
  assumption

theorem execOst_keeps {u0 : State} (e : Fin 8) (v : Fin 32) (q : Fin 16) (j : Fin 32) (m : Fin 8) (s : Sys2Proof.Machine.State) (h_s : Keeps u0 s) :
    KeepsOut u0 (execOst e v q j m s) := by
  unfold execOst
  apply KeepsOut.next
  apply State.slotOp_keeps
  assumption

theorem execOrbitAccessServed_keeps {u0 : State} (e : Fin 8) (s : Sys2Proof.Machine.State) (h_s : Keeps u0 s) :
    KeepsOut u0 (execOrbitAccessServed e s) := by
  unfold execOrbitAccessServed
  apply KeepsOut.next
  apply State.serveNext_keeps
  assumption

theorem State.cScalar_keeps {u0 : State} (s : Sys2Proof.Machine.State) (e : Fin 8) (d : Fin 16) (f : Sys2Proof.Machine.Engine → Sys2Proof.Word) (h_s : Keeps u0 s) :
    Keeps u0 (State.cScalar s e d f) := by
  unfold State.cScalar
  apply State.slotOp_keeps
  assumption

theorem execCnop_keeps {u0 : State} (e : Fin 8) (s : Sys2Proof.Machine.State) (h_s : Keeps u0 s) :
    KeepsOut u0 (execCnop e s) := by
  unfold execCnop
  apply KeepsOut.next
  apply State.openSlot_keeps
  assumption

theorem execRep_keeps {u0 : State} (e : Fin 8) (count : Fin 128) (len : Fin 128) (rot : Bool) (s : Sys2Proof.Machine.State) (h_s : Keeps u0 s) :
    KeepsOut u0 (execRep e count len rot s) := by
  unfold execRep
  apply KeepsOut.next
  apply State.slotOp_keeps
  assumption

theorem execRot_keeps {u0 : State} (e : Fin 8) (r : BitVec 4) (s : Sys2Proof.Machine.State) (h_s : Keeps u0 s) :
    KeepsOut u0 (execRot e r s) := by
  unfold execRot
  apply KeepsOut.next
  apply State.slotOp_keeps
  assumption

theorem execSacs_keeps {u0 : State} (e : Fin 8) (k : Fin 8) (imm : BitVec 5) (s : Sys2Proof.Machine.State) (h_s : Keeps u0 s) :
    KeepsOut u0 (execSacs e k imm s) := by
  unfold execSacs
  apply KeepsOut.next
  apply State.slotOp_keeps
  assumption

theorem execSacsr_keeps {u0 : State} (e : Fin 8) (k : Fin 8) (a : Fin 16) (s : Sys2Proof.Machine.State) (h_s : Keeps u0 s) :
    KeepsOut u0 (execSacsr e k a s) := by
  unfold execSacsr
  apply KeepsOut.next
  apply State.slotOp_keeps
  assumption

theorem execSli_keeps {u0 : State} (e : Fin 8) (d : Fin 16) (imm : BitVec 11) (s : Sys2Proof.Machine.State) (h_s : Keeps u0 s) :
    KeepsOut u0 (execSli e d imm s) := by
  unfold execSli
  apply KeepsOut.next
  apply State.cScalar_keeps
  assumption

theorem execSlu_keeps {u0 : State} (e : Fin 8) (d : Fin 16) (imm : BitVec 11) (s : Sys2Proof.Machine.State) (h_s : Keeps u0 s) :
    KeepsOut u0 (execSlu e d imm s) := by
  unfold execSlu
  apply KeepsOut.next
  apply State.cScalar_keeps
  assumption

theorem execSadd_keeps {u0 : State} (e : Fin 8) (d : Fin 16) (a : Fin 16) (b : Fin 16) (s : Sys2Proof.Machine.State) (h_s : Keeps u0 s) :
    KeepsOut u0 (execSadd e d a b s) := by
  unfold execSadd
  apply KeepsOut.next
  apply State.cScalar_keeps
  assumption

theorem execSsub_keeps {u0 : State} (e : Fin 8) (d : Fin 16) (a : Fin 16) (b : Fin 16) (s : Sys2Proof.Machine.State) (h_s : Keeps u0 s) :
    KeepsOut u0 (execSsub e d a b s) := by
  unfold execSsub
  apply KeepsOut.next
  apply State.cScalar_keeps
  assumption

theorem execSand_keeps {u0 : State} (e : Fin 8) (d : Fin 16) (a : Fin 16) (b : Fin 16) (s : Sys2Proof.Machine.State) (h_s : Keeps u0 s) :
    KeepsOut u0 (execSand e d a b s) := by
  unfold execSand
  apply KeepsOut.next
  apply State.cScalar_keeps
  assumption

theorem execSor_keeps {u0 : State} (e : Fin 8) (d : Fin 16) (a : Fin 16) (b : Fin 16) (s : Sys2Proof.Machine.State) (h_s : Keeps u0 s) :
    KeepsOut u0 (execSor e d a b s) := by
  unfold execSor
  apply KeepsOut.next
  apply State.cScalar_keeps
  assumption

theorem execSxor_keeps {u0 : State} (e : Fin 8) (d : Fin 16) (a : Fin 16) (b : Fin 16) (s : Sys2Proof.Machine.State) (h_s : Keeps u0 s) :
    KeepsOut u0 (execSxor e d a b s) := by
  unfold execSxor
  apply KeepsOut.next
  apply State.cScalar_keeps
  assumption

theorem execSaddi_keeps {u0 : State} (e : Fin 8) (d : Fin 16) (a : Fin 16) (imm : BitVec 7) (s : Sys2Proof.Machine.State) (h_s : Keeps u0 s) :
    KeepsOut u0 (execSaddi e d a imm s) := by
  unfold execSaddi
  apply KeepsOut.next
  apply State.cScalar_keeps
  assumption

theorem execSshli_keeps {u0 : State} (e : Fin 8) (d : Fin 16) (a : Fin 16) (k : Fin 32) (s : Sys2Proof.Machine.State) (h_s : Keeps u0 s) :
    KeepsOut u0 (execSshli e d a k s) := by
  unfold execSshli
  apply KeepsOut.next
  apply State.cScalar_keeps
  assumption

theorem execSlsri_keeps {u0 : State} (e : Fin 8) (d : Fin 16) (a : Fin 16) (k : Fin 32) (s : Sys2Proof.Machine.State) (h_s : Keeps u0 s) :
    KeepsOut u0 (execSlsri e d a k s) := by
  unfold execSlsri
  apply KeepsOut.next
  apply State.cScalar_keeps
  assumption

theorem execPwr_keeps {u0 : State} (e : Fin 8) (f : BitVec 2) (x : Fin 16) (a : Fin 16) (s : Sys2Proof.Machine.State) (h_s : Keeps u0 s) :
    KeepsOut u0 (execPwr e f x a s) := by
  unfold execPwr
  apply KeepsOut.next
  apply State.slotOp_keeps
  assumption

theorem execPrd_keeps {u0 : State} (e : Fin 8) (d : Fin 16) (f : BitVec 2) (x : Fin 16) (s : Sys2Proof.Machine.State) (h_s : Keeps u0 s) :
    KeepsOut u0 (execPrd e d f x s) := by
  unfold execPrd
  apply KeepsOut.next
  apply State.cScalar_keeps
  assumption

theorem execPaddi_keeps {u0 : State} (e : Fin 8) (d : Fin 16) (imm : BitVec 11) (s : Sys2Proof.Machine.State) (h_s : Keeps u0 s) :
    KeepsOut u0 (execPaddi e d imm s) := by
  unfold execPaddi
  apply KeepsOut.next
  apply State.slotOp_keeps
  assumption

theorem execSget_keeps {u0 : State} (e : Fin 8) (d : Fin 16) (a : Fin 32) (j : Fin 64) (s : Sys2Proof.Machine.State) (h_s : Keeps u0 s) :
    KeepsOut u0 (execSget e d a j s) := by
  unfold execSget
  apply KeepsOut.next
  apply State.slotOp_keeps
  assumption

theorem execEntry_keeps {u0 : State} (e : Fin 8) (s : Sys2Proof.Machine.State) (h_s : Keeps u0 s) :
    KeepsOut u0 (execEntry e s) := by
  unfold execEntry
  apply KeepsOut.next
  apply State.slotOp_keeps
  assumption

theorem execBkpt_keeps {u0 : State} (e : Fin 8) (s : Sys2Proof.Machine.State) (h_s : Keeps u0 s) :
    KeepsOut u0 (execBkpt e s) := by
  unfold execBkpt
  apply KeepsOut.next
  apply State.slotOp_keeps
  assumption

theorem outState_keeps {u0 : State} (s : State) (o : Out) (h_s : Keeps u0 s) (h_o : KeepsOut u0 o) : Keeps u0 (outState s o) := by
  unfold outState
  split
  · exact h_o _ rfl
  · exact h_s
  · exact h_s

theorem State.runSlot_keeps {u0 : State} (s : Sys2Proof.Machine.State) (i : Sys2Proof.Instr) (h_s : Keeps u0 s) :
    Keeps u0 (State.runSlot s i) := by
  unfold State.runSlot
  split
  · apply outState_keeps
    · assumption
    · apply execMnop_keeps
      assumption
  · apply outState_keeps
    · assumption
    · apply execMpy_keeps
      assumption
  · apply outState_keeps
    · assumption
    · apply execMpyn_keeps
      assumption
  · apply outState_keeps
    · assumption
    · apply execMac_keeps
      assumption
  · apply outState_keeps
    · assumption
    · apply execMsu_keeps
      assumption
  · apply outState_keeps
    · assumption
    · apply execMpys_keeps
      assumption
  · apply outState_keeps
    · assumption
    · apply execMacs_keeps
      assumption
  · apply outState_keeps
    · assumption
    · apply execMsus_keeps
      assumption
  · apply outState_keeps
    · assumption
    · apply execMld_keeps
      assumption
  · apply outState_keeps
    · assumption
    · apply execMclr_keeps
      assumption
  · apply outState_keeps
    · assumption
    · apply execMaddv_keeps
      assumption
  · apply outState_keeps
    · assumption
    · apply execAnop_keeps
      assumption
  · apply outState_keeps
    · assumption
    · apply execAdd_keeps
      assumption
  · apply outState_keeps
    · assumption
    · apply execSub_keeps
      assumption
  · apply outState_keeps
    · assumption
    · apply execAddw_keeps
      assumption
  · apply outState_keeps
    · assumption
    · apply execSubw_keeps
      assumption
  · apply outState_keeps
    · assumption
    · apply execVmin_keeps
      assumption
  · apply outState_keeps
    · assumption
    · apply execVmax_keeps
      assumption
  · apply outState_keeps
    · assumption
    · apply execVand_keeps
      assumption
  · apply outState_keeps
    · assumption
    · apply execVor_keeps
      assumption
  · apply outState_keeps
    · assumption
    · apply execVxor_keeps
      assumption
  · apply outState_keeps
    · assumption
    · apply execAsrv_keeps
      assumption
  · apply outState_keeps
    · assumption
    · apply execAdds_keeps
      assumption
  · apply outState_keeps
    · assumption
    · apply execSubs_keeps
      assumption
  · apply outState_keeps
    · assumption
    · apply execMins_keeps
      assumption
  · apply outState_keeps
    · assumption
    · apply execMaxs_keeps
      assumption
  · apply outState_keeps
    · assumption
    · apply execLrots_keeps
      assumption
  · apply outState_keeps
    · assumption
    · apply execBcasts_keeps
      assumption
  · apply outState_keeps
    · assumption
    · apply execVabs_keeps
      assumption
  · apply outState_keeps
    · assumption
    · apply execNeg_keeps
      assumption
  · apply outState_keeps
    · assumption
    · apply execVnot_keeps
      assumption
  · apply outState_keeps
    · assumption
    · apply execMov_keeps
      assumption
  · apply outState_keeps
    · assumption
    · apply execNorm_keeps
      assumption
  · apply outState_keeps
    · assumption
    · apply execRsum_keeps
      assumption
  · apply outState_keeps
    · assumption
    · apply execRmax_keeps
      assumption
  · apply outState_keeps
    · assumption
    · apply execRmin_keeps
      assumption
  · apply outState_keeps
    · assumption
    · apply execMovs_keeps
      assumption
  · apply outState_keeps
    · assumption
    · apply execAsri_keeps
      assumption
  · apply outState_keeps
    · assumption
    · apply execLsri_keeps
      assumption
  · apply outState_keeps
    · assumption
    · apply execShli_keeps
      assumption
  · apply outState_keeps
    · assumption
    · apply execShlwi_keeps
      assumption
  · apply outState_keeps
    · assumption
    · apply execLroti_keeps
      assumption
  · apply outState_keeps
    · assumption
    · apply execLrotih_keeps
      assumption
  · apply outState_keeps
    · assumption
    · apply execBcasti_keeps
      assumption
  · apply outState_keeps
    · assumption
    · apply execBcastih_keeps
      assumption
  · apply outState_keeps
    · assumption
    · apply execCmpeq_keeps
      assumption
  · apply outState_keeps
    · assumption
    · apply execCmplt_keeps
      assumption
  · apply outState_keeps
    · assumption
    · apply execCmple_keeps
      assumption
  · apply outState_keeps
    · assumption
    · apply execCmplts_keeps
      assumption
  · apply outState_keeps
    · assumption
    · apply execCmpgts_keeps
      assumption
  · apply outState_keeps
    · assumption
    · apply execMand_keeps
      assumption
  · apply outState_keeps
    · assumption
    · apply execMor_keeps
      assumption
  · apply outState_keeps
    · assumption
    · apply execMxor_keeps
      assumption
  · apply outState_keeps
    · assumption
    · apply execMnot_keeps
      assumption
  · apply outState_keeps
    · assumption
    · apply execMset_keeps
      assumption
  · apply outState_keeps
    · assumption
    · apply execMguard_keeps
      assumption
  · apply outState_keeps
    · assumption
    · apply execVexp_keeps
      assumption
  · apply outState_keeps
    · assumption
    · apply execMova_keeps
      assumption
  · apply outState_keeps
    · assumption
    · apply execBexp_keeps
      assumption
  · apply outState_keeps
    · assumption
    · apply execBexpa_keeps
      assumption
  · apply outState_keeps
    · assumption
    · apply execBexps_keeps
      assumption
  · apply outState_keeps
    · assumption
    · apply execBexpas_keeps
      assumption
  · apply outState_keeps
    · assumption
    · apply execSel_keeps
      assumption
  · apply outState_keeps
    · assumption
    · apply execXnop_keeps
      assumption
  · apply outState_keeps
    · assumption
    · apply execYnop_keeps
      assumption
  · apply outState_keeps
    · assumption
    · apply execLdv_keeps
      assumption
  · apply outState_keeps
    · assumption
    · apply execStv_keeps
      assumption
  · apply outState_keeps
    · assumption
    · apply execLdb_keeps
      assumption
  · apply outState_keeps
    · assumption
    · apply execLds_keeps
      assumption
  · apply outState_keeps
    · assumption
    · apply execSts_keeps
      assumption
  · apply outState_keeps
    · assumption
    · apply execLdc_keeps
      assumption
  · apply outState_keeps
    · assumption
    · apply execLdcb_keeps
      assumption
  · apply outState_keeps
    · assumption
    · apply execOnop_keeps
      assumption
  · apply outState_keeps
    · assumption
    · apply execTap_keeps
      assumption
  · apply outState_keeps
    · assumption
    · apply execTrd_keeps
      assumption
  · apply outState_keeps
    · assumption
    · apply execTap4_keeps
      assumption
  · apply outState_keeps
    · assumption
    · apply execTap4a_keeps
      assumption
  · apply outState_keeps
    · assumption
    · apply execTap8_keeps
      assumption
  · apply outState_keeps
    · assumption
    · apply execTap8a_keeps
      assumption
  · apply outState_keeps
    · assumption
    · apply execTrd4_keeps
      assumption
  · apply outState_keeps
    · assumption
    · apply execTrd4a_keeps
      assumption
  · apply outState_keeps
    · assumption
    · apply execTaps_keeps
      assumption
  · apply outState_keeps
    · assumption
    · apply execTaps4_keeps
      assumption
  · apply outState_keeps
    · assumption
    · apply execTaps4a_keeps
      assumption
  · apply outState_keeps
    · assumption
    · apply execTaps8_keeps
      assumption
  · apply outState_keeps
    · assumption
    · apply execTaps8a_keeps
      assumption
  · apply outState_keeps
    · assumption
    · apply execDwr_keeps
      assumption
  · apply outState_keeps
    · assumption
    · apply execChanIn_keeps
      assumption
  · apply outState_keeps
    · assumption
    · apply execChanOut_keeps
      assumption
  · apply outState_keeps
    · assumption
    · apply execExr_keeps
      assumption
  · apply outState_keeps
    · assumption
    · apply execExw_keeps
      assumption
  · apply outState_keeps
    · assumption
    · apply execOld_keeps
      assumption
  · apply outState_keeps
    · assumption
    · apply execOst_keeps
      assumption
  · apply outState_keeps
    · assumption
    · apply execCnop_keeps
      assumption
  · apply outState_keeps
    · assumption
    · apply execRep_keeps
      assumption
  · apply outState_keeps
    · assumption
    · apply execRot_keeps
      assumption
  · apply outState_keeps
    · assumption
    · apply execSacs_keeps
      assumption
  · apply outState_keeps
    · assumption
    · apply execSacsr_keeps
      assumption
  · apply outState_keeps
    · assumption
    · apply execSli_keeps
      assumption
  · apply outState_keeps
    · assumption
    · apply execSlu_keeps
      assumption
  · apply outState_keeps
    · assumption
    · apply execSadd_keeps
      assumption
  · apply outState_keeps
    · assumption
    · apply execSsub_keeps
      assumption
  · apply outState_keeps
    · assumption
    · apply execSand_keeps
      assumption
  · apply outState_keeps
    · assumption
    · apply execSor_keeps
      assumption
  · apply outState_keeps
    · assumption
    · apply execSxor_keeps
      assumption
  · apply outState_keeps
    · assumption
    · apply execSaddi_keeps
      assumption
  · apply outState_keeps
    · assumption
    · apply execSshli_keeps
      assumption
  · apply outState_keeps
    · assumption
    · apply execSlsri_keeps
      assumption
  · apply outState_keeps
    · assumption
    · apply execPwr_keeps
      assumption
  · apply outState_keeps
    · assumption
    · apply execPrd_keeps
      assumption
  · apply outState_keeps
    · assumption
    · apply execPaddi_keeps
      assumption
  · apply outState_keeps
    · assumption
    · apply execSget_keeps
      assumption
  · apply outState_keeps
    · assumption
    · apply execEntry_keeps
      assumption
  · apply outState_keeps
    · assumption
    · apply execBkpt_keeps
      assumption
  · assumption

theorem State.fetchTrap_keeps {u0 : State} (s : Sys2Proof.Machine.State) (e : Fin 8) (addr : Nat) (h_s : Keeps u0 s) :
    Keeps u0 (State.fetchTrap s e addr) := by
  unfold State.fetchTrap
  extract_lets l0
  have h_l0 : Keeps u0 l0 := by
    unfold l0
    apply State.modFault_keeps
    assumption
  clear_value l0
  apply State.noteBad_keeps
  apply State.modEngine_keeps
  assumption

theorem State.fetchSofts_keeps {u0 : State} (s : State) (e : Fin 8) (h_s : Keeps u0 s) : Keeps u0 (s.fetchSofts e) := by
  unfold State.fetchSofts
  exact State.noteSofts_keeps _ _ _ h_s

theorem State.issueBundle_keeps {u0 : State} (s : Sys2Proof.Machine.State) (e : Fin 8) (h_s : Keeps u0 s) :
    Keeps u0 (State.issueBundle s e) := by
  unfold State.issueBundle
  extract_lets l0 l1
  have h_l1 : Keeps u0 l1 := by
    unfold l1
    apply Keeps.ite
    · assumption
    · apply State.closeBundle_keeps
      assumption
  clear_value l1
  apply Keeps.ite
  · apply State.closeBundle_keeps
    assumption
  · split
    · apply State.fetchTrap_keeps
      assumption
    · apply State.closeBundle_keeps
      apply foldl_keeps
      · intro x62 a63 h64
        apply State.runSlot_keeps
        assumption
      · apply State.fetchSofts_keeps
        assumption

theorem State.engineCycle_keeps {u0 : State} (s : Sys2Proof.Machine.State) (e : Fin 8) (h_s : Keeps u0 s) :
    Keeps u0 (State.engineCycle s e) := by
  unfold State.engineCycle
  apply Keeps.ite
  · apply State.modEngine_keeps
    apply State.issueBundle_keeps
    assumption
  · assumption

theorem State.engCycle_keeps {u0 : State} (s : Sys2Proof.Machine.State) (h_s : Keeps u0 s) :
    Keeps u0 (State.engCycle s) := by
  unfold State.engCycle
  apply foldl_keeps
  · intro x0 a1 h2
    apply State.engineCycle_keeps
    assumption
  · assumption

theorem State.finishPrograms_keeps {u0 : State} (n : Nat) (s : State) (h_s : Keeps u0 s) : Keeps u0 (State.finishPrograms n s) := by
  induction n generalizing s with
  | zero => exact h_s
  | succ n ih => exact Keeps.ite (ih _ (State.engCycle_keeps _ h_s)) h_s

theorem State.endTick_keeps {u0 : State} (s : Sys2Proof.Machine.State) (e : Fin 8) (h_s : Keeps u0 s) :
    Keeps u0 (State.endTick s e) := by
  unfold State.endTick
  extract_lets l0
  have h_l0 : Keeps u0 l0 := by
    unfold l0
    apply Keeps.ite
    · assumption
    · apply State.closeBundle_keeps
      assumption
  clear_value l0
  apply Keeps.ite
  · assumption
  · apply State.serveUpTo_keeps
    assumption

theorem State.finishTick_keeps {u0 : State} (s : Sys2Proof.Machine.State) (h_s : Keeps u0 s) :
    Keeps u0 (State.finishTick s) := by
  unfold State.finishTick
  apply foldl_keeps
  · intro x0 a1 h2
    apply State.endTick_keeps
    assumption
  · apply State.finishPrograms_keeps
    assumption

end Sys2Proof.Machine
end

