-- ==== Sys2Proof/Laws/KeepRequest.lean ====
section
/-! SUPPORT. What journalling, requests, groups, ticks, live parameters and memory integrity keep. -/
set_option Elab.async false
namespace Sys2Proof.Machine
open Sys2Proof

theorem State.storeBytes_keeps {u0 : State} (s : Sys2Proof.Machine.State) (a : Nat) (l : List Sys2Proof.Byte) (h_s : Keeps u0 s) :
    Keeps u0 (State.storeBytes s a l) := by
  unfold State.storeBytes
  apply State.store_keeps
  assumption

theorem State.makeFinal_keeps {u0 : State} (s : Sys2Proof.Machine.State) (l : List Sys2Proof.Byte) (h_s : Keeps u0 s) :
    Keeps u0 (State.makeFinal s l) := by
  unfold State.makeFinal
  apply State.setObj_keeps
  exact Keeps.same (s := s) (by assumption) rfl

theorem State.closeGap_keeps {u0 : State} (s : Sys2Proof.Machine.State) (h_s : Keeps u0 s) :
    Keeps u0 (State.closeGap s) := by
  unfold State.closeGap
  split
  · assumption
  · apply Keeps.ite
    · assumption
    · apply State.event_keeps
      apply State.count_keeps
      apply State.makeFinal_keeps
      exact Keeps.same (s := s) (by assumption) rfl

theorem State.loseRecord_keeps {u0 : State} (s : Sys2Proof.Machine.State) (strict : Bool) (h_s : Keeps u0 s) :
    Keeps u0 (State.loseRecord s strict) := by
  unfold State.loseRecord
  extract_lets l0 l1
  have h_l1 : Keeps u0 l1 := by
    unfold l1
    apply Keeps.ite
    · apply State.event_keeps
      apply State.setObj_keeps
      assumption
    · assumption
  clear_value l1
  apply State.storeBytes_keeps
  exact Keeps.same (s := l1) (by assumption) rfl

theorem State.journal_keeps {u0 : State} (s : Sys2Proof.Machine.State) (r : Sys2Proof.Machine.Record) (h_s : Keeps u0 s) :
    Keeps u0 (State.journal s r) := by
  unfold State.journal
  extract_lets l0 l1 l2
  have h_l0 : Keeps u0 l0 := by
    unfold l0
    apply State.closeGap_keeps
    assumption
  clear_value l0
  apply Keeps.ite
  · apply State.loseRecord_keeps
    assumption
  · apply State.makeFinal_keeps
    apply State.setObj_keeps
    apply State.storeBytes_keeps
    assumption

theorem State.refuseStrict_keeps {u0 : State} (s : Sys2Proof.Machine.State) (h_s : Keeps u0 s) :
    Keeps u0 (State.refuseStrict s) := by
  unfold State.refuseStrict
  apply State.loseRecord_keeps
  apply State.count_keeps
  assumption

theorem State.setSession_keeps {u0 : State} (s : Sys2Proof.Machine.State) (x : Sys2Proof.Machine.Session) (h_s : Keeps u0 s) :
    Keeps u0 (State.setSession s x) := by
  unfold State.setSession
  apply Keeps.ite
  · exact Keeps.same (s := s) (by assumption) rfl
  · exact Keeps.same (s := s) (by assumption) rfl

theorem State.snapLive_keeps {u0 : State} (s : Sys2Proof.Machine.State) (h_s : Keeps u0 s) :
    Keeps u0 (State.snapLive s) := by
  unfold State.snapLive
  exact Keeps.same (s := s) (by assumption) rfl

theorem State.hostResult_keeps {u0 : State} (s : Sys2Proof.Machine.State) (a : Nat) (code : Nat) (h_s : Keeps u0 s) :
    Keeps u0 (State.hostResult s a code) := by
  unfold State.hostResult
  exact Keeps.same (s := s) (by assumption) rfl

theorem State.respond_keeps {u0 : State} (s : Sys2Proof.Machine.State) (k : Sys2Proof.SessKey) (a : Nat) (code : Nat) (words : List (BitVec 32)) (h_s : Keeps u0 s) :
    Keeps u0 (State.respond s k a code words) := by
  unfold State.respond
  extract_lets l0 l1 l2 l3
  have h_l0 : Keeps u0 l0 := by
    unfold l0
    apply State.count_keeps
    apply State.count_keeps
    assumption
  clear_value l0
  have h_l2 : Keeps u0 l2 := by
    unfold l2
    apply Keeps.ite
    · assumption
    · apply State.setSession_keeps
      assumption
  clear_value l2
  have h_l3 : Keeps u0 l3 := by
    unfold l3
    apply Keeps.ite
    · apply State.hostResult_keeps
      assumption
    · assumption
  clear_value l3
  exact Keeps.same (s := l3) (by assumption) rfl

theorem State.noteRights_keeps {u0 : State} (s : Sys2Proof.Machine.State) (k : Sys2Proof.SessKey) (a : Nat) (code : Nat) (write : Bool) (h_s : Keeps u0 s) :
    Keeps u0 (State.noteRights s k a code write) := by
  unfold State.noteRights
  apply Keeps.ite
  · extract_lets l0
    have h_l0 : Keeps u0 l0 := by
      unfold l0
      apply State.count_keeps
      assumption
    clear_value l0
    apply Keeps.ite
    · apply State.event_keeps
      assumption
    · assumption
  · assumption

theorem State.finishWrite_keeps {u0 : State} (s : Sys2Proof.Machine.State) (k : Sys2Proof.SessKey) (kport : Nat) (a : Nat) (words : List (BitVec 32)) (code : Nat) (effect : Sys2Proof.Machine.State → Sys2Proof.Machine.State) (h_s : Keeps u0 s) (h_effect : ∀ z0, Keeps u0 z0 → Keeps u0 (effect z0)) :
    Keeps u0 (State.finishWrite s k kport a words code effect) := by
  unfold State.finishWrite
  extract_lets l0 l1 l2 l3
  have h_l2 : Keeps u0 l2 := by
    unfold l2
    apply Keeps.ite
    · apply h_effect
      assumption
    · assumption
  clear_value l2
  have h_l3 : Keeps u0 l3 := by
    unfold l3
    apply Keeps.ite
    · apply State.refuseStrict_keeps
      assumption
    · apply State.journal_keeps
      assumption
  clear_value l3
  apply State.respond_keeps
  apply State.noteRights_keeps
  assumption

theorem State.writeReq_keeps {u0 : State} (s : Sys2Proof.Machine.State) (k : Sys2Proof.SessKey) (kport : Nat) (a : Nat) (words : List (BitVec 32)) (x : Sys2Proof.Machine.Extra) (effect : Sys2Proof.Machine.State → Sys2Proof.Machine.State) (h_s : Keeps u0 s) (h_effect : ∀ z0, Keeps u0 z0 → Keeps u0 (effect z0)) :
    Keeps u0 (State.writeReq s k kport a words x effect) := by
  unfold State.writeReq
  extract_lets l0
  apply Keeps.ite
  · assumption
  · apply State.finishWrite_keeps
    · assumption
    · intro y60 h61
      apply h_effect
      assumption

theorem State.writeReq1_keeps {u0 : State} (s : Sys2Proof.Machine.State) (k : Sys2Proof.SessKey) (kport : Nat) (a : Nat) (v : BitVec 32) (x : Sys2Proof.Machine.Extra) (effect : Sys2Proof.Machine.State → Sys2Proof.Machine.State) (h_s : Keeps u0 s) (h_effect : ∀ z0, Keeps u0 z0 → Keeps u0 (effect z0)) :
    Keeps u0 (State.writeReq1 s k kport a v x effect) := by
  unfold State.writeReq1
  apply State.writeReq_keeps
  · assumption
  · intro y0 h1
    apply h_effect
    assumption

theorem State.setGroup_keeps {u0 : State} (s : Sys2Proof.Machine.State) (g : Nat) (x : Sys2Proof.Machine.Group) (h_s : Keeps u0 s) :
    Keeps u0 (State.setGroup s g x) := by
  unfold State.setGroup
  exact Keeps.same (s := s) (by assumption) rfl

theorem State.storeGroup_keeps {u0 : State} (s : Sys2Proof.Machine.State) (base : Nat) (g : Nat) (v : Vector Sys2Proof.Word 16) (h_s : Keeps u0 s) :
    Keeps u0 (State.storeGroup s base g v) := by
  unfold State.storeGroup
  apply State.store_keeps
  assumption

theorem State.publishGroup_keeps {u0 : State} (s : Sys2Proof.Machine.State) (g : Nat) (h_s : Keeps u0 s) :
    Keeps u0 (State.publishGroup s g) := by
  unfold State.publishGroup
  extract_lets l0 l1 l2
  split
  · extract_lets l62
    have h_l62 : Keeps u0 l62 := by
      unfold l62
      apply State.storeGroup_keeps
      apply State.setGroup_keeps
      assumption
    clear_value l62
    apply foldl_keeps
    · intro x122 a123 h124
      apply State.modFault_keeps
      assumption
    · assumption

theorem State.zeroOthers_keeps {u0 : State} (s : State) (base : Nat) (live : List Nat) (h_s : Keeps u0 s) :
    Keeps u0 (State.zeroOthers s base live) := by
  unfold State.zeroOthers
  exact h_s.shrink (mem := filter_wf _ _ _)

theorem State.publish_keeps {u0 : State} (s : Sys2Proof.Machine.State) (h_s : Keeps u0 s) :
    Keeps u0 (State.publish s) := by
  unfold State.publish
  extract_lets l0 l1 l2
  have h_l1 : Keeps u0 l1 := by
    unfold l1
    apply State.zeroOthers_keeps
    apply foldl_keeps
    · intro x60 a61 h62
      apply State.publishGroup_keeps
      assumption
    · assumption
  clear_value l1
  exact Keeps.same (s := l1) (by assumption) rfl

theorem State.pushHistory_keeps {u0 : State} (s : Sys2Proof.Machine.State) (e : Fin 8) (w : Nat) (h_s : Keeps u0 s) :
    Keeps u0 (State.pushHistory s e w) := by
  unfold State.pushHistory
  extract_lets l0
  apply foldl_keeps
  · intro x60 a61 h62
    apply State.setObj_keeps
    assumption
  · assumption

theorem State.freezeFault_keeps {u0 : State} (s : Sys2Proof.Machine.State) (e : Fin 8) (h_s : Keeps u0 s) :
    Keeps u0 (State.freezeFault s e) := by
  unfold State.freezeFault
  extract_lets l0 l1 l2 l3 l4 l5
  have h_l2 : Keeps u0 l2 := by
    unfold l2
    apply State.pushHistory_keeps
    apply State.setObj_keeps
    apply State.setObj_keeps
    assumption
  clear_value l2
  have h_l3 : Keeps u0 l3 := by
    unfold l3
    apply State.count_keeps
    apply State.count_keeps
    apply State.count_keeps
    assumption
  clear_value l3
  have h_l4 : Keeps u0 l4 := by
    unfold l4
    apply State.count_keeps
    assumption
  clear_value l4
  have h_l5 : Keeps u0 l5 := by
    unfold l5
    apply Keeps.ite
    · apply State.eventAt_keeps
      assumption
    · assumption
  clear_value l5
  apply State.modEngine_keeps
  assumption

theorem State.exchangeSwap_keeps {u0 : State} (s : Sys2Proof.Machine.State) (h_s : Keeps u0 s) :
    Keeps u0 (State.exchangeSwap s) := by
  unfold State.exchangeSwap
  extract_lets l0 l1 l2
  have h_l2 : Keeps u0 l2 := by
    unfold l2
    exact Keeps.same (s := s) (by assumption) rfl
  clear_value l2
  apply foldl_keeps
  · intro x60 a61 h62
    apply State.zeroRange_keeps
    assumption
  · assumption

theorem State.deadlineCheck_keeps {u0 : State} (s : Sys2Proof.Machine.State) (n : Nat) (e : Fin 8) (h_s : Keeps u0 s) :
    Keeps u0 (State.deadlineCheck s n e) := by
  unfold State.deadlineCheck
  extract_lets l0
  apply State.modFault_keeps
  apply State.modEngine_keeps
  assumption

theorem State.advanceLines_keeps {u0 : State} (s : Sys2Proof.Machine.State) (n : Nat) (e : Fin 8) (h_s : Keeps u0 s) :
    Keeps u0 (State.advanceLines s n e) := by
  unfold State.advanceLines
  extract_lets l0
  apply State.modEngine_keeps
  apply State.count_keeps
  assumption

theorem State.swapEngine_keeps {u0 : State} (s : Sys2Proof.Machine.State) (u : Sys2Proof.Machine.UpSet) (e : Fin 8) (h_s : Keeps u0 s) :
    Keeps u0 (State.swapEngine s u e) := by
  unfold State.swapEngine
  extract_lets l0
  apply State.modEngine_keeps
  apply State.setObj_keeps
  apply State.setObj_keeps
  assumption

theorem State.setCommit_keeps {u0 : State} (s : State) (gen st tick : Nat) (h_s : Keeps u0 s) : Keeps u0 (s.setCommit gen st tick) := by
  unfold State.setCommit
  exact h_s.shrink (history := by simp)

theorem State.applySet_keeps {u0 : State} (s : Sys2Proof.Machine.State) (n : Nat) (u : Sys2Proof.Machine.UpSet) (h_s : Keeps u0 s) :
    Keeps u0 (State.applySet s n u) := by
  unfold State.applySet
  extract_lets l0 l1
  have h_l0 : Keeps u0 l0 := by
    unfold l0
    apply foldl_keeps
    · intro x60 a61 h62
      apply State.swapEngine_keeps
      assumption
    · assumption
  clear_value l0
  have h_l1 : Keeps u0 l1 := by
    unfold l1
    apply State.setCommit_keeps
    assumption
  clear_value l1
  exact Keeps.same (s := l1) (by assumption) rfl

theorem State.deferSet_keeps {u0 : State} (s : Sys2Proof.Machine.State) (u : Sys2Proof.Machine.UpSet) (h_s : Keeps u0 s) :
    Keeps u0 (State.deferSet s u) := by
  unfold State.deferSet
  extract_lets l0 l1
  have h_l0 : Keeps u0 l0 := by
    unfold l0
    apply State.setCommit_keeps
    assumption
  clear_value l0
  have h_l1 : Keeps u0 l1 := by
    unfold l1
    exact Keeps.same (s := l0) (by assumption) rfl
  clear_value l1
  apply Keeps.ite
  · assumption
  · apply State.count_keeps
    assumption

theorem State.latch_keeps {u0 : State} (s : Sys2Proof.Machine.State) (n : Nat) (h_s : Keeps u0 s) :
    Keeps u0 (State.latch s n) := by
  unfold State.latch
  apply foldl_keeps
  · intro x0 a1 h2
    apply Keeps.ite
    · apply State.applySet_keeps
      assumption
    · apply State.deferSet_keeps
      assumption
  · assumption

theorem State.repairSwap_keeps {u0 : State} (s : Sys2Proof.Machine.State) (was : Sys2Proof.Machine.State) (e : Fin 8) (h_s : Keeps u0 s) (h_was : Keeps u0 was) :
    Keeps u0 (State.repairSwap s was e) := by
  unfold State.repairSwap
  extract_lets l0 l1 l2
  apply Keeps.ite
  · apply foldl_keeps
    · intro x60 a61 h62
      apply State.queuePage_keeps
      assumption
    · apply State.count_keeps
      apply State.modEngine_keeps
      assumption
  · assumption

theorem State.xyWrite_keeps {u0 : State} (s : Sys2Proof.Machine.State) (h_s : Keeps u0 s) :
    Keeps u0 (State.xyWrite s) := by
  unfold State.xyWrite
  extract_lets l0 l1 l2
  have h_l2 : Keeps u0 l2 := by
    unfold l2
    exact Keeps.same (s := s) (by assumption) rfl
  clear_value l2
  apply foldl_keeps
  · intro x60 a61 h62
    apply State.store_keeps
    assumption
  · assumption

theorem State.startProgram_keeps {u0 : State} (s : Sys2Proof.Machine.State) (e : Fin 8) (h_s : Keeps u0 s) :
    Keeps u0 (State.startProgram s e) := by
  unfold State.startProgram
  extract_lets l0
  apply Keeps.ite
  · assumption
  · apply Keeps.ite
    · apply State.modFault_keeps
      assumption
    · apply State.modEngine_keeps
      assumption

theorem State.applyObjs_keeps {u0 : State} (s : Sys2Proof.Machine.State) (h_s : Keeps u0 s) :
    Keeps u0 (State.applyObjs s) := by
  unfold State.applyObjs
  apply State.setObjs_keeps
  exact Keeps.same (s := s) (by assumption) rfl

theorem State.setParity_keeps {u0 : State} (s : Sys2Proof.Machine.State) (page : Nat) (l : List Sys2Proof.Byte) (h_s : Keeps u0 s) :
    Keeps u0 (State.setParity s page l) := by
  unfold State.setParity
  exact Keeps.same (s := s) (by assumption) rfl

theorem State.codePage_keeps {u0 : State} (s : Sys2Proof.Machine.State) (page : Nat) (h_s : Keeps u0 s) :
    Keeps u0 (State.codePage s page) := by
  unfold State.codePage
  apply State.setParity_keeps
  assumption

theorem State.setStale_keeps {u0 : State} (s : Sys2Proof.Machine.State) (l : List Nat) (h_s : Keeps u0 s) :
    Keeps u0 (State.setStale s l) := by
  unfold State.setStale
  apply State.setObj_keeps
  exact Keeps.same (s := s) (by assumption) rfl

theorem State.staleBank_keeps {u0 : State} (s : Sys2Proof.Machine.State) (e : Fin 8) (i : Nat) (h_s : Keeps u0 s) :
    Keeps u0 (State.staleBank s e i) := by
  unfold State.staleBank
  apply State.modEngine_keeps
  assumption

theorem State.curePage_keeps {u0 : State} (s : State) (page : Nat) (h_s : Keeps u0 s) : Keeps u0 (s.curePage page) := by
  unfold State.curePage
  exact (State.cureRange_keeps s page 4096 h_s).shrink (queue := length_setDel _ _) (log := List.length_filter_le _ _)

theorem State.freeTrap_keeps {u0 : State} (s : Sys2Proof.Machine.State) (page : Nat) (h_s : Keeps u0 s) :
    Keeps u0 (State.freeTrap s page) := by
  unfold State.freeTrap
  apply State.allEngines_keeps
  assumption

theorem State.recoverAt_keeps {u0 : State} (s : State) (page : Nat) (h_s : Keeps u0 s) : KeepsOpt u0 (s.recoverAt page) := by
  unfold State.recoverAt
  split
  · exact KeepsOpt.none
  · apply KeepsOpt.some
    apply State.freeTrap_keeps
    apply State.event_keeps
    apply State.count_keeps
    apply State.curePage_keeps
    exact h_s.shrink (mem := foldl_wf _ _ (fun m b h => aPut_wf _ _ _ _ h) _ _)

theorem State.markPoison_keeps {u0 : State} (s : Sys2Proof.Machine.State) (page : Nat) (h_s : Keeps u0 s) :
    Keeps u0 (State.markPoison s page) := by
  unfold State.markPoison
  apply State.event_keeps
  exact Keeps.same (s := s) (by assumption) rfl

theorem State.zeroPage_keeps {u0 : State} (s : Sys2Proof.Machine.State) (page : Nat) (h_s : Keeps u0 s) :
    Keeps u0 (State.zeroPage s page) := by
  unfold State.zeroPage
  apply State.event_keeps
  apply State.count_keeps
  apply State.curePage_keeps
  apply State.zeroRange_keeps
  assumption

theorem State.rangeCount_keeps {u0 : State} (s : Sys2Proof.Machine.State) (page : Nat) (obj : Nat) (h_s : Keeps u0 s) :
    Keeps u0 (State.rangeCount s page obj) := by
  unfold State.rangeCount
  split
  · extract_lets l1
    apply Keeps.ite
    · apply State.count_keeps
      assumption
    · assumption
  · assumption

theorem State.clearRanges_keeps {u0 : State} (s : State) (l : List (Nat × Nat)) (h_s : Keeps u0 s) :
    Keeps u0 (State.clearRanges s l) := by
  unfold State.clearRanges
  extract_lets l0 l1 l2 l3
  have h1 : Keeps u0 l1 := foldl_keeps l (fun x a h => State.zeroRange_keeps x a.1 a.2 h) h_s
  have h2 : Keeps u0 l2 := State.allEngines_keeps _ _ h1
  clear_value l1 l2
  apply State.setStale_keeps
  exact h2.shrink (queue := List.length_filter_le _ _) (log := List.length_filter_le _ _)

theorem State.fill_keeps {u0 : State} (s : State) (h_s : Keeps u0 s) : Keeps u0 s.fill :=
  State.clearRanges_keeps _ _ h_s

theorem State.modOpenSet_keeps {u0 : State} (s : Sys2Proof.Machine.State) (k : Sys2Proof.SessKey) (f : Sys2Proof.Machine.UpSet → Sys2Proof.Machine.UpSet) (h_s : Keeps u0 s) :
    Keeps u0 (State.modOpenSet s k f) := by
  unfold State.modOpenSet
  split
  · exact Keeps.same (s := s) (by assumption) rfl
  · extract_lets l2
    exact Keeps.same (s := s) (by assumption) rfl

theorem State.landWord_keeps {u0 : State} (s : Sys2Proof.Machine.State) (w : Sys2Proof.Machine.BankWrite) (h_s : Keeps u0 s) :
    Keeps u0 (State.landWord s w) := by
  unfold State.landWord
  extract_lets l0
  apply State.staleBank_keeps
  apply State.modEngine_keeps
  apply State.store_keeps
  assumption

theorem State.landWords_keeps {u0 : State} (s : Sys2Proof.Machine.State) (k : Sys2Proof.SessKey) (ws : List Sys2Proof.Machine.BankWrite) (h_s : Keeps u0 s) :
    Keeps u0 (State.landWords s k ws) := by
  unfold State.landWords
  apply foldl_keeps
  · intro x0 a1 h2
    apply State.landWord_keeps
    assumption
  · apply State.modOpenSet_keeps
    assumption

theorem State.enter_keeps {u0 : State} (s : Sys2Proof.Machine.State) (k : Sys2Proof.SessKey) (h_s : Keeps u0 s) :
    Keeps u0 (State.enter s k) := by
  unfold State.enter
  apply State.setSession_keeps
  assumption

theorem State.bankedWrite_keeps {u0 : State} (s : Sys2Proof.Machine.State) (k : Sys2Proof.SessKey) (ws : List Sys2Proof.Machine.BankWrite) (h_s : Keeps u0 s) :
    Keeps u0 (State.bankedWrite s k ws) := by
  unfold State.bankedWrite
  extract_lets l0 l1
  have h_l1 : Keeps u0 l1 := by
    unfold l1
    apply State.modOpenSet_keeps
    apply State.enter_keeps
    assumption
  clear_value l1
  apply Keeps.ite
  · exact Keeps.same (s := l1) (by assumption) rfl
  · apply State.landWords_keeps
    assumption

theorem State.levelRecover_keeps {u0 : State} (s : Sys2Proof.Machine.State) (e : Fin 8) (page : Nat) (h_s : Keeps u0 s) :
    Keeps u0 (State.levelRecover s e page) := by
  unfold State.levelRecover
  split
  · rename_i v0 heq
    have h_v0 : Keeps u0 v0 := (show KeepsOpt u0 _ by
      apply State.recoverAt_keeps
      assumption
      ) _ heq
    assumption
  · apply State.modEngine_keeps
    apply State.event_keeps
    assumption

theorem State.levelRead_keeps {u0 : State} (s : Sys2Proof.Machine.State) (e : Fin 8) (row : Nat) (h_s : Keeps u0 s) :
    Keeps u0 (State.levelRead s e row) := by
  unfold State.levelRead
  extract_lets l0 l1 l2
  have h_l2 : Keeps u0 l2 := by
    unfold l2
    apply foldl_keeps
    · intro x60 a61 h62
      apply State.noteSoft_keeps
      assumption
    · apply foldl_keeps
      · intro x63 a64 h65
        apply State.noteBad_keeps
        assumption
      · assumption
  clear_value l2
  apply Keeps.ite
  · assumption
  · apply State.levelRecover_keeps
    assumption

theorem State.levelRow_keeps {u0 : State} (s : Sys2Proof.Machine.State) (e : Fin 8) (row : Nat) (h_s : Keeps u0 s) :
    Keeps u0 (State.levelRow s e row) := by
  unfold State.levelRow
  extract_lets l0 l1
  apply foldl_keeps
  · intro x60 a61 h62
    apply State.store_keeps
    assumption
  · apply State.storeBytes_keeps
    assumption

theorem State.levelParity_keeps {u0 : State} (s : Sys2Proof.Machine.State) (e : Fin 8) (i : Nat) (h_s : Keeps u0 s) :
    Keeps u0 (State.levelParity s e i) := by
  unfold State.levelParity
  apply State.modEngine_keeps
  apply State.setParity_keeps
  assumption

theorem State.releaseClaims_keeps {u0 : State} (s : Sys2Proof.Machine.State) (e : Fin 8) (h_s : Keeps u0 s) :
    Keeps u0 (State.releaseClaims s e) := by
  unfold State.releaseClaims
  extract_lets l0
  exact Keeps.same (s := s) (by assumption) rfl

theorem State.landHeld_keeps {u0 : State} (s : State) (h_s : Keeps u0 s) : Keeps u0 s.landHeld := by
  unfold State.landHeld
  apply foldl_fst_keeps
  · intro x a h
    exact Keeps.iteFst (State.landWords_keeps _ _ _ (h.same rfl)) h
  · exact h_s

theorem State.level_keeps {u0 : State} (s : Sys2Proof.Machine.State) (e : Fin 8) (h_s : Keeps u0 s) :
    Keeps u0 (State.level s e) := by
  unfold State.level
  apply Keeps.ite
  · assumption
  · extract_lets l0 l1 l2
    have h_l1 : Keeps u0 l1 := by
      unfold l1
      apply foldl_keeps
      · intro x60 a61 h62
        apply State.levelRow_keeps
        assumption
      · apply foldl_keeps
        · intro x63 a64 h65
          apply State.levelRead_keeps
          assumption
        · assumption
    clear_value l1
    have h_l2 : Keeps u0 l2 := by
      unfold l2
      apply foldl_keeps
      · intro x66 a67 h68
        apply State.levelParity_keeps
        assumption
      · assumption
    clear_value l2
    apply State.landHeld_keeps
    apply State.releaseClaims_keeps
    apply State.modEngine_keeps
    assumption

theorem State.levelTouched_keeps {u0 : State} (s : Sys2Proof.Machine.State) (u : Sys2Proof.Machine.UpSet) (h_s : Keeps u0 s) :
    Keeps u0 (State.levelTouched s u) := by
  unfold State.levelTouched
  apply foldl_keeps
  · intro x0 a1 h2
    apply State.modEngine_keeps
    assumption
  · assumption

theorem State.abortSet_keeps {u0 : State} (s : Sys2Proof.Machine.State) (k : Sys2Proof.SessKey) (h_s : Keeps u0 s) :
    Keeps u0 (State.abortSet s k) := by
  unfold State.abortSet
  split
  · assumption
  · apply State.levelTouched_keeps
    exact Keeps.same (s := s) (by assumption) rfl

theorem State.dropSet_keeps {u0 : State} (s : Sys2Proof.Machine.State) (u : Sys2Proof.Machine.UpSet) (h_s : Keeps u0 s) :
    Keeps u0 (State.dropSet s u) := by
  unfold State.dropSet
  extract_lets l0
  have h_l0 : Keeps u0 l0 := by
    unfold l0
    apply State.setCommit_keeps
    assumption
  clear_value l0
  apply State.levelTouched_keeps
  exact Keeps.same (s := l0) (by assumption) rfl

theorem State.pushCommit_keeps {u0 : State} (s : State) (gen : Nat) (h_s : Keeps u0 s) : Keeps u0 (s.pushCommit gen) := by
  unfold State.pushCommit
  exact h_s.step (fun i => ⟨i.mem, i.flash, i.objs, i.queue, i.log, i.record, i.events, i.evHist, by simp <;> omega, i.fwQueue⟩) (fun _ x => x) rfl

theorem State.seal_keeps {u0 : State} (s : Sys2Proof.Machine.State) (k : Sys2Proof.SessKey) (gen : Nat) (h_s : Keeps u0 s) :
    Keeps u0 (State.seal s k gen) := by
  unfold State.seal
  extract_lets l0 l1 l2
  have h_l1 : Keeps u0 l1 := by
    unfold l1
    apply State.setSession_keeps
    apply State.modOpenSet_keeps
    assumption
  clear_value l1
  have h_l2 : Keeps u0 l2 := by
    unfold l2
    apply State.pushCommit_keeps
    apply State.setObj_keeps
    assumption
  clear_value l2
  exact Keeps.same (s := l2) (by assumption) rfl

theorem State.commitReq_keeps {u0 : State} (s : Sys2Proof.Machine.State) (k : Sys2Proof.SessKey) (kport : Nat) (words : List (BitVec 32)) (withGen : Bool) (h_s : Keeps u0 s) :
    Keeps u0 (State.commitReq s k kport words withGen) := by
  unfold State.commitReq
  apply Keeps.ite
  · assumption
  · extract_lets l0 l1 l2 l3 l4 l5
    have h_l3 : Keeps u0 l3 := by
      unfold l3
      apply Keeps.ite
      · apply State.seal_keeps
        assumption
      · assumption
    clear_value l3
    have h_l5 : Keeps u0 l5 := by
      unfold l5
      apply Keeps.ite
      · apply State.refuseStrict_keeps
        assumption
      · apply State.journal_keeps
        assumption
    clear_value l5
    apply State.respond_keeps
    apply State.noteRights_keeps
    assumption

theorem State.pendLength_keeps {u0 : State} (s : Sys2Proof.Machine.State) (e : Nat) (q : Nat) (v : Nat) (h_s : Keeps u0 s) :
    Keeps u0 (State.pendLength s e q v) := by
  unfold State.pendLength
  apply State.modEngine_keeps
  assumption

theorem State.writeLength_keeps {u0 : State} (s : Sys2Proof.Machine.State) (p : Sys2Proof.Machine.Param) (v : Nat) (h_s : Keeps u0 s) :
    Keeps u0 (State.writeLength s p v) := by
  unfold State.writeLength
  extract_lets l0
  have h_l0 : Keeps u0 l0 := by
    unfold l0
    exact Keeps.same (s := s) (by assumption) rfl
  clear_value l0
  apply foldl_keeps
  · intro x60 a61 h62
    apply State.pendLength_keeps
    assumption
  · assumption

theorem State.paramEffect_keeps {u0 : State} (s : Sys2Proof.Machine.State) (k : Sys2Proof.SessKey) (p : Sys2Proof.Machine.Param) (words : List (BitVec 32)) (h_s : Keeps u0 s) :
    Keeps u0 (State.paramEffect s k p words) := by
  unfold State.paramEffect
  apply Keeps.ite
  · apply State.bankedWrite_keeps
    assumption
  · apply Keeps.ite
    · exact Keeps.same (s := s) (by assumption) rfl
    · apply State.writeLength_keeps
      assumption

theorem State.writeParam_keeps {u0 : State} (s : Sys2Proof.Machine.State) (k : Sys2Proof.SessKey) (kport : Nat) (a : Nat) (words : List (BitVec 32)) (h_s : Keeps u0 s) :
    Keeps u0 (State.writeParam s k kport a words) := by
  unfold State.writeParam
  split
  · apply State.writeReq_keeps
    · assumption
    · intro y1 h2
      dsimp only [id]
      assumption
  · apply State.writeReq_keeps
    · assumption
    · intro y4 h5
      apply State.paramEffect_keeps
      assumption

theorem execBankedWrite_keeps {u0 : State} (src : Sys2Proof.Src) (a : BitVec 24) (words : List (BitVec 32)) (s : Sys2Proof.Machine.State) (h_s : Keeps u0 s) :
    KeepsOut u0 (execBankedWrite src a words s) := by
  unfold execBankedWrite
  split
  · apply KeepsOut.next
    apply Keeps.ite
    · apply State.writeParam_keeps
      assumption
    · assumption
  · apply KeepsOut.next
    apply State.writeParam_keeps
    assumption

theorem execXyParameterWrite_keeps {u0 : State} (src : Sys2Proof.Src) (a : BitVec 24) (words : List (BitVec 32)) (s : Sys2Proof.Machine.State) (h_s : Keeps u0 s) :
    KeepsOut u0 (execXyParameterWrite src a words s) := by
  unfold execXyParameterWrite
  split
  · apply KeepsOut.next
    apply Keeps.ite
    · apply State.writeParam_keeps
      assumption
    · assumption
  · apply KeepsOut.next
    apply State.writeParam_keeps
    assumption

theorem execLevellingEnd_keeps {u0 : State} (e : Fin 8) (s : Sys2Proof.Machine.State) (h_s : Keeps u0 s) :
    KeepsOut u0 (execLevellingEnd e s) := by
  unfold execLevellingEnd
  apply KeepsOut.next
  apply State.level_keeps
  assumption

theorem State.freshPage_keeps {u0 : State} (s : Sys2Proof.Machine.State) (r : Sys2Proof.PageArray) (page : Nat) (h_s : Keeps u0 s) :
    Keeps u0 (State.freshPage s r page) := by
  unfold State.freshPage
  split
  · apply State.modEngine_keeps
    assumption
  · apply State.setStale_keeps
    assumption

theorem execPageCoderDone_keeps {u0 : State} (r : Sys2Proof.PageArray) (s : Sys2Proof.Machine.State) (h_s : Keeps u0 s) :
    KeepsOut u0 (execPageCoderDone r s) := by
  unfold execPageCoderDone
  apply KeepsOut.next
  split
  · assumption
  · split
    · apply State.noteBad_keeps
      assumption
    · apply State.freshPage_keeps
      apply State.codePage_keeps
      assumption

theorem execCommitObjectWrite_keeps {u0 : State} (src : Sys2Proof.Src) (words : List (BitVec 32)) (s : Sys2Proof.Machine.State) (h_s : Keeps u0 s) :
    KeepsOut u0 (execCommitObjectWrite src words s) := by
  unfold execCommitObjectWrite
  apply KeepsOut.next
  apply State.commitReq_keeps
  assumption

theorem State.commitArrives_keeps {u0 : State} (s : Sys2Proof.Machine.State) (gen : Nat) (h_s : Keeps u0 s) :
    Keeps u0 (State.commitArrives s gen) := by
  unfold State.commitArrives
  extract_lets l0
  exact Keeps.same (s := s) (by assumption) rfl

theorem execCommitArrival_keeps {u0 : State} (gen : BitVec 32) (s : Sys2Proof.Machine.State) (h_s : Keeps u0 s) :
    KeepsOut u0 (execCommitArrival gen s) := by
  unfold execCommitArrival
  apply KeepsOut.next
  apply State.commitArrives_keeps
  assumption

theorem execUpdateSetAbort_keeps {u0 : State} (src : Sys2Proof.Src) (words : List (BitVec 32)) (s : Sys2Proof.Machine.State) (h_s : Keeps u0 s) :
    KeepsOut u0 (execUpdateSetAbort src words s) := by
  unfold execUpdateSetAbort
  apply KeepsOut.next
  apply State.writeReq_keeps
  · assumption
  · intro y0 h1
    apply State.abortSet_keeps
    assumption

theorem State.writeOrbShare_keeps {u0 : State} (s : Sys2Proof.Machine.State) (loader : Bool) (w : BitVec 64) (h_s : Keeps u0 s) :
    Keeps u0 (State.writeOrbShare s loader w) := by
  unfold State.writeOrbShare
  extract_lets l0 l1
  apply Keeps.ite
  · exact Keeps.same (s := s) (by assumption) rfl
  · exact Keeps.same (s := s) (by assumption) rfl

theorem execOrbShare_keeps {u0 : State} (loader : Bool) (w : BitVec 64) (s : Sys2Proof.Machine.State) (h_s : Keeps u0 s) :
    KeepsOut u0 (execOrbShare loader w s) := by
  unfold execOrbShare
  apply KeepsOut.next
  apply State.writeOrbShare_keeps
  assumption

theorem State.setDesc_keeps {u0 : State} (s : Sys2Proof.Machine.State) (e : Fin 8) (q : Nat) (d : Sys2Proof.Machine.Desc) (h_s : Keeps u0 s) :
    Keeps u0 (State.setDesc s e q d) := by
  unfold State.setDesc
  apply State.modEngine_keeps
  assumption

theorem State.moveBytes_keeps {u0 : State} (s : Sys2Proof.Machine.State) (src : Nat) (dst : Nat) (n : Nat) (h_s : Keeps u0 s) :
    Keeps u0 (State.moveBytes s src dst n) := by
  unfold State.moveBytes
  extract_lets l0 l1
  have h_l1 : Keeps u0 l1 := by
    unfold l1
    apply State.storeBytes_keeps
    exact State.noteSofts_keeps _ _ _ h_s
  clear_value l1
  exact Keeps.same (s := l1) (by assumption) rfl

theorem State.putDesc_keeps {u0 : State} (s : Sys2Proof.Machine.State) (e : Fin 8) (q : Nat) (d : Sys2Proof.Machine.Desc) (h_s : Keeps u0 s) :
    Keeps u0 (State.putDesc s e q d) := by
  unfold State.putDesc
  extract_lets l0 l1 l2
  have h_l2 : Keeps u0 l2 := by
    unfold l2
    apply Keeps.ite
    · apply State.moveBytes_keeps
      assumption
    · assumption
  clear_value l2
  apply State.setDesc_keeps
  assumption

theorem execDescriptorFileWrite_keeps {u0 : State} (tiler : Bool) (e : Fin 8) (q : Fin 4096) (w0 : BitVec 64) (w1 : BitVec 64) (w2 : BitVec 64) (w3 : BitVec 64) (s : Sys2Proof.Machine.State) (h_s : Keeps u0 s) :
    KeepsOut u0 (execDescriptorFileWrite tiler e q w0 w1 w2 w3 s) := by
  unfold execDescriptorFileWrite
  extract_lets l0
  apply KeepsOut.next
  apply Keeps.ite
  · apply State.putDesc_keeps
    assumption
  · assumption

theorem State.stageGroup_keeps {u0 : State} (s : Sys2Proof.Machine.State) (e : Fin 8) (q : Nat) (g : Nat) (h_s : Keeps u0 s) :
    Keeps u0 (State.stageGroup s e q g) := by
  unfold State.stageGroup
  extract_lets l0
  split
  · assumption
  · apply State.setDesc_keeps
    apply State.moveBytes_keeps
    assumption

theorem execFarFetchComplete_keeps {u0 : State} (e : Fin 8) (q : Fin 4096) (g : BitVec 18) (s : Sys2Proof.Machine.State) (h_s : Keeps u0 s) :
    KeepsOut u0 (execFarFetchComplete e q g s) := by
  unfold execFarFetchComplete
  apply KeepsOut.next
  apply Keeps.ite
  · apply State.stageGroup_keeps
    assumption
  · assumption

theorem State.copyBehind_keeps {u0 : State} (s : Sys2Proof.Machine.State) (d : Sys2Proof.Machine.Desc) (b : Nat × Nat × BitVec 16) (h_s : Keeps u0 s) :
    Keeps u0 (State.copyBehind s d b) := by
  unfold State.copyBehind
  apply Keeps.ite
  · apply foldl_keeps
    · intro x0 a1 h2
      apply Keeps.ite
      · apply State.moveBytes_keeps
        assumption
      · assumption
    · assumption
  · apply State.moveBytes_keeps
    assumption

theorem execFarGroupCopy_keeps {u0 : State} (e : Fin 8) (q : Fin 4096) (g : BitVec 18) (s : Sys2Proof.Machine.State) (h_s : Keeps u0 s) :
    KeepsOut u0 (execFarGroupCopy e q g s) := by
  unfold execFarGroupCopy
  extract_lets l0
  apply KeepsOut.next
  split
  · apply State.setDesc_keeps
    apply State.copyBehind_keeps
    assumption
  · assumption

theorem execSpanChangeApply_keeps {u0 : State} (e : Fin 8) (q : Fin 4096) (s : Sys2Proof.Machine.State) (h_s : Keeps u0 s) :
    KeepsOut u0 (execSpanChangeApply e q s) := by
  unfold execSpanChangeApply
  apply KeepsOut.next
  apply State.setDesc_keeps
  assumption

theorem execDelayLengthWrite_keeps {u0 : State} (src : Sys2Proof.Src) (a : BitVec 24) (words : List (BitVec 32)) (s : Sys2Proof.Machine.State) (h_s : Keeps u0 s) :
    KeepsOut u0 (execDelayLengthWrite src a words s) := by
  unfold execDelayLengthWrite
  split
  · apply KeepsOut.next
    apply Keeps.ite
    · apply State.writeParam_keeps
      assumption
    · assumption
  · apply KeepsOut.next
    apply State.writeParam_keeps
    assumption

theorem execIfetchTrap_keeps {u0 : State} (e : Fin 8) (w : Fin 4) (s : Sys2Proof.Machine.State) (h_s : Keeps u0 s) :
    KeepsOut u0 (execIfetchTrap e w s) := by
  unfold execIfetchTrap
  extract_lets l0
  apply KeepsOut.next
  apply Keeps.ite
  · apply State.fetchTrap_keeps
    exact Keeps.same (s := s) (by assumption) rfl
  · assumption

theorem State.loseClaims_keeps {u0 : State} (s : Sys2Proof.Machine.State) (e : Fin 8) (page : Nat) (h_s : Keeps u0 s) :
    Keeps u0 (State.loseClaims s e page) := by
  unfold State.loseClaims
  split
  · assumption
  · extract_lets l2
    have h_l2 : Keeps u0 l2 := by
      unfold l2
      apply Keeps.ite
      · apply State.abortSet_keeps
        assumption
      · apply State.dropSet_keeps
        assumption
    clear_value l2
    apply State.event_keeps
    apply State.journal_keeps
    assumption

theorem State.levelPage_keeps {u0 : State} (s : Sys2Proof.Machine.State) (e : Fin 8) (i : Nat) (h_s : Keeps u0 s) :
    Keeps u0 (State.levelPage s e i) := by
  unfold State.levelPage
  apply State.levelParity_keeps
  apply foldl_keeps
  · intro x0 a1 h2
    apply State.levelRow_keeps
    assumption
  · assumption

theorem State.reloaded_keeps {u0 : State} (s : Sys2Proof.Machine.State) (page : Nat) (h_s : Keeps u0 s) :
    Keeps u0 (State.reloaded s page) := by
  unfold State.reloaded
  apply State.rangeCount_keeps
  apply State.freeTrap_keeps
  apply State.event_keeps
  apply State.count_keeps
  apply State.curePage_keeps
  assumption

theorem State.fromOrigin_keeps {u0 : State} (s : Sys2Proof.Machine.State) (page : Nat) (h_s : Keeps u0 s) :
    Keeps u0 (State.fromOrigin s page) := by
  unfold State.fromOrigin
  split
  · apply State.reloaded_keeps
    apply State.levelPage_keeps
    apply State.loseClaims_keeps
    assumption
  · apply Keeps.ite
    · apply State.reloaded_keeps
      apply State.storeBytes_keeps
      assumption
    · assumption

theorem State.handlePage_keeps {u0 : State} (s : Sys2Proof.Machine.State) (page : Nat) (h_s : Keeps u0 s) :
    Keeps u0 (State.handlePage s page) := by
  unfold State.handlePage
  split
  · apply State.modEngine_keeps
    assumption
  · apply Keeps.ite
    · split
      · rename_i v2 heq
        have h_v2 : Keeps u0 v2 := (show KeepsOpt u0 _ by
          apply KeepsOpt.ite
          · exact KeepsOpt.none
          · apply State.recoverAt_keeps
            assumption
          ) _ heq
        apply State.rangeCount_keeps
        assumption
      · apply State.fromOrigin_keeps
        apply State.markPoison_keeps
        assumption
    · apply State.rangeCount_keeps
      apply State.zeroPage_keeps
      apply State.markPoison_keeps
      assumption

theorem State.rewriteWord_keeps {u0 : State} (s : State) (a : Nat) (h_s : Keeps u0 s) : Keeps u0 (s.rewriteWord a) := by
  unfold State.rewriteWord
  exact State.count_keeps _ _ _ _ (h_s.shrink (log := List.length_filter_le _ _))

theorem State.addCandidate_keeps {u0 : State} (s : Sys2Proof.Machine.State) (line : Nat) (h_s : Keeps u0 s) :
    Keeps u0 (State.addCandidate s line) := by
  unfold State.addCandidate
  apply Keeps.ite
  · assumption
  · apply State.setObj_keeps
    exact Keeps.same (s := s) (by assumption) rfl

theorem State.noteHits_keeps {u0 : State} (s : Sys2Proof.Machine.State) (line : Nat) (soft : List Nat) (h_s : Keeps u0 s) :
    Keeps u0 (State.noteHits s line soft) := by
  unfold State.noteHits
  extract_lets l0 l1 l2 l3 l4
  have h_l4 : Keeps u0 l4 := by
    unfold l4
    exact Keeps.same (s := s) (by assumption) rfl
  clear_value l4
  apply Keeps.ite
  · apply State.addCandidate_keeps
    assumption
  · assumption

theorem State.passLine_keeps {u0 : State} (s : Sys2Proof.Machine.State) (line : Nat) (soft : List Nat) (bad : List Nat) (h_s : Keeps u0 s) :
    Keeps u0 (State.passLine s line soft bad) := by
  unfold State.passLine
  split
  · apply Keeps.ite
    · extract_lets l2 l3
      have h_l3 : Keeps u0 l3 := by
        unfold l3
        exact Keeps.same (s := s) (by assumption) rfl
      clear_value l3
      apply State.count_keeps
      apply State.count_keeps
      apply State.count_keeps
      assumption
    · assumption
  · assumption

theorem State.endLap_keeps {u0 : State} (s : Sys2Proof.Machine.State) (o : Option Nat) (h_s : Keeps u0 s) :
    Keeps u0 (State.endLap s o) := by
  unfold State.endLap
  split
  · assumption
  · apply State.setObj_keeps
    apply State.free_keeps
    assumption

theorem State.passOver_keeps {u0 : State} (s : Sys2Proof.Machine.State) (line : Nat) (h_s : Keeps u0 s) :
    Keeps u0 (State.passOver s line) := by
  unfold State.passOver
  split
  · apply Keeps.ite
    · exact Keeps.same (s := s) (by assumption) rfl
    · assumption
  · assumption

theorem State.clearLog_keeps {u0 : State} (s : State) (line : Nat) (h_s : Keeps u0 s) : Keeps u0 (State.clearLog s line) :=
  h_s.shrink (log := List.length_filter_le _ _)

theorem execScrubLine_keeps {u0 : State} (a : BitVec 40) (s : Sys2Proof.Machine.State) (h_s : Keeps u0 s) :
    KeepsOut u0 (execScrubLine a s) := by
  unfold execScrubLine
  extract_lets l0 l1 l2
  apply KeepsOut.ite
  · apply KeepsOut.next
    apply State.passOver_keeps
    assumption
  · apply KeepsOut.next
    apply State.endLap_keeps
    apply State.passLine_keeps
    apply State.noteHits_keeps
    apply foldl_keeps
    · intro x60 a61 h62
      apply State.noteBad_keeps
      assumption
    · apply foldl_keeps
      · intro x63 a64 h65
        apply State.rewriteWord_keeps
        assumption
      · apply State.clearLog_keeps
        assumption

theorem execStormWindowEnd_keeps {u0 : State} (s : Sys2Proof.Machine.State) (h_s : Keeps u0 s) :
    KeepsOut u0 (execStormWindowEnd s) := by
  unfold execStormWindowEnd
  apply KeepsOut.ite
  · apply KeepsOut.next
    assumption
  · extract_lets l0 l1
    have h_l1 : Keeps u0 l1 := by
      unfold l1
      exact Keeps.same (s := s) (by assumption) rfl
    clear_value l1
    apply KeepsOut.next
    apply Keeps.ite
    · apply State.event_keeps
      apply State.clearCause_keeps
      assumption
    · assumption

theorem State.writeRangeStart_keeps {u0 : State} (s : Sys2Proof.Machine.State) (k : Sys2Proof.SessKey) (kport : Nat) (words : List (BitVec 32)) (h_s : Keeps u0 s) :
    Keeps u0 (State.writeRangeStart s k kport words) := by
  unfold State.writeRangeStart
  extract_lets l0 l1 l2
  apply State.writeReq_keeps
  · assumption
  · intro y60 h61
    apply State.setObjs_keeps
    apply State.setObj_keeps
    exact Keeps.same (s := y60) (by assumption) rfl

theorem execRangeStart_keeps {u0 : State} (src : Sys2Proof.Src) (words : List (BitVec 32)) (s : Sys2Proof.Machine.State) (h_s : Keeps u0 s) :
    KeepsOut u0 (execRangeStart src words s) := by
  unfold execRangeStart
  apply KeepsOut.next
  apply State.writeRangeStart_keeps
  assumption

theorem execRangePassComplete_keeps {u0 : State} (s : Sys2Proof.Machine.State) (h_s : Keeps u0 s) :
    KeepsOut u0 (execRangePassComplete s) := by
  unfold execRangePassComplete
  apply KeepsOut.next
  split
  · apply Keeps.ite
    · apply State.event_keeps
      apply State.setObj_keeps
      exact Keeps.same (s := s) (by assumption) rfl
    · assumption
  · assumption

theorem execBackgroundTestPage_keeps {u0 : State} (page : BitVec 28) (fail : Option (BitVec 12 × BitVec 8)) (s : Sys2Proof.Machine.State) (h_s : Keeps u0 s) :
    KeepsOut u0 (execBackgroundTestPage page fail s) := by
  unfold execBackgroundTestPage
  extract_lets l0 l1
  apply KeepsOut.next
  apply Keeps.ite
  · assumption
  · apply State.endLap_keeps
    split
    · assumption
    · apply State.addCandidate_keeps
      apply State.event_keeps
      apply State.count_keeps
      assumption

theorem State.writeFullTest_keeps {u0 : State} (s : Sys2Proof.Machine.State) (k : Sys2Proof.SessKey) (kport : Nat) (words : List (BitVec 32)) (h_s : Keeps u0 s) :
    Keeps u0 (State.writeFullTest s k kport words) := by
  unfold State.writeFullTest
  apply State.writeReq_keeps
  · assumption
  · intro y0 h1
    apply State.fill_keeps
    assumption

theorem execFullTest_keeps {u0 : State} (src : Sys2Proof.Src) (words : List (BitVec 32)) (s : Sys2Proof.Machine.State) (h_s : Keeps u0 s) :
    KeepsOut u0 (execFullTest src words s) := by
  unfold execFullTest
  apply KeepsOut.next
  apply State.writeFullTest_keeps
  assumption

theorem State.writePowerBank_keeps {u0 : State} (s : Sys2Proof.Machine.State) (k : Sys2Proof.SessKey) (kport : Nat) (b : Sys2Proof.PowerBank) (words : List (BitVec 32)) (h_s : Keeps u0 s) :
    Keeps u0 (State.writePowerBank s k kport b words) := by
  unfold State.writePowerBank
  apply State.writeReq_keeps
  · assumption
  · intro y0 h1
    exact Keeps.same (s := y0) (by assumption) rfl

theorem execPowerBankWrite_keeps {u0 : State} (src : Sys2Proof.Src) (b : Sys2Proof.PowerBank) (words : List (BitVec 32)) (s : Sys2Proof.Machine.State) (h_s : Keeps u0 s) :
    KeepsOut u0 (execPowerBankWrite src b words s) := by
  unfold execPowerBankWrite
  apply KeepsOut.next
  apply State.writePowerBank_keeps
  assumption

theorem State.wakeBanks_keeps {u0 : State} (s : Sys2Proof.Machine.State) (was : Sys2Proof.Machine.State) (h_s : Keeps u0 s) (h_was : Keeps u0 was) :
    Keeps u0 (State.wakeBanks s was) := by
  unfold State.wakeBanks
  apply foldl_keeps
  · intro x0 a1 h2
    apply Keeps.ite
    · apply State.clearRanges_keeps
      assumption
    · assumption
  · assumption

end Sys2Proof.Machine
end

