-- ==== Sys2Proof/Laws/KeepPorts.lean ====
section
/-! SUPPORT. What the serial ports, links, fabric, flash and DMA keep. -/
set_option Elab.async false
namespace Sys2Proof.Machine
open Sys2Proof

theorem State.modSap_keeps {u0 : State} (s : Sys2Proof.Machine.State) (p : Fin 4) (f : Sys2Proof.Machine.Sap → Sys2Proof.Machine.Sap) (h_s : Keeps u0 s) :
    Keeps u0 (State.modSap s p f) := by
  unfold State.modSap
  exact Keeps.same (s := s) (by assumption) rfl

theorem State.sapEvent_keeps {u0 : State} (s : Sys2Proof.Machine.State) (p : Fin 4) (kind : Nat) (count : Nat) (h_s : Keeps u0 s) :
    Keeps u0 (State.sapEvent s p kind count) := by
  unfold State.sapEvent
  apply State.event_keeps
  assumption

theorem State.setPort_keeps {u0 : State} (s : Sys2Proof.Machine.State) (p : Fin 4) (v : Nat) (h_s : Keeps u0 s) :
    Keeps u0 (State.setPort s p v) := by
  unfold State.setPort
  apply State.setObj_keeps
  assumption

theorem State.setConv_keeps {u0 : State} (s : Sys2Proof.Machine.State) (p : Fin 4) (inb : Bool) (v : Nat) (h_s : Keeps u0 s) :
    Keeps u0 (State.setConv s p inb v) := by
  unfold State.setConv
  extract_lets l0 l1
  have h_l1 : Keeps u0 l1 := by
    unfold l1
    apply State.setObj_keeps
    apply State.setObj_keeps
    assumption
  clear_value l1
  apply Keeps.ite
  · apply State.modSap_keeps
    assumption
  · apply Keeps.ite
    · apply State.modSap_keeps
      assumption
    · apply Keeps.ite
      · apply State.modSap_keeps
        assumption
      · apply Keeps.ite
        · apply State.modSap_keeps
          assumption
        · assumption

theorem State.sapReady_keeps {u0 : State} (s : Sys2Proof.Machine.State) (p : Fin 4) (h_s : Keeps u0 s) :
    Keeps u0 (State.sapReady s p) := by
  unfold State.sapReady
  apply Keeps.ite
  · apply State.sapEvent_keeps
    apply State.setPort_keeps
    assumption
  · assumption

theorem State.fixPhase_keeps {u0 : State} (s : Sys2Proof.Machine.State) (p : Fin 4) (q : Nat) (h_s : Keeps u0 s) :
    Keeps u0 (State.fixPhase s p q) := by
  unfold State.fixPhase
  extract_lets l0 l1 l2
  have h_l1 : Keeps u0 l1 := by
    unfold l1
    apply State.modSap_keeps
    assumption
  clear_value l1
  have h_l2 : ∀ y60, Keeps u0 y60 → ∀ y61, Keeps u0 (l2 y60 y61) := by
    intro y60 hy60 y61
    unfold l2
    apply Keeps.ite
    · apply State.setObj_keeps
      assumption
    · assumption
  clear_value l2
  apply Keeps.ite
  · assumption
  · apply h_l2
    apply h_l2
    assumption

theorem State.setBypassed_keeps {u0 : State} (s : Sys2Proof.Machine.State) (p : Fin 4) (h_s : Keeps u0 s) :
    Keeps u0 (State.setBypassed s p) := by
  unfold State.setBypassed
  extract_lets l0 l1
  apply State.sapReady_keeps
  apply State.setObjs_keeps
  apply State.setConv_keeps
  apply State.setConv_keeps
  assumption

theorem State.sapStart_keeps {u0 : State} (s : Sys2Proof.Machine.State) (p : Fin 4) (h_s : Keeps u0 s) :
    Keeps u0 (State.sapStart s p) := by
  unfold State.sapStart
  extract_lets l0 l1
  have h_l0 : Keeps u0 l0 := by
    unfold l0
    apply State.modSap_keeps
    apply State.setConv_keeps
    apply State.setConv_keeps
    apply State.setPort_keeps
    assumption
  clear_value l0
  have h_l1 : Keeps u0 l1 := by
    unfold l1
    apply State.setObj_keeps
    assumption
  clear_value l1
  apply Keeps.ite
  · apply State.setBypassed_keeps
    assumption
  · assumption

theorem State.enablePort_keeps {u0 : State} (s : Sys2Proof.Machine.State) (p : Fin 4) (h_s : Keeps u0 s) :
    Keeps u0 (State.enablePort s p) := by
  unfold State.enablePort
  extract_lets l0
  have h_l0 : Keeps u0 l0 := by
    unfold l0
    apply State.setObj_keeps
    assumption
  clear_value l0
  apply Keeps.ite
  · apply State.sapStart_keeps
    assumption
  · apply Keeps.ite
    · apply State.setPort_keeps
      assumption
    · assumption

theorem State.disablePort_keeps {u0 : State} (s : Sys2Proof.Machine.State) (p : Fin 4) (h_s : Keeps u0 s) :
    Keeps u0 (State.disablePort s p) := by
  unfold State.disablePort
  extract_lets l0 l1
  have h_l0 : Keeps u0 l0 := by
    unfold l0
    apply State.setObj_keeps
    assumption
  clear_value l0
  apply Keeps.ite
  · assumption
  · apply Keeps.ite
    · apply State.setPort_keeps
      assumption
    · apply State.modSap_keeps
      apply State.setPort_keeps
      assumption

theorem State.writePortEnable_keeps {u0 : State} (s : Sys2Proof.Machine.State) (k : Sys2Proof.SessKey) (kport : Nat) (p : Fin 4) (words : List (BitVec 32)) (h_s : Keeps u0 s) :
    Keeps u0 (State.writePortEnable s k kport p words) := by
  unfold State.writePortEnable
  extract_lets l0 l1 l2
  apply State.writeReq_keeps
  · assumption
  · intro y60 h61
    apply Keeps.ite
    · apply State.enablePort_keeps
      assumption
    · apply State.disablePort_keeps
      assumption

theorem State.sapLoss_keeps {u0 : State} (s : Sys2Proof.Machine.State) (p : Fin 4) (h_s : Keeps u0 s) :
    Keeps u0 (State.sapLoss s p) := by
  unfold State.sapLoss
  apply Keeps.ite
  · assumption
  · extract_lets l0 l1
    have h_l0 : Keeps u0 l0 := by
      unfold l0
      apply Keeps.ite
      · assumption
      · apply State.setPort_keeps
        apply State.setConv_keeps
        apply State.setConv_keeps
        assumption
    clear_value l0
    have h_l1 : Keeps u0 l1 := by
      unfold l1
      apply State.setObj_keeps
      apply State.modSap_keeps
      apply State.count_keeps
      assumption
    clear_value l1
    apply State.sapEvent_keeps
    assumption

theorem State.freeWords_keeps {u0 : State} (n : Nat) (s : State) (h_s : Keeps u0 s) : Keeps u0 (State.freeWords n s).2 := by
  induction n generalizing s with
  | zero => exact h_s
  | succ n ih => exact ih _ (State.free_keeps _ h_s)

theorem State.convSamples_keeps {u0 : State} (s : Sys2Proof.Machine.State) (p : Fin 4) (inb : Bool) (direct : List Sys2Proof.Word) (h_s : Keeps u0 s) :
    Keeps u0 (State.convSamples s p inb direct).2 := by
  unfold State.convSamples
  extract_lets l0
  apply Keeps.iteSnd
  · apply State.freeWords_keeps
    assumption
  · apply Keeps.iteSnd
    · try dsimp only
      assumption
    · try dsimp only
      assumption

theorem State.dirTick_keeps {u0 : State} (s : Sys2Proof.Machine.State) (p : Fin 4) (inb : Bool) (direct : List Sys2Proof.Word) (h_s : Keeps u0 s) :
    Keeps u0 (State.dirTick s p inb direct).2 := by
  unfold State.dirTick
  extract_lets l0 l1 l2
  have h_l0 : Keeps u0 l0.2 := by
    unfold l0
    apply State.convSamples_keeps
    assumption
  clear_value l0
  try dsimp only
  apply State.modSap_keeps
  assumption

theorem State.portRead_keeps {u0 : State} (s : Sys2Proof.Machine.State) (c : Nat) (h_s : Keeps u0 s) :
    Keeps u0 (State.portRead s c).2 := by
  unfold State.portRead
  split
  · try dsimp only
    apply State.count_keeps
    apply State.noteBad_keeps
    assumption
  · exact State.noteSofts_keeps _ _ _ h_s

theorem State.portReads_keeps {u0 : State} (c n : Nat) (s : State) (h_s : Keeps u0 s) : Keeps u0 (State.portReads c n s).2 := by
  induction n generalizing c s with
  | zero => exact h_s
  | succ n ih => exact ih _ _ (State.portRead_keeps _ _ h_s)

theorem State.sapKeep_keeps {u0 : State} (s : Sys2Proof.Machine.State) (p : Fin 4) (h_s : Keeps u0 s) :
    Keeps u0 (State.sapKeep s p) := by
  unfold State.sapKeep
  apply Keeps.ite
  · extract_lets l0
    have h_l0 : Keeps u0 l0.2 := by
      unfold l0
      apply State.portReads_keeps
      assumption
    clear_value l0
    apply State.modSap_keeps
    assumption
  · assumption

theorem State.sapSend_keeps {u0 : State} (s : Sys2Proof.Machine.State) (p : Fin 4) (h_s : Keeps u0 s) :
    Keeps u0 (State.sapSend s p) := by
  unfold State.sapSend
  apply Keeps.ite
  · extract_lets l0 l1
    apply State.modSap_keeps
    assumption
  · extract_lets l60 l61 l62 l63
    have h_l60 : Keeps u0 l60.2 := by
      unfold l60
      apply Keeps.iteSnd
      · try dsimp only
        assumption
      · apply State.portReads_keeps
        assumption
    clear_value l60
    have h_l61 : Keeps u0 l61.2 := by
      unfold l61
      apply State.dirTick_keeps
      assumption
    clear_value l61
    apply State.count_keeps
    apply State.modSap_keeps
    assumption

theorem State.badFrame_keeps {u0 : State} (s : Sys2Proof.Machine.State) (p : Fin 4) (h_s : Keeps u0 s) :
    Keeps u0 (State.badFrame s p) := by
  unfold State.badFrame
  extract_lets l0 l1 l2
  have h_l0 : Keeps u0 l0 := by
    unfold l0
    apply State.count_keeps
    assumption
  clear_value l0
  have h_l2 : Keeps u0 l2 := by
    unfold l2
    apply State.modSap_keeps
    apply State.sapEvent_keeps
    assumption
  clear_value l2
  apply Keeps.ite
  · apply State.modSap_keeps
    assumption
  · apply State.sapSend_keeps
    apply Keeps.ite
    · assumption
    · apply State.sapLoss_keeps
      assumption

theorem State.detect_keeps {u0 : State} (s : Sys2Proof.Machine.State) (p : Fin 4) (bclk : Nat) (h_s : Keeps u0 s) :
    Keeps u0 (State.detect s p bclk) := by
  unfold State.detect
  extract_lets l0 l1 l2 l3 l4
  have h_l3 : Keeps u0 l3 := by
    unfold l3
    apply State.modSap_keeps
    assumption
  clear_value l3
  have h_l4 : Keeps u0 l4 := by
    unfold l4
    apply State.count_keeps
    assumption
  clear_value l4
  apply Keeps.ite
  · apply State.modSap_keeps
    assumption
  · apply Keeps.ite
    · apply State.sapEvent_keeps
      apply State.setObj_keeps
      assumption
    · apply State.sapEvent_keeps
      assumption

theorem State.capture_keeps {u0 : State} (s : Sys2Proof.Machine.State) (p : Fin 4) (lanes : List (List Bool)) (h_s : Keeps u0 s) :
    Keeps u0 (State.capture s p lanes) := by
  unfold State.capture
  apply State.modSap_keeps
  assumption

theorem State.goodFrame_keeps {u0 : State} (s : Sys2Proof.Machine.State) (p : Fin 4) (q : Nat) (lanes : List (List Bool)) (h_s : Keeps u0 s) :
    Keeps u0 (State.goodFrame s p q lanes) := by
  unfold State.goodFrame
  extract_lets l0 l1
  have h_l0 : Keeps u0 l0 := by
    unfold l0
    apply State.modSap_keeps
    apply State.capture_keeps
    assumption
  clear_value l0
  have h_l1 : Keeps u0 l1 := by
    unfold l1
    apply Keeps.ite
    · apply State.setPort_keeps
      assumption
    · assumption
  clear_value l1
  apply Keeps.ite
  · assumption
  · apply Keeps.ite
    · apply State.setBypassed_keeps
      assumption
    · assumption

theorem State.sapFrame_keeps {u0 : State} (s : Sys2Proof.Machine.State) (p : Fin 4) (bclk : Nat) (q : Nat) (rate : Nat) (lanes : List (List Bool)) (h_s : Keeps u0 s) :
    Keeps u0 (State.sapFrame s p bclk q rate lanes) := by
  unfold State.sapFrame
  extract_lets l0 l1
  have h_l1 : Keeps u0 l1 := by
    unfold l1
    apply Keeps.ite
    · assumption
    · apply State.setObj_keeps
      assumption
  clear_value l1
  apply Keeps.ite
  · assumption
  · apply Keeps.ite
    · apply Keeps.ite
      · apply State.sapSend_keeps
        apply State.modSap_keeps
        apply State.capture_keeps
        assumption
      · apply State.badFrame_keeps
        assumption
    · apply Keeps.ite
      · apply State.sapSend_keeps
        apply State.detect_keeps
        assumption
      · apply Keeps.ite
        · apply State.badFrame_keeps
          assumption
        · apply Keeps.ite
          · apply State.sapSend_keeps
            apply State.sapLoss_keeps
            assumption
          · apply State.sapSend_keeps
            apply State.goodFrame_keeps
            assumption

theorem State.sapEdge_keeps {u0 : State} (s : Sys2Proof.Machine.State) (p : Fin 4) (h_s : Keeps u0 s) :
    Keeps u0 (State.sapEdge s p) := by
  unfold State.sapEdge
  extract_lets l0
  have h_l0 : Keeps u0 l0 := by
    unfold l0
    apply Keeps.ite
    · apply State.modSap_keeps
      assumption
    · assumption
  clear_value l0
  apply State.modSap_keeps
  assumption

theorem State.sapLatch_keeps {u0 : State} (s : Sys2Proof.Machine.State) (p : Fin 4) (h_s : Keeps u0 s) :
    Keeps u0 (State.sapLatch s p) := by
  unfold State.sapLatch
  extract_lets l0 l1
  have h_l0 : Keeps u0 l0.2 := by
    unfold l0
    apply State.dirTick_keeps
    assumption
  clear_value l0
  apply State.sapEdge_keeps
  apply State.storeBytes_keeps
  assumption

theorem State.sapOff_keeps {u0 : State} (s : Sys2Proof.Machine.State) (p : Fin 4) (h_s : Keeps u0 s) :
    Keeps u0 (State.sapOff s p) := by
  unfold State.sapOff
  apply Keeps.ite
  · extract_lets l0 l1 l2
    have h_l1 : Keeps u0 l1 := by
      unfold l1
      apply State.modSap_keeps
      apply State.setPort_keeps
      apply State.setConv_keeps
      apply State.setConv_keeps
      assumption
    clear_value l1
    have h_l2 : Keeps u0 l2 := by
      unfold l2
      apply State.sapEvent_keeps
      assumption
    clear_value l2
    apply Keeps.ite
    · apply State.sapStart_keeps
      assumption
    · assumption
  · assumption

theorem State.convLock_keeps {u0 : State} (s : Sys2Proof.Machine.State) (p : Fin 4) (inb : Bool) (h_s : Keeps u0 s) :
    Keeps u0 (State.convLock s p inb) := by
  unfold State.convLock
  apply Keeps.ite
  · extract_lets l0 l1
    have h_l1 : Keeps u0 l1 := by
      unfold l1
      apply State.setObjs_keeps
      apply State.setConv_keeps
      assumption
    clear_value l1
    apply State.sapReady_keeps
    apply State.sapEvent_keeps
    assumption
  · assumption

theorem State.convUnlock_keeps {u0 : State} (s : Sys2Proof.Machine.State) (p : Fin 4) (inb : Bool) (h_s : Keeps u0 s) :
    Keeps u0 (State.convUnlock s p inb) := by
  unfold State.convUnlock
  apply Keeps.ite
  · extract_lets l0 l1
    have h_l1 : Keeps u0 l1 := by
      unfold l1
      apply State.count_keeps
      apply State.setConv_keeps
      assumption
    clear_value l1
    apply State.sapEvent_keeps
    assumption
  · assumption

theorem State.leaveBypass_keeps {u0 : State} (s : Sys2Proof.Machine.State) (p : Fin 4) (inb : Bool) (h_s : Keeps u0 s) :
    Keeps u0 (State.leaveBypass s p inb) := by
  unfold State.leaveBypass
  apply Keeps.ite
  · extract_lets l0
    have h_l0 : Keeps u0 l0 := by
      unfold l0
      apply State.setConv_keeps
      assumption
    clear_value l0
    apply State.sapEvent_keeps
    assumption
  · assumption

theorem State.sapRecheck_keeps {u0 : State} (s : State) (h_s : Keeps u0 s) : Keeps u0 s.sapRecheck := by
  unfold State.sapRecheck
  exact foldl_keeps _ (fun x p h => Keeps.ite h (State.leaveBypass_keeps _ _ _ (State.leaveBypass_keeps _ _ _ h))) h_s

theorem State.relockDir_keeps {u0 : State} (s : Sys2Proof.Machine.State) (p : Fin 4) (inb : Bool) (h_s : Keeps u0 s) :
    Keeps u0 (State.relockDir s p inb) := by
  unfold State.relockDir
  extract_lets l0 l1
  have h_l0 : Keeps u0 l0 := by
    unfold l0
    apply State.modSap_keeps
    apply State.setConv_keeps
    assumption
  clear_value l0
  exact Keeps.same (s := l0) (by assumption) rfl

theorem State.sapRelockPort_keeps {u0 : State} (s : Sys2Proof.Machine.State) (p : Fin 4) (h_s : Keeps u0 s) :
    Keeps u0 (State.sapRelockPort s p) := by
  unfold State.sapRelockPort
  apply Keeps.ite
  · apply State.setBypassed_keeps
    assumption
  · extract_lets l0
    have h_l0 : ∀ y60, Keeps u0 y60 → ∀ y61, Keeps u0 (l0 y60 y61) := by
      intro y60 hy60 y61
      unfold l0
      apply Keeps.ite
      · apply State.relockDir_keeps
        assumption
      · assumption
    clear_value l0
    apply h_l0
    apply h_l0
    assumption

theorem State.sapRelock_keeps {u0 : State} (s : Sys2Proof.Machine.State) (h_s : Keeps u0 s) :
    Keeps u0 (State.sapRelock s) := by
  unfold State.sapRelock
  apply foldl_keeps
  · intro x0 a1 h2
    apply State.sapRelockPort_keeps
    assumption
  · assumption

theorem execPortEnable_keeps {u0 : State} (src : Sys2Proof.Src) (p : Fin 4) (s : Sys2Proof.Machine.State) (h_s : Keeps u0 s) :
    KeepsOut u0 (execPortEnable src p s) := by
  unfold execPortEnable
  apply KeepsOut.next
  apply State.writePortEnable_keeps
  assumption

theorem execPortShutdown_keeps {u0 : State} (src : Sys2Proof.Src) (p : Fin 4) (s : Sys2Proof.Machine.State) (h_s : Keeps u0 s) :
    KeepsOut u0 (execPortShutdown src p s) := by
  unfold execPortShutdown
  apply KeepsOut.next
  apply State.writePortEnable_keeps
  assumption

theorem execPortShutdownComplete_keeps {u0 : State} (p : Fin 4) (s : Sys2Proof.Machine.State) (h_s : Keeps u0 s) :
    KeepsOut u0 (execPortShutdownComplete p s) := by
  unfold execPortShutdownComplete
  apply KeepsOut.next
  apply State.sapOff_keeps
  assumption

theorem State.writeSapSetting_keeps {u0 : State} (s : Sys2Proof.Machine.State) (k : Sys2Proof.SessKey) (kport : Nat) (p : Fin 4) (which : Fin 3) (words : List (BitVec 32)) (h_s : Keeps u0 s) :
    Keeps u0 (State.writeSapSetting s k kport p which words) := by
  unfold State.writeSapSetting
  apply State.writeReq_keeps
  · assumption
  · intro y0 h1
    apply State.setObj_keeps
    assumption

theorem execSapFormatWrite_keeps {u0 : State} (src : Sys2Proof.Src) (p : Fin 4) (which : Fin 3) (words : List (BitVec 32)) (s : Sys2Proof.Machine.State) (h_s : Keeps u0 s) :
    KeepsOut u0 (execSapFormatWrite src p which words s) := by
  unfold execSapFormatWrite
  apply KeepsOut.next
  apply State.writeSapSetting_keeps
  assumption

theorem execSapFrame_keeps {u0 : State} (p : Fin 4) (bclk : BitVec 16) (q : BitVec 16) (rate : BitVec 32) (lanes : List (List Bool)) (s : Sys2Proof.Machine.State) (h_s : Keeps u0 s) :
    KeepsOut u0 (execSapFrame p bclk q rate lanes s) := by
  unfold execSapFrame
  apply KeepsOut.next
  apply State.sapFrame_keeps
  assumption

theorem execSapClockLoss_keeps {u0 : State} (p : Fin 4) (s : Sys2Proof.Machine.State) (h_s : Keeps u0 s) :
    KeepsOut u0 (execSapClockLoss p s) := by
  unfold execSapClockLoss
  apply KeepsOut.next
  apply State.sapLoss_keeps
  assumption

theorem execConverterLocked_keeps {u0 : State} (p : Fin 4) (inbound : Bool) (s : Sys2Proof.Machine.State) (h_s : Keeps u0 s) :
    KeepsOut u0 (execConverterLocked p inbound s) := by
  unfold execConverterLocked
  apply KeepsOut.next
  apply State.convLock_keeps
  assumption

theorem execConverterUnlock_keeps {u0 : State} (p : Fin 4) (inbound : Bool) (s : Sys2Proof.Machine.State) (h_s : Keeps u0 s) :
    KeepsOut u0 (execConverterUnlock p inbound s) := by
  unfold execConverterUnlock
  apply KeepsOut.next
  apply State.convUnlock_keeps
  assumption

theorem execMclkConfigWrite_keeps {u0 : State} (src : Sys2Proof.Src) (p : Fin 4) (which : Fin 3) (words : List (BitVec 32)) (s : Sys2Proof.Machine.State) (h_s : Keeps u0 s) :
    KeepsOut u0 (execMclkConfigWrite src p which words s) := by
  unfold execMclkConfigWrite
  apply KeepsOut.next
  apply State.writeReq_keeps
  · assumption
  · intro y0 h1
    apply State.setObj_keeps
    assumption

theorem State.modLink_keeps {u0 : State} (s : Sys2Proof.Machine.State) (k : Fin 4) (f : Sys2Proof.Machine.Link → Sys2Proof.Machine.Link) (h_s : Keeps u0 s) :
    Keeps u0 (State.modLink s k f) := by
  unfold State.modLink
  exact Keeps.same (s := s) (by assumption) rfl

theorem State.linkEvent_keeps {u0 : State} (s : Sys2Proof.Machine.State) (k : Fin 4) (kind : Nat) (count : Nat) (h_s : Keeps u0 s) :
    Keeps u0 (State.linkEvent s k kind count) := by
  unfold State.linkEvent
  apply State.event_keeps
  assumption

theorem State.train_keeps {u0 : State} (s : Sys2Proof.Machine.State) (k : Fin 4) (ready : Bool) (h_s : Keeps u0 s) :
    Keeps u0 (State.train s k ready) := by
  unfold State.train
  extract_lets l0 l1 l2 l3 l4
  exact Keeps.same (s := s) (by assumption) rfl

theorem State.setLink_keeps {u0 : State} (s : Sys2Proof.Machine.State) (k : Fin 4) (v : Nat) (h_s : Keeps u0 s) :
    Keeps u0 (State.setLink s k v) := by
  unfold State.setLink
  extract_lets l0
  have h_l0 : Keeps u0 l0 := by
    unfold l0
    apply State.linkEvent_keeps
    apply State.setObjs_keeps
    assumption
  clear_value l0
  apply Keeps.ite
  · apply State.train_keeps
    apply State.modLink_keeps
    assumption
  · apply Keeps.ite
    · apply State.modLink_keeps
      assumption
    · apply Keeps.ite
      · apply State.modLink_keeps
        assumption
      · assumption

theorem State.linkUp_keeps {u0 : State} (s : Sys2Proof.Machine.State) (k : Fin 4) (h_s : Keeps u0 s) :
    Keeps u0 (State.linkUp s k) := by
  unfold State.linkUp
  apply State.setLink_keeps
  assumption

theorem State.weaken_keeps {u0 : State} (s : Sys2Proof.Machine.State) (k : Fin 4) (v : Nat) (kind : Nat) (count : Nat) (h_s : Keeps u0 s) :
    Keeps u0 (State.weaken s k v kind count) := by
  unfold State.weaken
  extract_lets l0 l1
  have h_l0 : Keeps u0 l0 := by
    unfold l0
    apply State.linkEvent_keeps
    apply State.linkEvent_keeps
    apply State.setObjs_keeps
    assumption
  clear_value l0
  exact Keeps.same (s := l0) (by assumption) rfl

theorem State.linkErrors_keeps {u0 : State} (s : Sys2Proof.Machine.State) (k : Fin 4) (n : Nat) (h_s : Keeps u0 s) :
    Keeps u0 (State.linkErrors s k n) := by
  unfold State.linkErrors
  extract_lets l0 l1
  have h_l0 : Keeps u0 l0 := by
    unfold l0
    apply State.count_keeps
    assumption
  clear_value l0
  apply Keeps.ite
  · apply State.weaken_keeps
    assumption
  · assumption

theorem State.sendOn_keeps {u0 : State} (s : Sys2Proof.Machine.State) (k : Fin 4) (bulk : Bool) (m : Sys2Proof.Machine.Msg) (h_s : Keeps u0 s) :
    Keeps u0 (State.sendOn s k bulk m) := by
  unfold State.sendOn
  apply State.modLink_keeps
  assumption

theorem State.encodeOut_keeps {u0 : State} (s : Sys2Proof.Machine.State) (k : Fin 4) (fmt : Nat) (g : Nat) (h_s : Keeps u0 s) :
    Keeps u0 (State.encodeOut s k fmt g).2 := by
  unfold State.encodeOut
  extract_lets l0 l1
  have h_l0 : Keeps u0 l0.2 := by
    unfold l0
    apply State.portReads_keeps
    assumption
  clear_value l0
  try dsimp only
  apply State.count_keeps
  assumption

theorem State.runBits_keeps {u0 : State} (k : Fin 4) (r : RunEntry) (l : List Nat) (i : Nat) (s : State) (h_s : Keeps u0 s) :
    Keeps u0 (State.runBits k r l i s).2 := by
  induction l generalizing i s with
  | nil => exact h_s
  | cons g t ih => exact ih _ _ (Keeps.iteSnd h_s (State.encodeOut_keeps _ _ _ _ h_s))

theorem State.noteLate_keeps {u0 : State} (s : Sys2Proof.Machine.State) (k : Fin 4) (n : Nat) (h_s : Keeps u0 s) :
    Keeps u0 (State.noteLate s k n) := by
  unfold State.noteLate
  apply Keeps.ite
  · assumption
  · apply State.linkEvent_keeps
    apply State.count_keeps
    assumption

theorem State.sendRun_keeps {u0 : State} (s : Sys2Proof.Machine.State) (k : Fin 4) (tick : Nat) (r : Sys2Proof.Machine.RunEntry) (h_s : Keeps u0 s) :
    Keeps u0 (State.sendRun s k tick r).2 := by
  unfold State.sendRun
  apply Keeps.iteSnd
  · try dsimp only
    assumption
  · apply Keeps.iteSnd
    · try dsimp only
      assumption
    · extract_lets l0 l1
      have h_l0 : Keeps u0 l0.2 := by
        unfold l0
        apply State.runBits_keeps
        assumption
      clear_value l0
      try dsimp only
      assumption

theorem State.sendRuns_keeps {u0 : State} (k : Fin 4) (tick : Nat) (l : List RunEntry) (s : State) (h_s : Keeps u0 s) :
    Keeps u0 (State.sendRuns k tick l s).2 := by
  induction l generalizing s with
  | nil => exact h_s
  | cons r t ih => exact ih _ (State.sendRun_keeps _ _ _ _ h_s)

theorem State.measure_keeps {u0 : State} (s : Sys2Proof.Machine.State) (k : Fin 4) (h_s : Keeps u0 s) :
    Keeps u0 (State.measure s k) := by
  unfold State.measure
  extract_lets l0 l1 l2 l3
  have h_l2 : Keeps u0 l2 := by
    unfold l2
    apply State.setObjs_keeps
    assumption
  clear_value l2
  have h_l3 : Keeps u0 l3 := by
    unfold l3
    apply State.setObj_keeps
    assumption
  clear_value l3
  apply Keeps.ite
  · apply Keeps.ite
    · apply State.weaken_keeps
      assumption
    · assumption
  · apply Keeps.ite
    · apply State.linkUp_keeps
      assumption
    · assumption

theorem State.sendFrame_keeps {u0 : State} (s : Sys2Proof.Machine.State) (k : Fin 4) (f : Sys2Proof.Machine.Frame) (h_s : Keeps u0 s) :
    Keeps u0 (State.sendFrame s k f) := by
  unfold State.sendFrame
  extract_lets l0 l1 l2 l3
  apply State.modLink_keeps
  exact Keeps.same (s := s) (by assumption) rfl

theorem State.transmit_keeps {u0 : State} (s : Sys2Proof.Machine.State) (k : Fin 4) (h_s : Keeps u0 s) :
    Keeps u0 (State.transmit s k) := by
  unfold State.transmit
  apply Keeps.ite
  · assumption
  · extract_lets l0 l1 l2 l3 l4 l5 l6 l7 l8
    have h_l5 : Keeps u0 l5.2 := by
      unfold l5
      apply State.sendRuns_keeps
      apply State.noteLate_keeps
      assumption
    clear_value l5
    apply State.sendFrame_keeps
    apply State.modLink_keeps
    assumption

theorem State.readHead_keeps {u0 : State} (s : Sys2Proof.Machine.State) (k : Fin 4) (h0 : BitVec 64) (h1 : BitVec 64) (h2 : BitVec 64) (x : Int) (h_s : Keeps u0 s) :
    Keeps u0 (State.readHead s k h0 h1 h2 x) := by
  unfold State.readHead
  extract_lets l0 l1
  have h_l1 : Keeps u0 l1 := by
    unfold l1
    apply State.modLink_keeps
    assumption
  clear_value l1
  apply State.measure_keeps
  assumption

theorem State.frameCount_keeps {u0 : State} (s : Sys2Proof.Machine.State) (k : Fin 4) (good : Bool) (h_s : Keeps u0 s) :
    Keeps u0 (State.frameCount s k good) := by
  unfold State.frameCount
  apply Keeps.ite
  · assumption
  · extract_lets l0 l1
    have h_l1 : Keeps u0 l1 := by
      unfold l1
      apply State.modLink_keeps
      assumption
    clear_value l1
    apply Keeps.ite
    · assumption
    · apply Keeps.ite
      · apply State.linkEvent_keeps
        apply State.setLink_keeps
        assumption
      · apply State.linkUp_keeps
        assumption

theorem State.receive_keeps {u0 : State} (s : Sys2Proof.Machine.State) (k : Fin 4) (marks : Bool) (low : Nat) (h0 : BitVec 64) (h1 : BitVec 64) (h2 : BitVec 64) (h3 : BitVec 64) (blocks : List (Nat × BitVec 64)) (bad : List Nat) (late : List Nat) (x : Int) (h_s : Keeps u0 s) :
    Keeps u0 (State.receive s k marks low h0 h1 h2 h3 blocks bad late x) := by
  unfold State.receive
  apply Keeps.ite
  · assumption
  · extract_lets l0 l1 l2 l3 l4 l5
    have h_l0 : Keeps u0 l0 := by
      unfold l0
      apply State.linkErrors_keeps
      apply State.count_keeps
      assumption
    clear_value l0
    have h_l1 : Keeps u0 l1 := by
      unfold l1
      apply State.count_keeps
      assumption
    clear_value l1
    have h_l3 : Keeps u0 l3 := by
      unfold l3
      apply Keeps.ite
      · apply State.readHead_keeps
        assumption
      · apply State.linkErrors_keeps
        apply State.count_keeps
        assumption
    clear_value l3
    apply Keeps.ite
    · apply State.frameCount_keeps
      apply State.linkEvent_keeps
      assumption
    · apply State.frameCount_keeps
      apply State.modLink_keeps
      assumption

theorem State.latchGroup_keeps {u0 : State} (s : Sys2Proof.Machine.State) (k : Fin 4) (r : Sys2Proof.Machine.RunEntry) (i : Nat) (f : Option Sys2Proof.Machine.RxFrame) (h_s : Keeps u0 s) :
    Keeps u0 (State.latchGroup s k r i f).1 := by
  unfold State.latchGroup
  extract_lets l0 l1 l2 l3 l4 l5 l6 l7 l8 l9 l10 l11 l12
  have h_l3 : Keeps u0 l3 := by
    unfold l3
    apply Keeps.ite
    · apply State.count_keeps
      assumption
    · assumption
  clear_value l3
  have h_l10 : Keeps u0 l10 := by
    unfold l10
    apply State.storeGroup_keeps
    apply State.setGroup_keeps
    assumption
  clear_value l10
  have h_l12 : Keeps u0 l12 := by
    unfold l12
    exact Keeps.same (s := l10) (by assumption) rfl
  clear_value l12
  try dsimp only
  assumption

theorem State.latchRun_keeps {u0 : State} (s : Sys2Proof.Machine.State) (k : Fin 4) (tick : Nat) (r : Sys2Proof.Machine.RunEntry) (h_s : Keeps u0 s) :
    Keeps u0 (State.latchRun s k tick r) := by
  unfold State.latchRun
  extract_lets l0 l1
  have h_l1 : Keeps u0 l1.1 := by
    unfold l1
    apply foldl_fst_keeps
    · intro x60 a61 h62
      extract_lets l63
      have h_l63 : Keeps u0 l63.1 := by
        unfold l63
        apply State.latchGroup_keeps
        assumption
      clear_value l63
      try dsimp only
      assumption
    · try dsimp only
      assumption
  clear_value l1
  apply Keeps.ite
  · apply State.count_keeps
    assumption
  · assumption

theorem State.latchRuns_keeps {u0 : State} (s : Sys2Proof.Machine.State) (tick : Nat) (h_s : Keeps u0 s) :
    Keeps u0 (State.latchRuns s tick) := by
  unfold State.latchRuns
  apply foldl_keeps
  · intro x0 a1 h2
    apply State.modLink_keeps
    apply foldl_keeps
    · intro x3 a4 h5
      apply State.latchRun_keeps
      assumption
    · assumption
  · assumption

theorem State.latchLoop_keeps {u0 : State} (s : Sys2Proof.Machine.State) (h_s : Keeps u0 s) :
    Keeps u0 (State.latchLoop s) := by
  unfold State.latchLoop
  apply foldl_keeps
  · intro x0 a1 h2
    apply State.store_keeps
    assumption
  · assumption

theorem State.latchXfade_keeps {u0 : State} (s : Sys2Proof.Machine.State) (x : Sys2Proof.Machine.Xfade) (h_s : Keeps u0 s) :
    Keeps u0 (State.latchXfade s x) := by
  unfold State.latchXfade
  extract_lets l0 l1 l2 l3
  have h_l0 : ∀ y60, ∀ y61, Keeps u0 y61 → Keeps u0 (l0 y60 y61) := by
    intro y60 y61 hy61
    unfold l0
    exact Keeps.same (s := y61) (by assumption) rfl
  clear_value l0
  apply Keeps.ite
  · apply h_l0
    assumption
  · apply h_l0
    apply State.storeGroup_keeps
    assumption

theorem State.latchInputs_keeps {u0 : State} (s : Sys2Proof.Machine.State) (tick : Nat) (h_s : Keeps u0 s) :
    Keeps u0 (State.latchInputs s tick) := by
  unfold State.latchInputs
  extract_lets l0 l1 l2 l3 l4
  have h_l0 : Keeps u0 l0 := by
    unfold l0
    apply foldl_keeps
    · intro x60 a61 h62
      apply State.sapKeep_keeps
      assumption
    · assumption
  clear_value l0
  have h_l1 : Keeps u0 l1 := by
    unfold l1
    apply foldl_keeps
    · intro x63 a64 h65
      apply State.sapLatch_keeps
      assumption
    · apply State.zeroOthers_keeps
      assumption
  clear_value l1
  have h_l2 : Keeps u0 l2 := by
    unfold l2
    apply State.latchLoop_keeps
    apply State.latchRuns_keeps
    assumption
  clear_value l2
  have h_l3 : Keeps u0 l3 := by
    unfold l3
    apply foldl_keeps
    · intro x66 a67 h68
      apply State.latchXfade_keeps
      assumption
    · assumption
  clear_value l3
  exact Keeps.same (s := l3) (by assumption) rfl

theorem State.modNet_keeps {u0 : State} (s : Sys2Proof.Machine.State) (f : Sys2Proof.Machine.Net → Sys2Proof.Machine.Net) (h_s : Keeps u0 s) :
    Keeps u0 (State.modNet s f) := by
  unfold State.modNet
  exact Keeps.same (s := s) (by assumption) rfl

theorem State.resettle_keeps {u0 : State} (s t : State) (h : Keeps u0 t) : Keeps u0 (s.resettle t) := by
  unfold State.resettle
  exact Keeps.ite h (State.modNet_keeps _ _ h)

theorem State.learnKey_keeps {u0 : State} (s : State) (k : Key) (h_s : Keeps u0 s) : Keeps u0 (s.learnKey k) := by
  unfold State.learnKey
  exact State.resettle_keeps _ _ (State.modNet_keeps _ _ h_s)

theorem State.writePriority_keeps {u0 : State} (s : State) (k : SessKey) (kport : Nat) (words : List (BitVec 32)) (h_s : Keeps u0 s) :
    Keeps u0 (s.writePriority k kport words) := by
  unfold State.writePriority
  apply State.writeReq_keeps
  · exact h_s
  · intro y h
    exact State.resettle_keeps _ _ (State.setObj_keeps _ _ _ h)

theorem State.flood_keeps {u0 : State} (s : State) (src ty : Nat) (b : List Byte) (except : Option (Fin 4)) (h_s : Keeps u0 s) :
    Keeps u0 (s.flood src ty b except) := by
  unfold State.flood
  apply foldl_keeps
  · intro x0 a1 h2
    apply State.sendOn_keeps
    assumption
  · assumption

theorem State.nextFlood_keeps {u0 : State} (s : Sys2Proof.Machine.State) (h_s : Keeps u0 s) :
    Keeps u0 (State.nextFlood s).2 := by
  unfold State.nextFlood
  try dsimp only
  apply State.modNet_keeps
  assumption

theorem State.noteFlood_keeps {u0 : State} (s : Sys2Proof.Machine.State) (src : Nat) (seq : Nat) (h_s : Keeps u0 s) :
    Keeps u0 (State.noteFlood s src seq) := by
  unfold State.noteFlood
  apply State.modNet_keeps
  assumption

theorem State.takeMsg_keeps {u0 : State} (s : Sys2Proof.Machine.State) (ty : Nat) (h_s : Keeps u0 s) :
    Keeps u0 (State.takeMsg s ty) := by
  unfold State.takeMsg
  apply State.modNet_keeps
  assumption

theorem State.sendRouted_keeps {u0 : State} (s : Sys2Proof.Machine.State) (bulk : Bool) (m : Sys2Proof.Machine.Msg) (h_s : Keeps u0 s) :
    Keeps u0 (State.sendRouted s bulk m) := by
  unfold State.sendRouted
  apply Keeps.ite
  · apply State.modNet_keeps
    assumption
  · split
    · apply State.sendOn_keeps
      assumption
    · apply State.count_keeps
      assumption

theorem State.spread_keeps {u0 : State} (s : Sys2Proof.Machine.State) (m : Sys2Proof.Machine.Msg) (h_s : Keeps u0 s) :
    Keeps u0 (State.spread s m) := by
  unfold State.spread
  apply foldl_keeps
  · intro x0 a1 h2
    apply State.sendOn_keeps
    assumption
  · apply State.noteFlood_keeps
    assumption

theorem State.passOn_keeps {u0 : State} (s : Sys2Proof.Machine.State) (m : Sys2Proof.Machine.Msg) (h_s : Keeps u0 s) :
    Keeps u0 (State.passOn s m) := by
  unfold State.passOn
  apply Keeps.ite
  · assumption
  · apply State.spread_keeps
    assumption

theorem State.sendDown_keeps {u0 : State} (s : Sys2Proof.Machine.State) (m : Sys2Proof.Machine.Msg) (h_s : Keeps u0 s) :
    Keeps u0 (State.sendDown s m) := by
  unfold State.sendDown
  apply Keeps.ite
  · apply State.sendRouted_keeps
    assumption
  · apply State.spread_keeps
    assumption

theorem State.deliver_keeps {u0 : State} (s : Sys2Proof.Machine.State) (bulk : Bool) (m : Sys2Proof.Machine.Msg) (h_s : Keeps u0 s) :
    Keeps u0 (State.deliver s bulk m) := by
  unfold State.deliver
  apply Keeps.ite
  · apply State.modNet_keeps
    assumption
  · apply Keeps.ite
    · apply State.passOn_keeps
      assumption
    · apply State.sendRouted_keeps
      assumption

theorem State.assemble_keeps {u0 : State} (s : Sys2Proof.Machine.State) (k : Fin 4) (bulk : Bool) (seg : Nat) (m : Sys2Proof.Machine.Msg) (h_s : Keeps u0 s) :
    Keeps u0 (State.assemble s k bulk seg m) := by
  unfold State.assemble
  extract_lets l0
  have h_l0 : ∀ y60, ∀ y61, Keeps u0 y61 → Keeps u0 (l0 y60 y61) := by
    intro y60 y61 hy61
    unfold l0
    apply State.modLink_keeps
    assumption
  clear_value l0
  apply Keeps.ite
  · apply State.deliver_keeps
    apply h_l0
    assumption
  · apply Keeps.ite
    · apply h_l0
      assumption
    · split
      · assumption
      · extract_lets l64
        apply Keeps.ite
        · apply h_l0
          assumption
        · apply Keeps.ite
          · apply State.deliver_keeps
            apply h_l0
            assumption
          · apply h_l0
            assumption

theorem State.cell_keeps {u0 : State} (s : Sys2Proof.Machine.State) (k : Fin 4) (bulk : Bool) (blocks : List (BitVec 64)) (h_s : Keeps u0 s) :
    Keeps u0 (State.cell s k bulk blocks) := by
  unfold State.cell
  extract_lets l0 l1 l2 l3 l4
  apply Keeps.ite
  · assumption
  · apply Keeps.ite
    · apply State.linkErrors_keeps
      apply State.count_keeps
      assumption
    · apply Keeps.ite
      · assumption
      · apply State.assemble_keeps
        apply State.modLink_keeps
        assumption

theorem State.noteOrigin_keeps {u0 : State} (s : Sys2Proof.Machine.State) (a : Nat × Nat) (h_s : Keeps u0 s) :
    Keeps u0 (State.noteOrigin s a) := by
  unfold State.noteOrigin
  apply Keeps.ite
  · apply State.modNet_keeps
    assumption
  · assumption

theorem State.noteLost_keeps {u0 : State} (s : Sys2Proof.Machine.State) (a : Nat × Nat) (b : Nat × Nat) (f : Nat) (h_s : Keeps u0 s) :
    Keeps u0 (State.noteLost s a b f) := by
  unfold State.noteLost
  extract_lets l0
  have h_l0 : Keeps u0 l0 := by
    unfold l0
    apply State.modNet_keeps
    apply State.noteOrigin_keeps
    apply State.noteOrigin_keeps
    assumption
  clear_value l0
  apply Keeps.ite
  · apply State.modNet_keeps
    assumption
  · assumption

theorem State.checkAlone_keeps {u0 : State} (s : Sys2Proof.Machine.State) (h_s : Keeps u0 s) :
    Keeps u0 (State.checkAlone s) := by
  unfold State.checkAlone
  apply Keeps.ite
  · apply State.modNet_keeps
    apply State.setObjs_keeps
    assumption
  · assumption

theorem State.linkDown_keeps {u0 : State} (s : Sys2Proof.Machine.State) (k : Fin 4) (h_s : Keeps u0 s) :
    Keeps u0 (State.linkDown s k) := by
  unfold State.linkDown
  extract_lets l0 l1 l2 l3 l4 l5 l6 l7 l8 l9
  have h_l1 : Keeps u0 l1 := by
    unfold l1
    apply State.modLink_keeps
    apply State.setLink_keeps
    assumption
  clear_value l1
  have h_l2 : Keeps u0 l2 := by
    unfold l2
    apply State.setObjs_keeps
    assumption
  clear_value l2
  have h_l3 : Keeps u0 l3.2 := by
    unfold l3
    apply State.nextFlood_keeps
    assumption
  clear_value l3
  have h_l8 : Keeps u0 l8 := by
    unfold l8
    apply State.noteLost_keeps
    apply State.flood_keeps
    apply State.noteFlood_keeps
    assumption
  clear_value l8
  have h_l9 : Keeps u0 l9 := by
    unfold l9
    apply Keeps.ite
    · apply State.event_keeps
      assumption
    · assumption
  clear_value l9
  apply State.checkAlone_keeps
  assumption

theorem State.countRuns_keeps {u0 : State} (s : Sys2Proof.Machine.State) (k : Fin 4) (h_s : Keeps u0 s) :
    Keeps u0 (State.countRuns s k) := by
  unfold State.countRuns
  extract_lets l0
  apply State.setObjs_keeps
  assumption

theorem State.installPlan_keeps {u0 : State} (s : Sys2Proof.Machine.State) (a : Nat × Nat) (b : Nat × Nat) (f : Nat) (h_s : Keeps u0 s) :
    Keeps u0 (State.installPlan s a b f) := by
  unfold State.installPlan
  extract_lets l0 l1 l2 l3
  have h_l1 : Keeps u0 l1 := by
    unfold l1
    apply foldl_keeps
    · intro x60 a61 h62
      apply State.modLink_keeps
      assumption
    · assumption
  clear_value l1
  have h_l2 : Keeps u0 l2 := by
    unfold l2
    apply State.modNet_keeps
    apply foldl_keeps
    · intro x63 a64 h65
      apply State.countRuns_keeps
      assumption
    · assumption
  clear_value l2
  have h_l3 : Keeps u0 l3 := by
    unfold l3
    apply State.event_keeps
    apply State.count_keeps
    assumption
  clear_value l3
  apply Keeps.ite
  · assumption
  · apply State.count_keeps
    assumption

theorem State.sendHello_keeps {u0 : State} (s : Sys2Proof.Machine.State) (k : Fin 4) (h_s : Keeps u0 s) :
    Keeps u0 (State.sendHello s k) := by
  unfold State.sendHello
  apply State.sendOn_keeps
  assumption

theorem State.floodClaim_keeps {u0 : State} (s : Sys2Proof.Machine.State) (epoch : Nat) (h_s : Keeps u0 s) :
    Keeps u0 (State.floodClaim s epoch) := by
  unfold State.floodClaim
  extract_lets l0 l1
  have h_l0 : Keeps u0 l0.2 := by
    unfold l0
    apply State.nextFlood_keeps
    assumption
  clear_value l0
  apply State.flood_keeps
  apply State.noteFlood_keeps
  assumption

theorem State.adoptOrigin_keeps {u0 : State} (s : Sys2Proof.Machine.State) (o : Sys2Proof.Machine.Key) (epoch : Nat) (k : Fin 4) (h_s : Keeps u0 s) :
    Keeps u0 (State.adoptOrigin s o epoch k) := by
  unfold State.adoptOrigin
  extract_lets l0 l1
  have h_l0 : Keeps u0 l0 := by
    unfold l0
    apply State.modNet_keeps
    apply State.setObjs_keeps
    assumption
  clear_value l0
  have h_l1 : Keeps u0 l1 := by
    unfold l1
    apply State.event_keeps
    assumption
  clear_value l1
  apply State.sendOn_keeps
  assumption

theorem State.patchbayFollow_keeps {u0 : State} (s : Sys2Proof.Machine.State) (h_s : Keeps u0 s) :
    Keeps u0 (State.patchbayFollow s) := by
  unfold State.patchbayFollow
  apply Keeps.ite
  · exact Keeps.same (s := s) (by assumption) rfl
  · assumption

theorem State.takeAddress_keeps {u0 : State} (s : Sys2Proof.Machine.State) (addr : Nat) (x : Nat) (y : Nat) (coord : Nat) (originAddr : Nat) (h_s : Keeps u0 s) :
    Keeps u0 (State.takeAddress s addr x y coord originAddr) := by
  unfold State.takeAddress
  extract_lets l0 l1
  have h_l0 : Keeps u0 l0 := by
    unfold l0
    apply State.setObjs_keeps
    assumption
  clear_value l0
  have h_l1 : Keeps u0 l1 := by
    unfold l1
    apply State.patchbayFollow_keeps
    apply State.event_keeps
    assumption
  clear_value l1
  apply Keeps.ite
  · assumption
  · apply State.modNet_keeps
    assumption

theorem State.assignAll_keeps {u0 : State} (s : Sys2Proof.Machine.State) (h_s : Keeps u0 s) :
    Keeps u0 (State.assignAll s) := by
  unfold State.assignAll
  extract_lets l0 l1 l2 l3 l4 l5 l6 l7 l8 l9 l10 l11 l12 l13 l14 l15
  have h_l12 : Keeps u0 l12 := by
    unfold l12
    apply State.modNet_keeps
    apply State.setObj_keeps
    assumption
  clear_value l12
  have h_l13 : Keeps u0 l13 := by
    unfold l13
    apply State.takeAddress_keeps
    assumption
  clear_value l13
  have h_l14 : Keeps u0 l14 := by
    unfold l14
    apply foldl_keeps
    · intro x60 a61 h62
      apply State.spread_keeps
      assumption
    · assumption
  clear_value l14
  have h_l15 : Keeps u0 l15 := by
    unfold l15
    apply State.modNet_keeps
    assumption
  clear_value l15
  apply Keeps.ite
  · assumption
  · apply Keeps.ite
    · assumption
    · apply foldl_keeps
      · intro x63 a64 h65
        split
        · apply Keeps.ite
          · assumption
          · extract_lets l67
            apply foldl_keeps
            · intro x127 a128 h129
              apply State.sendDown_keeps
              assumption
            · assumption
        · assumption
      · assumption

theorem State.setTime_keeps {u0 : State} (s : Sys2Proof.Machine.State) (v : Nat) (h_s : Keeps u0 s) :
    Keeps u0 (State.setTime s v) := by
  unfold State.setTime
  apply Keeps.ite
  · assumption
  · apply State.event_keeps
    apply State.setObj_keeps
    assumption

theorem State.timeTick_keeps {u0 : State} (s : Sys2Proof.Machine.State) (h_s : Keeps u0 s) :
    Keeps u0 (State.timeTick s) := by
  unfold State.timeTick
  apply Keeps.ite
  · apply State.setTime_keeps
    apply State.modNet_keeps
    apply State.setObjs_keeps
    assumption
  · split
    · extract_lets l1
      have h_l1 : Keeps u0 l1 := by
        unfold l1
        apply State.modNet_keeps
        apply State.setObjs_keeps
        assumption
      clear_value l1
      apply Keeps.ite
      · assumption
      · apply State.setTime_keeps
        assumption
    · extract_lets l62 l63 l64
      have h_l63 : Keeps u0 l63 := by
        unfold l63
        apply State.setObjs_keeps
        assumption
      clear_value l63
      have h_l64 : Keeps u0 l64 := by
        unfold l64
        apply State.modNet_keeps
        assumption
      clear_value l64
      apply Keeps.ite
      · apply State.setTime_keeps
        assumption
      · assumption

theorem State.applyRoutes_keeps {u0 : State} (s : Sys2Proof.Machine.State) (h_s : Keeps u0 s) :
    Keeps u0 (State.applyRoutes s) := by
  unfold State.applyRoutes
  split
  · apply Keeps.ite
    · apply State.setObj_keeps
      apply State.modNet_keeps
      assumption
    · assumption
  · assumption

theorem State.applyActivate_keeps {u0 : State} (s : Sys2Proof.Machine.State) (h_s : Keeps u0 s) :
    Keeps u0 (State.applyActivate s) := by
  unfold State.applyActivate
  split
  · assumption
  · apply Keeps.ite
    · assumption
    · extract_lets l3 l4 l5
      have h_l3 : Keeps u0 l3 := by
        unfold l3
        apply foldl_keeps
        · intro x63 a64 h65
          apply State.countRuns_keeps
          apply State.modLink_keeps
          assumption
        · assumption
      clear_value l3
      have h_l4 : Keeps u0 l4 := by
        unfold l4
        apply State.modNet_keeps
        apply State.setObjs_keeps
        assumption
      clear_value l4
      have h_l5 : Keeps u0 l5 := by
        unfold l5
        apply Keeps.ite
        · assumption
        · apply State.count_keeps
          assumption
      clear_value l5
      apply State.event_keeps
      assumption

theorem State.applyStep_keeps {u0 : State} (s : Sys2Proof.Machine.State) (h_s : Keeps u0 s) :
    Keeps u0 (State.applyStep s) := by
  unfold State.applyStep
  split
  · assumption
  · extract_lets l2 l3 l4 l5 l6 l7
    have h_l3 : Keeps u0 l3 := by
      unfold l3
      apply State.modNet_keeps
      apply State.setObj_keeps
      assumption
    clear_value l3
    have h_l4 : Keeps u0 l4 := by
      unfold l4
      apply foldl_keeps
      · intro x62 a63 h64
        apply State.setLink_keeps
        apply State.modLink_keeps
        assumption
      · assumption
    clear_value l4
    have h_l6 : Keeps u0 l6 := by
      unfold l6
      apply foldl_keeps
      · intro x65 a66 h67
        apply State.modLink_keeps
        assumption
      · assumption
    clear_value l6
    apply State.event_keeps
    apply State.setObjs_keeps
    exact Keeps.same (s := l6) (by assumption) rfl

theorem State.netTick_keeps {u0 : State} (s : Sys2Proof.Machine.State) (h_s : Keeps u0 s) :
    Keeps u0 (State.netTick s) := by
  unfold State.netTick
  extract_lets l0
  have h_l0 : Keeps u0 l0 := by
    unfold l0
    apply State.timeTick_keeps
    apply State.applyRoutes_keeps
    apply State.applyActivate_keeps
    apply State.applyStep_keeps
    assumption
  clear_value l0
  apply State.modNet_keeps
  assumption

theorem State.writeLinkEnable_keeps {u0 : State} (s : Sys2Proof.Machine.State) (key : Sys2Proof.SessKey) (kport : Nat) (k : Fin 4) (words : List (BitVec 32)) (h_s : Keeps u0 s) :
    Keeps u0 (State.writeLinkEnable s key kport k words) := by
  unfold State.writeLinkEnable
  apply State.writeReq_keeps
  · assumption
  · intro y0 h1
    extract_lets l2 l3
    have h_l2 : Keeps u0 l2 := by
      unfold l2
      apply State.setObj_keeps
      assumption
    clear_value l2
    apply Keeps.ite
    · apply Keeps.ite
      · apply State.setLink_keeps
        assumption
      · apply Keeps.ite
        · apply State.setLink_keeps
          assumption
        · assumption
    · apply Keeps.ite
      · assumption
      · apply Keeps.ite
        · apply State.setLink_keeps
          assumption
        · apply State.setLink_keeps
          apply State.modLink_keeps
          assumption

theorem execLinkEnable_keeps {u0 : State} (src : Sys2Proof.Src) (k : Fin 4) (s : Sys2Proof.Machine.State) (h_s : Keeps u0 s) :
    KeepsOut u0 (execLinkEnable src k s) := by
  unfold execLinkEnable
  apply KeepsOut.next
  apply State.writeLinkEnable_keeps
  assumption

theorem execLinkDisable_keeps {u0 : State} (src : Sys2Proof.Src) (k : Fin 4) (s : Sys2Proof.Machine.State) (h_s : Keeps u0 s) :
    KeepsOut u0 (execLinkDisable src k s) := by
  unfold execLinkDisable
  apply KeepsOut.next
  apply State.writeLinkEnable_keeps
  assumption

theorem execLinkShutdownComplete_keeps {u0 : State} (k : Fin 4) (s : Sys2Proof.Machine.State) (h_s : Keeps u0 s) :
    KeepsOut u0 (execLinkShutdownComplete k s) := by
  unfold execLinkShutdownComplete
  extract_lets l0 l1
  have h_l1 : Keeps u0 l1 := by
    unfold l1
    apply State.checkAlone_keeps
    apply State.setObj_keeps
    apply State.modLink_keeps
    apply State.setLink_keeps
    assumption
  clear_value l1
  apply KeepsOut.next
  apply Keeps.ite
  · apply Keeps.ite
    · apply State.setLink_keeps
      assumption
    · assumption
  · apply Keeps.ite
    · apply State.setLink_keeps
      assumption
    · assumption

theorem execLinkSignalDetect_keeps {u0 : State} (k : Fin 4) (s : Sys2Proof.Machine.State) (h_s : Keeps u0 s) :
    KeepsOut u0 (execLinkSignalDetect k s) := by
  unfold execLinkSignalDetect
  apply KeepsOut.next
  apply Keeps.ite
  · apply State.setLink_keeps
    assumption
  · assumption

theorem execLaneBlockLock_keeps {u0 : State} (k : Fin 4) (lane : Fin 2) (swapped : Bool) (inverted : Bool) (s : Sys2Proof.Machine.State) (h_s : Keeps u0 s) :
    KeepsOut u0 (execLaneBlockLock k lane swapped inverted s) := by
  unfold execLaneBlockLock
  extract_lets l0 l1 l2 l3 l4 l5
  have h_l0 : Keeps u0 l0 := by
    unfold l0
    apply State.modLink_keeps
    assumption
  clear_value l0
  have h_l3 : Keeps u0 l3 := by
    unfold l3
    apply Keeps.ite
    · apply State.linkEvent_keeps
      apply State.setObj_keeps
      assumption
    · assumption
  clear_value l3
  apply KeepsOut.next
  apply Keeps.ite
  · assumption
  · apply Keeps.ite
    · apply State.train_keeps
      assumption
    · assumption

theorem execLaneLockLoss_keeps {u0 : State} (k : Fin 4) (lane : Fin 2) (s : Sys2Proof.Machine.State) (h_s : Keeps u0 s) :
    KeepsOut u0 (execLaneLockLoss k lane s) := by
  unfold execLaneLockLoss
  extract_lets l0
  have h_l0 : Keeps u0 l0 := by
    unfold l0
    apply State.modLink_keeps
    assumption
  clear_value l0
  apply KeepsOut.next
  apply Keeps.ite
  · apply State.linkDown_keeps
    assumption
  · assumption

theorem execTrainingComplete_keeps {u0 : State} (k : Fin 4) (two : Bool) (s : Sys2Proof.Machine.State) (h_s : Keeps u0 s) :
    KeepsOut u0 (execTrainingComplete k two s) := by
  unfold execTrainingComplete
  extract_lets l0 l1 l2 l3 l4
  have h_l2 : Keeps u0 l2 := by
    unfold l2
    apply Keeps.ite
    · apply State.train_keeps
      assumption
    · assumption
  clear_value l2
  have h_l3 : Keeps u0 l3 := by
    unfold l3
    apply State.setLink_keeps
    apply State.modLink_keeps
    apply State.setObj_keeps
    assumption
  clear_value l3
  have h_l4 : Keeps u0 l4 := by
    unfold l4
    apply Keeps.ite
    · apply State.setObj_keeps
      assumption
    · assumption
  clear_value l4
  apply KeepsOut.next
  apply Keeps.ite
  · apply State.sendHello_keeps
    assumption
  · assumption

theorem execTrainingTimeout_keeps {u0 : State} (k : Fin 4) (s : Sys2Proof.Machine.State) (h_s : Keeps u0 s) :
    KeepsOut u0 (execTrainingTimeout k s) := by
  unfold execTrainingTimeout
  apply KeepsOut.next
  apply Keeps.ite
  · apply State.linkDown_keeps
    apply State.count_keeps
    assumption
  · assumption

theorem execTickFrameTransmit_keeps {u0 : State} (k : Fin 4) (s : Sys2Proof.Machine.State) (h_s : Keeps u0 s) :
    KeepsOut u0 (execTickFrameTransmit k s) := by
  unfold execTickFrameTransmit
  apply KeepsOut.next
  apply State.transmit_keeps
  assumption

theorem execTickFrameReceived_keeps {u0 : State} (k : Fin 4) (marks : Bool) (mark : BitVec 32) (h0 : BitVec 64) (h1 : BitVec 64) (h2 : BitVec 64) (h3 : BitVec 64) (audio : List (BitVec 14 × Sys2Proof.LineBlock)) (bad : List (BitVec 14)) (late : List (BitVec 14)) (arrival : BitVec 32) (s : Sys2Proof.Machine.State) (h_s : Keeps u0 s) :
    KeepsOut u0 (execTickFrameReceived k marks mark h0 h1 h2 h3 audio bad late arrival s) := by
  unfold execTickFrameReceived
  apply KeepsOut.next
  apply State.receive_keeps
  assumption

theorem execErrorWindowEnd_keeps {u0 : State} (k : Fin 4) (s : Sys2Proof.Machine.State) (h_s : Keeps u0 s) :
    KeepsOut u0 (execErrorWindowEnd k s) := by
  unfold execErrorWindowEnd
  extract_lets l0 l1
  have h_l1 : Keeps u0 l1 := by
    unfold l1
    apply State.modLink_keeps
    apply State.setObj_keeps
    assumption
  clear_value l1
  apply KeepsOut.next
  apply Keeps.ite
  · assumption
  · apply Keeps.ite
    · apply State.linkUp_keeps
      assumption
    · assumption

theorem execCellReceived_keeps {u0 : State} (k : Fin 4) (bulk : Bool) (blocks : List (BitVec 64)) (s : Sys2Proof.Machine.State) (h_s : Keeps u0 s) :
    KeepsOut u0 (execCellReceived k bulk blocks s) := by
  unfold execCellReceived
  apply KeepsOut.next
  apply State.cell_keeps
  assumption

theorem State.retransmit_keeps {u0 : State} (s : Sys2Proof.Machine.State) (k : Fin 4) (bulk : Bool) (h_s : Keeps u0 s) :
    Keeps u0 (State.retransmit s k bulk) := by
  unfold State.retransmit
  extract_lets l0 l1
  split
  · assumption
  · apply Keeps.ite
    · assumption
    · apply Keeps.ite
      · apply State.linkEvent_keeps
        apply State.linkDown_keeps
        apply State.count_keeps
        assumption
      · apply State.count_keeps
        apply State.modLink_keeps
        assumption

theorem execCellRetransmit_keeps {u0 : State} (k : Fin 4) (bulk : Bool) (s : Sys2Proof.Machine.State) (h_s : Keeps u0 s) :
    KeepsOut u0 (execCellRetransmit k bulk s) := by
  unfold execCellRetransmit
  apply KeepsOut.next
  apply State.retransmit_keeps
  assumption

theorem execSleepReceived_keeps {u0 : State} (k : Fin 4) (s : Sys2Proof.Machine.State) (h_s : Keeps u0 s) :
    KeepsOut u0 (execSleepReceived k s) := by
  unfold execSleepReceived
  apply KeepsOut.next
  apply Keeps.ite
  · apply State.setLink_keeps
    assumption
  · assumption

theorem State.writeRun_keeps {u0 : State} (s : Sys2Proof.Machine.State) (r : Sys2Proof.RunWrite) (h_s : Keeps u0 s) :
    Keeps u0 (State.writeRun s r) := by
  unfold State.writeRun
  apply State.modLink_keeps
  assumption

theorem State.takeReserve_keeps {u0 : State} (s : Sys2Proof.Machine.State) (gen : Nat) (runs : List Sys2Proof.RunWrite) (plans : List Sys2Proof.PlanWrite) (h_s : Keeps u0 s) :
    Keeps u0 (State.takeReserve s gen runs plans) := by
  unfold State.takeReserve
  extract_lets l0 l1 l2
  have h_l0 : Keeps u0 l0 := by
    unfold l0
    apply foldl_keeps
    · intro x60 a61 h62
      apply State.writeRun_keeps
      assumption
    · assumption
  clear_value l0
  apply State.modNet_keeps
  assumption

theorem State.sendReservation_keeps {u0 : State} (s : Sys2Proof.Machine.State) (specs : List Sys2Proof.Machine.RunSpec) (h_s : Keeps u0 s) :
    Keeps u0 (State.sendReservation s specs) := by
  unfold State.sendReservation
  extract_lets l0 l1 l2 l3 l4 l5 l6 l7 l8 l9 l10 l11
  have h_l10 : Keeps u0 l10 := by
    unfold l10
    apply State.takeReserve_keeps
    exact Keeps.same (s := s) (by assumption) rfl
  clear_value l10
  have h_l11 : Keeps u0 l11 := by
    unfold l11
    apply State.modNet_keeps
    assumption
  clear_value l11
  apply foldl_keeps
  · intro x60 a61 h62
    apply State.sendDown_keeps
    apply foldl_keeps
    · intro x63 a64 h65
      apply State.sendDown_keeps
      assumption
    · assumption
  · assumption

theorem execHelloPeriod_keeps {u0 : State} (s : Sys2Proof.Machine.State) (h_s : Keeps u0 s) :
    KeepsOut u0 (execHelloPeriod s) := by
  unfold execHelloPeriod
  apply KeepsOut.next
  apply foldl_keeps
  · intro x0 a1 h2
    apply State.sendHello_keeps
    assumption
  · assumption

theorem State.leaveFabric_keeps {u0 : State} (s : Sys2Proof.Machine.State) (k : Fin 4) (h_s : Keeps u0 s) :
    Keeps u0 (State.leaveFabric s k) := by
  unfold State.leaveFabric
  extract_lets l0 l1
  have h_l0 : Keeps u0 l0 := by
    unfold l0
    apply State.modNet_keeps
    apply State.setObjs_keeps
    apply State.mute_keeps
    assumption
  clear_value l0
  exact Keeps.same (s := l0) (by assumption) rfl

theorem State.mergePoint_keeps {u0 : State} (s : Sys2Proof.Machine.State) (k : Fin 4) (h : Sys2Proof.Hello) (h_s : Keeps u0 s) :
    Keeps u0 (State.mergePoint s k h) := by
  unfold State.mergePoint
  apply Keeps.ite
  · apply State.setObj_keeps
    apply State.event_keeps
    apply State.writeLinkEnable_keeps
    assumption
  · apply State.leaveFabric_keeps
    assumption

theorem State.hello_keeps {u0 : State} (s : Sys2Proof.Machine.State) (k : Fin 4) (h : Sys2Proof.Hello) (h_s : Keeps u0 s) :
    Keeps u0 (State.hello s k h) := by
  unfold State.hello
  extract_lets l0 l1 l2 l3 l4 l5 l6
  have h_l1 : Keeps u0 l1 := by
    unfold l1
    apply State.modNet_keeps
    apply State.modLink_keeps
    assumption
  clear_value l1
  have h_l2 : Keeps u0 l2 := by
    unfold l2
    apply State.learnKey_keeps
    apply State.learnKey_keeps
    assumption
  clear_value l2
  have h_l3 : Keeps u0 l3 := by
    unfold l3
    apply Keeps.ite
    · apply State.setObj_keeps
      assumption
    · assumption
  clear_value l3
  have h_l4 : Keeps u0 l4 := by
    unfold l4
    apply Keeps.ite
    · apply State.setObj_keeps
      assumption
    · assumption
  clear_value l4
  apply Keeps.ite
  · apply Keeps.ite
    · apply State.mergePoint_keeps
      assumption
    · assumption
  · apply Keeps.ite
    · apply State.floodClaim_keeps
      assumption
    · apply Keeps.ite
      · apply State.modNet_keeps
        assumption
      · assumption

theorem execHello_keeps {u0 : State} (k : Fin 4) (h : Sys2Proof.Hello) (s : Sys2Proof.Machine.State) (h_s : Keeps u0 s) :
    KeepsOut u0 (execHello k h s) := by
  unfold execHello
  apply KeepsOut.next
  apply Keeps.ite
  · apply State.hello_keeps
    apply State.takeMsg_keeps
    assumption
  · assumption

theorem State.claimSelf_keeps {u0 : State} (s : Sys2Proof.Machine.State) (h_s : Keeps u0 s) :
    Keeps u0 (State.claimSelf s) := by
  unfold State.claimSelf
  extract_lets l0 l1
  have h_l1 : Keeps u0 l1 := by
    unfold l1
    apply State.modNet_keeps
    apply State.setObjs_keeps
    assumption
  clear_value l1
  apply State.event_keeps
  apply State.floodClaim_keeps
  assumption

theorem execElectionSettle_keeps {u0 : State} (s : Sys2Proof.Machine.State) (h_s : Keeps u0 s) :
    KeepsOut u0 (execElectionSettle s) := by
  unfold execElectionSettle
  apply KeepsOut.next
  apply Keeps.ite
  · apply State.claimSelf_keeps
    assumption
  · assumption

theorem State.claim_keeps {u0 : State} (s : Sys2Proof.Machine.State) (k : Fin 4) (src : Nat) (seq : Nat) (o : Sys2Proof.Machine.Key) (epoch : Nat) (h_s : Keeps u0 s) :
    Keeps u0 (State.claim s k src seq o epoch) := by
  unfold State.claim
  apply Keeps.ite
  · assumption
  · extract_lets l0
    have h_l0 : Keeps u0 l0 := by
      unfold l0
      apply State.flood_keeps
      apply State.learnKey_keeps
      apply State.noteFlood_keeps
      assumption
    clear_value l0
    apply Keeps.ite
    · apply State.floodClaim_keeps
      assumption
    · apply Keeps.ite
      · apply State.adoptOrigin_keeps
        apply State.leaveFabric_keeps
        assumption
      · apply Keeps.ite
        · apply State.adoptOrigin_keeps
          assumption
        · apply Keeps.ite
          · apply State.modNet_keeps
            apply State.setObj_keeps
            assumption
          · assumption

theorem execClaim_keeps {u0 : State} (k : Fin 4) (src : BitVec 12) (prio : BitVec 8) (uid : BitVec 64) (epoch : BitVec 32) (seq : BitVec 16) (s : Sys2Proof.Machine.State) (h_s : Keeps u0 s) :
    KeepsOut u0 (execClaim k src prio uid epoch seq s) := by
  unfold execClaim
  apply KeepsOut.next
  apply Keeps.ite
  · apply State.claim_keeps
    apply State.takeMsg_keeps
    assumption
  · assumption

theorem execLinkDown_keeps {u0 : State} (k : Fin 4) (src : BitVec 12) (addrA : BitVec 12) (portA : Fin 4) (addrB : BitVec 12) (portB : Fin 4) (f : BitVec 48) (seq : BitVec 16) (s : Sys2Proof.Machine.State) (h_s : Keeps u0 s) :
    KeepsOut u0 (execLinkDown k src addrA portA addrB portB f seq s) := by
  unfold execLinkDown
  extract_lets l0
  apply KeepsOut.next
  apply Keeps.ite
  · assumption
  apply Keeps.ite
  · apply State.takeMsg_keeps
    assumption
  · apply State.noteLost_keeps
    apply State.flood_keeps
    apply State.noteFlood_keeps
    apply State.takeMsg_keeps
    assumption

theorem State.topology_keeps {u0 : State} (s : Sys2Proof.Machine.State) (d : Sys2Proof.Machine.TopoDev) (h_s : Keeps u0 s) :
    Keeps u0 (State.topology s d) := by
  unfold State.topology
  apply Keeps.ite
  · apply State.assignAll_keeps
    apply State.modNet_keeps
    assumption
  · split
    · apply State.sendOn_keeps
      assumption
    · assumption

theorem execTopology_keeps {u0 : State} (uid : BitVec 64) (prio : BitVec 8) (addr : BitVec 16) (p0 : Sys2Proof.TopologyPort) (p1 : Sys2Proof.TopologyPort) (p2 : Sys2Proof.TopologyPort) (p3 : Sys2Proof.TopologyPort) (s : Sys2Proof.Machine.State) (h_s : Keeps u0 s) :
    KeepsOut u0 (execTopology uid prio addr p0 p1 p2 p3 s) := by
  unfold execTopology
  apply KeepsOut.next
  apply State.topology_keeps
  apply State.takeMsg_keeps
  assumption

theorem execAddress_keeps {u0 : State} (sender : BitVec 12) (uid : BitVec 64) (addr : BitVec 12) (x : BitVec 8) (y : BitVec 8) (coord : BitVec 16) (s : Sys2Proof.Machine.State) (h_s : Keeps u0 s) :
    KeepsOut u0 (execAddress sender uid addr x y coord s) := by
  unfold execAddress
  apply KeepsOut.next
  apply Keeps.ite
  · apply State.takeAddress_keeps
    apply State.takeMsg_keeps
    assumption
  · apply State.passOn_keeps
    apply State.takeMsg_keeps
    assumption

theorem execRoutes_keeps {u0 : State} (first : BitVec 12) (entries : List (BitVec 8)) (s : Sys2Proof.Machine.State) (h_s : Keeps u0 s) :
    KeepsOut u0 (execRoutes first entries s) := by
  unfold execRoutes
  apply KeepsOut.next
  apply State.modNet_keeps
  apply State.takeMsg_keeps
  assumption

theorem execReserve_keeps {u0 : State} (gen : BitVec 32) (runs : List Sys2Proof.RunWrite) (plans : List Sys2Proof.PlanWrite) (s : Sys2Proof.Machine.State) (h_s : Keeps u0 s) :
    KeepsOut u0 (execReserve gen runs plans s) := by
  unfold execReserve
  apply KeepsOut.next
  apply State.takeReserve_keeps
  apply State.takeMsg_keeps
  assumption

theorem execActivate_keeps {u0 : State} (gen : BitVec 32) (tick : BitVec 48) (s : Sys2Proof.Machine.State) (h_s : Keeps u0 s) :
    KeepsOut u0 (execActivate gen tick s) := by
  unfold execActivate
  apply KeepsOut.next
  apply Keeps.ite
  · apply State.modNet_keeps
    apply State.takeMsg_keeps
    assumption
  · apply State.takeMsg_keeps
    assumption

theorem execRepairInstall_keeps {u0 : State} (addrA : BitVec 12) (portA : Fin 4) (addrB : BitVec 12) (portB : Fin 4) (s : Sys2Proof.Machine.State) (h_s : Keeps u0 s) :
    KeepsOut u0 (execRepairInstall addrA portA addrB portB s) := by
  unfold execRepairInstall
  extract_lets l0 l1
  apply KeepsOut.next
  split
  · apply Keeps.ite
    · apply State.installPlan_keeps
      assumption
    · assumption
  · assumption

theorem execHoldoverElection_keeps {u0 : State} (s : Sys2Proof.Machine.State) (h_s : Keeps u0 s) :
    KeepsOut u0 (execHoldoverElection s) := by
  unfold execHoldoverElection
  apply KeepsOut.next
  apply Keeps.ite
  · apply State.modNet_keeps
    apply State.setObj_keeps
    assumption
  · assumption

theorem execTimeAligned_keeps {u0 : State} (s : Sys2Proof.Machine.State) (h_s : Keeps u0 s) :
    KeepsOut u0 (execTimeAligned s) := by
  unfold execTimeAligned
  apply KeepsOut.next
  apply Keeps.ite
  · apply State.setTime_keeps
    assumption
  · assumption

theorem execTimeAcquiring_keeps {u0 : State} (s : Sys2Proof.Machine.State) (h_s : Keeps u0 s) :
    KeepsOut u0 (execTimeAcquiring s) := by
  unfold execTimeAcquiring
  apply KeepsOut.next
  apply Keeps.ite
  · apply State.setTime_keeps
    assumption
  · assumption

theorem State.modXip_keeps {u0 : State} (s : Sys2Proof.Machine.State) (f : Sys2Proof.Machine.Xip → Sys2Proof.Machine.Xip) (h_s : Keeps u0 s) :
    Keeps u0 (State.modXip s f) := by
  unfold State.modXip
  exact Keeps.same (s := s) (by assumption) rfl

theorem State.noteFlash_keeps {u0 : State} (s : Sys2Proof.Machine.State) (a : Nat) (n : Nat) (h_s : Keeps u0 s) :
    Keeps u0 (State.noteFlash s a n) := by
  unfold State.noteFlash
  apply Keeps.ite
  · apply State.setObj_keeps
    assumption
  · assumption

theorem State.fetchFault_keeps {u0 : State} (s : Sys2Proof.Machine.State) (b : Nat) (h_s : Keeps u0 s) :
    Keeps u0 (State.fetchFault s b) := by
  unfold State.fetchFault
  extract_lets l0
  apply State.event_keeps
  apply State.setObj_keeps
  apply State.count_keeps
  assumption

theorem State.fillBlock_keeps {u0 : State} (s : Sys2Proof.Machine.State) (b : Nat) (h_s : Keeps u0 s) :
    Keeps u0 (State.fillBlock s b).2 := by
  unfold State.fillBlock
  extract_lets l0 l1 l2
  have h_l2 : Keeps u0 l2 := by
    unfold l2
    apply State.noteFlash_keeps
    apply State.count_keeps
    assumption
  clear_value l2
  apply Keeps.iteSnd
  · try dsimp only
    apply State.modXip_keeps
    assumption
  · try dsimp only
    apply State.fetchFault_keeps
    assumption

theorem State.flashProgram_keeps {u0 : State} (s : State) (a : Nat) (l : List Byte) (h_s : Keeps u0 s) : Keeps u0 (s.flashProgram a l) := by
  unfold State.flashProgram
  exact h_s.step (fun i => ⟨i.mem, foldl_wf _ _ (fun m b h => aPut_wf _ _ _ _ h) _ _ i.flash, i.objs, i.queue, i.log, i.record, i.events, i.evHist,
    i.history, i.fwQueue⟩) (fun _ x => x) rfl

theorem State.flashErase_keeps {u0 : State} (s : State) (a n : Nat) (h_s : Keeps u0 s) : Keeps u0 (s.flashErase a n) := by
  unfold State.flashErase
  exact h_s.step (fun i => ⟨i.mem, filter_wf _ _ _ i.flash, i.objs, i.queue, i.log, i.record, i.events, i.evHist,
    i.history, i.fwQueue⟩) (fun _ x => x) rfl

theorem State.dropLines_keeps {u0 : State} (s : Sys2Proof.Machine.State) (a : Nat) (n : Nat) (h_s : Keeps u0 s) :
    Keeps u0 (State.dropLines s a n) := by
  unfold State.dropLines
  apply State.modXip_keeps
  assumption

theorem State.flashDo_keeps {u0 : State} (s : Sys2Proof.Machine.State) (a : Nat) (op : Sys2Proof.Machine.FlashOp) (h_s : Keeps u0 s) :
    Keeps u0 (State.flashDo s a op) := by
  unfold State.flashDo
  split
  · apply State.dropLines_keeps
    apply State.flashProgram_keeps
    assumption
  · apply State.dropLines_keeps
    apply State.flashErase_keeps
    assumption
  · assumption

theorem State.rawDone_keeps {u0 : State} (s : Sys2Proof.Machine.State) (h_s : Keeps u0 s) :
    Keeps u0 (State.rawDone s) := by
  unfold State.rawDone
  split
  · assumption
  · apply State.modXip_keeps
    apply State.flashDo_keeps
    assumption

theorem State.lineOrFill_keeps {u0 : State} (s : Sys2Proof.Machine.State) (b : Nat) (h_s : Keeps u0 s) :
    Keeps u0 (State.lineOrFill s b).2 := by
  unfold State.lineOrFill
  split
  · try dsimp only
    apply State.modXip_keeps
    assumption
  · apply State.fillBlock_keeps
    assumption

theorem State.rawThenFill_keeps {u0 : State} (s : Sys2Proof.Machine.State) (h_s : Keeps u0 s) :
    Keeps u0 (State.rawThenFill s) := by
  unfold State.rawThenFill
  split
  · assumption
  · apply State.rawDone_keeps
    assumption
  · apply State.lineOrFill_keeps
    apply State.modXip_keeps
    apply State.rawDone_keeps
    assumption

theorem State.xipBlock_keeps {u0 : State} (s : Sys2Proof.Machine.State) (b : Nat) (h_s : Keeps u0 s) :
    Keeps u0 (State.xipBlock s b).2 := by
  unfold State.xipBlock
  apply Keeps.iteSnd
  · apply State.lineOrFill_keeps
    assumption
  · apply State.lineOrFill_keeps
    apply State.rawThenFill_keeps
    assumption

theorem State.xipBlocks_keeps {u0 : State} (n b : Nat) (s : State) (h_s : Keeps u0 s) : Keeps u0 (State.xipBlocks n b s).2 := by
  induction n generalizing b s with
  | zero => exact h_s
  | succ n ih =>
    unfold State.xipBlocks
    have h1 := State.xipBlock_keeps s b h_s
    split
    · rename_i t e; exact Keeps.ofSnd e h1
    · rename_i l t e
      have h2 := ih (b + 1) t (Keeps.ofSnd e h1)
      split
      · rename_i u e2; exact Keeps.ofSnd e2 h2
      · rename_i r u e2; exact Keeps.ofSnd e2 h2

theorem State.xipRead_keeps {u0 : State} (s : Sys2Proof.Machine.State) (o : Nat) (n : Nat) (h_s : Keeps u0 s) :
    Keeps u0 (State.xipRead s o n).2 := by
  unfold State.xipRead
  extract_lets l0
  have h_l0 : Keeps u0 l0.2 := by
    unfold l0
    apply State.xipBlocks_keeps
    assumption
  clear_value l0
  try dsimp only
  assumption

theorem execXipFill_keeps {u0 : State} (o : BitVec 26) (s : Sys2Proof.Machine.State) (h_s : Keeps u0 s) :
    KeepsOut u0 (execXipFill o s) := by
  unfold execXipFill
  apply KeepsOut.next
  apply Keeps.ite
  · assumption
  · apply Keeps.ite
    · apply State.modXip_keeps
      assumption
    · apply State.xipBlock_keeps
      assumption

theorem execXipLock_keeps {u0 : State} (s : Sys2Proof.Machine.State) (h_s : Keeps u0 s) :
    KeepsOut u0 (execXipLock s) := by
  unfold execXipLock
  apply KeepsOut.next
  apply State.modXip_keeps
  assumption

theorem execXipInvalidate_keeps {u0 : State} (s : Sys2Proof.Machine.State) (h_s : Keeps u0 s) :
    KeepsOut u0 (execXipInvalidate s) := by
  unfold execXipInvalidate
  apply KeepsOut.next
  apply State.modXip_keeps
  assumption

theorem execFlashRawCommand_keeps {u0 : State} (a : BitVec 32) (op : Sys2Proof.FlashCmd) (s : Sys2Proof.Machine.State) (h_s : Keeps u0 s) :
    KeepsOut u0 (execFlashRawCommand a op s) := by
  unfold execFlashRawCommand
  extract_lets l0
  apply KeepsOut.next
  apply Keeps.ite
  · assumption
  · apply State.modXip_keeps
    assumption

theorem execFlashProgramComplete_keeps {u0 : State} (s : Sys2Proof.Machine.State) (h_s : Keeps u0 s) :
    KeepsOut u0 (execFlashProgramComplete s) := by
  unfold execFlashProgramComplete
  apply KeepsOut.next
  apply Keeps.ite
  · assumption
  · apply State.rawThenFill_keeps
    assumption

theorem State.modChan_keeps {u0 : State} (s : Sys2Proof.Machine.State) (c : Fin 32) (f : Sys2Proof.Machine.DmaChan → Sys2Proof.Machine.DmaChan) (h_s : Keeps u0 s) :
    Keeps u0 (State.modChan s c f) := by
  unfold State.modChan
  exact Keeps.same (s := s) (by assumption) rfl

theorem State.modDma_keeps {u0 : State} (s : Sys2Proof.Machine.State) (f : Sys2Proof.Machine.Dma → Sys2Proof.Machine.Dma) (h_s : Keeps u0 s) :
    Keeps u0 (State.modDma s f) := by
  unfold State.modDma
  exact Keeps.same (s := s) (by assumption) rfl

theorem State.putDescWord_keeps {u0 : State} (s : Sys2Proof.Machine.State) (a : Nat) (v : Nat) (h_s : Keeps u0 s) :
    Keeps u0 (State.putDescWord s a v) := by
  unfold State.putDescWord
  apply Keeps.ite
  · apply State.count_keeps
    assumption
  · apply State.store_keeps
    assumption

theorem State.dmaEvent_keeps {u0 : State} (s : Sys2Proof.Machine.State) (c : Fin 32) (result : Nat) (kind : Nat) (h_s : Keeps u0 s) :
    Keeps u0 (State.dmaEvent s c result kind) := by
  unfold State.dmaEvent
  apply State.event_keeps
  assumption

theorem State.writeBack_keeps {u0 : State} (s : Sys2Proof.Machine.State) (c : Fin 32) (d : Sys2Proof.Machine.DmaDesc) (done : Bool) (result : Nat) (kind : Nat) (h_s : Keeps u0 s) :
    Keeps u0 (State.writeBack s c d done result kind) := by
  unfold State.writeBack
  extract_lets l0 l1 l2
  have h_l1 : Keeps u0 l1 := by
    unfold l1
    apply State.putDescWord_keeps
    apply State.putDescWord_keeps
    assumption
  clear_value l1
  have h_l2 : Keeps u0 l2 := by
    unfold l2
    apply State.setObj_keeps
    assumption
  clear_value l2
  apply Keeps.ite
  · apply State.dmaEvent_keeps
    assumption
  · assumption

theorem State.haltChan_keeps {u0 : State} (s : Sys2Proof.Machine.State) (c : Fin 32) (result : Nat) (h_s : Keeps u0 s) :
    Keeps u0 (State.haltChan s c result) := by
  unfold State.haltChan
  extract_lets l0
  have h_l0 : Keeps u0 l0 := by
    unfold l0
    split
    · apply State.putDescWord_keeps
      assumption
    · assumption
  clear_value l0
  apply State.dmaEvent_keeps
  apply State.count_keeps
  apply State.setObjs_keeps
  assumption

theorem State.goDesc_keeps {u0 : State} (s : Sys2Proof.Machine.State) (c : Fin 32) (a : Nat) (h_s : Keeps u0 s) :
    Keeps u0 (State.goDesc s c a) := by
  unfold State.goDesc
  apply State.setObjs_keeps
  apply State.modChan_keeps
  assumption

theorem State.sendAbort_keeps {u0 : State} (s : Sys2Proof.Machine.State) (c : Fin 32) (d : Sys2Proof.Machine.DmaDesc) (h_s : Keeps u0 s) :
    Keeps u0 (State.sendAbort s c d) := by
  unfold State.sendAbort
  extract_lets l0
  have h_l0 : Keeps u0 l0 := by
    unfold l0
    split
    · apply State.sendRouted_keeps
      assumption
    · assumption
  clear_value l0
  split
  · apply State.sendRouted_keeps
    assumption
  · assumption

theorem State.stopChan_keeps {u0 : State} (s : Sys2Proof.Machine.State) (c : Fin 32) (h_s : Keeps u0 s) :
    Keeps u0 (State.stopChan s c) := by
  unfold State.stopChan
  extract_lets l0 l1
  have h_l1 : Keeps u0 l1 := by
    unfold l1
    split
    · assumption
    · apply Keeps.ite
      · apply State.sendAbort_keeps
        apply State.writeBack_keeps
        assumption
      · apply Keeps.ite
        · apply State.sendAbort_keeps
          apply State.putDescWord_keeps
          assumption
        · assumption
  clear_value l1
  apply Keeps.ite
  · apply State.setObjs_keeps
    apply State.modChan_keeps
    assumption
  · assumption

theorem State.writeChannelHead_keeps {u0 : State} (s : Sys2Proof.Machine.State) (k : Sys2Proof.SessKey) (kport : Nat) (c : Fin 32) (words : List (BitVec 32)) (h_s : Keeps u0 s) :
    Keeps u0 (State.writeChannelHead s k kport c words) := by
  unfold State.writeChannelHead
  extract_lets l0
  apply State.writeReq_keeps
  · assumption
  · intro y60 h61
    apply State.setObjs_keeps
    apply State.goDesc_keeps
    apply State.modChan_keeps
    assumption

theorem State.ringBell_keeps {u0 : State} (s : Sys2Proof.Machine.State) (c : Fin 32) (h_s : Keeps u0 s) :
    Keeps u0 (State.ringBell s c) := by
  unfold State.ringBell
  apply Keeps.ite
  · apply State.setObj_keeps
    apply State.goDesc_keeps
    assumption
  · apply Keeps.ite
    · apply State.modChan_keeps
      assumption
    · assumption

theorem State.writeDoorbell_keeps {u0 : State} (s : Sys2Proof.Machine.State) (k : Sys2Proof.SessKey) (kport : Nat) (c : Fin 32) (words : List (BitVec 32)) (h_s : Keeps u0 s) :
    Keeps u0 (State.writeDoorbell s k kport c words) := by
  unfold State.writeDoorbell
  apply State.writeReq_keeps
  · assumption
  · intro y0 h1
    apply State.ringBell_keeps
    assumption

theorem State.writeChannelResume_keeps {u0 : State} (s : Sys2Proof.Machine.State) (k : Sys2Proof.SessKey) (kport : Nat) (c : Fin 32) (words : List (BitVec 32)) (h_s : Keeps u0 s) :
    Keeps u0 (State.writeChannelResume s k kport c words) := by
  unfold State.writeChannelResume
  apply State.writeReq_keeps
  · assumption
  · intro y0 h1
    apply State.setObj_keeps
    apply State.modChan_keeps
    assumption

theorem State.writeChannelStop_keeps {u0 : State} (s : Sys2Proof.Machine.State) (k : Sys2Proof.SessKey) (kport : Nat) (c : Fin 32) (words : List (BitVec 32)) (h_s : Keeps u0 s) :
    Keeps u0 (State.writeChannelStop s k kport c words) := by
  unfold State.writeChannelStop
  apply State.writeReq_keeps
  · assumption
  · intro y0 h1
    apply State.stopChan_keeps
    assumption

theorem State.writeChannelSetting_keeps {u0 : State} (s : Sys2Proof.Machine.State) (k : Sys2Proof.SessKey) (kport : Nat) (a : Nat) (c : Fin 32) (words : List (BitVec 32)) (h_s : Keeps u0 s) :
    Keeps u0 (State.writeChannelSetting s k kport a c words) := by
  unfold State.writeChannelSetting
  apply State.writeReq_keeps
  · assumption
  · intro y0 h1
    apply State.setObj_keeps
    assumption

theorem State.clearHsp_keeps {u0 : State} (s : Sys2Proof.Machine.State) (mask : Nat) (h_s : Keeps u0 s) :
    Keeps u0 (State.clearHsp s mask) := by
  unfold State.clearHsp
  exact Keeps.same (s := s) (by assumption) rfl

theorem State.writeXipCtrl_keeps {u0 : State} (s : Sys2Proof.Machine.State) (v : Nat) (h_s : Keeps u0 s) :
    Keeps u0 (State.writeXipCtrl s v) := by
  unfold State.writeXipCtrl
  apply State.modXip_keeps
  assumption

theorem State.regWrite_keeps {u0 : State} (s : Sys2Proof.Machine.State) (m : Sys2Proof.Machine.Master) (r : Sys2Proof.Machine.Reg) (v : Nat) (h_s : Keeps u0 s) :
    Keeps u0 (State.regWrite s m r v).2 := by
  unfold State.regWrite
  extract_lets l0
  have h_l0 : Keeps u0 l0.2 := by
    unfold l0
    try dsimp only
    exact Keeps.same (s := s) (by assumption) rfl
  clear_value l0
  split
  · assumption
  · assumption
  · assumption
  · assumption
  · assumption
  · assumption
  · assumption
  · assumption
  · apply Keeps.iteSnd
    · try dsimp only
      apply State.modEngine_keeps
      assumption
    · try dsimp only
      assumption
  · try dsimp only
    apply State.writeOrbShare_keeps
    assumption
  · try dsimp only
    apply State.clearHsp_keeps
    assumption
  · apply Keeps.iteSnd
    · try dsimp only
      apply State.writeXipCtrl_keeps
      assumption
    · try dsimp only
      assumption
  · apply Keeps.iteSnd
    · try dsimp only
      apply State.modXip_keeps
      assumption
    · try dsimp only
      assumption
  · apply Keeps.iteSnd
    · try dsimp only
      apply State.modXip_keeps
      assumption
    · try dsimp only
      assumption
  · extract_lets l76
    have h_l76 : Keeps u0 l76 := by
      unfold l76
      apply State.writeChannelSetting_keeps
      assumption
    clear_value l76
    try dsimp only
    apply State.writeChannelSetting_keeps
    assumption
  · try dsimp only
    apply State.writeChannelHead_keeps
    assumption
  · try dsimp only
    apply State.writeDoorbell_keeps
    assumption
  · extract_lets l141 l142 l143
    apply Keeps.iteSnd
    · try dsimp only
      apply Keeps.ite
      · apply State.putDesc_keeps
        assumption
      · assumption
    · try dsimp only
      assumption

theorem State.putRegWord_keeps {u0 : State} (s : Sys2Proof.Machine.State) (m : Sys2Proof.Machine.Master) (a : Nat) (v : Nat) (h_s : Keeps u0 s) :
    Keeps u0 (State.putRegWord s m a v).2 := by
  unfold State.putRegWord
  split
  · try dsimp only
    assumption
  · extract_lets l3 l4
    apply State.regWrite_keeps
    assumption

theorem State.putRegWords_keeps {u0 : State} (m : Master) (l : List (BitVec 32)) (a : Nat) (s : State) (h_s : Keeps u0 s) :
    Keeps u0 (State.putRegWords m l a s).2 := by
  induction l generalizing a s with
  | nil => exact h_s
  | cons w t ih =>
    unfold State.putRegWords
    have h1 := State.putRegWord_keeps s m a w.toNat h_s
    split
    · rename_i u e; exact ih _ _ (Keeps.ofSnd e h1)
    · exact h1

theorem State.noteRange_keeps {u0 : State} (s : Sys2Proof.Machine.State) (reader : Nat) (a : Nat) (n : Nat) (h_s : Keeps u0 s) :
    Keeps u0 (State.noteRange s reader a n) := by
  unfold State.noteRange
  extract_lets l0
  apply foldl_keeps
  · intro x60 a61 h62
    apply State.noteSoft_keeps
    assumption
  · apply foldl_keeps
    · intro x63 a64 h65
      apply State.noteBad_keeps
      assumption
    · assumption

theorem State.busRead_keeps {u0 : State} (s : Sys2Proof.Machine.State) (reader : Nat) (a : Nat) (n : Nat) (h_s : Keeps u0 s) :
    Keeps u0 (State.busRead s reader a n).2.2 := by
  unfold State.busRead
  split
  · try dsimp only
    try dsimp only
    assumption
  · split
    · try dsimp only
      try dsimp only
      assumption
    · split
      · try dsimp only
        try dsimp only
        assumption
      · split
        · split
          · try dsimp only
            try dsimp only
            assumption
          · split
            · rename_i v0 v1 heq
              have h_v1 : Keeps u0 v1 := Keeps.ofSnd heq (by
                apply State.xipRead_keeps
                assumption
                )
              try dsimp only
              try dsimp only
              assumption
            · rename_i v2 heq
              have h_v2 : Keeps u0 v2 := Keeps.ofSnd heq (by
                apply State.xipRead_keeps
                assumption
                )
              try dsimp only
              try dsimp only
              assumption
        · split
          · try dsimp only
            try dsimp only
            assumption
          · split
            · try dsimp only
              try dsimp only
              assumption
            · extract_lets l3
              have h_l3 : Keeps u0 l3 := by
                unfold l3
                apply State.noteRange_keeps
                assumption
              clear_value l3
              split
              · try dsimp only
                try dsimp only
                assumption
              · try dsimp only
                try dsimp only
                assumption

theorem State.busStore_keeps {u0 : State} (s : Sys2Proof.Machine.State) (a : Nat) (l : List Sys2Proof.Byte) (h_s : Keeps u0 s) :
    Keeps u0 (State.busStore s a l) := by
  unfold State.busStore
  extract_lets l0
  have h_l0 : Keeps u0 l0 := by
    unfold l0
    apply State.storeBytes_keeps
    assumption
  clear_value l0
  split
  · apply Keeps.ite
    · apply State.staleBank_keeps
      assumption
    · assumption
  · assumption

theorem State.uncheck_keeps {u0 : State} (s : Sys2Proof.Machine.State) (m : Sys2Proof.Machine.Master) (a : Nat) (n : Nat) (h_s : Keeps u0 s) :
    Keeps u0 (State.uncheck s m a n) := by
  unfold State.uncheck
  apply Keeps.ite
  · assumption
  · apply State.allEngines_keeps
    assumption

theorem State.busWrite_keeps {u0 : State} (s : Sys2Proof.Machine.State) (m : Sys2Proof.Machine.Master) (a : Nat) (l : List Sys2Proof.Byte) (h_s : Keeps u0 s) :
    Keeps u0 (State.busWrite s m a l).2 := by
  unfold State.busWrite
  extract_lets l0
  apply Keeps.iteSnd
  · try dsimp only
    assumption
  · apply Keeps.iteSnd
    · apply State.putRegWords_keeps
      assumption
    · apply Keeps.iteSnd
      · try dsimp only
        apply Keeps.ite
        · exact Keeps.same (s := s) (by assumption) rfl
        · assumption
      · apply Keeps.iteSnd
        · try dsimp only
          assumption
        · split
          · try dsimp only
            apply State.count_keeps
            assumption
          · try dsimp only
            apply State.uncheck_keeps
            apply State.busStore_keeps
            apply State.correct_keeps
            assumption

theorem execRegisterWrite_keeps {u0 : State} (loader : Bool) (a : BitVec 40) (v : BitVec 64) (s : Sys2Proof.Machine.State) (h_s : Keeps u0 s) :
    KeepsOut u0 (execRegisterWrite loader a v s) := by
  unfold execRegisterWrite
  extract_lets l0
  apply KeepsOut.next
  split
  · apply State.regWrite_keeps
    assumption
  · assumption

theorem execRangeRegisterWrite_keeps {u0 : State} (loader : Bool) (e : Fin 8) (k : Fin 4) (w : BitVec 64) (s : Sys2Proof.Machine.State) (h_s : Keeps u0 s) :
    KeepsOut u0 (execRangeRegisterWrite loader e k w s) := by
  unfold execRangeRegisterWrite
  apply KeepsOut.next
  apply State.regWrite_keeps
  assumption

theorem execHspStatusClear_keeps {u0 : State} (flags : BitVec 7) (s : Sys2Proof.Machine.State) (h_s : Keeps u0 s) :
    KeepsOut u0 (execHspStatusClear flags s) := by
  unfold execHspStatusClear
  apply KeepsOut.next
  apply State.clearHsp_keeps
  assumption

theorem execChannelHead_keeps {u0 : State} (src : Sys2Proof.Src) (c : Fin 32) (words : List (BitVec 32)) (s : Sys2Proof.Machine.State) (h_s : Keeps u0 s) :
    KeepsOut u0 (execChannelHead src c words s) := by
  unfold execChannelHead
  apply KeepsOut.next
  apply State.writeChannelHead_keeps
  assumption

theorem execDoorbell_keeps {u0 : State} (src : Sys2Proof.Src) (c : Fin 32) (words : List (BitVec 32)) (s : Sys2Proof.Machine.State) (h_s : Keeps u0 s) :
    KeepsOut u0 (execDoorbell src c words s) := by
  unfold execDoorbell
  apply KeepsOut.next
  apply State.writeDoorbell_keeps
  assumption

theorem execChannelResume_keeps {u0 : State} (src : Sys2Proof.Src) (c : Fin 32) (words : List (BitVec 32)) (s : Sys2Proof.Machine.State) (h_s : Keeps u0 s) :
    KeepsOut u0 (execChannelResume src c words s) := by
  unfold execChannelResume
  apply KeepsOut.next
  apply State.writeChannelResume_keeps
  assumption

theorem execChannelStop_keeps {u0 : State} (src : Sys2Proof.Src) (c : Fin 32) (words : List (BitVec 32)) (s : Sys2Proof.Machine.State) (h_s : Keeps u0 s) :
    KeepsOut u0 (execChannelStop src c words s) := by
  unfold execChannelStop
  apply KeepsOut.next
  apply State.writeChannelStop_keeps
  assumption

theorem State.dmaFail_keeps {u0 : State} (s : Sys2Proof.Machine.State) (c : Fin 32) (r : Sys2Proof.Machine.BusRes) (h_s : Keeps u0 s) :
    Keeps u0 (State.dmaFail s c r) := by
  unfold State.dmaFail
  split
  · assumption
  · apply State.haltChan_keeps
    assumption
  · apply State.haltChan_keeps
    assumption
  · apply State.haltChan_keeps
    assumption
  · apply State.haltChan_keeps
    assumption
  · apply State.haltChan_keeps
    assumption
  · apply Keeps.ite
    · apply State.modChan_keeps
      assumption
    · apply State.haltChan_keeps
      assumption

theorem State.grantCredit_keeps {u0 : State} (s : Sys2Proof.Machine.State) (c : Fin 32) (h_s : Keeps u0 s) :
    Keeps u0 (State.grantCredit s c) := by
  unfold State.grantCredit
  extract_lets l0 l1
  split
  · assumption
  · apply Keeps.ite
    · assumption
    · apply State.sendRouted_keeps
      apply State.modChan_keeps
      assumption

theorem State.takeDesc_keeps {u0 : State} (s : Sys2Proof.Machine.State) (c : Fin 32) (d : Sys2Proof.Machine.DmaDesc) (h_s : Keeps u0 s) :
    Keeps u0 (State.takeDesc s c d) := by
  unfold State.takeDesc
  extract_lets l0
  have h_l0 : Keeps u0 l0 := by
    unfold l0
    apply State.setObj_keeps
    apply State.modChan_keeps
    assumption
  clear_value l0
  apply Keeps.ite
  · assumption
  · apply Keeps.ite
    · apply State.haltChan_keeps
      assumption
    · apply State.grantCredit_keeps
      assumption

theorem State.takeStub_keeps {u0 : State} (s : Sys2Proof.Machine.State) (c : Fin 32) (h_s : Keeps u0 s) :
    Keeps u0 (State.takeStub s c) := by
  unfold State.takeStub
  extract_lets l0
  have h_l0 : Keeps u0 l0 := by
    unfold l0
    apply State.goDesc_keeps
    assumption
  clear_value l0
  apply Keeps.ite
  · apply State.modChan_keeps
    assumption
  · apply State.setObj_keeps
    assumption

theorem State.readDesc_keeps {u0 : State} (s : State) (c : Fin 32) (h_s : Keeps u0 s) : Keeps u0 (s.readDesc c) := by
  unfold State.readDesc
  apply Keeps.ite
  · exact h_s
  · apply Keeps.ite
    · exact State.haltChan_keeps _ _ _ h_s
    · have h := State.busRead_keeps s 4 (s.chanDesc c) 32 h_s
      generalize s.busRead 4 (s.chanDesc c) 32 = r at h ⊢
      obtain ⟨r, l, t⟩ := r
      split
      · rename_i e; cases e
        exact Keeps.ite (State.takeDesc_keeps _ _ _ h) (State.takeStub_keeps _ _ h)
      · rename_i e; cases e
        exact State.dmaFail_keeps _ _ _ h

theorem execDescriptorRead_keeps {u0 : State} (c : Fin 32) (s : Sys2Proof.Machine.State) (h_s : Keeps u0 s) :
    KeepsOut u0 (execDescriptorRead c s) := by
  unfold execDescriptorRead
  apply KeepsOut.next
  apply State.readDesc_keeps
  assumption

theorem State.setCredit_keeps {u0 : State} (s : Sys2Proof.Machine.State) (p : Nat × Nat) (n : Nat) (h_s : Keeps u0 s) :
    Keeps u0 (State.setCredit s p n) := by
  unfold State.setCredit
  extract_lets l0
  apply State.modDma_keeps
  assumption

theorem State.burstRead_keeps {u0 : State} (s : Sys2Proof.Machine.State) (x : Sys2Proof.Machine.DmaChan) (d : Sys2Proof.Machine.DmaDesc) (n : Nat) (h_s : Keeps u0 s) :
    Keeps u0 (State.burstRead s x d n).2.2 := by
  unfold State.burstRead
  split
  · apply State.busRead_keeps
    assumption
  · split
    · try dsimp only
      try dsimp only
      assumption
    · try dsimp only
      try dsimp only
      assumption

theorem State.sendBulk_keeps {u0 : State} (s : State) (p : Nat × Nat) (n : Nat) (l : List Byte) (h_s : Keeps u0 s) :
    Keeps u0 (s.sendBulk p n l) := by
  induction n generalizing s l with
  | zero => exact h_s
  | succ n ih => exact Keeps.ite h_s (ih _ _ (State.sendRouted_keeps _ _ _ h_s))

theorem State.burstWrite_keeps {u0 : State} (s : Sys2Proof.Machine.State) (x : Sys2Proof.Machine.DmaChan) (d : Sys2Proof.Machine.DmaDesc) (l : List Sys2Proof.Byte) (h_s : Keeps u0 s) :
    Keeps u0 (State.burstWrite s x d l).2 := by
  unfold State.burstWrite
  split
  · try dsimp only
    apply State.sendBulk_keeps
    apply State.setCredit_keeps
    assumption
  · apply State.busWrite_keeps
    assumption

theorem State.noteCollision_keeps {u0 : State} (s : Sys2Proof.Machine.State) (c : Fin 32) (k : Nat) (h_s : Keeps u0 s) :
    Keeps u0 (State.noteCollision s c k) := by
  unfold State.noteCollision
  apply Keeps.ite
  · assumption
  · apply State.count_keeps
    apply State.modChan_keeps
    assumption

theorem State.burstDone_keeps {u0 : State} (s : Sys2Proof.Machine.State) (c : Fin 32) (n : Nat) (h_s : Keeps u0 s) :
    Keeps u0 (State.burstDone s c n) := by
  unfold State.burstDone
  extract_lets l0 l1
  have h_l0 : Keeps u0 l0 := by
    unfold l0
    apply State.modChan_keeps
    assumption
  clear_value l0
  apply State.setObjs_keeps
  assumption

theorem State.burst_keeps {u0 : State} (s : State) (c : Fin 32) (h_s : Keeps u0 s) : Keeps u0 (s.burst c) := by
  unfold State.burst
  extract_lets x n
  split
  · exact h_s
  · rename_i d _
    have h := State.burstRead_keeps s x d n h_s
    generalize s.burstRead x d n = r at h ⊢
    obtain ⟨r, l, t⟩ := r
    split
    · rename_i e; cases e
      extract_lets a lost
      have h2 := State.burstWrite_keeps t x d (t.keepLost a l lost) h
      split
      · rename_i e2
        exact State.burstDone_keeps _ _ _ (State.noteCollision_keeps _ _ _ (Keeps.ofSnd e2 h2))
      · rename_i e2; exact State.dmaFail_keeps _ _ _ (Keeps.ofSnd e2 h2)
    · rename_i e; cases e
      exact State.dmaFail_keeps _ _ _ h

theorem execDmaBurst_keeps {u0 : State} (s : Sys2Proof.Machine.State) (h_s : Keeps u0 s) :
    KeepsOut u0 (execDmaBurst s) := by
  unfold execDmaBurst
  apply KeepsOut.next
  split
  · assumption
  · extract_lets l2
    apply State.burst_keeps
    apply State.modDma_keeps
    assumption

theorem execDescriptorWriteBack_keeps {u0 : State} (c : Fin 32) (s : Sys2Proof.Machine.State) (h_s : Keeps u0 s) :
    KeepsOut u0 (execDescriptorWriteBack c s) := by
  unfold execDescriptorWriteBack
  extract_lets l0
  apply KeepsOut.next
  split
  · assumption
  · apply Keeps.ite
    · assumption
    · extract_lets l62
      have h_l62 : Keeps u0 l62 := by
        unfold l62
        apply State.writeBack_keeps
        assumption
      clear_value l62
      apply Keeps.ite
      · apply State.setObj_keeps
        apply State.modChan_keeps
        assumption
      · apply State.goDesc_keeps
        assumption

theorem execBulkCredit_keeps {u0 : State} (dev : BitVec 12) (session : BitVec 8) (n : BitVec 32) (s : Sys2Proof.Machine.State) (h_s : Keeps u0 s) :
    KeepsOut u0 (execBulkCredit dev session n s) := by
  unfold execBulkCredit
  extract_lets l0
  apply KeepsOut.next
  apply State.setCredit_keeps
  apply State.takeMsg_keeps
  assumption

theorem State.discardBulk_keeps {u0 : State} (s : Sys2Proof.Machine.State) (dev : Nat) (session : Nat) (h_s : Keeps u0 s) :
    Keeps u0 (State.discardBulk s dev session) := by
  unfold State.discardBulk
  apply State.sendRouted_keeps
  apply Keeps.ite
  · apply State.count_keeps
    assumption
  · assumption

theorem execBulkData_keeps {u0 : State} (dev : BitVec 12) (session : BitVec 8) (data : List Sys2Proof.Byte) (s : Sys2Proof.Machine.State) (h_s : Keeps u0 s) :
    KeepsOut u0 (execBulkData dev session data s) := by
  unfold execBulkData
  extract_lets l0 l1 l2 l3
  have h_l0 : Keeps u0 l0 := by
    unfold l0
    apply State.takeMsg_keeps
    assumption
  clear_value l0
  apply KeepsOut.next
  apply Keeps.ite
  · apply State.grantCredit_keeps
    apply State.modChan_keeps
    assumption
  · apply State.discardBulk_keeps
    assumption

theorem State.remoteFail_keeps {u0 : State} (s : Sys2Proof.Machine.State) (c : Fin 32) (h_s : Keeps u0 s) :
    Keeps u0 (State.remoteFail s c) := by
  unfold State.remoteFail
  apply State.modChan_keeps
  apply State.haltChan_keeps
  assumption

theorem execBulkAbort_keeps {u0 : State} (dev : BitVec 12) (session : BitVec 8) (s : Sys2Proof.Machine.State) (h_s : Keeps u0 s) :
    KeepsOut u0 (execBulkAbort dev session s) := by
  unfold execBulkAbort
  extract_lets l0 l1
  have h_l0 : Keeps u0 l0 := by
    unfold l0
    apply State.setCredit_keeps
    apply State.takeMsg_keeps
    assumption
  clear_value l0
  apply KeepsOut.next
  apply foldl_keeps
  · intro x60 a61 h62
    apply State.remoteFail_keeps
    assumption
  · assumption

theorem execDmaRemoteTimeout_keeps {u0 : State} (c : Fin 32) (s : Sys2Proof.Machine.State) (h_s : Keeps u0 s) :
    KeepsOut u0 (execDmaRemoteTimeout c s) := by
  unfold execDmaRemoteTimeout
  apply KeepsOut.next
  split
  · assumption
  · apply Keeps.ite
    · apply State.sendAbort_keeps
      apply State.remoteFail_keeps
      assumption
    · assumption

theorem State.keepWrite_keeps {u0 : State} (s : Sys2Proof.Machine.State) (kind : Nat) (payload : List Sys2Proof.Byte) (h_s : Keeps u0 s) :
    Keeps u0 (State.keepWrite s kind payload) := by
  unfold State.keepWrite
  extract_lets l0 l1 l2
  apply State.count_keeps
  apply State.setObj_keeps
  apply State.storeBytes_keeps
  assumption

theorem execGapClose_keeps {u0 : State} (s : Sys2Proof.Machine.State) (h_s : Keeps u0 s) :
    KeepsOut u0 (execGapClose s) := by
  unfold execGapClose
  apply KeepsOut.next
  apply State.closeGap_keeps
  assumption

theorem State.freeUpTo_keeps {u0 : State} (s : Sys2Proof.Machine.State) (n : Nat) (h_s : Keeps u0 s) :
    Keeps u0 (State.freeUpTo s n) := by
  unfold State.freeUpTo
  exact Keeps.same (s := s) (by assumption) rfl

theorem State.writeLocusAck_keeps {u0 : State} (s : Sys2Proof.Machine.State) (k : Sys2Proof.SessKey) (kport : Nat) (words : List (BitVec 32)) (h_s : Keeps u0 s) :
    Keeps u0 (State.writeLocusAck s k kport words) := by
  unfold State.writeLocusAck
  extract_lets l0
  apply State.writeReq_keeps
  · assumption
  · intro y60 h61
    extract_lets l62
    have h_l62 : Keeps u0 l62 := by
      unfold l62
      apply State.setObj_keeps
      assumption
    clear_value l62
    apply State.closeGap_keeps
    apply Keeps.ite
    · apply State.freeUpTo_keeps
      assumption
    · assumption

theorem execLocusAckSeq_keeps {u0 : State} (src : Sys2Proof.Src) (words : List (BitVec 32)) (s : Sys2Proof.Machine.State) (h_s : Keeps u0 s) :
    KeepsOut u0 (execLocusAckSeq src words s) := by
  unfold execLocusAckSeq
  apply KeepsOut.next
  apply State.writeLocusAck_keeps
  assumption

theorem State.writeDrainEnable_keeps {u0 : State} (s : Sys2Proof.Machine.State) (k : Sys2Proof.SessKey) (kport : Nat) (words : List (BitVec 32)) (h_s : Keeps u0 s) :
    Keeps u0 (State.writeDrainEnable s k kport words) := by
  unfold State.writeDrainEnable
  extract_lets l0
  apply State.writeReq_keeps
  · assumption
  · intro y60 h61
    apply Keeps.ite
    · apply State.setObj_keeps
      assumption
    · extract_lets l62 l63 l64 l65
      have h_l62 : Keeps u0 l62 := by
        unfold l62
        apply State.stopChan_keeps
        assumption
      clear_value l62
      have h_l64 : Keeps u0 l64 := by
        unfold l64
        apply State.setObjs_keeps
        assumption
      clear_value l64
      apply Keeps.ite
      · assumption
      · exact Keeps.same (s := l64) (by assumption) rfl

theorem State.writeRetainMode_keeps {u0 : State} (s : Sys2Proof.Machine.State) (k : Sys2Proof.SessKey) (kport : Nat) (words : List (BitVec 32)) (h_s : Keeps u0 s) :
    Keeps u0 (State.writeRetainMode s k kport words) := by
  unfold State.writeRetainMode
  apply State.writeReq_keeps
  · assumption
  · intro y0 h1
    extract_lets l2 l3
    have h_l3 : Keeps u0 l3 := by
      unfold l3
      apply Keeps.ite
      · exact Keeps.same (s := y0) (by assumption) rfl
      · assumption
    clear_value l3
    apply State.setObj_keeps
    assumption

theorem execLocusDrainEnable_keeps {u0 : State} (src : Sys2Proof.Src) (words : List (BitVec 32)) (s : Sys2Proof.Machine.State) (h_s : Keeps u0 s) :
    KeepsOut u0 (execLocusDrainEnable src words s) := by
  unfold execLocusDrainEnable
  apply KeepsOut.next
  apply State.writeDrainEnable_keeps
  assumption

theorem State.writeRingBase_keeps {u0 : State} (s : Sys2Proof.Machine.State) (k : Sys2Proof.SessKey) (kport : Nat) (words : List (BitVec 32)) (h_s : Keeps u0 s) :
    Keeps u0 (State.writeRingBase s k kport words) := by
  unfold State.writeRingBase
  apply State.writeReq_keeps
  · assumption
  · intro y0 h1
    apply State.setObj_keeps
    assumption

theorem execLpddrRingBase_keeps {u0 : State} (src : Sys2Proof.Src) (words : List (BitVec 32)) (s : Sys2Proof.Machine.State) (h_s : Keeps u0 s) :
    KeepsOut u0 (execLpddrRingBase src words s) := by
  unfold execLpddrRingBase
  apply KeepsOut.next
  apply State.writeRingBase_keeps
  assumption

theorem State.writeRingLog2_keeps {u0 : State} (s : Sys2Proof.Machine.State) (k : Sys2Proof.SessKey) (kport : Nat) (words : List (BitVec 32)) (h_s : Keeps u0 s) :
    Keeps u0 (State.writeRingLog2 s k kport words) := by
  unfold State.writeRingLog2
  apply State.writeReq_keeps
  · assumption
  · intro y0 h1
    apply State.setObj_keeps
    assumption

theorem execLpddrRingLog2_keeps {u0 : State} (src : Sys2Proof.Src) (words : List (BitVec 32)) (s : Sys2Proof.Machine.State) (h_s : Keeps u0 s) :
    KeepsOut u0 (execLpddrRingLog2 src words s) := by
  unfold execLpddrRingLog2
  apply KeepsOut.next
  apply State.writeRingLog2_keeps
  assumption

theorem State.corruptRecord_keeps {u0 : State} (s : Sys2Proof.Machine.State) (a : Nat) (h_s : Keeps u0 s) :
    Keeps u0 (State.corruptRecord s a) := by
  unfold State.corruptRecord
  extract_lets l0
  apply State.event_keeps
  apply State.count_keeps
  apply State.storeBytes_keeps
  assumption

theorem State.haltDrain_keeps {u0 : State} (s : Sys2Proof.Machine.State) (h_s : Keeps u0 s) :
    Keeps u0 (State.haltDrain s) := by
  unfold State.haltDrain
  apply State.event_keeps
  apply State.count_keeps
  apply State.setObj_keeps
  assumption

theorem State.drainOne_keeps {u0 : State} (s : Sys2Proof.Machine.State) (h_s : Keeps u0 s) :
    Keeps u0 (State.drainOne s) := by
  unfold State.drainOne
  extract_lets l0 l1 l2 l3 l4
  have h_l2 : Keeps u0 l2 := by
    unfold l2
    split
    · apply State.corruptRecord_keeps
      apply State.event_keeps
      apply State.noteBad_keeps
      assumption
    · exact State.noteSofts_keeps _ _ _ h_s
  clear_value l2
  have h_l4 : Keeps u0 l4 := by
    unfold l4
    apply State.count_keeps
    apply State.storeBytes_keeps
    assumption
  clear_value l4
  apply Keeps.ite
  · assumption
  · apply Keeps.ite
    · apply State.haltDrain_keeps
      assumption
    · apply State.freeUpTo_keeps
      apply State.setObj_keeps
      assumption

theorem State.drainBurst_keeps {u0 : State} (n : Nat) (s : State) (h_s : Keeps u0 s) : Keeps u0 (State.drainBurst n s) := by
  induction n generalizing s with
  | zero => exact h_s
  | succ n ih => exact ih _ (State.drainOne_keeps _ h_s)

theorem execLocusDrain_keeps {u0 : State} (s : Sys2Proof.Machine.State) (h_s : Keeps u0 s) :
    KeepsOut u0 (execLocusDrain s) := by
  unfold execLocusDrain
  apply KeepsOut.next
  apply State.closeGap_keeps
  apply State.drainBurst_keeps
  assumption

theorem execLocusSummary_keeps {u0 : State} (s : Sys2Proof.Machine.State) (h_s : Keeps u0 s) :
    KeepsOut u0 (execLocusSummary s) := by
  unfold execLocusSummary
  extract_lets l0 l1 l2
  have h_l1 : Keeps u0 l1 := by
    unfold l1
    apply State.setObj_keeps
    apply State.keepWrite_keeps
    assumption
  clear_value l1
  apply KeepsOut.next
  apply Keeps.ite
  · exact Keeps.same (s := l1) (by assumption) rfl
  · assumption

theorem State.windowFrom_keeps {u0 : State} (f r n : Nat) (s : State) (h_s : Keeps u0 s) : Keeps u0 (State.windowFrom f r n s).2 := by
  induction f generalizing r n s with
  | zero => exact h_s
  | succ f ih =>
    unfold State.windowFrom
    apply Keeps.iteSnd
    · exact h_s
    · split
      · exact ih _ _ _ h_s
      · rename_i a e
        have h1 : Keeps u0 (match s.badIn a 32 with
          | some w => (s.noteBad 6 w).corruptRecord a
          | none => s.noteSofts a 32) := by
          split
          · exact State.corruptRecord_keeps _ _ (State.noteBad_keeps _ _ _ h_s)
          · exact State.noteSofts_keeps _ _ _ h_s
        exact Keeps.iteSnd (ih _ _ _ h1) (ih _ _ _ h1)

theorem State.locusWindow_keeps {u0 : State} (s : Sys2Proof.Machine.State) (h_s : Keeps u0 s) :
    Keeps u0 (State.locusWindow s).2 := by
  unfold State.locusWindow
  extract_lets l0
  apply State.windowFrom_keeps
  assumption

end Sys2Proof.Machine
end

