-- ==== Sys2Proof/Laws/KeepTiler.lean ====
section
/-! SUPPORT. What placement, loading and migration keep. -/
set_option Elab.async false
namespace Sys2Proof.Machine
open Sys2Proof

theorem State.setDiag_keeps {u0 : State} (s : Sys2Proof.Machine.State) (d : Sys2Proof.Machine.Diag) (h_s : Keeps u0 s) :
    Keeps u0 (State.setDiag s d) := by
  unfold State.setDiag
  apply State.setObjs_keeps
  assumption

theorem State.clearDiag_keeps {u0 : State} (s : Sys2Proof.Machine.State) (h_s : Keeps u0 s) :
    Keeps u0 (State.clearDiag s) := by
  unfold State.clearDiag
  apply State.setObjs_keeps
  assumption

theorem State.storeCode_keeps {u0 : State} (s : Sys2Proof.Machine.State) (e : Fin 8) (pos : Nat) (l : List Nat) (h_s : Keeps u0 s) :
    Keeps u0 (State.storeCode s e pos l) := by
  unfold State.storeCode
  apply foldl_keeps
  · intro x0 a1 h2
    apply State.store_keeps
    assumption
  · assumption

theorem State.codeBank_keeps {u0 : State} (s : Sys2Proof.Machine.State) (page : Nat) (h_s : Keeps u0 s) :
    Keeps u0 (State.codeBank s page) := by
  unfold State.codeBank
  split
  · apply Keeps.ite
    · apply State.codePage_keeps
      assumption
    · apply State.staleBank_keeps
      assumption
  · assumption

theorem State.makeStatic_keeps {u0 : State} (s : Sys2Proof.Machine.State) (a : Nat) (n : Nat) (h_s : Keeps u0 s) :
    Keeps u0 (State.makeStatic s a n) := by
  unfold State.makeStatic
  apply foldl_keeps
  · intro x0 a1 h2
    apply State.markStale_keeps
    exact Keeps.same (s := x0) (by assumption) rfl
  · assumption

theorem State.fillRange_keeps {u0 : State} (s : Sys2Proof.Machine.State) (a : Nat) (n : Nat) (init : List Sys2Proof.Byte) (h_s : Keeps u0 s) :
    Keeps u0 (State.fillRange s a n init) := by
  unfold State.fillRange
  apply State.storeBytes_keeps
  apply State.zeroRange_keeps
  assumption

theorem State.loadRegion_keeps {u0 : State} (s : Sys2Proof.Machine.State) (g : Sys2Proof.Machine.GImage) (r : Sys2Proof.Machine.PlacedRegion) (h_s : Keeps u0 s) :
    Keeps u0 (State.loadRegion s g r) := by
  unfold State.loadRegion
  split
  · assumption
  · extract_lets l2 l3
    have h_l3 : Keeps u0 l3 := by
      unfold l3
      apply foldl_keeps
      · intro x62 a63 h64
        apply State.fillRange_keeps
        assumption
      · assumption
    clear_value l3
    apply Keeps.ite
    · apply foldl_keeps
      · intro x65 a66 h67
        apply State.codeBank_keeps
        assumption
      · assumption
    · apply Keeps.ite
      · apply State.makeStatic_keeps
        assumption
      · assumption

theorem State.fillLine_keeps {u0 : State} (s : Sys2Proof.Machine.State) (x : Sys2Proof.Machine.GLine) (base : Nat) (xs : List Sys2Proof.Word) (h_s : Keeps u0 s) :
    Keeps u0 (State.fillLine s x base xs) := by
  unfold State.fillLine
  extract_lets l0 l1
  have h_l1 : Keeps u0 l1 := by
    unfold l1
    apply State.zeroRange_keeps
    assumption
  clear_value l1
  apply Keeps.ite
  · apply foldl_keeps
    · intro x60 a61 h62
      apply State.store_keeps
      assumption
    · assumption
  · apply foldl_keeps
    · intro x63 a64 h65
      apply State.store_keeps
      assumption
    · assumption

theorem State.loadLine_keeps {u0 : State} (s : Sys2Proof.Machine.State) (g : Sys2Proof.Machine.GImage) (p : Sys2Proof.Machine.PlacedLine) (h_s : Keeps u0 s) :
    Keeps u0 (State.loadLine s g p) := by
  unfold State.loadLine
  split
  · assumption
  · apply Keeps.ite
    · assumption
    · extract_lets l2
      have h_l2 : Keeps u0 l2 := by
        unfold l2
        apply State.fillLine_keeps
        assumption
      clear_value l2
      apply Keeps.ite
      · apply State.makeStatic_keeps
        assumption
      · assumption

theorem State.stageSpan_keeps {u0 : State} (s : Sys2Proof.Machine.State) (e : Fin 8) (q : Nat) (h_s : Keeps u0 s) :
    Keeps u0 (State.stageSpan s e q) := by
  unfold State.stageSpan
  extract_lets l0 l1
  apply Keeps.ite
  · assumption
  · apply foldl_keeps
    · intro x60 a61 h62
      apply State.stageGroup_keeps
      assumption
    · assumption

theorem State.placeLine_keeps {u0 : State} (s : Sys2Proof.Machine.State) (g : Sys2Proof.Machine.GImage) (all : List Sys2Proof.Machine.PlacedLine) (p : Sys2Proof.Machine.PlacedLine) (h_s : Keeps u0 s) :
    Keeps u0 (State.placeLine s g all p) := by
  unfold State.placeLine
  split
  · assumption
  · apply State.stageSpan_keeps
    apply State.setDesc_keeps
    apply State.loadLine_keeps
    assumption

theorem State.loadParam_keeps {u0 : State} (s : Sys2Proof.Machine.State) (g : Sys2Proof.Machine.GImage) (regions : List Sys2Proof.Machine.PlacedRegion) (lines : List Sys2Proof.Machine.PlacedLine) (p : Sys2Proof.Machine.GParam) (h_s : Keeps u0 s) :
    Keeps u0 (State.loadParam s g regions lines p) := by
  unfold State.loadParam
  apply Keeps.ite
  · assumption
  · split
    · assumption
    · extract_lets l3
      have h_l3 : ∀ y63, ∀ y64, Keeps u0 y64 → Keeps u0 (l3 y63 y64) := by
        intro y63 y64 hy64
        unfold l3
        apply foldl_keeps
        · intro x65 a66 h67
          apply State.store_keeps
          assumption
        · assumption
      clear_value l3
      apply Keeps.ite
      · apply h_l3
        apply h_l3
        assumption
      · apply h_l3
        assumption

theorem State.loadParams_keeps {u0 : State} (s : Sys2Proof.Machine.State) (g : Sys2Proof.Machine.Graph) (h_s : Keeps u0 s) :
    Keeps u0 (State.loadParams s g) := by
  unfold State.loadParams
  extract_lets l0 l1
  have h_l1 : Keeps u0 l1 := by
    unfold l1
    apply foldl_keeps
    · intro x60 a61 h62
      apply State.loadParam_keeps
      assumption
    · assumption
  clear_value l1
  exact Keeps.same (s := l1) (by assumption) rfl

theorem State.portObjects_keeps {u0 : State} (s : Sys2Proof.Machine.State) (g : Sys2Proof.Machine.Graph) (more : List Sys2Proof.Machine.PlacedBlock) (gone : List Nat) (mover : List (Nat × Nat)) (h_s : Keeps u0 s) :
    Keeps u0 (State.portObjects s g more gone mover) := by
  unfold State.portObjects
  apply foldl_keeps
  · intro x0 a1 h2
    extract_lets l3 l4
    apply State.setObj_keeps
    assumption
  · assumption

theorem State.reserve_keeps {u0 : State} (s : Sys2Proof.Machine.State) (port : Nat) (far : Nat) (h_s : Keeps u0 s) :
    Keeps u0 (State.reserve s port far) := by
  unfold State.reserve
  exact Keeps.same (s := s) (by assumption) rfl

theorem State.putPolicies_keeps {u0 : State} (s : Sys2Proof.Machine.State) (pol : List (Nat × Nat)) (h_s : Keeps u0 s) :
    Keeps u0 (State.putPolicies s pol) := by
  unfold State.putPolicies
  extract_lets l0
  have h_l0 : Keeps u0 l0 := by
    unfold l0
    apply State.setObjs_keeps
    assumption
  clear_value l0
  exact Keeps.same (s := l0) (by assumption) rfl

theorem State.placeObjects_keeps {u0 : State} (s : Sys2Proof.Machine.State) (g : Sys2Proof.Machine.Graph) (paths : List Nat) (port : Nat) (far : Nat) (h_s : Keeps u0 s) :
    Keeps u0 (State.placeObjects s g paths port far) := by
  unfold State.placeObjects
  extract_lets l0 l1 l2
  have h_l0 : Keeps u0 l0 := by
    unfold l0
    apply foldl_keeps
    · intro x60 a61 h62
      apply State.setObjs_keeps
      assumption
    · assumption
  clear_value l0
  have h_l1 : Keeps u0 l1 := by
    unfold l1
    apply foldl_keeps
    · intro x63 a64 h65
      apply State.setObj_keeps
      assumption
    · assumption
  clear_value l1
  have h_l2 : Keeps u0 l2 := by
    unfold l2
    apply foldl_keeps
    · intro x66 a67 h68
      apply State.setObj_keeps
      assumption
    · assumption
  clear_value l2
  apply State.reserve_keeps
  apply State.portObjects_keeps
  apply State.putPolicies_keeps
  assumption

theorem State.loadAreas_keeps {u0 : State} (s : Sys2Proof.Machine.State) (g : Sys2Proof.Machine.Graph) (h_s : Keeps u0 s) :
    Keeps u0 (State.loadAreas s g) := by
  unfold State.loadAreas
  extract_lets l0 l1 l2 l3 l4
  have h_l3 : Keeps u0 l3 := by
    unfold l3
    exact Keeps.same (s := s) (by assumption) rfl
  clear_value l3
  have h_l4 : Keeps u0 l4 := by
    unfold l4
    apply foldl_keeps
    · intro x60 a61 h62
      apply State.zeroRange_keeps
      assumption
    · assumption
  clear_value l4
  apply State.zeroRange_keeps
  assumption

theorem State.resetBank_keeps {u0 : State} (s : Sys2Proof.Machine.State) (e : Fin 8) (h_s : Keeps u0 s) :
    Keeps u0 (State.resetBank s e) := by
  unfold State.resetBank
  extract_lets l0
  have h_l0 : Keeps u0 l0 := by
    unfold l0
    apply foldl_keeps
    · intro x60 a61 h62
      apply State.codePage_keeps
      apply State.codePage_keeps
      assumption
    · assumption
  clear_value l0
  apply State.level_keeps
  apply State.modEngine_keeps
  assumption

theorem State.resetBanks_keeps {u0 : State} (s : Sys2Proof.Machine.State) (g : Sys2Proof.Machine.Graph) (h_s : Keeps u0 s) :
    Keeps u0 (State.resetBanks s g) := by
  unfold State.resetBanks
  apply foldl_keeps
  · intro x0 a1 h2
    apply Keeps.ite
    · assumption
    · apply State.resetBank_keeps
      assumption
  · assumption

theorem State.storeBlocks_keeps {u0 : State} (s : Sys2Proof.Machine.State) (g : Sys2Proof.Machine.Graph) (h_s : Keeps u0 s) :
    Keeps u0 (State.storeBlocks s g) := by
  unfold State.storeBlocks
  apply foldl_keeps
  · intro x0 a1 h2
    apply Keeps.ite
    · assumption
    · apply State.storeCode_keeps
      assumption
  · assumption

theorem State.loadPrograms_keeps {u0 : State} (s : Sys2Proof.Machine.State) (g : Sys2Proof.Machine.Graph) (p : Sys2Proof.Machine.Plan) (h_s : Keeps u0 s) :
    Keeps u0 (State.loadPrograms s g p) := by
  unfold State.loadPrograms
  extract_lets l0
  have h_l0 : Keeps u0 l0 := by
    unfold l0
    apply foldl_keeps
    · intro x60 a61 h62
      apply State.modEngine_keeps
      assumption
    · assumption
  clear_value l0
  apply State.storeBlocks_keeps
  apply State.resetBanks_keeps
  assumption

theorem State.commitRestore_keeps {u0 : State} (s : Sys2Proof.Machine.State) (h_s : Keeps u0 s) :
    Keeps u0 (State.commitRestore s) := by
  unfold State.commitRestore
  apply Keeps.ite
  · apply State.commitArrives_keeps
    apply State.commitReq_keeps
    assumption
  · assumption

theorem State.restoreParams_keeps {u0 : State} (s : Sys2Proof.Machine.State) (g : Sys2Proof.Machine.Graph) (h_s : Keeps u0 s) :
    Keeps u0 (State.restoreParams s g) := by
  unfold State.restoreParams
  split
  · assumption
  · apply Keeps.ite
    · apply State.commitRestore_keeps
      apply foldl_keeps
      · intro x4 a5 h6
        split
        · apply Keeps.ite
          · assumption
          · apply State.writeParam_keeps
            assumption
        · assumption
      · assumption
    · assumption

theorem State.loadGraph_keeps {u0 : State} (s : Sys2Proof.Machine.State) (g : Sys2Proof.Machine.Graph) (p : Sys2Proof.Machine.Plan) (h_s : Keeps u0 s) :
    Keeps u0 (State.loadGraph s g p) := by
  unfold State.loadGraph
  extract_lets l0 l1 l2 l3 l4 l5 l6 l7
  have h_l1 : Keeps u0 l1 := by
    unfold l1
    apply State.loadAreas_keeps
    apply State.loadPrograms_keeps
    assumption
  clear_value l1
  have h_l2 : Keeps u0 l2 := by
    unfold l2
    apply foldl_keeps
    · intro x60 a61 h62
      apply State.loadRegion_keeps
      assumption
    · assumption
  clear_value l2
  have h_l3 : Keeps u0 l3 := by
    unfold l3
    apply foldl_keeps
    · intro x63 a64 h65
      apply State.placeLine_keeps
      assumption
    · assumption
  clear_value l3
  have h_l4 : Keeps u0 l4 := by
    unfold l4
    apply State.writeOrbShare_keeps
    apply State.loadParams_keeps
    assumption
  clear_value l4
  have h_l6 : Keeps u0 l6 := by
    unfold l6
    exact Keeps.same (s := l4) (by assumption) rfl
  clear_value l6
  have h_l7 : Keeps u0 l7 := by
    unfold l7
    apply State.count_keeps
    apply State.setObjs_keeps
    apply State.placeObjects_keeps
    assumption
  clear_value l7
  apply State.restoreParams_keeps
  apply foldl_keeps
  · intro x66 a67 h68
    apply State.makeStatic_keeps
    assumption
  · assumption

theorem State.dropSets_keeps {u0 : State} (s : Sys2Proof.Machine.State) (h_s : Keeps u0 s) :
    Keeps u0 (State.dropSets s) := by
  unfold State.dropSets
  extract_lets l0 l1
  have h_l0 : Keeps u0 l0 := by
    unfold l0
    apply foldl_keeps
    · intro x60 a61 h62
      apply State.abortSet_keeps
      assumption
    · assumption
  clear_value l0
  have h_l1 : Keeps u0 l1 := by
    unfold l1
    apply foldl_keeps
    · intro x63 a64 h65
      apply State.dropSet_keeps
      assumption
    · assumption
  clear_value l1
  apply State.allEngines_keeps
  exact Keeps.same (s := l1) (by assumption) rfl

theorem State.clearPlace_keeps {u0 : State} (s : Sys2Proof.Machine.State) (g : Sys2Proof.Machine.Graph) (h_s : Keeps u0 s) :
    Keeps u0 (State.clearPlace s g) := by
  unfold State.clearPlace
  extract_lets l0 l1 l2 l3
  have h_l0 : Keeps u0 l0 := by
    unfold l0
    apply foldl_keeps
    · intro x60 a61 h62
      apply State.setObjs_keeps
      assumption
    · assumption
  clear_value l0
  have h_l1 : Keeps u0 l1 := by
    unfold l1
    apply foldl_keeps
    · intro x63 a64 h65
      apply State.setObj_keeps
      assumption
    · assumption
  clear_value l1
  have h_l2 : Keeps u0 l2 := by
    unfold l2
    apply foldl_keeps
    · intro x66 a67 h68
      apply State.setObj_keeps
      assumption
    · assumption
  clear_value l2
  have h_l3 : Keeps u0 l3 := by
    unfold l3
    apply foldl_keeps
    · intro x69 a70 h71
      apply State.setObj_keeps
      assumption
    · assumption
  clear_value l3
  apply State.reserve_keeps
  assumption

theorem State.dropGraph_keeps {u0 : State} (s : Sys2Proof.Machine.State) (h_s : Keeps u0 s) :
    Keeps u0 (State.dropGraph s) := by
  unfold State.dropGraph
  split
  · assumption
  · extract_lets l2 l3 l4 l5 l6 l7 l8
    have h_l2 : Keeps u0 l2 := by
      unfold l2
      apply State.clearPlace_keeps
      apply State.allEngines_keeps
      apply State.dropSets_keeps
      assumption
    clear_value l2
    have h_l6 : Keeps u0 l6 := by
      unfold l6
      exact Keeps.same (s := l2) (by assumption) rfl
    clear_value l6
    have h_l7 : Keeps u0 l7 := by
      unfold l7
      apply State.writeOrbShare_keeps
      apply State.setStale_keeps
      assumption
    clear_value l7
    have h_l8 : Keeps u0 l8 := by
      unfold l8
      apply State.setObj_keeps
      apply State.setObj_keeps
      assumption
    clear_value l8
    apply Keeps.ite
    · apply State.mute_keeps
      assumption
    · assumption

theorem State.setRange_keeps {u0 : State} (s : Sys2Proof.Machine.State) (e : Nat) (k : Fin 4) (w : BitVec 64) (h_s : Keeps u0 s) :
    Keeps u0 (State.setRange s e k w) := by
  unfold State.setRange
  apply State.modEngine_keeps
  assumption

theorem State.setLength_keeps {u0 : State} (s : Sys2Proof.Machine.State) (e : Nat) (n : Nat) (h_s : Keeps u0 s) :
    Keeps u0 (State.setLength s e n) := by
  unfold State.setLength
  apply State.modEngine_keeps
  assumption

theorem State.copyRange_keeps {u0 : State} (s : Sys2Proof.Machine.State) (src : Nat) (dst : Nat) (n : Nat) (h_s : Keeps u0 s) :
    Keeps u0 (State.copyRange s src dst n) := by
  unfold State.copyRange
  apply State.storeBytes_keeps
  exact State.noteSofts_keeps _ _ _ h_s

theorem State.copyBank_keeps {u0 : State} (s : Sys2Proof.Machine.State) (a : Sys2Proof.Machine.PlacedRegion) (b : Sys2Proof.Machine.PlacedRegion) (h_s : Keeps u0 s) :
    Keeps u0 (State.copyBank s a b) := by
  unfold State.copyBank
  extract_lets l0 l1 l2 l3 l4 l5
  have h_l2 : ∀ y60, ∀ y61, Keeps u0 y61 → Keeps u0 (l2 y60 y61) := by
    intro y60 y61 hy61
    unfold l2
    apply State.copyRange_keeps
    assumption
  clear_value l2
  have h_l5 : Keeps u0 l5 := by
    unfold l5
    apply State.modEngine_keeps
    apply h_l2
    apply h_l2
    assumption
  clear_value l5
  apply foldl_keeps
  · intro x62 a63 h64
    apply State.codeBank_keeps
    assumption
  · assumption

theorem State.moveStorage_keeps {u0 : State} (s : Sys2Proof.Machine.State) (g : Sys2Proof.Machine.GImage) (p : Sys2Proof.Machine.PlacedLine) (h_s : Keeps u0 s) :
    Keeps u0 (State.moveStorage s g p) := by
  unfold State.moveStorage
  split
  · assumption
  · apply Keeps.ite
    · apply State.loadLine_keeps
      assumption
    · apply Keeps.ite
      · assumption
      · apply State.fillLine_keeps
        assumption

theorem State.moveLine_keeps {u0 : State} (s : Sys2Proof.Machine.State) (g : Sys2Proof.Machine.Graph) (all : List Sys2Proof.Machine.PlacedLine) (p : Sys2Proof.Machine.PlacedLine) (h_s : Keeps u0 s) :
    Keeps u0 (State.moveLine s g all p) := by
  unfold State.moveLine
  split
  · extract_lets l1
    split
    · apply State.stageSpan_keeps
      apply State.setDesc_keeps
      apply State.moveStorage_keeps
      assumption
    · assumption
  · extract_lets l64
    apply State.stageSpan_keeps
    apply State.setDesc_keeps
    apply State.moveStorage_keeps
    assumption

theorem State.moveRegion_keeps {u0 : State} (s : Sys2Proof.Machine.State) (g : Sys2Proof.Machine.Graph) (r : Sys2Proof.Machine.PlacedRegion) (h_s : Keeps u0 s) :
    Keeps u0 (State.moveRegion s g r) := by
  unfold State.moveRegion
  extract_lets l0
  have h_l0 : Keeps u0 l0 := by
    unfold l0
    apply State.loadRegion_keeps
    assumption
  clear_value l0
  split
  · assumption
  · apply Keeps.ite
    · apply State.copyBank_keeps
      assumption
    · assumption

theorem State.mirrorQueue_keeps {u0 : State} (s : Sys2Proof.Machine.State) (src : Nat) (dst : Nat) (n : Nat) (h_s : Keeps u0 s) :
    Keeps u0 (State.mirrorQueue s src dst n) := by
  unfold State.mirrorQueue
  exact Keeps.same (s := s) (by assumption) rfl

theorem State.moveParams_keeps {u0 : State} (s : Sys2Proof.Machine.State) (g : Sys2Proof.Machine.Graph) (m : Sys2Proof.Machine.Migration) (h_s : Keeps u0 s) :
    Keeps u0 (State.moveParams s g m) := by
  unfold State.moveParams
  apply foldl_keeps
  · intro x0 a1 h2
    split
    · split
      · assumption
      · extract_lets l6
        have h_l6 : Keeps u0 l6 := by
          unfold l6
          exact Keeps.same (s := x0) (by assumption) rfl
        clear_value l6
        apply Keeps.ite
        · apply State.mirrorQueue_keeps
          apply State.copyRange_keeps
          assumption
        · assumption
    · assumption
  · assumption

theorem State.remoteParams_keeps {u0 : State} (s : Sys2Proof.Machine.State) (g : Sys2Proof.Machine.Graph) (m : Sys2Proof.Machine.Migration) (h_s : Keeps u0 s) :
    Keeps u0 (State.remoteParams s g m) := by
  unfold State.remoteParams
  apply foldl_keeps
  · intro x0 a1 h2
    split
    · assumption
    · apply foldl_keeps
      · intro x6 a7 h8
        extract_lets l9 l10
        have h_l9 : Keeps u0 l9.2 := by
          unfold l9
          apply State.free_keeps
          assumption
        clear_value l9
        have h_l10 : ∀ y69, ∀ y70, Keeps u0 y70 → Keeps u0 (l10 y69 y70) := by
          intro y69 y70 hy70
          unfold l10
          apply State.store_keeps
          assumption
        clear_value l10
        apply Keeps.ite
        · apply h_l10
          apply h_l10
          assumption
        · apply h_l10
          assumption
      · assumption
  · assumption

theorem State.mirrorSets_keeps {u0 : State} (s : Sys2Proof.Machine.State) (g : Sys2Proof.Machine.Graph) (m : Sys2Proof.Machine.Migration) (h_s : Keeps u0 s) :
    Keeps u0 (State.mirrorSets s g m) := by
  unfold State.mirrorSets
  exact Keeps.same (s := s) (by assumption) rfl

theorem State.portsNow_keeps {u0 : State} (s : Sys2Proof.Machine.State) (g : Sys2Proof.Machine.Graph) (h_s : Keeps u0 s) :
    Keeps u0 (State.portsNow s g) := by
  unfold State.portsNow
  split
  · apply State.portObjects_keeps
    assumption
  · apply State.portObjects_keeps
    assumption

theorem State.levelMove_keeps {u0 : State} (s : Sys2Proof.Machine.State) (g : Sys2Proof.Machine.Graph) (m : Sys2Proof.Machine.Migration) (h_s : Keeps u0 s) :
    Keeps u0 (State.levelMove s g m) := by
  unfold State.levelMove
  extract_lets l0
  have h_l0 : Keeps u0 l0 := by
    unfold l0
    apply Keeps.ite
    · apply State.level_keeps
      assumption
    · assumption
  clear_value l0
  apply Keeps.ite
  · apply State.resetBank_keeps
    assumption
  · apply State.level_keeps
    assumption

theorem State.loadMove_keeps {u0 : State} (s : Sys2Proof.Machine.State) (g : Sys2Proof.Machine.Graph) (m : Sys2Proof.Machine.Migration) (mv : Sys2Proof.Machine.Move) (h_s : Keeps u0 s) :
    Keeps u0 (State.loadMove s g m mv) := by
  unfold State.loadMove
  extract_lets l0 l1 l2 l3 l4 l5 l6 l7
  have h_l1 : Keeps u0 l1 := by
    unfold l1
    apply State.levelMove_keeps
    assumption
  clear_value l1
  have h_l2 : Keeps u0 l2 := by
    unfold l2
    exact Keeps.same (s := l1) (by assumption) rfl
  clear_value l2
  have h_l3 : Keeps u0 l3 := by
    unfold l3
    apply foldl_keeps
    · intro x60 a61 h62
      apply State.moveRegion_keeps
      assumption
    · assumption
  clear_value l3
  have h_l4 : Keeps u0 l4 := by
    unfold l4
    apply foldl_keeps
    · intro x63 a64 h65
      apply State.moveLine_keeps
      assumption
    · assumption
  clear_value l4
  have h_l5 : Keeps u0 l5 := by
    unfold l5
    apply State.setRange_keeps
    assumption
  clear_value l5
  have h_l6 : Keeps u0 l6 := by
    unfold l6
    apply Keeps.ite
    · apply State.modEngine_keeps
      assumption
    · assumption
  clear_value l6
  have h_l7 : Keeps u0 l7 := by
    unfold l7
    apply Keeps.ite
    · apply State.mirrorSets_keeps
      apply State.moveParams_keeps
      assumption
    · apply State.remoteParams_keeps
      assumption
  clear_value l7
  apply State.portsNow_keeps
  apply State.reserve_keeps
  apply State.writeOrbShare_keeps
  assumption

theorem State.setMig_keeps {u0 : State} (s : Sys2Proof.Machine.State) (st : Nat) (m : Sys2Proof.Machine.Migration) (h_s : Keeps u0 s) :
    Keeps u0 (State.setMig s st m) := by
  unfold State.setMig
  apply State.setObj_keeps
  exact Keeps.same (s := s) (by assumption) rfl

theorem State.unmirror_keeps {u0 : State} (s : Sys2Proof.Machine.State) (m : Sys2Proof.Machine.Migration) (h_s : Keeps u0 s) :
    Keeps u0 (State.unmirror s m) := by
  unfold State.unmirror
  exact Keeps.same (s := s) (by assumption) rfl

theorem State.eraseCode_keeps {u0 : State} (s : Sys2Proof.Machine.State) (l : List Sys2Proof.Machine.PlacedBlock) (h_s : Keeps u0 s) :
    Keeps u0 (State.eraseCode s l) := by
  unfold State.eraseCode
  apply foldl_keeps
  · intro x0 a1 h2
    apply State.storeCode_keeps
    assumption
  · assumption

theorem State.removeBlocks_keeps {u0 : State} (s : Sys2Proof.Machine.State) (e : Nat) (l : List Sys2Proof.Machine.PlacedBlock) (h_s : Keeps u0 s) :
    Keeps u0 (State.removeBlocks s e l) := by
  unfold State.removeBlocks
  apply Keeps.ite
  · assumption
  · apply Keeps.ite
    · apply State.setRange_keeps
      apply State.eraseCode_keeps
      assumption
    · extract_lets l0 l1 l2 l3
      have h_l1 : Keeps u0 l1 := by
        unfold l1
        apply State.setRange_keeps
        assumption
      clear_value l1
      have h_l2 : Keeps u0 l2 := by
        unfold l2
        apply Keeps.ite
        · assumption
        · apply State.setRange_keeps
          assumption
      clear_value l2
      exact Keeps.same (s := l2) (by assumption) rfl

theorem State.clearBlocks_keeps {u0 : State} (s : Sys2Proof.Machine.State) (h_s : Keeps u0 s) :
    Keeps u0 (State.clearBlocks s) := by
  unfold State.clearBlocks
  apply foldl_keeps
  · intro x0 a1 h2
    apply Keeps.ite
    · extract_lets l3 l4 l5 l6
      have h_l5 : Keeps u0 l5 := by
        unfold l5
        apply State.setRange_keeps
        apply State.eraseCode_keeps
        assumption
      clear_value l5
      exact Keeps.same (s := l5) (by assumption) rfl
    · assumption
  · assumption

theorem State.landBlocks_keeps {u0 : State} (s : Sys2Proof.Machine.State) (h_s : Keeps u0 s) :
    Keeps u0 (State.landBlocks s) := by
  unfold State.landBlocks
  split
  · extract_lets l3 l4 l5 l6
    have h_l5 : Keeps u0 l5 := by
      unfold l5
      apply State.setLength_keeps
      apply State.setRange_keeps
      apply foldl_keeps
      · intro x63 a64 h65
        apply State.storeCode_keeps
        assumption
      · assumption
    clear_value l5
    apply Keeps.ite
    · apply State.modEngine_keeps
      exact Keeps.same (s := l5) (by assumption) rfl
    · assumption
  · assumption

theorem State.unstatic_keeps {u0 : State} (s : Sys2Proof.Machine.State) (pages : List Nat) (h_s : Keeps u0 s) :
    Keeps u0 (State.unstatic s pages) := by
  unfold State.unstatic
  apply State.setStale_keeps
  exact Keeps.same (s := s) (by assumption) rfl

theorem State.freeLines_keeps {u0 : State} (s : Sys2Proof.Machine.State) (g : Sys2Proof.Machine.GImage) (l : List Sys2Proof.Machine.PlacedLine) (h_s : Keeps u0 s) :
    Keeps u0 (State.freeLines s g l) := by
  unfold State.freeLines
  extract_lets l0
  apply State.unstatic_keeps
  apply foldl_keeps
  · intro x60 a61 h62
    apply State.setDesc_keeps
    assumption
  · assumption

theorem State.freePages_keeps {u0 : State} (s : Sys2Proof.Machine.State) (l : List Sys2Proof.Machine.PlacedRegion) (h_s : Keeps u0 s) :
    Keeps u0 (State.freePages s l) := by
  unfold State.freePages
  apply State.unstatic_keeps
  assumption

theorem State.reshare_keeps {u0 : State} (s : Sys2Proof.Machine.State) (g : Sys2Proof.Machine.Graph) (h_s : Keeps u0 s) :
    Keeps u0 (State.reshare s g) := by
  unfold State.reshare
  extract_lets l0 l1
  apply State.portObjects_keeps
  apply State.reserve_keeps
  apply State.writeOrbShare_keeps
  assumption

theorem State.unmirrorSets_keeps {u0 : State} (s : Sys2Proof.Machine.State) (m : Sys2Proof.Machine.Migration) (h_s : Keeps u0 s) :
    Keeps u0 (State.unmirrorSets s m) := by
  unfold State.unmirrorSets
  extract_lets l0 l1
  apply State.modEngine_keeps
  exact Keeps.same (s := s) (by assumption) rfl

theorem State.noteStay_keeps {u0 : State} (s : Sys2Proof.Machine.State) (g : Sys2Proof.Machine.Graph) (m : Sys2Proof.Machine.Migration) (h_s : Keeps u0 s) :
    Keeps u0 (State.noteStay s g m) := by
  unfold State.noteStay
  apply Keeps.ite
  · apply State.setObj_keeps
    assumption
  · assumption

theorem State.abandon_keeps {u0 : State} (s : Sys2Proof.Machine.State) (cause : Nat) (h_s : Keeps u0 s) :
    Keeps u0 (State.abandon s cause) := by
  unfold State.abandon
  split
  · extract_lets l2 l3 l4 l5 l6 l7 l8 l9
    have h_l4 : Keeps u0 l4 := by
      unfold l4
      apply State.unmirrorSets_keeps
      apply State.unmirror_keeps
      apply State.freePages_keeps
      apply State.freeLines_keeps
      assumption
    clear_value l4
    have h_l5 : Keeps u0 l5 := by
      unfold l5
      apply Keeps.ite
      · assumption
      · apply State.reshare_keeps
        apply State.setLength_keeps
        apply Keeps.ite
        · apply State.setRange_keeps
          assumption
        · apply State.removeBlocks_keeps
          assumption
    clear_value l5
    have h_l6 : Keeps u0 l6 := by
      unfold l6
      apply Keeps.ite
      · assumption
      · apply State.setLength_keeps
        apply State.setRange_keeps
        assumption
    clear_value l6
    have h_l9 : Keeps u0 l9 := by
      unfold l9
      exact Keeps.same (s := l6) (by assumption) rfl
    clear_value l9
    apply State.noteStay_keeps
    apply State.event_keeps
    apply State.count_keeps
    apply State.setObjs_keeps
    assumption
  · assumption

theorem State.copySmall_keeps {u0 : State} (s : Sys2Proof.Machine.State) (g : Sys2Proof.Machine.Graph) (m : Sys2Proof.Machine.Migration) (h_s : Keeps u0 s) :
    Keeps u0 (State.copySmall s g m) := by
  unfold State.copySmall
  apply foldl_keeps
  · intro x0 a1 h2
    split
    · extract_lets l5 l6 l7 l8
      have h_l8 : Keeps u0 l8 := by
        unfold l8
        apply State.copyRange_keeps
        assumption
      clear_value l8
      apply foldl_keeps
      · intro x65 a66 h67
        apply State.modFault_keeps
        apply State.noteBad_keeps
        apply State.store_keeps
        assumption
      · assumption
    · assumption
  · assumption

theorem State.smallState_keeps {u0 : State} (s : Sys2Proof.Machine.State) (g : Sys2Proof.Machine.Graph) (m : Sys2Proof.Machine.Migration) (h_s : Keeps u0 s) :
    Keeps u0 (State.smallState s g m).2 := by
  unfold State.smallState
  apply foldl_snd_keeps
  · intro x0 a1 h2
    split
    · extract_lets l4 l5 l6
      try dsimp only
      apply foldl_keeps
      · intro x64 a65 h66
        apply State.modFault_keeps
        apply State.noteBad_keeps
        assumption
      · apply State.noteSofts_keeps
        assumption
    · assumption
  · try dsimp only
    assumption

theorem State.writeSmall_keeps {u0 : State} (s : Sys2Proof.Machine.State) (m : Sys2Proof.Machine.Migration) (ks : List Nat) (data : List Sys2Proof.Byte) (h_s : Keeps u0 s) :
    Keeps u0 (State.writeSmall s m ks data) := by
  unfold State.writeSmall
  apply foldl_fst_keeps
  · intro x0 a1 h2
    split
    · try dsimp only
      apply State.storeBytes_keeps
      assumption
    · assumption
  · try dsimp only
    assumption

theorem State.switchParams_keeps {u0 : State} (s : Sys2Proof.Machine.State) (g : Sys2Proof.Machine.Graph) (m : Sys2Proof.Machine.Migration) (h_s : Keeps u0 s) :
    Keeps u0 (State.switchParams s g m) := by
  unfold State.switchParams
  exact Keeps.same (s := s) (by assumption) rfl

theorem State.settle_keeps {u0 : State} (s : Sys2Proof.Machine.State) (g : Sys2Proof.Machine.Graph) (m : Sys2Proof.Machine.Migration) (h_s : Keeps u0 s) :
    Keeps u0 (State.settle s g m) := by
  unfold State.settle
  extract_lets l0 l1 l2 l3
  have h_l2 : Keeps u0 l2 := by
    unfold l2
    exact Keeps.same (s := s) (by assumption) rfl
  clear_value l2
  have h_l3 : Keeps u0 l3 := by
    unfold l3
    apply foldl_keeps
    · intro x60 a61 h62
      split
      · apply State.setObj_keeps
        assumption
      · assumption
    · apply State.reshare_keeps
      assumption
  clear_value l3
  apply foldl_keeps
  · intro x65 a66 h67
    apply State.setObj_keeps
    assumption
  · assumption

theorem State.release_keeps {u0 : State} (s : Sys2Proof.Machine.State) (g : Sys2Proof.Machine.Graph) (m : Sys2Proof.Machine.Migration) (h_s : Keeps u0 s) :
    Keeps u0 (State.release s g m) := by
  unfold State.release
  extract_lets l0 l1 l2 l3 l4 l5
  have h_l4 : Keeps u0 l4 := by
    unfold l4
    apply State.freePages_keeps
    apply State.freeLines_keeps
    apply State.removeBlocks_keeps
    assumption
  clear_value l4
  have h_l5 : Keeps u0 l5 := by
    unfold l5
    apply Keeps.ite
    · assumption
    · apply State.setLength_keeps
      assumption
  clear_value l5
  apply State.event_keeps
  apply State.count_keeps
  apply State.setObjs_keeps
  apply State.settle_keeps
  assumption

theorem State.rejectImage_keeps {u0 : State} (s : Sys2Proof.Machine.State) (bytes : List Sys2Proof.Byte) (d : Sys2Proof.Machine.Diag) (st : Nat) (h_s : Keeps u0 s) :
    Keeps u0 (State.rejectImage s bytes d st) := by
  unfold State.rejectImage
  apply State.setObjs_keeps
  apply State.event_keeps
  apply State.setDiag_keeps
  assumption

theorem State.offerImage_keeps {u0 : State} (s : Sys2Proof.Machine.State) (bytes : List Sys2Proof.Byte) (h_s : Keeps u0 s) :
    Keeps u0 (State.offerImage s bytes) := by
  unfold State.offerImage
  apply Keeps.ite
  · split
    · apply State.rejectImage_keeps
      apply State.clearDiag_keeps
      assumption
    · assumption
  · extract_lets l2 l3
    have h_l2 : Keeps u0 l2 := by
      unfold l2
      apply State.setObj_keeps
      apply State.clearDiag_keeps
      assumption
    clear_value l2
    exact Keeps.same (s := l2) (by assumption) rfl

theorem State.sendOrder_keeps {u0 : State} (s : Sys2Proof.Machine.State) (dev : Nat) (block : Nat) (pin : Nat) (h_s : Keeps u0 s) :
    Keeps u0 (State.sendOrder s dev block pin) := by
  unfold State.sendOrder
  apply Keeps.ite
  · apply State.sendRouted_keeps
    assumption
  · assumption

theorem State.sendOrders_keeps {u0 : State} (s : Sys2Proof.Machine.State) (g : Sys2Proof.Machine.Graph) (h_s : Keeps u0 s) :
    Keeps u0 (State.sendOrders s g) := by
  unfold State.sendOrders
  apply foldl_keeps
  · intro x0 a1 h2
    apply State.sendOrder_keeps
    assumption
  · assumption

theorem State.admitImage_keeps {u0 : State} (s : Sys2Proof.Machine.State) (bytes : List Sys2Proof.Byte) (mode : Nat) (h_s : Keeps u0 s) :
    Keeps u0 (State.admitImage s bytes mode) := by
  unfold State.admitImage
  extract_lets l0 l1 l2 l3 l4
  have h_l2 : Keeps u0 l2 := by
    unfold l2
    apply Keeps.ite
    · apply State.finishTick_keeps
      assumption
    · assumption
  clear_value l2
  have h_l3 : Keeps u0 l3 := by
    unfold l3
    apply State.dropGraph_keeps
    apply Keeps.ite
    · apply State.abandon_keeps
      assumption
    · assumption
  clear_value l3
  apply State.sendOrders_keeps
  apply State.loadGraph_keeps
  assumption

theorem execGraphAdmission_keeps {u0 : State} (s : Sys2Proof.Machine.State) (h_s : Keeps u0 s) :
    KeepsOut u0 (execGraphAdmission s) := by
  unfold execGraphAdmission
  split
  · apply KeepsOut.next
    assumption
  · extract_lets l4 l5
    have h_l5 : Keeps u0 l5 := by
      unfold l5
      exact Keeps.same (s := s) (by assumption) rfl
    clear_value l5
    apply KeepsOut.next
    split
    · apply State.rejectImage_keeps
      assumption
    · apply State.admitImage_keeps
      assumption

theorem State.keepReservation_keeps {u0 : State} (s : Sys2Proof.Machine.State) (h_s : Keeps u0 s) :
    Keeps u0 (State.keepReservation s) := by
  unfold State.keepReservation
  extract_lets l0
  apply Keeps.ite
  · apply State.sendReservation_keeps
    assumption
  · assumption

theorem State.startMove_keeps {u0 : State} (s : Sys2Proof.Machine.State) (g : Sys2Proof.Machine.Graph) (v : Sys2Proof.Machine.PlaceEnv) (b : Nat) (dev : Nat) (eng : Nat) (mv : Option Sys2Proof.Machine.Move) (h_s : Keeps u0 s) :
    Keeps u0 (State.startMove s g v b dev eng mv) := by
  unfold State.startMove
  extract_lets l0 l1 l2 l3 l4 l5 l6 l7
  have h_l6 : Keeps u0 l6 := by
    unfold l6
    apply State.setObjs_keeps
    assumption
  clear_value l6
  have h_l7 : Keeps u0 l7 := by
    unfold l7
    apply State.putPolicies_keeps
    apply State.keepReservation_keeps
    apply State.setMig_keeps
    assumption
  clear_value l7
  split
  · apply State.portsNow_keeps
    apply foldl_keeps
    · intro x61 a62 h63
      apply State.sendOrder_keeps
      assumption
    · assumption
  · apply State.loadMove_keeps
    assumption

theorem State.writeMigrate_keeps {u0 : State} (s : Sys2Proof.Machine.State) (k : Sys2Proof.SessKey) (kport : Nat) (words : List (BitVec 32)) (h_s : Keeps u0 s) :
    Keeps u0 (State.writeMigrate s k kport words) := by
  unfold State.writeMigrate
  extract_lets l0 l1 l2 l3 l4 l5
  have h_l4 : Keeps u0 l4 := by
    unfold l4
    apply Keeps.ite
    · apply State.clearDiag_keeps
      assumption
    · assumption
  clear_value l4
  have h_l5 : Keeps u0 l5 := by
    unfold l5
    split
    · apply State.setDiag_keeps
      assumption
    · assumption
  clear_value l5
  apply State.writeReq_keeps
  · assumption
  · intro y63 h64
    split
    · assumption
    · extract_lets l67
      split
      · assumption
      · extract_lets l129 l130
        have h_l129 : Keeps u0 l129 := by
          unfold l129
          apply State.startMove_keeps
          assumption
        clear_value l129
        apply Keeps.ite
        · exact Keeps.same (s := l129) (by assumption) rfl
        · assumption

theorem execMigrateRequest_keeps {u0 : State} (src : Sys2Proof.Src) (words : List (BitVec 32)) (s : Sys2Proof.Machine.State) (h_s : Keeps u0 s) :
    KeepsOut u0 (execMigrateRequest src words s) := by
  unfold execMigrateRequest
  apply KeepsOut.next
  apply State.writeMigrate_keeps
  assumption

theorem State.loadDone_keeps {u0 : State} (s : Sys2Proof.Machine.State) (g : Sys2Proof.Machine.Graph) (m : Sys2Proof.Machine.Migration) (h_s : Keeps u0 s) :
    Keeps u0 (State.loadDone s g m) := by
  unfold State.loadDone
  extract_lets l0 l1 l2 l3 l4 l5
  have h_l4 : Keeps u0 l4 := by
    unfold l4
    apply Keeps.ite
    · assumption
    · apply State.modEngine_keeps
      apply State.setLength_keeps
      apply State.setRange_keeps
      apply foldl_keeps
      · intro x60 a61 h62
        apply State.storeCode_keeps
        assumption
      · assumption
  clear_value l4
  have h_l5 : Keeps u0 l5 := by
    unfold l5
    apply Keeps.ite
    · exact Keeps.same (s := l4) (by assumption) rfl
    · assumption
  clear_value l5
  apply State.portsNow_keeps
  apply State.setObj_keeps
  apply State.setMig_keeps
  assumption

theorem execMigrationLoadDone_keeps {u0 : State} (s : Sys2Proof.Machine.State) (h_s : Keeps u0 s) :
    KeepsOut u0 (execMigrationLoadDone s) := by
  unfold execMigrationLoadDone
  apply KeepsOut.next
  split
  · apply Keeps.ite
    · apply State.loadDone_keeps
      assumption
    · assumption
  · assumption

theorem State.restartMove_keeps {u0 : State} (s : Sys2Proof.Machine.State) (g : Sys2Proof.Machine.Graph) (m : Sys2Proof.Machine.Migration) (a : Nat) (h_s : Keeps u0 s) :
    Keeps u0 (State.restartMove s g m a) := by
  unfold State.restartMove
  apply State.setObj_keeps
  apply State.setMig_keeps
  assumption

theorem State.quietSource_keeps {u0 : State} (s : Sys2Proof.Machine.State) (g : Sys2Proof.Machine.Graph) (m : Sys2Proof.Machine.Migration) (h_s : Keeps u0 s) :
    Keeps u0 (State.quietSource s g m) := by
  unfold State.quietSource
  extract_lets l0 l1
  apply Keeps.ite
  · assumption
  · apply State.portObjects_keeps
    apply State.setLength_keeps
    apply State.setRange_keeps
    assumption

theorem State.switchMove_keeps {u0 : State} (s : Sys2Proof.Machine.State) (g : Sys2Proof.Machine.Graph) (m : Sys2Proof.Machine.Migration) (h_s : Keeps u0 s) :
    Keeps u0 (State.switchMove s g m) := by
  unfold State.switchMove
  extract_lets l0 l1 l2
  have h_l0 : Keeps u0 l0 := by
    unfold l0
    apply State.finishTick_keeps
    assumption
  clear_value l0
  have h_l2 : Keeps u0 l2 := by
    unfold l2
    apply State.setObj_keeps
    apply State.setMig_keeps
    assumption
  clear_value l2
  apply Keeps.ite
  · apply State.restartMove_keeps
    assumption
  · apply Keeps.ite
    · apply State.quietSource_keeps
      apply State.setRange_keeps
      assumption
    · apply State.switchParams_keeps
      assumption

theorem execMigrationSwitch_keeps {u0 : State} (s : Sys2Proof.Machine.State) (h_s : Keeps u0 s) :
    KeepsOut u0 (execMigrationSwitch s) := by
  unfold execMigrationSwitch
  apply KeepsOut.next
  split
  · apply Keeps.ite
    · apply State.switchMove_keeps
      assumption
    · assumption
  · assumption

theorem State.sendSnapshot_keeps {u0 : State} (s : State) (dev n : Nat) (l : List Byte) (h_s : Keeps u0 s) :
    Keeps u0 (State.sendSnapshot s dev n l) := by
  induction n generalizing s l with
  | zero => exact h_s
  | succ n ih => exact Keeps.ite h_s (ih _ _ (State.sendRouted_keeps _ _ _ h_s))

theorem State.takeSnapshot_keeps {u0 : State} (s : Sys2Proof.Machine.State) (g : Sys2Proof.Machine.Graph) (m : Sys2Proof.Machine.Migration) (h_s : Keeps u0 s) :
    Keeps u0 (State.takeSnapshot s g m) := by
  unfold State.takeSnapshot
  extract_lets l0
  have h_l0 : Keeps u0 l0.2 := by
    unfold l0
    apply State.smallState_keeps
    assumption
  clear_value l0
  split
  · apply State.abandon_keeps
    assumption
  · extract_lets l62
    have h_l62 : Keeps u0 l62 := by
      unfold l62
      apply State.setMig_keeps
      apply State.storeBytes_keeps
      assumption
    clear_value l62
    apply Keeps.ite
    · apply State.sendSnapshot_keeps
      assumption
    · assumption

theorem execSnapshotCopy_keeps {u0 : State} (s : Sys2Proof.Machine.State) (h_s : Keeps u0 s) :
    KeepsOut u0 (execSnapshotCopy s) := by
  unfold execSnapshotCopy
  apply KeepsOut.next
  split
  · apply Keeps.ite
    · apply State.setMig_keeps
      assumption
    · assumption
  · assumption

theorem State.moverStep_keeps {u0 : State} (s : Sys2Proof.Machine.State) (h_s : Keeps u0 s) :
    Keeps u0 (State.moverStep s) := by
  unfold State.moverStep
  split
  · apply Keeps.ite
    · assumption
    · apply Keeps.ite
      · extract_lets l2 l3
        have h_l2 : Keeps u0 l2 := by
          unfold l2
          apply State.copySmall_keeps
          assumption
        clear_value l2
        exact Keeps.same (s := l2) (by assumption) rfl
      · apply State.takeSnapshot_keeps
        assumption
  · assumption

theorem State.addXfades_keeps {u0 : State} (s : Sys2Proof.Machine.State) (l : List Sys2Proof.Machine.Xfade) (h_s : Keeps u0 s) :
    Keeps u0 (State.addXfades s l) := by
  unfold State.addXfades
  exact Keeps.same (s := s) (by assumption) rfl

theorem State.snapshotArrives_keeps {u0 : State} (s : Sys2Proof.Machine.State) (g : Sys2Proof.Machine.Graph) (m : Sys2Proof.Machine.Migration) (data : List Sys2Proof.Byte) (h_s : Keeps u0 s) :
    Keeps u0 (State.snapshotArrives s g m data) := by
  unfold State.snapshotArrives
  apply Keeps.ite
  · apply State.abandon_keeps
    assumption
  · extract_lets l0 l1
    have h_l0 : Keeps u0 l0 := by
      unfold l0
      apply State.finishTick_keeps
      assumption
    clear_value l0
    have h_l1 : Keeps u0 l1 := by
      unfold l1
      apply Keeps.ite
      · assumption
      · apply State.writeSmall_keeps
        assumption
    clear_value l1
    apply State.switchParams_keeps
    apply State.setObj_keeps
    apply State.setMig_keeps
    apply State.addXfades_keeps
    assumption

theorem execSnapshotArrival_keeps {u0 : State} (data : List Sys2Proof.Byte) (s : Sys2Proof.Machine.State) (h_s : Keeps u0 s) :
    KeepsOut u0 (execSnapshotArrival data s) := by
  unfold execSnapshotArrival
  apply KeepsOut.next
  split
  · apply Keeps.ite
    · apply State.snapshotArrives_keeps
      assumption
    · assumption
  · assumption

theorem State.placeOrder_keeps {u0 : State} (s : Sys2Proof.Machine.State) (block : Nat) (pin : Nat) (h_s : Keeps u0 s) :
    Keeps u0 (State.placeOrder s block pin) := by
  unfold State.placeOrder
  split
  · split
    · apply State.setDiag_keeps
      assumption
    · apply State.clearDiag_keeps
      assumption
  · extract_lets l7 l8
    split
    · apply State.setDiag_keeps
      assumption
    · apply Keeps.ite
      · apply State.clearDiag_keeps
        assumption
      · apply Keeps.ite
        · apply State.setDiag_keeps
          assumption
        · split
          · apply State.setDiag_keeps
            assumption
          · apply State.startMove_keeps
            apply State.clearDiag_keeps
            assumption
  · apply State.setDiag_keeps
    assumption

theorem execTilerOrder_keeps {u0 : State} (block : BitVec 14) (pin : BitVec 32) (limits : List (BitVec 32)) (s : Sys2Proof.Machine.State) (h_s : Keeps u0 s) :
    KeepsOut u0 (execTilerOrder block pin limits s) := by
  unfold execTilerOrder
  extract_lets l0 l1
  have h_l0 : Keeps u0 l0 := by
    unfold l0
    apply State.placeOrder_keeps
    apply State.modNet_keeps
    apply State.takeMsg_keeps
    assumption
  clear_value l0
  apply KeepsOut.next
  apply State.sendRouted_keeps
  assumption

theorem State.orderRefused_keeps {u0 : State} (s : Sys2Proof.Machine.State) (block : Nat) (h_s : Keeps u0 s) :
    Keeps u0 (State.orderRefused s block) := by
  unfold State.orderRefused
  apply Keeps.ite
  · apply State.abandon_keeps
    assumption
  · assumption

theorem execTilerReport_keeps {u0 : State} (block : BitVec 14) (result : BitVec 8) (diagCode : BitVec 8) (diagTable : BitVec 8) (entry : BitVec 32) (detail : BitVec 32) (need : BitVec 32) (have_ : BitVec 32) (device : BitVec 16) (engine : BitVec 8) (s : Sys2Proof.Machine.State) (h_s : Keeps u0 s) :
    KeepsOut u0 (execTilerReport block result diagCode diagTable entry detail need have_ device engine s) := by
  unfold execTilerReport
  extract_lets l0
  have h_l0 : Keeps u0 l0 := by
    unfold l0
    apply State.modNet_keeps
    apply State.takeMsg_keeps
    assumption
  clear_value l0
  apply KeepsOut.next
  apply Keeps.ite
  · assumption
  · apply State.setObjs_keeps
    apply State.orderRefused_keeps
    assumption

theorem State.reoptimise_keeps {u0 : State} (s : Sys2Proof.Machine.State) (h_s : Keeps u0 s) :
    Keeps u0 (State.reoptimise s) := by
  unfold State.reoptimise
  split
  · assumption
  · apply Keeps.ite
    · assumption
    · apply Keeps.ite
      · exact Keeps.same (s := s) (by assumption) rfl
      · extract_lets l2 l3
        split
        · apply State.startMove_keeps
          assumption
        · assumption

theorem State.reoptDue_keeps {u0 : State} (s : Sys2Proof.Machine.State) (h_s : Keeps u0 s) :
    Keeps u0 (State.reoptDue s) := by
  unfold State.reoptDue
  apply Keeps.ite
  · apply State.reoptimise_keeps
    exact Keeps.same (s := s) (by assumption) rfl
  · assumption

theorem State.drainNext_keeps {u0 : State} (s : Sys2Proof.Machine.State) (h_s : Keeps u0 s) :
    Keeps u0 (State.drainNext s) := by
  unfold State.drainNext
  split
  · assumption
  · apply Keeps.ite
    · assumption
    · extract_lets l2 l3 l4 l5 l6
      have h_l5 : Keeps u0 l5 := by
        unfold l5
        exact Keeps.same (s := s) (by assumption) rfl
      clear_value l5
      have h_l6 : Keeps u0 l6 := by
        unfold l6
        apply Keeps.ite
        · apply State.setObj_keeps
          assumption
        · assumption
      clear_value l6
      split
      · apply State.startMove_keeps
        assumption
      · assumption

theorem State.writeDrain_keeps {u0 : State} (s : Sys2Proof.Machine.State) (k : Sys2Proof.SessKey) (kport : Nat) (words : List (BitVec 32)) (h_s : Keeps u0 s) :
    Keeps u0 (State.writeDrain s k kport words) := by
  unfold State.writeDrain
  apply State.writeReq_keeps
  · assumption
  · intro y0 h1
    split
    · apply State.clearDiag_keeps
      exact Keeps.same (s := y0) (by assumption) rfl
    · extract_lets l4 l5 l6 l7 l8 l9
      have h_l9 : Keeps u0 l9 := by
        unfold l9
        exact Keeps.same (s := y0) (by assumption) rfl
      clear_value l9
      apply State.drainNext_keeps
      apply State.setObj_keeps
      apply State.clearDiag_keeps
      assumption

theorem execDrainDevice_keeps {u0 : State} (src : Sys2Proof.Src) (words : List (BitVec 32)) (s : Sys2Proof.Machine.State) (h_s : Keeps u0 s) :
    KeepsOut u0 (execDrainDevice src words s) := by
  unfold execDrainDevice
  apply KeepsOut.next
  apply State.writeDrain_keeps
  assumption

theorem State.releaseNext_keeps {u0 : State} (s : Sys2Proof.Machine.State) (g : Sys2Proof.Machine.Graph) (m : Sys2Proof.Machine.Migration) (h_s : Keeps u0 s) :
    Keeps u0 (State.releaseNext s g m) := by
  unfold State.releaseNext
  apply State.reoptimise_keeps
  apply State.drainNext_keeps
  apply State.release_keeps
  assumption

theorem execCrossfadeEnd_keeps {u0 : State} (s : Sys2Proof.Machine.State) (h_s : Keeps u0 s) :
    KeepsOut u0 (execCrossfadeEnd s) := by
  unfold execCrossfadeEnd
  apply KeepsOut.next
  split
  · apply Keeps.ite
    · apply State.releaseNext_keeps
      assumption
    · assumption
  · assumption

theorem State.startGraph_keeps {u0 : State} (s : Sys2Proof.Machine.State) (g : Sys2Proof.Machine.Graph) (h_s : Keeps u0 s) :
    Keeps u0 (State.startGraph s g) := by
  unfold State.startGraph
  extract_lets l0 l1 l2 l3
  have h_l1 : Keeps u0 l1 := by
    unfold l1
    apply State.allEngines_keeps
    assumption
  clear_value l1
  have h_l2 : Keeps u0 l2 := by
    unfold l2
    exact Keeps.same (s := l1) (by assumption) rfl
  clear_value l2
  have h_l3 : Keeps u0 l3 := by
    unfold l3
    apply State.event_keeps
    apply State.setObjs_keeps
    assumption
  clear_value l3
  apply State.reoptimise_keeps
  apply State.unmute_keeps
  apply State.unmute_keeps
  assumption

theorem execGraphStart_keeps {u0 : State} (s : Sys2Proof.Machine.State) (h_s : Keeps u0 s) :
    KeepsOut u0 (execGraphStart s) := by
  unfold execGraphStart
  apply KeepsOut.next
  split
  · apply Keeps.ite
    · apply State.startGraph_keeps
      assumption
    · assumption
  · assumption

theorem State.writeUnload_keeps {u0 : State} (s : Sys2Proof.Machine.State) (k : Sys2Proof.SessKey) (kport : Nat) (words : List (BitVec 32)) (h_s : Keeps u0 s) :
    Keeps u0 (State.writeUnload s k kport words) := by
  unfold State.writeUnload
  apply State.writeReq_keeps
  · assumption
  · intro y0 h1
    extract_lets l2 l3 l4
    have h_l2 : Keeps u0 l2 := by
      unfold l2
      apply State.setObj_keeps
      assumption
    clear_value l2
    have h_l3 : Keeps u0 l3 := by
      unfold l3
      apply State.setObj_keeps
      apply Keeps.ite
      · apply State.abandon_keeps
        assumption
      · assumption
    clear_value l3
    apply Keeps.ite
    · assumption
    · exact Keeps.same (s := l3) (by assumption) rfl

theorem execGraphUnload_keeps {u0 : State} (src : Sys2Proof.Src) (words : List (BitVec 32)) (s : Sys2Proof.Machine.State) (h_s : Keeps u0 s) :
    KeepsOut u0 (execGraphUnload src words s) := by
  unfold execGraphUnload
  apply KeepsOut.next
  apply State.writeUnload_keeps
  assumption

theorem State.freshState_keeps {u0 : State} (s : Sys2Proof.Machine.State) (g : Sys2Proof.Machine.Graph) (m : Sys2Proof.Machine.Migration) (h_s : Keeps u0 s) :
    Keeps u0 (State.freshState s g m) := by
  unfold State.freshState
  extract_lets l0 l1
  have h_l0 : Keeps u0 l0 := by
    unfold l0
    apply foldl_keeps
    · intro x60 a61 h62
      apply State.loadRegion_keeps
      assumption
    · assumption
  clear_value l0
  have h_l1 : Keeps u0 l1 := by
    unfold l1
    apply foldl_keeps
    · intro x63 a64 h65
      apply Keeps.ite
      · apply State.setDesc_keeps
        apply State.loadLine_keeps
        assumption
      · assumption
    · assumption
  clear_value l1
  apply foldl_keeps
  · intro x66 a67 h68
    apply State.loadParam_keeps
    assumption
  · assumption

theorem State.sourceLost_keeps {u0 : State} (s : Sys2Proof.Machine.State) (g : Sys2Proof.Machine.Graph) (m : Sys2Proof.Machine.Migration) (h_s : Keeps u0 s) :
    Keeps u0 (State.sourceLost s g m) := by
  unfold State.sourceLost
  extract_lets l0 l1 l2 l3 l4 l5 l6
  have h_l1 : Keeps u0 l1 := by
    unfold l1
    apply State.addXfades_keeps
    assumption
  clear_value l1
  have h_l2 : Keeps u0 l2 := by
    unfold l2
    apply State.settle_keeps
    apply Keeps.ite
    · assumption
    · apply State.freshState_keeps
      assumption
  clear_value l2
  have h_l4 : Keeps u0 l4 := by
    unfold l4
    exact Keeps.same (s := l2) (by assumption) rfl
  clear_value l4
  have h_l5 : Keeps u0 l5 := by
    unfold l5
    apply Keeps.ite
    · apply State.landBlocks_keeps
      assumption
    · apply foldl_keeps
      · intro x60 a61 h62
        apply State.sendOrder_keeps
        assumption
      · assumption
  clear_value l5
  have h_l6 : Keeps u0 l6 := by
    unfold l6
    apply State.count_keeps
    apply State.setObjs_keeps
    assumption
  clear_value l6
  apply State.reoptimise_keeps
  apply foldl_keeps
  · intro x63 a64 h65
    apply State.event_keeps
    assumption
  · apply State.event_keeps
    assumption

theorem execDeviceLost_keeps {u0 : State} (addr : BitVec 12) (s : Sys2Proof.Machine.State) (h_s : Keeps u0 s) :
    KeepsOut u0 (execDeviceLost addr s) := by
  unfold execDeviceLost
  extract_lets l0 l1
  have h_l1 : Keeps u0 l1 := by
    unfold l1
    apply State.event_keeps
    assumption
  clear_value l1
  apply KeepsOut.next
  apply Keeps.ite
  · assumption
  · split
    · apply Keeps.ite
      · assumption
      · apply Keeps.ite
        · apply State.abandon_keeps
          assumption
        · apply Keeps.ite
          · apply State.sourceLost_keeps
            assumption
          · assumption
    · assumption

theorem execPageReload_keeps {u0 : State} (a : BitVec 40) (s : Sys2Proof.Machine.State) (h_s : Keeps u0 s) :
    KeepsOut u0 (execPageReload a s) := by
  unfold execPageReload
  extract_lets l0
  apply KeepsOut.next
  split
  · assumption
  · apply Keeps.ite
    · split
      · apply State.reloaded_keeps
        apply State.storeBytes_keeps
        assumption
      · assumption
    · assumption

theorem State.switchedBoundary_keeps {u0 : State} (s : Sys2Proof.Machine.State) (n : Nat) (g : Sys2Proof.Machine.Graph) (m : Sys2Proof.Machine.Migration) (h_s : Keeps u0 s) :
    Keeps u0 (State.switchedBoundary s n g m) := by
  unfold State.switchedBoundary
  extract_lets l0
  apply Keeps.ite
  · apply Keeps.ite
    · apply State.quietSource_keeps
      assumption
    · assumption
  · apply Keeps.ite
    · apply Keeps.ite
      · apply State.releaseNext_keeps
        assumption
      · assumption
    · apply Keeps.ite
      · apply Keeps.ite
        · apply State.quietSource_keeps
          assumption
        · assumption
      · apply Keeps.ite
        · apply State.releaseNext_keeps
          apply State.addXfades_keeps
          assumption
        · assumption

theorem State.migBoundary_keeps {u0 : State} (s : Sys2Proof.Machine.State) (n : Nat) (g : Sys2Proof.Machine.Graph) (m : Sys2Proof.Machine.Migration) (h_s : Keeps u0 s) :
    Keeps u0 (State.migBoundary s n g m) := by
  unfold State.migBoundary
  apply Keeps.ite
  · apply State.abandon_keeps
    assumption
  · apply Keeps.ite
    · apply State.restartMove_keeps
      assumption
    · apply Keeps.ite
      · apply State.switchedBoundary_keeps
        assumption
      · assumption

theorem State.unloaded_keeps {u0 : State} (s : Sys2Proof.Machine.State) (h_s : Keeps u0 s) :
    Keeps u0 (State.unloaded s) := by
  unfold State.unloaded
  apply Keeps.ite
  · apply State.unmute_keeps
    apply State.setObj_keeps
    assumption
  · assumption

theorem State.tilerBoundary_keeps {u0 : State} (s : State) (n : Nat) (h_s : Keeps u0 s) : Keeps u0 (State.tilerBoundary s n) := by
  unfold State.tilerBoundary
  extract_lets l0 l1 l2 l3 l4 l5
  have h0 : Keeps u0 l0 := State.landBlocks_keeps _ (State.clearBlocks_keeps _ (State.unloaded_keeps _ (Keeps.ite (State.dropGraph_keeps _ h_s) h_s)))
  have h1 : Keeps u0 l1 := by
    unfold l1
    split
    · exact State.migBoundary_keeps _ _ _ _ h0
    · exact h0
  have h2 : Keeps u0 l2 := Keeps.ite (State.drainNext_keeps _ h1) h1
  have h5 : Keeps u0 l5 := h2.same rfl
  exact State.keepReservation_keeps _ (Keeps.ite (State.reoptimise_keeps _ h5) h5)

end Sys2Proof.Machine
end

