-- ==== Sys2Proof/Laws/KeepHull.lean ====
section
/-! SUPPORT. What clocks, Patchbay, Secure start, modes and power keep. -/
set_option Elab.async false
namespace Sys2Proof.Machine
open Sys2Proof

theorem State.replace_keeps {u0 : State} (s : Sys2Proof.Machine.State) (h_s : Keeps u0 s) :
    Keeps u0 (State.replace s) := by
  unfold State.replace
  extract_lets l0
  have h_l0 : Keeps u0 l0 := by
    unfold l0
    split
    · apply State.portsNow_keeps
      assumption
    · assumption
  clear_value l0
  apply State.reserve_keeps
  assumption

theorem State.rebudget_keeps {u0 : State} (s : Sys2Proof.Machine.State) (h_s : Keeps u0 s) :
    Keeps u0 (State.rebudget s) := by
  unfold State.rebudget
  extract_lets l0
  apply State.replace_keeps
  apply State.setObjs_keeps
  assumption

theorem State.sourceOffset_keeps {u0 : State} (s : Sys2Proof.Machine.State) (v : Nat) (h_s : Keeps u0 s) :
    Keeps u0 (State.sourceOffset s v).2 := by
  unfold State.sourceOffset
  extract_lets l0 l1
  apply Keeps.iteSnd
  · try dsimp only
    assumption
  · try dsimp only
    exact Keeps.same (s := s) (by assumption) rfl

theorem State.selectSource_keeps {u0 : State} (s : Sys2Proof.Machine.State) (v : Nat) (status : Nat) (h_s : Keeps u0 s) :
    Keeps u0 (State.selectSource s v status) := by
  unfold State.selectSource
  extract_lets l0 l1 l2 l3
  have h_l0 : Keeps u0 l0.2 := by
    unfold l0
    apply State.sourceOffset_keeps
    assumption
  clear_value l0
  have h_l1 : Keeps u0 l1 := by
    unfold l1
    assumption
  clear_value l1
  have h_l3 : Keeps u0 l3 := by
    unfold l3
    exact Keeps.same (s := l1) (by assumption) rfl
  clear_value l3
  apply State.sapRecheck_keeps
  apply State.setObjs_keeps
  assumption

theorem State.holdover_keeps {u0 : State} (s : Sys2Proof.Machine.State) (h_s : Keeps u0 s) :
    Keeps u0 (State.holdover s) := by
  unfold State.holdover
  apply State.setObjs_keeps
  exact Keeps.same (s := s) (by assumption) rfl

theorem State.sourceLost0_keeps {u0 : State} (s : Sys2Proof.Machine.State) (valid : Bool) (h_s : Keeps u0 s) :
    Keeps u0 (State.sourceLost0 s valid) := by
  unfold State.sourceLost0
  extract_lets l0 l1
  have h_l0 : Keeps u0 l0 := by
    unfold l0
    apply State.event_keeps
    assumption
  clear_value l0
  apply Keeps.ite
  · apply State.event_keeps
    apply State.selectSource_keeps
    assumption
  · apply State.raiseCause_keeps
    apply State.holdover_keeps
    assumption

theorem State.holdWord_keeps {u0 : State} (s : Sys2Proof.Machine.State) (h_s : Keeps u0 s) :
    Keeps u0 (State.holdWord s) := by
  unfold State.holdWord
  extract_lets l0
  have h_l0 : Keeps u0 l0 := by
    unfold l0
    exact Keeps.same (s := s) (by assumption) rfl
  clear_value l0
  apply Keeps.ite
  · assumption
  · apply State.setObj_keeps
    assumption

theorem execTickSourceLost_keeps {u0 : State} (fallbackValid : Bool) (s : Sys2Proof.Machine.State) (h_s : Keeps u0 s) :
    KeepsOut u0 (execTickSourceLost fallbackValid s) := by
  unfold execTickSourceLost
  apply KeepsOut.next
  apply Keeps.ite
  · assumption
  · apply Keeps.ite
    · apply State.holdWord_keeps
      exact Keeps.same (s := s) (by assumption) rfl
    · apply State.sourceLost0_keeps
      assumption

theorem State.sourceLocked_keeps {u0 : State} (s : Sys2Proof.Machine.State) (phase : Nat) (h_s : Keeps u0 s) :
    Keeps u0 (State.sourceLocked s phase) := by
  unfold State.sourceLocked
  extract_lets l0 l1 l2
  have h_l2 : Keeps u0 l2 := by
    unfold l2
    apply State.event_keeps
    apply State.clearCause_keeps
    apply State.setObjs_keeps
    assumption
  clear_value l2
  apply Keeps.ite
  · apply State.fixPhase_keeps
    assumption
  · assumption

theorem execTickSourceLocked_keeps {u0 : State} (phase : BitVec 16) (s : Sys2Proof.Machine.State) (h_s : Keeps u0 s) :
    KeepsOut u0 (execTickSourceLocked phase s) := by
  unfold execTickSourceLocked
  apply KeepsOut.next
  apply Keeps.ite
  · assumption
  · apply State.sourceLocked_keeps
    assumption

theorem State.writeTickSource_keeps {u0 : State} (s : Sys2Proof.Machine.State) (k : Sys2Proof.SessKey) (kport : Nat) (words : List (BitVec 32)) (h_s : Keeps u0 s) :
    Keeps u0 (State.writeTickSource s k kport words) := by
  unfold State.writeTickSource
  apply State.writeReq_keeps
  · assumption
  · intro y0 h1
    exact Keeps.same (s := y0) (by assumption) rfl

theorem execTickSourceWrite_keeps {u0 : State} (src : Sys2Proof.Src) (words : List (BitVec 32)) (s : Sys2Proof.Machine.State) (h_s : Keeps u0 s) :
    KeepsOut u0 (execTickSourceWrite src words s) := by
  unfold execTickSourceWrite
  apply KeepsOut.next
  apply State.writeTickSource_keeps
  assumption

theorem State.applySource_keeps {u0 : State} (s : Sys2Proof.Machine.State) (h_s : Keeps u0 s) :
    Keeps u0 (State.applySource s) := by
  unfold State.applySource
  split
  · apply State.selectSource_keeps
    apply State.setObj_keeps
    exact Keeps.same (s := s) (by assumption) rfl
  · assumption

theorem State.mediaStep_keeps {u0 : State} (s : Sys2Proof.Machine.State) (h_s : Keeps u0 s) :
    Keeps u0 (State.mediaStep s) := by
  unfold State.mediaStep
  extract_lets l0 l1
  apply Keeps.ite
  · assumption
  · apply State.setObj_keeps
    assumption

theorem State.startRate_keeps {u0 : State} (s : Sys2Proof.Machine.State) (r : Nat) (h_s : Keeps u0 s) :
    Keeps u0 (State.startRate s r) := by
  unfold State.startRate
  extract_lets l0 l1
  have h_l1 : Keeps u0 l1 := by
    unfold l1
    exact Keeps.same (s := s) (by assumption) rfl
  clear_value l1
  apply State.mute_keeps
  apply State.setObj_keeps
  assumption

theorem State.writeTickRate_keeps {u0 : State} (s : Sys2Proof.Machine.State) (k : Sys2Proof.SessKey) (kport : Nat) (words : List (BitVec 32)) (h_s : Keeps u0 s) :
    Keeps u0 (State.writeTickRate s k kport words) := by
  unfold State.writeTickRate
  extract_lets l0 l1 l2 l3 l4 l5 l6
  have h_l6 : Keeps u0 l6 := by
    unfold l6
    split
    · apply State.setDiag_keeps
      assumption
    · assumption
  clear_value l6
  apply State.writeReq_keeps
  · assumption
  · intro y63 h64
    apply State.startRate_keeps
    assumption

theorem execTickRateWrite_keeps {u0 : State} (src : Sys2Proof.Src) (words : List (BitVec 32)) (s : Sys2Proof.Machine.State) (h_s : Keeps u0 s) :
    KeepsOut u0 (execTickRateWrite src words s) := by
  unfold execTickRateWrite
  apply KeepsOut.next
  apply State.writeTickRate_keeps
  assumption

theorem State.followRate_keeps {u0 : State} (s : Sys2Proof.Machine.State) (h_s : Keeps u0 s) :
    Keeps u0 (State.followRate s) := by
  unfold State.followRate
  extract_lets l0
  apply Keeps.ite
  · apply State.startRate_keeps
    assumption
  · assumption

theorem State.followTime_keeps {u0 : State} (s : Sys2Proof.Machine.State) (h_s : Keeps u0 s) :
    Keeps u0 (State.followTime s) := by
  unfold State.followTime
  apply Keeps.ite
  · assumption
  · apply Keeps.ite
    · extract_lets l0
      have h_l0 : Keeps u0 l0 := by
        unfold l0
        apply Keeps.ite
        · apply State.selectSource_keeps
          assumption
        · assumption
      clear_value l0
      apply Keeps.ite
      · exact Keeps.same (s := l0) (by assumption) rfl
      · exact Keeps.same (s := l0) (by assumption) rfl
    · apply Keeps.ite
      · assumption
      · apply Keeps.ite
        · apply Keeps.ite
          · assumption
          · apply State.holdover_keeps
            assumption
        · apply Keeps.ite
          · apply State.selectSource_keeps
            assumption
          · assumption

theorem State.rateAbandon_keeps {u0 : State} (s : Sys2Proof.Machine.State) (h_s : Keeps u0 s) :
    Keeps u0 (State.rateAbandon s) := by
  unfold State.rateAbandon
  split
  · apply Keeps.ite
    · apply State.abandon_keeps
      assumption
    · assumption
  · assumption

theorem execTickRateStop_keeps {u0 : State} (s : Sys2Proof.Machine.State) (h_s : Keeps u0 s) :
    KeepsOut u0 (execTickRateStop s) := by
  unfold execTickRateStop
  apply KeepsOut.next
  split
  · apply Keeps.ite
    · extract_lets l1 l2 l3 l4
      have h_l1 : Keeps u0 l1 := by
        unfold l1
        apply State.finishTick_keeps
        assumption
      clear_value l1
      have h_l4 : Keeps u0 l4 := by
        unfold l4
        exact Keeps.same (s := l1) (by assumption) rfl
      clear_value l4
      apply State.sapRelock_keeps
      apply Keeps.ite
      · apply State.setObj_keeps
        assumption
      · assumption
    · assumption
  · assumption

theorem execTickRateRestart_keeps {u0 : State} (s : Sys2Proof.Machine.State) (h_s : Keeps u0 s) :
    KeepsOut u0 (execTickRateRestart s) := by
  unfold execTickRateRestart
  apply KeepsOut.next
  split
  · apply Keeps.ite
    · assumption
    · extract_lets l1 l2 l3
      have h_l1 : Keeps u0 l1 := by
        unfold l1
        apply State.setObjs_keeps
        assumption
      clear_value l1
      have h_l3 : Keeps u0 l3 := by
        unfold l3
        apply State.event_keeps
        apply State.unmute_keeps
        apply State.rebudget_keeps
        exact Keeps.same (s := l1) (by assumption) rfl
      clear_value l3
      split
      · apply State.sourceLost0_keeps
        assumption
      · assumption
  · assumption

theorem State.startEngSeq_keeps {u0 : State} (s : Sys2Proof.Machine.State) (khz : Nat) (spread : Nat) (h_s : Keeps u0 s) :
    Keeps u0 (State.startEngSeq s khz spread) := by
  unfold State.startEngSeq
  apply State.mute_keeps
  apply State.setObj_keeps
  exact Keeps.same (s := s) (by assumption) rfl

theorem State.writeEngineFrequency_keeps {u0 : State} (s : Sys2Proof.Machine.State) (k : Sys2Proof.SessKey) (kport : Nat) (words : List (BitVec 32)) (h_s : Keeps u0 s) :
    Keeps u0 (State.writeEngineFrequency s k kport words) := by
  unfold State.writeEngineFrequency
  apply State.writeReq_keeps
  · assumption
  · intro y0 h1
    apply State.startEngSeq_keeps
    assumption

theorem execEngineFrequency_keeps {u0 : State} (src : Sys2Proof.Src) (words : List (BitVec 32)) (s : Sys2Proof.Machine.State) (h_s : Keeps u0 s) :
    KeepsOut u0 (execEngineFrequency src words s) := by
  unfold execEngineFrequency
  apply KeepsOut.next
  apply State.writeEngineFrequency_keeps
  assumption

theorem State.writeEngineSpread_keeps {u0 : State} (s : Sys2Proof.Machine.State) (k : Sys2Proof.SessKey) (kport : Nat) (words : List (BitVec 32)) (h_s : Keeps u0 s) :
    Keeps u0 (State.writeEngineSpread s k kport words) := by
  unfold State.writeEngineSpread
  apply State.writeReq_keeps
  · assumption
  · intro y0 h1
    apply State.startEngSeq_keeps
    assumption

theorem execEngineSpread_keeps {u0 : State} (src : Sys2Proof.Src) (words : List (BitVec 32)) (s : Sys2Proof.Machine.State) (h_s : Keeps u0 s) :
    KeepsOut u0 (execEngineSpread src words s) := by
  unfold execEngineSpread
  apply KeepsOut.next
  apply State.writeEngineSpread_keeps
  assumption

theorem execEngineClockStop_keeps {u0 : State} (s : Sys2Proof.Machine.State) (h_s : Keeps u0 s) :
    KeepsOut u0 (execEngineClockStop s) := by
  unfold execEngineClockStop
  apply KeepsOut.next
  split
  · apply Keeps.ite
    · extract_lets l1 l2
      have h_l1 : Keeps u0 l1 := by
        unfold l1
        apply State.finishTick_keeps
        assumption
      clear_value l1
      exact Keeps.same (s := l1) (by assumption) rfl
    · assumption
  · assumption

theorem State.engineLocked_keeps {u0 : State} (s : Sys2Proof.Machine.State) (h_s : Keeps u0 s) :
    Keeps u0 (State.engineLocked s) := by
  unfold State.engineLocked
  extract_lets l0 l1 l2
  have h_l0 : Keeps u0 l0 := by
    unfold l0
    apply State.event_keeps
    apply State.setObj_keeps
    assumption
  clear_value l0
  have h_l2 : Keeps u0 l2 := by
    unfold l2
    exact Keeps.same (s := l0) (by assumption) rfl
  clear_value l2
  split
  · extract_lets l61 l62 l63
    have h_l61 : Keeps u0 l61 := by
      unfold l61
      apply State.setObjs_keeps
      assumption
    clear_value l61
    have h_l63 : Keeps u0 l63 := by
      unfold l63
      apply State.rebudget_keeps
      exact Keeps.same (s := l61) (by assumption) rfl
    clear_value l63
    apply State.clearCause_keeps
    apply State.event_keeps
    apply State.unmute_keeps
    assumption
  · apply State.clearCause_keeps
    assumption

theorem State.mediaLocked_keeps {u0 : State} (s : Sys2Proof.Machine.State) (h_s : Keeps u0 s) :
    Keeps u0 (State.mediaLocked s) := by
  unfold State.mediaLocked
  extract_lets l0 l1 l2
  have h_l1 : Keeps u0 l1 := by
    unfold l1
    exact Keeps.same (s := s) (by assumption) rfl
  clear_value l1
  have h_l2 : Keeps u0 l2 := by
    unfold l2
    apply State.event_keeps
    apply State.setObj_keeps
    assumption
  clear_value l2
  apply Keeps.ite
  · assumption
  · apply State.event_keeps
    apply State.clearCause_keeps
    apply State.setObj_keeps
    assumption

theorem execPllLocked_keeps {u0 : State} (p : Fin 5) (s : Sys2Proof.Machine.State) (h_s : Keeps u0 s) :
    KeepsOut u0 (execPllLocked p s) := by
  unfold execPllLocked
  apply KeepsOut.next
  apply Keeps.ite
  · assumption
  · apply Keeps.ite
    · apply State.mediaLocked_keeps
      assumption
    · apply Keeps.ite
      · apply State.engineLocked_keeps
        assumption
      · apply State.event_keeps
        apply State.setObj_keeps
        assumption

theorem State.pllGated_keeps {u0 : State} (s : Sys2Proof.Machine.State) (p : Nat) (h_s : Keeps u0 s) :
    Keeps u0 (State.pllGated s p) := by
  unfold State.pllGated
  extract_lets l0 l1 l2
  have h_l0 : Keeps u0 l0 := by
    unfold l0
    apply State.event_keeps
    apply State.count_keeps
    apply State.setObj_keeps
    assumption
  clear_value l0
  have h_l2 : Keeps u0 l2 := by
    unfold l2
    exact Keeps.same (s := l0) (by assumption) rfl
  clear_value l2
  apply Keeps.ite
  · apply State.raiseCause_keeps
    assumption
  · apply Keeps.ite
    · apply foldl_keeps
      · intro x60 a61 h62
        apply State.linkDown_keeps
        assumption
      · assumption
    · assumption

theorem execPllLockLost_keeps {u0 : State} (p : Fin 5) (s : Sys2Proof.Machine.State) (h_s : Keeps u0 s) :
    KeepsOut u0 (execPllLockLost p s) := by
  unfold execPllLockLost
  apply KeepsOut.next
  apply Keeps.ite
  · apply Keeps.ite
    · apply State.raiseCause_keeps
      apply State.holdover_keeps
      apply State.event_keeps
      assumption
    · assumption
  · apply Keeps.ite
    · apply State.pllGated_keeps
      assumption
    · assumption

theorem State.refLost_keeps {u0 : State} (s : Sys2Proof.Machine.State) (h_s : Keeps u0 s) :
    Keeps u0 (State.refLost s) := by
  unfold State.refLost
  extract_lets l0 l1
  have h_l0 : Keeps u0 l0 := by
    unfold l0
    apply State.event_keeps
    apply State.setObj_keeps
    assumption
  clear_value l0
  have h_l1 : Keeps u0 l1 := by
    unfold l1
    apply foldl_keeps
    · intro x60 a61 h62
      apply Keeps.ite
      · apply State.pllGated_keeps
        assumption
      · assumption
    · assumption
  clear_value l1
  apply Keeps.ite
  · apply Keeps.ite
    · apply State.holdWord_keeps
      assumption
    · apply State.holdover_keeps
      assumption
  · assumption

theorem execRefLost_keeps {u0 : State} (s : Sys2Proof.Machine.State) (h_s : Keeps u0 s) :
    KeepsOut u0 (execRefLost s) := by
  unfold execRefLost
  apply KeepsOut.next
  apply Keeps.ite
  · apply State.refLost_keeps
    assumption
  · assumption

theorem execRefRestored_keeps {u0 : State} (s : Sys2Proof.Machine.State) (h_s : Keeps u0 s) :
    KeepsOut u0 (execRefRestored s) := by
  unfold execRefRestored
  apply KeepsOut.next
  apply Keeps.ite
  · extract_lets l0 l1
    have h_l0 : Keeps u0 l0 := by
      unfold l0
      apply State.event_keeps
      apply State.setObj_keeps
      assumption
    clear_value l0
    have h_l1 : Keeps u0 l1 := by
      unfold l1
      apply foldl_keeps
      · intro x60 a61 h62
        apply Keeps.ite
        · apply State.setObj_keeps
          assumption
        · assumption
      · assumption
    clear_value l1
    apply Keeps.ite
    · apply State.selectSource_keeps
      assumption
    · assumption
  · assumption

theorem State.writeClkOut_keeps {u0 : State} (s : Sys2Proof.Machine.State) (k : Sys2Proof.SessKey) (kport : Nat) (n : Fin 4) (words : List (BitVec 32)) (h_s : Keeps u0 s) :
    Keeps u0 (State.writeClkOut s k kport n words) := by
  unfold State.writeClkOut
  extract_lets l0 l1 l2
  apply State.writeReq_keeps
  · assumption
  · intro y60 h61
    apply State.setObj_keeps
    assumption

theorem execClkOutConfig_keeps {u0 : State} (src : Sys2Proof.Src) (n : Fin 4) (words : List (BitVec 32)) (s : Sys2Proof.Machine.State) (h_s : Keeps u0 s) :
    KeepsOut u0 (execClkOutConfig src n words s) := by
  unfold execClkOutConfig
  apply KeepsOut.next
  apply State.writeClkOut_keeps
  assumption

theorem State.perStart_keeps {u0 : State} (s : Sys2Proof.Machine.State) (l : List Sys2Proof.Machine.PerRec) (h_s : Keeps u0 s) :
    Keeps u0 (State.perStart s l) := by
  unfold State.perStart
  apply State.setObj_keeps
  exact Keeps.same (s := s) (by assumption) rfl

theorem State.modPb_keeps {u0 : State} (s : Sys2Proof.Machine.State) (f : Sys2Proof.Machine.Patchbay → Sys2Proof.Machine.Patchbay) (h_s : Keeps u0 s) :
    Keeps u0 (State.modPb s f) := by
  unfold State.modPb
  exact Keeps.same (s := s) (by assumption) rfl

theorem State.pbWrite_keeps {u0 : State} (s : Sys2Proof.Machine.State) (a : Nat) (v : Nat) (h_s : Keeps u0 s) :
    Keeps u0 (State.pbWrite s a v) := by
  unfold State.pbWrite
  extract_lets l0 l1 l2 l3 l4
  apply Keeps.ite
  · apply State.modPb_keeps
    assumption
  · apply Keeps.ite
    · apply Keeps.ite
      · assumption
      · apply State.modPb_keeps
        assumption
    · apply Keeps.ite
      · apply State.modPb_keeps
        assumption
      · apply Keeps.ite
        · apply State.modPb_keeps
          assumption
        · apply Keeps.ite
          · apply foldl_keeps
            · intro x60 a61 h62
              apply State.modPb_keeps
              assumption
            · assumption
          · assumption

theorem State.pbApply_keeps {u0 : State} (s : Sys2Proof.Machine.State) (h_s : Keeps u0 s) :
    Keeps u0 (State.pbApply s) := by
  unfold State.pbApply
  apply Keeps.ite
  · apply foldl_keeps
    · intro x0 a1 h2
      apply State.pbWrite_keeps
      assumption
    · assumption
  · assumption

theorem State.pbOutput_keeps {u0 : State} (s : Sys2Proof.Machine.State) (o : Nat) (h_s : Keeps u0 s) :
    Keeps u0 (State.pbOutput s o) := by
  unfold State.pbOutput
  extract_lets l0 l1 l2 l3 l4 l5 l6 l7 l8 l9 l10 l11 l12
  have h_l10 : Keeps u0 l10 := by
    unfold l10
    apply State.modPb_keeps
    assumption
  clear_value l10
  have h_l11 : Keeps u0 l11 := by
    unfold l11
    apply State.store_keeps
    assumption
  clear_value l11
  exact Keeps.same (s := l11) (by assumption) rfl

theorem State.patchbayTick_keeps {u0 : State} (s : Sys2Proof.Machine.State) (h_s : Keeps u0 s) :
    Keeps u0 (State.patchbayTick s) := by
  unfold State.patchbayTick
  extract_lets l0 l1 l2 l3
  have h_l2 : Keeps u0 l2 := by
    unfold l2
    apply foldl_keeps
    · intro x60 a61 h62
      apply State.pbOutput_keeps
      assumption
    · assumption
  clear_value l2
  have h_l3 : Keeps u0 l3 := by
    unfold l3
    apply State.modPb_keeps
    assumption
  clear_value l3
  apply State.setObj_keeps
  apply State.modFault_keeps
  assumption

theorem execMeterWindow_keeps {u0 : State} (s : Sys2Proof.Machine.State) (h_s : Keeps u0 s) :
    KeepsOut u0 (execMeterWindow s) := by
  unfold execMeterWindow
  extract_lets l0 l1
  have h_l1 : Keeps u0 l1 := by
    unfold l1
    apply foldl_keeps
    · intro x60 a61 h62
      apply State.setObjs_keeps
      assumption
    · assumption
  clear_value l1
  apply KeepsOut.next
  apply Keeps.ite
  · apply State.modPb_keeps
    assumption
  · assumption

theorem State.pend_keeps {u0 : State} (s : Sys2Proof.Machine.State) (a : Nat) (v : Nat) (h_s : Keeps u0 s) :
    Keeps u0 (State.pend s a v) := by
  unfold State.pend
  exact Keeps.same (s := s) (by assumption) rfl

theorem State.takePool_keeps {u0 : State} (s : State) (a v : Nat) (h_s : Keeps u0 s) : Keeps u0 (s.takePool a v) := by
  unfold State.takePool
  exact Keeps.ite (State.setObj_keeps _ _ _ h_s) h_s

theorem State.writePb_keeps {u0 : State} (s : Sys2Proof.Machine.State) (k : Sys2Proof.SessKey) (kport : Nat) (a : Nat) (words : List (BitVec 32)) (h_s : Keeps u0 s) :
    Keeps u0 (State.writePb s k kport a words) := by
  unfold State.writePb
  extract_lets l0
  apply State.writeReq_keeps
  · assumption
  · intro y60 h61
    apply State.pend_keeps
    apply State.takePool_keeps
    assumption

theorem execCrossGain_keeps {u0 : State} (src : Sys2Proof.Src) (o : Fin 1024) (k : Fin 16) (words : List (BitVec 32)) (s : Sys2Proof.Machine.State) (h_s : Keeps u0 s) :
    KeepsOut u0 (execCrossGain src o k words s) := by
  unfold execCrossGain
  apply KeepsOut.next
  apply State.writePb_keeps
  assumption

theorem execCrossSource_keeps {u0 : State} (src : Sys2Proof.Src) (o : Fin 1024) (k : Fin 16) (words : List (BitVec 32)) (s : Sys2Proof.Machine.State) (h_s : Keeps u0 s) :
    KeepsOut u0 (execCrossSource src o k words s) := by
  unfold execCrossSource
  apply KeepsOut.next
  apply State.writePb_keeps
  assumption

theorem execOutputDelay_keeps {u0 : State} (src : Sys2Proof.Src) (o : Fin 1024) (words : List (BitVec 32)) (s : Sys2Proof.Machine.State) (h_s : Keeps u0 s) :
    KeepsOut u0 (execOutputDelay src o words s) := by
  unfold execOutputDelay
  apply KeepsOut.next
  apply State.writePb_keeps
  assumption

theorem execDelayReserve_keeps {u0 : State} (src : Sys2Proof.Src) (o : Fin 1024) (words : List (BitVec 32)) (s : Sys2Proof.Machine.State) (h_s : Keeps u0 s) :
    KeepsOut u0 (execDelayReserve src o words s) := by
  unfold execDelayReserve
  apply KeepsOut.next
  apply State.writePb_keeps
  assumption

theorem execEqBand_keeps {u0 : State} (src : Sys2Proof.Src) (o : Fin 1024) (b : Fin 8) (words : List (BitVec 32)) (s : Sys2Proof.Machine.State) (h_s : Keeps u0 s) :
    KeepsOut u0 (execEqBand src o b words s) := by
  unfold execEqBand
  apply KeepsOut.next
  apply State.writePb_keeps
  assumption

theorem execSourceGroup_keeps {u0 : State} (src : Sys2Proof.Src) (i : Fin 64) (words : List (BitVec 32)) (s : Sys2Proof.Machine.State) (h_s : Keeps u0 s) :
    KeepsOut u0 (execSourceGroup src i words s) := by
  unfold execSourceGroup
  apply KeepsOut.next
  apply State.writePb_keeps
  assumption

theorem State.sendTable_keeps {u0 : State} (s : Sys2Proof.Machine.State) (h_s : Keeps u0 s) :
    Keeps u0 (State.sendTable s) := by
  unfold State.sendTable
  extract_lets l0 l1 l2
  have h_l1 : Keeps u0 l1 := by
    unfold l1
    apply State.setObj_keeps
    assumption
  clear_value l1
  have h_l2 : Keeps u0 l2 := by
    unfold l2
    split
    · assumption
    · apply State.event_keeps
      assumption
    · apply State.event_keeps
      assumption
  clear_value l2
  split
  · apply State.perStart_keeps
    assumption
  · assumption

theorem State.patchbayBegin_keeps {u0 : State} (s : Sys2Proof.Machine.State) (h_s : Keeps u0 s) :
    Keeps u0 (State.patchbayBegin s) := by
  unfold State.patchbayBegin
  apply State.setObjs_keeps
  assumption

theorem State.patchbayStop_keeps {u0 : State} (s : Sys2Proof.Machine.State) (h_s : Keeps u0 s) :
    Keeps u0 (State.patchbayStop s) := by
  unfold State.patchbayStop
  apply Keeps.ite
  · assumption
  · extract_lets l0 l1
    have h_l0 : Keeps u0 l0 := by
      unfold l0
      apply State.setObj_keeps
      assumption
    clear_value l0
    exact Keeps.same (s := l0) (by assumption) rfl

theorem State.restorePb_keeps {u0 : State} (s : Sys2Proof.Machine.State) (h_s : Keeps u0 s) :
    Keeps u0 (State.restorePb s) := by
  unfold State.restorePb
  apply foldl_keeps
  · intro x0 a1 h2
    apply State.writeReq_keeps
    · assumption
    · intro y3 h4
      exact Keeps.same (s := (y3.takePool a1.1 (wordsNat a1.2)).setObj a1.1 (wordsNat a1.2))
        (State.setObj_keeps _ _ _ (State.takePool_keeps _ _ _ h4)) rfl
  · assumption

theorem State.patchbayGo_keeps {u0 : State} (s : Sys2Proof.Machine.State) (sap0 : Bool) (h_s : Keeps u0 s) :
    Keeps u0 (State.patchbayGo s sap0) := by
  unfold State.patchbayGo
  extract_lets l0 l1 l2 l3 l4 l5 l6
  have h_l1 : Keeps u0 l1 := by
    unfold l1
    apply Keeps.ite
    · assumption
    · apply State.rebudget_keeps
      apply State.setObjs_keeps
      assumption
  clear_value l1
  have h_l2 : Keeps u0 l2 := by
    unfold l2
    apply foldl_keeps
    · exact fun x p h => State.enablePort_keeps x p h
    · assumption
  clear_value l2
  have h_l3 : Keeps u0 l3 := by
    unfold l3
    apply Keeps.ite
    · apply State.selectSource_keeps
      apply State.setObj_keeps
      assumption
    · apply Keeps.ite
      · apply State.selectSource_keeps
        apply State.setObjs_keeps
        assumption
      · apply State.selectSource_keeps
        apply State.setObj_keeps
        assumption
  clear_value l3
  have h_l4 : Keeps u0 l4 := by
    unfold l4
    apply State.restorePb_keeps
    assumption
  clear_value l4
  have h_l6 : Keeps u0 l6 := by
    unfold l6
    exact Keeps.same (s := l4) (by assumption) rfl
  clear_value l6
  apply State.unmute_keeps
  apply State.unmute_keeps
  apply State.setObj_keeps
  assumption

theorem execPatchbayStart_keeps {u0 : State} (sap0 : Bool) (s : Sys2Proof.Machine.State) (h_s : Keeps u0 s) :
    KeepsOut u0 (execPatchbayStart sap0 s) := by
  unfold execPatchbayStart
  apply KeepsOut.next
  apply Keeps.ite
  · assumption
  · extract_lets l0
    have h_l0 : Keeps u0 l0 := by
      unfold l0
      apply Keeps.ite
      · apply State.sendTable_keeps
        assumption
      · assumption
    clear_value l0
    apply Keeps.ite
    · assumption
    · apply State.patchbayGo_keeps
      assumption

theorem State.burn_keeps {u0 : State} (s : State) (b : Nat) (h_s : Keeps u0 s) : Keeps u0 (s.burn b) := by
  unfold State.burn
  exact h_s.step (fun i => ⟨i.mem, i.flash, i.objs, i.queue, i.log, i.record, i.events, i.evHist, i.history, i.fwQueue⟩)
    (fun x hx => mem_setAdd _ _ _ hx) rfl

theorem State.loadFuses_keeps {u0 : State} (s : Sys2Proof.Machine.State) (h_s : Keeps u0 s) :
    Keeps u0 (State.loadFuses s) := by
  unfold State.loadFuses
  apply State.setObjs_keeps
  assumption

theorem State.verifyImage_keeps {u0 : State} (s : State) (h payload : List Byte) (h_s : Keeps u0 s) :
    Keeps u0 (s.verifyImage h payload).2 := by
  unfold State.verifyImage
  extract_lets l0 l1 l2
  have h_l0 : Keeps u0 l0 := State.storeBytes_keeps _ _ _ h_s
  clear_value l0
  apply Keeps.iteSnd
  · exact h_l0
  · cases l2 with
    | none => exact State.zeroRange_keeps _ _ _ h_l0
    | some p =>
      have h2 := State.storeBytes_keeps l0 payloadBase p h_l0
      exact Keeps.iteSnd h2 h2

theorem State.startImage_keeps {u0 : State} (s : Sys2Proof.Machine.State) (slot : Nat) (h : List Sys2Proof.Byte) (confirmed : Bool) (xip : Bool) (h_s : Keeps u0 s) :
    Keeps u0 (State.startImage s slot h confirmed xip) := by
  unfold State.startImage
  extract_lets l0 l1 l2 l3
  have h_l0 : Keeps u0 l0 := by
    unfold l0
    apply State.setObjs_keeps
    assumption
  clear_value l0
  have h_l3 : Keeps u0 l3 := by
    unfold l3
    exact Keeps.same (s := l0) (by assumption) rfl
  clear_value l3
  apply State.event_keeps
  apply State.makeStatic_keeps
  apply State.makeStatic_keeps
  assumption

theorem State.useTrial_keeps {u0 : State} (s : Sys2Proof.Machine.State) (i : Nat) (h : List Sys2Proof.Byte) (h_s : Keeps u0 s) :
    Keeps u0 (State.useTrial s i h) := by
  unfold State.useTrial
  extract_lets l0 l1
  apply Keeps.ite
  · assumption
  · apply State.flashProgram_keeps
    assumption

theorem State.trySlot_keeps {u0 : State} (s : Sys2Proof.Machine.State) (mark : Bool) (i : Nat) (h_s : Keeps u0 s) :
    Keeps u0 (State.trySlot s mark i).2 := by
  unfold State.trySlot
  extract_lets l0 l1 l2 l3
  have h_l1 : Keeps u0 l1 := by
    unfold l1
    apply State.noteFlash_keeps
    apply Keeps.ite
    · apply State.useTrial_keeps
      assumption
    · assumption
  clear_value l1
  have h_l2 : Keeps u0 l2.2 := by
    unfold l2
    apply Keeps.iteSnd
    · try dsimp only
      assumption
    · apply State.verifyImage_keeps
      assumption
  clear_value l2
  have h_l3 : Keeps u0 l3 := by
    unfold l3
    apply State.setObj_keeps
    assumption
  clear_value l3
  apply Keeps.iteSnd
  · try dsimp only
    apply State.startImage_keeps
    assumption
  · try dsimp only
    apply State.event_keeps
    assumption

theorem State.slotSelect_keeps {u0 : State} (s : Sys2Proof.Machine.State) (only : Option Nat) (h_s : Keeps u0 s) :
    Keeps u0 (State.slotSelect s only).2 := by
  unfold State.slotSelect
  extract_lets l0 l1
  have h_l0 : Keeps u0 l0 := by
    unfold l0
    apply foldl_keeps
    · intro x60 a61 h62
      apply State.setObj_keeps
      apply State.noteFlash_keeps
      assumption
    · assumption
  clear_value l0
  apply foldl_snd_keeps
  · intro x63 a64 h65
    apply Keeps.iteSnd
    · try dsimp only
      apply State.setObj_keeps
      assumption
    · apply State.trySlot_keeps
      assumption
  · try dsimp only
    assumption

theorem State.stopGraph_keeps {u0 : State} (s : Sys2Proof.Machine.State) (h_s : Keeps u0 s) :
    Keeps u0 (State.stopGraph s) := by
  unfold State.stopGraph
  extract_lets l0 l1 l2 l3 l4
  have h_l0 : Keeps u0 l0 := by
    unfold l0
    apply Keeps.ite
    · apply State.finishTick_keeps
      assumption
    · assumption
  clear_value l0
  have h_l1 : Keeps u0 l1 := by
    unfold l1
    apply Keeps.ite
    · apply State.abandon_keeps
      assumption
    · assumption
  clear_value l1
  have h_l2 : Keeps u0 l2 := by
    unfold l2
    apply State.allEngines_keeps
    assumption
  clear_value l2
  have h_l4 : Keeps u0 l4 := by
    unfold l4
    exact Keeps.same (s := l2) (by assumption) rfl
  clear_value l4
  apply Keeps.ite
  · apply State.setObj_keeps
    assumption
  · assumption

theorem State.toPatchbay_keeps {u0 : State} (s : Sys2Proof.Machine.State) (h_s : Keeps u0 s) :
    Keeps u0 (State.toPatchbay s) := by
  unfold State.toPatchbay
  apply State.patchbayBegin_keeps
  apply State.stopGraph_keeps
  apply State.mute_keeps
  assumption

theorem State.romLoader_keeps {u0 : State} (s : Sys2Proof.Machine.State) (h_s : Keeps u0 s) :
    Keeps u0 (State.romLoader s) := by
  unfold State.romLoader
  apply State.setObj_keeps
  exact Keeps.same (s := s) (by assumption) rfl

theorem State.enterRecovery_keeps {u0 : State} (s : Sys2Proof.Machine.State) (cause : Nat) (h_s : Keeps u0 s) :
    Keeps u0 (State.enterRecovery s cause) := by
  unfold State.enterRecovery
  extract_lets l0
  have h_l0 : Keeps u0 l0 := by
    unfold l0
    apply Keeps.ite
    · apply State.setObj_keeps
      assumption
    · apply State.enterMode_keeps
      assumption
  clear_value l0
  apply State.toPatchbay_keeps
  apply State.romLoader_keeps
  apply State.event_keeps
  assumption

theorem State.advanceRollback_keeps {u0 : State} (s : Sys2Proof.Machine.State) (v : Nat) (fail : Option Nat) (h_s : Keeps u0 s) :
    Keeps u0 (State.advanceRollback s v fail) := by
  unfold State.advanceRollback
  extract_lets l0 l1 l2 l3 l4 l5
  have h_l3 : Keeps u0 l3 := by
    unfold l3
    apply foldl_keeps
    · intro x60 a61 h62
      apply State.burn_keeps
      assumption
    · assumption
  clear_value l3
  have h_l4 : Keeps u0 l4 := by
    unfold l4
    apply Keeps.ite
    · apply State.count_keeps
      assumption
    · assumption
  clear_value l4
  have h_l5 : Keeps u0 l5 := by
    unfold l5
    apply State.setObj_keeps
    assumption
  clear_value l5
  apply Keeps.ite
  · assumption
  · apply State.event_keeps
    assumption

theorem State.confirmImage_keeps {u0 : State} (s : Sys2Proof.Machine.State) (h_s : Keeps u0 s) :
    Keeps u0 (State.confirmImage s) := by
  unfold State.confirmImage
  extract_lets l0 l1 l2 l3 l4 l5 l6
  have h_l3 : Keeps u0 l3 := by
    unfold l3
    apply Keeps.ite
    · assumption
    · apply State.event_keeps
      apply State.flashProgram_keeps
      assumption
  clear_value l3
  have h_l5 : Keeps u0 l5 := by
    unfold l5
    apply Keeps.ite
    · apply State.event_keeps
      apply State.flashProgram_keeps
      assumption
    · assumption
  clear_value l5
  have h_l6 : Keeps u0 l6 := by
    unfold l6
    apply Keeps.ite
    · apply State.advanceRollback_keeps
      assumption
    · assumption
  clear_value l6
  apply State.setObjs_keeps
  assumption

theorem State.writeSlot_keeps {u0 : State} (s : Sys2Proof.Machine.State) (slot : Nat) (img : List Sys2Proof.Byte) (commit : Bool) (h_s : Keeps u0 s) :
    Keeps u0 (State.writeSlot s slot img commit) := by
  unfold State.writeSlot
  extract_lets l0 l1 l2
  have h_l1 : Keeps u0 l1 := by
    unfold l1
    apply State.flashErase_keeps
    apply State.flashErase_keeps
    assumption
  clear_value l1
  have h_l2 : Keeps u0 l2 := by
    unfold l2
    apply State.setObj_keeps
    apply State.flashProgram_keeps
    assumption
  clear_value l2
  apply Keeps.ite
  · apply State.dropLines_keeps
    apply State.flashProgram_keeps
    apply State.flashProgram_keeps
    assumption
  · apply State.dropLines_keeps
    assumption

theorem State.writeSnapshot_keeps {u0 : State} (s : Sys2Proof.Machine.State) (h_s : Keeps u0 s) :
    Keeps u0 (State.writeSnapshot s) := by
  unfold State.writeSnapshot
  extract_lets l0 l1 l2
  have h_l0 : Keeps u0 l0 := by
    unfold l0
    apply State.keepWrite_keeps
    assumption
  clear_value l0
  have h_l1 : Keeps u0 l1 := by
    unfold l1
    apply State.keepWrite_keeps
    assumption
  clear_value l1
  apply Keeps.ite
  · apply State.setObj_keeps
    exact Keeps.same (s := l1) (by assumption) rfl
  · assumption

theorem State.snapshotDue_keeps {u0 : State} (s : Sys2Proof.Machine.State) (h_s : Keeps u0 s) :
    Keeps u0 (State.snapshotDue s) := by
  unfold State.snapshotDue
  apply Keeps.ite
  · assumption
  · apply Keeps.ite
    · apply State.event_keeps
      apply State.count_keeps
      assumption
    · apply State.writeSnapshot_keeps
      assumption

theorem State.keepStart_keeps {u0 : State} (s : Sys2Proof.Machine.State) (h_s : Keeps u0 s) :
    Keeps u0 (State.keepStart s) := by
  unfold State.keepStart
  extract_lets l0 l1 l2 l3
  have h_l3 : Keeps u0 l3 := by
    unfold l3
    apply State.count_keeps
    apply State.setObj_keeps
    assumption
  clear_value l3
  apply foldl_keeps
  · intro x60 a61 h62
    apply State.event_keeps
    assumption
  · assumption

theorem State.keepRepairs_keeps {u0 : State} (s : Sys2Proof.Machine.State) (h_s : Keeps u0 s) :
    Keeps u0 (State.keepRepairs s) := by
  unfold State.keepRepairs
  split
  · assumption
  · extract_lets l2 l3
    apply State.count_keeps
    apply State.setObj_keeps
    exact Keeps.same (s := s) (by assumption) rfl

theorem State.sendRsp_keeps {u0 : State} (s : Sys2Proof.Machine.State) (dev : Nat) (session : Nat) (tag : Nat) (code : Nat) (a : Nat) (words : List (BitVec 32)) (h_s : Keeps u0 s) :
    Keeps u0 (State.sendRsp s dev session tag code a words) := by
  unfold State.sendRsp
  apply State.sendRouted_keeps
  assumption

theorem State.readReady_keeps {u0 : State} (s : Sys2Proof.Machine.State) (code : Nat) (words : List (BitVec 32)) (h_s : Keeps u0 s) :
    Keeps u0 (State.readReady s code words) := by
  unfold State.readReady
  exact Keeps.same (s := s) (by assumption) rfl

theorem State.routeAnswer_keeps {u0 : State} (s : Sys2Proof.Machine.State) (r : Sys2Proof.Machine.FwReq) (h_s : Keeps u0 s) :
    Keeps u0 (State.routeAnswer s r) := by
  unfold State.routeAnswer
  split
  · assumption
  · split
    · apply State.sendRsp_keeps
      assumption
    · apply Keeps.ite
      · assumption
      · apply State.readReady_keeps
        assumption
    · assumption

theorem State.giveStaging_keeps {u0 : State} (s : Sys2Proof.Machine.State) (n : Nat) (h_s : Keeps u0 s) :
    Keeps u0 (State.giveStaging s n) := by
  unfold State.giveStaging
  apply State.setObj_keeps
  assumption

theorem State.takeStaging_keeps {u0 : State} (s : Sys2Proof.Machine.State) (n : Nat) (h_s : Keeps u0 s) :
    Keeps u0 (State.takeStaging s n) := by
  unfold State.takeStaging
  apply State.setObj_keeps
  assumption

theorem State.closeXfer_keeps {u0 : State} (s : Sys2Proof.Machine.State) (k : Sys2Proof.SessKey) (keep : Nat) (h_s : Keeps u0 s) :
    Keeps u0 (State.closeXfer s k keep) := by
  unfold State.closeXfer
  extract_lets l0
  apply Keeps.ite
  · apply State.setSession_keeps
    apply State.giveStaging_keeps
    assumption
  · assumption

theorem State.discardOpen_keeps {u0 : State} (s : Sys2Proof.Machine.State) (k : Sys2Proof.SessKey) (h_s : Keeps u0 s) :
    Keeps u0 (State.discardOpen s k) := by
  unfold State.discardOpen
  apply Keeps.ite
  · apply State.count_keeps
    apply State.closeXfer_keeps
    assumption
  · assumption

theorem State.answerUnit_keeps {u0 : State} (s : Sys2Proof.Machine.State) (k : Sys2Proof.SessKey) (addr : Nat) (code : Nat) (words : List (BitVec 32)) (h_s : Keeps u0 s) :
    Keeps u0 (State.answerUnit s k addr code words) := by
  unfold State.answerUnit
  extract_lets l0 l1
  have h_l0 : Keeps u0 l0 := by
    unfold l0
    apply State.respond_keeps
    assumption
  clear_value l0
  apply Keeps.ite
  · apply State.setSession_keeps
    assumption
  · assumption

theorem State.refuseEnd_keeps {u0 : State} (s : Sys2Proof.Machine.State) (k : Sys2Proof.SessKey) (kport : Nat) (addr : Nat) (x : Sys2Proof.Machine.Xfer) (c : Nat) (h_s : Keeps u0 s) :
    Keeps u0 (State.refuseEnd s k kport addr x c) := by
  unfold State.refuseEnd
  extract_lets l0
  have h_l0 : Keeps u0 l0 := by
    unfold l0
    apply Keeps.ite
    · assumption
    · apply State.closeXfer_keeps
      assumption
  clear_value l0
  apply State.answerUnit_keeps
  apply Keeps.ite
  · apply State.refuseStrict_keeps
    assumption
  · apply State.journal_keeps
    assumption

theorem State.abortXfer_keeps {u0 : State} (s : Sys2Proof.Machine.State) (k : Sys2Proof.SessKey) (kport : Nat) (addr : Nat) (x : Sys2Proof.Machine.Xfer) (c : Nat) (h_s : Keeps u0 s) :
    Keeps u0 (State.abortXfer s k kport addr x c) := by
  unfold State.abortXfer
  extract_lets l0
  have h_l0 : Keeps u0 l0 := by
    unfold l0
    apply Keeps.ite
    · apply State.closeXfer_keeps
      assumption
    · assumption
  clear_value l0
  apply State.answerUnit_keeps
  apply State.journal_keeps
  assumption

theorem State.refuseUnit_keeps {u0 : State} (s : Sys2Proof.Machine.State) (k : Sys2Proof.SessKey) (kport : Nat) (addr : Nat) (kind : Nat) (c : Nat) (h_s : Keeps u0 s) :
    Keeps u0 (State.refuseUnit s k kport addr kind c) := by
  unfold State.refuseUnit
  split
  · apply State.answerUnit_keeps
    assumption
  · apply Keeps.ite
    · apply State.refuseEnd_keeps
      assumption
    · apply Keeps.ite
      · apply State.abortXfer_keeps
        assumption
      · apply State.answerUnit_keeps
        assumption

theorem State.refuse_keeps {u0 : State} (s : Sys2Proof.Machine.State) (r : Sys2Proof.Machine.FwReq) (code : Nat) (h_s : Keeps u0 s) :
    Keeps u0 (State.refuse s r code) := by
  unfold State.refuse
  apply Keeps.ite
  · apply State.finishWrite_keeps
    · assumption
    · intro y0 h1
      dsimp only [id]
      assumption
  · apply Keeps.ite
    · apply State.refuseUnit_keeps
      assumption
    · apply State.respond_keeps
      assumption

theorem State.writeKeyRevoke_keeps {u0 : State} (s : Sys2Proof.Machine.State) (k : Sys2Proof.SessKey) (kport : Nat) (words : List (BitVec 32)) (h_s : Keeps u0 s) :
    Keeps u0 (State.writeKeyRevoke s k kport words) := by
  unfold State.writeKeyRevoke
  extract_lets l0
  apply State.writeReq_keeps
  · assumption
  · intro y60 h61
    apply State.event_keeps
    apply State.setObj_keeps
    apply State.burn_keeps
    assumption

theorem execKeyRevoke_keeps {u0 : State} (src : Sys2Proof.Src) (words : List (BitVec 32)) (s : Sys2Proof.Machine.State) (h_s : Keeps u0 s) :
    KeepsOut u0 (execKeyRevoke src words s) := by
  unfold execKeyRevoke
  apply KeepsOut.next
  apply State.writeKeyRevoke_keeps
  assumption

theorem State.writeRollback_keeps {u0 : State} (s : Sys2Proof.Machine.State) (k : Sys2Proof.SessKey) (kport : Nat) (words : List (BitVec 32)) (fail : Option Nat) (h_s : Keeps u0 s) :
    Keeps u0 (State.writeRollback s k kport words fail) := by
  unfold State.writeRollback
  extract_lets l0
  apply State.writeReq_keeps
  · assumption
  · intro y60 h61
    apply State.advanceRollback_keeps
    assumption

theorem execRollbackAdvance_keeps {u0 : State} (src : Sys2Proof.Src) (words : List (BitVec 32)) (fail : Option (Fin 128)) (s : Sys2Proof.Machine.State) (h_s : Keeps u0 s) :
    KeepsOut u0 (execRollbackAdvance src words fail s) := by
  unfold execRollbackAdvance
  apply KeepsOut.next
  apply State.writeRollback_keeps
  assumption

theorem State.takeUpdate_keeps {u0 : State} (s : Sys2Proof.Machine.State) (img : List Sys2Proof.Byte) (h_s : Keeps u0 s) :
    Keeps u0 (State.takeUpdate s img) := by
  unfold State.takeUpdate
  apply State.setObjs_keeps
  exact Keeps.same (s := s) (by assumption) rfl

theorem State.dropUpdate_keeps {u0 : State} (s : Sys2Proof.Machine.State) (h_s : Keeps u0 s) :
    Keeps u0 (State.dropUpdate s) := by
  unfold State.dropUpdate
  apply State.setObj_keeps
  exact Keeps.same (s := s) (by assumption) rfl

theorem State.failUpdate_keeps {u0 : State} (s : Sys2Proof.Machine.State) (code : Nat) (h_s : Keeps u0 s) :
    Keeps u0 (State.failUpdate s code) := by
  unfold State.failUpdate
  apply State.event_keeps
  apply State.setObjs_keeps
  apply State.dropUpdate_keeps
  assumption

theorem execUpdateComplete_keeps {u0 : State} (readback : Bool) (s : Sys2Proof.Machine.State) (h_s : Keeps u0 s) :
    KeepsOut u0 (execUpdateComplete readback s) := by
  unfold execUpdateComplete
  apply KeepsOut.next
  apply Keeps.ite
  · assumption
  · extract_lets l0 l1
    have h_l1 : Keeps u0 l1 := by
      unfold l1
      apply State.writeSlot_keeps
      apply State.setObj_keeps
      assumption
    clear_value l1
    apply Keeps.ite
    · apply State.failUpdate_keeps
      assumption
    · apply Keeps.ite
      · apply State.setObj_keeps
        apply State.dropUpdate_keeps
        assumption
      · apply State.failUpdate_keeps
        assumption

theorem State.busyReq_keeps {u0 : State} (s : Sys2Proof.Machine.State) (r : Sys2Proof.Machine.FwReq) (h_s : Keeps u0 s) :
    Keeps u0 (State.busyReq s r) := by
  unfold State.busyReq
  extract_lets l0
  have h_l0 : Keeps u0 l0 := by
    unfold l0
    apply State.refuse_keeps
    exact Keeps.same (s := s) (by assumption) rfl
  clear_value l0
  apply State.routeAnswer_keeps
  exact Keeps.same (s := l0) (by assumption) rfl

theorem State.hullReset_keeps {u0 : State} (s : State) (h_s : Keeps u0 s) : Keeps u0 s.hullReset := by
  unfold State.hullReset
  extract_lets l0 l1 l2
  have h_l1 : Keeps u0 l1 :=
    foldl_keeps _ (fun x a h => State.busyReq_keeps _ _ h) (State.setObj_keeps _ _ _ (h_s.shrink (fwQueue := Nat.zero_le _)))
  clear_value l1
  have h_l2 : Keeps u0 l2 := by
    unfold l2
    split
    · apply State.abandon_keeps
      assumption
    · assumption
  clear_value l2
  apply State.setObj_keeps
  assumption

theorem State.romReentry_keeps {u0 : State} (s : Sys2Proof.Machine.State) (h_s : Keeps u0 s) :
    Keeps u0 (State.romReentry s) := by
  unfold State.romReentry
  apply Keeps.ite
  · extract_lets l0 l1
    have h_l1 : Keeps u0 l1.2 := by
      unfold l1
      apply State.slotSelect_keeps
      exact Keeps.same (s := s) (by assumption) rfl
    clear_value l1
    apply Keeps.ite
    · assumption
    · apply State.enterRecovery_keeps
      assumption
  · apply Keeps.ite
    · assumption
    · extract_lets l60
      have h_l60 : Keeps u0 l60.2 := by
        unfold l60
        apply State.slotSelect_keeps
        assumption
      clear_value l60
      apply Keeps.ite
      · assumption
      · apply State.enterRecovery_keeps
        assumption

theorem State.imagePageLost_keeps {u0 : State} (s : Sys2Proof.Machine.State) (page : Nat) (h_s : Keeps u0 s) :
    Keeps u0 (State.imagePageLost s page) := by
  unfold State.imagePageLost
  extract_lets l0
  have h_l0 : Keeps u0 l0.2 := by
    unfold l0
    apply State.slotSelect_keeps
    apply State.hullReset_keeps
    assumption
  clear_value l0
  apply Keeps.ite
  · apply State.reloaded_keeps
    assumption
  · apply State.enterRecovery_keeps
    assumption

theorem execPageRecovery_keeps {u0 : State} (s : State) (h_s : Keeps u0 s) : KeepsOut u0 (execPageRecovery s) := by
  unfold execPageRecovery
  apply KeepsOut.next
  split
  · assumption
  · rename_i page rest hq
    have hk : Keeps u0 ({ s with integ := { s.integ with queue := rest } } : State) := h_s.shrink (queue := by simp [hq])
    have h := State.handlePage_keeps _ page hk
    generalize ({ s with integ := { s.integ with queue := rest } } : State).handlePage page = t at h ⊢
    exact Keeps.ite (State.imagePageLost_keeps _ _ h) h

theorem State.activate_keeps {u0 : State} (s : Sys2Proof.Machine.State) (h_s : Keeps u0 s) :
    Keeps u0 (State.activate s) := by
  unfold State.activate
  apply State.romReentry_keeps
  apply State.hullReset_keeps
  exact Keeps.same (s := s) (by assumption) rfl

theorem State.writeActivate_keeps {u0 : State} (s : Sys2Proof.Machine.State) (k : Sys2Proof.SessKey) (kport : Nat) (words : List (BitVec 32)) (h_s : Keeps u0 s) :
    Keeps u0 (State.writeActivate s k kport words) := by
  unfold State.writeActivate
  apply State.writeReq_keeps
  · assumption
  · intro y0 h1
    apply State.activate_keeps
    assumption

theorem execUpdateActivate_keeps {u0 : State} (src : Sys2Proof.Src) (words : List (BitVec 32)) (s : Sys2Proof.Machine.State) (h_s : Keeps u0 s) :
    KeepsOut u0 (execUpdateActivate src words s) := by
  unfold execUpdateActivate
  apply KeepsOut.next
  apply State.writeActivate_keeps
  assumption

theorem execHullWatchdogExpiry_keeps {u0 : State} (s : Sys2Proof.Machine.State) (h_s : Keeps u0 s) :
    KeepsOut u0 (execHullWatchdogExpiry s) := by
  unfold execHullWatchdogExpiry
  apply KeepsOut.next
  apply Keeps.ite
  · assumption
  · extract_lets l0
    have h_l0 : Keeps u0 l0 := by
      unfold l0
      apply State.setObj_keeps
      assumption
    clear_value l0
    apply State.romReentry_keeps
    apply State.hullReset_keeps
    apply State.event_keeps
    assumption

theorem State.writeConfirm_keeps {u0 : State} (s : Sys2Proof.Machine.State) (k : Sys2Proof.SessKey) (kport : Nat) (words : List (BitVec 32)) (h_s : Keeps u0 s) :
    Keeps u0 (State.writeConfirm s k kport words) := by
  unfold State.writeConfirm
  apply State.writeReq_keeps
  · assumption
  · intro y0 h1
    apply Keeps.ite
    · apply State.confirmImage_keeps
      assumption
    · assumption

theorem execImageConfirm_keeps {u0 : State} (src : Sys2Proof.Src) (words : List (BitVec 32)) (s : Sys2Proof.Machine.State) (h_s : Keeps u0 s) :
    KeepsOut u0 (execImageConfirm src words s) := by
  unfold execImageConfirm
  apply KeepsOut.next
  apply State.writeConfirm_keeps
  assumption

theorem execConfirmDelayExpiry_keeps {u0 : State} (healthy : Bool) (s : Sys2Proof.Machine.State) (h_s : Keeps u0 s) :
    KeepsOut u0 (execConfirmDelayExpiry healthy s) := by
  unfold execConfirmDelayExpiry
  apply KeepsOut.next
  apply Keeps.ite
  · apply State.confirmImage_keeps
    assumption
  · assumption

theorem State.loaderVerify_keeps {u0 : State} (s : Sys2Proof.Machine.State) (h_s : Keeps u0 s) :
    Keeps u0 (State.loaderVerify s).2 := by
  unfold State.loaderVerify
  extract_lets l0 l1
  apply Keeps.iteSnd
  · try dsimp only
    assumption
  · apply State.verifyImage_keeps
    assumption

theorem State.loaderFail_keeps {u0 : State} (s : Sys2Proof.Machine.State) (code : Nat) (h_s : Keeps u0 s) :
    Keeps u0 (State.loaderFail s code) := by
  unfold State.loaderFail
  apply State.setObjs_keeps
  assumption

theorem State.loaderRun_keeps {u0 : State} (s : Sys2Proof.Machine.State) (h_s : Keeps u0 s) :
    Keeps u0 (State.loaderRun s) := by
  unfold State.loaderRun
  extract_lets l0 l1
  have h_l1 : Keeps u0 l1.2 := by
    unfold l1
    apply State.loaderVerify_keeps
    assumption
  clear_value l1
  apply Keeps.ite
  · apply State.setObjs_keeps
    apply State.startImage_keeps
    assumption
  · apply State.loaderFail_keeps
    assumption

theorem State.loaderProgram_keeps {u0 : State} (s : Sys2Proof.Machine.State) (readback : Bool) (h_s : Keeps u0 s) :
    Keeps u0 (State.loaderProgram s readback) := by
  unfold State.loaderProgram
  extract_lets l0 l1 l2 l3
  have h_l1 : Keeps u0 l1.2 := by
    unfold l1
    apply State.loaderVerify_keeps
    assumption
  clear_value l1
  have h_l3 : Keeps u0 l3 := by
    unfold l3
    apply State.writeSlot_keeps
    assumption
  clear_value l3
  apply Keeps.ite
  · apply State.loaderFail_keeps
    assumption
  · apply Keeps.ite
    · apply State.loaderFail_keeps
      assumption
    · apply Keeps.ite
      · apply State.loaderFail_keeps
        assumption
      · apply State.activate_keeps
        apply State.setObjs_keeps
        assumption

theorem State.writeLoader_keeps {u0 : State} (s : Sys2Proof.Machine.State) (k : Sys2Proof.SessKey) (kport : Nat) (words : List (BitVec 32)) (readback : Bool) (h_s : Keeps u0 s) :
    Keeps u0 (State.writeLoader s k kport words readback) := by
  unfold State.writeLoader
  extract_lets l0 l1 l2
  apply State.writeReq_keeps
  · assumption
  · intro y60 h61
    apply Keeps.ite
    · apply State.loaderRun_keeps
      assumption
    · apply Keeps.ite
      · apply State.loaderProgram_keeps
        assumption
      · apply State.zeroRange_keeps
        assumption

theorem execVerifyAndRun_keeps {u0 : State} (src : Sys2Proof.Src) (s : Sys2Proof.Machine.State) (h_s : Keeps u0 s) :
    KeepsOut u0 (execVerifyAndRun src s) := by
  unfold execVerifyAndRun
  apply KeepsOut.next
  apply State.writeLoader_keeps
  assumption

theorem execVerifyAndProgram_keeps {u0 : State} (src : Sys2Proof.Src) (readback : Bool) (s : Sys2Proof.Machine.State) (h_s : Keeps u0 s) :
    KeepsOut u0 (execVerifyAndProgram src readback s) := by
  unfold execVerifyAndProgram
  apply KeepsOut.next
  apply State.writeLoader_keeps
  assumption

theorem execStagingClear_keeps {u0 : State} (src : Sys2Proof.Src) (s : Sys2Proof.Machine.State) (h_s : Keeps u0 s) :
    KeepsOut u0 (execStagingClear src s) := by
  unfold execStagingClear
  apply KeepsOut.next
  apply State.writeLoader_keeps
  assumption

theorem State.writeSnapNow_keeps {u0 : State} (s : Sys2Proof.Machine.State) (k : Sys2Proof.SessKey) (kport : Nat) (words : List (BitVec 32)) (h_s : Keeps u0 s) :
    Keeps u0 (State.writeSnapNow s k kport words) := by
  unfold State.writeSnapNow
  apply State.writeReq_keeps
  · assumption
  · intro y0 h1
    apply State.snapshotDue_keeps
    assumption

theorem execKeepSnapshotNow_keeps {u0 : State} (src : Sys2Proof.Src) (words : List (BitVec 32)) (s : Sys2Proof.Machine.State) (h_s : Keeps u0 s) :
    KeepsOut u0 (execKeepSnapshotNow src words s) := by
  unfold execKeepSnapshotNow
  apply KeepsOut.next
  apply State.writeSnapNow_keeps
  assumption

theorem execKeepSnapshotPeriod_keeps {u0 : State} (s : Sys2Proof.Machine.State) (h_s : Keeps u0 s) :
    KeepsOut u0 (execKeepSnapshotPeriod s) := by
  unfold execKeepSnapshotPeriod
  apply KeepsOut.next
  apply Keeps.ite
  · apply State.snapshotDue_keeps
    assumption
  · assumption

theorem State.writeStartMode_keeps {u0 : State} (s : Sys2Proof.Machine.State) (k : Sys2Proof.SessKey) (kport : Nat) (words : List (BitVec 32)) (h_s : Keeps u0 s) :
    Keeps u0 (State.writeStartMode s k kport words) := by
  unfold State.writeStartMode
  extract_lets l0
  apply State.writeReq_keeps
  · assumption
  · intro y60 h61
    apply State.keepWrite_keeps
    apply State.setObj_keeps
    assumption

theorem execStartMode_keeps {u0 : State} (src : Sys2Proof.Src) (words : List (BitVec 32)) (s : Sys2Proof.Machine.State) (h_s : Keeps u0 s) :
    KeepsOut u0 (execStartMode src words s) := by
  unfold execStartMode
  apply KeepsOut.next
  apply State.writeStartMode_keeps
  assumption

theorem State.changeMode_keeps {u0 : State} (s : Sys2Proof.Machine.State) (m : Nat) (cause : Nat) (h_s : Keeps u0 s) :
    Keeps u0 (State.changeMode s m cause) := by
  unfold State.changeMode
  extract_lets l0 l1
  have h_l1 : Keeps u0 l1 := by
    unfold l1
    apply State.enterMode_keeps
    apply State.unmute_keeps
    assumption
  clear_value l1
  apply Keeps.ite
  · apply Keeps.ite
    · assumption
    · apply State.toPatchbay_keeps
      apply Keeps.ite
      · apply State.romLoader_keeps
        apply State.event_keeps
        assumption
      · assumption
  · apply Keeps.ite
    · apply State.patchbayStop_keeps
      apply State.mute_keeps
      assumption
    · assumption

theorem State.writeMode_keeps {u0 : State} (s : Sys2Proof.Machine.State) (k : Sys2Proof.SessKey) (kport : Nat) (words : List (BitVec 32)) (h_s : Keeps u0 s) :
    Keeps u0 (State.writeMode s k kport words) := by
  unfold State.writeMode
  extract_lets l0 l1 l2
  apply State.writeReq_keeps
  · assumption
  · intro y60 h61
    apply State.setObj_keeps
    exact Keeps.same (s := y60) (by assumption) rfl

theorem execModeRequest_keeps {u0 : State} (src : Sys2Proof.Src) (words : List (BitVec 32)) (s : Sys2Proof.Machine.State) (h_s : Keeps u0 s) :
    KeepsOut u0 (execModeRequest src words s) := by
  unfold execModeRequest
  apply KeepsOut.next
  apply State.writeMode_keeps
  assumption

theorem State.applyMode_keeps {u0 : State} (s : Sys2Proof.Machine.State) (h_s : Keeps u0 s) :
    Keeps u0 (State.applyMode s) := by
  unfold State.applyMode
  split
  · apply State.changeMode_keeps
    exact Keeps.same (s := s) (by assumption) rfl
  · assumption

theorem execPendingStartModeEntry_keeps {u0 : State} (s : Sys2Proof.Machine.State) (h_s : Keeps u0 s) :
    KeepsOut u0 (execPendingStartModeEntry s) := by
  unfold execPendingStartModeEntry
  extract_lets l0
  apply KeepsOut.next
  apply Keeps.ite
  · apply State.setObj_keeps
    apply State.changeMode_keeps
    assumption
  · assumption

theorem State.autoExit_keeps {u0 : State} (s : Sys2Proof.Machine.State) (h_s : Keeps u0 s) :
    Keeps u0 (State.autoExit s) := by
  unfold State.autoExit
  apply Keeps.ite
  · apply State.changeMode_keeps
    assumption
  · assumption

theorem State.muteIfCaused_keeps {u0 : State} (s : Sys2Proof.Machine.State) (h_s : Keeps u0 s) :
    Keeps u0 (State.muteIfCaused s) := by
  unfold State.muteIfCaused
  apply Keeps.ite
  · apply State.enterSafeMute_keeps
    assumption
  · apply Keeps.ite
    · apply State.mute_keeps
      assumption
    · assumption

theorem execMuteNAssert_keeps {u0 : State} (s : Sys2Proof.Machine.State) (h_s : Keeps u0 s) :
    KeepsOut u0 (execMuteNAssert s) := by
  unfold execMuteNAssert
  extract_lets l0 l1
  have h_l1 : Keeps u0 l1 := by
    unfold l1
    exact Keeps.same (s := s) (by assumption) rfl
  clear_value l1
  apply KeepsOut.next
  apply Keeps.ite
  · apply State.raiseCause_keeps
    assumption
  · assumption

theorem execMuteNRelease_keeps {u0 : State} (s : Sys2Proof.Machine.State) (h_s : Keeps u0 s) :
    KeepsOut u0 (execMuteNRelease s) := by
  unfold execMuteNRelease
  extract_lets l0 l1
  have h_l1 : Keeps u0 l1 := by
    unfold l1
    exact Keeps.same (s := s) (by assumption) rfl
  clear_value l1
  apply KeepsOut.next
  apply Keeps.ite
  · apply State.clearCause_keeps
    assumption
  · assumption

theorem State.noteTemp_keeps {u0 : State} (s : Sys2Proof.Machine.State) (t : BitVec 16) (h_s : Keeps u0 s) :
    Keeps u0 (State.noteTemp s t) := by
  unfold State.noteTemp
  extract_lets l0
  apply State.setObjs_keeps
  assumption

theorem State.warnTemp_keeps {u0 : State} (s : Sys2Proof.Machine.State) (t : BitVec 16) (h_s : Keeps u0 s) :
    Keeps u0 (State.warnTemp s t) := by
  unfold State.warnTemp
  apply Keeps.ite
  · apply State.event_keeps
    exact Keeps.same (s := s) (by assumption) rfl
  · apply Keeps.ite
    · apply State.event_keeps
      exact Keeps.same (s := s) (by assumption) rfl
    · assumption

theorem State.muteTemp_keeps {u0 : State} (s : Sys2Proof.Machine.State) (t : BitVec 16) (h_s : Keeps u0 s) :
    Keeps u0 (State.muteTemp s t) := by
  unfold State.muteTemp
  extract_lets l0
  apply Keeps.ite
  · apply State.raiseCause_keeps
    apply State.event_keeps
    assumption
  · apply Keeps.ite
    · apply State.event_keeps
      apply State.clearCause_keeps
      assumption
    · assumption

theorem State.hold_keeps {u0 : State} (s : State) (h_s : Keeps u0 s) : Keeps u0 s.hold :=
  h_s.step (fun i => ⟨filter_wf _ _ _ i.mem, i.flash, rfl, Nat.zero_le _, Nat.zero_le _, Nat.zero_le _, Nat.zero_le _, Nat.zero_le _, Nat.zero_le _,
    Nat.zero_le _⟩) (fun _ x => x) rfl

theorem State.shutdown_keeps {u0 : State} (s : Sys2Proof.Machine.State) (t : BitVec 16) (h_s : Keeps u0 s) :
    Keeps u0 (State.shutdown s t) := by
  unfold State.shutdown
  extract_lets l0 l1 l2
  have h_l0 : Keeps u0 l0 := by
    unfold l0
    apply State.setObjs_keeps
    apply State.hold_keeps
    assumption
  clear_value l0
  exact Keeps.same (s := l0) (by assumption) rfl

theorem execThermalSample_keeps {u0 : State} (t : BitVec 16) (s : Sys2Proof.Machine.State) (h_s : Keeps u0 s) :
    KeepsOut u0 (execThermalSample t s) := by
  unfold execThermalSample
  apply KeepsOut.next
  apply Keeps.ite
  · assumption
  · extract_lets l0
    have h_l0 : Keeps u0 l0 := by
      unfold l0
      apply State.muteTemp_keeps
      apply State.warnTemp_keeps
      apply State.noteTemp_keeps
      assumption
    clear_value l0
    apply Keeps.ite
    · apply State.shutdown_keeps
      assumption
    · assumption

theorem execRailFault_keeps {u0 : State} (rail : Fin 9) (mv : BitVec 16) (s : Sys2Proof.Machine.State) (h_s : Keeps u0 s) :
    KeepsOut u0 (execRailFault rail mv s) := by
  unfold execRailFault
  apply KeepsOut.next
  apply Keeps.ite
  · assumption
  · apply State.event_keeps
    apply State.count_keeps
    apply State.setObj_keeps
    assumption

theorem State.noteLoad_keeps {u0 : State} (s : Sys2Proof.Machine.State) (busy : Nat) (total : Nat) (h_s : Keeps u0 s) :
    Keeps u0 (State.noteLoad s busy total) := by
  unfold State.noteLoad
  extract_lets l0 l1 l2 l3
  have h_l2 : Keeps u0 l2 := by
    unfold l2
    apply State.setObj_keeps
    assumption
  clear_value l2
  exact Keeps.same (s := l2) (by assumption) rfl

theorem State.shedTo_keeps {u0 : State} (s : Sys2Proof.Machine.State) (stage : Nat) (h_s : Keeps u0 s) :
    Keeps u0 (State.shedTo s stage) := by
  unfold State.shedTo
  apply State.event_keeps
  apply State.setObj_keeps
  exact Keeps.same (s := s) (by assumption) rfl

theorem execShedStageAdvance_keeps {u0 : State} (s : Sys2Proof.Machine.State) (h_s : Keeps u0 s) :
    KeepsOut u0 (execShedStageAdvance s) := by
  unfold execShedStageAdvance
  apply KeepsOut.next
  apply Keeps.ite
  · apply State.shedTo_keeps
    assumption
  · assumption

theorem execShedStageRetreat_keeps {u0 : State} (s : Sys2Proof.Machine.State) (h_s : Keeps u0 s) :
    KeepsOut u0 (execShedStageRetreat s) := by
  unfold execShedStageRetreat
  apply KeepsOut.next
  apply Keeps.ite
  · apply State.reoptDue_keeps
    apply State.shedTo_keeps
    assumption
  · assumption

theorem State.hardReset_keeps {u0 : State} (s : Sys2Proof.Machine.State) (cause : Nat) (h_s : Keeps u0 s) :
    Keeps u0 (State.hardReset s cause) := by
  unfold State.hardReset
  apply State.setObjs_keeps
  apply State.hold_keeps
  assumption

theorem execReset_keeps {u0 : State} (power : Bool) (s : Sys2Proof.Machine.State) (h_s : Keeps u0 s) :
    KeepsOut u0 (execReset power s) := by
  unfold execReset
  extract_lets l0 l1 l2
  have h_l0 : Keeps u0 l0 := by
    unfold l0
    apply State.hardReset_keeps
    assumption
  clear_value l0
  have h_l1 : Keeps u0 l1 := by
    unfold l1
    apply Keeps.ite
    · assumption
    · apply Keeps.ite
      · assumption
      · apply State.setObj_keeps
        assumption
  clear_value l1
  apply KeepsOut.next
  exact Keeps.same (s := l1) (by assumption) rfl

theorem State.startFill_keeps {u0 : State} (s : Sys2Proof.Machine.State) (h_s : Keeps u0 s) :
    Keeps u0 (State.startFill s) := by
  unfold State.startFill
  apply State.setObjs_keeps
  exact Keeps.same (s := s) (by assumption) rfl

theorem State.tryFill_keeps {u0 : State} (s : Sys2Proof.Machine.State) (h_s : Keeps u0 s) :
    Keeps u0 (State.tryFill s) := by
  unfold State.tryFill
  apply Keeps.ite
  · apply State.startFill_keeps
    assumption
  · assumption

theorem execResetRelease_keeps {u0 : State} (bootsel : Fin 4) (s : Sys2Proof.Machine.State) (h_s : Keeps u0 s) :
    KeepsOut u0 (execResetRelease bootsel s) := by
  unfold execResetRelease
  apply KeepsOut.next
  apply Keeps.ite
  · apply State.tryFill_keeps
    exact Keeps.same (s := s) (by assumption) rfl
  · assumption

theorem execPwrgdHigh_keeps {u0 : State} (s : Sys2Proof.Machine.State) (h_s : Keeps u0 s) :
    KeepsOut u0 (execPwrgdHigh s) := by
  unfold execPwrgdHigh
  apply KeepsOut.next
  apply Keeps.ite
  · apply State.tryFill_keeps
    exact Keeps.same (s := s) (by assumption) rfl
  · assumption

theorem State.resetMarker_keeps {u0 : State} (s : Sys2Proof.Machine.State) (h_s : Keeps u0 s) :
    Keeps u0 (State.resetMarker s) := by
  unfold State.resetMarker
  extract_lets l0
  apply State.journal_keeps
  assumption

theorem State.showShutdown_keeps {u0 : State} (s : Sys2Proof.Machine.State) (h_s : Keeps u0 s) :
    Keeps u0 (State.showShutdown s) := by
  unfold State.showShutdown
  split
  · apply State.event_keeps
    apply State.setObj_keeps
    exact Keeps.same (s := s) (by assumption) rfl
  · assumption

theorem State.initBoard_keeps {u0 : State} (s : Sys2Proof.Machine.State) (lpddr : Nat) (h_s : Keeps u0 s) :
    Keeps u0 (State.initBoard s lpddr) := by
  unfold State.initBoard
  extract_lets l0
  have h_l0 : Keeps u0 l0 := by
    unfold l0
    apply State.setObj_keeps
    exact Keeps.same (s := s) (by assumption) rfl
  clear_value l0
  apply Keeps.ite
  · assumption
  · apply State.setObj_keeps
    assumption

theorem State.initFlash_keeps {u0 : State} (s : Sys2Proof.Machine.State) (f : Sys2Proof.FlashStart) (mib : Nat) (h_s : Keeps u0 s) :
    Keeps u0 (State.initFlash s f mib) := by
  unfold State.initFlash
  apply State.setObjs_keeps
  apply State.modXip_keeps
  assumption

theorem State.bootSlots_keeps {u0 : State} (s : Sys2Proof.Machine.State) (h_s : Keeps u0 s) :
    Keeps u0 (State.bootSlots s) := by
  unfold State.bootSlots
  extract_lets l0
  have h_l0 : Keeps u0 l0.2 := by
    unfold l0
    apply State.slotSelect_keeps
    assumption
  clear_value l0
  apply Keeps.ite
  · assumption
  · apply State.muteIfCaused_keeps
    apply State.enterRecovery_keeps
    assumption

theorem State.romStart_keeps {u0 : State} (s : Sys2Proof.Machine.State) (f : Sys2Proof.FlashStart) (mib : Nat) (h_s : Keeps u0 s) :
    Keeps u0 (State.romStart s f mib) := by
  unfold State.romStart
  extract_lets l0 l1 l2 l3 l4
  have h_l3 : Keeps u0 l3 := by
    unfold l3
    apply State.enterMode_keeps
    assumption
  clear_value l3
  apply Keeps.ite
  · apply State.muteIfCaused_keeps
    apply State.enterRecovery_keeps
    apply State.initFlash_keeps
    apply State.setObj_keeps
    assumption
  · apply Keeps.ite
    · apply State.muteIfCaused_keeps
      apply State.patchbayBegin_keeps
      exact Keeps.same (s := l3) (by assumption) rfl
    · apply Keeps.ite
      · apply State.muteIfCaused_keeps
        apply State.enterMode_keeps
        assumption
      · apply State.bootSlots_keeps
        apply State.initFlash_keeps
        apply State.setObj_keeps
        assumption

theorem State.filled_keeps {u0 : State} (s : Sys2Proof.Machine.State) (h_s : Keeps u0 s) :
    Keeps u0 (State.filled s) := by
  unfold State.filled
  apply State.loadFuses_keeps
  apply State.fill_keeps
  apply State.keepRepairs_keeps
  assumption

theorem State.released_keeps {u0 : State} (s : Sys2Proof.Machine.State) (lpddr : Nat) (h_s : Keeps u0 s) :
    Keeps u0 (State.released s lpddr) := by
  unfold State.released
  extract_lets l0
  have h_l0 : Keeps u0 l0 := by
    unfold l0
    apply State.rebudget_keeps
    apply State.setObj_keeps
    exact Keeps.same (s := s) (by assumption) rfl
  clear_value l0
  apply State.showShutdown_keeps
  apply State.resetMarker_keeps
  apply State.initBoard_keeps
  assumption

theorem State.muteAtStart_keeps {u0 : State} (s : Sys2Proof.Machine.State) (h_s : Keeps u0 s) :
    Keeps u0 (State.muteAtStart s) := by
  unfold State.muteAtStart
  apply Keeps.ite
  · apply State.raiseCause_keeps
    assumption
  · assumption

theorem execPowerOnFillComplete_keeps {u0 : State} (lpddr : Fin 16385) (flash : Sys2Proof.FlashStart) (flashMib : BitVec 16) (s : Sys2Proof.Machine.State) (h_s : Keeps u0 s) :
    KeepsOut u0 (execPowerOnFillComplete lpddr flash flashMib s) := by
  unfold execPowerOnFillComplete
  apply KeepsOut.next
  apply Keeps.ite
  · assumption
  · apply State.romStart_keeps
    apply State.muteAtStart_keeps
    apply State.released_keeps
    apply State.filled_keeps
    assumption

theorem State.setPower_keeps {u0 : State} (s : Sys2Proof.Machine.State) (v : Nat) (h_s : Keeps u0 s) :
    Keeps u0 (State.setPower s v) := by
  unfold State.setPower
  extract_lets l0
  apply State.event_keeps
  apply State.count_keeps
  apply State.setObj_keeps
  assumption

theorem State.coastStep_keeps {u0 : State} (s : Sys2Proof.Machine.State) (h_s : Keeps u0 s) :
    Keeps u0 (State.coastStep s) := by
  unfold State.coastStep
  extract_lets l0 l1
  have h_l0 : Keeps u0 l0 := by
    unfold l0
    apply State.finishTick_keeps
    assumption
  clear_value l0
  have h_l1 : Keeps u0 l1 := by
    unfold l1
    apply foldl_keeps
    · intro x60 a61 h62
      apply Keeps.ite
      · apply State.setLink_keeps
        assumption
      · assumption
    · assumption
  clear_value l1
  apply State.setPower_keeps
  assumption

theorem State.bankDown_keeps {u0 : State} (s : Sys2Proof.Machine.State) (a : Nat) (v : Nat) (h_s : Keeps u0 s) :
    Keeps u0 (State.bankDown s a v) := by
  unfold State.bankDown
  extract_lets l0 l1 l2
  apply Keeps.ite
  · assumption
  · apply State.setObj_keeps
    exact Keeps.same (s := s) (by assumption) rfl

theorem State.dozeStep_keeps {u0 : State} (s : Sys2Proof.Machine.State) (h_s : Keeps u0 s) :
    Keeps u0 (State.dozeStep s) := by
  unfold State.dozeStep
  extract_lets l0 l1 l2 l3
  have h_l0 : Keeps u0 l0 := by
    unfold l0
    apply foldl_keeps
    · intro x60 a61 h62
      apply State.stopChan_keeps
      assumption
    · assumption
  clear_value l0
  have h_l1 : Keeps u0 l1 := by
    unfold l1
    apply foldl_keeps
    · intro x63 a64 h65
      apply State.bankDown_keeps
      assumption
    · assumption
  clear_value l1
  have h_l2 : Keeps u0 l2 := by
    unfold l2
    apply foldl_keeps
    · intro x66 a67 h68
      apply Keeps.ite
      · apply State.setLink_keeps
        assumption
      · assumption
    · assumption
  clear_value l2
  apply State.setPower_keeps
  apply State.setObj_keeps
  exact Keeps.same (s := l2) (by assumption) rfl

theorem State.portCut_keeps {u0 : State} (s : Sys2Proof.Machine.State) (p : Fin 4) (h_s : Keeps u0 s) :
    Keeps u0 (State.portCut s p) := by
  unfold State.portCut
  apply Keeps.ite
  · assumption
  · apply State.modSap_keeps
    apply State.setPort_keeps
    apply State.setConv_keeps
    apply State.setConv_keeps
    assumption

theorem State.napStep_keeps {u0 : State} (s : Sys2Proof.Machine.State) (h_s : Keeps u0 s) :
    Keeps u0 (State.napStep s) := by
  unfold State.napStep
  extract_lets l0 l1 l2 l3 l4
  have h_l1 : Keeps u0 l1 := by
    unfold l1
    exact Keeps.same (s := s) (by assumption) rfl
  clear_value l1
  have h_l2 : Keeps u0 l2 := by
    unfold l2
    apply State.setObj_keeps
    apply foldl_keeps
    · intro x60 a61 h62
      apply State.portCut_keeps
      assumption
    · assumption
  clear_value l2
  have h_l3 : Keeps u0 l3 := by
    unfold l3
    apply foldl_keeps
    · intro x63 a64 h65
      apply State.bankDown_keeps
      assumption
    · assumption
  clear_value l3
  have h_l4 : Keeps u0 l4 := by
    unfold l4
    apply foldl_keeps
    · intro x66 a67 h68
      apply State.bankDown_keeps
      assumption
    · assumption
  clear_value l4
  apply State.setPower_keeps
  assumption

theorem State.fillCache_keeps {u0 : State} (s : Sys2Proof.Machine.State) (h_s : Keeps u0 s) :
    Keeps u0 (State.fillCache s) := by
  unfold State.fillCache
  extract_lets l0 l1 l2 l3 l4
  have h_l3 : Keeps u0 l3 := by
    unfold l3
    apply Keeps.ite
    · assumption
    · apply State.writeSnapshot_keeps
      assumption
  clear_value l3
  apply Keeps.ite
  · exact Keeps.same (s := s) (by assumption) rfl
  · exact Keeps.same (s := l3) (by assumption) rfl

theorem State.sleepStep_keeps {u0 : State} (s : Sys2Proof.Machine.State) (h_s : Keeps u0 s) :
    Keeps u0 (State.sleepStep s) := by
  unfold State.sleepStep
  extract_lets l0
  have h_l0 : Keeps u0 l0 := by
    unfold l0
    apply foldl_keeps
    · intro x60 a61 h62
      apply State.bankDown_keeps
      assumption
    · apply State.fillCache_keeps
      assumption
  clear_value l0
  apply State.setPower_keeps
  apply State.setObjs_keeps
  assumption

theorem State.stepDown_keeps {u0 : State} (s : Sys2Proof.Machine.State) (h_s : Keeps u0 s) :
    Keeps u0 (State.stepDown s) := by
  unfold State.stepDown
  split
  · apply State.coastStep_keeps
    assumption
  · apply State.dozeStep_keeps
    assumption
  · apply State.napStep_keeps
    assumption
  · apply State.sleepStep_keeps
    assumption
  · apply State.setPower_keeps
    assumption
  · assumption

theorem State.descend_keeps {u0 : State} (n : Nat) (s : State) (h_s : Keeps u0 s) : Keeps u0 (State.descend n s) := by
  induction n generalizing s with
  | zero => exact h_s
  | succ n ih => exact Keeps.ite (ih _ (State.stepDown_keeps _ h_s)) (h_s.same rfl)

theorem State.banksUp_keeps {u0 : State} (s : Sys2Proof.Machine.State) (h_s : Keeps u0 s) :
    Keeps u0 (State.banksUp s) := by
  unfold State.banksUp
  extract_lets l0 l1 l2
  have h_l1 : Keeps u0 l1 := by
    unfold l1
    apply foldl_keeps
    · intro x60 a61 h62
      split
      · apply State.setObj_keeps
        assumption
      · assumption
    · assumption
  clear_value l1
  apply State.wakeBanks_keeps
  · exact Keeps.same (s := l1) (by assumption) rfl
  · assumption

theorem State.reloadGraph_keeps {u0 : State} (s : Sys2Proof.Machine.State) (g : Sys2Proof.Machine.Graph) (h_s : Keeps u0 s) :
    Keeps u0 (State.reloadGraph s g) := by
  unfold State.reloadGraph
  extract_lets l0 l1 l2 l3 l4
  have h_l1 : Keeps u0 l1 := by
    unfold l1
    apply State.storeBlocks_keeps
    apply State.resetBanks_keeps
    assumption
  clear_value l1
  have h_l2 : Keeps u0 l2 := by
    unfold l2
    apply foldl_keeps
    · intro x60 a61 h62
      apply State.loadRegion_keeps
      assumption
    · assumption
  clear_value l2
  have h_l3 : Keeps u0 l3 := by
    unfold l3
    apply foldl_keeps
    · intro x63 a64 h65
      apply State.placeLine_keeps
      assumption
    · assumption
  clear_value l3
  have h_l4 : Keeps u0 l4 := by
    unfold l4
    apply foldl_keeps
    · intro x66 a67 h68
      apply State.loadParam_keeps
      assumption
    · assumption
  clear_value l4
  exact Keeps.same (s := l4) (by assumption) rfl

theorem State.reviveProgram_keeps {u0 : State} (s : Sys2Proof.Machine.State) (slept : Bool) (h_s : Keeps u0 s) :
    Keeps u0 (State.reviveProgram s slept) := by
  unfold State.reviveProgram
  extract_lets l0 l1
  have h_l1 : Keeps u0 l1 := by
    unfold l1
    exact Keeps.same (s := s) (by assumption) rfl
  clear_value l1
  split
  · apply Keeps.ite
    · apply State.setObj_keeps
      apply State.dropGraph_keeps
      assumption
    · apply State.reloadGraph_keeps
      assumption
  · assumption

theorem State.sleepBoot_keeps {u0 : State} (s : Sys2Proof.Machine.State) (h_s : Keeps u0 s) :
    Keeps u0 (State.sleepBoot s) := by
  unfold State.sleepBoot
  extract_lets l0 l1 l2
  have h_l1 : Keeps u0 l1 := by
    unfold l1
    apply State.setObj_keeps
    exact Keeps.same (s := s) (by assumption) rfl
  clear_value l1
  have h_l2 : Keeps u0 l2.2 := by
    unfold l2
    apply State.slotSelect_keeps
    assumption
  clear_value l2
  apply Keeps.ite
  · assumption
  · apply State.enterRecovery_keeps
    assumption

theorem State.mediaUp_keeps {u0 : State} (s : Sys2Proof.Machine.State) (h_s : Keeps u0 s) :
    Keeps u0 (State.mediaUp s) := by
  unfold State.mediaUp
  extract_lets l0 l1
  apply State.setObjs_keeps
  exact Keeps.same (s := s) (by assumption) rfl

theorem State.leaveSleep_keeps {u0 : State} (s : Sys2Proof.Machine.State) (h_s : Keeps u0 s) :
    Keeps u0 (State.leaveSleep s) := by
  unfold State.leaveSleep
  apply State.setPower_keeps
  apply State.setObjs_keeps
  assumption

theorem State.leaveNap_keeps {u0 : State} (s : Sys2Proof.Machine.State) (h_s : Keeps u0 s) :
    Keeps u0 (State.leaveNap s) := by
  unfold State.leaveNap
  extract_lets l0
  have h_l0 : Keeps u0 l0 := by
    unfold l0
    apply State.mediaUp_keeps
    assumption
  clear_value l0
  apply State.setPower_keeps
  apply foldl_keeps
  · intro x60 a61 h62
    apply Keeps.ite
    · apply State.sapStart_keeps
      assumption
    · assumption
  · assumption

theorem State.leaveDoze_keeps {u0 : State} (s : Sys2Proof.Machine.State) (h_s : Keeps u0 s) :
    Keeps u0 (State.leaveDoze s) := by
  unfold State.leaveDoze
  extract_lets l0
  have h_l0 : Keeps u0 l0 := by
    unfold l0
    apply foldl_keeps
    · intro x60 a61 h62
      apply Keeps.ite
      · apply State.setLink_keeps
        assumption
      · assumption
    · apply State.setObj_keeps
      assumption
  clear_value l0
  apply State.setPower_keeps
  assumption

theorem State.leaveCoast_keeps {u0 : State} (s : Sys2Proof.Machine.State) (h_s : Keeps u0 s) :
    Keeps u0 (State.leaveCoast s) := by
  unfold State.leaveCoast
  apply State.setPower_keeps
  apply foldl_keeps
  · intro x0 a1 h2
    apply Keeps.ite
    · apply State.setLink_keeps
      assumption
    · assumption
  · assumption

theorem State.ascend_keeps {u0 : State} (s : Sys2Proof.Machine.State) (h_s : Keeps u0 s) :
    Keeps u0 (State.ascend s) := by
  unfold State.ascend
  extract_lets l0 l1 l2 l3 l4 l5 l6
  have h_l1 : Keeps u0 l1 := by
    unfold l1
    apply Keeps.ite
    · apply State.leaveSleep_keeps
      assumption
    · assumption
  clear_value l1
  have h_l2 : Keeps u0 l2 := by
    unfold l2
    apply Keeps.ite
    · apply State.leaveNap_keeps
      assumption
    · assumption
  clear_value l2
  have h_l3 : Keeps u0 l3 := by
    unfold l3
    apply State.banksUp_keeps
    apply Keeps.ite
    · apply State.leaveDoze_keeps
      assumption
    · assumption
  clear_value l3
  have h_l4 : Keeps u0 l4 := by
    unfold l4
    apply Keeps.ite
    · apply State.sleepBoot_keeps
      assumption
    · assumption
  clear_value l4
  have h_l5 : Keeps u0 l5 := by
    unfold l5
    apply State.leaveCoast_keeps
    apply Keeps.ite
    · apply State.reviveProgram_keeps
      assumption
    · assumption
  clear_value l5
  have h_l6 : Keeps u0 l6 := by
    unfold l6
    apply Keeps.ite
    · apply State.raiseCause_keeps
      assumption
    · assumption
  clear_value l6
  apply State.muteIfCaused_keeps
  assumption

theorem State.leaveDormant_keeps {u0 : State} (s : Sys2Proof.Machine.State) (h_s : Keeps u0 s) :
    Keeps u0 (State.leaveDormant s) := by
  unfold State.leaveDormant
  apply State.startFill_keeps
  apply State.hardReset_keeps
  assumption

theorem State.wakeNow_keeps {u0 : State} (s : Sys2Proof.Machine.State) (source : Nat) (h_s : Keeps u0 s) :
    Keeps u0 (State.wakeNow s source) := by
  unfold State.wakeNow
  extract_lets l0 l1 l2 l3
  have h_l1 : Keeps u0 l1 := by
    unfold l1
    exact Keeps.same (s := s) (by assumption) rfl
  clear_value l1
  have h_l2 : Keeps u0 l2 := by
    unfold l2
    apply Keeps.ite
    · apply State.leaveDormant_keeps
      assumption
    · assumption
  clear_value l2
  have h_l3 : Keeps u0 l3 := by
    unfold l3
    apply State.event_keeps
    apply State.setObj_keeps
    assumption
  clear_value l3
  apply Keeps.ite
  · assumption
  · apply State.ascend_keeps
    assumption

theorem State.wakeBy_keeps {u0 : State} (s : Sys2Proof.Machine.State) (source : Nat) (h_s : Keeps u0 s) :
    Keeps u0 (State.wakeBy s source) := by
  unfold State.wakeBy
  apply Keeps.ite
  · assumption
  · apply Keeps.ite
    · apply Keeps.ite
      · assumption
      · exact Keeps.same (s := s) (by assumption) rfl
    · apply Keeps.ite
      · exact Keeps.same (s := s) (by assumption) rfl
      · apply State.wakeNow_keeps
        assumption

theorem execWake_keeps {u0 : State} (source : Fin 3) (s : Sys2Proof.Machine.State) (h_s : Keeps u0 s) :
    KeepsOut u0 (execWake source s) := by
  unfold execWake
  apply KeepsOut.next
  apply State.wakeBy_keeps
  assumption

theorem execWakeTimer_keeps {u0 : State} (s : Sys2Proof.Machine.State) (h_s : Keeps u0 s) :
    KeepsOut u0 (execWakeTimer s) := by
  unfold execWakeTimer
  apply KeepsOut.next
  apply Keeps.ite
  · assumption
  · apply State.wakeBy_keeps
    assumption

theorem State.wakeWaiting_keeps {u0 : State} (s : Sys2Proof.Machine.State) (h_s : Keeps u0 s) :
    Keeps u0 (State.wakeWaiting s) := by
  unfold State.wakeWaiting
  split
  · apply Keeps.ite
    · apply State.wakeNow_keeps
      assumption
    · assumption
  · assumption

theorem State.writePower_keeps {u0 : State} (s : Sys2Proof.Machine.State) (k : Sys2Proof.SessKey) (kport : Nat) (words : List (BitVec 32)) (h_s : Keeps u0 s) :
    Keeps u0 (State.writePower s k kport words) := by
  unfold State.writePower
  extract_lets l0 l1 l2 l3 l4 l5 l6
  apply State.writeReq_keeps
  · assumption
  · intro y60 h61
    extract_lets l62 l63
    have h_l63 : Keeps u0 l63 := by
      unfold l63
      exact Keeps.same (s := y60) (by assumption) rfl
    clear_value l63
    apply Keeps.ite
    · apply State.mute_keeps
      assumption
    · apply State.descend_keeps
      assumption

theorem execPowerRequest_keeps {u0 : State} (src : Sys2Proof.Src) (words : List (BitVec 32)) (s : Sys2Proof.Machine.State) (h_s : Keeps u0 s) :
    KeepsOut u0 (execPowerRequest src words s) := by
  unfold execPowerRequest
  apply KeepsOut.next
  apply State.writePower_keeps
  assumption

theorem execCoastEngGate_keeps {u0 : State} (s : Sys2Proof.Machine.State) (h_s : Keeps u0 s) :
    KeepsOut u0 (execCoastEngGate s) := by
  unfold execCoastEngGate
  apply KeepsOut.next
  apply Keeps.ite
  · assumption
  · split
    · apply State.wakeNow_keeps
      apply State.coastStep_keeps
      assumption
    · apply State.descend_keeps
      assumption

end Sys2Proof.Machine
end

