-- ==== Sys2Proof/Laws/KeepHost.lean ====
section
/-! SUPPORT. What domain transfers, the dictionary, the boundary and the host port keep. -/
set_option Elab.async false
namespace Sys2Proof.Machine
open Sys2Proof

theorem State.domainValue_keeps {u0 : State} (s : Sys2Proof.Machine.State) (a : Nat) (h_s : Keeps u0 s) :
    Keeps u0 (State.domainValue s a).2 := by
  unfold State.domainValue
  apply Keeps.iteSnd
  · apply State.locusWindow_keeps
    assumption
  · try dsimp only
    assumption

theorem State.readSofts_keeps {u0 : State} (s : State) (a : Nat) (h_s : Keeps u0 s) : Keeps u0 (s.readSofts a) := by
  unfold State.readSofts
  split
  · exact Keeps.ite h_s (State.noteSofts_keeps _ _ _ h_s)
  · exact h_s

theorem State.domainStart_keeps {u0 : State} (s : Sys2Proof.Machine.State) (k : Sys2Proof.SessKey) (addr : Nat) (total : Nat) (h_s : Keeps u0 s) :
    Keeps u0 (State.domainStart s k addr total) := by
  unfold State.domainStart
  extract_lets l0 l1 l2 l3 l4
  have h_l2 : Keeps u0 l2 := by
    unfold l2
    apply State.takeStaging_keeps
    apply State.discardOpen_keeps
    assumption
  clear_value l2
  have h_l4 : Keeps u0 l4 := by
    unfold l4
    apply Keeps.ite
    · apply State.setSession_keeps
      assumption
    · assumption
  clear_value l4
  apply State.answerUnit_keeps
  apply State.noteRights_keeps
  assumption

theorem State.domainData_keeps {u0 : State} (s : Sys2Proof.Machine.State) (k : Sys2Proof.SessKey) (addr : Nat) (seq : Nat) (n : Nat) (words : List (BitVec 32)) (h_s : Keeps u0 s) :
    Keeps u0 (State.domainData s k addr seq n words) := by
  unfold State.domainData
  extract_lets l0 l1
  split
  · apply State.answerUnit_keeps
    assumption
  · apply Keeps.ite
    · apply State.answerUnit_keeps
      apply State.closeXfer_keeps
      assumption
    · apply State.answerUnit_keeps
      apply State.setSession_keeps
      assumption

theorem State.domainEffect_keeps {u0 : State} (s : Sys2Proof.Machine.State) (k : Sys2Proof.SessKey) (a : Nat) (x : Sys2Proof.Machine.Xfer) (h_s : Keeps u0 s) :
    Keeps u0 (State.domainEffect s k a x) := by
  unfold State.domainEffect
  split
  · apply State.paramEffect_keeps
    assumption
  · apply Keeps.ite
    · apply State.offerImage_keeps
      assumption
    · apply Keeps.ite
      · apply State.takeUpdate_keeps
        assumption
      · apply Keeps.ite
        · apply State.keepWrite_keeps
          assumption
        · split
          · apply State.perStart_keeps
            assumption
          · assumption

theorem State.endXfer_keeps {u0 : State} (s : Sys2Proof.Machine.State) (k : Sys2Proof.SessKey) (kport : Nat) (addr : Nat) (x : Sys2Proof.Machine.Xfer) (c : Nat) (h_s : Keeps u0 s) :
    Keeps u0 (State.endXfer s k kport addr x c) := by
  unfold State.endXfer
  extract_lets l0
  apply Keeps.ite
  · apply State.answerUnit_keeps
    apply State.journal_keeps
    apply State.domainEffect_keeps
    apply State.closeXfer_keeps
    assumption
  · apply State.refuseEnd_keeps
    assumption

theorem State.domainEnd_keeps {u0 : State} (s : Sys2Proof.Machine.State) (k : Sys2Proof.SessKey) (kport : Nat) (addr : Nat) (crc : BitVec 32) (h_s : Keeps u0 s) :
    Keeps u0 (State.domainEnd s k kport addr crc) := by
  unfold State.domainEnd
  split
  · apply State.answerUnit_keeps
    assumption
  · apply State.endXfer_keeps
    assumption

theorem State.domainAbort_keeps {u0 : State} (s : Sys2Proof.Machine.State) (k : Sys2Proof.SessKey) (kport : Nat) (addr : Nat) (h_s : Keeps u0 s) :
    Keeps u0 (State.domainAbort s k kport addr) := by
  unfold State.domainAbort
  split
  · apply State.answerUnit_keeps
    assumption
  · apply State.abortXfer_keeps
    assumption

theorem State.readStart_keeps {u0 : State} (s : Sys2Proof.Machine.State) (k : Sys2Proof.SessKey) (addr : Nat) (h_s : Keeps u0 s) :
    Keeps u0 (State.readStart s k addr) := by
  unfold State.readStart
  extract_lets l0 l1 l2 l3 l4 l5
  have h_l1 : Keeps u0 l1.2 := by
    unfold l1
    apply State.domainValue_keeps
    assumption
  clear_value l1
  have h_l3 : Keeps u0 l3 := by
    unfold l3
    apply State.takeStaging_keeps
    apply State.discardOpen_keeps
    apply State.readSofts_keeps
    assumption
  clear_value l3
  have h_l5 : Keeps u0 l5 := by
    unfold l5
    apply Keeps.ite
    · apply State.setSession_keeps
      assumption
    · split
      · apply State.noteBad_keeps
        assumption
      · assumption
  clear_value l5
  apply State.answerUnit_keeps
  apply State.noteRights_keeps
  assumption

theorem State.overrun_keeps {u0 : State} (s : Sys2Proof.Machine.State) (h_s : Keeps u0 s) :
    Keeps u0 (State.overrun s) := by
  unfold State.overrun
  exact Keeps.same (s := s) (by assumption) rfl

theorem State.readData_keeps {u0 : State} (s : Sys2Proof.Machine.State) (k : Sys2Proof.SessKey) (addr : Nat) (seq : Nat) (n : Nat) (off : Nat) (h_s : Keeps u0 s) :
    Keeps u0 (State.readData s k addr seq n off) := by
  unfold State.readData
  split
  · apply State.answerUnit_keeps
    assumption
  · extract_lets l2
    apply State.answerUnit_keeps
    apply Keeps.ite
    · apply State.overrun_keeps
      assumption
    · assumption

theorem State.readEnd_keeps {u0 : State} (s : Sys2Proof.Machine.State) (k : Sys2Proof.SessKey) (addr : Nat) (h_s : Keeps u0 s) :
    Keeps u0 (State.readEnd s k addr) := by
  unfold State.readEnd
  split
  · apply State.answerUnit_keeps
    assumption
  · apply State.answerUnit_keeps
    apply State.closeXfer_keeps
    assumption

theorem State.unitOf_keeps {u0 : State} (s : Sys2Proof.Machine.State) (k : Sys2Proof.SessKey) (kport : Nat) (addr : Nat) (kind : Nat) (seq : Nat) (n : Nat) (body : List (BitVec 32)) (h_s : Keeps u0 s) :
    Keeps u0 (State.unitOf s k kport addr kind seq n body) := by
  unfold State.unitOf
  apply Keeps.ite
  · apply State.domainData_keeps
    assumption
  · split
    · apply Keeps.ite
      · apply State.domainAbort_keeps
        assumption
      · apply Keeps.ite
        · apply State.readStart_keeps
          assumption
        · apply Keeps.ite
          · apply State.readEnd_keeps
            assumption
          · apply State.refuseUnit_keeps
            assumption
    · apply Keeps.ite
      · apply State.domainStart_keeps
        assumption
      · apply Keeps.ite
        · apply State.domainEnd_keeps
          assumption
        · apply Keeps.ite
          · apply State.readData_keeps
            assumption
          · apply State.refuseUnit_keeps
            assumption
    · apply State.refuseUnit_keeps
      assumption

theorem State.domainUnit_keeps {u0 : State} (s : Sys2Proof.Machine.State) (k : Sys2Proof.SessKey) (kport : Nat) (addr : Nat) (unit : List (BitVec 32)) (h_s : Keeps u0 s) :
    Keeps u0 (State.domainUnit s k kport addr unit) := by
  unfold State.domainUnit
  split
  · apply State.answerUnit_keeps
    assumption
  · apply Keeps.ite
    · apply State.refuseUnit_keeps
      assumption
    · apply State.unitOf_keeps
      assumption

theorem State.unitReq_keeps {u0 : State} (s : Sys2Proof.Machine.State) (f : Sys2Proof.Machine.State → Sys2Proof.Machine.State) (h_s : Keeps u0 s) (h_f : ∀ z0, Keeps u0 z0 → Keeps u0 (f z0)) :
    Keeps u0 (State.unitReq s f) := by
  unfold State.unitReq
  apply Keeps.ite
  · apply h_f
    assumption
  · assumption

theorem execDomainStart_keeps {u0 : State} (src : Sys2Proof.Src) (a : BitVec 24) (total : BitVec 32) (s : Sys2Proof.Machine.State) (h_s : Keeps u0 s) :
    KeepsOut u0 (execDomainStart src a total s) := by
  unfold execDomainStart
  apply KeepsOut.next
  apply State.unitReq_keeps
  · assumption
  · intro y0 h1
    apply State.domainStart_keeps
    assumption

theorem execDomainData_keeps {u0 : State} (src : Sys2Proof.Src) (a : BitVec 24) (seq : BitVec 12) (n : Fin 256) (words : List (BitVec 32)) (s : Sys2Proof.Machine.State) (h_s : Keeps u0 s) :
    KeepsOut u0 (execDomainData src a seq n words s) := by
  unfold execDomainData
  apply KeepsOut.next
  apply State.unitReq_keeps
  · assumption
  · intro y0 h1
    apply State.domainData_keeps
    assumption

theorem execDomainEnd_keeps {u0 : State} (src : Sys2Proof.Src) (a : BitVec 24) (crc : BitVec 32) (s : Sys2Proof.Machine.State) (h_s : Keeps u0 s) :
    KeepsOut u0 (execDomainEnd src a crc s) := by
  unfold execDomainEnd
  apply KeepsOut.next
  apply State.unitReq_keeps
  · assumption
  · intro y0 h1
    apply State.domainEnd_keeps
    assumption

theorem execDomainAbort_keeps {u0 : State} (src : Sys2Proof.Src) (a : BitVec 24) (s : Sys2Proof.Machine.State) (h_s : Keeps u0 s) :
    KeepsOut u0 (execDomainAbort src a s) := by
  unfold execDomainAbort
  apply KeepsOut.next
  apply State.unitReq_keeps
  · assumption
  · intro y0 h1
    apply State.domainAbort_keeps
    assumption

theorem execReadStart_keeps {u0 : State} (src : Sys2Proof.Src) (a : BitVec 24) (s : Sys2Proof.Machine.State) (h_s : Keeps u0 s) :
    KeepsOut u0 (execReadStart src a s) := by
  unfold execReadStart
  apply KeepsOut.next
  apply State.unitReq_keeps
  · assumption
  · intro y0 h1
    apply State.readStart_keeps
    assumption

theorem execReadData_keeps {u0 : State} (src : Sys2Proof.Src) (a : BitVec 24) (n : Fin 256) (offset : BitVec 32) (s : Sys2Proof.Machine.State) (h_s : Keeps u0 s) :
    KeepsOut u0 (execReadData src a n offset s) := by
  unfold execReadData
  apply KeepsOut.next
  apply State.unitReq_keeps
  · assumption
  · intro y0 h1
    apply State.readData_keeps
    assumption

theorem execReadEnd_keeps {u0 : State} (src : Sys2Proof.Src) (a : BitVec 24) (s : Sys2Proof.Machine.State) (h_s : Keeps u0 s) :
    KeepsOut u0 (execReadEnd src a s) := by
  unfold execReadEnd
  apply KeepsOut.next
  apply State.unitReq_keeps
  · assumption
  · intro y0 h1
    apply State.readEnd_keeps
    assumption

theorem execPeriphRequest_keeps {u0 : State} (src : Sys2Proof.Src) (crc : BitVec 32) (s : Sys2Proof.Machine.State) (h_s : Keeps u0 s) :
    KeepsOut u0 (execPeriphRequest src crc s) := by
  unfold execPeriphRequest
  apply KeepsOut.next
  apply State.unitReq_keeps
  · assumption
  · intro y0 h1
    apply State.domainEnd_keeps
    assumption

theorem execUpdateImage_keeps {u0 : State} (src : Sys2Proof.Src) (crc : BitVec 32) (s : Sys2Proof.Machine.State) (h_s : Keeps u0 s) :
    KeepsOut u0 (execUpdateImage src crc s) := by
  unfold execUpdateImage
  apply KeepsOut.next
  apply State.unitReq_keeps
  · assumption
  · intro y0 h1
    apply State.domainEnd_keeps
    assumption

theorem execKeepUser_keeps {u0 : State} (src : Sys2Proof.Src) (crc : BitVec 32) (s : Sys2Proof.Machine.State) (h_s : Keeps u0 s) :
    KeepsOut u0 (execKeepUser src crc s) := by
  unfold execKeepUser
  apply KeepsOut.next
  apply State.unitReq_keeps
  · assumption
  · intro y0 h1
    apply State.domainEnd_keeps
    assumption

theorem execDomainTimeout_keeps {u0 : State} (src : Sys2Proof.Src) (s : Sys2Proof.Machine.State) (h_s : Keeps u0 s) :
    KeepsOut u0 (execDomainTimeout src s) := by
  unfold execDomainTimeout
  extract_lets l0 l1 l2
  have h_l2 : ∀ y60, Keeps u0 y60 → ∀ y61, Keeps u0 (l2 y60 y61) := by
    intro y60 hy60 y61
    unfold l2
    apply State.event_keeps
    apply State.count_keeps
    apply State.closeXfer_keeps
    assumption
  clear_value l2
  apply KeepsOut.next
  split
  · apply State.journal_keeps
    apply h_l2
    assumption
  · apply h_l2
    assumption
  · assumption

theorem execSessionRelease_keeps {u0 : State} (dev : BitVec 12) (num : BitVec 8) (s : Sys2Proof.Machine.State) (h_s : Keeps u0 s) :
    KeepsOut u0 (execSessionRelease dev num s) := by
  unfold execSessionRelease
  extract_lets l0
  apply KeepsOut.next
  apply Keeps.ite
  · assumption
  · exact Keeps.same (s := s) (by assumption) rfl

theorem execPeriphDone_keeps {u0 : State} (rx : List (BitVec 32)) (s : Sys2Proof.Machine.State) (h_s : Keeps u0 s) :
    KeepsOut u0 (execPeriphDone rx s) := by
  unfold execPeriphDone
  apply KeepsOut.next
  split
  · assumption
  · extract_lets l2 l3
    apply State.count_keeps
    apply State.setObj_keeps
    exact Keeps.same (s := s) (by assumption) rfl

theorem State.writePlain_keeps {u0 : State} (s : Sys2Proof.Machine.State) (k : Sys2Proof.SessKey) (kport : Nat) (a : Nat) (words : List (BitVec 32)) (x : Sys2Proof.Machine.Extra) (h_s : Keeps u0 s) :
    Keeps u0 (State.writePlain s k kport a words x) := by
  unfold State.writePlain
  apply State.writeReq_keeps
  · assumption
  · intro y0 h1
    apply State.setObj_keeps
    assumption

theorem State.writeBoundary_keeps {u0 : State} (s : Sys2Proof.Machine.State) (k : Sys2Proof.SessKey) (kport : Nat) (a : Nat) (words : List (BitVec 32)) (h_s : Keeps u0 s) :
    Keeps u0 (State.writeBoundary s k kport a words) := by
  unfold State.writeBoundary
  apply State.writeReq_keeps
  · assumption
  · intro y0 h1
    exact Keeps.same (s := y0) (by assumption) rfl

theorem State.writeSetAbort_keeps {u0 : State} (s : Sys2Proof.Machine.State) (k : Sys2Proof.SessKey) (kport : Nat) (words : List (BitVec 32)) (h_s : Keeps u0 s) :
    Keeps u0 (State.writeSetAbort s k kport words) := by
  unfold State.writeSetAbort
  apply State.writeReq_keeps
  · assumption
  · intro y0 h1
    apply State.abortSet_keeps
    assumption

theorem State.writeGlide_keeps {u0 : State} (s : Sys2Proof.Machine.State) (k : Sys2Proof.SessKey) (kport : Nat) (words : List (BitVec 32)) (h_s : Keeps u0 s) :
    Keeps u0 (State.writeGlide s k kport words) := by
  unfold State.writeGlide
  apply State.writeReq_keeps
  · assumption
  · intro y0 h1
    apply State.setSession_keeps
    assumption

theorem State.writeProxyTarget_keeps {u0 : State} (s : Sys2Proof.Machine.State) (k : Sys2Proof.SessKey) (kport : Nat) (words : List (BitVec 32)) (h_s : Keeps u0 s) :
    Keeps u0 (State.writeProxyTarget s k kport words) := by
  unfold State.writeProxyTarget
  apply State.writeReq_keeps
  · assumption
  · intro y0 h1
    apply State.setSession_keeps
    assumption

theorem State.writeFetchMode_keeps {u0 : State} (s : Sys2Proof.Machine.State) (k : Sys2Proof.SessKey) (kport : Nat) (e : Fin 8) (words : List (BitVec 32)) (h_s : Keeps u0 s) :
    Keeps u0 (State.writeFetchMode s k kport e words) := by
  unfold State.writeFetchMode
  apply State.writeReq_keeps
  · assumption
  · intro y0 h1
    apply State.modEngine_keeps
    assumption

theorem State.writeHostProfile_keeps {u0 : State} (s : Sys2Proof.Machine.State) (k : Sys2Proof.SessKey) (kport : Nat) (words : List (BitVec 32)) (h_s : Keeps u0 s) :
    Keeps u0 (State.writeHostProfile s k kport words) := by
  unfold State.writeHostProfile
  apply State.writePlain_keeps
  assumption

theorem State.writeHostDummy_keeps {u0 : State} (s : Sys2Proof.Machine.State) (k : Sys2Proof.SessKey) (kport : Nat) (words : List (BitVec 32)) (h_s : Keeps u0 s) :
    Keeps u0 (State.writeHostDummy s k kport words) := by
  unfold State.writeHostDummy
  apply State.writePlain_keeps
  assumption

theorem State.writeXipBase_keeps {u0 : State} (s : Sys2Proof.Machine.State) (k : Sys2Proof.SessKey) (kport : Nat) (words : List (BitVec 32)) (h_s : Keeps u0 s) :
    Keeps u0 (State.writeXipBase s k kport words) := by
  unfold State.writeXipBase
  apply Keeps.ite
  · apply Keeps.ite
    · apply State.finishWrite_keeps
      · assumption
      · intro y0 h1
        dsimp only [id]
        assumption
    · assumption
  · apply State.writePlain_keeps
    assumption

theorem State.writeWakeSources_keeps {u0 : State} (s : Sys2Proof.Machine.State) (k : Sys2Proof.SessKey) (kport : Nat) (words : List (BitVec 32)) (h_s : Keeps u0 s) :
    Keeps u0 (State.writeWakeSources s k kport words) := by
  unfold State.writeWakeSources
  apply State.writeReq_keeps
  · assumption
  · intro y0 h1
    apply State.setObj_keeps
    assumption

theorem State.writeSingle_keeps {u0 : State} (s : Sys2Proof.Machine.State) (k : Sys2Proof.SessKey) (kport : Nat) (a : Nat) (words : List (BitVec 32)) (h_s : Keeps u0 s) :
    KeepsOpt u0 (State.writeSingle s k kport a words) := by
  unfold State.writeSingle
  apply KeepsOpt.ite
  · apply KeepsOpt.some
    apply State.commitReq_keeps
    assumption
  · apply KeepsOpt.ite
    · apply KeepsOpt.some
      apply State.writeSetAbort_keeps
      assumption
    · apply KeepsOpt.ite
      · apply KeepsOpt.some
        apply State.writeGlide_keeps
        assumption
      · apply KeepsOpt.ite
        · apply KeepsOpt.some
          apply State.writeProxyTarget_keeps
          assumption
        · apply KeepsOpt.ite
          · apply KeepsOpt.some
            apply State.writeTickRate_keeps
            assumption
          · apply KeepsOpt.ite
            · apply KeepsOpt.some
              apply State.writeTickSource_keeps
              assumption
            · apply KeepsOpt.ite
              · apply KeepsOpt.some
                apply State.writeMode_keeps
                assumption
              · apply KeepsOpt.ite
                · apply KeepsOpt.some
                  apply State.writeUnload_keeps
                  assumption
                · apply KeepsOpt.ite
                  · apply KeepsOpt.some
                    apply State.writeDrain_keeps
                    assumption
                  · apply KeepsOpt.ite
                    · apply KeepsOpt.some
                      apply State.writeMigrate_keeps
                      assumption
                    · apply KeepsOpt.ite
                      · apply KeepsOpt.some
                        apply State.writeEngineFrequency_keeps
                        assumption
                      · apply KeepsOpt.ite
                        · apply KeepsOpt.some
                          apply State.writeEngineSpread_keeps
                          assumption
                        · apply KeepsOpt.ite
                          · apply KeepsOpt.some
                            apply State.writePower_keeps
                            assumption
                          · refine KeepsOpt.ite (KeepsOpt.some (State.writePriority_keeps _ _ _ _ h_s)) ?_
                            apply KeepsOpt.ite
                            · apply KeepsOpt.some
                              apply State.writeWakeSources_keeps
                              assumption
                            · apply KeepsOpt.ite
                              · apply KeepsOpt.some
                                apply State.writeHostProfile_keeps
                                assumption
                              · apply KeepsOpt.ite
                                · apply KeepsOpt.some
                                  apply State.writeHostDummy_keeps
                                  assumption
                                · apply KeepsOpt.ite
                                  · apply KeepsOpt.some
                                    apply State.writeXipBase_keeps
                                    assumption
                                  · exact KeepsOpt.none

theorem State.writeService_keeps {u0 : State} (s : Sys2Proof.Machine.State) (k : Sys2Proof.SessKey) (kport : Nat) (a : Nat) (words : List (BitVec 32)) (h_s : Keeps u0 s) :
    KeepsOpt u0 (State.writeService s k kport a words) := by
  unfold State.writeService
  apply KeepsOpt.ite
  · apply KeepsOpt.some
    apply State.writeDrainEnable_keeps
    assumption
  · apply KeepsOpt.ite
    · apply KeepsOpt.some
      apply State.writeRetainMode_keeps
      assumption
    · apply KeepsOpt.ite
      · apply KeepsOpt.some
        apply State.writeRingBase_keeps
        assumption
      · apply KeepsOpt.ite
        · apply KeepsOpt.some
          apply State.writeRingLog2_keeps
          assumption
        · apply KeepsOpt.ite
          · apply KeepsOpt.some
            apply State.writeLocusAck_keeps
            assumption
          · apply KeepsOpt.ite
            · apply KeepsOpt.some
              apply State.writeRangeStart_keeps
              assumption
            · apply KeepsOpt.ite
              · apply KeepsOpt.some
                apply State.writeFullTest_keeps
                assumption
              · apply KeepsOpt.ite
                · apply KeepsOpt.some
                  apply State.writeConfirm_keeps
                  assumption
                · apply KeepsOpt.ite
                  · apply KeepsOpt.some
                    apply State.writeRollback_keeps
                    assumption
                  · apply KeepsOpt.ite
                    · apply KeepsOpt.some
                      apply State.writeKeyRevoke_keeps
                      assumption
                    · apply KeepsOpt.ite
                      · apply KeepsOpt.some
                        apply State.writeActivate_keeps
                        assumption
                      · apply KeepsOpt.ite
                        · apply KeepsOpt.some
                          apply State.writeLoader_keeps
                          assumption
                        · apply KeepsOpt.ite
                          · apply KeepsOpt.some
                            apply State.writeSnapNow_keeps
                            assumption
                          · apply KeepsOpt.ite
                            · apply KeepsOpt.some
                              apply State.writeStartMode_keeps
                              assumption
                            · exact KeepsOpt.none

theorem State.writeArray_keeps {u0 : State} (s : Sys2Proof.Machine.State) (k : Sys2Proof.SessKey) (kport : Nat) (a : Nat) (words : List (BitVec 32)) (h_s : Keeps u0 s) :
    KeepsOpt u0 (State.writeArray s k kport a words) := by
  unfold State.writeArray
  extract_lets l0 l1 l2 l3
  apply KeepsOpt.ite
  · apply KeepsOpt.ite
    · apply KeepsOpt.some
      apply State.writeFetchMode_keeps
      assumption
    · apply KeepsOpt.ite
      · apply KeepsOpt.some
        apply State.writeBoundary_keeps
        assumption
      · exact KeepsOpt.none
  · apply KeepsOpt.ite
    · apply KeepsOpt.some
      apply State.writeBoundary_keeps
      assumption
    · apply KeepsOpt.ite
      · apply KeepsOpt.ite
        · apply KeepsOpt.some
          apply State.writePortEnable_keeps
          assumption
        · apply KeepsOpt.ite
          · apply KeepsOpt.some
            apply State.writeSapSetting_keeps
            assumption
          · apply KeepsOpt.ite
            · apply KeepsOpt.some
              apply State.writeSapSetting_keeps
              assumption
            · apply KeepsOpt.ite
              · apply KeepsOpt.some
                apply State.writeSapSetting_keeps
                assumption
              · exact KeepsOpt.none
      · apply KeepsOpt.ite
        · apply KeepsOpt.some
          apply State.writeLinkEnable_keeps
          assumption
        · apply KeepsOpt.ite
          · apply KeepsOpt.some
            apply State.writeClkOut_keeps
            assumption
          · apply KeepsOpt.ite
            · apply KeepsOpt.ite
              · apply KeepsOpt.some
                apply State.writeChannelHead_keeps
                assumption
              · apply KeepsOpt.ite
                · apply KeepsOpt.some
                  apply State.writeDoorbell_keeps
                  assumption
                · apply KeepsOpt.ite
                  · apply KeepsOpt.some
                    apply State.writeChannelStop_keeps
                    assumption
                  · apply KeepsOpt.ite
                    · apply KeepsOpt.some
                      apply State.writeChannelResume_keeps
                      assumption
                    · apply KeepsOpt.ite
                      · apply KeepsOpt.some
                        apply State.writeChannelSetting_keeps
                        assumption
                      · exact KeepsOpt.none
            · apply KeepsOpt.ite
              · apply KeepsOpt.some
                apply State.writePowerBank_keeps
                assumption
              · apply KeepsOpt.ite
                · apply KeepsOpt.some
                  apply State.writePowerBank_keeps
                  assumption
                · apply KeepsOpt.ite
                  · apply KeepsOpt.some
                    apply State.writePowerBank_keeps
                    assumption
                  · apply KeepsOpt.ite
                    · apply KeepsOpt.some
                      apply State.writePb_keeps
                      assumption
                    · exact KeepsOpt.none

theorem State.dictWrite_keeps {u0 : State} (s : Sys2Proof.Machine.State) (k : Sys2Proof.SessKey) (kport : Nat) (a : Nat) (words : List (BitVec 32)) (h_s : Keeps u0 s) :
    Keeps u0 (State.dictWrite s k kport a words) := by
  unfold State.dictWrite
  apply Keeps.ite
  · apply State.writeParam_keeps
    assumption
  · apply KeepsOpt.getD
    · apply KeepsOpt.orElse
      · apply KeepsOpt.orElse
        · apply State.writeSingle_keeps
          assumption
        · apply State.writeService_keeps
          assumption
      · apply State.writeArray_keeps
        assumption
    · apply State.writePlain_keeps
      assumption

theorem State.dictRead_keeps {u0 : State} (s : Sys2Proof.Machine.State) (k : Sys2Proof.SessKey) (a : Nat) (early : optParam Bool false) (h_s : Keeps u0 s) :
    Keeps u0 (State.dictRead s k a early) := by
  unfold State.dictRead
  extract_lets l0 l1 l2
  apply Keeps.ite
  · assumption
  · apply Keeps.ite
    · apply State.respond_keeps
      apply State.noteRights_keeps
      assumption
    · split
      · apply State.respond_keeps
        apply State.noteBad_keeps
        assumption
      · apply State.respond_keeps
        apply State.readSofts_keeps
        apply Keeps.ite
        · apply State.enter_keeps
          assumption
        · assumption

theorem State.perform_keeps {u0 : State} (s : Sys2Proof.Machine.State) (r : Sys2Proof.Machine.FwReq) (early : Bool) (h_s : Keeps u0 s) :
    Keeps u0 (State.perform s r early) := by
  unfold State.perform
  apply Keeps.ite
  · apply State.domainUnit_keeps
    assumption
  · apply Keeps.ite
    · apply State.dictWrite_keeps
      assumption
    · apply State.dictRead_keeps
      assumption

theorem State.request_keeps {u0 : State} (s : State) (r : FwReq) (held : Bool) (early : Bool := false) (h_s : Keeps u0 s) :
    Keeps u0 (State.request s r held early) := by
  unfold State.request
  apply Keeps.ite
  · assumption
  · apply Keeps.ite
    · apply State.refuse_keeps
      assumption
    · extract_lets l0
      have h_l0 : Keeps u0 l0 := by
        unfold l0
        apply State.perform_keeps
        assumption
      clear_value l0
      split
      · rename_i hc
        simp only [Bool.and_eq_true, decide_eq_true_eq] at hc
        exact h_s.step (fun i => ⟨i.mem, i.flash, i.objs, i.queue, i.log, i.record, i.events, i.evHist, i.history, by simp; omega⟩) (fun _ x => x) rfl
      · assumption

theorem State.answerFw_keeps {u0 : State} (s : State) (h_s : Keeps u0 s) : Keeps u0 s.answerFw := by
  unfold State.answerFw
  split
  · assumption
  · rename_i r rest hq
    apply Keeps.ite
    · assumption
    · extract_lets l3
      have h_l3 : Keeps u0 l3 := State.perform_keeps _ _ _ (h_s.shrink (fwQueue := by simp [hq]))
      clear_value l3
      exact State.routeAnswer_keeps _ _ (Keeps.same (s := l3) h_l3 rfl)

theorem State.serveFw_keeps {u0 : State} (n : Nat) (s : State) (h_s : Keeps u0 s) : Keeps u0 (State.serveFw n s) := by
  induction n generalizing s with
  | zero => exact h_s
  | succ n ih => exact ih _ (State.answerFw_keeps _ h_s)

theorem execDictionaryRead_keeps {u0 : State} (src : Sys2Proof.Src) (a : BitVec 24) (time : Sys2Proof.ReadTime) (s : Sys2Proof.Machine.State) (h_s : Keeps u0 s) :
    KeepsOut u0 (execDictionaryRead src a time s) := by
  unfold execDictionaryRead
  apply KeepsOut.next
  apply State.request_keeps
  assumption

theorem execDictionaryWrite_keeps {u0 : State} (src : Sys2Proof.Src) (a : BitVec 24) (words : List (BitVec 32)) (held : Bool) (s : Sys2Proof.Machine.State) (h_s : Keeps u0 s) :
    KeepsOut u0 (execDictionaryWrite src a words held s) := by
  unfold execDictionaryWrite
  apply KeepsOut.next
  apply State.request_keeps
  assumption

theorem execFirmwareDeadlineExpiry_keeps {u0 : State} (s : State) (h_s : Keeps u0 s) : KeepsOut u0 (execFirmwareDeadlineExpiry s) := by
  unfold execFirmwareDeadlineExpiry
  apply KeepsOut.next
  split
  · assumption
  · rename_i hq
    exact State.busyReq_keeps _ _ (h_s.shrink (fwQueue := by simp [hq]))

theorem execFetchMode_keeps {u0 : State} (src : Sys2Proof.Src) (e : Fin 8) (words : List (BitVec 32)) (s : Sys2Proof.Machine.State) (h_s : Keeps u0 s) :
    KeepsOut u0 (execFetchMode src e words s) := by
  unfold execFetchMode
  apply KeepsOut.next
  apply State.writeFetchMode_keeps
  assumption

theorem execGroupFaultPolicy_keeps {u0 : State} (src : Sys2Proof.Src) (g : Fin 4096) (words : List (BitVec 32)) (s : Sys2Proof.Machine.State) (h_s : Keeps u0 s) :
    KeepsOut u0 (execGroupFaultPolicy src g words s) := by
  unfold execGroupFaultPolicy
  apply KeepsOut.next
  apply State.writeBoundary_keeps
  assumption

theorem State.refuseFabric_keeps {u0 : State} (s : Sys2Proof.Machine.State) (r : Sys2Proof.Machine.FwReq) (code : Nat) (h_s : Keeps u0 s) :
    Keeps u0 (State.refuseFabric s r code) := by
  unfold State.refuseFabric
  apply State.routeAnswer_keeps
  apply State.refuse_keeps
  assumption

theorem State.fabricRequest_keeps {u0 : State} (s : Sys2Proof.Machine.State) (w0 : BitVec 32) (w1 : BitVec 32) (r : Sys2Proof.Machine.FwReq) (held : Bool) (h_s : Keeps u0 s) :
    Keeps u0 (State.fabricRequest s w0 w1 r held) := by
  unfold State.fabricRequest
  apply Keeps.ite
  · assumption
  · apply Keeps.ite
    · apply State.refuseFabric_keeps
      assumption
    · apply Keeps.ite
      · apply State.refuseFabric_keeps
        assumption
      · extract_lets l0 l1 l2
        have h_l1 : Keeps u0 l1 := by
          unfold l1
          apply Keeps.ite
          · apply State.enter_keeps
            assumption
          · assumption
        clear_value l1
        have h_l2 : Keeps u0 l2 := by
          unfold l2
          apply State.request_keeps
          assumption
        clear_value l2
        apply Keeps.ite
        · apply State.refuseFabric_keeps
          assumption
        · apply Keeps.ite
          · assumption
          · apply State.routeAnswer_keeps
            assumption

theorem execDictReq_keeps {u0 : State} (dev : BitVec 12) (session : BitVec 8) (k : Fin 4) (w0 : BitVec 32) (w1 : BitVec 32) (words : List (BitVec 32)) (held : Bool) (s : Sys2Proof.Machine.State) (h_s : Keeps u0 s) :
    KeepsOut u0 (execDictReq dev session k w0 w1 words held s) := by
  unfold execDictReq
  apply KeepsOut.next
  apply State.fabricRequest_keeps
  apply State.takeMsg_keeps
  assumption

theorem State.proxySend_keeps {u0 : State} (s : Sys2Proof.Machine.State) (op : Nat) (addr : Nat) (words : List (BitVec 32)) (h_s : Keeps u0 s) :
    KeepsOpt u0 (State.proxySend s op addr words) := by
  unfold State.proxySend
  extract_lets l0 l1 l2
  have h_l2 : Keeps u0 l2 := by
    unfold l2
    apply State.modNet_keeps
    assumption
  clear_value l2
  apply KeepsOpt.ite
  · exact KeepsOpt.none
  · apply KeepsOpt.some
    apply State.sendRouted_keeps
    assumption

theorem State.proxyAnswer_keeps {u0 : State} (s : Sys2Proof.Machine.State) (p : Sys2Proof.Machine.Proxied) (code : Nat) (words : List (BitVec 32)) (h_s : Keeps u0 s) :
    Keeps u0 (State.proxyAnswer s p code words) := by
  unfold State.proxyAnswer
  apply Keeps.ite
  · apply State.answerUnit_keeps
    assumption
  · extract_lets l0
    have h_l0 : Keeps u0 l0 := by
      unfold l0
      apply State.respond_keeps
      assumption
    clear_value l0
    apply Keeps.ite
    · apply State.readReady_keeps
      assumption
    · assumption

theorem State.dropProxied_keeps {u0 : State} (s : Sys2Proof.Machine.State) (p : Sys2Proof.Machine.Proxied) (h_s : Keeps u0 s) :
    Keeps u0 (State.dropProxied s p) := by
  unfold State.dropProxied
  apply State.modNet_keeps
  assumption

theorem execDictRsp_keeps {u0 : State} (result : BitVec 8) (a : BitVec 24) (tag : BitVec 16) (words : List (BitVec 32)) (s : Sys2Proof.Machine.State) (h_s : Keeps u0 s) :
    KeepsOut u0 (execDictRsp result a tag words s) := by
  unfold execDictRsp
  extract_lets l0
  have h_l0 : Keeps u0 l0 := by
    unfold l0
    apply State.takeMsg_keeps
    assumption
  clear_value l0
  apply KeepsOut.next
  split
  · apply Keeps.ite
    · apply State.proxyAnswer_keeps
      apply State.dropProxied_keeps
      assumption
    · assumption
  · assumption

theorem execProxyTimeout_keeps {u0 : State} (tag : BitVec 16) (s : Sys2Proof.Machine.State) (h_s : Keeps u0 s) :
    KeepsOut u0 (execProxyTimeout tag s) := by
  unfold execProxyTimeout
  apply KeepsOut.next
  split
  · extract_lets l1
    have h_l1 : Keeps u0 l1 := by
      unfold l1
      apply State.event_keeps
      apply State.count_keeps
      apply State.dropProxied_keeps
      assumption
    clear_value l1
    apply State.proxyAnswer_keeps
    assumption
  · assumption

theorem State.restoreFixed_keeps {u0 : State} (s : Sys2Proof.Machine.State) (h_s : Keeps u0 s) :
    Keeps u0 (State.restoreFixed s) := by
  unfold State.restoreFixed
  apply foldl_keeps
  · intro x0 a1 h2
    apply State.dictWrite_keeps
    assumption
  · assumption

theorem State.finishConfirm_keeps {u0 : State} (s : Sys2Proof.Machine.State) (h_s : Keeps u0 s) :
    Keeps u0 (State.finishConfirm s) := by
  unfold State.finishConfirm
  apply Keeps.ite
  · assumption
  · extract_lets l0
    apply State.setObj_keeps
    apply State.confirmImage_keeps
    assumption

theorem State.enterStartMode_keeps {u0 : State} (s : Sys2Proof.Machine.State) (h_s : Keeps u0 s) :
    Keeps u0 (State.enterStartMode s) := by
  unfold State.enterStartMode
  split
  · apply State.setObj_keeps
    apply State.changeMode_keeps
    assumption
  · apply State.changeMode_keeps
    assumption

theorem State.startFirmware_keeps {u0 : State} (s : Sys2Proof.Machine.State) (h_s : Keeps u0 s) :
    Keeps u0 (State.startFirmware s) := by
  unfold State.startFirmware
  extract_lets l0 l1 l2 l3 l4
  have h_l0 : Keeps u0 l0 := by
    unfold l0
    apply State.keepStart_keeps
    assumption
  clear_value l0
  have h_l1 : Keeps u0 l1 := by
    unfold l1
    split
    · apply State.setObj_keeps
      assumption
    · assumption
  clear_value l1
  have h_l2 : Keeps u0 l2 := by
    unfold l2
    apply State.finishConfirm_keeps
    assumption
  clear_value l2
  have h_l4 : Keeps u0 l4 := by
    unfold l4
    exact Keeps.same (s := l2) (by assumption) rfl
  clear_value l4
  apply Keeps.ite
  · apply State.muteIfCaused_keeps
    apply State.enterStartMode_keeps
    apply State.restoreFixed_keeps
    assumption
  · apply Keeps.ite
    · apply State.restoreFixed_keeps
      assumption
    · assumption

theorem execHullQueueOpen_keeps {u0 : State} (s : Sys2Proof.Machine.State) (h_s : Keeps u0 s) :
    KeepsOut u0 (execHullQueueOpen s) := by
  unfold execHullQueueOpen
  apply KeepsOut.next
  apply Keeps.ite
  · assumption
  · extract_lets l0
    have h_l0 : Keeps u0 l0 := by
      unfold l0
      apply State.setObj_keeps
      assumption
    clear_value l0
    apply Keeps.ite
    · assumption
    · apply State.startFirmware_keeps
      assumption

theorem State.boundarySwap_keeps {u0 : State} (s : Sys2Proof.Machine.State) (n : Nat) (h_s : Keeps u0 s) :
    Keeps u0 (State.boundarySwap s n) := by
  unfold State.boundarySwap
  extract_lets l0 l1 l2
  have h_l0 : Keeps u0 l0 := by
    unfold l0
    apply State.finishTick_keeps
    assumption
  clear_value l0
  have h_l1 : Keeps u0 l1 := by
    unfold l1
    apply Keeps.ite
    · apply State.patchbayTick_keeps
      assumption
    · assumption
  clear_value l1
  have h_l2 : Keeps u0 l2 := by
    unfold l2
    apply State.latchInputs_keeps
    apply State.tilerBoundary_keeps
    apply State.rateAbandon_keeps
    assumption
  clear_value l2
  apply State.publish_keeps
  apply State.exchangeSwap_keeps
  apply State.setObj_keeps
  assumption

theorem State.boundaryFreeze_keeps {u0 : State} (s : Sys2Proof.Machine.State) (n : Nat) (h_s : Keeps u0 s) :
    Keeps u0 (State.boundaryFreeze s n) := by
  unfold State.boundaryFreeze
  extract_lets l0 l1
  have h_l0 : Keeps u0 l0 := by
    unfold l0
    apply foldl_keeps
    · intro x60 a61 h62
      apply State.freezeFault_keeps
      assumption
    · assumption
  clear_value l0
  have h_l1 : Keeps u0 l1 := by
    unfold l1
    apply State.snapLive_keeps
    apply foldl_keeps
    · intro x63 a64 h65
      apply State.deadlineCheck_keeps
      assumption
    · assumption
  clear_value l1
  apply foldl_keeps
  · intro x66 a67 h68
    apply State.advanceLines_keeps
    assumption
  · assumption

theorem State.applySettings_keeps {u0 : State} (s : Sys2Proof.Machine.State) (h_s : Keeps u0 s) :
    Keeps u0 (State.applySettings s) := by
  unfold State.applySettings
  extract_lets l0 l1 l2
  have h_l0 : Keeps u0 l0 := by
    unfold l0
    apply State.pbApply_keeps
    assumption
  clear_value l0
  have h_l1 : Keeps u0 l1 := by
    unfold l1
    apply State.wakeBanks_keeps
    · apply State.applyObjs_keeps
      assumption
    · assumption
  clear_value l1
  have h_l2 : Keeps u0 l2 := by
    unfold l2
    apply State.allEngines_keeps
    apply State.applySource_keeps
    assumption
  clear_value l2
  exact Keeps.same (s := l2) (by assumption) rfl

theorem State.boundarySettings_keeps {u0 : State} (s : Sys2Proof.Machine.State) (h_s : Keeps u0 s) :
    Keeps u0 (State.boundarySettings s) := by
  unfold State.boundarySettings
  apply State.autoExit_keeps
  apply State.applyMode_keeps
  apply State.applySettings_keeps
  assumption

theorem State.boundaryLatch_keeps {u0 : State} (s : Sys2Proof.Machine.State) (n : Nat) (h_s : Keeps u0 s) :
    Keeps u0 (State.boundaryLatch s n) := by
  unfold State.boundaryLatch
  extract_lets l0 l1
  have h_l0 : Keeps u0 l0 := by
    unfold l0
    apply State.latch_keeps
    assumption
  clear_value l0
  have h_l1 : Keeps u0 l1 := by
    unfold l1
    apply foldl_keeps
    · intro x60 a61 h62
      apply State.repairSwap_keeps
      · assumption
      · assumption
    · assumption
  clear_value l1
  apply State.allEngines_keeps
  assumption

theorem State.boundaryStart_keeps {u0 : State} (s : Sys2Proof.Machine.State) (h_s : Keeps u0 s) :
    Keeps u0 (State.boundaryStart s) := by
  unfold State.boundaryStart
  extract_lets l0
  have h_l0 : Keeps u0 l0 := by
    unfold l0
    apply State.allEngines_keeps
    apply State.xyWrite_keeps
    assumption
  clear_value l0
  apply foldl_keeps
  · intro x60 a61 h62
    apply State.startProgram_keeps
    assumption
  · assumption

theorem State.unfadePower_keeps {u0 : State} (s : Sys2Proof.Machine.State) (h_s : Keeps u0 s) :
    Keeps u0 (State.unfadePower s) := by
  unfold State.unfadePower
  apply Keeps.ite
  · apply State.unmute_keeps
    assumption
  · assumption

theorem State.boundaryRun_keeps {u0 : State} (s : Sys2Proof.Machine.State) (h_s : Keeps u0 s) :
    Keeps u0 (State.boundaryRun s) := by
  unfold State.boundaryRun
  extract_lets l0 l1
  have h_l1 : Keeps u0 l1 := by
    unfold l1
    apply State.moverStep_keeps
    apply State.boundaryLatch_keeps
    apply State.boundarySettings_keeps
    apply State.boundaryFreeze_keeps
    apply State.boundarySwap_keeps
    assumption
  clear_value l1
  apply State.unfadePower_keeps
  apply State.mediaStep_keeps
  apply State.followRate_keeps
  apply State.followTime_keeps
  apply State.netTick_keeps
  apply State.boundaryStart_keeps
  assumption

theorem State.idleLatch_keeps {u0 : State} (s : Sys2Proof.Machine.State) (h_s : Keeps u0 s) :
    Keeps u0 (State.idleLatch s) := by
  unfold State.idleLatch
  extract_lets l0
  have h_l0 : Keeps u0 l0 := by
    unfold l0
    apply foldl_keeps
    · intro x60 a61 h62
      apply State.sapEdge_keeps
      assumption
    · assumption
  clear_value l0
  apply Keeps.ite
  · apply State.latchRuns_keeps
    assumption
  · assumption

theorem State.boundaryIdle_keeps {u0 : State} (s : Sys2Proof.Machine.State) (h_s : Keeps u0 s) :
    Keeps u0 (State.boundaryIdle s) := by
  unfold State.boundaryIdle
  apply State.wakeWaiting_keeps
  apply State.mediaStep_keeps
  apply State.followTime_keeps
  apply State.netTick_keeps
  apply State.applySettings_keeps
  apply State.setObj_keeps
  apply State.idleLatch_keeps
  assumption

theorem execBoundary_keeps {u0 : State} (hull : Sys2Proof.HullUse) (served : Fin 33) (s : Sys2Proof.Machine.State) (h_s : Keeps u0 s) :
    KeepsOut u0 (execBoundary hull served s) := by
  unfold execBoundary
  apply KeepsOut.next
  apply Keeps.ite
  · assumption
  · extract_lets l0
    have h_l0 : Keeps u0 l0 := by
      unfold l0
      apply State.serveFw_keeps
      assumption
    clear_value l0
    apply Keeps.ite
    · assumption
    · apply Keeps.ite
      · apply State.noteLoad_keeps
        apply State.boundaryRun_keeps
        assumption
      · apply State.noteLoad_keeps
        apply State.boundaryIdle_keeps
        assumption

theorem State.flagHsp_keeps {u0 : State} (s : Sys2Proof.Machine.State) (mask : Nat) (h_s : Keeps u0 s) :
    Keeps u0 (State.flagHsp s mask) := by
  unfold State.flagHsp
  exact Keeps.same (s := s) (by assumption) rfl

theorem State.notExact_keeps {u0 : State} (s : Sys2Proof.Machine.State) (need : Nat) (head : Nat) (edges : Nat) (h_s : Keeps u0 s) :
    Keeps u0 (State.notExact s need head edges) := by
  unfold State.notExact
  extract_lets l0 l1
  have h_l1 : Keeps u0 l1 := by
    unfold l1
    apply State.count_keeps
    assumption
  clear_value l1
  apply Keeps.ite
  · apply State.flagHsp_keeps
    assumption
  · apply State.flagHsp_keeps
    assumption

theorem State.refuseFrame_keeps {u0 : State} (s : Sys2Proof.Machine.State) (h_s : Keeps u0 s) :
    Keeps u0 (State.refuseFrame s) := by
  unfold State.refuseFrame
  apply State.flagHsp_keeps
  apply State.count_keeps
  assumption

theorem State.accepted_keeps {u0 : State} (s : Sys2Proof.Machine.State) (h_s : Keeps u0 s) :
    Keeps u0 (State.accepted s) := by
  unfold State.accepted
  apply State.count_keeps
  assumption

theorem State.setReady_keeps {u0 : State} (s : Sys2Proof.Machine.State) (h_s : Keeps u0 s) :
    Keeps u0 (State.setReady s) := by
  unfold State.setReady
  exact Keeps.same (s := s) (by assumption) rfl

theorem State.hostMwr_keeps {u0 : State} (s : State) (a : Nat) (words : List (BitVec 32)) (h_s : Keeps u0 s) :
    Keeps u0 (s.hostMwr a words) :=
  Keeps.ite (State.hostResult_keeps _ _ _ h_s) (Keeps.ite (State.hostResult_keeps _ _ _ h_s)
    (State.hostResult_keeps _ _ _ (State.busWrite_keeps _ _ _ _ h_s)))

theorem State.hostLoad_keeps {u0 : State} (s : Sys2Proof.Machine.State) (off : Nat) (words : List (BitVec 32)) (h_s : Keeps u0 s) :
    Keeps u0 (State.hostLoad s off words) := by
  unfold State.hostLoad
  apply Keeps.ite
  · apply State.hostResult_keeps
    assumption
  · apply Keeps.ite
    · apply State.hostResult_keeps
      assumption
    · apply Keeps.ite
      · apply State.hostResult_keeps
        assumption
      · apply Keeps.ite
        · apply State.hostResult_keeps
          assumption
        · apply State.hostResult_keeps
          apply State.storeBytes_keeps
          assumption

theorem State.hostCommit_keeps {u0 : State} (s : Sys2Proof.Machine.State) (h_s : Keeps u0 s) :
    Keeps u0 (State.hostCommit s) := by
  unfold State.hostCommit
  extract_lets l0 l1 l2
  have h_l0 : Keeps u0 l0 := by
    unfold l0
    apply State.commitReq_keeps
    assumption
  clear_value l0
  exact Keeps.same (s := l0) (by assumption) rfl

theorem State.portReset_keeps {u0 : State} (s : Sys2Proof.Machine.State) (h_s : Keeps u0 s) :
    Keeps u0 (State.portReset s) := by
  unfold State.portReset
  extract_lets l0 l1 l2 l3
  have h_l0 : Keeps u0 l0 := by
    unfold l0
    apply State.setObjs_keeps
    assumption
  clear_value l0
  have h_l2 : Keeps u0 l2 := by
    unfold l2
    apply Keeps.ite
    · apply State.setSession_keeps
      assumption
    · assumption
  clear_value l2
  exact Keeps.same (s := l2) (by assumption) rfl

theorem State.hostDwr_keeps {u0 : State} (s : Sys2Proof.Machine.State) (addr : Nat) (words : List (BitVec 32)) (held : Bool) (h_s : Keeps u0 s) :
    Keeps u0 (State.hostDwr s addr words held) := by
  unfold State.hostDwr
  apply Keeps.ite
  · apply KeepsOpt.getD
    · apply State.proxySend_keeps
      assumption
    · apply State.respond_keeps
      assumption
  · extract_lets l0 l1
    have h_l0 : Keeps u0 l0 := by
      unfold l0
      apply State.request_keeps
      assumption
    clear_value l0
    split
    · apply Keeps.ite
      · exact Keeps.same (s := l0) (by assumption) rfl
      · assumption
    · assumption

theorem State.hostDbw_keeps {u0 : State} (s : Sys2Proof.Machine.State) (addr : Nat) (words : List (BitVec 32)) (held : Bool) (h_s : Keeps u0 s) :
    Keeps u0 (State.hostDbw s addr words held) := by
  unfold State.hostDbw
  apply Keeps.ite
  · apply KeepsOpt.getD
    · apply State.proxySend_keeps
      assumption
    · apply State.respond_keeps
      assumption
  · apply State.request_keeps
    assumption

theorem State.performBuf_keeps {u0 : State} (s : Sys2Proof.Machine.State) (b : Sys2Proof.Machine.WBuf) (held : Bool) (h_s : Keeps u0 s) :
    Keeps u0 (State.performBuf s b held) := by
  unfold State.performBuf
  split
  · apply State.hostDwr_keeps
    assumption
  · apply State.hostCommit_keeps
    assumption
  · apply State.hostDbw_keeps
    assumption
  · apply State.hostMwr_keeps
    assumption
  · apply State.hostLoad_keeps
    assumption
  · apply State.portReset_keeps
    assumption

theorem State.presentOne_keeps {u0 : State} (s : Sys2Proof.Machine.State) (held : Bool) (h_s : Keeps u0 s) :
    Keeps u0 (State.presentOne s held) := by
  unfold State.presentOne
  apply Keeps.ite
  · assumption
  · split
    · assumption
    · apply State.performBuf_keeps
      exact Keeps.same (s := s) (by assumption) rfl

theorem State.presentAll_keeps {u0 : State} (s : Sys2Proof.Machine.State) (h_s : Keeps u0 s) :
    Keeps u0 (State.presentAll s) := by
  unfold State.presentAll
  apply State.presentOne_keeps
  apply State.presentOne_keeps
  assumption

theorem State.enterBuf_keeps {u0 : State} (s : Sys2Proof.Machine.State) (b : Sys2Proof.Machine.WBuf) (h_s : Keeps u0 s) :
    Keeps u0 (State.enterBuf s b) := by
  unfold State.enterBuf
  apply Keeps.ite
  · apply State.accepted_keeps
    exact Keeps.same (s := s) (by assumption) rfl
  · apply State.flagHsp_keeps
    apply State.count_keeps
    assumption

theorem State.openFrame_keeps {u0 : State} (s : Sys2Proof.Machine.State) (h_s : Keeps u0 s) :
    Keeps u0 (State.openFrame s) := by
  unfold State.openFrame
  extract_lets l0 l1
  have h_l1 : Keeps u0 l1 := by
    unfold l1
    apply Keeps.ite
    · apply State.flagHsp_keeps
      apply State.count_keeps
      exact Keeps.same (s := s) (by assumption) rfl
    · assumption
  clear_value l1
  apply Keeps.ite
  · apply State.presentAll_keeps
    assumption
  · assumption

theorem State.frame_keeps {u0 : State} (s : Sys2Proof.Machine.State) (ok : Bool) (n : Nat) (edges : Nat) (miss : Sys2Proof.Machine.State → Sys2Proof.Machine.State) (perform : Sys2Proof.Machine.State → Sys2Proof.Machine.State) (h_s : Keeps u0 s) (h_miss : ∀ z0, Keeps u0 z0 → Keeps u0 (miss z0)) (h_perform : ∀ z0, Keeps u0 z0 → Keeps u0 (perform z0)) :
    Keeps u0 (State.frame s ok n edges miss perform) := by
  unfold State.frame
  apply Keeps.ite
  · assumption
  · extract_lets l0
    have h_l0 : Keeps u0 l0 := by
      unfold l0
      apply State.openFrame_keeps
      assumption
    clear_value l0
    apply State.setReady_keeps
    apply Keeps.ite
    · apply State.refuseFrame_keeps
      assumption
    · apply Keeps.ite
      · apply h_perform
        assumption
      · apply State.notExact_keeps
        apply h_miss
        assumption

theorem execHostDwr_keeps {u0 : State} (addr : BitVec 32) (words : List (BitVec 32)) (edges : BitVec 16) (s : Sys2Proof.Machine.State) (h_s : Keeps u0 s) :
    KeepsOut u0 (execHostDwr addr words edges s) := by
  unfold execHostDwr
  apply KeepsOut.next
  apply State.frame_keeps
  · assumption
  · intro y0 h1
    dsimp only [id]
    assumption
  · intro y2 h3
    apply State.enterBuf_keeps
    assumption

theorem execCommit_keeps {u0 : State} (addr : BitVec 32) (n : BitVec 9) (edges : BitVec 16) (s : Sys2Proof.Machine.State) (h_s : Keeps u0 s) :
    KeepsOut u0 (execCommit addr n edges s) := by
  unfold execCommit
  apply KeepsOut.next
  apply State.frame_keeps
  · assumption
  · intro y0 h1
    dsimp only [id]
    assumption
  · intro y2 h3
    apply State.enterBuf_keeps
    assumption

theorem execDbw_keeps {u0 : State} (addr : BitVec 32) (words : List (BitVec 32)) (edges : BitVec 16) (s : Sys2Proof.Machine.State) (h_s : Keeps u0 s) :
    KeepsOut u0 (execDbw addr words edges s) := by
  unfold execDbw
  apply KeepsOut.next
  apply State.frame_keeps
  · assumption
  · intro y0 h1
    dsimp only [id]
    assumption
  · intro y2 h3
    apply State.enterBuf_keeps
    assumption

theorem execMwr_keeps {u0 : State} (addr : BitVec 32) (words : List (BitVec 32)) (edges : BitVec 16) (s : Sys2Proof.Machine.State) (h_s : Keeps u0 s) :
    KeepsOut u0 (execMwr addr words edges s) := by
  unfold execMwr
  apply KeepsOut.next
  apply State.frame_keeps
  · assumption
  · intro y0 h1
    dsimp only [id]
    assumption
  · intro y2 h3
    apply State.enterBuf_keeps
    assumption

theorem execLoad_keeps {u0 : State} (addr : BitVec 32) (words : List (BitVec 32)) (edges : BitVec 16) (s : Sys2Proof.Machine.State) (h_s : Keeps u0 s) :
    KeepsOut u0 (execLoad addr words edges s) := by
  unfold execLoad
  apply KeepsOut.next
  apply State.frame_keeps
  · assumption
  · intro y0 h1
    dsimp only [id]
    assumption
  · intro y2 h3
    apply State.enterBuf_keeps
    assumption

theorem execPortreset_keeps {u0 : State} (edges : BitVec 16) (s : Sys2Proof.Machine.State) (h_s : Keeps u0 s) :
    KeepsOut u0 (execPortreset edges s) := by
  unfold execPortreset
  apply KeepsOut.next
  apply Keeps.ite
  · assumption
  · extract_lets l0
    have h_l0 : Keeps u0 l0 := by
      unfold l0
      apply State.openFrame_keeps
      assumption
    clear_value l0
    apply State.setReady_keeps
    apply Keeps.ite
    · apply Keeps.ite
      · apply State.accepted_keeps
        apply State.portReset_keeps
        apply State.presentAll_keeps
        assumption
      · apply State.enterBuf_keeps
        assumption
    · apply State.notExact_keeps
      assumption

theorem execBadCommand_keeps {u0 : State} (cmd : BitVec 24) (addr : BitVec 32) (s : Sys2Proof.Machine.State) (h_s : Keeps u0 s) :
    KeepsOut u0 (execBadCommand cmd addr s) := by
  unfold execBadCommand
  apply KeepsOut.next
  apply Keeps.ite
  · apply State.setReady_keeps
    apply State.refuseFrame_keeps
    apply State.openFrame_keeps
    assumption
  · assumption

theorem execWriteBufferPresent_keeps {u0 : State} (held : Bool) (s : Sys2Proof.Machine.State) (h_s : Keeps u0 s) :
    KeepsOut u0 (execWriteBufferPresent held s) := by
  unfold execWriteBufferPresent
  apply KeepsOut.next
  apply State.setReady_keeps
  apply State.presentOne_keeps
  assumption

theorem State.sendOut_keeps {u0 : State} (s : Sys2Proof.Machine.State) (l : List (BitVec 32)) (h_s : Keeps u0 s) :
    Keeps u0 (State.sendOut s l) := by
  unfold State.sendOut
  apply State.accepted_keeps
  exact Keeps.same (s := s) (by assumption) rfl

theorem State.noteOverrun_keeps {u0 : State} (s : Sys2Proof.Machine.State) (h_s : Keeps u0 s) :
    Keeps u0 (State.noteOverrun s) := by
  unfold State.noteOverrun
  apply State.count_keeps
  apply State.overrun_keeps
  assumption

theorem State.deliverRead_keeps {u0 : State} (s : Sys2Proof.Machine.State) (shown : Nat) (n : Nat) (code : Nat) (words : List (BitVec 32)) (h_s : Keeps u0 s) :
    Keeps u0 (State.deliverRead s shown n code words) := by
  unfold State.deliverRead
  extract_lets l0 l1
  have h_l1 : Keeps u0 l1 := by
    unfold l1
    apply Keeps.ite
    · apply State.noteOverrun_keeps
      assumption
    · assumption
  clear_value l1
  apply State.sendOut_keeps
  assumption

theorem State.waitRead_keeps {u0 : State} (s : Sys2Proof.Machine.State) (r : Sys2Proof.Machine.HostRead) (h_s : Keeps u0 s) :
    Keeps u0 (State.waitRead s r) := by
  unfold State.waitRead
  exact Keeps.same (s := s) (by assumption) rfl

theorem State.startDrd_keeps {u0 : State} (s : Sys2Proof.Machine.State) (addr : Nat) (n : Nat) (held : Bool) (h_s : Keeps u0 s) :
    Keeps u0 (State.startDrd s addr n held) := by
  unfold State.startDrd
  extract_lets l0 l1
  have h_l1 : Keeps u0 l1 := by
    unfold l1
    apply State.request_keeps
    assumption
  clear_value l1
  apply Keeps.ite
  · split
    · rename_i v60 heq
      have h_v60 : Keeps u0 v60 := (show KeepsOpt u0 _ by
        apply State.proxySend_keeps
        assumption
        ) _ heq
      apply State.waitRead_keeps
      assumption
    · apply State.deliverRead_keeps
      apply State.respond_keeps
      assumption
  · apply Keeps.ite
    · apply State.waitRead_keeps
      assumption
    · split
      · apply State.deliverRead_keeps
        assumption
      · assumption

theorem State.startDbr_keeps {u0 : State} (s : Sys2Proof.Machine.State) (addr : Nat) (n : Nat) (h_s : Keeps u0 s) :
    Keeps u0 (State.startDbr s addr n) := by
  unfold State.startDbr
  extract_lets l0
  split
  · apply Keeps.ite
    · apply State.deliverRead_keeps
      apply State.hostResult_keeps
      apply State.setSession_keeps
      assumption
    · apply State.deliverRead_keeps
      apply State.hostResult_keeps
      assumption
  · apply State.deliverRead_keeps
    apply State.hostResult_keeps
    assumption

theorem State.startRead_keeps {u0 : State} (s : Sys2Proof.Machine.State) (r : Sys2Proof.Machine.HostRead) (held : Bool) (h_s : Keeps u0 s) :
    Keeps u0 (State.startRead s r held) := by
  unfold State.startRead
  apply Keeps.ite
  · apply State.waitRead_keeps
    assumption
  · apply Keeps.ite
    · apply State.startDbr_keeps
      assumption
    · apply State.startDrd_keeps
      assumption

theorem State.missDrd_keeps {u0 : State} (s : Sys2Proof.Machine.State) (addr : Nat) (edges : Nat) (h_s : Keeps u0 s) :
    Keeps u0 (State.missDrd s addr edges) := by
  unfold State.missDrd
  extract_lets l0
  have h_l0 : Keeps u0 l0 := by
    unfold l0
    apply State.presentAll_keeps
    assumption
  clear_value l0
  apply Keeps.ite
  · apply KeepsOpt.getD
    · apply State.proxySend_keeps
      assumption
    · assumption
  · assumption

theorem execDrd_keeps {u0 : State} (addr : BitVec 32) (n : BitVec 9) (edges : BitVec 16) (held : Bool) (s : Sys2Proof.Machine.State) (h_s : Keeps u0 s) :
    KeepsOut u0 (execDrd addr n edges held s) := by
  unfold execDrd
  apply KeepsOut.next
  apply State.frame_keeps
  · assumption
  · intro y0 h1
    apply State.missDrd_keeps
    assumption
  · intro y2 h3
    apply State.startRead_keeps
    apply State.presentAll_keeps
    assumption

theorem execDbr_keeps {u0 : State} (addr : BitVec 32) (n : BitVec 9) (edges : BitVec 16) (s : Sys2Proof.Machine.State) (h_s : Keeps u0 s) :
    KeepsOut u0 (execDbr addr n edges s) := by
  unfold execDbr
  apply KeepsOut.next
  apply State.frame_keeps
  · assumption
  · intro y0 h1
    dsimp only [id]
    assumption
  · intro y2 h3
    apply State.startRead_keeps
    apply State.presentAll_keeps
    assumption

theorem execHostResponseReady_keeps {u0 : State} (s : Sys2Proof.Machine.State) (h_s : Keeps u0 s) :
    KeepsOut u0 (execHostResponseReady s) := by
  unfold execHostResponseReady
  apply KeepsOut.next
  split
  · assumption
  · split
    · apply Keeps.ite
      · apply State.setReady_keeps
        apply State.startRead_keeps
        apply State.presentAll_keeps
        exact Keeps.same (s := s) (by assumption) rfl
      · assumption
    · apply State.setReady_keeps
      apply State.deliverRead_keeps
      assumption
    · assumption

theorem execStat_keeps {u0 : State} (addr : BitVec 32) (n : BitVec 9) (edges : BitVec 16) (s : Sys2Proof.Machine.State) (h_s : Keeps u0 s) :
    KeepsOut u0 (execStat addr n edges s) := by
  unfold execStat
  apply KeepsOut.next
  apply State.frame_keeps
  · assumption
  · intro y0 h1
    dsimp only [id]
    assumption
  · intro y2 h3
    extract_lets l4 l5
    have h_l4 : Keeps u0 l4 := by
      unfold l4
      apply State.presentAll_keeps
      assumption
    clear_value l4
    apply State.clearHsp_keeps
    apply State.sendOut_keeps
    assumption

theorem execEvt_keeps {u0 : State} (addr : BitVec 32) (n : BitVec 9) (edges : BitVec 16) (s : State) (h_s : Keeps u0 s) :
    KeepsOut u0 (execEvt addr n edges s) := by
  unfold execEvt
  apply KeepsOut.next
  apply State.frame_keeps
  · assumption
  · intro y0 h1
    exact h1
  · intro y2 h3
    apply State.sendOut_keeps
    exact (State.presentAll_keeps _ h3).shrink (events := by simp)

theorem State.hostMrd_keeps {u0 : State} (s : State) (a n : Nat) (h_s : Keeps u0 s) : Keeps u0 (s.hostMrd a n) :=
  Keeps.ite (State.deliverRead_keeps _ _ _ _ _ (State.hostResult_keeps _ _ _ h_s))
    (Keeps.ite (State.deliverRead_keeps _ _ _ _ _ (State.hostResult_keeps _ _ _ h_s))
      (State.deliverRead_keeps _ _ _ _ _ (State.hostResult_keeps _ _ _ (State.busRead_keeps _ _ _ _ h_s))))

theorem execMrd_keeps {u0 : State} (addr : BitVec 32) (n : BitVec 9) (edges : BitVec 16) (s : Sys2Proof.Machine.State) (h_s : Keeps u0 s) :
    KeepsOut u0 (execMrd addr n edges s) := by
  unfold execMrd
  apply KeepsOut.next
  apply State.frame_keeps
  · assumption
  · intro y0 h1
    dsimp only [id]
    assumption
  · intro y2 h3
    apply State.hostMrd_keeps
    apply State.presentAll_keeps
    assumption

end Sys2Proof.Machine
end

