-- ==== Sys2Proof/Laws/Line.lean ====
section
/-! SUPPORT. What a lane carries reads back: the descrambler undoes the scrambler, and a block sent is the block received (R534 to R537). -/
set_option Elab.async false
namespace Sys2Proof.Machine
open Sys2Proof

@[simp] theorem tapBit_tapBit (b : BitVec 58) (x : Bool) : tapBit b (tapBit b x) = x := by
  unfold tapBit
  generalize b.getLsbD 38 = u, b.getLsbD 57 = v
  cases x <;> cases u <;> cases v <;> rfl

@[simp] theorem scrambleBits_length (b : BitVec 58) (l : List Bool) : (scrambleBits b l).1.length = l.length := by
  induction l generalizing b with
  | nil => rfl
  | cons x t ih => simp [scrambleBits, ih]

/-- The descrambler gives back what the scrambler took, from the same line bits before. -/
@[simp] theorem descrambleBits_scrambleBits (b : BitVec 58) (l : List Bool) : descrambleBits b (scrambleBits b l).1 = l := by
  induction l generalizing b with
  | nil => rfl
  | cons x t ih => simp [scrambleBits, descrambleBits, ih]

@[simp] theorem payloadBits_length (p : BitVec 64) : (payloadBits p).length = 64 := by simp [payloadBits]

theorem foldr_testBit (l : List Bool) (i : Nat) : (l.foldr (fun (b : Bool) n => b.toNat + 2 * n) 0).testBit i = l.getD i false := by
  induction l generalizing i with
  | nil => simp
  | cons x t ih =>
    cases i with
    | zero => cases x <;> simp [Nat.testBit_zero, Nat.add_mod]
    | succ j =>
      have h : (x.toNat + 2 * t.foldr (fun (b : Bool) n => b.toNat + 2 * n) 0) / 2 = t.foldr (fun (b : Bool) n => b.toNat + 2 * n) 0 := by cases x <;> simp <;> omega
      simp [Nat.testBit_succ, h, ih]

@[simp] theorem bitsPayload_getLsbD (l : List Bool) (i : Nat) (h : i < 64) : (bitsPayload l).getLsbD i = l.getD i false := by
  rw [bitsPayload, BitVec.getLsbD_ofNat, foldr_testBit]
  simp [h]

@[simp] theorem bitsPayload_payloadBits (p : BitVec 64) : bitsPayload (payloadBits p) = p := by
  apply BitVec.eq_of_getLsbD_eq
  intro i h
  rw [bitsPayload_getLsbD _ i h]
  simp [payloadBits, h]

@[simp] theorem payloadBits_bitsPayload (l : List Bool) (h : l.length = 64) : payloadBits (bitsPayload l) = l := by
  apply List.ext_getElem
  · simp [h]
  · intro i h1 h2
    have : i < 64 := by simpa using h1
    simp [payloadBits, bitsPayload_getLsbD _ i this, h2]

/-- The payload of a block that was sent is the payload put on the lane. -/
@[simp] theorem linePayload_send (i : LineItem) (b : BitVec 58) : linePayload (i.send b).1 = i.payload := by
  simp [linePayload, LineItem.send]

/-- A block sent is the block received: data, and control blocks of a listed type. -/
theorem lineItem_send_data (p : BitVec 64) (b : BitVec 58) : lineItem ((LineItem.data p).send b).1 = some (.data p) := by
  have h : ((LineItem.data p).send b).1.sync = 1 := rfl
  simp [lineItem, h, LineItem.payload]

theorem lineItem_send_control (ty : BitVec 8) (c : BitVec 56) (b : BitVec 58) (h : ty ∈ lineTypes) :
    lineItem ((LineItem.control ty c).send b).1 = some (.control ty c) := by
  have g : ((LineItem.control ty c).send b).1.sync = 2 := rfl
  have bit : ∀ i, (c ++ ty : BitVec 64).getLsbD i = if i < 8 then ty.getLsbD i else c.getLsbD (i - 8) := fun i => by
    have := BitVec.getLsbD_append (x := c) (y := ty) (i := i)
    simpa using this
  have e1 : (c ++ ty : BitVec 64).setWidth 8 = ty := by
    apply BitVec.eq_of_getLsbD_eq; intro i hi; rw [BitVec.getLsbD_setWidth, bit]; simp [hi]
  have e2 : (c ++ ty : BitVec 64).extractLsb' 8 56 = c := by
    apply BitVec.eq_of_getLsbD_eq; intro i hi; rw [BitVec.getLsbD_extractLsb', bit]; simp [hi]
  simp [lineItem, g, LineItem.payload, e1, e2, h]

@[simp] theorem lineData_send_data (p : BitVec 64) (b : BitVec 58) : lineData ((LineItem.data p).send b).1 = some p := by
  simp [lineData, lineItem_send_data]

end Sys2Proof.Machine
end

