-- ==== Sys2Proof/Laws/Memory.lean ====
section
/-! SUPPORT. Reading back what was stored: sparse tables and memory. -/
set_option Elab.async false
namespace Sys2Proof.Machine
open Sys2Proof

/-- A table in canonical form whose keys all lie above `b` lists nothing at `b`. -/
theorem aGet_below {α : Type} (d : α) (t : List (Nat × α)) (b : Nat) (h : ∀ e ∈ t, b < e.1) : aGet d t b = d := by
  induction t with
  | nil => rfl
  | cons q u ih =>
    have hq := h q (by simp)
    rw [aGet, if_neg (by omega)]
    exact ih (fun e he => h e (by simp [he]))

theorem aGet_aPut {α : Type} [DecidableEq α] (d : α) (l : List (Nat × α)) (h : aWf d l = true) (k : Nat) (v : α) (a : Nat) :
    aGet d (aPut d l k v) a = if a = k then v else aGet d l a := by
  induction l with
  | nil =>
    unfold aPut; split
    · next h => subst h; simp [aGet]
    · simp [aGet]
  | cons p t ih =>
    obtain ⟨k', v'⟩ := p
    have hw : v' ≠ d ∧ (∀ e ∈ t, k' < e.1) ∧ aWf d t = true := by simpa [aWf, and_assoc] using h
    obtain ⟨_, h2, h3⟩ := hw
    unfold aPut
    split
    · next hlt =>
      split
      · next hv =>
        by_cases ha : a = k
        · rw [if_pos ha, ha, hv]
          exact aGet_below _ _ _ (by intro e he; rcases List.mem_cons.1 he with rfl | he; exact hlt; exact Nat.lt_trans hlt (h2 e he))
        · rw [if_neg ha]
      · simp only [aGet]
    · split
      · next he =>
        subst he
        split
        · next hv =>
          by_cases ha : a = k
          · rw [if_pos ha, ha, hv]; exact aGet_below _ _ _ h2
          · rw [if_neg ha]; simp [aGet, ha]
        · by_cases ha : a = k
          · simp [aGet, ha]
          · simp [aGet, ha]
      · next hne =>
        simp only [aGet, ih h3]
        by_cases ha : a = k'
        · subst ha; simp [Ne.symm hne]
        · simp [ha]

theorem memPut_wf {m : List Host.Cell} (h : Memory.wf m) (a : Nat) (b : Byte) : Memory.wf (memPut m a b) := aPut_wf _ _ _ _ h

theorem memByte_memPut {m : List Host.Cell} (h : Memory.wf m) (k : Nat) (b : Byte) (a : Nat) :
    memByte (memPut m k b) a = if a = k then b else memByte m a := aGet_aPut _ _ h _ _ _

/-- A byte outside a stored range is unchanged; a byte inside is that byte of the value. -/
theorem memByte_memWrite (n : Nat) {m : List Host.Cell} (h : Memory.wf m) (k v a : Nat) :
    memByte (memWrite m k n v) a = if k ≤ a ∧ a < k + n then BitVec.ofNat 8 (v / 256 ^ (a - k)) else memByte m a := by
  induction n generalizing m k v with
  | zero => rw [memWrite, if_neg (by omega)]
  | succ n ih =>
    rw [memWrite, ih (memPut_wf h _ _), memByte_memPut h]
    by_cases h1 : a = k
    · subst h1
      rw [if_neg (by omega), if_pos rfl, if_pos (by omega), Nat.sub_self, Nat.pow_zero, Nat.div_one]
    · by_cases h2 : k ≤ a ∧ a < k + (n + 1)
      · rw [if_pos (by omega), if_pos h2, Nat.div_div_eq_div_mul, ← Nat.pow_succ', show (a - (k + 1)).succ = a - k by omega]
      · rw [if_neg (by omega), if_neg h1, if_neg h2]

/-- A number read over bytes that agree is the same. -/
theorem memRead_congr (n : Nat) (m m' : List Host.Cell) (k : Nat) (h : ∀ a, k ≤ a → a < k + n → memByte m' a = memByte m a) :
    memRead m' k n = memRead m k n := by
  induction n generalizing k with
  | zero => rfl
  | succ n ih =>
    rw [memRead, memRead, h k (Nat.le_refl _) (by omega), ih (k + 1) (fun a h1 h2 => h a (by omega) (by omega))]

/-- A stored number reads back, reduced to its bytes. -/
theorem memRead_memWrite (n : Nat) {m : List Host.Cell} (h : Memory.wf m) (k v : Nat) : memRead (memWrite m k n v) k n = v % 256 ^ n := by
  induction n generalizing m k v with
  | zero => rw [memRead, Nat.pow_zero, Nat.mod_one]
  | succ n ih =>
    have hb : memByte (memWrite m k (n + 1) v) k = BitVec.ofNat 8 v := by
      rw [memByte_memWrite _ h, if_pos (by omega), Nat.sub_self, Nat.pow_zero, Nat.div_one]
    rw [memRead, hb, memWrite, ih (memPut_wf h _ _), BitVec.toNat_ofNat, show (256 : Nat) ^ (n + 1) = 256 * 256 ^ n from Nat.pow_succ']
    exact Nat.mod_mul.symm

theorem memWord_memPutWord {m : List Host.Cell} (h : Memory.wf m) (k : Nat) (w : Word) : memWord (memPutWord m k w) k = w := by
  rw [memWord, memPutWord, memRead_memWrite _ h]
  apply BitVec.eq_of_toNat_eq
  rw [BitVec.toNat_ofNat]
  have := w.isLt
  omega

theorem memPutWord_wf {m : List Host.Cell} (h : Memory.wf m) (k : Nat) (w : Word) : Memory.wf (memPutWord m k w) := memWrite_wf _ _ _ _ h

theorem memByte_memPutWord {m : List Host.Cell} (h : Memory.wf m) (k : Nat) (w : Word) (a : Nat) (ha : a < k ∨ k + 4 ≤ a) :
    memByte (memPutWord m k w) a = memByte m a := by
  rw [memPutWord, memByte_memWrite _ h, if_neg (by omega)]

/-- Words stored in order: a byte outside all of them is unchanged. -/
theorem memByte_foldl_putWord (l : List (Nat × Word)) {m : List Host.Cell} (h : Memory.wf m) (a : Nat) (ha : ∀ p ∈ l, a < p.1 ∨ p.1 + 4 ≤ a) :
    memByte (l.foldl (fun m p => memPutWord m p.1 p.2) m) a = memByte m a := by
  induction l generalizing m with
  | nil => rfl
  | cons p t ih =>
    rw [List.foldl_cons, ih (memPutWord_wf h _ _) (fun q hq => ha q (by simp [hq])), memByte_memPutWord h _ _ _ (ha p (by simp))]

/-- Words stored in order: a word that no later one overlaps reads back. -/
theorem memWord_foldl_putWord (before : List (Nat × Word)) (p : Nat × Word) (after : List (Nat × Word)) {m : List Host.Cell} (h : Memory.wf m)
    (ha : ∀ q ∈ after, q.1 + 4 ≤ p.1 ∨ p.1 + 4 ≤ q.1) :
    memWord ((before ++ p :: after).foldl (fun m p => memPutWord m p.1 p.2) m) p.1 = p.2 := by
  rw [List.foldl_append, List.foldl_cons]
  have hw : Memory.wf (before.foldl (fun m p => memPutWord m p.1 p.2) m) := foldl_wf _ _ (fun m q hm => memPutWord_wf hm _ _) before _ h
  generalize before.foldl (fun m p => memPutWord m p.1 p.2) m = m1 at hw
  have : memRead (after.foldl (fun m p => memPutWord m p.1 p.2) (memPutWord m1 p.1 p.2)) p.1 4 = memRead (memPutWord m1 p.1 p.2) p.1 4 :=
    memRead_congr _ _ _ _ (fun a h1 h2 => memByte_foldl_putWord _ (memPutWord_wf hw _ _) a (fun q hq => by have := ha q hq; omega))
  rw [memWord, this]
  exact memWord_memPutWord hw _ _

end Sys2Proof.Machine
end

