-- ==== Sys2Proof/Laws/State.lean ====
section
/-! SUPPORT. What the shared updates of the state leave alone: one lemma for each field and update; objects read back. -/
set_option Elab.async false
namespace Sys2Proof.Machine
open Sys2Proof

/-! ### Objects -/

theorem oGet_oPut (l : List (Nat × Nat)) (k v a : Nat) : oGet (oPut l k v) a = if a = k then some v else oGet l a := by
  induction l with
  | nil => simp [oPut, oGet]
  | cons p t ih =>
    obtain ⟨k', v'⟩ := p
    unfold oPut
    split
    · simp only [oGet]
    · split
      · next h => subst h; simp only [oGet]; split <;> rfl
      · next h1 h2 =>
        simp only [oGet, ih]
        by_cases h : a = k'
        · subst h; simp [Ne.symm h2]
        · simp [h]

/-- An object reads as it was set, and every other one as before. -/
theorem State.obj_setObj (s : State) (a v b : Nat) : (s.setObj a v).obj b = if b = a then v else s.obj b := by
  simp only [State.obj, State.setObj, oGet_oPut]
  split <;> simp_all

@[simp] theorem State.obj_setObj_self (s : State) (a v : Nat) : (s.setObj a v).obj a = v := by simp [State.obj_setObj]

theorem State.obj_setObj_ne (s : State) {a b : Nat} (v : Nat) (h : b ≠ a) : (s.setObj a v).obj b = s.obj b := by
  simp [State.obj_setObj, h]

theorem State.obj_count (s : State) (a w n b : Nat) : (s.count a w n).obj b = if b = a then satAdd w (s.obj a) n else s.obj b := by
  simp [State.count, State.obj_setObj]

@[simp] theorem State.obj_count_self (s : State) (a w n : Nat) : (s.count a w n).obj a = satAdd w (s.obj a) n := by simp [State.obj_count]

theorem State.obj_count_ne (s : State) {a b : Nat} (w n : Nat) (h : b ≠ a) : (s.count a w n).obj b = s.obj b := by
  simp [State.obj_count, h]

@[simp] theorem State.obj_setEngine (s : State) (e : Fin 8) (x : Engine) (a : Nat) : (s.setEngine e x).obj a = s.obj a := rfl
@[simp] theorem State.obj_modEngine (s : State) (e : Fin 8) (f : Engine → Engine) (a : Nat) : (s.modEngine e f).obj a = s.obj a := rfl

/-! ### Engines -/

@[simp] theorem State.engine_setEngine_self (s : State) (e : Fin 8) (x : Engine) : (s.setEngine e x).engine e = x := by
  simp [State.engine, State.setEngine]

theorem State.engine_setEngine_ne (s : State) {e e' : Fin 8} (x : Engine) (h : e' ≠ e) : (s.setEngine e x).engine e' = s.engine e' := by
  simp [State.engine, State.setEngine, Ne.symm h]

@[simp] theorem State.engine_modEngine_self (s : State) (e : Fin 8) (f : Engine → Engine) : (s.modEngine e f).engine e = f (s.engine e) := by
  simp [State.modEngine]

theorem State.engine_modEngine_ne (s : State) {e e' : Fin 8} (f : Engine → Engine) (h : e' ≠ e) : (s.modEngine e f).engine e' = s.engine e' :=
  s.engine_setEngine_ne _ h

theorem State.setEngine_engine (s : State) (e : Fin 8) : s.setEngine e (s.engine e) = s := by
  cases s
  simp only [State.setEngine, State.engine, put, lane, Vector.set_getElem_self]

theorem State.modEngine_setEngine (s : State) (e : Fin 8) (f : Engine → Engine) : s.modEngine e f = s.setEngine e (f (s.engine e)) := rfl

/-! ### Field by field -/

@[simp] theorem State.setObj_pending (s : State) (a v : Nat) : (s.setObj a v).pending = s.pending := rfl
@[simp] theorem State.setObj_life (s : State) (a v : Nat) : (s.setObj a v).life = s.life := rfl
@[simp] theorem State.setObj_mem (s : State) (a v : Nat) : (s.setObj a v).mem = s.mem := rfl
@[simp] theorem State.setObj_bad (s : State) (a v : Nat) : (s.setObj a v).bad = s.bad := rfl
@[simp] theorem State.setObj_soft (s : State) (a v : Nat) : (s.setObj a v).soft = s.soft := rfl
@[simp] theorem State.setObj_integ (s : State) (a v : Nat) : (s.setObj a v).integ = s.integ := rfl
@[simp] theorem State.setObj_eng (s : State) (a v : Nat) : (s.setObj a v).eng = s.eng := rfl
@[simp] theorem State.setObj_io (s : State) (a v : Nat) : (s.setObj a v).io = s.io := rfl
@[simp] theorem State.setObj_groups (s : State) (a v : Nat) : (s.setObj a v).groups = s.groups := rfl
@[simp] theorem State.setObj_mutes (s : State) (a v : Nat) : (s.setObj a v).mutes = s.mutes := rfl
@[simp] theorem State.setObj_freeCtr (s : State) (a v : Nat) : (s.setObj a v).freeCtr = s.freeCtr := rfl
@[simp] theorem State.setObj_regErrors (s : State) (a v : Nat) : (s.setObj a v).regErrors = s.regErrors := rfl
@[simp] theorem State.setObj_winErrors (s : State) (a v : Nat) : (s.setObj a v).winErrors = s.winErrors := rfl
@[simp] theorem State.setObj_pendMode (s : State) (a v : Nat) : (s.setObj a v).pendMode = s.pendMode := rfl
@[simp] theorem State.setObj_otherCause (s : State) (a v : Nat) : (s.setObj a v).otherCause = s.otherCause := rfl
@[simp] theorem State.setObj_mediaTarget (s : State) (a v : Nat) : (s.setObj a v).mediaTarget = s.mediaTarget := rfl
@[simp] theorem State.setObj_rateSeq (s : State) (a v : Nat) : (s.setObj a v).rateSeq = s.rateSeq := rfl
@[simp] theorem State.setObj_sessions (s : State) (a v : Nat) : (s.setObj a v).sessions = s.sessions := rfl
@[simp] theorem State.setObj_resp (s : State) (a v : Nat) : (s.setObj a v).resp = s.resp := rfl
@[simp] theorem State.setObj_sets (s : State) (a v : Nat) : (s.setObj a v).sets = s.sets := rfl
@[simp] theorem State.setObj_history (s : State) (a v : Nat) : (s.setObj a v).history = s.history := rfl
@[simp] theorem State.setObj_held (s : State) (a v : Nat) : (s.setObj a v).held = s.held := rfl
@[simp] theorem State.setObj_xyQueue (s : State) (a v : Nat) : (s.setObj a v).xyQueue = s.xyQueue := rfl
@[simp] theorem State.setObj_events (s : State) (a v : Nat) : (s.setObj a v).events = s.events := rfl
@[simp] theorem State.setObj_evHist (s : State) (a v : Nat) : (s.setObj a v).evHist = s.evHist := rfl
@[simp] theorem State.setObj_fwQueue (s : State) (a v : Nat) : (s.setObj a v).fwQueue = s.fwQueue := rfl
@[simp] theorem State.setObj_live (s : State) (a v : Nat) : (s.setObj a v).live = s.live := rfl
@[simp] theorem State.setObj_liveWas (s : State) (a v : Nat) : (s.setObj a v).liveWas = s.liveWas := rfl
@[simp] theorem State.setObj_applyTick (s : State) (a v : Nat) : (s.setObj a v).applyTick = s.applyTick := rfl
@[simp] theorem State.setObj_pendObjs (s : State) (a v : Nat) : (s.setObj a v).pendObjs = s.pendObjs := rfl
@[simp] theorem State.setObj_params (s : State) (a v : Nat) : (s.setObj a v).params = s.params := rfl
@[simp] theorem State.setObj_gap (s : State) (a v : Nat) : (s.setObj a v).gap = s.gap := rfl
@[simp] theorem State.setObj_locusFreed (s : State) (a v : Nat) : (s.setObj a v).locusFreed = s.locusFreed := rfl
@[simp] theorem State.setObj_locusSum (s : State) (a v : Nat) : (s.setObj a v).locusSum = s.locusSum := rfl
@[simp] theorem State.setObj_til (s : State) (a v : Nat) : (s.setObj a v).til = s.til := rfl
@[simp] theorem State.setObj_sap (s : State) (a v : Nat) : (s.setObj a v).sap = s.sap := rfl
@[simp] theorem State.setObj_link (s : State) (a v : Nat) : (s.setObj a v).link = s.link := rfl
@[simp] theorem State.setObj_net (s : State) (a v : Nat) : (s.setObj a v).net = s.net := rfl
@[simp] theorem State.setObj_dma (s : State) (a v : Nat) : (s.setObj a v).dma = s.dma := rfl
@[simp] theorem State.setObj_hsp (s : State) (a v : Nat) : (s.setObj a v).hsp = s.hsp := rfl
@[simp] theorem State.setObj_per (s : State) (a v : Nat) : (s.setObj a v).per = s.per := rfl
@[simp] theorem State.setObj_perResp (s : State) (a v : Nat) : (s.setObj a v).perResp = s.perResp := rfl
@[simp] theorem State.setObj_xip (s : State) (a v : Nat) : (s.setObj a v).xip = s.xip := rfl
@[simp] theorem State.setObj_clk (s : State) (a v : Nat) : (s.setObj a v).clk = s.clk := rfl
@[simp] theorem State.setObj_aon (s : State) (a v : Nat) : (s.setObj a v).aon = s.aon := rfl
@[simp] theorem State.setObj_board (s : State) (a v : Nat) : (s.setObj a v).board = s.board := rfl
@[simp] theorem State.setObj_test (s : State) (a v : Nat) : (s.setObj a v).test = s.test := rfl
@[simp] theorem State.setObj_pb (s : State) (a v : Nat) : (s.setObj a v).pb = s.pb := rfl
@[simp] theorem State.setObj_update (s : State) (a v : Nat) : (s.setObj a v).update = s.update := rfl
@[simp] theorem State.setObj_flash (s : State) (a v : Nat) : (s.setObj a v).flash = s.flash := rfl
@[simp] theorem State.setObj_fuses (s : State) (a v : Nat) : (s.setObj a v).fuses = s.fuses := rfl

@[simp] theorem State.count_pending (s : State) (a w n : Nat) : (s.count a w n).pending = s.pending := rfl
@[simp] theorem State.count_life (s : State) (a w n : Nat) : (s.count a w n).life = s.life := rfl
@[simp] theorem State.count_mem (s : State) (a w n : Nat) : (s.count a w n).mem = s.mem := rfl
@[simp] theorem State.count_bad (s : State) (a w n : Nat) : (s.count a w n).bad = s.bad := rfl
@[simp] theorem State.count_soft (s : State) (a w n : Nat) : (s.count a w n).soft = s.soft := rfl
@[simp] theorem State.count_integ (s : State) (a w n : Nat) : (s.count a w n).integ = s.integ := rfl
@[simp] theorem State.count_eng (s : State) (a w n : Nat) : (s.count a w n).eng = s.eng := rfl
@[simp] theorem State.count_io (s : State) (a w n : Nat) : (s.count a w n).io = s.io := rfl
@[simp] theorem State.count_groups (s : State) (a w n : Nat) : (s.count a w n).groups = s.groups := rfl
@[simp] theorem State.count_mutes (s : State) (a w n : Nat) : (s.count a w n).mutes = s.mutes := rfl
@[simp] theorem State.count_freeCtr (s : State) (a w n : Nat) : (s.count a w n).freeCtr = s.freeCtr := rfl
@[simp] theorem State.count_regErrors (s : State) (a w n : Nat) : (s.count a w n).regErrors = s.regErrors := rfl
@[simp] theorem State.count_winErrors (s : State) (a w n : Nat) : (s.count a w n).winErrors = s.winErrors := rfl
@[simp] theorem State.count_pendMode (s : State) (a w n : Nat) : (s.count a w n).pendMode = s.pendMode := rfl
@[simp] theorem State.count_otherCause (s : State) (a w n : Nat) : (s.count a w n).otherCause = s.otherCause := rfl
@[simp] theorem State.count_mediaTarget (s : State) (a w n : Nat) : (s.count a w n).mediaTarget = s.mediaTarget := rfl
@[simp] theorem State.count_rateSeq (s : State) (a w n : Nat) : (s.count a w n).rateSeq = s.rateSeq := rfl
@[simp] theorem State.count_sessions (s : State) (a w n : Nat) : (s.count a w n).sessions = s.sessions := rfl
@[simp] theorem State.count_resp (s : State) (a w n : Nat) : (s.count a w n).resp = s.resp := rfl
@[simp] theorem State.count_sets (s : State) (a w n : Nat) : (s.count a w n).sets = s.sets := rfl
@[simp] theorem State.count_history (s : State) (a w n : Nat) : (s.count a w n).history = s.history := rfl
@[simp] theorem State.count_held (s : State) (a w n : Nat) : (s.count a w n).held = s.held := rfl
@[simp] theorem State.count_xyQueue (s : State) (a w n : Nat) : (s.count a w n).xyQueue = s.xyQueue := rfl
@[simp] theorem State.count_events (s : State) (a w n : Nat) : (s.count a w n).events = s.events := rfl
@[simp] theorem State.count_evHist (s : State) (a w n : Nat) : (s.count a w n).evHist = s.evHist := rfl
@[simp] theorem State.count_fwQueue (s : State) (a w n : Nat) : (s.count a w n).fwQueue = s.fwQueue := rfl
@[simp] theorem State.count_live (s : State) (a w n : Nat) : (s.count a w n).live = s.live := rfl
@[simp] theorem State.count_liveWas (s : State) (a w n : Nat) : (s.count a w n).liveWas = s.liveWas := rfl
@[simp] theorem State.count_applyTick (s : State) (a w n : Nat) : (s.count a w n).applyTick = s.applyTick := rfl
@[simp] theorem State.count_pendObjs (s : State) (a w n : Nat) : (s.count a w n).pendObjs = s.pendObjs := rfl
@[simp] theorem State.count_params (s : State) (a w n : Nat) : (s.count a w n).params = s.params := rfl
@[simp] theorem State.count_gap (s : State) (a w n : Nat) : (s.count a w n).gap = s.gap := rfl
@[simp] theorem State.count_locusFreed (s : State) (a w n : Nat) : (s.count a w n).locusFreed = s.locusFreed := rfl
@[simp] theorem State.count_locusSum (s : State) (a w n : Nat) : (s.count a w n).locusSum = s.locusSum := rfl
@[simp] theorem State.count_til (s : State) (a w n : Nat) : (s.count a w n).til = s.til := rfl
@[simp] theorem State.count_sap (s : State) (a w n : Nat) : (s.count a w n).sap = s.sap := rfl
@[simp] theorem State.count_link (s : State) (a w n : Nat) : (s.count a w n).link = s.link := rfl
@[simp] theorem State.count_net (s : State) (a w n : Nat) : (s.count a w n).net = s.net := rfl
@[simp] theorem State.count_dma (s : State) (a w n : Nat) : (s.count a w n).dma = s.dma := rfl
@[simp] theorem State.count_hsp (s : State) (a w n : Nat) : (s.count a w n).hsp = s.hsp := rfl
@[simp] theorem State.count_per (s : State) (a w n : Nat) : (s.count a w n).per = s.per := rfl
@[simp] theorem State.count_perResp (s : State) (a w n : Nat) : (s.count a w n).perResp = s.perResp := rfl
@[simp] theorem State.count_xip (s : State) (a w n : Nat) : (s.count a w n).xip = s.xip := rfl
@[simp] theorem State.count_clk (s : State) (a w n : Nat) : (s.count a w n).clk = s.clk := rfl
@[simp] theorem State.count_aon (s : State) (a w n : Nat) : (s.count a w n).aon = s.aon := rfl
@[simp] theorem State.count_board (s : State) (a w n : Nat) : (s.count a w n).board = s.board := rfl
@[simp] theorem State.count_test (s : State) (a w n : Nat) : (s.count a w n).test = s.test := rfl
@[simp] theorem State.count_pb (s : State) (a w n : Nat) : (s.count a w n).pb = s.pb := rfl
@[simp] theorem State.count_update (s : State) (a w n : Nat) : (s.count a w n).update = s.update := rfl
@[simp] theorem State.count_flash (s : State) (a w n : Nat) : (s.count a w n).flash = s.flash := rfl
@[simp] theorem State.count_fuses (s : State) (a w n : Nat) : (s.count a w n).fuses = s.fuses := rfl

@[simp] theorem State.setEngine_pending (s : State) (e : Fin 8) (x : Engine) : (s.setEngine e x).pending = s.pending := rfl
@[simp] theorem State.setEngine_life (s : State) (e : Fin 8) (x : Engine) : (s.setEngine e x).life = s.life := rfl
@[simp] theorem State.setEngine_mem (s : State) (e : Fin 8) (x : Engine) : (s.setEngine e x).mem = s.mem := rfl
@[simp] theorem State.setEngine_bad (s : State) (e : Fin 8) (x : Engine) : (s.setEngine e x).bad = s.bad := rfl
@[simp] theorem State.setEngine_soft (s : State) (e : Fin 8) (x : Engine) : (s.setEngine e x).soft = s.soft := rfl
@[simp] theorem State.setEngine_integ (s : State) (e : Fin 8) (x : Engine) : (s.setEngine e x).integ = s.integ := rfl
@[simp] theorem State.setEngine_objs (s : State) (e : Fin 8) (x : Engine) : (s.setEngine e x).objs = s.objs := rfl
@[simp] theorem State.setEngine_io (s : State) (e : Fin 8) (x : Engine) : (s.setEngine e x).io = s.io := rfl
@[simp] theorem State.setEngine_groups (s : State) (e : Fin 8) (x : Engine) : (s.setEngine e x).groups = s.groups := rfl
@[simp] theorem State.setEngine_mutes (s : State) (e : Fin 8) (x : Engine) : (s.setEngine e x).mutes = s.mutes := rfl
@[simp] theorem State.setEngine_freeCtr (s : State) (e : Fin 8) (x : Engine) : (s.setEngine e x).freeCtr = s.freeCtr := rfl
@[simp] theorem State.setEngine_regErrors (s : State) (e : Fin 8) (x : Engine) : (s.setEngine e x).regErrors = s.regErrors := rfl
@[simp] theorem State.setEngine_winErrors (s : State) (e : Fin 8) (x : Engine) : (s.setEngine e x).winErrors = s.winErrors := rfl
@[simp] theorem State.setEngine_pendMode (s : State) (e : Fin 8) (x : Engine) : (s.setEngine e x).pendMode = s.pendMode := rfl
@[simp] theorem State.setEngine_otherCause (s : State) (e : Fin 8) (x : Engine) : (s.setEngine e x).otherCause = s.otherCause := rfl
@[simp] theorem State.setEngine_mediaTarget (s : State) (e : Fin 8) (x : Engine) : (s.setEngine e x).mediaTarget = s.mediaTarget := rfl
@[simp] theorem State.setEngine_rateSeq (s : State) (e : Fin 8) (x : Engine) : (s.setEngine e x).rateSeq = s.rateSeq := rfl
@[simp] theorem State.setEngine_sessions (s : State) (e : Fin 8) (x : Engine) : (s.setEngine e x).sessions = s.sessions := rfl
@[simp] theorem State.setEngine_resp (s : State) (e : Fin 8) (x : Engine) : (s.setEngine e x).resp = s.resp := rfl
@[simp] theorem State.setEngine_sets (s : State) (e : Fin 8) (x : Engine) : (s.setEngine e x).sets = s.sets := rfl
@[simp] theorem State.setEngine_history (s : State) (e : Fin 8) (x : Engine) : (s.setEngine e x).history = s.history := rfl
@[simp] theorem State.setEngine_held (s : State) (e : Fin 8) (x : Engine) : (s.setEngine e x).held = s.held := rfl
@[simp] theorem State.setEngine_xyQueue (s : State) (e : Fin 8) (x : Engine) : (s.setEngine e x).xyQueue = s.xyQueue := rfl
@[simp] theorem State.setEngine_events (s : State) (e : Fin 8) (x : Engine) : (s.setEngine e x).events = s.events := rfl
@[simp] theorem State.setEngine_evHist (s : State) (e : Fin 8) (x : Engine) : (s.setEngine e x).evHist = s.evHist := rfl
@[simp] theorem State.setEngine_fwQueue (s : State) (e : Fin 8) (x : Engine) : (s.setEngine e x).fwQueue = s.fwQueue := rfl
@[simp] theorem State.setEngine_live (s : State) (e : Fin 8) (x : Engine) : (s.setEngine e x).live = s.live := rfl
@[simp] theorem State.setEngine_liveWas (s : State) (e : Fin 8) (x : Engine) : (s.setEngine e x).liveWas = s.liveWas := rfl
@[simp] theorem State.setEngine_applyTick (s : State) (e : Fin 8) (x : Engine) : (s.setEngine e x).applyTick = s.applyTick := rfl
@[simp] theorem State.setEngine_pendObjs (s : State) (e : Fin 8) (x : Engine) : (s.setEngine e x).pendObjs = s.pendObjs := rfl
@[simp] theorem State.setEngine_params (s : State) (e : Fin 8) (x : Engine) : (s.setEngine e x).params = s.params := rfl
@[simp] theorem State.setEngine_gap (s : State) (e : Fin 8) (x : Engine) : (s.setEngine e x).gap = s.gap := rfl
@[simp] theorem State.setEngine_locusFreed (s : State) (e : Fin 8) (x : Engine) : (s.setEngine e x).locusFreed = s.locusFreed := rfl
@[simp] theorem State.setEngine_locusSum (s : State) (e : Fin 8) (x : Engine) : (s.setEngine e x).locusSum = s.locusSum := rfl
@[simp] theorem State.setEngine_til (s : State) (e : Fin 8) (x : Engine) : (s.setEngine e x).til = s.til := rfl
@[simp] theorem State.setEngine_sap (s : State) (e : Fin 8) (x : Engine) : (s.setEngine e x).sap = s.sap := rfl
@[simp] theorem State.setEngine_link (s : State) (e : Fin 8) (x : Engine) : (s.setEngine e x).link = s.link := rfl
@[simp] theorem State.setEngine_net (s : State) (e : Fin 8) (x : Engine) : (s.setEngine e x).net = s.net := rfl
@[simp] theorem State.setEngine_dma (s : State) (e : Fin 8) (x : Engine) : (s.setEngine e x).dma = s.dma := rfl
@[simp] theorem State.setEngine_hsp (s : State) (e : Fin 8) (x : Engine) : (s.setEngine e x).hsp = s.hsp := rfl
@[simp] theorem State.setEngine_per (s : State) (e : Fin 8) (x : Engine) : (s.setEngine e x).per = s.per := rfl
@[simp] theorem State.setEngine_perResp (s : State) (e : Fin 8) (x : Engine) : (s.setEngine e x).perResp = s.perResp := rfl
@[simp] theorem State.setEngine_xip (s : State) (e : Fin 8) (x : Engine) : (s.setEngine e x).xip = s.xip := rfl
@[simp] theorem State.setEngine_clk (s : State) (e : Fin 8) (x : Engine) : (s.setEngine e x).clk = s.clk := rfl
@[simp] theorem State.setEngine_aon (s : State) (e : Fin 8) (x : Engine) : (s.setEngine e x).aon = s.aon := rfl
@[simp] theorem State.setEngine_board (s : State) (e : Fin 8) (x : Engine) : (s.setEngine e x).board = s.board := rfl
@[simp] theorem State.setEngine_test (s : State) (e : Fin 8) (x : Engine) : (s.setEngine e x).test = s.test := rfl
@[simp] theorem State.setEngine_pb (s : State) (e : Fin 8) (x : Engine) : (s.setEngine e x).pb = s.pb := rfl
@[simp] theorem State.setEngine_update (s : State) (e : Fin 8) (x : Engine) : (s.setEngine e x).update = s.update := rfl
@[simp] theorem State.setEngine_flash (s : State) (e : Fin 8) (x : Engine) : (s.setEngine e x).flash = s.flash := rfl
@[simp] theorem State.setEngine_fuses (s : State) (e : Fin 8) (x : Engine) : (s.setEngine e x).fuses = s.fuses := rfl

@[simp] theorem State.modEngine_pending (s : State) (e : Fin 8) (f : Engine → Engine) : (s.modEngine e f).pending = s.pending := rfl
@[simp] theorem State.modEngine_life (s : State) (e : Fin 8) (f : Engine → Engine) : (s.modEngine e f).life = s.life := rfl
@[simp] theorem State.modEngine_mem (s : State) (e : Fin 8) (f : Engine → Engine) : (s.modEngine e f).mem = s.mem := rfl
@[simp] theorem State.modEngine_bad (s : State) (e : Fin 8) (f : Engine → Engine) : (s.modEngine e f).bad = s.bad := rfl
@[simp] theorem State.modEngine_soft (s : State) (e : Fin 8) (f : Engine → Engine) : (s.modEngine e f).soft = s.soft := rfl
@[simp] theorem State.modEngine_integ (s : State) (e : Fin 8) (f : Engine → Engine) : (s.modEngine e f).integ = s.integ := rfl
@[simp] theorem State.modEngine_objs (s : State) (e : Fin 8) (f : Engine → Engine) : (s.modEngine e f).objs = s.objs := rfl
@[simp] theorem State.modEngine_io (s : State) (e : Fin 8) (f : Engine → Engine) : (s.modEngine e f).io = s.io := rfl
@[simp] theorem State.modEngine_groups (s : State) (e : Fin 8) (f : Engine → Engine) : (s.modEngine e f).groups = s.groups := rfl
@[simp] theorem State.modEngine_mutes (s : State) (e : Fin 8) (f : Engine → Engine) : (s.modEngine e f).mutes = s.mutes := rfl
@[simp] theorem State.modEngine_freeCtr (s : State) (e : Fin 8) (f : Engine → Engine) : (s.modEngine e f).freeCtr = s.freeCtr := rfl
@[simp] theorem State.modEngine_regErrors (s : State) (e : Fin 8) (f : Engine → Engine) : (s.modEngine e f).regErrors = s.regErrors := rfl
@[simp] theorem State.modEngine_winErrors (s : State) (e : Fin 8) (f : Engine → Engine) : (s.modEngine e f).winErrors = s.winErrors := rfl
@[simp] theorem State.modEngine_pendMode (s : State) (e : Fin 8) (f : Engine → Engine) : (s.modEngine e f).pendMode = s.pendMode := rfl
@[simp] theorem State.modEngine_otherCause (s : State) (e : Fin 8) (f : Engine → Engine) : (s.modEngine e f).otherCause = s.otherCause := rfl
@[simp] theorem State.modEngine_mediaTarget (s : State) (e : Fin 8) (f : Engine → Engine) : (s.modEngine e f).mediaTarget = s.mediaTarget := rfl
@[simp] theorem State.modEngine_rateSeq (s : State) (e : Fin 8) (f : Engine → Engine) : (s.modEngine e f).rateSeq = s.rateSeq := rfl
@[simp] theorem State.modEngine_sessions (s : State) (e : Fin 8) (f : Engine → Engine) : (s.modEngine e f).sessions = s.sessions := rfl
@[simp] theorem State.modEngine_resp (s : State) (e : Fin 8) (f : Engine → Engine) : (s.modEngine e f).resp = s.resp := rfl
@[simp] theorem State.modEngine_sets (s : State) (e : Fin 8) (f : Engine → Engine) : (s.modEngine e f).sets = s.sets := rfl
@[simp] theorem State.modEngine_history (s : State) (e : Fin 8) (f : Engine → Engine) : (s.modEngine e f).history = s.history := rfl
@[simp] theorem State.modEngine_held (s : State) (e : Fin 8) (f : Engine → Engine) : (s.modEngine e f).held = s.held := rfl
@[simp] theorem State.modEngine_xyQueue (s : State) (e : Fin 8) (f : Engine → Engine) : (s.modEngine e f).xyQueue = s.xyQueue := rfl
@[simp] theorem State.modEngine_events (s : State) (e : Fin 8) (f : Engine → Engine) : (s.modEngine e f).events = s.events := rfl
@[simp] theorem State.modEngine_evHist (s : State) (e : Fin 8) (f : Engine → Engine) : (s.modEngine e f).evHist = s.evHist := rfl
@[simp] theorem State.modEngine_fwQueue (s : State) (e : Fin 8) (f : Engine → Engine) : (s.modEngine e f).fwQueue = s.fwQueue := rfl
@[simp] theorem State.modEngine_live (s : State) (e : Fin 8) (f : Engine → Engine) : (s.modEngine e f).live = s.live := rfl
@[simp] theorem State.modEngine_liveWas (s : State) (e : Fin 8) (f : Engine → Engine) : (s.modEngine e f).liveWas = s.liveWas := rfl
@[simp] theorem State.modEngine_applyTick (s : State) (e : Fin 8) (f : Engine → Engine) : (s.modEngine e f).applyTick = s.applyTick := rfl
@[simp] theorem State.modEngine_pendObjs (s : State) (e : Fin 8) (f : Engine → Engine) : (s.modEngine e f).pendObjs = s.pendObjs := rfl
@[simp] theorem State.modEngine_params (s : State) (e : Fin 8) (f : Engine → Engine) : (s.modEngine e f).params = s.params := rfl
@[simp] theorem State.modEngine_gap (s : State) (e : Fin 8) (f : Engine → Engine) : (s.modEngine e f).gap = s.gap := rfl
@[simp] theorem State.modEngine_locusFreed (s : State) (e : Fin 8) (f : Engine → Engine) : (s.modEngine e f).locusFreed = s.locusFreed := rfl
@[simp] theorem State.modEngine_locusSum (s : State) (e : Fin 8) (f : Engine → Engine) : (s.modEngine e f).locusSum = s.locusSum := rfl
@[simp] theorem State.modEngine_til (s : State) (e : Fin 8) (f : Engine → Engine) : (s.modEngine e f).til = s.til := rfl
@[simp] theorem State.modEngine_sap (s : State) (e : Fin 8) (f : Engine → Engine) : (s.modEngine e f).sap = s.sap := rfl
@[simp] theorem State.modEngine_link (s : State) (e : Fin 8) (f : Engine → Engine) : (s.modEngine e f).link = s.link := rfl
@[simp] theorem State.modEngine_net (s : State) (e : Fin 8) (f : Engine → Engine) : (s.modEngine e f).net = s.net := rfl
@[simp] theorem State.modEngine_dma (s : State) (e : Fin 8) (f : Engine → Engine) : (s.modEngine e f).dma = s.dma := rfl
@[simp] theorem State.modEngine_hsp (s : State) (e : Fin 8) (f : Engine → Engine) : (s.modEngine e f).hsp = s.hsp := rfl
@[simp] theorem State.modEngine_per (s : State) (e : Fin 8) (f : Engine → Engine) : (s.modEngine e f).per = s.per := rfl
@[simp] theorem State.modEngine_perResp (s : State) (e : Fin 8) (f : Engine → Engine) : (s.modEngine e f).perResp = s.perResp := rfl
@[simp] theorem State.modEngine_xip (s : State) (e : Fin 8) (f : Engine → Engine) : (s.modEngine e f).xip = s.xip := rfl
@[simp] theorem State.modEngine_clk (s : State) (e : Fin 8) (f : Engine → Engine) : (s.modEngine e f).clk = s.clk := rfl
@[simp] theorem State.modEngine_aon (s : State) (e : Fin 8) (f : Engine → Engine) : (s.modEngine e f).aon = s.aon := rfl
@[simp] theorem State.modEngine_board (s : State) (e : Fin 8) (f : Engine → Engine) : (s.modEngine e f).board = s.board := rfl
@[simp] theorem State.modEngine_test (s : State) (e : Fin 8) (f : Engine → Engine) : (s.modEngine e f).test = s.test := rfl
@[simp] theorem State.modEngine_pb (s : State) (e : Fin 8) (f : Engine → Engine) : (s.modEngine e f).pb = s.pb := rfl
@[simp] theorem State.modEngine_update (s : State) (e : Fin 8) (f : Engine → Engine) : (s.modEngine e f).update = s.update := rfl
@[simp] theorem State.modEngine_flash (s : State) (e : Fin 8) (f : Engine → Engine) : (s.modEngine e f).flash = s.flash := rfl
@[simp] theorem State.modEngine_fuses (s : State) (e : Fin 8) (f : Engine → Engine) : (s.modEngine e f).fuses = s.fuses := rfl

@[simp] theorem State.event_pending (s : State) (code data : Nat) : (s.event code data).pending = s.pending := by unfold State.event State.eventAt; split <;> rfl
@[simp] theorem State.event_life (s : State) (code data : Nat) : (s.event code data).life = s.life := by unfold State.event State.eventAt; split <;> rfl
@[simp] theorem State.event_mem (s : State) (code data : Nat) : (s.event code data).mem = s.mem := by unfold State.event State.eventAt; split <;> rfl
@[simp] theorem State.event_bad (s : State) (code data : Nat) : (s.event code data).bad = s.bad := by unfold State.event State.eventAt; split <;> rfl
@[simp] theorem State.event_soft (s : State) (code data : Nat) : (s.event code data).soft = s.soft := by unfold State.event State.eventAt; split <;> rfl
@[simp] theorem State.event_integ (s : State) (code data : Nat) : (s.event code data).integ = s.integ := by unfold State.event State.eventAt; split <;> rfl
@[simp] theorem State.event_eng (s : State) (code data : Nat) : (s.event code data).eng = s.eng := by unfold State.event State.eventAt; split <;> rfl
@[simp] theorem State.event_io (s : State) (code data : Nat) : (s.event code data).io = s.io := by unfold State.event State.eventAt; split <;> rfl
@[simp] theorem State.event_groups (s : State) (code data : Nat) : (s.event code data).groups = s.groups := by unfold State.event State.eventAt; split <;> rfl
@[simp] theorem State.event_mutes (s : State) (code data : Nat) : (s.event code data).mutes = s.mutes := by unfold State.event State.eventAt; split <;> rfl
@[simp] theorem State.event_freeCtr (s : State) (code data : Nat) : (s.event code data).freeCtr = s.freeCtr := by unfold State.event State.eventAt; split <;> rfl
@[simp] theorem State.event_regErrors (s : State) (code data : Nat) : (s.event code data).regErrors = s.regErrors := by unfold State.event State.eventAt; split <;> rfl
@[simp] theorem State.event_winErrors (s : State) (code data : Nat) : (s.event code data).winErrors = s.winErrors := by unfold State.event State.eventAt; split <;> rfl
@[simp] theorem State.event_pendMode (s : State) (code data : Nat) : (s.event code data).pendMode = s.pendMode := by unfold State.event State.eventAt; split <;> rfl
@[simp] theorem State.event_otherCause (s : State) (code data : Nat) : (s.event code data).otherCause = s.otherCause := by unfold State.event State.eventAt; split <;> rfl
@[simp] theorem State.event_mediaTarget (s : State) (code data : Nat) : (s.event code data).mediaTarget = s.mediaTarget := by unfold State.event State.eventAt; split <;> rfl
@[simp] theorem State.event_rateSeq (s : State) (code data : Nat) : (s.event code data).rateSeq = s.rateSeq := by unfold State.event State.eventAt; split <;> rfl
@[simp] theorem State.event_sessions (s : State) (code data : Nat) : (s.event code data).sessions = s.sessions := by unfold State.event State.eventAt; split <;> rfl
@[simp] theorem State.event_resp (s : State) (code data : Nat) : (s.event code data).resp = s.resp := by unfold State.event State.eventAt; split <;> rfl
@[simp] theorem State.event_sets (s : State) (code data : Nat) : (s.event code data).sets = s.sets := by unfold State.event State.eventAt; split <;> rfl
@[simp] theorem State.event_history (s : State) (code data : Nat) : (s.event code data).history = s.history := by unfold State.event State.eventAt; split <;> rfl
@[simp] theorem State.event_held (s : State) (code data : Nat) : (s.event code data).held = s.held := by unfold State.event State.eventAt; split <;> rfl
@[simp] theorem State.event_xyQueue (s : State) (code data : Nat) : (s.event code data).xyQueue = s.xyQueue := by unfold State.event State.eventAt; split <;> rfl
@[simp] theorem State.event_fwQueue (s : State) (code data : Nat) : (s.event code data).fwQueue = s.fwQueue := by unfold State.event State.eventAt; split <;> rfl
@[simp] theorem State.event_live (s : State) (code data : Nat) : (s.event code data).live = s.live := by unfold State.event State.eventAt; split <;> rfl
@[simp] theorem State.event_liveWas (s : State) (code data : Nat) : (s.event code data).liveWas = s.liveWas := by unfold State.event State.eventAt; split <;> rfl
@[simp] theorem State.event_applyTick (s : State) (code data : Nat) : (s.event code data).applyTick = s.applyTick := by unfold State.event State.eventAt; split <;> rfl
@[simp] theorem State.event_pendObjs (s : State) (code data : Nat) : (s.event code data).pendObjs = s.pendObjs := by unfold State.event State.eventAt; split <;> rfl
@[simp] theorem State.event_params (s : State) (code data : Nat) : (s.event code data).params = s.params := by unfold State.event State.eventAt; split <;> rfl
@[simp] theorem State.event_gap (s : State) (code data : Nat) : (s.event code data).gap = s.gap := by unfold State.event State.eventAt; split <;> rfl
@[simp] theorem State.event_locusFreed (s : State) (code data : Nat) : (s.event code data).locusFreed = s.locusFreed := by unfold State.event State.eventAt; split <;> rfl
@[simp] theorem State.event_locusSum (s : State) (code data : Nat) : (s.event code data).locusSum = s.locusSum := by unfold State.event State.eventAt; split <;> rfl
@[simp] theorem State.event_til (s : State) (code data : Nat) : (s.event code data).til = s.til := by unfold State.event State.eventAt; split <;> rfl
@[simp] theorem State.event_sap (s : State) (code data : Nat) : (s.event code data).sap = s.sap := by unfold State.event State.eventAt; split <;> rfl
@[simp] theorem State.event_link (s : State) (code data : Nat) : (s.event code data).link = s.link := by unfold State.event State.eventAt; split <;> rfl
@[simp] theorem State.event_net (s : State) (code data : Nat) : (s.event code data).net = s.net := by unfold State.event State.eventAt; split <;> rfl
@[simp] theorem State.event_dma (s : State) (code data : Nat) : (s.event code data).dma = s.dma := by unfold State.event State.eventAt; split <;> rfl
@[simp] theorem State.event_hsp (s : State) (code data : Nat) : (s.event code data).hsp = s.hsp := by unfold State.event State.eventAt; split <;> rfl
@[simp] theorem State.event_per (s : State) (code data : Nat) : (s.event code data).per = s.per := by unfold State.event State.eventAt; split <;> rfl
@[simp] theorem State.event_perResp (s : State) (code data : Nat) : (s.event code data).perResp = s.perResp := by unfold State.event State.eventAt; split <;> rfl
@[simp] theorem State.event_xip (s : State) (code data : Nat) : (s.event code data).xip = s.xip := by unfold State.event State.eventAt; split <;> rfl
@[simp] theorem State.event_clk (s : State) (code data : Nat) : (s.event code data).clk = s.clk := by unfold State.event State.eventAt; split <;> rfl
@[simp] theorem State.event_aon (s : State) (code data : Nat) : (s.event code data).aon = s.aon := by unfold State.event State.eventAt; split <;> rfl
@[simp] theorem State.event_board (s : State) (code data : Nat) : (s.event code data).board = s.board := by unfold State.event State.eventAt; split <;> rfl
@[simp] theorem State.event_test (s : State) (code data : Nat) : (s.event code data).test = s.test := by unfold State.event State.eventAt; split <;> rfl
@[simp] theorem State.event_pb (s : State) (code data : Nat) : (s.event code data).pb = s.pb := by unfold State.event State.eventAt; split <;> rfl
@[simp] theorem State.event_update (s : State) (code data : Nat) : (s.event code data).update = s.update := by unfold State.event State.eventAt; split <;> rfl
@[simp] theorem State.event_flash (s : State) (code data : Nat) : (s.event code data).flash = s.flash := by unfold State.event State.eventAt; split <;> rfl
@[simp] theorem State.event_fuses (s : State) (code data : Nat) : (s.event code data).fuses = s.fuses := by unfold State.event State.eventAt; split <;> rfl

/-! ### Events, journal and answer -/

theorem State.obj_event (s : State) (code data : Nat) {a : Nat} (h : a ≠ O.eventsLost) : (s.event code data).obj a = s.obj a := by
  unfold State.event State.eventAt
  split
  · exact (State.obj_count_ne _ _ _ h)
  · rfl

@[simp] theorem State.outside_setObj (s : State) (a v : Nat) : (s.setObj a v).outside = s.outside := rfl
@[simp] theorem State.outside_count (s : State) (a w n : Nat) : (s.count a w n).outside = s.outside := rfl
@[simp] theorem State.outside_event (s : State) (c d : Nat) : (s.event c d).outside = s.outside := by unfold State.event State.eventAt; split <;> rfl

theorem State.markStale_leaves (s : State) (addr : Nat) : (s.markStale addr).outside = s.outside ∧ (s.markStale addr).mem = s.mem ∧
    ∀ a, a ≠ O.staticPagesStale → (s.markStale addr).obj a = s.obj a := by
  unfold State.markStale
  dsimp only
  split
  · exact ⟨rfl, rfl, fun a h => State.obj_setObj_ne _ _ h⟩
  · exact ⟨rfl, rfl, fun _ _ => rfl⟩

/-- A store changes the bytes it names, the marks of uncorrectable words, and the stale pages. -/
theorem State.store_leaves (s : State) (addr n v : Nat) : (s.store addr n v).outside = s.outside ∧
    (s.store addr n v).mem = memWrite s.mem addr n v ∧ ∀ a, a ≠ O.staticPagesStale → (s.store addr n v).obj a = s.obj a := by
  unfold State.store
  obtain ⟨h1, h2, h3⟩ := State.markStale_leaves
    { s with mem := memWrite s.mem addr n v
             bad := s.bad.filter (fun c => !(decide (addr ≤ c) && decide (c + codeWordBytes c ≤ addr + n)))
             soft := s.soft.filter (fun c => !(decide (c < addr + n) && decide (addr < c + codeWordBytes c)))
             integ := { s.integ with record := s.integ.record.filter (fun c => !(decide (addr ≤ c) && decide (c + codeWordBytes c ≤ addr + n))) } } addr
  exact ⟨h1, h2, h3⟩

theorem bookkeeping_ne {a : Nat} (h : bookkeeping a = false) : a ≠ O.eventsLost ∧ a ≠ O.staticPagesStale ∧ a ≠ O.locusChain ∧
    a ≠ O.locusWriteSeq ∧ a ≠ O.locusRecordsLost ∧ a ≠ O.requestsServed ∧ a ≠ O.busyResponses ∧ a ≠ O.rightsDenials ∧ a ≠ O.locusStrictRefusals := by
  simpa [bookkeeping] using h

theorem Booked.refl (s : State) : Booked s s := ⟨rfl, fun _ _ => rfl, fun _ _ => rfl, rfl⟩

theorem Booked.trans {s t u : State} (h : Booked s t) (g : Booked t u) : Booked s u :=
  ⟨g.outside.trans h.outside, fun a ha => (g.obj a ha).trans (h.obj a ha), fun a ha => (g.mem a ha).trans (h.mem a ha), g.hsp.trans h.hsp⟩

theorem Booked.setObj {s t : State} (h : Booked s t) {a : Nat} (v : Nat) (ha : bookkeeping a = true) : Booked s (t.setObj a v) :=
  h.trans ⟨rfl, fun b hb => State.obj_setObj_ne _ _ (fun e => by simp [e, ha] at hb), fun _ _ => rfl, rfl⟩

theorem Booked.count {s t : State} (h : Booked s t) {a : Nat} (w n : Nat) (ha : bookkeeping a = true) : Booked s (t.count a w n) :=
  h.setObj _ ha

theorem Booked.event {s t : State} (h : Booked s t) (c d : Nat) : Booked s (t.event c d) :=
  h.trans ⟨State.outside_event _ _ _, fun _ hb => State.obj_event _ _ _ (bookkeeping_ne hb).1, fun _ _ => by rw [State.event_mem], by unfold State.hspKept; rw [State.event_hsp]⟩

theorem aGet_aPut_ne {α : Type} [DecidableEq α] (d : α) (l : List (Nat × α)) (k : Nat) (v : α) {a : Nat} (h : a ≠ k) :
    aGet d (aPut d l k v) a = aGet d l a := by
  induction l with
  | nil => unfold aPut; split <;> simp [aGet, h]
  | cons p t ih =>
    unfold aPut
    split
    · split <;> simp [aGet, h]
    · split
      · next hk => subst hk; split <;> simp [aGet, h]
      · simp [aGet, ih]

theorem memByte_memWrite_ne (n : Nat) (m : List Host.Cell) (k v : Nat) {a : Nat} (h : a < k ∨ k + n ≤ a) :
    memByte (memWrite m k n v) a = memByte m a := by
  induction n generalizing m k v with
  | zero => rfl
  | succ n ih =>
    unfold memWrite
    rw [ih _ _ _ (by omega)]
    exact aGet_aPut_ne _ _ _ _ (by omega)

theorem leBytes_length (n v : Nat) : (leBytes n v).length = n := by
  induction n generalizing v with
  | zero => rfl
  | succ n ih => simp [leBytes, ih]

theorem Record.bytes_length (r : Record) (epoch : Nat) : (r.bytes epoch).length = 32 := by
  simp [Record.bytes, leBytes_length]

/-- A record stored in the ring changes the ring alone. -/
theorem Booked.storeRing {s t : State} (h : Booked s t) (r : Nat) (l : List Byte) (hl : l.length = 32) : Booked s (t.storeBytes (ringAddr r) l) := by
  refine h.trans ⟨(State.store_leaves _ _ _ _).1, fun _ hb => (State.store_leaves _ _ _ _).2.2 _ (bookkeeping_ne hb).2.1, fun a ha => ?_, ?_⟩
  · unfold State.storeBytes
    rw [(State.store_leaves _ _ _ _).2.1]
    apply memByte_memWrite_ne
    unfold ringAddr
    rw [hl]
    omega
  · unfold State.storeBytes State.store State.markStale
    dsimp only
    split <;> rfl

theorem Booked.same {s t u : State} (h : Booked s t) (ho : u.outside = t.outside) (hj : u.objs = t.objs) (hm : u.mem = t.mem)
    (hh : u.hspKept = t.hspKept) : Booked s u :=
  h.trans ⟨ho, fun a _ => by simp [State.obj, hj], fun a _ => by rw [hm], hh⟩

theorem Booked.makeFinal {s t : State} (h : Booked s t) (l : List Byte) : Booked s (t.makeFinal l) := by
  unfold State.makeFinal
  refine Booked.setObj (a := O.locusChain) ?_ _ (by decide)
  exact h.same rfl rfl rfl rfl

theorem Booked.closeGap {s t : State} (h : Booked s t) : Booked s t.closeGap := by
  unfold State.closeGap
  split
  · exact h
  · split
    · exact h
    · refine Booked.event (Booked.count (a := O.locusRecordsLost) (Booked.makeFinal ?_ _) _ _ (by decide)) _ _
      exact h.same rfl rfl rfl rfl

theorem Booked.loseRecord {s t : State} (h : Booked s t) (strict : Bool) : Booked s (t.loseRecord strict) := by
  unfold State.loseRecord
  dsimp only
  refine Booked.storeRing ?_ _ _ (Record.bytes_length _ _)
  split
  · exact Booked.same (Booked.event (h.setObj _ (by decide)) _ _) rfl rfl rfl rfl
  · exact h.same rfl rfl rfl rfl

theorem Booked.journal {s t : State} (h : Booked s t) (r : Record) : Booked s (t.journal r) := by
  unfold State.journal
  dsimp only
  split
  · exact (h.closeGap).loseRecord _
  · exact Booked.makeFinal (Booked.setObj (Booked.storeRing h.closeGap _ _ (Record.bytes_length _ _)) _ (by decide)) _

theorem Booked.refuseStrict {s t : State} (h : Booked s t) : Booked s t.refuseStrict :=
  Booked.loseRecord (h.count _ _ (by decide)) _

theorem State.setSession_leaves (s : State) (x : Session) : (s.setSession x).outside = s.outside ∧ (s.setSession x).objs = s.objs ∧ (s.setSession x).mem = s.mem ∧
    (s.setSession x).hspKept = s.hspKept := by
  unfold State.setSession
  split <;> exact ⟨rfl, rfl, rfl, rfl⟩

theorem Booked.respond {s t : State} (h : Booked s t) (k : SessKey) (a code : Nat) (words : List (BitVec 32)) : Booked s (t.respond k a code words) := by
  have h1 : Booked s ((t.count O.requestsServed 64 1).count O.busyResponses 32 (if code = rcBusy then 1 else 0)) :=
    (h.count _ _ (by decide)).count _ _ (by decide)
  unfold State.respond
  dsimp only
  generalize (t.count O.requestsServed 64 1).count O.busyResponses 32 (if code = rcBusy then 1 else 0) = u at h1
  have h2 : ∀ x, Booked s (u.setSession x) := fun x => 
    h1.same (State.setSession_leaves _ _).1 (State.setSession_leaves _ _).2.1 (State.setSession_leaves _ _).2.2.1 (State.setSession_leaves _ _).2.2.2
  split <;> split <;> first | exact h1.same rfl rfl rfl rfl | exact (h2 _).same rfl rfl rfl rfl

theorem Booked.noteRights {s t : State} (h : Booked s t) (k : SessKey) (a code : Nat) (w : Bool) : Booked s (t.noteRights k a code w) := by
  unfold State.noteRights
  dsimp only
  split
  · split
    · exact (h.count _ _ (by decide)).event _ _
    · exact h.count _ _ (by decide)
  · exact h

/-- A write request changes what its effect changes, if performed, and beside that the journal and the answer alone. -/
theorem State.finishWrite_booked (s : State) (k : SessKey) (kport a : Nat) (words : List (BitVec 32)) (code : Nat) (effect : State → State) :
    Booked (if code = rcOk then effect s else s) (s.finishWrite k kport a words code effect) := by
  unfold State.finishWrite
  dsimp only
  apply Booked.respond
  apply Booked.noteRights
  generalize (if code = rcOk then effect s else s) = u
  split
  · exact (Booked.refl u).refuseStrict
  · exact (Booked.refl u).journal _

@[simp] theorem State.respond_resp (s : State) (k : SessKey) (a code : Nat) (words : List (BitVec 32)) :
    (s.respond k a code words).resp = some { key := k, code := code, words := if code = rcOk then words else [] } := rfl

@[simp] theorem State.finishWrite_resp (s : State) (k : SessKey) (kport a : Nat) (words : List (BitVec 32)) (code : Nat) (effect : State → State) :
    (s.finishWrite k kport a words code effect).resp = some { key := k, code := code, words := [] } := by
  simp [State.finishWrite]

/-- A write that passes every check is performed, journalled and answered. -/
theorem State.writeReq_accepted {s : State} {k : SessKey} {kport a : Nat} {words : List (BitVec 32)} {x : Extra} {effect : State → State}
    (hs : s.serving = true) (hf : firmwareServed a true = true → s.firmwareCan a true = true) (hc : s.checkWrite k a words x = rcOk) :
    s.writeReq k kport a words x effect = s.finishWrite k kport a words rcOk effect := by
  have hx : ({ x with res := x.res && (!firmwareServed a true || s.firmwareCan a true) } : Extra) = x := by
    have : (!firmwareServed a true || s.firmwareCan a true) = true := by
      cases h : firmwareServed a true
      · rfl
      · simp [hf h]
    rw [this, Bool.and_true]
  unfold State.writeReq
  dsimp only
  rw [hs, hx, hc]
  rfl

/-- A write whose checks fail is answered with the code, and its effect does not happen. -/
theorem State.writeReq_refused {s : State} {k : SessKey} {kport a : Nat} {words : List (BitVec 32)} {x : Extra} {effect : State → State}
    (hs : s.serving = true) (hc : s.checkWrite k a words { x with res := x.res && (!firmwareServed a true || s.firmwareCan a true) } ≠ rcOk) :
    Booked s (s.writeReq k kport a words x effect) := by
  unfold State.writeReq
  dsimp only
  rw [hs]
  simpa [hc] using s.finishWrite_booked k kport a words
    (s.checkWrite k a words { x with res := x.res && (!firmwareServed a true || s.firmwareCan a true) }) effect

/-! ### The fields a booked state shares -/

theorem Booked.pending {s t : State} (h : Booked s t) : t.pending = s.pending := congrArg (fun x => x.1) h.outside
theorem Booked.life {s t : State} (h : Booked s t) : t.life = s.life := congrArg (fun x => x.2.1) h.outside
theorem Booked.eng {s t : State} (h : Booked s t) : t.eng = s.eng := congrArg (fun x => x.2.2.1) h.outside
theorem Booked.io {s t : State} (h : Booked s t) : t.io = s.io := congrArg (fun x => x.2.2.2.1) h.outside
theorem Booked.groups {s t : State} (h : Booked s t) : t.groups = s.groups := congrArg (fun x => x.2.2.2.2.1) h.outside
theorem Booked.mutes {s t : State} (h : Booked s t) : t.mutes = s.mutes := congrArg (fun x => x.2.2.2.2.2.1) h.outside
theorem Booked.freeCtr {s t : State} (h : Booked s t) : t.freeCtr = s.freeCtr := congrArg (fun x => x.2.2.2.2.2.2.1) h.outside
theorem Booked.regErrors {s t : State} (h : Booked s t) : t.regErrors = s.regErrors := congrArg (fun x => x.2.2.2.2.2.2.2.1) h.outside
theorem Booked.winErrors {s t : State} (h : Booked s t) : t.winErrors = s.winErrors := congrArg (fun x => x.2.2.2.2.2.2.2.2.1) h.outside
theorem Booked.pendMode {s t : State} (h : Booked s t) : t.pendMode = s.pendMode := congrArg (fun x => x.2.2.2.2.2.2.2.2.2.1) h.outside
theorem Booked.otherCause {s t : State} (h : Booked s t) : t.otherCause = s.otherCause := congrArg (fun x => x.2.2.2.2.2.2.2.2.2.2.1) h.outside
theorem Booked.mediaTarget {s t : State} (h : Booked s t) : t.mediaTarget = s.mediaTarget := congrArg (fun x => x.2.2.2.2.2.2.2.2.2.2.2.1) h.outside
theorem Booked.rateSeq {s t : State} (h : Booked s t) : t.rateSeq = s.rateSeq := congrArg (fun x => x.2.2.2.2.2.2.2.2.2.2.2.2.1) h.outside
theorem Booked.sets {s t : State} (h : Booked s t) : t.sets = s.sets := congrArg (fun x => x.2.2.2.2.2.2.2.2.2.2.2.2.2.1) h.outside
theorem Booked.history {s t : State} (h : Booked s t) : t.history = s.history := congrArg (fun x => x.2.2.2.2.2.2.2.2.2.2.2.2.2.2.1) h.outside
theorem Booked.held {s t : State} (h : Booked s t) : t.held = s.held := congrArg (fun x => x.2.2.2.2.2.2.2.2.2.2.2.2.2.2.2.1) h.outside
theorem Booked.xyQueue {s t : State} (h : Booked s t) : t.xyQueue = s.xyQueue := congrArg (fun x => x.2.2.2.2.2.2.2.2.2.2.2.2.2.2.2.2.1) h.outside
theorem Booked.fwQueue {s t : State} (h : Booked s t) : t.fwQueue = s.fwQueue := congrArg (fun x => x.2.2.2.2.2.2.2.2.2.2.2.2.2.2.2.2.2.1) h.outside
theorem Booked.live {s t : State} (h : Booked s t) : t.live = s.live := congrArg (fun x => x.2.2.2.2.2.2.2.2.2.2.2.2.2.2.2.2.2.2.1) h.outside
theorem Booked.liveWas {s t : State} (h : Booked s t) : t.liveWas = s.liveWas := congrArg (fun x => x.2.2.2.2.2.2.2.2.2.2.2.2.2.2.2.2.2.2.2.1) h.outside
theorem Booked.applyTick {s t : State} (h : Booked s t) : t.applyTick = s.applyTick := congrArg (fun x => x.2.2.2.2.2.2.2.2.2.2.2.2.2.2.2.2.2.2.2.2.1) h.outside
theorem Booked.pendObjs {s t : State} (h : Booked s t) : t.pendObjs = s.pendObjs := congrArg (fun x => x.2.2.2.2.2.2.2.2.2.2.2.2.2.2.2.2.2.2.2.2.2.1) h.outside
theorem Booked.params {s t : State} (h : Booked s t) : t.params = s.params := congrArg (fun x => x.2.2.2.2.2.2.2.2.2.2.2.2.2.2.2.2.2.2.2.2.2.2.1) h.outside
theorem Booked.locusFreed {s t : State} (h : Booked s t) : t.locusFreed = s.locusFreed := congrArg (fun x => x.2.2.2.2.2.2.2.2.2.2.2.2.2.2.2.2.2.2.2.2.2.2.2.1) h.outside
theorem Booked.til {s t : State} (h : Booked s t) : t.til = s.til := congrArg (fun x => x.2.2.2.2.2.2.2.2.2.2.2.2.2.2.2.2.2.2.2.2.2.2.2.2.1) h.outside
theorem Booked.sap {s t : State} (h : Booked s t) : t.sap = s.sap := congrArg (fun x => x.2.2.2.2.2.2.2.2.2.2.2.2.2.2.2.2.2.2.2.2.2.2.2.2.2.1) h.outside
theorem Booked.link {s t : State} (h : Booked s t) : t.link = s.link := congrArg (fun x => x.2.2.2.2.2.2.2.2.2.2.2.2.2.2.2.2.2.2.2.2.2.2.2.2.2.2.1) h.outside
theorem Booked.net {s t : State} (h : Booked s t) : t.net = s.net := congrArg (fun x => x.2.2.2.2.2.2.2.2.2.2.2.2.2.2.2.2.2.2.2.2.2.2.2.2.2.2.2.1) h.outside
theorem Booked.dma {s t : State} (h : Booked s t) : t.dma = s.dma := congrArg (fun x => x.2.2.2.2.2.2.2.2.2.2.2.2.2.2.2.2.2.2.2.2.2.2.2.2.2.2.2.2.1) h.outside
theorem Booked.per {s t : State} (h : Booked s t) : t.per = s.per := congrArg (fun x => x.2.2.2.2.2.2.2.2.2.2.2.2.2.2.2.2.2.2.2.2.2.2.2.2.2.2.2.2.2.1) h.outside
theorem Booked.perResp {s t : State} (h : Booked s t) : t.perResp = s.perResp := congrArg (fun x => x.2.2.2.2.2.2.2.2.2.2.2.2.2.2.2.2.2.2.2.2.2.2.2.2.2.2.2.2.2.2.1) h.outside
theorem Booked.xip {s t : State} (h : Booked s t) : t.xip = s.xip := congrArg (fun x => x.2.2.2.2.2.2.2.2.2.2.2.2.2.2.2.2.2.2.2.2.2.2.2.2.2.2.2.2.2.2.2.1) h.outside
theorem Booked.clk {s t : State} (h : Booked s t) : t.clk = s.clk := congrArg (fun x => x.2.2.2.2.2.2.2.2.2.2.2.2.2.2.2.2.2.2.2.2.2.2.2.2.2.2.2.2.2.2.2.2.1) h.outside
theorem Booked.aon {s t : State} (h : Booked s t) : t.aon = s.aon := congrArg (fun x => x.2.2.2.2.2.2.2.2.2.2.2.2.2.2.2.2.2.2.2.2.2.2.2.2.2.2.2.2.2.2.2.2.2.1) h.outside
theorem Booked.board {s t : State} (h : Booked s t) : t.board = s.board := congrArg (fun x => x.2.2.2.2.2.2.2.2.2.2.2.2.2.2.2.2.2.2.2.2.2.2.2.2.2.2.2.2.2.2.2.2.2.2.1) h.outside
theorem Booked.test {s t : State} (h : Booked s t) : t.test = s.test := congrArg (fun x => x.2.2.2.2.2.2.2.2.2.2.2.2.2.2.2.2.2.2.2.2.2.2.2.2.2.2.2.2.2.2.2.2.2.2.2.1) h.outside
theorem Booked.pb {s t : State} (h : Booked s t) : t.pb = s.pb := congrArg (fun x => x.2.2.2.2.2.2.2.2.2.2.2.2.2.2.2.2.2.2.2.2.2.2.2.2.2.2.2.2.2.2.2.2.2.2.2.2.1) h.outside
theorem Booked.update {s t : State} (h : Booked s t) : t.update = s.update := congrArg (fun x => x.2.2.2.2.2.2.2.2.2.2.2.2.2.2.2.2.2.2.2.2.2.2.2.2.2.2.2.2.2.2.2.2.2.2.2.2.2.1) h.outside
theorem Booked.flash {s t : State} (h : Booked s t) : t.flash = s.flash := congrArg (fun x => x.2.2.2.2.2.2.2.2.2.2.2.2.2.2.2.2.2.2.2.2.2.2.2.2.2.2.2.2.2.2.2.2.2.2.2.2.2.2.1) h.outside
theorem Booked.fuses {s t : State} (h : Booked s t) : t.fuses = s.fuses := congrArg (fun x => x.2.2.2.2.2.2.2.2.2.2.2.2.2.2.2.2.2.2.2.2.2.2.2.2.2.2.2.2.2.2.2.2.2.2.2.2.2.2.2) h.outside

/-- A write that passes every common check is answered by the first of its own conditions that fails (R435 steps 4, 6, 7). -/
theorem State.checkWrite_extra {s : State} {k : SessKey} {a : Nat} {words : List (BitVec 32)} (h : s.checkWrite k a words {} = rcOk) (x : Extra) :
    s.checkWrite k a words x = if x.mode = false then rcMode else if x.range = false then rcRange else if x.res = false then rcBusy else rcOk := by
  obtain ⟨m, r, b⟩ := x
  unfold State.checkWrite at h ⊢
  split
  · next h' => rw [h'] at h; exact absurd (show rcNoObject = rcOk from h) (by decide)
  · next r h' =>
    rw [h'] at h
    dsimp only at h ⊢
    repeat' split at h
    all_goals (first | exact absurd h (by decide) | skip)
    all_goals simp_all
    all_goals (cases m <;> cases b <;> cases ‹Bool› <;> simp_all)

end Sys2Proof.Machine
end

