-- ==== Sys2Proof/Laws/Slots.lean ====
section
/-! SUPPORT. What opening and closing a bundle does to its engine, to memory and to the other engines. -/
set_option Elab.async false
namespace Sys2Proof.Machine
open Sys2Proof

/-- What the delay unit and the close of a bundle of engine `e` leave alone: every other engine, and the units outside the engines. -/
structure OnlyEngine (e : Fin 8) (s t : State) : Prop where
  engine : ∀ e', e' ≠ e → t.engine e' = s.engine e'
  sessions : t.sessions = s.sessions
  link : t.link = s.link
  sap : t.sap = s.sap
  net : t.net = s.net
  fuses : t.fuses = s.fuses
  flash : t.flash = s.flash

theorem OnlyEngine.refl (e : Fin 8) (s : State) : OnlyEngine e s s := ⟨fun _ _ => rfl, rfl, rfl, rfl, rfl, rfl, rfl⟩

theorem OnlyEngine.trans {e : Fin 8} {s t u : State} (a : OnlyEngine e s t) (b : OnlyEngine e t u) : OnlyEngine e s u :=
  ⟨fun x h => (b.engine x h).trans (a.engine x h), b.sessions.trans a.sessions, b.link.trans a.link, b.sap.trans a.sap, b.net.trans a.net,
    b.fuses.trans a.fuses, b.flash.trans a.flash⟩

/-- A change of parts of the state outside the engines and those units. -/
theorem OnlyEngine.same {e : Fin 8} {s t u : State} (a : OnlyEngine e s t) (he : u.eng = t.eng := by rfl) (h1 : u.sessions = t.sessions := by rfl)
    (h2 : u.link = t.link := by rfl) (h3 : u.sap = t.sap := by rfl) (h4 : u.net = t.net := by rfl) (h5 : u.fuses = t.fuses := by rfl)
    (h6 : u.flash = t.flash := by rfl) : OnlyEngine e s u :=
  a.trans ⟨fun _ _ => by simp only [State.engine, he], h1, h2, h3, h4, h5, h6⟩

theorem OnlyEngine.setEngine {e : Fin 8} {s t : State} (a : OnlyEngine e s t) (x : Engine) : OnlyEngine e s (t.setEngine e x) :=
  a.trans ⟨fun _ h => t.engine_setEngine_ne _ h, rfl, rfl, rfl, rfl, rfl, rfl⟩

theorem OnlyEngine.modEngine {e : Fin 8} {s t : State} (a : OnlyEngine e s t) (f : Engine → Engine) : OnlyEngine e s (t.modEngine e f) :=
  a.setEngine _

theorem OnlyEngine.setObj {e : Fin 8} {s t : State} (a : OnlyEngine e s t) (o v : Nat) : OnlyEngine e s (t.setObj o v) := a.same

theorem OnlyEngine.count {e : Fin 8} {s t : State} (a : OnlyEngine e s t) (o w n : Nat) : OnlyEngine e s (t.count o w n) := a.same

theorem OnlyEngine.ite {e : Fin 8} {s t u : State} {c : Prop} [Decidable c] (a : OnlyEngine e s t) (b : OnlyEngine e s u) :
    OnlyEngine e s (if c then t else u) := by
  split
  · exact a
  · exact b

theorem OnlyEngine.foldl {α : Type} {e : Fin 8} {s : State} (g : State → α → State) (hg : ∀ x a, OnlyEngine e s x → OnlyEngine e s (g x a)) (l : List α)
    {t : State} (h : OnlyEngine e s t) : OnlyEngine e s (l.foldl g t) := by
  induction l generalizing t with
  | nil => exact h
  | cons a u ih => exact ih (hg t a h)

theorem OnlyEngine.event {e : Fin 8} {s t : State} (a : OnlyEngine e s t) (c d : Nat) : OnlyEngine e s (t.event c d) := by
  unfold State.event State.eventAt; split <;> exact a.same

theorem OnlyEngine.store {e : Fin 8} {s t : State} (a : OnlyEngine e s t) (x n v : Nat) : OnlyEngine e s (t.store x n v) := by
  unfold State.store State.markStale; dsimp only; split <;> exact a.same

theorem OnlyEngine.mute {e : Fin 8} {s t : State} (a : OnlyEngine e s t) (r : MuteReason) : OnlyEngine e s (t.mute r) := by
  unfold State.mute; split
  · exact a
  · exact a.same

theorem OnlyEngine.raiseCause {e : Fin 8} {s t : State} (a : OnlyEngine e s t) (b : Nat) : OnlyEngine e s (t.raiseCause b) := by
  have h1 : OnlyEngine e s (if t.obj O.safeMuteCause ||| 2 ^ b = t.obj O.safeMuteCause then t.setObj O.safeMuteCause (t.obj O.safeMuteCause ||| 2 ^ b)
      else (t.setObj O.safeMuteCause (t.obj O.safeMuteCause ||| 2 ^ b)).event 0x0101 (t.obj O.safeMuteCause ||| 2 ^ b)) :=
    OnlyEngine.ite (a.setObj _ _) ((a.setObj _ _).event _ _)
  unfold State.raiseCause
  dsimp only
  generalize (if t.obj O.safeMuteCause ||| 2 ^ b = t.obj O.safeMuteCause then _ else _) = u at h1 ⊢
  have h2 : OnlyEngine e s (if b = 4 then u else { u with otherCause := true }) := by
    split
    · exact h1
    · exact h1.same
  generalize (if b = 4 then u else _) = w at h2 ⊢
  have h3 : OnlyEngine e s w.enterSafeMute := by
    unfold State.enterSafeMute State.enterMode
    dsimp only
    apply OnlyEngine.mute
    apply OnlyEngine.event
    exact h2.same
  have h4 : OnlyEngine e s w.holdRequest := by
    unfold State.holdRequest
    split
    · exact h2.same
    · exact h2
  exact OnlyEngine.ite h2 (OnlyEngine.ite (OnlyEngine.ite (h2.mute _) h2) (OnlyEngine.ite h4 h3))

theorem OnlyEngine.queuePage {e : Fin 8} {s t : State} (a : OnlyEngine e s t) (x : Nat) : OnlyEngine e s (t.queuePage x) := by
  unfold State.queuePage; dsimp only
  split
  · exact a
  · split
    · exact a.same
    · exact a.count _ _ _

theorem OnlyEngine.recordBad {e : Fin 8} {s t : State} (a : OnlyEngine e s t) (x : Nat) : OnlyEngine e s (t.recordBad x) := by
  unfold State.recordBad; split
  · exact a.same
  · exact a

theorem OnlyEngine.noteBad {e : Fin 8} {s t : State} (a : OnlyEngine e s t) (r x : Nat) : OnlyEngine e s (t.noteBad r x) := by
  unfold State.noteBad
  split
  · exact a.queuePage _
  · apply OnlyEngine.queuePage
    have h := (((a.count O.uncorrectableWords 32 1).setObj O.lastUncorrectable x).event 0x0500 (x + r * 2 ^ 40)).recordBad x
    generalize ((((t.count O.uncorrectableWords 32 1).setObj O.lastUncorrectable x).event 0x0500 (x + r * 2 ^ 40)).recordBad x) = u at h
    unfold State.stormCount
    dsimp only
    split
    · apply OnlyEngine.raiseCause
      apply OnlyEngine.event
      exact h.same
    · exact h.same

theorem OnlyEngine.noteSoft {e : Fin 8} {s t : State} (a : OnlyEngine e s t) (x : Nat) : OnlyEngine e s (t.noteSoft x) := by
  unfold State.noteSoft
  split
  · exact a
  · split
    · exact a.same
    · exact a.count _ _ _

theorem OnlyEngine.modFault {e : Fin 8} {s t : State} (a : OnlyEngine e s t) (f : BitVec 64 → BitVec 64) : OnlyEngine e s (t.modFault e f) :=
  a.modEngine _

theorem OnlyEngine.poisonRead {e : Fin 8} {s t : State} (a : OnlyEngine e s t) (r x : Nat) : OnlyEngine e s (t.poisonRead e r x) :=
  (a.modFault _).noteBad _ _

/-! ### The delay unit -/

theorem OnlyEngine.notePoint {e : Fin 8} {s t : State} (a : OnlyEngine e s t) (p : PointRes) : OnlyEngine e s (t.notePoint e p) := by
  unfold State.notePoint
  split
  · exact a.poisonRead _ _
  · have b : OnlyEngine e s (p.soft.foldl State.noteSoft t) := OnlyEngine.foldl _ (fun x y h => h.noteSoft y) _ a
    exact OnlyEngine.ite ((b.modFault _).count _ _ _) b

theorem OnlyEngine.noteClamp {e : Fin 8} {s t : State} (a : OnlyEngine e s t) (q : Nat) : OnlyEngine e s (t.noteClamp e q) :=
  ((a.modEngine _).count _ _ _).setObj _ _

theorem OnlyEngine.noteLane {e : Fin 8} {s t : State} (a : OnlyEngine e s t) (q : Nat) (r : LaneRes) : OnlyEngine e s (t.noteLane e q r) := by
  unfold State.noteLane
  exact OnlyEngine.foldl _ (fun x p h => h.notePoint p) _ (OnlyEngine.ite (a.noteClamp q) a)

theorem OnlyEngine.serveTap {e : Fin 8} {s t : State} (a : OnlyEngine e s t) (o : OrbitOp) : OnlyEngine e s (t.serveTap e o).1 := by
  unfold State.serveTap
  exact OnlyEngine.foldl _ (fun x k h => OnlyEngine.ite (h.noteLane _ _) h) _ a

theorem OnlyEngine.refusePartial {e : Fin 8} {s t : State} (a : OnlyEngine e s t) (c : Nat) : OnlyEngine e s (t.refusePartial e c) :=
  ((a.modFault _).noteBad _ _).count _ _ _

theorem OnlyEngine.correct {e : Fin 8} {s t : State} (a : OnlyEngine e s t) (x n : Nat) : OnlyEngine e s (t.correct x n) := by
  unfold State.correct
  exact OnlyEngine.foldl _ (fun x p h => OnlyEngine.ite (OnlyEngine.count (OnlyEngine.same h) _ _ _) h) _ a

theorem OnlyEngine.orbitWord {e : Fin 8} {s t : State} (a : OnlyEngine e s t) (x : Nat) (w : Word) : OnlyEngine e s (t.orbitWord e x w) := by
  unfold State.orbitWord
  split
  · exact a.refusePartial _
  · exact (a.correct _ _).store _ _ _

theorem OnlyEngine.closeGroup {e : Fin 8} {s t : State} (a : OnlyEngine e s t) (w : Desc) : OnlyEngine e s (t.closeGroup e w) := by
  unfold State.closeGroup
  dsimp only
  have h := ((OnlyEngine.foldl (fun s p => State.notePoint s e p) (fun x p h => h.notePoint p) (t.closeSamples w) a).count (O.facetGroupsClosed e) 64 1).count
    (O.facetSaturations e) 32 (groupSaturations w.fmt.toNat ((t.closeSamples w).map (·.val)))
  split
  · exact h.refusePartial _
  · exact (h.correct _ _).store _ _ _

theorem OnlyEngine.dwrLane {e : Fin 8} {s t : State} (a : OnlyEngine e s t) (q : Nat) (v : Word) : OnlyEngine e s (t.dwrLane e q v) := by
  unfold State.dwrLane
  dsimp only
  exact OnlyEngine.ite a (OnlyEngine.ite ((a.orbitWord _ _).modEngine _) (OnlyEngine.ite ((a.closeGroup _).modEngine _) (a.modEngine _)))

theorem OnlyEngine.outLane {e : Fin 8} {s t : State} (a : OnlyEngine e s t) (pos c : Nat) (v : Word) : OnlyEngine e s (t.outLane e pos c v) := by
  unfold State.outLane
  split
  · exact (a.orbitWord _ _).same
  · exact a

theorem OnlyEngine.exwLane {e : Fin 8} {s t : State} (a : OnlyEngine e s t) (pos off : Nat) (v : Word) : OnlyEngine e s (t.exwLane e pos off v) := by
  unfold State.exwLane
  split
  · exact a
  · split
    · exact (a.orbitWord _ _).same
    · exact a

theorem OnlyEngine.serveWrite {e : Fin 8} {s t : State} (a : OnlyEngine e s t) (o : OrbitOp) : OnlyEngine e s (t.serveWrite e o) := by
  unfold State.serveWrite
  refine OnlyEngine.foldl _ (fun x k h => ?_) _ a
  split
  · split
    · exact OnlyEngine.ite (h.dwrLane _ _) h
    · exact h.outLane _ _ _
    · exact h.exwLane _ _ _
    · exact OnlyEngine.ite h (h.orbitWord _ _)
    · exact h
  · exact h

theorem OnlyEngine.serveIo {e : Fin 8} {s t : State} (a : OnlyEngine e s t) (o : OrbitOp) : OnlyEngine e s (t.serveIo e o).1 := by
  unfold State.serveIo
  dsimp only
  have h := fun (f : Fin 64 → PointRes) => OnlyEngine.foldl (e := e) (s := s) (fun s k => State.notePoint s e (f k)) (fun x k h => h.notePoint _) (List.finRange 64) a
  refine OnlyEngine.same (OnlyEngine.ite ?_ ?_)
  · exact (h _).modFault _
  · exact h _

theorem OnlyEngine.serveOp {e : Fin 8} {s t : State} (a : OnlyEngine e s t) (o : OrbitOp) : OnlyEngine e s (t.serveOp e o).1 := by
  unfold State.serveOp
  split
  · exact a.serveWrite _
  · split
    · exact a.serveIo _
    · exact a.serveTap _

theorem OnlyEngine.serveAt {e : Fin 8} {s t : State} (a : OnlyEngine e s t) (i : Nat) : OnlyEngine e s (t.serveAt e i) := by
  unfold State.serveAt
  split
  · exact a
  · split
    · exact a
    · dsimp only
      have h := OnlyEngine.ite (c := OrbitOp.late ‹OrbitOp› = true) ((a.serveOp ‹OrbitOp›).count O.orbitLate 32 1) (a.serveOp ‹OrbitOp›)
      split
      · exact OnlyEngine.modEngine (OnlyEngine.modEngine h _) _
      · exact OnlyEngine.modEngine h _

theorem OnlyEngine.serveUpTo {e : Fin 8} {s t : State} (a : OnlyEngine e s t) (n : Nat) : OnlyEngine e s (t.serveUpTo e n) :=
  OnlyEngine.foldl _ (fun _ _ h => h.serveAt _) _ a

theorem OnlyEngine.serveNext {e : Fin 8} {s t : State} (a : OnlyEngine e s t) : OnlyEngine e s (t.serveNext e) := by
  unfold State.serveNext
  split
  · exact a.serveAt _
  · exact a

/-! ### Open and close -/

theorem OnlyEngine.doStores {e : Fin 8} {s t : State} (a : OnlyEngine e s t) : OnlyEngine e s (t.doStores e) := by
  unfold State.doStores
  dsimp only
  have h := OnlyEngine.foldl (e := e) (s := s) (fun s (r : StoreReq) => r.words.foldl State.storeWord s)
    (fun x r h => OnlyEngine.foldl _ (fun y p h => h.store _ _ _) _ h) (t.engine e).stores a
  exact OnlyEngine.modEngine (OnlyEngine.ite (h.modFault _) h) _

theorem OnlyEngine.closeBundle {e : Fin 8} {s t : State} (a : OnlyEngine e s t) : OnlyEngine e s (t.closeBundle e) := by
  unfold State.closeBundle
  dsimp only
  have h := (a.modEngine Engine.weighClaims).doStores
  exact OnlyEngine.modEngine (OnlyEngine.ite (OnlyEngine.serveUpTo (OnlyEngine.ite h (h.serveUpTo _)) _) (OnlyEngine.ite h (h.serveUpTo _))) _

theorem OnlyEngine.openSlot {e : Fin 8} {s t : State} (a : OnlyEngine e s t) (k : Nat) : OnlyEngine e s (t.openSlot e k) := by
  unfold State.openSlot
  exact OnlyEngine.modEngine (OnlyEngine.ite a.closeBundle a) _

theorem OnlyEngine.noteLoads {e : Fin 8} {s t : State} (a : OnlyEngine e s t) (l : List Nat) : OnlyEngine e s (t.noteLoads e l) := by
  unfold State.noteLoads
  exact OnlyEngine.foldl _ (fun x p h => OnlyEngine.ite (h.poisonRead _ _) (OnlyEngine.ite (h.noteSoft _) h)) _ a

theorem OnlyEngine.noteCoefs {e : Fin 8} {s t : State} (a : OnlyEngine e s t) (l : List Nat) : OnlyEngine e s (t.noteCoefs e l) := by
  unfold State.noteCoefs
  exact OnlyEngine.ite ((a.noteLoads _).modEngine _) (a.noteLoads _)

/-! ### The close of a bundle with nothing in the delay unit -/

theorem storeWord_keeps (l : List (Nat × Word)) (s : State) :
    (l.foldl State.storeWord s).eng = s.eng ∧ (l.foldl State.storeWord s).mem = l.foldl (fun m p => memPutWord m p.1 p.2) s.mem := by
  induction l generalizing s with
  | nil => exact ⟨rfl, rfl⟩
  | cons p t ih =>
    obtain ⟨h1, h2⟩ := ih (s.storeWord p)
    obtain ⟨g1, g2, -⟩ := s.store_leaves p.1 4 p.2.toNat
    exact ⟨h1.trans (congrArg (fun x => x.2.2.1) g1), h2.trans (congrArg (fun m => t.foldl (fun m p => memPutWord m p.1 p.2) m) g2)⟩

theorem doStores_keeps (s : State) (e : Fin 8) :
    (∃ f, (s.doStores e).engine e = { s.engine e with stores := [], fault := f }) ∧
    (s.doStores e).mem = ((s.engine e).stores.flatMap (·.words)).foldl (fun m p => memPutWord m p.1 p.2) s.mem := by
  have key : ∀ (l : List StoreReq) (s : State), (l.foldl (fun s r => r.words.foldl State.storeWord s) s).eng = s.eng ∧
      (l.foldl (fun s r => r.words.foldl State.storeWord s) s).mem = (l.flatMap (·.words)).foldl (fun m p => memPutWord m p.1 p.2) s.mem := by
    intro l
    induction l with
    | nil => exact fun s => ⟨rfl, rfl⟩
    | cons r t ih =>
      intro s
      obtain ⟨h1, h2⟩ := ih (r.words.foldl State.storeWord s)
      obtain ⟨g1, g2⟩ := storeWord_keeps r.words s
      exact ⟨h1.trans g1, by rw [List.flatMap_cons, List.foldl_append, ← g2]; exact h2⟩
  obtain ⟨h1, h2⟩ := key (s.engine e).stores s
  unfold State.doStores
  dsimp only
  generalize (s.engine e).stores.foldl (fun s r => r.words.foldl State.storeWord s) s = u at h1 h2
  have hu : u.engine e = s.engine e := by simp only [State.engine, h1]
  split
  · refine ⟨⟨fwSet (s.engine e).fault fwStoreSame, ?_⟩, h2⟩
    simp [State.modFault, hu]
  · refine ⟨⟨(s.engine e).fault, ?_⟩, h2⟩
    simp [hu]

/-- With no delay-unit operation in the queue, a close writes the stores and closes the registers. -/
theorem closeBundle_noOps (s : State) (e : Fin 8) (h : (s.engine e).ops = []) : s.closeBundle e = (s.doStores e).modEngine e (fun x => x.closeRegs.closeHalt) := by
  have h1 : s.modEngine e Engine.weighClaims = s := by
    rw [State.modEngine_setEngine, Engine.weighClaims, h]
    exact s.setEngine_engine e
  obtain ⟨⟨f, hf⟩, -⟩ := doStores_keeps s e
  have h2 : ((s.doStores e).engine e).ops = [] := by rw [hf]; exact h
  have h3 : ∀ n, n ≤ 0 → (s.doStores e).serveUpTo e n = s.doStores e := by
    intro n hn; rw [Nat.le_zero.1 hn]; rfl
  unfold State.closeBundle
  dsimp only
  rw [h1, h3 _ (by unfold Engine.dueCount; rw [h2]; exact Nat.le_refl _), ite_self, h3 _ (by unfold Engine.beforeHalt; rw [h2]; split <;> exact Nat.le_refl _), ite_self]

/-- An operation whose slot has passed opens the next bundle: the open one closes first. -/
theorem openSlot_closes (s : State) (e : Fin 8) (k : Nat) (h : k < (s.engine e).nextSlot) :
    s.openSlot e k = (s.closeBundle e).modEngine e (fun x => { x with nextSlot := k + 1 }) := by
  unfold State.openSlot
  rw [if_pos h]

/-- An operation whose slot is still to come enters the open bundle. -/
theorem openSlot_same (s : State) (e : Fin 8) (k : Nat) (h : (s.engine e).nextSlot ≤ k) :
    s.openSlot e k = s.modEngine e (fun x => { x with nextSlot := k + 1 }) := by
  unfold State.openSlot
  rw [if_neg (by omega)]

/-! ### Loads -/

theorem noteBad_engine (s : State) (r x : Nat) (e : Fin 8) : (s.noteBad r x).engine e = s.engine e ∧ (s.noteBad r x).mem = s.mem ∧ (s.noteBad r x).bad = s.bad := by
  have hq : ∀ (s : State) x, (s.queuePage x).engine e = s.engine e ∧ (s.queuePage x).mem = s.mem ∧ (s.queuePage x).bad = s.bad := by
    intro s x; unfold State.queuePage; dsimp only; split
    · exact ⟨rfl, rfl, rfl⟩
    · split <;> exact ⟨rfl, rfl, rfl⟩
  have he : ∀ (s : State) c d, (s.event c d).engine e = s.engine e ∧ (s.event c d).mem = s.mem ∧ (s.event c d).bad = s.bad := by
    intro s c d; unfold State.event State.eventAt; split <;> exact ⟨rfl, rfl, rfl⟩
  have hm : ∀ (s : State) r, (s.mute r).engine e = s.engine e ∧ (s.mute r).mem = s.mem ∧ (s.mute r).bad = s.bad := by
    intro s r; unfold State.mute; split <;> exact ⟨rfl, rfl, rfl⟩
  have hsm : ∀ s : State, s.enterSafeMute.engine e = s.engine e ∧ s.enterSafeMute.mem = s.mem ∧ s.enterSafeMute.bad = s.bad := by
    intro s
    unfold State.enterSafeMute State.enterMode
    dsimp only
    rw [(hm _ _).1, (hm _ _).2.1, (hm _ _).2.2, (he _ _ _).1, (he _ _ _).2.1, (he _ _ _).2.2]
    exact ⟨rfl, rfl, rfl⟩
  have hr : ∀ (s : State) b, (s.raiseCause b).engine e = s.engine e ∧ (s.raiseCause b).mem = s.mem ∧ (s.raiseCause b).bad = s.bad := by
    intro s b
    unfold State.raiseCause
    dsimp only
    have h1 : ∀ n, (if n = s.obj O.safeMuteCause then s.setObj O.safeMuteCause n else (s.setObj O.safeMuteCause n).event 0x0101 n).engine e = s.engine e ∧
        (if n = s.obj O.safeMuteCause then s.setObj O.safeMuteCause n else (s.setObj O.safeMuteCause n).event 0x0101 n).mem = s.mem ∧
        (if n = s.obj O.safeMuteCause then s.setObj O.safeMuteCause n else (s.setObj O.safeMuteCause n).event 0x0101 n).bad = s.bad := by
      intro n; split
      · exact ⟨rfl, rfl, rfl⟩
      · exact he _ _ _
    have h1 := h1 (s.obj O.safeMuteCause ||| 2 ^ b)
    generalize (if _ = s.obj O.safeMuteCause then s.setObj O.safeMuteCause _ else _) = u at h1 ⊢
    have h2 : (if b = 4 then u else { u with otherCause := true }).engine e = s.engine e ∧ (if b = 4 then u else { u with otherCause := true }).mem = s.mem ∧
        (if b = 4 then u else { u with otherCause := true }).bad = s.bad := by
      split <;> exact h1
    generalize (if b = 4 then u else _) = w at h2 ⊢
    split
    · exact h2
    · split
      · split
        · rw [(hm _ _).1, (hm _ _).2.1, (hm _ _).2.2]; exact h2
        · exact h2
      · split
        · unfold State.holdRequest
          split <;> exact h2
        · rw [(hsm _).1, (hsm _).2.1, (hsm _).2.2]; exact h2
  unfold State.noteBad
  split
  · exact hq _ _
  · rw [(hq _ _).1, (hq _ _).2.1, (hq _ _).2.2]
    have hb : ∀ (s : State), (s.recordBad x).engine e = s.engine e ∧ (s.recordBad x).mem = s.mem ∧ (s.recordBad x).bad = s.bad := by
      intro s; unfold State.recordBad; split <;> exact ⟨rfl, rfl, rfl⟩
    have hs : ∀ (s : State), s.stormCount.engine e = s.engine e ∧ s.stormCount.mem = s.mem ∧ s.stormCount.bad = s.bad := by
      intro s; unfold State.stormCount; dsimp only; split
      · rw [(hr _ _).1, (hr _ _).2.1, (hr _ _).2.2, (he _ _ _).1, (he _ _ _).2.1, (he _ _ _).2.2]; exact ⟨rfl, rfl, rfl⟩
      · exact ⟨rfl, rfl, rfl⟩
    rw [(hs _).1, (hs _).2.1, (hs _).2.2, (hb _).1, (hb _).2.1, (hb _).2.2, (he _ _ _).1, (he _ _ _).2.1, (he _ _ _).2.2]
    exact ⟨rfl, rfl, rfl⟩

/-- What the reads of an engine report changes no register but its fault word, and no memory. -/
theorem noteLoads_keeps (s : State) (e : Fin 8) (l : List Nat) :
    (∃ f, (s.noteLoads e l).engine e = { s.engine e with fault := f }) ∧ (s.noteLoads e l).mem = s.mem ∧ (s.noteLoads e l).bad = s.bad := by
  unfold State.noteLoads
  induction l generalizing s with
  | nil => exact ⟨⟨_, rfl⟩, rfl, rfl⟩
  | cons a t ih =>
    rw [List.foldl_cons]
    obtain ⟨⟨f, h1⟩, h2, h3⟩ := ih (if s.bad.contains a then s.poisonRead e 0 a else if s.soft.contains a then s.noteSoft a else s)
    rw [h1, h2, h3]
    split
    · obtain ⟨g1, g2, g3⟩ := noteBad_engine (s.modFault e (fun w => fwPoison w 1)) 0 a e
      rw [State.poisonRead, g1, g2, g3]
      exact ⟨⟨f, by simp [State.modFault]⟩, rfl, rfl⟩
    · split
      · unfold State.noteSoft
        split
        · exact ⟨⟨f, rfl⟩, rfl, rfl⟩
        · split <;> exact ⟨⟨f, rfl⟩, rfl, rfl⟩
      · exact ⟨⟨f, rfl⟩, rfl, rfl⟩

end Sys2Proof.Machine
end

