-- ==== Sys2Proof/Tests/Slice0.lean ====
section
/-! SUPPORT. Tests: ill-formed commands are refused, words of the specification decode, and every statement's hypotheses are met. -/
set_option Elab.async false
namespace Sys2Proof.Tests
open Sys2Proof Sys2Proof.Machine Sys2Proof.Claims

/-! ### Small states -/

/-- A device that serves requests, with these objects set. -/
def dev (l : List (Nat × Nat)) : State := ({ State.reset with life := .up } : State).setObjs ((O.hullReady, 1) :: l)

/-- The host's session. -/
def host : Src := { key := .host, link := 0 }

/-- The common checks of a write pass, as a Boolean. -/
def passes (s : State) (a : Nat) (words : List (BitVec 32)) : Bool :=
  s.serving && (!firmwareServed a true || s.firmwareCan a true) && decide (s.checkWrite host.key a words {} = rcOk)

theorem passes_meets {s : State} {a : Nat} {words : List (BitVec 32)} (h : passes s a words = true) : Passes s host a words true true true := by
  simp only [passes, Bool.and_eq_true, Bool.or_eq_true, Bool.not_eq_true', decide_eq_true_eq] at h
  exact ⟨h.1.1, fun x => h.1.2.resolve_left (by simp [x]), h.2⟩

/-- Engine 0 of the reset state changed. -/
def engine0 (f : Engine → Engine) : State := State.reset.setEngine 0 (f (State.reset.engine 0))

/-- An answer is a next state with a property. -/
def answers (o : Out) (p : State → Bool) : Bool :=
  match o with
  | .next t => p t
  | .fault _ => false
  | .refused _ => false

/-! ### Well-formed commands -/

theorem test_illFormed_source : Instr.wf (.updateSetAbort { key := .fabric 4096 0, link := 0 } []) = false := by decide
theorem test_illFormed_session : Instr.wf (.updateSetAbort { key := .fabric 0 256, link := 0 } []) = false := by decide
theorem test_illFormed_words : Instr.wf (.modeRequest host (List.replicate 512 0)) = false := by decide +kernel
theorem test_illFormed_answer : Instr.wf (.dictRsp 0 0 0 (List.replicate 511 0)) = false := by decide +kernel
theorem test_illFormed_audio : Instr.wf (.tickFrameReceived 0 true 0 0 0 0 0 [(3, ⟨1, 0, 0⟩), (3, ⟨1, 0, 0⟩)] [] [] 0) = false := by decide
theorem test_illFormed_shortCell : Instr.wf (.cellReceived 0 false [0]) = false := by decide
theorem test_illFormed_longCell : Instr.wf (.cellReceived 0 false (List.replicate 11 0)) = false := by decide
theorem test_illFormed_routes : Instr.wf (.routes 0 (List.replicate 2041 0)) = false := by decide +kernel
theorem test_illFormed_run : RunWrite.wf { port := 0, transmit := true, index := 0, word := 0x8000C00000000000 } = false := by decide
theorem test_illFormed_reserve : Instr.wf (.reserve 0 [{ port := 0, transmit := true, index := 0, word := 0x8000C00000000000 }] []) = false := by decide
theorem test_wellFormed : Instr.wf (.modeRequest host [2]) = true ∧ Instr.wf (.cellReceived 0 false [0, 0]) = true := by decide

/-! ### Words of the specification -/

/-- The table gives no row bits. -/
theorem test_decodeTableWord : decodeTableWord 16 0x4343 = none := by decide
/-- The bundle of the worked example that follows R161. -/
theorem test_decodeBundle : decodeBundle 0 0x1A810006312824023160800000000000 =
    [.mac 0 2 16 4 0 false, .add 0 17 17 5 0, .ldv 0 false 4 0 1 0, .ldc 0 5 8 1 0, .onop 0, .cnop 0] := by decide

/-! ### Hypotheses of the statements that are met: steps, slots, bundles -/

theorem witness_StepRunsTheFrontCommand : ({ State.reset with pending := [.mnop 0, .anop 1] } : State).pending = .mnop 0 :: [.anop 1] := rfl

theorem reset_inv : State.reset.Inv :=
  ⟨by decide, by decide, by decide, by decide, by decide, by decide, by decide, by decide, by decide, by decide⟩

theorem witness_EveryStepKeepsTheInvariant : State.reset.Inv ∧ ∃ t, step State.reset = .next t := ⟨reset_inv, _, rfl⟩

theorem witness_FuseBitsAreNeverCleared : 1649 ∈ State.reset.fuses ∧ ∃ t, step State.reset = .next t := ⟨by decide, _, rfl⟩

theorem witness_NopSlotsChangeNothing : (State.reset.engine 0).nextSlot ≤ 0 ∧ ((engine0 (fun x => { x with nextSlot := 5 })).engine 0).nextSlot ≤ 5 := by decide

theorem witness_AddressesAndPointerUpdates : 0 < (State.reset.engine 0).dataSize := by decide

/-- Two stores of one word each wait for the end of the bundle. -/
def storing : State := engine0 (fun x => { x with nextSlot := 6, stores := [{ y := false, words := [(0x200000000, 5), (0x200000004, 6)] }] })

theorem witness_StoresAreWrittenWhenTheBundleCloses : Memory.wf storing.mem ∧ (storing.engine 0).ops = [] ∧ 0 < (storing.engine 0).nextSlot ∧
    (storing.engine 0).stores.flatMap (fun r => r.words) = [] ++ (0x200000000, 5) :: [(0x200000004, 6)] ∧
    ∀ q ∈ [((0x200000004 : Nat), (6 : Word))], q.1 + 4 ≤ 0x200000000 ∨ 0x200000000 + 4 ≤ q.1 := by decide

theorem witness_ResultsLandAfterTheirLatency : let x := (engine0 (fun x => { x with nextSlot := 1, flights := [{ wait := 1, young := false, wr := .scl 0 7 }] })).engine 0
    x.ops = [] ∧ x.entryNow = false ∧ x.haltNow = false ∧ 0 < x.nextSlot := by decide

/-- An access of the delay unit. -/
def access (form : OForm) (mask : BitVec 64) : OrbitOp :=
  { form := form, age := 0, pos := 0, mask := mask, name := allLanes 0, arg := allLanes 9, served := false, points := [], frac := allLanes 0 }

/-- Descriptor 0 of engine 0 is a near line of 64 samples. -/
def lineDesc : Desc := { Desc.zero with valid := true, base := 0x100000000, maxLen := 64, len := 64 }

/-- The same as a far line, with its staging at Orbit line 100. -/
def farDesc : Desc := { lineDesc with loc := 1, base := 0x1000000000, stageLine := 100, spanGroups := 2 }

theorem witness_DelayUnitServesItsOldestAccess :
    (∀ o ∈ (State.reset.engine 0).ops, o.served = true) ∧
    (let s := engine0 (fun x => { x with ops := [access (.chanIn 3) 1] })
     (s.engine 0).ops[0]? = some (access (.chanIn 3) 1) ∧ (access (.chanIn 3) 1).age < 12) ∧
    (let s := engine0 (fun x => { x with ops := [access .dwr (BitVec.ofNat 64 (2 ^ 0))], desc := [(0, lineDesc)] })
     (s.engine 0).ops[0]? = some (access .dwr (BitVec.ofNat 64 (2 ^ 0))) ∧ aGet Desc.zero (s.engine 0).desc 0 = lineDesc ∧ lineDesc.valid = true ∧ lineDesc.aliased = false ∧
       lineDesc.fmt = 0 ∧ s.bad = [] ∧ aWf Desc.zero (s.engine 0).desc = true) ∧
    (let s := engine0 (fun x => { x with ops := [access .dwr (BitVec.ofNat 64 (2 ^ 0))], desc := [(0, farDesc)] })
     aGet Desc.zero (s.engine 0).desc 0 = farDesc ∧ farDesc.valid = true ∧ farDesc.aliased = false ∧ farDesc.fmt = 0 ∧ farDesc.loc = 1 ∧
       aWf Desc.zero (s.engine 0).desc = true) := by decide

theorem witness_ScaleRotationAndRepeat :
    (let x : Engine := { Engine.reset with reps := [{ first := 0, last := 0, left := 2, rot := true }] }
     x.pushRep = none ∧ x.rangeMode x.pc ≠ 2 ∧ x.reps = [{ first := 0, last := 0, left := 2, rot := true }]) ∧
    (let x : Engine := { Engine.reset with reps := [{ first := 0, last := 0, left := 1, rot := true }, { first := 0, last := 1, left := 2, rot := false }] }
     x.pushRep = none ∧ x.rangeMode x.pc ≠ 2 ∧ ∀ q ∈ [({ first := 0, last := 1, left := 2, rot := false } : Rep)], q.last ≠ x.pc) := by decide

theorem witness_BlockEntryResetsRegisters : let x := (engine0 (fun x => { x with nextSlot := 6, entryNow := true })).engine 0
    x.entryNow = true ∧ x.haltNow = false ∧ x.ops = [] ∧ x.flights = [] ∧ x.pushRep = none ∧ 0 < x.nextSlot := by decide

theorem witness_BreakpointHaltsInServiceMode : let x := (engine0 (fun x => { x with nextSlot := 6, haltNow := true })).engine 0
    x.haltNow = true ∧ x.ops = [] ∧ 0 < x.nextSlot := by decide

theorem witness_SlotEncodingsAreReadBack : slotCode (.add 0 17 17 5 0) = some (1, 0, aWord 0x01 17 17 5 0) := by decide

theorem witness_EnginesDoNotReachEachOther : slotCode (.mnop 0) = some (0, 0, 0) ∧ ∃ t, exec (.mnop 0) State.reset = .next t := ⟨by decide, _, rfl⟩


/-! ### Hypotheses of the statements that are met: parameters, sets, pages -/

theorem witness_OrbitSharesAndDescriptors :
    (0x0000000000004000 : BitVec 64).toNat / 256 % 256 = 64 ∧
    (let w : BitVec 64 := 0x8400000000000000
     w.getLsbD 58 = true ∧ w.getLsbD 57 = false ∧ w.getLsbD 63 = true) ∧
    (let w : BitVec 64 := 0x2C00000000000000
     w.getLsbD 58 = true ∧ w.getLsbD 57 = false ∧ 5 ≤ w.toNat / 2 ^ 59 % 8) ∧
    ((State.reset.desc 7 4095).valid = false ∧ State.reset.descOk 7 4095 (descWords 0x0400000100000000 0x0000002000000040 0 0) = true) ∧
    (let d := { farDesc with fetching := [(1, 5)], behind := [(2, 103, 1)] }
     (State.reset.setDesc 0 4095 d).desc 0 4095 = d ∧ (∃ p ∈ d.fetching, p.1 = 1) ∧ (∀ p ∈ d.behind, p.1 ≠ 1) ∧ d.freeLine = some 104 ∧
       d.behind.find? (fun p => p.1 = 2) = some (2, 103, 1) ∧ (dev [(O.pllState 2, 2)]).obj (O.pllState 2) = 2) ∧
    (let d := { farDesc with pendSpan := some (1, 2) }
     d.awaited ≠ [] ∧ 1 ∈ d.awaited ∧ d.freeLine = some 104) ∧
    (let d := { farDesc with pendSpan := some (1, 2), stage := [(1, 100), (2, 101), (3, 102)] }
     d.pendSpan = some (1, 2) ∧ d.awaited = []) := by decide +kernel

/-- A parameter of one word in the last word of the bank of engine 7, in an X word, or the length of a line. -/
def par (bind engine base words : Nat) : Param :=
  { addr := 0x800001, ty := 8, bind := bind, glide := false, strict := false, replicate := false, rights := 15, engine := engine, base := base, words := words
    lo := 0, hi := 0xFFFFFFFF, dflt := 0, block := 1, lenVal := 64, mirror := none }

/-- A device with one parameter, and these update sets. -/
def parDev (p : Param) (sets : List UpSet) : State := { dev [] with params := [p], sets := sets }

/-- An update set of a session, in a phase, that claims these engines. -/
def aSet (key : SessKey) (phase : SetPhase) (engines : List Nat) : UpSet :=
  { key := key, phase := phase, engines := engines, words := [], gen := 0, glide := 0, writes := 0, arrived := false, deferred := false, inSeq := false }

theorem witness_GraphParameterWrites_bank :
    let p := par 0 7 131071 1
    (parDev p []).param 0x800001 = some p ∧ (parDev p []).paramBusy p = false ∧ Memory.wf (parDev p []).mem ∧
    ((parDev p []).claims .host [7] = .lands ∧ passes (parDev p []) 0x800001 [5] = true ∧
      (parDev p []).bankedFree .host [{ engine := 7, word := 131071, value := 5, glide := false }] = true) ∧
    (let s := parDev p [aSet .firm .sealed [7]]
     s.claims .host [7] = .held ∧ passes s 0x800001 [5] = true ∧ s.bankedFree .host [{ engine := 7, word := 131071, value := 5, glide := false }] = true) ∧
    (let s := parDev p [aSet .firm .opened [7]]
     (∃ u ∈ s.sets, u.phase = .opened ∧ u.key ≠ .host ∧ 7 ∈ u.engines) ∧ passes s 0x800001 [5] = true) := by decide +kernel

theorem witness_GraphParameterWrites_words :
    (let p := par 1 0 0x200000000 1
     (parDev p []).param 0x800001 = some p ∧ passes (parDev p []) 0x800001 [5] = true) ∧
    (let p := par 2 0 0 1
     let s := (parDev p []).setDesc 0 0 lineDesc
     s.param 0x800001 = some p ∧ passes s 0x800001 [65] = true ∧ s.lenOk 0 0 64 = true ∧ lineDesc.maxLen < (65 : BitVec 32).toNat ∧
       ((parDev p []).desc 0 0).valid = false) := by decide +kernel

theorem witness_CommitsAndAborts :
    ((dev []).serving = true ∧ (dev []).commitCode .host [1] = rcOk) ∧
    (let s := parDev (par 0 7 0 1) [aSet .host .opened [7]]
     s.commitCode .host [1] = rcOk ∧ passes s O.updateSetAbort [1] = true ∧ s.openSet .host = some (aSet .host .opened [7])) ∧
    (passes (dev []) O.updateSetAbort [1] = true ∧ (dev []).openSet .host = none) ∧
    ∃ z ∈ [aSet .host .sealed [7]], z.phase = .sealed ∧ z.gen = (0 : BitVec 32).toNat ∧ z.arrived = false := by decide +kernel

theorem witness_LevellingAndPageCoding :
    (let s := engine0 (fun x => { x with levelling := true, dirty := [0, 2047] })
     (s.engine 0).levelling = true ∧ s.bad = [] ∧ s.soft = [] ∧ s.held = [] ∧ Memory.wf s.mem ∧ (∀ r ∈ (s.engine 0).dirty, r < 2048)) ∧
    (let s := engine0 (fun x => { x with stale := [127, 3] })
     (s.engine 0).stale = [127, 3] ∧ aWf (List.replicate 64 0) s.integ.parity = true ∧ s.badIn (s.bankAddr 0 false (1024 * 127)) 4096 = none) := by decide +kernel

/-- A page in the recovery queue; its codes count as stale or current. -/
def queued (page : Nat) (pages stale : List Nat) : State :=
  { State.reset with integ := { State.reset.integ with queue := [page], staticPages := pages, stalePages := stale } }

theorem witness_QueuedPagesAreHandledInOrder :
    (let s := queued (bankBase 0 false) [] []
     s.integ.queue = [bankBase 0 false] ∧ s.isActiveBank (bankBase 0 false) = some 0) ∧
    (let s := queued 0x100000000 [0x100000000] []
     s.isActiveBank 0x100000000 = none ∧ s.isStatic 0x100000000 = true ∧ s.isStale 0x100000000 = false) ∧
    (let s := queued 0x100000000 [0x100000000] [0x100000000]
     s.isStatic 0x100000000 = true ∧ s.isStale 0x100000000 = true ∧ bankOf 0x100000000 = none ∧ isDictStore 0x100000000 = false) ∧
    (let s := queued 0x100000000 [] []
     s.isActiveBank 0x100000000 = none ∧ s.isStatic 0x100000000 = false) ∧
    (let s := queued headerPage [headerPage] [headerPage]
     s.hullImagePage headerPage = true ∧ s.isActiveBank headerPage = none ∧ s.isStatic headerPage = true ∧ s.isStale headerPage = true ∧ bankOf headerPage = none ∧
       isDictStore headerPage = false ∧ ({ s with clk := { s.clk with monitor := true } } : State).hullImagePage headerPage = false) := by decide +kernel

theorem witness_ScrubbingTrapsAndTests :
    ((0 : Nat) = 0 ∧ State.reset.isActiveBank ((0x100000000 : BitVec 40).toNat / 64 * 64 / 4096 * 4096) = none) ∧
    (State.reset.isActiveBank (bankBase 0 false / 4096 * 4096) = some 0 ∧ State.reset.integ.rangePass = none ∧
      (let s : State := { State.reset with integ := { State.reset.integ with rangePass := some (bankBase 0 false, bankBase 0 false + 128) } }
       s.isActiveBank (bankBase 0 false / 4096 * 4096) = some 0 ∧ s.integ.rangePass = some (bankBase 0 false, bankBase 0 false + 128))) ∧
    ((State.reset.engine 0).active = false) ∧
    (let s := engine0 (fun x => { x with active := true })
     (s.engine 0).active = true ∧ (s.engine 0).rangeMode (s.engine 0).pc ≠ 2) ∧
    (({ State.reset with rateSeq := some (5, true) } : State).rateSeq = some (5, true) ∧ State.reset.rateSeq = none) ∧
    (let s : State := { State.reset with integ := { State.reset.integ with rangePass := some (64, 64) } }
     s.integ.rangePass = some (64, 64)) ∧
    ((dev [(O.testEnable, 1)]).obj O.testEnable ≠ 0 ∧ (dev []).obj O.testEnable = 0 ∧
      ((dev []).isActiveBank (0x100000 * 4096)).isSome || (dev []).isStale (0x100000 * 4096) = false) := by decide +kernel

theorem witness_IntegrityRequests :
    (let s := dev [(O.rangeBase, 0x100000000), (O.rangeLength, 64)]
     passes s O.rangeStart [1] = true ∧ 64 ≤ s.mapRoom 0x100000000 ∧ s.meetsActive 0x100000000 64 = false ∧ s.integ.rangePass = none) ∧
    (let s := dev [(O.rangeBase, 0x100000000), (O.rangeLength, 0x6000040)]
     passes s O.rangeStart [1] = true ∧ s.obj O.rangeLength ≠ 0 ∧ s.mapRoom 0x100000000 < 0x6000040) ∧
    (let s := dev [(O.operatingMode, 7)]
     passes s O.fullTest [1] = true ∧ s.mode = 7 ∧ (dev []).mode ≠ 7 ∧ passes (dev []) O.fullTest [1] = true) ∧
    (passes (dev []) (powerObj (.hull 2)) [0] = true ∧ (dev []).powerHeld (.hull 2) = true ∧ (dev []).powerHeld (.engine 7) = false ∧
      passes (dev []) (powerObj (.engine 7)) [0] = true) := by decide +kernel

/-! ### Hypotheses of the statements that are met: serial audio ports -/

theorem witness_SerialPortRequests :
    (passes (dev []) (mclkSetting 3 2) [1] = true ∧ passes (dev []) (sapSetting 3 0) [0x7882000] = true ∧ (0x7882001 : BitVec 32).toNat % 2 ^ 12 ≠ 0 ∧ (0x8000000 : BitVec 32).toNat / 2 ^ 27 ≠ 0 ∧ (dev []).portState 3 = 0) ∧
    ((dev [(O.portState 3, 1)]).portState 3 ≠ 0) ∧
    (passes (dev []) (O.portEnable 3) [1] = true ∧ (dev []).bypass 3 = false) ∧
    ((dev [(O.converterMode 3, 1)]).bypass 3 = true) := by decide +kernel

theorem witness_SerialPortRequests_start :
    ((dev [(O.sapFormat 3, 0x02)]).portState 3 = 0 ∧ (dev []).sapStartRange 3 = true) ∧
    (let s := dev [(O.converterMode 3, 1), (O.partnerRate 3, 1)]
     s.bypass 3 = true ∧ s.bypassOk 3 = false) ∧
    (let s := dev [(O.portState 3, 3), (O.converterMode 3, 1), (O.partnerRate 3, 1)]
     s.portState 3 = 3 ∧ s.bypass 3 = true ∧ s.bypassOk 3 = false) ∧
    (let s := dev [(O.portState 3, 3)]
     s.portState 3 = 3 ∧ s.bypass 3 = false ∧ s.sapStartRange 3 = true) ∧
    (∃ n ∈ [3, 4], passes (dev [(O.portState 3, n)]) (O.portEnable 3) [1] = true ∧ passes (dev [(O.portState 3, n)]) (O.portEnable 3) [0] = true) := by decide +kernel

theorem witness_QueuedPages_recovered : recoverPage (fun i => memByte State.reset.mem (0x100000000 + i)) (List.replicate 64 0) [] = some ([], 0) := by
  have hz : ∀ i, (List.replicate 64 (0 : Byte)).getD i 0 = 0 := by
    intro i
    by_cases g : i < 64
    · have : ∀ i < 64, (List.replicate 64 (0 : Byte)).getD i 0 = 0 := by decide
      exact this i g
    · rw [List.getD_eq_getElem?_getD, List.getElem?_eq_none (by simp only [List.length_replicate]; omega)]; rfl
  have h : ∀ j b, recoverLane (fun i => memByte State.reset.mem (0x100000000 + i)) (List.replicate 64 0) [] j b = some ([], 0) := by
    intro j b
    have : laneErrors [] ((List.range 128).map (fun _ => (0 : Byte)) ++ [0, 0]) = some [] := by decide +kernel
    simp only [recoverLane, laneData, hz]
    show Option.map _ (laneErrors [] ((List.range 128).map (fun _ => (0 : Byte)) ++ [0, 0])) = _
    rw [this]; rfl
  simp only [recoverPage, h]
  decide

theorem witness_QueuedPages_code : State.reset.parityOf 0x100000000 = List.replicate 64 0 ∧ State.reset.erasedUnits 0x100000000 = [] := by decide +kernel

theorem witness_SerialPortFramesAndConverters :
    ((dev []).portState 3 = 0) ∧
    (let s := dev [(O.portState 3, 2), (O.inConvState 3, 3), (O.outConvState 3, 3), (O.detectedSlots 3, 32)]
     s.sapS 3 ≠ 0 ∧ (s.sapS 3 * sapWidth (s.sapFmt 3) < 65536) ∧ s.conv 3 true ≠ 1 ∧ s.conv 3 false ≠ 1 ∧ s.portState 3 = 2 ∧ s.conv 3 true = 3 ∧ s.conv 3 false = 3 ∧
       (((s.modSap 3 (fun x => { x with out := { x.out with phase := .pass } })).sapOf 3).out.phase = .pass) ∧ s.bad = []) ∧
    (let s := dev [(O.portState 3, 1), (O.inConvState 3, 1)]
     s.conv 3 true = 1 ∧ s.portState 3 = 1 ∧ s.bypass 3 = false ∧ ((s.sapOf 3).dir true).phase = .pass) ∧
    (let s := (dev [(O.portState 3, 4)]).modSap 3 (fun x => { x with shut := 64 })
     s.portState 3 = 4 ∧ 64 ≤ (s.sapOf 3).shut ∧ sapMaster (s.sapFmt 3) = false ∧ (s.sapOf 3).good = 0) ∧
    (let s := (dev [(O.portState 3, 3)]).modSap 3 (fun x => { x with shut := 64, zeroSent := true })
     s.portState 3 = 3 ∧ 64 ≤ (s.sapOf 3).shut ∧ (s.sapOf 3).zeroSent = true) ∧
    (let s := (dev [(O.portState 3, 2), (O.inConvState 3, 3), (O.outConvState 3, 3)]).modSap 3 (fun x => { x with q := 1024 })
     s.sapLateOut 3 = true ∧ (dev [(O.portState 3, 2)]).sapLateOut 3 = false) ∧
    (let s := dev [(O.portState 3, 2), (O.inConvState 3, 2)]
     s.conv 3 true = 2) := by decide +kernel

/-! ### Hypotheses of the statements that are met: links and fabric -/

/-- A device whose link 3 is in a state. -/
def linked (st : Nat) : State := dev [(O.linkState 3, st)]

theorem witness_LinkStatesFollowTheirEvents :
    (passes (dev []) (O.linkEnable 3) [1] = true ∧ passes (dev []) (O.linkEnable 3) [0] = true) ∧
    (∀ st ∈ [0, 1, 2, 3, 4, 5, 6, 7, 8, 9, 10], (linked st).linkState 3 = st) ∧
    (((linked 1).setObj (O.linkEnable 3) 0).obj (O.linkEnable 3) = 0 ∧ (linked 5).tickHeld = false ∧ ({ linked 5 with rateSeq := some (44100, true) } : State).tickHeld = true) ∧
    (let s := ((linked 8).setObj (O.pllState 1) 2).setObj (O.linkEnable 3) 1
     s.linkState 3 = 8 ∧ s.obj (O.linkEnable 3) = 1) ∧
    (let s := ((linked 1).setObj (O.pllState 1) 2).setObj (O.linkEnable 3) 1
     s.linkState 3 = 1 ∧ s.obj (O.linkEnable 3) = 1 ∧ s.obj (O.pllState 1) = 2 ∧ s.obj O.powerState ≤ 1) ∧
    (let s := (linked 2).modLink 3 (fun l => { l with two := false, lock0 := true })
     s.linkState 3 = 2 ∧ (s.linkOf 3).lock0 = true ∧ (s.linkOf 3).two = false) ∧
    (let s := (linked 2).modLink 3 (fun l => { l with two := true, lock0 := true, lock1 := true })
     (s.linkOf 3).two = true ∧ (s.linkOf 3).lock0 = true ∧ (s.linkOf 3).lock1 = true) ∧
    (let s := (linked 5).setObj (O.lanesTrained 3) 2
     3 ≤ s.linkState 3 ∧ s.linkState 3 ≤ 7 ∧ s.obj (O.lanesTrained 3) = 2) := by decide +kernel

/-- A cell of one segment that fills its payload, TYPE 3. -/
def aCell : TxCell := { dst := 4095, src := 4095, session := 255, ty := 3, seg := 3, seq := 0, payload := List.replicate 8 (0 : BitVec 64), sent := false, age := 0, tries := 0 }

/-- Link 3 in state Up with cells to send. -/
def sending (sent : Bool) (age tries : Nat) : State :=
  (linked 4).modLink 3 (fun l => { l with ctl := { l.ctl with queue := [{ aCell with sent := sent, age := age, tries := tries }] } })

theorem witness_LinkFramesAndCells :
    ((linked 2).framing 3 = false ∧ (linked 4).framing 3 = true ∧ (linked 4).linkState 3 = 4 ∧ (linked 4).carries 3 = true ∧ (linked 3).linkState 3 ≠ 4) ∧
    ((1 : BitVec 32).toNat = ((linked 4).tick + 1) % 2 ^ 32) ∧
    (let b := ((LineItem.data 7).send 5).1
     [(((4 : BitVec 14)), b)] = [(4, b)] ∧ lineData b = some 7 ∧ (7 : BitVec 64) ≠ 0 ∧ blockFits ((linked 4).framePlaces 3) 4 b = true ∧
       blockFits ((linked 4).framePlaces 3) 0x3FFE b = false ∧ ¬((0x3FFE : BitVec 14).toNat < 0x3FFE)) ∧
    (((linked 4).setObj (O.lanesTrained 3) 2).obj (O.lanesTrained 3) = 2) ∧
    (let s := (linked 4).modLink 3 (fun l => { l with ctl := { l.ctl with last := 4095 } })
     aCell.dst < 4096 ∧ aCell.src < 4096 ∧ aCell.session < 256 ∧ aCell.payload.length ≤ 8 ∧ aCell.seg = 3 ∧ aCell.ty = 3 ∧
       aCell.seq = ((s.linkOf 3).ctl.last + 1) % 4096) ∧
    (({ aCell with seq := 5 } : TxCell).seq ≠ (((linked 4).linkOf 3).ctl.last + 1) % 4096) ∧
    (blocksCrc ([0, 1] : List (BitVec 64)).dropLast ≠ (([0, 1] : List (BitVec 64)).getLastD 0).toNat) ∧
    ((sending true 4 16).linkOf 3).ctl.queue = [{ aCell with sent := true, age := 4, tries := 16 }] ∧
    ((sending true 4 15).linkOf 3).ctl.queue = [{ aCell with sent := true, age := 4, tries := 15 }] ∧
    ((sending true 3 15).linkOf 3).ctl.queue = [{ aCell with sent := true, age := 3, tries := 15 }] := by decide +kernel

/-- The CRC of a header of zeros, so that a header that holds exists. -/
theorem witness_LinkFramesAndCells_header : blocksCrc ([0, 0, 0] : List (BitVec 64)) = (BitVec.ofNat 64 (blocksCrc ([0, 0, 0] : List (BitVec 64)))).toNat % 2 ^ 32 := by decide +kernel

theorem witness_FabricElectionAndTime :
    (let s := { linked 4 with net := { (linked 4).net with settle := (linked 4).obj O.originSettle } }
     s.framing 3 = true ∧ s.bestKey = s.ownKey ∧ s.obj O.originSettle ≤ s.net.settle ∧ s.net.origin ≠ some s.ownKey ∧ s.seenFlood 4095 65535 = false ∧ s.joined = false) ∧
    (let s : State := { linked 4 with net := { (linked 4).net with seen := [(4095, 65535, 0)] } }
     s.seenFlood 4095 65535 = true) ∧
    (let s := linked 4
     s.bestKey.better { prio := 255, uid := 2 ^ 64 - 1 } = true ∧ s.bestKey.better { prio := 0, uid := 0 } = false ∧ s.obj O.fabricEpoch ≤ (0 : BitVec 32).toNat) ∧
    (let s := { dev [(O.timeState, 1)] with net := { (dev []).net with near := 256 } }
     s.obj O.timeState = 1 ∧ 256 ≤ s.net.near) ∧
    (let s := { dev [(O.timeState, 2)] with net := { (dev []).net with far := 16 } }
     s.obj O.timeState = 2 ∧ 16 ≤ s.net.far) := by decide +kernel

/-- A device that has lost a link for which it holds a plan. -/
def lost : State := { linked 4 with net := { (linked 4).net with lost := [((1, 0), (2, 3), 100)] } }

theorem witness_FabricMessages :
    (lost.net.lost.find? (fun l => sameLink l.1 l.2.1 (1, 0) (2, 3)) = some ((1, 0), (2, 3), 100) ∧ tickLe (100 + 64) lost.tick = false) ∧
    (tickLe (100 + 64) (lost.setObj O.tickCount 164).tick = true ∧ tickLe (lost.setObj O.tickCount 164).tick (100 + 64) = true) ∧
    (lost.net.lost.find? (fun l => sameLink l.1 l.2.1 (1, 0) (2, 2)) = none) ∧
    (({ lost with net := { lost.net with origin := some lost.ownKey } } : State).leads = true ∧ lost.leads = false) ∧
    lost.net.routesPend = none ∧ (List.replicate 2040 (0 : BitVec 8)).length ≤ 4096 ∧ aWf 0 (lost.linkOf 3).txPend = true ∧ aWf 0 (lost.linkOf 3).rxPend = true ∧
    lost.net.reserveGen ≠ (1 : BitVec 32).toNat := by decide +kernel

theorem witness_FabricMessages_address :
    (let m := lost.addressMsg 7 8 9 0 0 0
     (8 : BitVec 64).toNat ≠ lost.obj O.uid ∧ lost.seenFlood 7 (lost.msgMark m) = false ∧ lost.floodPorts (lost.net.path.map port4) = [3] ∧
       (lost.noteFlood 7 (lost.msgMark m)).seenFlood 7 (lost.msgMark m) = true) ∧
    (lost.til.checking = none ∧ lost.til.graph = none) := by decide +kernel

/-! ### Hypotheses of the statements that are met: DMA, flash, registers -/

/-- Channel `c` in a state, at a descriptor. -/
def channel (c v a : Nat) : State := dev [(O.channelState c, v), (O.currentDescriptor c, a)]

theorem witness_DmaChannelRequests :
    (passes (dev []) (O.channelHead 31) [0x10000000, 0] = true ∧ (dev []).chanState 31 = 0 ∧ (dev []).obj O.locusDrainEnable ≠ 1 ∧
      wordsNat [0x103FFFE0, 0] % 32 = 0 ∧ 0x10000000 ≤ wordsNat [0x103FFFE0, 0] ∧ wordsNat [0x103FFFE0, 0] < 0x10400000 ∧ ¬(wordsNat [0x10400000, 0] < 0x10400000) ∧
      wordsNat [0x10400000, 0] < 0x1000000000) ∧
    (passes (dev [(O.locusDrainEnable, 1)]) (O.channelHead 31) [0x10000000, 0] = true ∧ (dev [(O.locusDrainEnable, 1)]).obj O.locusDrainEnable = 1) ∧
    (∀ v ∈ [0, 1, 2, 3], (channel 31 v 0x10000000).chanState 31 = v ∧ passes (channel 31 v 0x10000000) (O.doorbell 31) [1] = true ∧
      passes (channel 31 v 0x10000000) (O.channelResume 31) [1] = true ∧ passes (channel 31 v 0x10000000) (O.channelStop 31) [1] = true) := by decide +kernel

/-- A good descriptor: 64 bytes from on-chip SRAM to Orbit memory. -/
def goodDesc : DmaDesc := { ctrl := 0x80000000, src := 0x10000100, dst := 0x100000000, length := 64, next := 0 }

/-- Channel 31 Running with a descriptor, of which some bytes are done. -/
def moving (d : DmaDesc) (done : Nat) : State :=
  (channel 31 1 0x10000000).modDma (fun x => { x with chan := put x.chan 31 { DmaChan.reset with desc := some d, done := done } })

theorem witness_DmaDescriptors_read :
    (let s := channel 31 1 0x10000000
     s.chanState 31 = 1 ∧ (s.chan 31).desc = none ∧ s.descPlace (s.chanDesc 31) = true ∧ s.busRead 4 (s.chanDesc 31) 32 = (.ok, List.replicate 32 0, s) ∧
       (dmaDesc (List.replicate 32 0)).own = false) ∧
    (let s := channel 31 1 0x10400000
     s.descPlace (s.chanDesc 31) = false) ∧
    goodDesc.own = true ∧ goodDesc.length ≠ 0 ∧ goodDesc.ok = true ∧ ({ goodDesc with length := 62 } : DmaDesc).ok = false := by decide +kernel

theorem witness_DmaDescriptors_burst :
    (let s := moving goodDesc 0
     s.granted = some 31 ∧ (s.chan 31).desc = some goodDesc ∧ s.granted ≠ none ∧ (dev []).granted = none) ∧
    (let s := moving goodDesc 0
     (s.burstRead (s.chan 31) goodDesc 64).1 = .ok ∧ (s.burstWrite (s.chan 31) goodDesc (List.replicate 64 0)).1 = .ok ∧
       (s.setEngine 0 { s.engine 0 with stores := [{ y := false, words := [(0x100000004, 5)] }] }).storesIn 0x100000000 64 = [0x100000004]) ∧
    (let s := moving goodDesc 64
     (s.chan 31).desc = some goodDesc ∧ s.chanState 31 = 1 ∧ goodDesc.length ≤ (s.chan 31).done ∧ s.bad = [] ∧ Memory.wf s.mem) ∧
    (let s := moving { goodDesc with ctrl := 0x90000000, src := 0x0000000500000000 } 0
     s.chanState 31 = 1 ∧ (s.chan 31).desc.bind DmaDesc.receives = some 5 ∧ ([] : List Byte).length ≤ (s.chan 31).granted ∧ (s.chan 31).granted < [(0 : Byte)].length) := by decide +kernel

/-- A raw command of the flash is under way. -/
def programming (f : FlashOp) : State := { State.reset with xip := { State.reset.xip with raw := some (4096, f) } }

theorem witness_XipFlashAndRegisters :
    (State.reset.xip.enable = false ∧ ({ State.reset.xip with enable := true } : Xip).enable = true ∧ State.reset.xip.raw = none ∧
      State.reset.xip.lines.find? (fun p => p.1 = (0x3FFFFFF : BitVec 26).toNat / 4096) = none) ∧
    ((programming (.program [0])).xip.raw = some (4096, .program [0]) ∧ (programming (.erase 4096)).xip.raw = some (4096, .erase 4096) ∧
      (programming .register).xip.raw = some (4096, .register) ∧ (programming .register).xip.fillWait = none ∧ aWf 0xFF#8 (programming .register).flash = true) ∧
    regAt 0xFFFFFFFFFF = none ∧ regAt 0x40320008 = some (.xipBase, 0) ∧ regAt 0x40200010 = some (.scrubLap, 0) := by decide +kernel

/-! ### Hypotheses of the statements that are met: journal, graph, migration -/

/-- A device with LPDDR5X. -/
def withLpddr (l : List (Nat × Nat)) : State := dev ((O.lpddrCapacity, 1024) :: l)

theorem witness_LocusJournal :
    (({ dev [] with gap := some { seq := 0, lost := 1, strict := 0, lastTick := 0, tick := 0, epoch := 0 } } : State).gap = some { seq := 0, lost := 1, strict := 0, lastTick := 0, tick := 0, epoch := 0 } ∧ (dev []).locusFree ≠ 0 ∧
      (dev []).gap = none) ∧
    (passes (dev []) O.locusAckSeq [0, 0] = true ∧ (dev []).obj O.locusAckSeq = 0 ∧ (dev []).finalCount = 0 ∧ (dev []).finalCount < wordsNat [1, 0]) ∧
    (passes (dev []) O.locusDrainEnable [1] = true ∧ (dev []).lpddrBytes = 0 ∧ passes (withLpddr []) O.locusDrainEnable [1] = true ∧ (withLpddr []).lpddrBytes ≠ 0 ∧ (withLpddr []).chanState 31 ≤ 3) ∧
    (passes (withLpddr []) O.lpddrRingBase [0, 16] = true ∧ (withLpddr []).ringFits (wordsNat [0, 16]) ((withLpddr []).obj O.lpddrRingLog2) = true ∧
      (dev []).ringFits (wordsNat [0, 16]) ((dev []).obj O.lpddrRingLog2) = false ∧ passes (dev []) O.lpddrRingBase [0, 16] = true) ∧
    (let s := withLpddr [(O.locusDrainEnable, 1)]
     passes s O.lpddrRingBase [0, 16] = true ∧ passes s O.lpddrRingLog2 [20] = true ∧ s.obj O.locusDrainEnable ≠ 0) ∧
    (let s : State := { dev [] with locusSum := { LocusSum.reset with count := (dev []).obj O.locusSummaryPeriod } }
     s.obj O.locusSummaryPeriod ≤ s.locusSum.count ∧ s.obj O.hullShedStage = 0 ∧ s.obj O.hullReady = 1) := by decide +kernel

theorem witness_LocusJournal_drain : let s : State := withLpddr [(O.locusDrainEnable, 1), (O.locusWriteSeq, 1), (O.pllState 2, 2)]
    s.drainReady = true ∧ s.finalCount = s.obj O.locusDrainSeq + 1 ∧ s.reachable (s.lpddrRing (s.obj O.locusDrainSeq)) = true ∧
      s.badIn (ringAddr (s.obj O.locusDrainSeq)) 32 = none ∧ Memory.wf s.mem := by decide +kernel

/-- The block image (R220, R221) without its CRC: one bundle that does nothing, declared 8 bundles long. -/
def blockBody : List Byte :=
  [0x4B, 0x4C, 0x42, 0x54, 0x01, 0, 0, 0, 0x08, 0, 0x01, 0, 0x01, 0, 0, 0] ++
  [0, 0, 0, 0, 0, 0, 0, 0, 0, 0, 0, 0, 0, 0, 0, 0] ++
  [0, 0, 0, 0, 0, 0, 0, 0, 0, 0, 0, 0, 0, 0, 0, 0] ++
  [0, 0, 0, 0, 0, 0, 0, 0, 0, 0, 0, 0, 0, 0, 0, 0] ++
  [0, 0, 0, 0, 0, 0, 0, 0, 0, 0, 0, 0]

/-- The graph image (R362 to R364) without its CRC: that block, pinned to engine 0. -/
def graphBody : List Byte :=
  [0x48, 0x52, 0x47, 0x54, 0x01, 0, 0, 0, 0xF0, 0, 0, 0, 0x07, 0, 0, 0] ++
  [0, 0, 0, 0, 0x01, 0, 0, 0, 0x80, 0, 0, 0, 0, 0, 0, 0] ++
  [0, 0, 0, 0, 0, 0, 0, 0, 0, 0, 0, 0, 0, 0, 0, 0] ++
  [0, 0, 0, 0, 0, 0, 0, 0, 0, 0, 0, 0, 0, 0, 0, 0] ++
  [0, 0, 0, 0, 0xA0, 0, 0, 0, 0x50, 0, 0, 0, 0, 0, 0, 0] ++
  [0, 0, 0, 0, 0, 0, 0, 0, 0, 0, 0, 0, 0, 0, 0, 0] ++
  [0, 0, 0, 0, 0, 0, 0, 0, 0, 0, 0, 0, 0, 0, 0, 0] ++
  [0, 0, 0, 0, 0, 0, 0, 0, 0, 0, 0, 0, 0, 0, 0, 0] ++
  [0x50, 0, 0, 0, 0, 0, 0, 0x40, 0, 0, 0, 0, 0, 0, 0, 0] ++
  [0, 0, 0, 0, 0, 0, 0, 0, 0, 0, 0, 0, 0x4B, 0x4C, 0x42, 0x54] ++
  [0x01, 0, 0, 0, 0x08, 0, 0x01, 0, 0x01, 0, 0, 0, 0, 0, 0, 0] ++
  [0, 0, 0, 0, 0, 0, 0, 0, 0, 0, 0, 0, 0, 0, 0, 0] ++
  [0, 0, 0, 0, 0, 0, 0, 0, 0, 0, 0, 0, 0, 0, 0, 0] ++
  [0, 0, 0, 0, 0, 0, 0, 0, 0x28, 0x9E, 0x48, 0x0E, 0, 0, 0, 0] ++
  [0, 0, 0, 0, 0, 0, 0, 0, 0, 0, 0, 0]

def graphImage : List Byte := graphBody.take 0x7C ++ leBytes 4 0x0059F620 ++ graphBody.drop 0x7C

/-- Its CRC-32C, 16 bytes at a time. -/
theorem blockBody_crc : crc32c blockBody = 0x0E489E28 := by
  have h0 : ([0x4B, 0x4C, 0x42, 0x54, 0x01, 0, 0, 0, 0x08, 0, 0x01, 0, 0x01, 0, 0, 0] : List Byte).foldl crcByte 0xFFFFFFFF#32 = 0x29143643#32 := by decide +kernel
  have h1 : ([0, 0, 0, 0, 0, 0, 0, 0, 0, 0, 0, 0, 0, 0, 0, 0] : List Byte).foldl crcByte 0x29143643#32 = 0x0079FD24#32 := by decide +kernel
  have h2 : ([0, 0, 0, 0, 0, 0, 0, 0, 0, 0, 0, 0, 0, 0, 0, 0] : List Byte).foldl crcByte 0x0079FD24#32 = 0x70FE1564#32 := by decide +kernel
  have h3 : ([0, 0, 0, 0, 0, 0, 0, 0, 0, 0, 0, 0, 0, 0, 0, 0] : List Byte).foldl crcByte 0x70FE1564#32 = 0x54DEE5C5#32 := by decide +kernel
  have h4 : ([0, 0, 0, 0, 0, 0, 0, 0, 0, 0, 0, 0] : List Byte).foldl crcByte 0x54DEE5C5#32 = 0xF1B761D7#32 := by decide +kernel
  simp only [crc32c, blockBody, List.append_assoc, List.foldl_append]
  rw [h0, h1, h2, h3, h4]
  decide

/-- Its CRC-32C. -/
theorem graphBody_crc : crc32c graphBody = 0x0059F620 := by
  have h0 : ([0x48, 0x52, 0x47, 0x54, 0x01, 0, 0, 0, 0xF0, 0, 0, 0, 0x07, 0, 0, 0] : List Byte).foldl crcByte 0xFFFFFFFF#32 = 0xF72C810F#32 := by decide +kernel
  have h1 : ([0, 0, 0, 0, 0x01, 0, 0, 0, 0x80, 0, 0, 0, 0, 0, 0, 0] : List Byte).foldl crcByte 0xF72C810F#32 = 0xCD4571B2#32 := by decide +kernel
  have h2 : ([0, 0, 0, 0, 0, 0, 0, 0, 0, 0, 0, 0, 0, 0, 0, 0] : List Byte).foldl crcByte 0xCD4571B2#32 = 0x1FE77E70#32 := by decide +kernel
  have h3 : ([0, 0, 0, 0, 0, 0, 0, 0, 0, 0, 0, 0, 0, 0, 0, 0] : List Byte).foldl crcByte 0x1FE77E70#32 = 0xF62A8F65#32 := by decide +kernel
  have h4 : ([0, 0, 0, 0, 0xA0, 0, 0, 0, 0x50, 0, 0, 0, 0, 0, 0, 0] : List Byte).foldl crcByte 0xF62A8F65#32 = 0x1A3F8A9A#32 := by decide +kernel
  have h5 : ([0, 0, 0, 0, 0, 0, 0, 0, 0, 0, 0, 0, 0, 0, 0, 0] : List Byte).foldl crcByte 0x1A3F8A9A#32 = 0x0DF64489#32 := by decide +kernel
  have h6 : ([0, 0, 0, 0, 0, 0, 0, 0, 0, 0, 0, 0, 0, 0, 0, 0] : List Byte).foldl crcByte 0x0DF64489#32 = 0x6A4951A0#32 := by decide +kernel
  have h7 : ([0, 0, 0, 0, 0, 0, 0, 0, 0, 0, 0, 0, 0, 0, 0, 0] : List Byte).foldl crcByte 0x6A4951A0#32 = 0x5383EA30#32 := by decide +kernel
  have h8 : ([0x50, 0, 0, 0, 0, 0, 0, 0x40, 0, 0, 0, 0, 0, 0, 0, 0] : List Byte).foldl crcByte 0x5383EA30#32 = 0x141A3390#32 := by decide +kernel
  have h9 : ([0, 0, 0, 0, 0, 0, 0, 0, 0, 0, 0, 0, 0x4B, 0x4C, 0x42, 0x54] : List Byte).foldl crcByte 0x141A3390#32 = 0x2353BCDA#32 := by decide +kernel
  have h10 : ([0x01, 0, 0, 0, 0x08, 0, 0x01, 0, 0x01, 0, 0, 0, 0, 0, 0, 0] : List Byte).foldl crcByte 0x2353BCDA#32 = 0xF3B0C798#32 := by decide +kernel
  have h11 : ([0, 0, 0, 0, 0, 0, 0, 0, 0, 0, 0, 0, 0, 0, 0, 0] : List Byte).foldl crcByte 0xF3B0C798#32 = 0x8C0F5FD7#32 := by decide +kernel
  have h12 : ([0, 0, 0, 0, 0, 0, 0, 0, 0, 0, 0, 0, 0, 0, 0, 0] : List Byte).foldl crcByte 0x8C0F5FD7#32 = 0x8292D8F5#32 := by decide +kernel
  have h13 : ([0, 0, 0, 0, 0, 0, 0, 0, 0x28, 0x9E, 0x48, 0x0E, 0, 0, 0, 0] : List Byte).foldl crcByte 0x8292D8F5#32 = 0x3398DDB8#32 := by decide +kernel
  have h14 : ([0, 0, 0, 0, 0, 0, 0, 0, 0, 0, 0, 0] : List Byte).foldl crcByte 0x3398DDB8#32 = 0xFFA609DF#32 := by decide +kernel
  simp only [crc32c, graphBody, List.append_assoc, List.foldl_append]
  rw [h0, h1, h2, h3, h4, h5, h6, h7, h8, h9, h10, h11, h12, h13, h14]
  decide

/-- The block table entry, and the block image, of the graph image. -/
def graphEntry : GBlock := { imageOff := 0, imageBytes := 80, pin := 0x40000000, flags := 0, xfade := 0, w := 0, small := 0, rsv := 0 }
def blockImage : List Byte := graphImage.drop 160

theorem graphImage_header : headerFault graphImage = none := by
  have h : graphImage.take 0x7C ++ graphImage.drop 0x80 = graphBody := by decide +kernel
  unfold headerFault
  rw [h, graphBody_crc]
  decide +kernel

theorem graphImage_blocks : (gImage graphImage).blocks.zipIdx = [(graphEntry, 0)] := by decide +kernel

theorem graphImage_row (labels : List Nat) : (gImage graphImage).imageRow labels 0 graphEntry = none := by
  have h1 : ((gImage graphImage).data.drop graphEntry.imageOff).take graphEntry.imageBytes = blockImage := by decide +kernel
  have h2 : blockImage.take 0x3C ++ blockImage.drop 0x40 = blockBody := by decide +kernel
  have h3 : imageHeaderBad blockImage = false ∧ numAt blockImage 0x3C 4 = 0x0E489E28 := by decide +kernel
  have h4 : (bImage blockImage).issues = 1 ∧ (bImage blockImage).issue = 1 ∧ (bImage blockImage).relocs = [] := by decide +kernel
  unfold GImage.imageRow
  simp only [h1, h2, h3, h4, blockBody_crc, graphImage_blocks, List.any_cons, List.any_nil, Nat.lt_irrefl, decide_false, Bool.false_and, Bool.or_false]
  decide

theorem firstEntry_one {α : Type} (code table : Nat) (a : α) (f : α → Option Nat) (h : f a = none) : firstEntry code table [a] f = none := by
  simp [firstEntry, h]

theorem graphImage_code (v : GEnv) (hv : v.budget = 30994) : (gImage graphImage).codeFault v = none := by
  have hr : firstEntry 4 1 (gImage graphImage).blocks.zipIdx (fun x => (gImage graphImage).imageRow ((gImage graphImage).clusterLabels v) x.2 x.1) = none :=
    graphImage_blocks ▸ firstEntry_one 4 1 (graphEntry, 0) (fun x => (gImage graphImage).imageRow ((gImage graphImage).clusterLabels v) x.2 x.1)
      (graphImage_row _)
  unfold GImage.codeFault
  rw [hr, hv]
  decide +kernel

/-- An image waits for its checks, in a mode. -/
def checking (bytes : List Byte) (mode : Nat) : State :=
  let s := dev [(O.operatingMode, mode)]
  { s with til := { s.til with checking := some (bytes, 0, mode) } }

theorem graphImage_fault (mode : Nat) (hm : mode = 3 ∨ mode = 1) : graphFault ((checking graphImage mode).graphEnv mode) graphImage = none := by
  have hv : ((checking graphImage mode).graphEnv mode).budget = 30994 := by rcases hm with rfl | rfl <;> decide +kernel
  unfold graphFault
  rw [graphImage_header]
  simp only [graphImage_code _ hv]
  rcases hm with rfl | rfl <;> decide +kernel

theorem witness_GraphAdmission_accepted : (checking graphImage 3).til.checking = some (graphImage, 0, 3) ∧ graphFault ((checking graphImage 3).graphEnv 3) graphImage = none ∧
    leastFault ((checking graphImage 3).planOf graphImage 3).faults = none :=
  ⟨rfl, graphImage_fault 3 (.inl rfl), by decide +kernel⟩

theorem witness_GraphAdmission_mode : (checking graphImage 1).til.checking = some (graphImage, 0, 1) ∧ graphFault ((checking graphImage 1).graphEnv 1) graphImage = none ∧
    leastFault ((checking graphImage 1).planOf graphImage 1).faults = none :=
  ⟨rfl, graphImage_fault 1 (.inr rfl), by decide +kernel⟩

theorem witness_GraphAdmission_rejected : (checking [] 3).judge [] 3 false ≠ none := by decide +kernel

/-- A graph in force with no block. -/
def aGraph : Graph := { image := [], id := 0, blocks := [], regions := [], lines := [], edges := [], exBase := 0, exSize := 0, exOffs := [], priv := [] }

/-- The migration of block 0 from engine 0 to engine 1. -/
def aMigration (warm switched : Bool) (aTick : Nat) : Migration :=
  { block := 0, blocks := [], fromDev := 0, fromEng := 0, toDev := 0, toEng := 1, warm := warm, dst := [], regions := [], lines := [], priv := [], second := []
    aTick := aTick, switched := switched, mover := false, snapshot := [] }

/-- A device with that graph and perhaps a migration, in a mode, with GraphState and MigrationState. -/
def tiled (mode graphState migState : Nat) (m : Option Migration) : State :=
  let s := dev [(O.operatingMode, mode), (O.graphState, graphState), (O.migrationState, migState), (O.reoptimise, 0)]
  { s with til := { s.til with graph := some aGraph, mig := m } }

theorem witness_GraphStartAndUnload :
    (let s := tiled 3 2 0 none
     s.til.graph = some aGraph ∧ s.obj O.graphState = 2 ∧ s.mode = 3 ∧ passes s O.graphUnload [1] = true ∧ s.til.mig = none) ∧
    (let s := tiled 5 2 0 none
     3 ≤ s.mode ∧ s.mode ≤ 5 ∧ s.obj O.reoptimise ≠ 1) ∧
    (let s := tiled 3 3 1 (some (aMigration false false 0))
     passes s O.graphUnload [1] = true ∧ s.til.mig ≠ none) ∧
    (passes (dev []) O.graphUnload [1] = true ∧ (dev []).til.graph = none) ∧
    (let s := { tiled 3 3 0 none with integ := { State.reset.integ with poison := [0x100000000] } }
     0x100000000 ∈ s.integ.poison ∧ s.rebuilt aGraph 0x100000000 = none) := by decide +kernel

theorem witness_MigrationGoesThroughItsStates :
    (let s := tiled 3 3 1 (some (aMigration false false 0))
     s.til.mig = some (aMigration false false 0) ∧ s.til.graph = some aGraph ∧ s.obj O.migrationState = 1) ∧
    ((tiled 3 3 1 (some (aMigration false false 0))).mayStore aGraph (aMigration false false 0) = true ∧
      (let m := { aMigration false false 0 with dst := [{ block := 0, dev := 0, eng := 1, start := 0, size := 8, code := 1 }] }
       m.dst ≠ [] ∧ (tiled 3 3 1 (some m)).mayStore aGraph m = true)) ∧
    ((List.replicate 0 (0 : Byte)).length = aGraph.img.smallSize (aMigration true false 2).blocks ∧ [(0 : Byte)].length ≠ aGraph.img.smallSize (aMigration true false 2).blocks) ∧
    (let s := tiled 3 3 2 (some (aMigration false false 1))
     s.obj O.migrationState = 2 ∧ tickLe ((aMigration false false 1).aTick + aGraph.window []) (s.tick + 1) = true ∧
       tickLe ((aMigration false false 2).aTick + aGraph.window []) (s.tick + 1) = false) ∧
    (let s := tiled 3 3 2 (some (aMigration true false 2))
     tickLe ((aMigration true false 2).aTick + aGraph.window []) (s.tick + 2) = true ∧ tickLe ((aMigration true false 3).aTick + aGraph.window []) (s.tick + 2) = false) ∧
    (let m := { aMigration true false 2 with toDev := 5, mover := true }
     let s := tiled 3 3 3 (some m)
     m.mover = true ∧ m.fromDev ≠ m.toDev ∧ ((s.smallState aGraph m).2.snapshotAt aGraph (s.smallState aGraph m).1.length).isSome = true ∧ Memory.wf s.mem) ∧
    (let x : Xfade := { wait := 0, first := 64, second := 65, j := 3, total := 4 }
     ¬(x.total ≤ x.j) ∧ ({ aMigration true true 0 with second := [(0, 65)] } : Migration).second.any (fun p => p.2 = x.second) = true) ∧
    (let s := tiled 3 3 4 (some (aMigration true true 0))
     s.obj O.migrationState = 4 ∧ s.net.xfades = [] ∧ s.til.toDrain = [] ∧ s.obj O.reoptimise ≠ 1) ∧
    (passes (tiled 5 3 0 none) O.drainDevice [1] = true ∧ (tiled 5 3 0 none).mode = 5 ∧ passes (tiled 3 3 0 none) O.drainDevice [1] = true ∧ (tiled 3 3 0 none).mode ≠ 5 ∧
      passes (dev [(O.operatingMode, 5)]) O.drainDevice [1] = true ∧ (dev [(O.operatingMode, 5)]).til.graph = none) := by decide +kernel

/-- A device whose graph has one block that may move, on engine 0. -/
def movable (m : Option Migration) : State :=
  let g : Graph := { aGraph with image := (graphImage.set 139 0).set 140 1, blocks := [{ block := 0, dev := 0xFFF, eng := 0, start := 0, size := 8, code := 1 }] }
  { tiled 4 3 0 m with til := { (tiled 4 3 0 m).til with graph := some g } }

theorem witness_TilerOrdersAndReports :
    ((movable none).til.checking = none ∧ ((movable none).til.graph.bind (fun g => (g.place 0).map (·.dev))) = some (movable none).selfDev) ∧
    ((tiled 3 3 0 none).til.checking = none ∧ aGraph.place 0 = none) ∧
    ((checking graphImage 3).til.checking = some (graphImage, 0, 3)) ∧
    (let m := { aMigration false false 0 with blocks := [0], toDev := 5 }
     (tiled 5 3 1 (some m)).til.mig = some m ∧ 0 ∈ m.blocks ∧ m.toDev ≠ (tiled 5 3 1 (some m)).selfDev ∧ m.switched = false) := by
  refine ⟨by decide +kernel, by decide +kernel, rfl, by decide +kernel⟩

/-- MigrateRequest of block 0 to engine 1 of the own device. -/
theorem witness_MigrateRequest : let words : List (BitVec 32) := [0x1FFF0000]
    let s := movable none
    let w := wordsNat words
    let c := s.clearDiag
    s.requestMode w = true ∧ s.requestFault w = none ∧ s.migrating = false ∧ s.requestClash w = false ∧ passes s O.migrateRequest words = true ∧ passes c O.migrateRequest words = true ∧
      (s.til.graph.map (fun g => (c.destination g (c.placeEnv c.mode) (g.img.clusterOf (c.placeEnv c.mode) (w % 2 ^ 14)) (reqDev (c.placeEnv c.mode) w) (w / 2 ^ 28 % 8)).isLeft)) =
        some true := by decide +kernel

theorem witness_MigrateRequest_busy : let words : List (BitVec 32) := [0x1FFF0000]
    let s := movable (some (aMigration false false 0))
    passes s O.migrateRequest words = true ∧ s.requestMode (wordsNat words) = true ∧ s.requestFault (wordsNat words) = none ∧ s.migrating = true := by decide +kernel

/-! ### Hypotheses of the statements that are met: clocks, PLLs, Patchbay -/

theorem witness_TickSourceAndTickRate_source :
    (let s := { dev [(O.mediaState, 2)] with clk := { (dev []).clk with source := 1 } }
     s.clk.source ≠ 0 ∧ s.obj O.mediaState ≠ 0 ∧ s.rateSeq = none ∧ s.clk.mediaGated = false ∧ s.obj O.tickSourceFallback = 0xFF) ∧
    (let s := { dev [(O.mediaState, 2), (O.tickSourceFallback, 0)] with clk := { (dev []).clk with source := 1 } }
     s.obj O.tickSourceFallback ≠ 0xFF ∧ s.obj O.tickSourceFallback ≠ s.clk.source) ∧
    (let s := { dev [(O.mediaState, 2)] with clk := { (dev []).clk with source := 6 }, rateSeq := some (44100, false), net := { (dev []).net with adrift := 64 } }
     s.clk.source = 6 ∧ 64 ≤ s.net.adrift ∧ s.obj O.mediaState ≠ 0 ∧ s.rateSeq ≠ none) ∧
    (let s := { dev [(O.mediaState, 1)] with clk := { (dev []).clk with source := 4 } }
     s.rateSeq = none ∧ s.obj O.mediaState ≠ 0 ∧ s.clk.mediaGated = false ∧ s.obj O.refState ≠ 1 ∧ s.clk.source = (3 : Fin 4).val + 1 ∧ sapMaster (s.sapFmt 3) = false ∧
       sapMaster ((s.setObj (O.sapFormat 3) 0x20000).sapFmt 3) = true) ∧
    passes (dev []) O.tickSource [6] = true ∧ (dev []).obj O.mediaState = 0 := by decide +kernel

theorem witness_TickSourceAndTickRate_rate :
    (let s := dev [(O.operatingMode, 3)]
     passes s O.tickRate [384000] = true ∧ s.obj O.powerState = 0 ∧ s.mode ≠ 1 ∧ s.mode ≠ 2 ∧ s.rateFault 384000 = none ∧ s.rateSeq = none ∧ s.clk.engSeq = none ∧
       s.longestProgram ≤ min (cyclesFor (s.obj O.engineFrequency) (s.obj O.engineSpread) 384000 - 256) 32768) ∧
    (let s := dev [(O.operatingMode, 1)]
     passes s O.tickRate [44100] = true ∧ s.mode = 1 ∧ s.joined = false) ∧
    (let s := engine0 (fun x => { x with progLen := 32768 })
     ¬(s.longestProgram ≤ min (cyclesFor (s.obj O.engineFrequency) (s.obj O.engineSpread) 384000 - 256) 32768)) ∧
    (let s : State := { dev [] with rateSeq := some (44100, false) }
     s.rateSeq = some (44100, false) ∧ s.allSilent = true) ∧
    (let s : State := { dev [] with rateSeq := some (44100, true) }
     s.rateSeq = some (44100, true) ∧ s.clk.mediaGated = false ∧ s.relocking = false ∧ s.clk.lostWait = none) := by decide +kernel

theorem witness_EngineClockAndPlls :
    (let s := dev [(O.speedGrade, 15)]
     passes s O.engineFrequency [1500000] = true ∧ passes s O.engineSpread [2] = true ∧ s.obj O.powerState = 0 ∧ s.rateSeq = none ∧ s.clk.engSeq = none ∧
       1500000 ≤ s.obj O.speedGrade * 100000 ∧ 2000000 > s.obj O.speedGrade * 100000 ∧
       s.longestProgram ≤ min (cyclesFor 1500000 (s.obj O.engineSpread) (s.obj O.tickRate) - 256) 32768) ∧
    (let s : State := { dev [] with clk := { (dev []).clk with engSeq := some { khz := 100000, spread := 0, stopped := false } } }
     s.clk.engSeq = some { khz := 100000, spread := 0, stopped := false } ∧ s.allSilent = true) ∧
    (let s := dev [(pllStateObj 1, 1), (pllStateObj 3, 1)]
     s.pllWaits 1 = true ∧ s.pllWaits 3 = true) ∧
    (let s := dev [(O.mediaState, 2), (pllStateObj 1, 2), (pllStateObj 4, 2)]
     s.obj O.mediaState = 2 ∧ s.rateSeq = none ∧ s.obj (pllStateObj 1) = 2 ∧ s.obj (pllStateObj 4) = 2) ∧
    ((dev [(O.mediaState, 2)]).clk.source = 0 ∧ (dev [(O.mediaState, 2)]).obj O.refState = 0 ∧ (dev [(O.mediaState, 2)]).rateSeq = none) ∧
    (dev [(O.refState, 0)]).obj O.refState = 0 ∧ (dev [(O.refState, 1)]).obj O.refState = 1 ∧
    passes (dev []) (O.clkOutConfig 3) [0x80000000] = true ∧ passes (dev []) (O.clkOutConfig 3) [0x60000000] = true := by decide +kernel

theorem witness_PatchbayObjectsMetersAndStart :
    (let s := dev []
     passes s (O.crossGain 16383) [0] = true ∧ passes s (O.crossSource 16383) [1023] = true ∧ passes s (O.outputDelay 1023) [0] = true ∧ passes s (O.eqBand 8191) [0x07D00000, 0x000F4240] = true ∧
       passes s (O.sourceGroup 63) [0x8000003F] = true ∧ passes s (O.delayReserve 1023) [1024] = true) ∧
    (let s : State := { dev [(O.patchbayState, 2)] with pb := { Patchbay.reset with window := 2400 } }
     s.obj O.patchbayState = 2 ∧ s.pb.window = 2400) ∧
    (let s := dev [(O.patchbayState, 1)]
     s.obj O.patchbayState = 1 ∧ s.per = none ∧ s.chooseTable.1 = none) := by decide +kernel

/-! ### Hypotheses of the statements that are met: secure start, updates -/

theorem witness_FusesConfirmationAndKeepRecords :
    (passes (dev []) O.keyRevoke [2] = true ∧ (dev []).obj O.bootSlot = 0xFF) ∧
    (let s := dev [(O.bootSlot, 0), (O.bootKeySlot, 2)]
     s.obj O.bootSlot ≠ 0xFF ∧ wordsNat [2] = s.obj O.bootKeySlot ∧ passes s O.keyRevoke [2] = true) ∧
    (let s := dev [(O.bootSecVer, 128)]
     passes s O.rollbackAdvance [128] = true ∧ s.rollback ≤ 128 ∧ 128 ≤ s.obj O.bootSecVer ∧ (s.rollback ≤ (127 : Fin 128).val ∧ (127 : Fin 128).val < 128)) ∧
    (let s := dev [(O.bootSlot, 1), (O.bootConfirmed, 0), (O.confirmPolicy, 1)]
     passes s O.imageConfirm [1] = true ∧ s.obj O.confirmPolicy = 1 ∧ s.obj O.bootSlot < 2 ∧ s.obj O.bootConfirmed = 0 ∧ aWf 0xFF#8 s.flash = true) ∧
    (let s := dev [(O.bootSlot, 1), (O.bootConfirmed, 0), (O.confirmPolicy, 0)]
     s.obj O.confirmPolicy = 0 ∧ s.obj O.bootSlot < 2) ∧
    passes (dev []) O.startMode [5] = true := by decide +kernel

theorem witness_FusesConfirmationAndKeepRecords_snapshot :
    (passes (dev []) O.keepSnapshotNow [1] = true ∧ (dev []).keepPayload 3 ≠ some (dev []).snapshotBytes ∧ (dev []).obj O.hullShedStage = 0) ∧
    (let s := { dev [(O.keepSnapshotPeriod, 600)] with clk := { (dev []).clk with monitor := false } }
     s.serving = true ∧ s.obj O.keepSnapshotPeriod ≠ 0 ∧ s.obj O.hullReady = 1 ∧ s.clk.monitor = false) := by decide +kernel

theorem witness_UpdateLoaderAndWatchdog :
    (let s := dev [(O.updateState, 1)]
     s.obj O.updateState = 1 ∧ s.updateCode s.update ≠ 0 ∧ s.update.length ≤ 0x4000000) ∧
    (passes (dev [(O.updateState, 4)]) O.updateActivate [1] = true ∧ (dev [(O.updateState, 4)]).obj O.updateState = 4 ∧ passes (dev []) O.updateActivate [1] = true ∧
      (dev []).obj O.updateState ≠ 4) ∧
    (let s := dev [(O.operatingMode, 1)]
     s.mode = 1 ∧ s.obj O.loaderState ≠ 1 ∧ s.obj O.loaderState ≠ 2 ∧ passes s O.loaderCommand [1] = true ∧ passes s O.loaderCommand [2] = true ∧ passes s O.loaderCommand [3] = true) ∧
    (dev []).life = .up ∧ (dev []).obj O.powerState < 3 := by decide +kernel

/-- Bytes of zeros, and erased bytes. -/
def zeros (n : Nat) : List Byte := List.replicate n 0
def ones (n : Nat) : List Byte := List.replicate n 0xFF
theorem zeros_length (n : Nat) : (zeros n).length = n := List.length_replicate
theorem ones_length (n : Nat) : (ones n).length = n := List.length_replicate

/-- A slot image of 64 bytes of payload (R734), generation 1, with its status words erased. -/
def updateImage : List Byte :=
  leBytes 4 0x48554C49 ++ leBytes 2 1 ++ leBytes 2 0 ++ leBytes 4 1 ++ zeros 4 ++ leBytes 4 64 ++ zeros 492 ++ ones 16 ++
    zeros 3568 ++ zeros 64

/-- A device whose key slot 0 holds a digest, with this image staged. -/
def updating : State := { dev [(O.updateState, 1)] with fuses := [68], update := updateImage }

/-- The conditions of a good update can all hold: they are met by this image where the cryptographic functions, which the model leaves open (log entry 40), accept it. -/
theorem witness_Update_good (hk : Config.sha384 (zeros 96) = 1 :: zeros 47) (hd : Config.sha384 (zeros 64) = zeros 48)
    (hs : Config.ecdsaP384 (zeros 96) (Config.sha384 (hdrBytes updateImage 0 0x180)) (zeros 96) = true) :
    updating.obj O.updateState = 1 ∧ updating.updateCode updating.update = 0 := by
  refine ⟨by decide +kernel, ?_⟩
  have hl : updateImage.length = 4160 := by rw [updateImage]; simp only [List.length_append, zeros_length, ones_length]; rfl
  have e1 : hdrBytes updateImage 0x6C 96 = zeros 96 := by decide +kernel
  have e2 : hdrBytes updateImage 0x180 96 = zeros 96 := by decide +kernel
  have e3 : hdrBytes (updateImage.take 4096) 0x6C 96 = zeros 96 := by decide +kernel
  have e4 : imagePayload updateImage = zeros 64 := by decide +kernel
  have e5 : hdrBytes updateImage 0x3C 48 = zeros 48 := by decide +kernel
  have e6 : hdr updateImage 0x10 4 = 64 ∧ hdr updateImage 6 2 = 0 ∧ hdr updateImage 8 4 = 1 ∧ hdr updateImage 0x1C 4 = 0 := by decide +kernel
  have e7 : hdrFormOk (updateImage.take 4096) = true ∧ hdr (updateImage.take 4096) 0xD 1 = 0 ∧ hdr (updateImage.take 4096) 0xC 1 = 0 ∧
      hdr (updateImage.take 4096) 6 2 = 0 := by decide +kernel
  have e8 : updating.fuseField 68 384 = 1 ∧ updating.fuseField 1220 1 = 0 ∧ updating.rollback = 0 ∧ updating.fuseField 1612 1 = 0 ∧
      updating.keyHash 0 = 1 :: zeros 47 ∧ updating.obj O.bootGeneration = 0 := by decide +kernel
  have e9 : hdrBytes updateImage 0x200 16 = ones 16 := by decide +kernel
  have hc : updating.hdrCode (updateImage.take 4096) = 0 := by
    simp [State.hdrCode, State.keyOk, e7, e8, e3, hk]
  have hp : updating.stagedPayload updateImage = (0, zeros 64) := by
    simp [State.stagedPayload, hc, hl, e1, e2, e4, e5, e6, hs, hd]
  show updating.updateCode updateImage = 0
  simp [State.updateCode, hp, show hdrBytes updateImage 0x200 16 = List.replicate 16 0xFF from e9, e6, e8, xipHashesOk]

/-- A device in Recovery with the same image in the staging area of the loader. -/
def staged : State :=
  let cells : List (Nat × Byte) := [(0, 0x49), (1, 0x4C), (2, 0x55), (3, 0x48), (4, 1), (8, 1), (0x10, 64)] ++ (List.range 16).map (fun i => (0x200 + i, 0xFF))
  { dev [(O.operatingMode, 1)] with fuses := [68], mem := cells.foldl (fun m c => memPut m (stagingBase + c.1) c.2) [] }

/-- The same for the loader commands: verification succeeds, the status words are erased, no XIP hash is given. -/
theorem witness_Loader_good (hk : Config.sha384 (zeros 96) = 1 :: zeros 47) (hd : Config.sha384 (zeros 64) = zeros 48)
    (hs : Config.ecdsaP384 (zeros 96) (Config.sha384 (hdrBytes staged.stagedHeader 0 0x180)) (zeros 96) = true) :
    staged.mode = 1 ∧ passes staged O.loaderCommand [2] = true ∧ staged.loaderVerify.1 = 1 ∧
      programCode staged.stagedImage (memBytes staged.loaderVerify.2.mem payloadBase (hdr staged.stagedImage 0x10 4)) = 0 := by
  have e1 : hdrBytes staged.stagedHeader 0x6C 96 = zeros 96 := by decide +kernel
  have e2 : hdrBytes staged.stagedHeader 0x180 96 = zeros 96 := by decide +kernel
  have e3 : hdrBytes staged.stagedHeader 0x3C 48 = zeros 48 := by decide +kernel
  have e4 : memBytes staged.mem (stagingBase + 0x1000) (hdr staged.stagedHeader 0x10 4) = zeros 64 := by decide +kernel
  have e5 : hdrFormOk staged.stagedHeader = true ∧ hdr staged.stagedHeader 0xD 1 = 0 ∧ hdr staged.stagedHeader 0xC 1 = 0 ∧ hdr staged.stagedHeader 6 2 = 0 := by decide +kernel
  have e6 : staged.fuseField 68 384 = 1 ∧ staged.fuseField 1220 1 = 0 ∧ staged.rollback = 0 ∧ staged.fuseField 1612 1 = 0 ∧ staged.keyHash 0 = 1 :: zeros 47 := by decide +kernel
  have e7 : hdrBytes staged.stagedImage 0x200 16 = List.replicate 16 0xFF ∧ hdr staged.stagedImage 0x1C 4 = 0 := by decide +kernel
  have hc : staged.hdrCode staged.stagedHeader = 0 := by
    simp [State.hdrCode, State.keyOk, e5, e6, e1, hk]
  refine ⟨by decide +kernel, by decide +kernel, ?_, ?_⟩
  · simp [State.loaderVerify, hc, State.verifyImage, e1, e2, e3, e4, e5, hs, hd]
  · simp [programCode, show hdrBytes staged.stagedImage 0x200 16 = List.replicate 16 0xFF from e7.1, e7.2, xipHashesOk]

/-! ### Hypotheses of the statements that are met: power, modes, boundary -/

theorem witness_ResetReleaseAndPowerLadder_reset :
    (State.reset.life = .inReset ∧ State.reset.clk.resetN = false ∧ (dev []).life ≠ .inReset ∧ ({ dev [] with life := .stopped } : State).life = .stopped) ∧
    (let s : State := { State.reset with clk := { State.reset.clk with pwrgd := true } }
     s.life = .inReset ∧ s.clk.resetN = false ∧ s.clk.pwrgd = true) ∧
    (∀ b ∈ [0, 1, 2, 3], let s : State := { State.reset with life := .filling, clk := { State.reset.clk with bootsel := b } }
     s.life = .filling ∧ s.mode = 0 ∧ s.obj O.powerState = 0 ∧ s.clk.bootsel = b) ∧ State.reset.fuseField 1644 4 = 0 := by decide +kernel

theorem witness_ResetReleaseAndPowerLadder_request :
    (let s := dev [(O.operatingMode, 2)]
     (∀ v ∈ [1, 2, 3, 4, 5], passes s O.powerRequest [BitVec.ofNat 32 v] = true) ∧ s.mode = 2 ∧ (∀ k : Fin 4, s.obj (O.runsForwarded k.val) = 0) ∧ s.joined = false ∧
       s.obj O.migrationState = 0 ∧ s.rateSeq = none ∧ s.clk.engSeq = none ∧ s.obj O.graphState ≠ 1 ∧ s.clk.powTarget = 0 ∧ s.obj O.powerState = 0) ∧
    (let s := dev [(O.operatingMode, 2), (O.powerState, 1)]
     passes s O.powerRequest [4] = true ∧ passes s O.powerRequest [1] = true ∧ s.obj O.powerState = 1) ∧
    (let s := { dev [(O.operatingMode, 2)] with clk := { (dev []).clk with powTarget := 5 } }
     s.clk.powTarget ≠ 0 ∧ s.clk.powTarget ≤ 5 ∧ s.obj O.powerState = 0 ∧ s.allSilent = true ∧ passes s O.powerRequest [1] = true ∧ s.clk.wakePend = none) ∧
    (let s := dev [(O.powerState, 3)]
     s.life = .up ∧ (s.obj O.wakeSources).testBit 1 = true ∧ s.obj O.powerState ≤ 3 ∧ ¬(s.obj O.powerState ≤ 2)) ∧
    (let s := dev [(O.powerState, 5), (O.wakeTimer, 1)]
     s.obj O.wakeTimer ≠ 0 ∧ s.obj O.powerState ≠ 0 ∧ (s.obj O.wakeSources).testBit 3 = true ∧ s.obj O.powerState ≤ 5 ∧ 2 < s.obj O.powerState) ∧
    (let s := dev [(O.powerState, 2), (O.refState, 1)]
     s.obj O.refState = 1 ∧ s.obj O.powerState ≤ 2) := by decide +kernel

theorem witness_ModesTemperature :
    (let s := dev [(O.operatingMode, 2), (O.graphState, 2), (O.fabricState, 3)]
     (∀ v ∈ [1, 2, 3, 4, 5], passes s O.modeRequest [BitVec.ofNat 32 v] = true) ∧ s.mode ≠ 0 ∧ s.mode ≠ 7 ∧ s.obj O.powerState = 0 ∧ s.mode ≠ 6) ∧
    (passes (dev []) O.modeRequest [3] = true ∧ (dev []).mode = 0) ∧
    (let s := dev [(O.operatingMode, 2), (O.graphState, 2), (O.fabricState, 3), (O.pendingStartMode, 5)]
     s.obj O.pendingStartMode ≠ 0 ∧ s.obj O.graphState = 2 ∧ s.obj O.fabricState = 3 ∧ 1 ≤ s.mode ∧ s.mode ≤ 5) ∧
    (∀ m ∈ [0, 5, 6, 7], (dev [(O.operatingMode, m)]).life = .up ∧ (dev [(O.operatingMode, m)]).mode = m ∧ (dev [(O.operatingMode, m)]).obj O.powerState ≤ 3) ∧
    (({ dev [] with life := .filling } : State).life = .filling ∧ (1919 : BitVec 16).toInt < 1920 ∧ 1920 ≤ (1920 : BitVec 16).toInt ∧ 1760 ≤ (1760 : BitVec 16).toInt ∧ (0 : Nat).testBit 2 = false) ∧
    (let s := { dev [] with clk := { (dev []).clk with highTicks := 4096, lowTicks := 4096 } }
     4096 ≤ s.clk.highTicks ∧ s.obj O.hullShedStage < 3 ∧ 4096 ≤ s.clk.lowTicks ∧ 0 < (s.setObj O.hullShedStage 3).obj O.hullShedStage ∧
       ({ s with til := { s.til with reopt := true } } : State).til.reopt = true ∧ (s.setObj O.hullShedStage 2).obj O.hullShedStage < 3) ∧
    (let s := { (dev []).setObj O.hullReady 0 with clk := { (dev []).clk with monitor := false } }
     s.life = .up ∧ s.obj O.powerState ≤ 2 ∧ s.obj O.hullReady ≠ 1 ∧ s.clk.monitor = false ∧ s.mode ≤ 1 ∧ (s.setObj O.bootSlot 1).obj O.bootSlot ≤ 1) := by decide +kernel

theorem witness_Boundary :
    (let s := dev [(O.mediaState, 2)]
     let s1 := State.serveFw 32 s
     s.boundariesRun = true ∧ s1.boundariesRun = true ∧ s1.obj O.powerState = 0 ∧ s1.net.stepFrom = none) ∧
    (let s := { dev [(O.mediaState, 2)] with pendMode := some (5, 7) }
     (State.serveFw 0 s).pendMode = some (5, 7)) ∧
    (let s := dev [(O.mediaState, 2), (O.powerState, 2)]
     let s1 := State.serveFw 0 s
     s.boundariesRun = true ∧ s1.boundariesRun = true ∧ s1.obj O.powerState ≠ 0 ∧ s1.obj O.powerState ≠ 1 ∧ s1.clk.wakePend = none ∧ s1.pendObjs = []) ∧
    (dev []).boundariesRun = false := by decide +kernel

/-! ### Hypotheses of the statements that are met: transfers, requests, the host port -/

/-- A device whose host session has an open write transfer, of no bytes, on an object. -/
def transfer (a : Nat) (l : List (Nat × Nat)) : State :=
  { dev l with sessions := [{ Session.fresh .host with xfer := some { obj := a, total := 0, words := [], nextSeq := 4095 } }] }

/-- A device whose host session holds a read snapshot of 6 bytes. -/
def snapshot (a : Nat) : State := { dev [] with sessions := [{ Session.fresh .host with snap := some (a, [1, 2, 3, 4, 5, 6]) }] }

theorem witness_DomainTransfers :
    (Memory.wf (dev []).mem ∧ (dev []).serving = true ∧ ((dev []).info O.keepUser).isSome = true ∧ (dev []).totalOk O.keepUser 65456 = true ∧ (dev []).totalOk O.keepUser 65457 = false ∧
      65456 ≤ (dev []).obj O.domainStagingFree ∧ (dev []).domainMode O.keepUser = true) ∧
    (∀ a ∈ [O.updateImage, O.keepUser, O.graphImage], let s := transfer a []
      let x : Xfer := { obj := a, total := 0, words := [], nextSeq := 4095 }
      (s.session .host).xfer = some x ∧ x.obj = a ∧ x.words.length = (x.total + 3) / 4 ∧ crc32c ((wordsBytes x.words).take x.total) = 0 ∧ s.param a = none) ∧
    (transfer O.keepUser []).endCode .host O.keepUser { obj := O.keepUser, total := 0, words := [], nextSeq := 4095 } 0 = 0 ∧
    ((snapshot O.keepUser).session .host).snap = some (O.keepUser, [1, 2, 3, 4, 5, 6]) ∧ (([1, 2, 3, 4, 5, 6] : List Nat).length + 3) / 4 < 1 + 1 + 1 := by decide +kernel

theorem witness_DomainTransfers_update :
    (∃ l ∈ [(dev [(O.operatingMode, 2), (O.bootSlot, 0), (O.bootConfirmed, 1)])], { l with sessions := (transfer O.updateImage []).sessions, clk := { l.clk with monitor := false } }.endCode
      .host O.updateImage { obj := O.updateImage, total := 0, words := [], nextSeq := 0 } 0 = 0) ∧
    (∃ l ∈ [(dev [(O.operatingMode, 3)])], { l with sessions := (transfer O.graphImage []).sessions, clk := { l.clk with monitor := false } }.endCode
      .host O.graphImage { obj := O.graphImage, total := 0, words := [], nextSeq := 0 } 0 = 0 ∧ l.obj O.graphState ≠ 1 ∧ l.obj O.graphState ≠ 5) := by decide +kernel

theorem witness_DomainTransfers_periph : let words : List (BitVec 32) := [0x000C0000, 0, 7]
    let x : Xfer := { obj := O.periphRequest, total := 12, words := words, nextSeq := 1 }
    let s := { dev [] with sessions := [{ Session.fresh .host with xfer := some x }] }
    perParse words ≠ none ∧ x.words.length = (x.total + 3) / 4 ∧ s.endCode .host O.periphRequest x (crc32c ((wordsBytes words).take 12)) = 0 := by decide +kernel

theorem witness_DictionaryRequestsOfEverySession :
    (let s := dev []
     firmwareServed O.tickRate true = true ∧ s.firmwareCan O.tickRate true = true ∧ s.monitorRefuses O.tickRate true = false ∧ firmwareServed 0x700001 false = true) ∧
    (let s := dev []
     s.checkRead .host O.tickRate ((!perSession O.tickRate || s.canEnter .host) && (!firmwareServed O.tickRate false || s.firmwareCan O.tickRate false)) = 0 ∧
       (∃ r, objRow O.tickCount = some r ∧ r.acc = .ro ∧ r.ty ≠ .domain) ∧ perSession O.tickCount = false ∧ s.param O.tickCount = none ∧
       s.checkRead .host O.tickCount ((!perSession O.tickCount || s.canEnter .host) && (!firmwareServed O.tickCount false || s.firmwareCan O.tickCount false)) = 0 ∧
       s.readBad O.tickRate = none ∧ (s.info O.tickRate).isSome = true ∧ s.param O.tickRate = none ∧ s.checkRead .host 0x0001FF true ≠ 0) ∧
    (let a := O.fabricAllow 63
     0x610000 ≤ a ∧ a < 0x630000 ∧ a ≠ O.proxyTarget ∧ (dev []).checkWrite .host a [5] {} = 0 ∧ (dev []).checkWrite .host a [0, 0] {} ≠ 0) ∧
    (passes (dev []) (O.fetchMode 7) [1] = true ∧ passes (dev []) (O.groupFaultPolicy 4095) [1] = true ∧ passes (movable none) (O.fetchMode 0) [1] = true ∧
      (movable none).til.graph.any (fun m => m.blocks.any (fun b => b.size != 0 && b.eng = 0)) = true) ∧
    (let r : FwReq := { key := .host, link := 0, write := true, addr := O.tickRate, words := [48000], accepted := 0, tag := none }
     ({ dev [] with fwQueue := [r] } : State).fwQueue = r :: []) := by decide +kernel

/-- A device with a proxied read of the host outstanding. -/
def proxied : State :=
  { dev [] with
    net := { (dev []).net with proxied := [{ tag := 65535, target := 5, op := 1, addr := 0x80000003 }] }
    hsp := { Hsp.reset with read := some { addr := 0x80000003, n := 2, dbr := false, todo := false, res := none } } }

/-- A device whose firmware queue holds 16 requests of device 5. -/
def crowded : State :=
  { dev [] with fwQueue := List.replicate 16 { key := .fabric 5 1, link := 0, write := false, addr := 0x700001, words := [], accepted := 0, tag := some 0 } }

/-- A device whose session table is full of sessions that cannot be released. -/
def crammed : State :=
  { dev [] with sessions := (List.range 64).map (fun i => { Session.fresh (.fabric 4095 (i + 1)) with xfer := some { obj := 0, total := 0, words := [], nextSeq := 0 } }) }

theorem witness_DictionaryRequests_full :
    (crowded.serving = true ∧ (SessKey.fabric 5 7).isFabric = true ∧ 16 ≤ (crowded.fwQueue.filter (fun r => r.key.isFabric && r.key.device 0 = (SessKey.fabric 5 7).device 0)).length) ∧
    (crammed.serving = true ∧ crammed.canEnter (.fabric 4095 0) = false ∧ crammed.fwQueue.length < 32 ∧ crammed.checkRead (.fabric 4095 0) 0x0001FF true ≠ 0 ∧
      crammed.checkRead (.fabric 4095 0) O.tickRate true = 0) := by decide +kernel

theorem witness_DictionaryRequests_fabric :
    (let key := SessKey.fabric 4095 255
     let s := dev []
     let w0 : BitVec 32 := 0x10230001
     (s.session key).xfer = none ∧ (s.session key).snap = none ∧ s.openSet key = none ∧ s.serving = true ∧ w0.toNat / 2 ^ 28 = 1 ∧ w0.toNat / 2 ^ 24 % 16 = 0 ∧
       (s.fwQueue.filter (fun r => r.key.isFabric && r.key.device 0 = 4095)).length < 16) ∧
    (proxied.net.proxied.find? (fun q => q.tag = (65535 : BitVec 16).toNat) = some { tag := 65535, target := 5, op := 1, addr := 0x80000003 } ∧
      proxied.net.proxied.all (fun q => q.tag != 0) = true ∧ 0x80000003 % 2 ^ 24 = (3 : BitVec 24).toNat) := by decide +kernel

/-- Write buffers of the host port that wait. -/
def buffered (b : WBuf) (l : List (Nat × Nat)) : State := { dev l with hsp := { Hsp.reset with buffers := [b] } }

theorem witness_HostPortFramesAndCommands :
    ((dev []).life = .up ∧ (dev []).obj O.powerState ≤ 3 ∧ (dev []).openFrame.obj O.hostProfile = 0 ∧ (dev []).openFrame.obj O.hostDummy = 0) ∧
    ((56 + 32 : BitVec 16).toNat = 24 + 32 + 0 + 1 * 32 ∧ (56 + 257 * 32 : BitVec 16).toNat = 24 + 32 + 0 + 257 * 32 ∧ (0x80FFFFFF : BitVec 32).toNat / 2 ^ 24 % 128 = 0) ∧
    (badCommand 0xFFFFFF 0 = true ∧ badCommand 0x050004 127 = false ∧ badCommand 0x050005 0 = true) ∧
    (let s := (dev []).openFrame.presentAll
     s.serving = true ∧ (s.session .host).proxy = 0xFFFF ∧ s.hasRoute (s.session .host).proxy = false ∧ (s.session .host).unit = none ∧ s.mode ≠ 7 ∧ s.mapRoom 0 ≠ 0 ∧ s.mapRoom 0x2000000000 = 0) ∧
    (let s := { dev [] with sessions := [{ Session.fresh .host with proxy := 5, unit := some (O.keepUser, [7]) }], net := { (dev []).net with routes := [(5, 0)] } }
     (s.session .host).proxy ≠ 0xFFFF ∧ s.hasRoute (s.session .host).proxy = true ∧ (s.session .host).unit = some (O.keepUser, [7])) ∧
    (let s := dev [(O.operatingMode, 7)]
     s.mode = 7 ∧ s.mapRoom 0x10000000 ≠ 0 ∧ (s.busRead 5 0x10000000 4).1 = .ok) ∧
    (dev [(O.powerState, 3)]).serving = false ∧ (dev [(O.powerState, 3)]).obj O.powerState ≤ 3 := by decide +kernel

theorem witness_HostPort_buffers :
    (∀ b ∈ [WBuf.dwr 0xFFFFFF [1], .dbw 5 [0x10000000, 4], .portReset, .commit, .mwr 0x10000000 [1], .load 0 [1]], (buffered b []).hsp.buffers = [b] ∧ (buffered b []).serving = true) ∧
    (let s := buffered (.mwr 0 [1]) [(O.operatingMode, 7), (O.hostWindowHigh, 0x20)]
     s.mode = 7 ∧ s.mapRoom (s.obj O.hostWindowHigh * 2 ^ 32 + 0) < 4 * 1) ∧
    (let s := buffered (.load 0x200FFC [1]) [(O.operatingMode, 1)]
     1613 ∉ s.fuses ∧ s.mode = 1 ∧ 0x200FFC + 4 * 1 ≤ 0x201000 ∧ ¬(0x200FFD + 4 * 1 ≤ 0x201000) ∧ s.obj O.loaderState ≠ 1 ∧ s.obj O.loaderState ≠ 2) ∧
    (proxied.hsp.read = some { addr := 0x80000003, n := 2, dbr := false, todo := false, res := none }) := by decide +kernel

theorem witness_ResetLeavesTheDefaultsOfTheObjects : State.reset.obj O.tickRate = 48000 := by decide +kernel

theorem witness_ProgramOperationsRunAsCommands : slotCode (.stv 7 true 31 15 7 7) ≠ none ∧ slotCode (.bkpt 7) ≠ none := by decide +kernel

/-! ### Worked examples of the specification -/

/-- The table of the example that follows R123: scaling, ties to even, saturation. -/
theorem test_rounding : moveWord 0x002000000080000000 0 = 0x20000000 ∧ moveWord 0x002000000180000000 0 = 0x20000002 ∧ moveWord 0x006000000000000000 1 = 0x7FFFFFFF ∧
    moveWord 0x018000000000000000 (-2) = 0x60000000 ∧ moveWord 0x7FFFFFFFFFFFFFFFFF (-8) = 0x7FFFFFFF ∧ moveWord 0x7FFFFFFFFFFFFFFFFF (-9) = 0x40000000 := by decide +kernel

/-- R125. -/
theorem test_norm : norm32 0 = 31 ∧ norm32 0xFFFFFFFF = 31 ∧ norm32 0x40000000 = 0 ∧ norm32 0x80000000 = 0 ∧ norm32 0xBFFFFFFF = 0 ∧ norm32 0xC0000000 = 1 ∧
    norm32 0xE0000000 = 2 := by decide +kernel

/-- The block of the Facet-B18 example, the other 13 samples zero. -/
theorem test_facet : let xs : List Word := [0x0B851EB8, 0xFFFFF000, 0x00000400] ++ List.replicate 13 0
    let g := encodeGroup 3 xs
    g % 2 ^ 24 = 0x70A433 ∧ decodeSample 3 g 0 = 0x0B852000 ∧ decodeSample 3 g 1 = 0xFFFFF000 ∧ decodeSample 3 g 2 = 0 := by decide +kernel

/-- The 100 ms fade of the glide example. -/
theorem test_glide : glideValue 0x10000000 0x08000000 0 4800 = 0x0FFF92C6 ∧ glideValue 0x10000000 0x08000000 1 4800 = 0x0FFF258C ∧
    glideValue 0x10000000 0x08000000 2399 4800 = 0x0C000000 ∧ glideValue 0x10000000 0x08000000 4799 4800 = 0x08000000 := by decide +kernel

/-- A write frame of the host port ends after 87 of its 88 edges: SHORT and MIDWORD; then a status frame of 48 edges in profile 4-4-4 with two dummy edges. -/
theorem test_hostFrames : answers (exec (.hostDwr 0x00807D01 [0x08000000] 87) (dev [])) (fun t => t.hsp.flags = 24 && t.hsp.buffers.isEmpty) = true ∧
    answers (exec (.hostDwr 0x00807D01 [0x08000000] 88) (dev [])) (fun t => t.hsp.flags = 0 && t.hsp.buffers = [.dwr 0x00807D01 [0x08000000]]) = true ∧
    answers (exec (.stat 0x7F 4 48) (dev [(O.hostProfile, 3), (O.hostDummy, 2)])) (fun t => t.hsp.out.length = 4) = true := by decide +kernel

/-- The journal record of the example in the journal chapter. -/
theorem test_record : ({ obj := 0x807D01, result := 0, kind := 0, origin := 0, digest := false, session := 0, port := 1, device := 5, old := 0x10000000, new := 0x08000000
                         tick := 1234567 } : Record).bytes 3 =
    [0x87, 0xD6, 0x12, 0, 0, 0, 3, 0, 1, 0x7D, 0x80, 0, 0, 0, 5, 0x10, 0, 0, 0, 0x10, 0, 0, 0, 0, 0, 0, 0, 8, 0, 0, 0, 0] := by decide +kernel

/-- The mixed path: group delay of a converter at 44.1 kHz, framing of a bypassed master. -/
theorem test_mixedPath : (dev []).groupDelay 44100000 = 0x23D476 ∧ (framing 1024 16).2 = 1008 := by decide +kernel

/-- The two descriptors of the impulse response: well formed, and the bursts at their ends. -/
theorem test_bursts :
    (let d : DmaDesc := { ctrl := 0x80600000, src := 0x31000000, dst := 0x1040000000, length := 768000, next := 0x810001 }
     d.ok = true ∧ d.next * 32 = 0x10200020 ∧ d.last = false ∧ (moving d 0).burstSize 31 = 4096 ∧ (moving d 765952).burstSize 31 = 2048) ∧
    (let d : DmaDesc := { ctrl := 0xE0600000, src := 0x310BB800, dst := 0x10400BB800, length := 768000, next := 0 }
     d.ok = true ∧ d.last = true ∧ (moving d 0).burstSize 31 = 2048 ∧ (moving d 2048).burstSize 31 = 4096) := by decide +kernel

end Sys2Proof.Tests
end

section
/-! The invariant along a step. Every command keeps what its state has (one arm per command, each the command's own law), and so does
one ENG cycle; a step only takes the front command from the queue first. -/
namespace Sys2Proof.Machine
open Sys2Proof

/-- Every command keeps the invariant, the burned fuses and the queue: each arm of the dispatch is its command's own law. -/
theorem exec_keeps {u : State} (c : Instr) (s : State) (kept : Keeps u s) : KeepsOut u (exec c s) :=
  match c with
  | .reset power => execReset_keeps power s kept
  | .resetRelease bootsel => execResetRelease_keeps bootsel s kept
  | .powerOnFillComplete lpddr flash flashMib => execPowerOnFillComplete_keeps lpddr flash flashMib s kept
  | .hullWatchdogExpiry => execHullWatchdogExpiry_keeps s kept
  | .hullQueueOpen => execHullQueueOpen_keeps s kept
  | .shedStageAdvance => execShedStageAdvance_keeps s kept
  | .shedStageRetreat => execShedStageRetreat_keeps s kept
  | .muteNAssert => execMuteNAssert_keeps s kept
  | .muteNRelease => execMuteNRelease_keeps s kept
  | .pendingStartModeEntry => execPendingStartModeEntry_keeps s kept
  | .thermalSample t => execThermalSample_keeps t s kept
  | .railFault rail mv => execRailFault_keeps rail mv s kept
  | .boundary hull served => execBoundary_keeps hull served s kept
  | .tickSourceLost fallbackValid => execTickSourceLost_keeps fallbackValid s kept
  | .tickSourceLocked phase => execTickSourceLocked_keeps phase s kept
  | .tickRateWrite src words => execTickRateWrite_keeps src words s kept
  | .tickRateStop => execTickRateStop_keeps s kept
  | .tickRateRestart => execTickRateRestart_keeps s kept
  | .tickSourceWrite src words => execTickSourceWrite_keeps src words s kept
  | .modeRequest src words => execModeRequest_keeps src words s kept
  | .ifetchTrap e w => execIfetchTrap_keeps e w s kept
  | .mnop e => execMnop_keeps e s kept
  | .mpy e d a b m f => execMpy_keeps e d a b m f s kept
  | .mpyn e d a b m f => execMpyn_keeps e d a b m f s kept
  | .mac e d a b m f => execMac_keeps e d a b m f s kept
  | .msu e d a b m f => execMsu_keeps e d a b m f s kept
  | .mpys e d a b m f => execMpys_keeps e d a b m f s kept
  | .macs e d a b m f => execMacs_keeps e d a b m f s kept
  | .msus e d a b m f => execMsus_keeps e d a b m f s kept
  | .mld e d a m => execMld_keeps e d a m s kept
  | .mclr e d m => execMclr_keeps e d m s kept
  | .maddv e d a m => execMaddv_keeps e d a m s kept
  | .anop e => execAnop_keeps e s kept
  | .add e d a b m => execAdd_keeps e d a b m s kept
  | .sub e d a b m => execSub_keeps e d a b m s kept
  | .addw e d a b m => execAddw_keeps e d a b m s kept
  | .subw e d a b m => execSubw_keeps e d a b m s kept
  | .adds e d a b m => execAdds_keeps e d a b m s kept
  | .subs e d a b m => execSubs_keeps e d a b m s kept
  | .vabs e d a m => execVabs_keeps e d a m s kept
  | .neg e d a m => execNeg_keeps e d a m s kept
  | .vmin e d a b m => execVmin_keeps e d a b m s kept
  | .vmax e d a b m => execVmax_keeps e d a b m s kept
  | .mins e d a b m => execMins_keeps e d a b m s kept
  | .maxs e d a b m => execMaxs_keeps e d a b m s kept
  | .vand e d a b m => execVand_keeps e d a b m s kept
  | .vor e d a b m => execVor_keeps e d a b m s kept
  | .vxor e d a b m => execVxor_keeps e d a b m s kept
  | .vnot e d a m => execVnot_keeps e d a m s kept
  | .mov e d a m => execMov_keeps e d a m s kept
  | .movs e d b m => execMovs_keeps e d b m s kept
  | .asri e d a k m => execAsri_keeps e d a k m s kept
  | .asrv e d a b m => execAsrv_keeps e d a b m s kept
  | .lsri e d a k m => execLsri_keeps e d a k m s kept
  | .shli e d a k m => execShli_keeps e d a k m s kept
  | .shlwi e d a k m => execShlwi_keeps e d a k m s kept
  | .cmpeq e d a b m => execCmpeq_keeps e d a b m s kept
  | .cmplt e d a b m => execCmplt_keeps e d a b m s kept
  | .cmple e d a b m => execCmple_keeps e d a b m s kept
  | .cmplts e d a b m => execCmplts_keeps e d a b m s kept
  | .cmpgts e d a b m => execCmpgts_keeps e d a b m s kept
  | .mand e d a b m => execMand_keeps e d a b m s kept
  | .mor e d a b m => execMor_keeps e d a b m s kept
  | .mxor e d a b m => execMxor_keeps e d a b m s kept
  | .mnot e d a m => execMnot_keeps e d a m s kept
  | .mset e d a b m => execMset_keeps e d a b m s kept
  | .mguard e d m => execMguard_keeps e d m s kept
  | .norm e d a m => execNorm_keeps e d a m s kept
  | .vexp e d a m => execVexp_keeps e d a m s kept
  | .bexp e d a g m => execBexp_keeps e d a g m s kept
  | .bexpa e d a g m => execBexpa_keeps e d a g m s kept
  | .bexps e d a m => execBexps_keeps e d a m s kept
  | .bexpas e d a m => execBexpas_keeps e d a m s kept
  | .mova e d a m => execMova_keeps e d a m s kept
  | .lroti e d a k m => execLroti_keeps e d a k m s kept
  | .lrotih e d a k m => execLrotih_keeps e d a k m s kept
  | .lrots e d a b m => execLrots_keeps e d a b m s kept
  | .bcasti e d a k m => execBcasti_keeps e d a k m s kept
  | .bcastih e d a k m => execBcastih_keeps e d a k m s kept
  | .bcasts e d a b m => execBcasts_keeps e d a b m s kept
  | .rsum e d a m => execRsum_keeps e d a m s kept
  | .rmax e d a m => execRmax_keeps e d a m s kept
  | .rmin e d a m => execRmin_keeps e d a m s kept
  | .sel e t d a b m => execSel_keeps e t d a b m s kept
  | .xnop e => execXnop_keeps e s kept
  | .ynop e => execYnop_keeps e s kept
  | .ldv e y v p mode m => execLdv_keeps e y v p mode m s kept
  | .stv e y v p mode m => execStv_keeps e y v p mode m s kept
  | .ldb e y v p mode m => execLdb_keeps e y v p mode m s kept
  | .lds e y v p mode => execLds_keeps e y v p mode s kept
  | .sts e y v p mode m => execSts_keeps e y v p mode m s kept
  | .ldc e v p mode m => execLdc_keeps e v p mode m s kept
  | .ldcb e v p mode m => execLdcb_keeps e v p mode m s kept
  | .onop e => execOnop_keeps e s kept
  | .tap e d q t m => execTap_keeps e d q t m s kept
  | .tap4 e d q t m => execTap4_keeps e d q t m s kept
  | .tap4a e d q t m => execTap4a_keeps e d q t m s kept
  | .tap8 e d q t m => execTap8_keeps e d q t m s kept
  | .tap8a e d q t m => execTap8a_keeps e d q t m s kept
  | .taps e d q t m => execTaps_keeps e d q t m s kept
  | .taps4 e d q t m => execTaps4_keeps e d q t m s kept
  | .taps4a e d q t m => execTaps4a_keeps e d q t m s kept
  | .taps8 e d q t m => execTaps8_keeps e d q t m s kept
  | .taps8a e d q t m => execTaps8a_keeps e d q t m s kept
  | .trd e d q t m => execTrd_keeps e d q t m s kept
  | .trd4 e d q t m => execTrd4_keeps e d q t m s kept
  | .trd4a e d q t m => execTrd4a_keeps e d q t m s kept
  | .dwr e q v m => execDwr_keeps e q v m s kept
  | .chanIn e v q j m => execChanIn_keeps e v q j m s kept
  | .chanOut e v q j m => execChanOut_keeps e v q j m s kept
  | .exr e v q j m => execExr_keeps e v q j m s kept
  | .exw e v q j m => execExw_keeps e v q j m s kept
  | .old e v q j m => execOld_keeps e v q j m s kept
  | .ost e v q j m => execOst_keeps e v q j m s kept
  | .orbitAccessServed e => execOrbitAccessServed_keeps e s kept
  | .cnop e => execCnop_keeps e s kept
  | .rep e count len rot => execRep_keeps e count len rot s kept
  | .rot e r => execRot_keeps e r s kept
  | .sacs e k imm => execSacs_keeps e k imm s kept
  | .sacsr e k a => execSacsr_keeps e k a s kept
  | .sli e d imm => execSli_keeps e d imm s kept
  | .slu e d imm => execSlu_keeps e d imm s kept
  | .sadd e d a b => execSadd_keeps e d a b s kept
  | .ssub e d a b => execSsub_keeps e d a b s kept
  | .sand e d a b => execSand_keeps e d a b s kept
  | .sor e d a b => execSor_keeps e d a b s kept
  | .sxor e d a b => execSxor_keeps e d a b s kept
  | .saddi e d a imm => execSaddi_keeps e d a imm s kept
  | .sshli e d a k => execSshli_keeps e d a k s kept
  | .slsri e d a k => execSlsri_keeps e d a k s kept
  | .pwr e f x a => execPwr_keeps e f x a s kept
  | .prd e d f x => execPrd_keeps e d f x s kept
  | .paddi e d imm => execPaddi_keeps e d imm s kept
  | .sget e d a j => execSget_keeps e d a j s kept
  | .entry e => execEntry_keeps e s kept
  | .bkpt e => execBkpt_keeps e s kept
  | .fetchMode src e words => execFetchMode_keeps src e words s kept
  | .groupFaultPolicy src g words => execGroupFaultPolicy_keeps src g words s kept
  | .orbShare loader w => execOrbShare_keeps loader w s kept
  | .rangeRegisterWrite loader e k w => execRangeRegisterWrite_keeps loader e k w s kept
  | .descriptorFileWrite tiler e q w0 w1 w2 w3 => execDescriptorFileWrite_keeps tiler e q w0 w1 w2 w3 s kept
  | .farFetchComplete e q g => execFarFetchComplete_keeps e q g s kept
  | .farGroupCopy e q g => execFarGroupCopy_keeps e q g s kept
  | .spanChangeApply e q => execSpanChangeApply_keeps e q s kept
  | .delayLengthWrite src a words => execDelayLengthWrite_keeps src a words s kept
  | .bankedWrite src a words => execBankedWrite_keeps src a words s kept
  | .levellingEnd e => execLevellingEnd_keeps e s kept
  | .pageCoderDone r => execPageCoderDone_keeps r s kept
  | .commitObjectWrite src words => execCommitObjectWrite_keeps src words s kept
  | .commitArrival gen => execCommitArrival_keeps gen s kept
  | .updateSetAbort src words => execUpdateSetAbort_keeps src words s kept
  | .xyParameterWrite src a words => execXyParameterWrite_keeps src a words s kept
  | .graphAdmission => execGraphAdmission_keeps s kept
  | .graphStart => execGraphStart_keeps s kept
  | .graphUnload src words => execGraphUnload_keeps src words s kept
  | .migrateRequest src words => execMigrateRequest_keeps src words s kept
  | .migrationLoadDone => execMigrationLoadDone_keeps s kept
  | .migrationSwitch => execMigrationSwitch_keeps s kept
  | .snapshotCopy => execSnapshotCopy_keeps s kept
  | .snapshotArrival data => execSnapshotArrival_keeps data s kept
  | .crossfadeEnd => execCrossfadeEnd_keeps s kept
  | .drainDevice src words => execDrainDevice_keeps src words s kept
  | .dictionaryRead src a time => execDictionaryRead_keeps src a time s kept
  | .dictionaryWrite src a words held => execDictionaryWrite_keeps src a words held s kept
  | .registerWrite loader a v => execRegisterWrite_keeps loader a v s kept
  | .firmwareDeadlineExpiry => execFirmwareDeadlineExpiry_keeps s kept
  | .domainStart src a total => execDomainStart_keeps src a total s kept
  | .domainData src a seq n words => execDomainData_keeps src a seq n words s kept
  | .domainEnd src a crc => execDomainEnd_keeps src a crc s kept
  | .domainAbort src a => execDomainAbort_keeps src a s kept
  | .readStart src a => execReadStart_keeps src a s kept
  | .readData src a n offset => execReadData_keeps src a n offset s kept
  | .readEnd src a => execReadEnd_keeps src a s kept
  | .domainTimeout src => execDomainTimeout_keeps src s kept
  | .sessionRelease dev num => execSessionRelease_keeps dev num s kept
  | .proxyTimeout tag => execProxyTimeout_keeps tag s kept
  | .dictReq dev session k w0 w1 words held => execDictReq_keeps dev session k w0 w1 words held s kept
  | .dictRsp result a tag words => execDictRsp_keeps result a tag words s kept
  | .gapClose => execGapClose_keeps s kept
  | .locusDrain => execLocusDrain_keeps s kept
  | .locusAckSeq src words => execLocusAckSeq_keeps src words s kept
  | .locusDrainEnable src words => execLocusDrainEnable_keeps src words s kept
  | .lpddrRingBase src words => execLpddrRingBase_keeps src words s kept
  | .lpddrRingLog2 src words => execLpddrRingLog2_keeps src words s kept
  | .locusSummary => execLocusSummary_keeps s kept
  | .portEnable src p => execPortEnable_keeps src p s kept
  | .portShutdown src p => execPortShutdown_keeps src p s kept
  | .portShutdownComplete p => execPortShutdownComplete_keeps p s kept
  | .sapFormatWrite src p which words => execSapFormatWrite_keeps src p which words s kept
  | .sapFrame p bclk q rate lanes => execSapFrame_keeps p bclk q rate lanes s kept
  | .sapClockLoss p => execSapClockLoss_keeps p s kept
  | .converterLocked p inbound => execConverterLocked_keeps p inbound s kept
  | .converterUnlock p inbound => execConverterUnlock_keeps p inbound s kept
  | .mclkConfigWrite src p which words => execMclkConfigWrite_keeps src p which words s kept
  | .linkEnable src k => execLinkEnable_keeps src k s kept
  | .linkDisable src k => execLinkDisable_keeps src k s kept
  | .linkShutdownComplete k => execLinkShutdownComplete_keeps k s kept
  | .linkSignalDetect k => execLinkSignalDetect_keeps k s kept
  | .laneBlockLock k lane swapped inverted => execLaneBlockLock_keeps k lane swapped inverted s kept
  | .laneLockLoss k lane => execLaneLockLoss_keeps k lane s kept
  | .trainingComplete k two => execTrainingComplete_keeps k two s kept
  | .trainingTimeout k => execTrainingTimeout_keeps k s kept
  | .tickFrameTransmit k => execTickFrameTransmit_keeps k s kept
  | .tickFrameReceived k marks mark h0 h1 h2 h3 got bad late arrival => execTickFrameReceived_keeps k marks mark h0 h1 h2 h3 got bad late arrival s kept
  | .errorWindowEnd k => execErrorWindowEnd_keeps k s kept
  | .cellReceived k bulk blocks => execCellReceived_keeps k bulk blocks s kept
  | .cellRetransmit k bulk => execCellRetransmit_keeps k bulk s kept
  | .hello k h => execHello_keeps k h s kept
  | .helloPeriod => execHelloPeriod_keeps s kept
  | .electionSettle => execElectionSettle_keeps s kept
  | .claim k src prio uid epoch seq => execClaim_keeps k src prio uid epoch seq s kept
  | .linkDown k src addrA portA addrB portB f seq => execLinkDown_keeps k src addrA portA addrB portB f seq s kept
  | .topology uid prio addr p0 p1 p2 p3 => execTopology_keeps uid prio addr p0 p1 p2 p3 s kept
  | .address sender uid addr x y coord => execAddress_keeps sender uid addr x y coord s kept
  | .routes first entries => execRoutes_keeps first entries s kept
  | .reserve gen runs plans => execReserve_keeps gen runs plans s kept
  | .activate gen tick => execActivate_keeps gen tick s kept
  | .tilerOrder block pin limits => execTilerOrder_keeps block pin limits s kept
  | .tilerReport block result diagCode diagTable entry detail need have_ device engine => execTilerReport_keeps block result diagCode diagTable entry detail need have_ device engine s kept
  | .repairInstall addrA portA addrB portB => execRepairInstall_keeps addrA portA addrB portB s kept
  | .deviceLost addr => execDeviceLost_keeps addr s kept
  | .holdoverElection => execHoldoverElection_keeps s kept
  | .timeAligned => execTimeAligned_keeps s kept
  | .timeAcquiring => execTimeAcquiring_keeps s kept
  | .stat addr n edges => execStat_keeps addr n edges s kept
  | .evt addr n edges => execEvt_keeps addr n edges s kept
  | .drd addr n edges held => execDrd_keeps addr n edges held s kept
  | .hostDwr addr words edges => execHostDwr_keeps addr words edges s kept
  | .commit addr n edges => execCommit_keeps addr n edges s kept
  | .dbr addr n edges => execDbr_keeps addr n edges s kept
  | .dbw addr words edges => execDbw_keeps addr words edges s kept
  | .mrd addr n edges => execMrd_keeps addr n edges s kept
  | .mwr addr words edges => execMwr_keeps addr words edges s kept
  | .load addr words edges => execLoad_keeps addr words edges s kept
  | .portreset edges => execPortreset_keeps edges s kept
  | .badCommand cmd addr => execBadCommand_keeps cmd addr s kept
  | .writeBufferPresent held => execWriteBufferPresent_keeps held s kept
  | .hostResponseReady => execHostResponseReady_keeps s kept
  | .hspStatusClear flags => execHspStatusClear_keeps flags s kept
  | .periphRequest src crc => execPeriphRequest_keeps src crc s kept
  | .periphDone rx => execPeriphDone_keeps rx s kept
  | .xipFill o => execXipFill_keeps o s kept
  | .xipLock => execXipLock_keeps s kept
  | .xipInvalidate => execXipInvalidate_keeps s kept
  | .flashRawCommand a op => execFlashRawCommand_keeps a op s kept
  | .flashProgramComplete => execFlashProgramComplete_keeps s kept
  | .channelHead src c words => execChannelHead_keeps src c words s kept
  | .doorbell src c words => execDoorbell_keeps src c words s kept
  | .channelResume src c words => execChannelResume_keeps src c words s kept
  | .channelStop src c words => execChannelStop_keeps src c words s kept
  | .descriptorRead c => execDescriptorRead_keeps c s kept
  | .dmaBurst => execDmaBurst_keeps s kept
  | .descriptorWriteBack c => execDescriptorWriteBack_keeps c s kept
  | .bulkCredit dev session n => execBulkCredit_keeps dev session n s kept
  | .bulkData dev session data => execBulkData_keeps dev session data s kept
  | .bulkAbort dev session => execBulkAbort_keeps dev session s kept
  | .dmaRemoteTimeout c => execDmaRemoteTimeout_keeps c s kept
  | .pageRecovery => execPageRecovery_keeps s kept
  | .pageReload addr => execPageReload_keeps addr s kept
  | .scrubLine a => execScrubLine_keeps a s kept
  | .stormWindowEnd => execStormWindowEnd_keeps s kept
  | .rangeStart src words => execRangeStart_keeps src words s kept
  | .rangePassComplete => execRangePassComplete_keeps s kept
  | .backgroundTestPage page fail => execBackgroundTestPage_keeps page fail s kept
  | .fullTest src words => execFullTest_keeps src words s kept
  | .powerBankWrite src b words => execPowerBankWrite_keeps src b words s kept
  | .keyRevoke src words => execKeyRevoke_keeps src words s kept
  | .rollbackAdvance src words fail => execRollbackAdvance_keeps src words fail s kept
  | .updateImage src crc => execUpdateImage_keeps src crc s kept
  | .updateComplete readback => execUpdateComplete_keeps readback s kept
  | .updateActivate src words => execUpdateActivate_keeps src words s kept
  | .imageConfirm src words => execImageConfirm_keeps src words s kept
  | .confirmDelayExpiry healthy => execConfirmDelayExpiry_keeps healthy s kept
  | .verifyAndRun src => execVerifyAndRun_keeps src s kept
  | .verifyAndProgram src readback => execVerifyAndProgram_keeps src readback s kept
  | .stagingClear src => execStagingClear_keeps src s kept
  | .keepSnapshotNow src words => execKeepSnapshotNow_keeps src words s kept
  | .keepSnapshotPeriod => execKeepSnapshotPeriod_keeps s kept
  | .startMode src words => execStartMode_keeps src words s kept
  | .keepUser src crc => execKeepUser_keeps src crc s kept
  | .patchbayStart sap0 => execPatchbayStart_keeps sap0 s kept
  | .crossGain src o k words => execCrossGain_keeps src o k words s kept
  | .crossSource src o k words => execCrossSource_keeps src o k words s kept
  | .outputDelay src o words => execOutputDelay_keeps src o words s kept
  | .delayReserve src o words => execDelayReserve_keeps src o words s kept
  | .eqBand src o b words => execEqBand_keeps src o b words s kept
  | .sourceGroup src g words => execSourceGroup_keeps src g words s kept
  | .meterWindow => execMeterWindow_keeps s kept
  | .engineFrequency src words => execEngineFrequency_keeps src words s kept
  | .engineSpread src words => execEngineSpread_keeps src words s kept
  | .engineClockStop => execEngineClockStop_keeps s kept
  | .pllLocked p => execPllLocked_keeps p s kept
  | .pllLockLost p => execPllLockLost_keeps p s kept
  | .refLost => execRefLost_keeps s kept
  | .refRestored => execRefRestored_keeps s kept
  | .clkOutConfig src n words => execClkOutConfig_keeps src n words s kept
  | .powerRequest src words => execPowerRequest_keeps src words s kept
  | .coastEngGate => execCoastEngGate_keeps s kept
  | .wake source => execWake_keeps source s kept
  | .wakeTimer => execWakeTimer_keeps s kept
  | .sleepReceived k => execSleepReceived_keeps k s kept
  | .pwrgdHigh => execPwrgdHigh_keeps s kept

/-- What a step keeps of the state it starts from, whose queue loses its front command (log entry 1). -/
theorem step_keeps {s t : State} (h : step s = .next t) : Keeps { s with pending := s.pending.tail } t := by
  unfold step at h
  split at h
  next empty =>
    have idle : ({ s with pending := s.pending.tail } : State) = s := by rw [empty, List.tail_nil, ← empty]
    rw [idle, ← Host.Outcome.next.inj h]
    exact State.engCycle_keeps s (Keeps.refl s)
  next c rest front =>
    rw [front, List.tail_cons]
    exact exec_keeps c _ (Keeps.refl _) t h

/-- The queue of waiting commands has no part in the invariant. -/
theorem State.Inv.withPending {s : State} (h : s.Inv) (q : List Instr) : ({ s with pending := q } : State).Inv :=
  ⟨h.mem, h.flash, h.objs, h.queue, h.log, h.record, h.events, h.evHist, h.history, h.fwQueue⟩

end Sys2Proof.Machine

namespace Sys2Proof.Claims
open Sys2Proof Sys2Proof.Machine

/-- Settles O3: a step is one command or one ENG cycle, and each of these keeps the invariant. -/
theorem everyStepKeepsTheInvariant : Obligations.EveryStepKeepsTheInvariant := by
  unfold Obligations.EveryStepKeepsTheInvariant
  intro s t inv h
  exact (step_keeps h).inv (inv.withPending _)

/-- Settles O4: the reset state is a constant, whose tables are evaluated. -/
theorem resetMeetsTheInvariant : Obligations.ResetMeetsTheInvariant where
  mem := by decide
  flash := by decide
  objs := by decide
  queue := by decide
  log := by decide
  record := by decide
  events := by decide
  evHist := by decide
  history := by decide
  fwQueue := by decide

end Sys2Proof.Claims
end

section
/-! The verified window: what a fill that finds no line does (R656 to R659). -/
namespace Sys2Proof.Machine
open Sys2Proof

/-! ### The parts of a fill -/

/-- Whether block `b` of the window is cached by a fill: its digest matches and it reads without failure (R656, R659). -/
def State.fillOk (s : State) (b : Nat) : Bool :=
  s.digestOk b (s.flashBytes (s.obj O.xipBase + 4096 * b) 4096) && !s.flashFails (s.obj O.xipBase + 4096 * b) 4096

theorem State.fillOk_iff (s : State) (b : Nat) : s.fillOk b = true ↔
    b < s.xip.hashCount ∧
    (Config.sha384 (s.flashBytes (s.obj O.xipBase + 4096 * b) 4096)).take 32 = memBytes s.mem (s.xip.hashBase + 32 * b) 32 ∧
    s.flashFails (s.obj O.xipBase + 4096 * b) 4096 = false := by
  simp only [State.fillOk, State.digestOk, Bool.and_eq_true, decide_eq_true_eq, Bool.not_eq_true', and_assoc]

theorem State.obj_noteFlash (s : State) (a n o : Nat) :
    (s.noteFlash a n).obj o = if o = O.flashMode ∧ s.flashFails a n = true then 0 else s.obj o := by
  unfold State.noteFlash
  split
  next fails => simp only [State.obj_setObj, fails, and_true]
  next reads => rw [if_neg (fun h => reads h.2)]

@[simp] theorem State.noteFlash_xip (s : State) (a n : Nat) : (s.noteFlash a n).xip = s.xip := by
  unfold State.noteFlash; split <;> rfl
@[simp] theorem State.noteFlash_flash (s : State) (a n : Nat) : (s.noteFlash a n).flash = s.flash := by
  unfold State.noteFlash; split <;> rfl
@[simp] theorem State.noteFlash_mem (s : State) (a n : Nat) : (s.noteFlash a n).mem = s.mem := by
  unfold State.noteFlash; split <;> rfl
@[simp] theorem State.noteFlash_eng (s : State) (a n : Nat) : (s.noteFlash a n).eng = s.eng := by
  unfold State.noteFlash; split <;> rfl

/-- A fetch fault counts, keeps the flash address of its block, and raises an event; the other objects stay. -/
theorem State.obj_fetchFault (s : State) (b : Nat) {o : Nat} (h : o ≠ O.eventsLost) :
    (s.fetchFault b).obj o = if o = O.xipLastFault then (s.obj O.xipBase + 4096 * b) % 2 ^ 32
      else if o = O.xipFetchFaults then satAdd 32 (s.obj O.xipFetchFaults) 1 else s.obj o := by
  unfold State.fetchFault
  rw [State.obj_event _ _ _ h, State.obj_setObj, State.obj_count]

@[simp] theorem State.fetchFault_xip (s : State) (b : Nat) : (s.fetchFault b).xip = s.xip := by simp [State.fetchFault]
@[simp] theorem State.fetchFault_flash (s : State) (b : Nat) : (s.fetchFault b).flash = s.flash := by simp [State.fetchFault]
@[simp] theorem State.fetchFault_mem (s : State) (b : Nat) : (s.fetchFault b).mem = s.mem := by simp [State.fetchFault]
@[simp] theorem State.fetchFault_eng (s : State) (b : Nat) : (s.fetchFault b).eng = s.eng := by simp [State.fetchFault]

/-! ### A fill -/

/-- A block that matches and reads becomes the most recent of at most 64 lines, under the number of its flash block. -/
theorem State.fillBlock_ok {s : State} {b : Nat} (h : s.fillOk b = true) :
    (s.fillBlock b).2 = ((s.count O.xipFills 32 1).noteFlash (s.obj O.xipBase + 4096 * b) 4096).modXip (fun x =>
      { x with lines := ((s.obj O.xipBase / 4096 + b, s.flashBytes (s.obj O.xipBase + 4096 * b) 4096) ::
          x.lines.filter (fun p => p.1 != s.obj O.xipBase / 4096 + b)).take 64 }) := by
  rw [State.fillOk] at h
  simp only [State.fillBlock]
  rw [if_pos h, Nat.add_mul_div_left _ _ (by decide : 0 < 4096)]

/-- Any other block is a fetch fault. -/
theorem State.fillBlock_fault {s : State} {b : Nat} (h : ¬ s.fillOk b = true) :
    (s.fillBlock b).2 = ((s.count O.xipFills 32 1).noteFlash (s.obj O.xipBase + 4096 * b) 4096).fetchFault b := by
  rw [State.fillOk] at h
  simp only [State.fillBlock]
  rw [if_neg h]

theorem State.fillBlock_leaves (s : State) (b : Nat) :
    (s.fillBlock b).2.flash = s.flash ∧ (s.fillBlock b).2.mem = s.mem ∧ (s.fillBlock b).2.eng = s.eng := by
  by_cases h : s.fillOk b = true
  · rw [State.fillBlock_ok h]; simp [State.modXip]
  · rw [State.fillBlock_fault h]; simp

/-- What a fill does to an object that neither a fetch fault nor its event writes. -/
theorem State.obj_fillBlock (s : State) (b : Nat) {o : Nat} (h1 : o ≠ O.eventsLost) (h2 : o ≠ O.xipLastFault) (h3 : o ≠ O.xipFetchFaults) :
    (s.fillBlock b).2.obj o = if o = O.flashMode ∧ s.flashFails (s.obj O.xipBase + 4096 * b) 4096 = true then 0
      else if o = O.xipFills then satAdd 32 (s.obj O.xipFills) 1 else s.obj o := by
  have counted := (s.count O.xipFills 32 1).obj_noteFlash (s.obj O.xipBase + 4096 * b) 4096 o
  rw [State.obj_count] at counted
  by_cases h : s.fillOk b = true
  · rw [State.fillBlock_ok h]; exact counted
  · rw [State.fillBlock_fault h, State.obj_fetchFault _ _ h1, if_neg h2, if_neg h3]; exact counted

theorem State.fillBlock_fault_counts {s : State} {b : Nat} (h : ¬ s.fillOk b = true) :
    (s.fillBlock b).2.xip.lines = s.xip.lines ∧
    (s.fillBlock b).2.obj O.xipFetchFaults = satAdd 32 (s.obj O.xipFetchFaults) 1 ∧
    (s.fillBlock b).2.obj O.xipLastFault = (s.obj O.xipBase + 4096 * b) % 2 ^ 32 := by
  have before : ∀ o, o ≠ O.flashMode → o ≠ O.xipFills →
      ((s.count O.xipFills 32 1).noteFlash (s.obj O.xipBase + 4096 * b) 4096).obj o = s.obj o := by
    intro o hm hf
    rw [State.obj_noteFlash, if_neg (fun c => hm c.1), State.obj_count_ne _ _ _ hf]
  rw [State.fillBlock_fault h]
  refine ⟨by simp, ?_, ?_⟩
  · rw [State.obj_fetchFault _ _ (by decide), if_neg (by decide), if_pos rfl, before _ (by decide) (by decide)]
  · rw [State.obj_fetchFault _ _ (by decide), if_pos rfl, before _ (by decide) (by decide)]

/-- With the window enabled, no raw command and no line of the block, XIP_FILL fills its block. -/
theorem execXipFill_miss {s : State} {o : BitVec 26} (enabled : s.xip.enable = true) (idle : s.xip.raw = none)
    (miss : s.xip.lines.find? (fun p => p.1 = s.obj O.xipBase / 4096 + o.toNat / 4096) = none) :
    exec (.xipFill o) s = .next (s.fillBlock (o.toNat / 4096)).2 := by
  have absent : ¬ s.xip.lines.any (fun p => p.1 = s.obj O.xipBase / 4096 + o.toNat / 4096) = true := by
    rw [List.any_eq_true]
    rintro ⟨line, cached, same⟩
    exact List.find?_eq_none.1 miss line cached same
  have nothingWaits : s.rawThenFill = s := by simp only [State.rawThenFill, idle]
  have fills : (s.xipBlock (o.toNat / 4096)).2 = (s.fillBlock (o.toNat / 4096)).2 := by
    rw [State.xipBlock, if_neg absent, nothingWaits, State.lineOrFill, miss]
  change execXipFill o s = _
  simp [execXipFill, enabled, idle, fills]

end Sys2Proof.Machine
end

section
/-! The boot flash: what the raw commands do to its bytes (R663, R736). -/
namespace Sys2Proof.Machine
open Sys2Proof

/-- A table whose entries are filtered by their keys reads the default where the key is dropped, and as before elsewhere. -/
theorem aGet_filter_key {α : Type} (d : α) (l : List (Nat × α)) (keep : Nat → Bool) (q : Nat) :
    aGet d (l.filter (fun c => keep c.1)) q = if keep q = true then aGet d l q else d := by
  induction l with
  | nil => simp [aGet]
  | cons p t ih =>
    obtain ⟨k, v⟩ := p
    by_cases hq : q = k
    · subst hq
      by_cases hk : keep q = true <;> simp [aGet, hk, ih]
    · by_cases hk : keep k = true <;> simp [aGet, hk, hq, ih]

/-- Bytes programmed in order from `a + k`: each byte of the list clears bits of its place, and the other places stay. -/
theorem aGet_programmed (l : List Byte) (m : List Host.Cell) (h : aWf 0xFF#8 m = true) (a k q : Nat) :
    aGet 0xFF#8 ((l.zipIdx k).foldl (fun m p => aPut 0xFF#8 m (a + p.2) (aGet 0xFF#8 m (a + p.2) &&& p.1)) m) q =
      if a + k ≤ q ∧ q < a + k + l.length then aGet 0xFF#8 m q &&& l.getD (q - (a + k)) 0xFF#8 else aGet 0xFF#8 m q := by
  induction l generalizing m k with
  | nil => rw [if_neg (by simp)]; rfl
  | cons x t ih =>
    rw [List.zipIdx_cons, List.foldl_cons, ih _ (aPut_wf _ _ _ _ h) (k + 1), aGet_aPut _ _ h, List.length_cons]
    by_cases here : q = a + k
    · rw [if_neg (by omega), if_pos here, if_pos (by omega), here, Nat.sub_self, List.getD_cons_zero]
    · rw [if_neg here]
      by_cases later : a + (k + 1) ≤ q ∧ q < a + (k + 1) + t.length
      · rw [if_pos later, if_pos (by omega), show q - (a + k) = q - (a + (k + 1)) + 1 by omega, List.getD_cons_succ]
      · rw [if_neg later, if_neg (by omega)]

/-- A program clears bits of its range alone. -/
theorem State.flashProgram_get (s : State) (h : aWf 0xFF#8 s.flash = true) (a : Nat) (l : List Byte) (q : Nat) :
    aGet 0xFF#8 (s.flashProgram a l).flash q =
      if a ≤ q ∧ q < a + l.length then aGet 0xFF#8 s.flash q &&& l.getD (q - a) 0xFF#8 else aGet 0xFF#8 s.flash q :=
  aGet_programmed l s.flash h a 0 q

/-- An erase sets the bits of its range alone. -/
theorem State.flashErase_get (s : State) (a n q : Nat) :
    aGet 0xFF#8 (s.flashErase a n).flash q = if a ≤ q ∧ q < a + n then 0xFF#8 else aGet 0xFF#8 s.flash q := by
  have kept : (!inRange a n q) = true ↔ ¬ (a ≤ q ∧ q < a + n) := by simp [inRange]; omega
  exact (aGet_filter_key 0xFF#8 s.flash (fun c => !inRange a n c) q).trans (by simp only [kept, ite_not])

/-- A raw command ends with no fill waiting for it: its operation is performed and the port is free. -/
theorem execFlashProgramComplete_running {s : State} {a : Nat} {op : FlashOp} (on : s.life ≠ .stopped) (alone : s.xip.fillWait = none)
    (runs : s.xip.raw = some (a, op)) :
    exec .flashProgramComplete s = .next ((s.flashDo a op).modXip (fun x => { x with raw := none })) := by
  have done : s.rawThenFill = (s.flashDo a op).modXip (fun x => { x with raw := none }) := by
    simp only [State.rawThenFill, State.rawDone, runs, alone]
  change execFlashProgramComplete s = _
  rw [execFlashProgramComplete, if_neg on, done]

theorem execFlashProgramComplete_idle {s : State} (h : s.xip.raw = none ∨ s.life = .stopped) : exec .flashProgramComplete s = .next s := by
  change execFlashProgramComplete s = _
  rcases h with idle | off
  · have nothingWaits : s.rawThenFill = s := by simp only [State.rawThenFill, idle]
    rw [execFlashProgramComplete, nothingWaits, ite_self]
  · rw [execFlashProgramComplete, if_pos off]

/-- A program that completes. -/
theorem execFlashProgramComplete_program {s : State} {n : Nat} {l : List Byte} (on : s.life ≠ .stopped) (alone : s.xip.fillWait = none)
    (wf : aWf 0xFF#8 s.flash = true) (runs : s.xip.raw = some (n, .program l)) :
    ∃ t, exec .flashProgramComplete s = .next t ∧ t.xip.raw = none ∧ t.mem = s.mem ∧ t.objs = s.objs ∧
      (∀ i x, l[i]? = some x → aGet 0xFF#8 t.flash (n + i) = aGet 0xFF#8 s.flash (n + i) &&& x) ∧
      (∀ q, q < n ∨ n + l.length ≤ q → aGet 0xFF#8 t.flash q = aGet 0xFF#8 s.flash q) := by
  refine ⟨_, execFlashProgramComplete_running on alone runs, rfl, rfl, rfl, fun i x hx => ?_, fun q outside => ?_⟩
  · obtain ⟨short, -⟩ := List.getElem?_eq_some_iff.1 hx
    refine (s.flashProgram_get wf n l (n + i)).trans ?_
    rw [if_pos (by omega), Nat.add_sub_cancel_left, List.getD_eq_getElem?_getD, hx, Option.getD_some]
  · exact (s.flashProgram_get wf n l q).trans (if_neg (by omega))

/-- An erase that completes. -/
theorem execFlashProgramComplete_erase {s : State} {n m : Nat} (on : s.life ≠ .stopped) (alone : s.xip.fillWait = none)
    (runs : s.xip.raw = some (n, .erase m)) :
    ∃ t, exec .flashProgramComplete s = .next t ∧ t.xip.raw = none ∧ t.mem = s.mem ∧ t.objs = s.objs ∧
      ∀ q, aGet 0xFF#8 t.flash q = if n ≤ q ∧ q < n + m then 0xFF#8 else aGet 0xFF#8 s.flash q :=
  ⟨_, execFlashProgramComplete_running on alone runs, rfl, rfl, rfl, s.flashErase_get n m⟩

theorem execFlashRawCommand_refused {s : State} (a : BitVec 32) (op : FlashCmd) (h : s.xip.raw ≠ none ∨ s.life = .stopped) :
    exec (.flashRawCommand a op) s = .next s := by
  have busy : (s.xip.raw.isSome || decide (s.life = .stopped)) = true := by
    simpa [Option.isSome_iff_ne_none] using h
  change execFlashRawCommand a op s = _
  simp only [execFlashRawCommand, if_pos busy]

theorem execFlashRawCommand_starts {s : State} (a : BitVec 32) (op : FlashCmd) (idle : s.xip.raw = none) (on : s.life ≠ .stopped) :
    ∃ t f, exec (.flashRawCommand a op) s = .next t ∧ t.xip.raw = some (a.toNat, f) ∧ t.flash = s.flash ∧ t.objs = s.objs := by
  have free : ¬ (s.xip.raw.isSome || decide (s.life = .stopped)) = true := by simp [idle, on]
  have starts : exec (.flashRawCommand a op) s = execFlashRawCommand a op s := rfl
  simp only [starts, execFlashRawCommand, if_neg free]
  exact ⟨_, _, rfl, rfl, rfl, rfl⟩

end Sys2Proof.Machine
end

section
/-! Writes of control registers (R11, R389, R646, R662). -/
namespace Sys2Proof.Machine
open Sys2Proof

/-- The registers that ignore a write and count an access error (R11). -/
def Reg.readOnly (r : Reg) : Bool :=
  match r with
  | .clkOut _ | .veCfg _ | .veFault _ | .veGuard _ | .veProg _ | .scrubLap | .dmaCur _ | .dmaStat _ => true
  | _ => false

theorem State.regWrite_readOnly (s : State) (m : Master) {r : Reg} (v : Nat) (h : r.readOnly = true) :
    (s.regWrite m r v).2 = { s with regErrors := s.regErrors + 1 } :=
  match r, h with
  | .clkOut _, _ | .veCfg _, _ | .veFault _, _ | .veGuard _, _ | .veProg _, _ | .scrubLap, _ | .dmaCur _, _ | .dmaStat _, _ => rfl

/-- A write at an address with a register writes that register; at any other address it does nothing. -/
theorem execRegisterWrite_at {s : State} {loader : Bool} {a : BitVec 40} {r : Reg} {w : Nat} (v : BitVec 64) (h : regAt a.toNat = some (r, w)) :
    exec (.registerWrite loader a v) s = .next (s.regWrite (if loader then .loader else .hull) r (v.toNat % 2 ^ (8 * r.bytes))).2 := by
  change execRegisterWrite loader a v s = _
  simp only [execRegisterWrite, h]

theorem execRegisterWrite_none {s : State} {loader : Bool} {a : BitVec 40} (v : BitVec 64) (h : regAt a.toNat = none) :
    exec (.registerWrite loader a v) s = .next s := by
  change execRegisterWrite loader a v s = _
  simp only [execRegisterWrite, h]

theorem execRegisterWrite_readOnly {s : State} {loader : Bool} {a : BitVec 40} {r : Reg} {w : Nat} (v : BitVec 64) (h : regAt a.toNat = some (r, w))
    (ro : r.readOnly = true) : exec (.registerWrite loader a v) s = .next { s with regErrors := s.regErrors + 1 } := by
  rw [execRegisterWrite_at v h, s.regWrite_readOnly _ _ ro]

/-- The base of the hash table, a multiple of 32, takes a write by firmware while the table is not locked (R662). -/
theorem execRegisterWrite_xipBase {s : State} {loader : Bool} {a : BitVec 40} {w : Nat} (v : BitVec 64) (h : regAt a.toNat = some (.xipBase, w)) :
    exec (.registerWrite loader a v) s = .next (if loader = false ∧ s.xip.lock = false then
      { s with xip := { s.xip with hashBase := v.toNat / 32 * 32 } } else s) := by
  have whole : v.toNat % 2 ^ (8 * Reg.xipBase.bytes) = v.toNat := Nat.mod_eq_of_lt v.isLt
  rw [execRegisterWrite_at v h, whole]
  cases loader <;> cases hl : s.xip.lock <;> simp [State.regWrite, State.modXip, hl]

/-- A loader write of a range register waits for the boundary and touches one engine (R389). -/
theorem execRangeRegisterWrite_loader (s : State) (e : Fin 8) (k : Fin 4) (v : BitVec 64) :
    exec (.rangeRegisterWrite true e k v) s =
      .next (s.modEngine e (fun x => { x with pendRanges := put x.pendRanges k (some (rangeBits v.toNat)) })) := rfl

/-- A write of 1 clears a flag of HSP_STATUS and a write of 0 keeps it (R646). -/
theorem testBit_clearHsp (s : State) (flags : BitVec 7) {i : Nat} (h : i < 7) :
    (s.clearHsp flags.toNat).hsp.flags.testBit i = (s.hsp.flags.testBit i && !flags.getLsbD i) := by
  have ones : Nat.testBit 127 i = true := by rw [show (127 : Nat) = 2 ^ 7 - 1 from rfl, Nat.testBit_two_pow_sub_one]; simpa using h
  have whole : flags.toNat % 128 = flags.toNat := Nat.mod_eq_of_lt flags.isLt
  rw [State.clearHsp, Nat.testBit_and, Nat.testBit_xor, ones, whole, BitVec.testBit_toNat, Bool.true_xor]

end Sys2Proof.Machine

namespace Sys2Proof.Claims
open Sys2Proof Sys2Proof.Machine

/-- Settles O46: each clause is the law of its command. -/
theorem xipFlashAndRegisters : Obligations.XipFlashAndRegisters := by
  unfold Obligations.XipFlashAndRegisters
  intro s o a op loader r v e k flags
  dsimp only
  refine ⟨?disabled, ?waits, ?fills, rfl, rfl, execFlashRawCommand_refused a op, execFlashRawCommand_starts a op, execFlashProgramComplete_idle, ?completes,
    execRegisterWrite_none v, ?readOnly, fun _ => execRegisterWrite_xipBase v, rfl, ?range, ?clears⟩
  case disabled =>
    intro off
    change execXipFill o s = _
    simp [execXipFill, off]
  case waits =>
    intro enabled busy
    change execXipFill o s = _
    simp [execXipFill, enabled, Option.isSome_iff_ne_none.2 busy, State.modXip]
  case fills =>
    intro enabled idle miss
    obtain ⟨flash, mem, eng⟩ := s.fillBlock_leaves (o.toNat / 4096)
    refine ⟨_, execXipFill_miss enabled idle miss, ?_, flash, mem, eng, ?_, ?_⟩
    · rw [State.obj_fillBlock _ _ (by decide) (by decide) (by decide), if_neg (fun h => absurd h.1 (by decide)), if_pos rfl]
    · rw [State.obj_fillBlock _ _ (by decide) (by decide) (by decide)]
      simp [show O.flashMode ≠ O.xipFills by decide]
    · split
      next ok => rw [State.fillBlock_ok ((s.fillOk_iff _).2 ok)]; simp [State.modXip]
      next fault => exact State.fillBlock_fault_counts (fun ok => fault ((s.fillOk_iff _).1 ok))
  case completes =>
    intro n l on alone wf
    exact ⟨execFlashProgramComplete_program on alone wf, fun _ => execFlashProgramComplete_erase on alone,
      execFlashProgramComplete_running on alone⟩
  case readOnly =>
    rintro g w at_ (rfl | rfl | rfl | rfl | rfl | rfl | ⟨c, rfl | rfl⟩) <;> exact execRegisterWrite_readOnly v at_ rfl
  case range =>
    refine ⟨_, execRangeRegisterWrite_loader s e k v, ?_, ?_, rfl, rfl, fun f other => s.engine_modEngine_ne _ other⟩
    · rw [State.engine_modEngine_self]
    · rw [State.engine_modEngine_self]
  case clears =>
    exact ⟨_, rfl, fun i h => testBit_clearHsp s flags h⟩

end Sys2Proof.Claims
end

section
/-! The delay-line descriptors and the streamer: what a move of bytes, a descriptor write and a staged group do (R256 to R280). -/
namespace Sys2Proof.Machine
open Sys2Proof

/-! ### Moves of bytes -/

/-- A list of bytes stored as one number stands byte by byte. -/
theorem memWrite_leNat (m : List Host.Cell) (a : Nat) (l : List Byte) : memWrite m a l.length (leNat l) = memPutBytes m a l := by
  induction l generalizing m a with
  | nil => rfl
  | cons b t ih =>
    have low : BitVec.ofNat 8 (b.toNat + 256 * leNat t) = b := by
      apply BitVec.eq_of_toNat_eq
      rw [BitVec.toNat_ofNat]
      omega
    have high : (b.toNat + 256 * leNat t) / 256 = leNat t := by omega
    rw [List.length_cons, leNat, memWrite, low, high, ih, memPutBytes]

theorem State.storeBytes_leaves (s : State) (a : Nat) (l : List Byte) :
    (s.storeBytes a l).mem = memPutBytes s.mem a l ∧ (s.storeBytes a l).eng = s.eng := by
  obtain ⟨outside, mem, -⟩ := s.store_leaves a l.length (leNat l)
  exact ⟨mem.trans (memWrite_leNat s.mem a l), congrArg (fun x => x.2.2.1) outside⟩

theorem State.noteSoft_leaves (s : State) (a : Nat) : (s.noteSoft a).mem = s.mem ∧ (s.noteSoft a).eng = s.eng := by
  unfold State.noteSoft
  split
  · exact ⟨rfl, rfl⟩
  · split <;> exact ⟨rfl, rfl⟩

theorem State.noteSofts_leaves (s : State) (a n : Nat) : (s.noteSofts a n).mem = s.mem ∧ (s.noteSofts a n).eng = s.eng := by
  unfold State.noteSofts
  generalize s.softWords a n = l
  induction l generalizing s with
  | nil => exact ⟨rfl, rfl⟩
  | cons c t ih => exact ⟨(ih _).1.trans (s.noteSoft_leaves c).1, (ih _).2.trans (s.noteSoft_leaves c).2⟩

@[simp] theorem State.moveBytes_mem (s : State) (src dst n : Nat) : (s.moveBytes src dst n).mem = memPutBytes s.mem dst (memBytes s.mem src n) := by
  obtain ⟨stored, -⟩ := (s.noteSofts src n).storeBytes_leaves dst (memBytes s.mem src n)
  rw [State.moveBytes, stored, (s.noteSofts_leaves src n).1]

@[simp] theorem State.moveBytes_eng (s : State) (src dst n : Nat) : (s.moveBytes src dst n).eng = s.eng := by
  obtain ⟨-, kept⟩ := (s.noteSofts src n).storeBytes_leaves dst (memBytes s.mem src n)
  rw [State.moveBytes, kept, (s.noteSofts_leaves src n).2]

/-! ### Descriptors -/

/-- A descriptor set after a change that leaves the engines alone: the table of its engine takes it, and nothing else of the engines changes. -/
theorem State.setDesc_engine {s t : State} (kept : t.eng = s.eng) (e : Fin 8) (q : Nat) (d : Desc) :
    (t.setDesc e q d).engine e = { s.engine e with desc := aPut Desc.zero (s.engine e).desc q d } ∧
      ∀ f, f ≠ e → (t.setDesc e q d).engine f = s.engine f := by
  have same : ∀ f, t.engine f = s.engine f := fun f => by rw [State.engine, kept, State.engine]
  constructor
  · rw [State.setDesc, State.engine_modEngine_self, same]
  · intro f other
    rw [State.setDesc, State.engine_modEngine_ne _ _ other, same]

/-- A field taken from a word is the word from its lowest bit, cut to the width of the field. -/
theorem ofNat_fieldOf (w : BitVec 64) (lo n : Nat) : BitVec.ofNat n (fieldOf w lo n) = BitVec.ofNat n (w.toNat / 2 ^ lo) := by
  apply BitVec.eq_of_toNat_eq
  simp [fieldOf]

/-- A valid descriptor with a LOC or a FMT that does not exist is refused (R260). -/
theorem State.descOk_false (s : State) (e : Fin 8) (q : Nat) {d : Desc} (valid : d.valid = true) (bad : 2 ≤ d.loc.toNat ∨ 5 ≤ d.fmt.toNat) :
    s.descOk e q d = false := by
  rcases bad with h | h <;> simp [State.descOk, valid, Nat.not_lt.2 h]

theorem State.descOk_invalid (s : State) (e : Fin 8) (q : Nat) {d : Desc} (invalid : d.valid = false) : s.descOk e q d = true := by
  simp [State.descOk, invalid]

/-- Unless both the old and the new descriptor are valid, the new one simply takes the place (R280). -/
theorem State.putDesc_eq_setDesc (s : State) (e : Fin 8) (q : Nat) {d : Desc} (h : d.valid = false ∨ (s.desc e q).valid = false) :
    s.putDesc e q d = s.setDesc e q d := by
  rcases h with h | h <;> simp [State.putDesc, Desc.rewrite, h]

theorem execDescriptorFileWrite_refused (s : State) (e : Fin 8) (q : Fin 4096) {w0 : BitVec 64} (w1 w2 w3 : BitVec 64) (valid : w0.getLsbD 58 = true)
    (bad : w0.getLsbD 63 = true ∨ 5 ≤ w0.toNat / 2 ^ 59 % 8) : exec (.descriptorFileWrite true e q w0 w1 w2 w3) s = .next s := by
  have refused : s.descOk e q.val (descWords w0 w1 w2 w3) = false := by
    refine s.descOk_false e q.val valid (bad.imp (fun top => ?_) (fun fmt => ?_))
    · have loc : (descWords w0 w1 w2 w3).loc.toNat = w0.toNat / 2 ^ 62 % 4 := by simp [descWords, fieldOf]
      have bit : w0.toNat / 2 ^ 63 % 2 = 1 := by simpa [BitVec.getLsbD, Nat.testBit_eq_decide_div_mod_eq] using top
      omega
    · simpa [descWords, fieldOf] using fmt
  change execDescriptorFileWrite true e q w0 w1 w2 w3 s = _
  simp [execDescriptorFileWrite, refused]

theorem execDescriptorFileWrite_accepted (s : State) (e : Fin 8) (q : Fin 4096) {w0 w1 w2 w3 : BitVec 64}
    (h : w0.getLsbD 58 = false ∨ ((s.desc e q.val).valid = false ∧ s.descOk e q.val (descWords w0 w1 w2 w3) = true)) :
    exec (.descriptorFileWrite true e q w0 w1 w2 w3) s = .next (s.setDesc e q.val (descWords w0 w1 w2 w3)) := by
  have ok : s.descOk e q.val (descWords w0 w1 w2 w3) = true := h.elim (fun off => s.descOk_invalid e q.val off) And.right
  have replaced : s.putDesc e q.val (descWords w0 w1 w2 w3) = s.setDesc e q.val (descWords w0 w1 w2 w3) :=
    s.putDesc_eq_setDesc e q.val (h.imp id And.left)
  change execDescriptorFileWrite true e q w0 w1 w2 w3 s = _
  simp [execDescriptorFileWrite, ok, replaced]

/-! ### ORB_SHARE -/

theorem execOrbShare_sum (s : State) (loader : Bool) (w : BitVec 64) :
    exec (.orbShare loader w) s = .next (if loader = true ∧ ((List.range 8).map (fun i => w.toNat / 2 ^ (8 * i) % 256)).sum ≤ 64 then
        { s with io := { s.io with pendShare := some w } }
      else { s with regErrors := s.regErrors + 1 }) := by
  have sum : (List.range 8).foldl (fun acc i => acc + fieldOf w (8 * i) 8) 0 = ((List.range 8).map (fun i => w.toNat / 2 ^ (8 * i) % 256)).sum := by
    rw [List.sum_eq_foldl, List.foldl_map]
    rfl
  change execOrbShare loader w s = _
  simp only [execOrbShare, State.writeOrbShare, sum, Bool.and_eq_true, decide_eq_true_eq]

/-! ### The streamer -/

theorem State.lpddrUp_iff (s : State) : s.lpddrUp = true ↔ s.obj (O.pllState 2) = 2 := decide_eq_true_iff

theorem Desc.fetches_iff (d : Desc) (g : Nat) :
    d.fetches g = true ↔ ((∃ p ∈ d.fetching, p.1 = g) ∨ g ∈ d.awaited) ∧ ∀ p ∈ d.behind, p.1 ≠ g := by
  simp [Desc.fetches]

theorem execFarFetchComplete_idle {s : State} {e : Fin 8} {q : Fin 4096} {g : BitVec 18}
    (h : s.lpddrUp = false ∨ (s.desc e q.val).fetches g.toNat = false ∨ (s.desc e q.val).freeLine = none) :
    exec (.farFetchComplete e q g) s = .next s := by
  change execFarFetchComplete e q g s = _
  rcases h with down | unwanted | full
  · simp [execFarFetchComplete, down]
  · simp [execFarFetchComplete, unwanted]
  · simp [execFarFetchComplete, State.stageGroup, full]

theorem execFarFetchComplete_staged {s : State} {e : Fin 8} {q : Fin 4096} {g : BitVec 18} {k : Nat} (up : s.lpddrUp = true)
    (wanted : (s.desc e q.val).fetches g.toNat = true) (free : (s.desc e q.val).freeLine = some k) :
    exec (.farFetchComplete e q g) s =
      .next ((s.moveBytes ((s.desc e q.val).groupHome g.toNat) (lineAddr k) (groupBytes (s.desc e q.val).fmt.toNat)).setDesc e q.val
        { s.desc e q.val with
          stage := (s.desc e q.val).stage.filter (fun p => p.1 != g.toNat) ++ [(g.toNat, k)]
          fetching := (s.desc e q.val).fetching.filter (fun p => p.1 != g.toNat) }) := by
  change execFarFetchComplete e q g s = _
  simp [execFarFetchComplete, State.stageGroup, up, wanted, free]

/-- Bytes moved for each number of a list that passes a test, one move after the other. -/
theorem State.foldl_moveBytes (l : List Nat) (keep : Nat → Bool) (src dst : Nat → Nat) (n : Nat) (s : State) :
    let t := l.foldl (fun s i => if keep i then s.moveBytes (src i) (dst i) n else s) s
    t.mem = (l.filter keep).foldl (fun m i => memPutBytes m (dst i) (memBytes m (src i) n)) s.mem ∧ t.eng = s.eng := by
  induction l generalizing s with
  | nil => exact ⟨rfl, rfl⟩
  | cons i l ih =>
    by_cases kept : keep i = true
    · simpa [kept] using ih (s.moveBytes (src i) (dst i) n)
    · simpa [kept] using ih s

/-- The written slots of a plain group, or a whole block, come to their place (R263, R275). -/
theorem State.copyBehind_mem (s : State) (d : Desc) (b : Nat × Nat × BitVec 16) :
    (s.copyBehind d b).mem = if d.fmt = 0 then ((List.range 16).filter (fun i => b.2.2.getLsbD i)).foldl
        (fun m i => memPutBytes m (d.groupHome b.1 + 4 * i) (memBytes m (lineAddr b.2.1 + 4 * i) 4)) s.mem
      else memPutBytes s.mem (d.groupHome b.1) (memBytes s.mem (lineAddr b.2.1) (groupBytes d.fmt.toNat)) := by
  unfold State.copyBehind
  split
  · exact (State.foldl_moveBytes _ _ _ _ _ s).1
  · exact s.moveBytes_mem _ _ _

theorem State.copyBehind_eng (s : State) (d : Desc) (b : Nat × Nat × BitVec 16) : (s.copyBehind d b).eng = s.eng := by
  unfold State.copyBehind
  split
  · exact (State.foldl_moveBytes _ _ _ _ _ s).2
  · exact s.moveBytes_eng _ _ _

theorem execFarGroupCopy_idle {s : State} {e : Fin 8} {q : Fin 4096} {g : BitVec 18}
    (h : s.lpddrUp = false ∨ ∀ p ∈ (s.desc e q.val).behind, p.1 ≠ g.toNat) : exec (.farGroupCopy e q g) s = .next s := by
  have nothing : (if s.lpddrUp then (s.desc e q.val).behind.find? (fun p => p.1 = g.toNat) else none) = none := by
    rcases h with down | absent
    · simp [down]
    · have : (s.desc e q.val).behind.find? (fun p => p.1 = g.toNat) = none := by simpa using absent
      rw [this, ite_self]
  change execFarGroupCopy e q g s = _
  simp only [execFarGroupCopy, nothing]

theorem execFarGroupCopy_copied {s : State} {e : Fin 8} {q : Fin 4096} {g : BitVec 18} {b : Nat × Nat × BitVec 16} (up : s.lpddrUp = true)
    (stands : (s.desc e q.val).behind.find? (fun p => p.1 = g.toNat) = some b) :
    exec (.farGroupCopy e q g) s = .next ((s.copyBehind (s.desc e q.val) b).setDesc e q.val
      { s.desc e q.val with behind := (s.desc e q.val).behind.filter (fun p => p != b) }) := by
  change execFarGroupCopy e q g s = _
  simp only [execFarGroupCopy, if_pos up, stands]

/-! ### A span that waits -/

theorem Desc.applySpan_waits {d : Desc} (h : d.pendSpan = none ∨ d.awaited ≠ []) : d.applySpan = d := by
  unfold Desc.applySpan
  split
  next lo n pending =>
    have missing : d.awaited ≠ [] := h.resolve_left (by simp [pending])
    rw [if_neg missing]
  next => rfl

theorem Desc.applySpan_staged {d : Desc} {lo n : Nat} (pending : d.pendSpan = some (lo, n)) (staged : d.awaited = []) :
    d.applySpan = { d with
      spanLo := lo
      spanGroups := n
      pendSpan := none
      missing := d.missing.filter (fun k => !d.nextSpan.contains k) } := by
  simp only [Desc.applySpan, pending, if_pos staged]

end Sys2Proof.Machine

namespace Sys2Proof.Claims
open Sys2Proof Sys2Proof.Machine

/-- Settles O31: each clause is the law of its command. That a descriptor write sets HWM to LEN (log entry 28) and drops a length that waits
(log entry 136) is the model's choice. -/
theorem orbitSharesAndDescriptors : Obligations.OrbitSharesAndDescriptors := by
  unfold Obligations.OrbitSharesAndDescriptors
  intro s e q g loader w w0 w1 w2 w3
  dsimp only
  refine ⟨execOrbShare_sum s loader w, rfl, execDescriptorFileWrite_refused s e q w1 w2 w3, ?written, ⟨?fetchIdle, ?fetched,
    ?copyIdle, ?copied⟩, ?spanWaits, ?spanApplies⟩
  case written =>
    intro h
    rw [execDescriptorFileWrite_accepted s e q h]
    simp only [descWords, ofNat_fieldOf]
    simp [fieldOf]
  case fetchIdle =>
    intro h
    apply execFarFetchComplete_idle
    rcases h with down | unwanted | behind | full
    · exact .inl (Bool.eq_false_iff.2 (fun up => down (s.lpddrUp_iff.1 up)))
    · exact .inr (.inl (Bool.eq_false_iff.2 (fun f => unwanted ((Desc.fetches_iff _ _).1 f).1)))
    · obtain ⟨p, member, same⟩ := behind
      exact .inr (.inl (Bool.eq_false_iff.2 (fun f => ((Desc.fetches_iff _ _).1 f).2 p member same)))
    · exact .inr (.inr full)
  case fetched =>
    intro k up wanted settled free
    refine ⟨_, execFarFetchComplete_staged (s.lpddrUp_iff.2 up) ((Desc.fetches_iff _ _).2 ⟨wanted, settled⟩) free, State.moveBytes_mem .., ?_⟩
    exact State.setDesc_engine (State.moveBytes_eng ..) e q.val _
  case copyIdle =>
    intro h
    exact execFarGroupCopy_idle (h.imp_left (fun down => Bool.eq_false_iff.2 (fun up => down (s.lpddrUp_iff.1 up))))
  case copied =>
    intro b up stands
    have group : b.1 = g.toNat := by simpa using List.find?_some stands
    refine ⟨_, execFarGroupCopy_copied (s.lpddrUp_iff.2 up) stands, ?_, State.setDesc_engine (State.copyBehind_eng ..) e q.val _⟩
    rw [← group]
    exact s.copyBehind_mem _ b
  case spanWaits =>
    intro h
    exact congrArg (fun d => Host.Outcome.next (s.setDesc e q.val d)) (Desc.applySpan_waits h)
  case spanApplies =>
    intro lo n pending staged
    exact congrArg (fun d => Host.Outcome.next (s.setDesc e q.val d)) (Desc.applySpan_staged pending staged)

end Sys2Proof.Claims
end

section
/-! Writes of graph parameters: what a request that passes its checks does to the banks, the queue of X and Y writes and the lines (R269, R324, R332, R354). -/
namespace Sys2Proof.Machine
open Sys2Proof

/-! ### Update sets and claims -/

theorem mem_setAdd_self (l : List Nat) (k : Nat) : k ∈ setAdd l k := by
  induction l with
  | nil => exact List.mem_singleton_self k
  | cons x t ih =>
    unfold setAdd
    split
    · exact List.mem_cons_self
    · split
      next same => exact same ▸ List.mem_cons_self
      next => exact List.mem_cons_of_mem _ ih

theorem State.enter_eq (s : State) (k : SessKey) : ∃ l, s.enter k = { s with sessions := l } := by
  unfold State.enter State.setSession
  split <;> exact ⟨_, rfl⟩

theorem State.modOpenSet_eq (s : State) (k : SessKey) (f : UpSet → UpSet) : ∃ l, s.modOpenSet k f = { s with sets := l } := by
  unfold State.modOpenSet
  split <;> exact ⟨_, rfl⟩

/-- A session has an open set once it has been changed, and that set is a changed one. -/
theorem State.exists_mem_modOpenSet (s : State) (k : SessKey) (f : UpSet → UpSet) :
    ∃ u : UpSet, u.phase = .opened ∧ u.key = k ∧ f u ∈ (s.modOpenSet k f).sets := by
  unfold State.modOpenSet
  split
  next u found =>
    have own : u.phase = .opened ∧ u.key = k := by simpa using List.find?_some found
    exact ⟨u, own.1, own.2, List.mem_map.2 ⟨u, List.mem_of_find?_eq_some found, by simp [own]⟩⟩
  next => exact ⟨_, rfl, rfl, List.mem_append_right _ (List.mem_singleton_self _)⟩

/-- The open set a session has takes the change. -/
theorem State.mem_modOpenSet_of_mem {s : State} {k : SessKey} (f : UpSet → UpSet) {z : UpSet} (member : z ∈ s.sets) (opened : z.phase = .opened)
    (own : z.key = k) : f z ∈ (s.modOpenSet k f).sets := by
  unfold State.modOpenSet
  split
  next => exact List.mem_map.2 ⟨z, member, by simp [opened, own]⟩
  next absent => exact absurd (List.find?_eq_none.1 absent z member) (by simp [opened, own])

/-- While no block runs on two engines of the device, a write claims the engines it names. -/
theorem State.claimed_eq {s : State} (apart : ∀ m, s.til.mig = some m → m.fromDev ≠ m.toDev) (ws : List BankWrite) : s.claimed ws = ws.map (·.engine) := by
  unfold State.claimed
  split
  next m moving => rw [decide_eq_false (apart m moving)]; simp
  next => rfl

/-- The open set of another session on the engine refuses the write (R332). -/
theorem State.claims_refused {s : State} {k : SessKey} {e : Nat} (taken : ∃ u ∈ s.sets, u.phase = .opened ∧ u.key ≠ k ∧ e ∈ u.engines) :
    s.claims k [e] = .refused := by
  have other : s.sets.any (fun u => u.phase = .opened && u.key != k && u.engines.contains e) = true := by
    simpa [List.any_eq_true, and_assoc] using taken
  have refused : s.claimOn k e = .refused := by rw [State.claimOn, if_pos other]
  simp [State.claims, refused]

theorem State.bankedFree_refused {s : State} {k : SessKey} {ws : List BankWrite} (h : s.claims k (s.claimed ws) = .refused) : s.bankedFree k ws = false := by
  simp [State.bankedFree, h]

/-! ### Banked writes -/

/-- A landing word is stored in the shadow bank; sets, held writes, parameters and the queue of X and Y writes stay (R324). -/
theorem State.landWord_leaves (s : State) (w : BankWrite) :
    (s.landWord w).mem = memPutWord s.mem (s.bankAddr w.engine false w.word) w.value ∧ (s.landWord w).sets = s.sets ∧
      (s.landWord w).xyQueue = s.xyQueue ∧ (s.landWord w).held = s.held ∧ (s.landWord w).params = s.params := by
  unfold State.landWord State.staleBank State.store State.markStale
  dsimp only
  split <;> exact ⟨rfl, rfl, rfl, rfl, rfl⟩

/-- The state of an accepted banked write once its session has its entry and its open set the claims (R330, R332). -/
def State.claimFor (s : State) (k : SessKey) (ws : List BankWrite) : State :=
  (s.enter k).modOpenSet k (fun u => { u with engines := (s.claimed ws).foldl setAdd u.engines, writes := u.writes + 1 })

theorem State.bankedWrite_eq (s : State) (k : SessKey) (ws : List BankWrite) :
    s.bankedWrite k ws = if s.claims k (s.claimed ws) = .held then { s.claimFor k ws with held := (s.claimFor k ws).held ++ [{ key := k, writes := ws }] }
      else (s.claimFor k ws).landWords k ws := rfl

theorem State.claimFor_eq (s : State) (k : SessKey) (ws : List BankWrite) :
    ∃ sessions sets, s.claimFor k ws = { s with sessions := sessions, sets := sets } := by
  obtain ⟨sessions, entered⟩ := s.enter_eq k
  rw [State.claimFor, entered]
  obtain ⟨sets, changed⟩ := State.modOpenSet_eq { s with sessions := sessions } k
    (fun u => { u with engines := (s.claimed ws).foldl setAdd u.engines, writes := u.writes + 1 })
  exact ⟨sessions, sets, changed⟩

theorem State.exists_mem_claimFor {s : State} {k : SessKey} {w : BankWrite} (claimed : s.claimed [w] = [w.engine]) :
    ∃ z ∈ (s.claimFor k [w]).sets, z.phase = .opened ∧ z.key = k ∧ w.engine ∈ z.engines := by
  obtain ⟨u, opened, own, member⟩ := (s.enter k).exists_mem_modOpenSet k
    (fun u => { u with engines := (s.claimed [w]).foldl setAdd u.engines, writes := u.writes + 1 })
  refine ⟨_, member, opened, own, ?_⟩
  rw [claimed]
  exact mem_setAdd_self u.engines w.engine

/-- A write of one word that lands: the word is stored, the open set of the session claims its engine, nothing is queued or held. -/
theorem State.bankedWrite_lands {s : State} {k : SessKey} {w : BankWrite} (claimed : s.claimed [w] = [w.engine]) (lands : s.claims k [w.engine] = .lands) :
    (s.bankedWrite k [w]).mem = memPutWord s.mem (s.bankAddr w.engine false w.word) w.value ∧
      (∃ z ∈ (s.bankedWrite k [w]).sets, z.phase = .opened ∧ z.key = k ∧ w.engine ∈ z.engines) ∧
      (s.bankedWrite k [w]).xyQueue = s.xyQueue ∧ (s.bankedWrite k [w]).held = s.held ∧ (s.bankedWrite k [w]).params = s.params := by
  obtain ⟨z, member, opened, own, holds⟩ := s.exists_mem_claimFor (k := k) claimed
  obtain ⟨sessions, sets, entered⟩ := s.claimFor_eq k [w]
  rw [entered] at member
  have kept := State.mem_modOpenSet_of_mem (fun u => { u with words := u.words ++ [w] }) member opened own
  obtain ⟨sets', joined⟩ := State.modOpenSet_eq { s with sessions := sessions, sets := sets } k (fun u => { u with words := u.words ++ [w] })
  rw [joined] at kept
  have landed : s.bankedWrite k [w] = State.landWord { s with sessions := sessions, sets := sets' } w := by
    rw [State.bankedWrite_eq, claimed, lands, entered, if_neg (by decide), State.landWords, joined]
    rfl
  rw [landed]
  obtain ⟨mem, same, rest⟩ := State.landWord_leaves { s with sessions := sessions, sets := sets' } w
  exact ⟨mem, ⟨{ z with words := z.words ++ [w] }, same ▸ kept, opened, own, holds⟩, rest⟩

/-- A write that is held waits behind the others, and no bank changes (R332). -/
theorem State.bankedWrite_held {s : State} {k : SessKey} {ws : List BankWrite} (held : s.claims k (s.claimed ws) = .held) :
    (s.bankedWrite k ws).mem = s.mem ∧ (s.bankedWrite k ws).eng = s.eng ∧ (s.bankedWrite k ws).held = s.held ++ [{ key := k, writes := ws }] := by
  obtain ⟨sessions, sets, entered⟩ := s.claimFor_eq k ws
  rw [State.bankedWrite_eq, if_pos held, entered]
  exact ⟨rfl, rfl, rfl⟩

/-! ### What a parameter's words write -/

theorem Param.bankWrites_single {p : Param} (mirror : p.mirror = none) (each : p.replicate = false) (one : p.words = 1) (w : Word) :
    p.bankWrites [w] = [{ engine := p.engine, word := p.base, value := w, glide := p.glide }] := by
  simp [Param.bankWrites, mirror, each, one]

theorem Param.xyWrites_getElem? {p : Param} (mirror : p.mirror = none) (each : p.replicate = false) (words : List Word) (i : Nat) :
    (p.xyWrites words)[i]? = if i < p.words then (words[i]?).map (fun v =>
      { y := decide (0x200000 ≤ (p.base - 0x200000000) % 0x800000), addr := p.base + 4 * i, value := v }) else none := by
  have plain : p.xyWrites words = ((words.take p.words).zipIdx).map (fun w =>
      { y := decide (0x200000 ≤ (p.base - 0x200000000) % 0x800000), addr := p.base + 4 * w.2, value := w.1 }) := by
    simp [Param.xyWrites, mirror, each]
  rw [plain, List.getElem?_map, List.getElem?_zipIdx, List.getElem?_take]
  split <;> simp [Option.map_map, Function.comp_def]

/-- A length outside 2 to MAXLEN, or of a line without descriptor, is not accepted (R270). -/
theorem State.lenOk_false {s : State} {e q v : Nat} (h : (s.desc (eng8 e) q).valid = false ∨ v < 2 ∨ (s.desc (eng8 e) q).maxLen < v) :
    s.lenOk e q v = false := by
  rw [State.desc] at h
  rcases h with invalid | short | long
  · simp [State.lenOk, invalid]
  · simp [State.lenOk, Nat.not_le.2 short]
  · simp [State.lenOk, Nat.not_le.2 long]

theorem State.writeLength_eq {s : State} {p : Param} (mirror : p.mirror = none) (v : Nat) :
    s.writeLength p v = ({ s with params := s.params.map (fun z => if z.addr = p.addr then { z with lenVal := v } else z) } : State).setDesc
      (eng8 p.engine) p.base { s.desc (eng8 p.engine) p.base with pendLen := some v } := by
  simp only [State.writeLength, mirror]
  rfl

/-! ### The requests -/

/-- A request that firmware need not take, or can, is answered by the checks with its own conditions as they are. -/
theorem State.writeReq_eq {s : State} {a : Nat} (serving : s.serving = true) (firmware : firmwareServed a true = true → s.firmwareCan a true = true)
    (k : SessKey) (kport : Nat) (words : List (BitVec 32)) (x : Extra) (effect : State → State) :
    s.writeReq k kport a words x effect = s.finishWrite k kport a words (s.checkWrite k a words x) effect := by
  have free : (!firmwareServed a true || s.firmwareCan a true) = true := by
    cases served : firmwareServed a true
    · rfl
    · simp [firmware served]
  simp only [State.writeReq, serving, free, Bool.and_true]
  rfl

section
variable {s : State} {a : BitVec 24} {p : Param} (found : s.param a.toNat = some p) (src : Src) (words : List (BitVec 32))
include found

theorem State.writeParam_found : s.writeParam src.key src.link.val a.toNat words =
    s.writeReq src.key src.link.val a.toNat words (s.paramExtra src.key p words) (fun s => s.paramEffect src.key p words) := by
  simp only [State.writeParam, found]

theorem execBankedWrite_found (bank : p.bind = 0) (plain : p.ty ≠ 16) : exec (.bankedWrite src a words) s =
    .next (s.writeReq src.key src.link.val a.toNat words (s.paramExtra src.key p words) (fun s => s.bankedWrite src.key (p.bankWrites words))) := by
  change execBankedWrite src a words s = _
  simp [execBankedWrite, State.writeParam_found found, State.paramEffect, found, bank, plain]

theorem execXyParameterWrite_found (xy : p.bind = 1) (plain : p.ty ≠ 16) : exec (.xyParameterWrite src a words) s =
    .next (s.writeReq src.key src.link.val a.toNat words (s.paramExtra src.key p words) (fun s => { s with xyQueue := s.xyQueue ++ p.xyWrites words })) := by
  change execXyParameterWrite src a words s = _
  simp [execXyParameterWrite, State.writeParam_found found, State.paramEffect, found, xy, plain]

theorem execDelayLengthWrite_found (line : p.bind = 2) : exec (.delayLengthWrite src a words) s =
    .next (s.writeReq src.key src.link.val a.toNat words (s.paramExtra src.key p words) (fun s => s.writeLength p (wordsNat words))) := by
  change execDelayLengthWrite src a words s = _
  simp [execDelayLengthWrite, State.writeParam_found found, State.paramEffect, found, line]

end

end Sys2Proof.Machine

namespace Sys2Proof.Claims
open Sys2Proof Sys2Proof.Machine

section
variable {s : State} {i : Instr} {src : Src} {kport a : Nat} {words : List (BitVec 32)} {x : Extra} {effect : State → State}
  (runs : exec i s = .next (s.writeReq src.key kport a words x effect))
include runs

/-- A request that passes with the conditions of its own is performed. -/
theorem answers_of_passes (passes : Passes s src a words x.mode x.range x.res) {P : State → Prop} (holds : P (effect s)) : Answers s i src rcOk P := by
  obtain ⟨serving, firmware, ok⟩ := passes
  rw [State.writeReq_eq serving firmware, ok] at runs
  exact ⟨effect s, _, runs, State.finishWrite_resp .., s.finishWrite_booked src.key kport a words rcOk effect, holds⟩

/-- A request that passes the common checks is refused for the first of its own conditions that fails. -/
theorem refuses_of_extra (passes : Passes s src a words true true true) {code : Nat} (bad : code ≠ rcOk)
    (first : (if x.mode = false then rcMode else if x.range = false then rcRange else if x.res = false then rcBusy else rcOk) = code) :
    Refuses s i src code := by
  obtain ⟨serving, firmware, ok⟩ := passes
  rw [State.writeReq_eq serving firmware, State.checkWrite_extra ok, first] at runs
  have booked := s.finishWrite_booked src.key kport a words code effect
  rw [if_neg bad] at booked
  exact ⟨s, _, runs, State.finishWrite_resp .., booked, rfl⟩

end

/-- Settles O32: the law of the request, applied to the effect of each binding. -/
theorem graphParameterWrites : Obligations.GraphParameterWrites := by
  unfold Obligations.GraphParameterWrites
  intro s src a words w p found mirror each idle
  refine ⟨?bank, ?xy, ?length⟩
  case bank =>
    intro bank plain one _ _ wf apart
    have writes := p.bankWrites_single mirror each one w
    have claimed : s.claimed [{ engine := p.engine, word := p.base, value := w, glide := p.glide }] = [p.engine] := s.claimed_eq apart _
    have runs := execBankedWrite_found found src [w] bank plain
    have extra : s.paramExtra src.key p [w] =
        { range := true, res := s.bankedFree src.key [{ engine := p.engine, word := p.base, value := w, glide := p.glide }] } := by
      simp [State.paramExtra, bank, idle, writes]
    rw [extra, writes] at runs
    refine ⟨fun taken passes => ?_, fun passes => ⟨fun lands => ?_, fun held => ?_⟩⟩
    · have busy := State.bankedFree_refused (claimed.symm ▸ State.claims_refused taken)
      exact refuses_of_extra runs passes (by decide) (by simp [busy])
    · obtain ⟨mem, sets, rest⟩ := State.bankedWrite_lands claimed lands
      refine answers_of_passes runs passes ⟨?_, fun b outside => ?_, sets, rest⟩
      · rw [mem, memWord_memPutWord wf]
      · rw [mem, memByte_memPutWord wf _ _ _ outside]
    · exact answers_of_passes runs passes (State.bankedWrite_held (claimed.symm ▸ held))
  case xy =>
    intro xy plain passes
    have extra : s.paramExtra src.key p words = {} := by simp [State.paramExtra, xy, idle]
    have runs := execXyParameterWrite_found found src words xy plain
    rw [extra] at runs
    exact ⟨p.xyWrites words, answers_of_passes runs passes rfl, p.xyWrites_getElem? mirror each words⟩
  case length =>
    intro line d passes
    have value : wordsNat [w] = w.toNat := by simp [wordsNat]
    have extra : s.paramExtra src.key p [w] = { range := s.lenOk p.engine p.base w.toNat, res := true } := by
      simp [State.paramExtra, line, idle, value]
    have runs := execDelayLengthWrite_found found src [w] line
    rw [extra, value] at runs
    refine ⟨fun outside => ?_, fun ok => ?_⟩
    · exact refuses_of_extra runs passes (by decide) (by simp [State.lenOk_false outside])
    · rw [ok] at runs
      exact answers_of_passes runs passes (State.writeLength_eq mirror w.toNat)

end Sys2Proof.Claims
end

section
/-! Levelling and the page coder of a coefficient bank: what a copied row, a levelled bank and a coded page hold (R326 to R328, R853). -/
namespace Sys2Proof.Machine
open Sys2Proof

/-! ### Bytes stored in a row -/

theorem memBytes_eq_map (m : List Host.Cell) (a n : Nat) : memBytes m a n = (List.range n).map (fun i => memByte m (a + i)) := by
  induction n generalizing a with
  | zero => rfl
  | succ n ih =>
    rw [memBytes, ih, List.range_succ_eq_map, List.map_cons, List.map_map]
    congr 1
    exact List.map_congr_left (fun i _ => congrArg (memByte m) (by simp only [Nat.succ_eq_add_one]; omega))

@[simp] theorem length_memBytes (m : List Host.Cell) (a n : Nat) : (memBytes m a n).length = n := by
  simp [memBytes_eq_map]

theorem getD_memBytes (m : List Host.Cell) (a : Nat) {n i : Nat} (h : i < n) : (memBytes m a n).getD i 0 = memByte m (a + i) := by
  simp [memBytes_eq_map, h]

/-- A byte inside a stored list is that byte of the list; a byte outside is unchanged. -/
theorem memByte_memPutBytes {m : List Host.Cell} (wf : Memory.wf m) (k : Nat) (l : List Byte) (a : Nat) :
    memByte (memPutBytes m k l) a = if k ≤ a ∧ a < k + l.length then l.getD (a - k) 0 else memByte m a := by
  induction l generalizing m k with
  | nil => rw [if_neg (by simp)]; rfl
  | cons b t ih =>
    rw [memPutBytes, ih (memPut_wf wf k b), memByte_memPut wf, List.length_cons]
    by_cases first : a = k
    · rw [if_neg (by omega), if_pos first, if_pos (by omega), first, Nat.sub_self, List.getD_cons_zero]
    · rw [if_neg first]
      by_cases later : k + 1 ≤ a ∧ a < k + 1 + t.length
      · rw [if_pos later, if_pos (by omega), show a - k = a - (k + 1) + 1 by omega, List.getD_cons_succ]
      · rw [if_neg later, if_neg (by omega)]

/-- Bytes copied from `src` to `dst`: each stands at its new place, and no byte outside the destination changes. -/
theorem memByte_memPutBytes_memBytes {m : List Host.Cell} (wf : Memory.wf m) (src dst n a : Nat) :
    memByte (memPutBytes m dst (memBytes m src n)) a = if dst ≤ a ∧ a < dst + n then memByte m (src + (a - dst)) else memByte m a := by
  rw [memByte_memPutBytes wf, length_memBytes]
  split
  next inside => exact getD_memBytes m src (by omega)
  next => rfl

/-- A stored list reads back. -/
theorem memBytes_memPutBytes {m : List Host.Cell} (wf : Memory.wf m) (k : Nat) (l : List Byte) : memBytes (memPutBytes m k l) k l.length = l := by
  apply List.ext_getElem (length_memBytes ..)
  intro i _ short
  simp only [memBytes_eq_map, List.getElem_map, List.getElem_range, memByte_memPutBytes wf]
  rw [if_pos (by omega), Nat.add_sub_cancel_left, List.getD_eq_getElem?_getD, List.getElem?_eq_getElem short, Option.getD_some]

/-! ### The rows of a bank -/

/-- The rows of a list copied in order from a bank at `src` to a bank at `dst`. -/
def copyRows (src dst : Nat) (m : List Host.Cell) (rows : List Nat) : List Host.Cell :=
  rows.foldl (fun m r => memPutBytes m (dst + 4 * (64 * r)) (memBytes m (src + 4 * (64 * r)) 256)) m

theorem copyRows_cons (src dst : Nat) (m : List Host.Cell) (r : Nat) (rows : List Nat) : copyRows src dst m (r :: rows) =
    copyRows src dst (memPutBytes m (dst + 4 * (64 * r)) (memBytes m (src + 4 * (64 * r)) 256)) rows := by
  rw [copyRows, List.foldl_cons, copyRows]

/-- A byte that no copied row covers is unchanged. -/
theorem memByte_copyRows_outside {src dst : Nat} {m : List Host.Cell} (wf : Memory.wf m) {rows : List Nat} {a : Nat}
    (outside : ∀ r ∈ rows, a < dst + 4 * (64 * r) ∨ dst + 4 * (64 * r) + 256 ≤ a) : memByte (copyRows src dst m rows) a = memByte m a := by
  induction rows generalizing m with
  | nil => rfl
  | cons r t ih =>
    have here := outside r List.mem_cons_self
    rw [copyRows_cons, ih (memPutBytes_wf _ _ _ wf) (fun q member => outside q (List.mem_cons_of_mem _ member)),
      memByte_memPutBytes_memBytes wf, if_neg (by omega)]

/-- Between two banks that do not overlap, each copied row equals the row it was copied from. -/
theorem memByte_copyRows_inside {src dst : Nat} (apart : src + 0x80000 ≤ dst ∨ dst + 0x80000 ≤ src) {m : List Host.Cell} (wf : Memory.wf m)
    {rows : List Nat} (inBank : ∀ r ∈ rows, r < 2048) {r : Nat} (member : r ∈ rows) {j : Nat} (short : j < 256) :
    memByte (copyRows src dst m rows) (dst + 4 * (64 * r) + j) = memByte m (src + 4 * (64 * r) + j) := by
  induction rows generalizing m with
  | nil => cases member
  | cons q t ih =>
    have bound := inBank r member
    have boundFirst := inBank q List.mem_cons_self
    have wf' := memPutBytes_wf (memBytes m (src + 4 * (64 * q)) 256) m (dst + 4 * (64 * q)) wf
    rw [copyRows_cons]
    by_cases later : r ∈ t
    · rw [ih wf' (fun p inside => inBank p (List.mem_cons_of_mem _ inside)) later, memByte_memPutBytes_memBytes wf, if_neg (by omega)]
    · have same : r = q := (List.mem_cons.1 member).resolve_right later
      have alone : ∀ p ∈ t, dst + 4 * (64 * r) + j < dst + 4 * (64 * p) ∨ dst + 4 * (64 * p) + 256 ≤ dst + 4 * (64 * r) + j := by
        intro p inside
        have other : p ≠ r := fun e => later (e ▸ inside)
        omega
      rw [memByte_copyRows_outside wf' alone, memByte_memPutBytes_memBytes wf, same, if_pos (by omega), Nat.add_sub_cancel_left]

/-- The active and the shadow bank of an engine do not overlap (R45). -/
theorem State.banks_apart (s : State) (e : Nat) :
    s.bankAddr e true 0 + 0x80000 ≤ s.bankAddr e false 0 ∨ s.bankAddr e false 0 + 0x80000 ≤ s.bankAddr e true 0 := by
  have bankA : bankBase e false = winBase e + 0x500000 := by simp only [bankBase, Bool.false_eq_true, if_false]
  have bankB : bankBase e true = winBase e + 0x600000 := by simp only [bankBase, if_true]
  unfold State.bankAddr
  cases (s.engine ⟨e % 8, Nat.mod_lt _ (by decide)⟩).bankB
  · change bankBase e false + 4 * 0 + 0x80000 ≤ bankBase e true + 4 * 0 ∨ _
    omega
  · change _ ∨ bankBase e false + 4 * 0 + 0x80000 ≤ bankBase e true + 4 * 0
    omega

theorem State.bankAddr_congr {s t : State} (kept : t.eng = s.eng) (e : Nat) (active : Bool) (w : Nat) : t.bankAddr e active w = s.bankAddr e active w := by
  simp only [State.bankAddr, State.engine, kept]

theorem State.bankAddr_zero_add (s : State) (e : Nat) (active : Bool) (w : Nat) : s.bankAddr e active 0 + 4 * w = s.bankAddr e active w := by
  simp [State.bankAddr]

/-! ### The steps of levelling -/

/-- A store leaves the held writes, and where no word is uncorrectable none becomes so. -/
theorem State.storeBytes_clean {s : State} (clean : s.bad = []) (a : Nat) (l : List Byte) :
    (s.storeBytes a l).bad = [] ∧ (s.storeBytes a l).held = s.held := by
  unfold State.storeBytes State.store State.markStale
  dsimp only
  split <;> simp [clean]

/-- With nothing uncorrectable or correctable, levelling finds nothing as it reads. -/
theorem State.levelRead_clean {s : State} (clean : s.bad = []) (sound : s.soft = []) (e : Fin 8) (row : Nat) : s.levelRead e row = s := by
  simp [State.levelRead, State.noteSofts, State.softWords, clean, sound]

theorem State.foldl_levelRead_clean {s : State} (clean : s.bad = []) (sound : s.soft = []) (e : Fin 8) (rows : List Nat) :
    rows.foldl (fun s r => s.levelRead e r) s = s := by
  induction rows with
  | nil => rfl
  | cons r rows ih => rw [List.foldl_cons, State.levelRead_clean clean sound, ih]

/-- With nothing uncorrectable, a row is copied as it stands. -/
theorem State.levelRow_clean {s : State} (clean : s.bad = []) (e : Fin 8) (row : Nat) :
    s.levelRow e row = s.storeBytes (s.bankAddr e false (64 * row)) (memBytes s.mem (s.bankAddr e true (64 * row)) 256) := by
  simp [State.levelRow, clean]

/-- With nothing uncorrectable, the rows of a list are copied, and engines and held writes stay. -/
theorem State.foldl_levelRow_clean (e : Fin 8) (rows : List Nat) {s : State} (clean : s.bad = []) :
    let t := rows.foldl (fun s r => s.levelRow e r) s
    t.mem = copyRows (s.bankAddr e true 0) (s.bankAddr e false 0) s.mem rows ∧ t.eng = s.eng ∧ t.held = s.held := by
  induction rows generalizing s with
  | nil => exact ⟨rfl, rfl, rfl⟩
  | cons r rows ih =>
    obtain ⟨stored, eng⟩ := s.storeBytes_leaves (s.bankAddr e false (64 * r)) (memBytes s.mem (s.bankAddr e true (64 * r)) 256)
    obtain ⟨clean', held⟩ := s.storeBytes_clean clean (s.bankAddr e false (64 * r)) (memBytes s.mem (s.bankAddr e true (64 * r)) 256)
    obtain ⟨copied, eng', held'⟩ := ih clean'
    rw [State.bankAddr_congr eng, State.bankAddr_congr eng, stored] at copied
    simp only [List.foldl_cons, State.levelRow_clean clean, copyRows_cons, State.bankAddr_zero_add]
    exact ⟨copied, eng'.trans eng, held'.trans held⟩

theorem State.levelParity_leaves (s : State) (e : Fin 8) (i : Nat) : (s.levelParity e i).mem = s.mem ∧ (s.levelParity e i).held = s.held := by
  unfold State.levelParity
  rw [State.modEngine_mem, State.modEngine_held]
  exact ⟨rfl, rfl⟩

/-- Copied parity is not memory, and lands no write. -/
theorem State.foldl_levelParity_leaves (e : Fin 8) (pages : List Nat) (s : State) :
    (pages.foldl (fun s i => s.levelParity e i) s).mem = s.mem ∧ (pages.foldl (fun s i => s.levelParity e i) s).held = s.held := by
  induction pages generalizing s with
  | nil => exact ⟨rfl, rfl⟩
  | cons i pages ih =>
    obtain ⟨mem, held⟩ := ih (s.levelParity e i)
    obtain ⟨mem', held'⟩ := s.levelParity_leaves e i
    rw [List.foldl_cons]
    exact ⟨mem.trans mem', held.trans held'⟩

/-- The end of levelling's claims is no change of memory, of the engines, or of the held writes. -/
theorem State.releaseClaims_leaves (s : State) (e f : Fin 8) :
    (s.releaseClaims e).mem = s.mem ∧ (s.releaseClaims e).held = s.held ∧ (s.releaseClaims e).engine f = s.engine f := ⟨rfl, rfl, rfl⟩

theorem State.landHeld_none {s : State} (h : s.held = []) : s.landHeld = s := by simp [State.landHeld, h]

/-- The end of levelling with nothing uncorrectable, correctable or held: the dirty rows are copied, and the levelling state is cleared. -/
theorem State.level_clean {s : State} {e : Fin 8} (on : (s.engine e).levelling = true) (clean : s.bad = []) (sound : s.soft = []) (idle : s.held = []) :
    (s.level e).mem = copyRows (s.bankAddr e true 0) (s.bankAddr e false 0) s.mem (s.engine e).dirty ∧
      ((s.level e).engine e).dirty = [] ∧ ((s.level e).engine e).levelling = false := by
  have nothingFound := State.foldl_levelRead_clean clean sound e (s.engine e).dirty
  obtain ⟨copied, -, held⟩ := State.foldl_levelRow_clean e (s.engine e).dirty clean
  simp only [State.level, on, nothingFound, Bool.not_true, Bool.false_eq_true, if_false]
  generalize (s.engine e).dirty.foldl (fun s r => s.levelRow e r) s = t at copied held
  obtain ⟨mem, kept⟩ := t.foldl_levelParity_leaves e (((s.engine e).dirty.map (fun r => r / 16)).eraseDups)
  generalize (((s.engine e).dirty.map (fun r => r / 16)).eraseDups).foldl (fun s i => State.levelParity s e i) t = u at mem kept
  obtain ⟨mem', held', cleared⟩ := (u.modEngine e (fun x => { x with dirty := [], levelling := false })).releaseClaims_leaves e e
  rw [State.landHeld_none (held'.trans ((kept.trans held).trans idle)), mem', cleared, State.engine_modEngine_self]
  exact ⟨mem.trans copied, rfl, rfl⟩

theorem execLevellingEnd_idle {s : State} {e : Fin 8} (off : (s.engine e).levelling = false) : exec (.levellingEnd e) s = .next s := by
  change execLevellingEnd e s = _
  simp [execLevellingEnd, State.level, off]

/-! ### The page coder of a bank -/

theorem State.parityOf_setParity {s : State} (wf : aWf (List.replicate 64 0) s.integ.parity = true) (page : Nat) (l : List Byte) :
    (s.setParity page l).parityOf page = l := by
  rw [State.parityOf, State.setParity, aGet_aPut _ _ wf, if_pos rfl]

theorem execPageCoderDone_bank_idle {s : State} {e : Fin 8} (fresh : (s.engine e).stale = []) : exec (.pageCoderDone (.bank e)) s = .next s := by
  change execPageCoderDone (.bank e) s = _
  simp [execPageCoderDone, State.oldestStale, fresh]

/-- The oldest stale page of a bank is coded, unless it holds an uncorrectable word, and leaves the stale list. -/
theorem execPageCoderDone_bank_coded {s : State} {e : Fin 8} {i : Nat} {rest : List Nat} (stale : (s.engine e).stale = i :: rest)
    (clean : s.badIn (s.bankAddr e false (1024 * i)) 4096 = none) :
    exec (.pageCoderDone (.bank e)) s =
      .next ((s.codePage (s.bankAddr e false (1024 * i))).modEngine e (fun x => { x with stale := x.stale.drop 1 })) := by
  have oldest : s.oldestStale (.bank e) = some (s.bankAddr e false (1024 * i)) := by simp [State.oldestStale, stale, State.bankPage]
  change execPageCoderDone (.bank e) s = _
  simp only [execPageCoderDone, oldest, clean, State.freshPage]

end Sys2Proof.Machine

namespace Sys2Proof.Claims
open Sys2Proof Sys2Proof.Machine

/-- Settles O34: the rows are copied from one bank to the other, which do not overlap; the page coder is that of a coefficient bank. That
levelling ends for the whole bank at once is the model's choice (log entry 85). -/
theorem levellingAndPageCoding : Obligations.LevellingAndPageCoding := by
  unfold Obligations.LevellingAndPageCoding
  intro s e
  refine ⟨execLevellingEnd_idle, ?levelled, execPageCoderDone_bank_idle, ?coded⟩
  case levelled =>
    intro on clean sound idle wf inBank
    obtain ⟨mem, dirty, off⟩ := State.level_clean on clean sound idle
    refine ⟨s.level e, rfl, dirty, off, fun r member j short => ?_, fun b outside => ?_⟩
    · rw [mem, ← s.bankAddr_zero_add e false, ← s.bankAddr_zero_add e true]
      exact memByte_copyRows_inside (s.banks_apart e) wf inBank member short
    · simp only [← s.bankAddr_zero_add e false (64 * _)] at outside
      rw [mem]
      exact memByte_copyRows_outside wf outside
  case coded =>
    intro i rest stale wf clean
    refine ⟨_, execPageCoderDone_bank_coded stale clean, rfl, rfl, ?_, ?_⟩
    · rw [State.engine_modEngine_self]
      change { s.engine e with stale := (s.engine e).stale.drop 1 } = _
      rw [stale]
      rfl
    · exact State.parityOf_setParity wf _ _

end Sys2Proof.Claims
end

section
/-! The graph in force and its state: the operations that leave them alone (R378, R393, R411). -/
namespace Sys2Proof.Machine
open Sys2Proof

/-- `t` has the graph in force of `s`, in the same GraphState. -/
structure GraphKept (s t : State) : Prop where
  graph : t.til.graph = s.til.graph
  state : t.obj O.graphState = s.obj O.graphState

theorem GraphKept.refl (s : State) : GraphKept s s := ⟨rfl, rfl⟩

theorem GraphKept.trans {s t u : State} (h : GraphKept s t) (k : GraphKept t u) : GraphKept s u :=
  ⟨k.graph.trans h.graph, k.state.trans h.state⟩

/-- Operations in order, each of which leaves the graph alone. -/
theorem GraphKept.foldl {α : Type} {f : State → α → State} (kept : ∀ s a, GraphKept s (f s a)) (l : List α) (s : State) :
    GraphKept s (l.foldl f s) := by
  induction l generalizing s with
  | nil => exact .refl s
  | cons a l ih => exact (kept s a).trans (ih (f s a))

/-! ### Shared operations -/

theorem State.til_of_outside {s t : State} (h : t.outside = s.outside) : t.til = s.til :=
  congrArg (fun x => x.2.2.2.2.2.2.2.2.2.2.2.2.2.2.2.2.2.2.2.2.2.2.2.2.1) h

theorem GraphKept.ofBooked {s t : State} (h : Booked s t) : GraphKept s t :=
  ⟨congrArg Tiler.graph h.til, h.obj _ (by decide)⟩

theorem State.setObj_graphKept (s : State) {a : Nat} (v : Nat) (h : O.graphState ≠ a) : GraphKept s (s.setObj a v) :=
  ⟨rfl, s.obj_setObj_ne v h⟩

theorem State.count_graphKept (s : State) {a : Nat} (w n : Nat) (h : O.graphState ≠ a) : GraphKept s (s.count a w n) :=
  ⟨rfl, s.obj_count_ne w n h⟩

theorem State.event_graphKept (s : State) (code data : Nat) : GraphKept s (s.event code data) :=
  .ofBooked ((Booked.refl s).event code data)

theorem State.modEngine_graphKept (s : State) (e : Fin 8) (f : Engine → Engine) : GraphKept s (s.modEngine e f) := ⟨rfl, rfl⟩

theorem State.store_graphKept (s : State) (addr n v : Nat) : GraphKept s (s.store addr n v) := by
  obtain ⟨outside, -, obj⟩ := s.store_leaves addr n v
  exact ⟨congrArg Tiler.graph (State.til_of_outside outside), obj _ (by decide)⟩

theorem State.makeStatic_graphKept (s : State) (a n : Nat) : GraphKept s (s.makeStatic a n) := by
  refine GraphKept.foldl (fun s p => ?_) _ s
  obtain ⟨outside, -, obj⟩ := ({ s with integ := { s.integ with staticPages := setAdd s.integ.staticPages p } } : State).markStale_leaves p
  exact ⟨congrArg Tiler.graph (State.til_of_outside outside), obj _ (by decide)⟩

/-! ### Writes of parameters and commits -/

theorem State.enter_graphKept (s : State) (k : SessKey) : GraphKept s (s.enter k) := by
  obtain ⟨l, same⟩ := s.enter_eq k
  rw [same]
  exact ⟨rfl, rfl⟩

theorem State.modOpenSet_graphKept (s : State) (k : SessKey) (f : UpSet → UpSet) : GraphKept s (s.modOpenSet k f) := by
  obtain ⟨l, same⟩ := s.modOpenSet_eq k f
  rw [same]
  exact ⟨rfl, rfl⟩

theorem State.landWords_graphKept (s : State) (k : SessKey) (ws : List BankWrite) : GraphKept s (s.landWords k ws) := by
  refine (s.modOpenSet_graphKept k _).trans (GraphKept.foldl (fun s w => ?_) ws _)
  exact (s.store_graphKept _ _ _).trans ⟨rfl, rfl⟩

theorem State.bankedWrite_graphKept (s : State) (k : SessKey) (ws : List BankWrite) : GraphKept s (s.bankedWrite k ws) := by
  have claimed : GraphKept s (s.claimFor k ws) := (s.enter_graphKept k).trans (State.modOpenSet_graphKept _ k _)
  rw [State.bankedWrite_eq]
  split
  · exact claimed.trans ⟨rfl, rfl⟩
  · exact claimed.trans (State.landWords_graphKept _ k ws)

theorem State.paramEffect_graphKept (s : State) (k : SessKey) (p : Param) (words : List (BitVec 32)) : GraphKept s (s.paramEffect k p words) := by
  unfold State.paramEffect
  split
  · exact s.bankedWrite_graphKept k _
  · split
    · exact ⟨rfl, rfl⟩
    · exact GraphKept.trans (t := { s with params := s.params.map (fun z => if z.addr = p.addr then { z with lenVal := wordsNat words } else z) })
        ⟨rfl, rfl⟩ (GraphKept.foldl (fun s _ => s.modEngine_graphKept _ _) _ _)

/-- A write request leaves the graph alone if its effect does. -/
theorem State.writeReq_graphKept (s : State) (k : SessKey) (kport a : Nat) (words : List (BitVec 32)) (x : Extra) {effect : State → State}
    (kept : GraphKept s (effect s)) : GraphKept s (s.writeReq k kport a words x effect) := by
  unfold State.writeReq
  dsimp only
  split
  · exact .refl s
  · refine GraphKept.trans ?_ (.ofBooked (s.finishWrite_booked k kport a words _ effect))
    split
    · exact kept
    · exact .refl s

theorem State.writeParam_graphKept (s : State) (k : SessKey) (kport a : Nat) (words : List (BitVec 32)) : GraphKept s (s.writeParam k kport a words) := by
  unfold State.writeParam
  split
  · exact s.writeReq_graphKept k kport a words _ (.refl s)
  · exact s.writeReq_graphKept k kport a words _ (s.paramEffect_graphKept k _ words)

theorem State.seal_graphKept (s : State) (k : SessKey) (gen : Nat) : GraphKept s (s.seal k gen) := by
  have entered : GraphKept s ((s.modOpenSet k id).setSession { s.session k with lastGen := gen }) := by
    obtain ⟨outside, objs, -⟩ := (s.modOpenSet k id).setSession_leaves { s.session k with lastGen := gen }
    exact (s.modOpenSet_graphKept k id).trans
      ⟨congrArg Tiler.graph (State.til_of_outside outside), by rw [State.obj, objs, State.obj]⟩
  exact (entered.trans (State.setObj_graphKept _ gen (by decide : O.graphState ≠ O.generationCounter))).trans ⟨rfl, rfl⟩

theorem State.commitReq_graphKept (s : State) (k : SessKey) (kport : Nat) (words : List (BitVec 32)) (withGen : Bool) :
    GraphKept s (s.commitReq k kport words withGen) := by
  unfold State.commitReq
  split
  · exact .refl s
  · dsimp only
    have sealed : GraphKept s (if s.commitCode k words = rcOk then s.seal k s.nextGen else s) := by
      split
      · exact s.seal_graphKept k _
      · exact .refl s
    generalize (if s.commitCode k words = rcOk then s.seal k s.nextGen else s) = u at sealed
    refine sealed.trans (.ofBooked (Booked.respond (Booked.noteRights ?_ _ _ _ _) _ _ _ _))
    split
    · exact (Booked.refl _).refuseStrict
    · exact (Booked.refl _).journal _

theorem State.commitRestore_graphKept (s : State) : GraphKept s s.commitRestore := by
  unfold State.commitRestore
  split
  · exact (s.commitReq_graphKept _ _ _ _).trans ⟨rfl, rfl⟩
  · exact .refl s

theorem State.restoreParams_graphKept (s : State) (g : Graph) : GraphKept s (s.restoreParams g) := by
  unfold State.restoreParams
  split
  · exact .refl s
  · split
    · refine GraphKept.trans ?_ (State.commitRestore_graphKept _)
      refine GraphKept.foldl (fun s w => ?_) _ s
      split
      · split
        · exact .refl s
        · exact s.writeParam_graphKept _ _ _ _
      · exact .refl s
    · exact .refl s

/-! ### Orders to other devices -/

theorem State.sendRouted_graphKept (s : State) (bulk : Bool) (m : Msg) : GraphKept s (s.sendRouted bulk m) := by
  unfold State.sendRouted
  split
  · exact ⟨rfl, rfl⟩
  · split
    · exact ⟨rfl, rfl⟩
    · exact s.count_graphKept _ _ (by decide)

theorem State.sendOrders_graphKept (s : State) (g : Graph) : GraphKept s (s.sendOrders g) := by
  refine GraphKept.foldl (fun s b => ?_) _ s
  unfold State.sendOrder
  split
  · exact s.sendRouted_graphKept _ _
  · exact .refl s

/-! ### Abandoning a migration -/

theorem State.unstatic_graphKept (s : State) (pages : List Nat) : GraphKept s (s.unstatic pages) :=
  ⟨rfl, State.obj_setObj_ne _ _ (by decide)⟩

theorem State.freeLines_graphKept (s : State) (g : GImage) (l : List PlacedLine) : GraphKept s (s.freeLines g l) :=
  (GraphKept.foldl (fun s _ => s.modEngine_graphKept _ _) l s).trans (State.unstatic_graphKept _ _)

theorem State.eraseCode_graphKept (s : State) (l : List PlacedBlock) : GraphKept s (s.eraseCode l) :=
  GraphKept.foldl (fun s _ => GraphKept.foldl (fun s _ => s.store_graphKept _ _ _) _ s) l s

theorem State.removeBlocks_graphKept (s : State) (e : Nat) (l : List PlacedBlock) : GraphKept s (s.removeBlocks e l) := by
  unfold State.removeBlocks
  split
  · exact .refl s
  · split
    · exact (s.eraseCode_graphKept l).trans ⟨rfl, rfl⟩
    · dsimp only
      split <;> exact ⟨rfl, rfl⟩

theorem graphState_ne_backgroundPortCycles (e : Fin 8) : O.graphState ≠ O.backgroundPortCycles e.val := by
  revert e
  decide

theorem State.portObjects_graphKept (s : State) (g : Graph) (more : List PlacedBlock) (gone : List Nat) (mover : List (Nat × Nat)) :
    GraphKept s (s.portObjects g more gone mover) :=
  GraphKept.foldl (fun s e => s.setObj_graphKept _ (graphState_ne_backgroundPortCycles e)) engines s

theorem State.writeOrbShare_graphKept (s : State) (loader : Bool) (w : BitVec 64) : GraphKept s (s.writeOrbShare loader w) := by
  unfold State.writeOrbShare
  dsimp only
  split <;> exact ⟨rfl, rfl⟩

theorem State.reserve_graphKept (s : State) (port far : Nat) : GraphKept s (s.reserve port far) := ⟨rfl, rfl⟩

theorem State.reshare_graphKept (s : State) (g : Graph) : GraphKept s (s.reshare g) := by
  unfold State.reshare
  extract_lets sh v
  exact ((s.writeOrbShare_graphKept _ _).trans (State.reserve_graphKept _ _ _)).trans (State.portObjects_graphKept _ g _ _ _)

theorem State.noteStay_eq (s : State) (g : Graph) (m : Migration) : s.noteStay g m = s ∨ ∃ v, s.noteStay g m = s.setObj O.diagHave v := by
  unfold State.noteStay
  split
  · exact .inr ⟨_, rfl⟩
  · exact .inl rfl

/-- What an abandoned migration took and changed is given back: lines, pages and mirrors, then the program of the destination, then that of
the source (R411). -/
def State.withdraw (s : State) (g : Graph) (m : Migration) : State :=
  let pages := m.regions.filter (fun r => g.regions.all (fun q => q.eng != r.eng || q.base / 4096 != r.base / 4096))
  let old := g.blocks.filter (fun b => m.blocks.contains b.block && b.size != 0)
  let s1 := (((s.freeLines g.img m.lines).freePages pages).unmirror m).unmirrorSets m
  let s2 := if m.dst = [] then s1 else
    (((if s.obj O.migrationState = 1 then s1.setRange m.toEng 0 0 else s1.removeBlocks m.toEng m.dst).setLength m.toEng
      (g.img.programLength (g.onEngine m.toEng) (programEnd (g.onEngine m.toEng)))).reshare g)
  if old = [] || !m.switched then s2 else
    (s2.setRange m.fromEng 0 0).setLength m.fromEng (g.img.programLength (g.onEngine m.fromEng) (programEnd (g.onEngine m.fromEng)))

theorem State.withdraw_graphKept (s : State) (g : Graph) (m : Migration) : GraphKept s (s.withdraw g m) := by
  unfold State.withdraw
  extract_lets pages old s1 s2
  have freed : GraphKept s s1 :=
    ((s.freeLines_graphKept g.img m.lines).trans (State.unstatic_graphKept _ _)).trans ⟨rfl, rfl⟩
  have cleared : GraphKept s s2 := by
    refine freed.trans ?_
    dsimp only [s2]
    split
    · exact .refl s1
    · refine GraphKept.trans ?_ (State.reshare_graphKept _ g)
      split
      · exact ⟨rfl, rfl⟩
      · exact (s1.removeBlocks_graphKept _ _).trans ⟨rfl, rfl⟩
  split
  · exact cleared
  · exact cleared.trans ⟨rfl, rfl⟩

section
variable {s : State} {m : Migration} {g : Graph} (moving : s.til.mig = some m) (inForce : s.til.graph = some g)
include moving inForce

/-- An abandoned migration is withdrawn and forgotten, and reported. -/
theorem State.abandon_eq (cause : Nat) : ∃ t : State, t.til = { (s.withdraw g m).til with mig := none } ∧
    s.abandon cause = (((t.setObjs [(O.migrationState, 6), (O.migrationCause, cause)]).count O.migrationsAbandoned 32 1).event 0x0603
      (m.block % 65536 + cause * 65536)).noteStay g m := by
  simp only [State.abandon, moving, inForce]
  exact ⟨_, rfl, rfl⟩

/-- After a migration has been abandoned there is none, the graph stays, and the objects give the cause (R411). -/
theorem State.abandon_leaves (cause : Nat) : (s.abandon cause).til.mig = none ∧ (s.abandon cause).til.graph = s.til.graph ∧
    (s.abandon cause).obj O.migrationState = 6 ∧ (s.abandon cause).obj O.migrationCause = cause := by
  obtain ⟨t, til, abandoned⟩ := State.abandon_eq moving inForce cause
  have graph : t.til.graph = s.til.graph := til ▸ (s.withdraw_graphKept g m).graph
  have mig : t.til.mig = none := by rw [til]
  let u := ((t.setObjs [(O.migrationState, 6), (O.migrationCause, cause)]).count O.migrationsAbandoned 32 1).event 0x0603
    (m.block % 65536 + cause * 65536)
  have reported : u.til = t.til ∧ u.obj O.migrationState = 6 ∧ u.obj O.migrationCause = cause := by
    refine ⟨State.event_til _ _ _, ?_, ?_⟩ <;>
      rw [State.obj_event _ _ _ (by decide), State.obj_count_ne _ _ _ (by decide)] <;> simp +decide [State.setObjs, State.obj_setObj]
  obtain ⟨sameTil, six, why⟩ := reported
  rw [abandoned]
  change (u.noteStay g m).til.mig = none ∧ _
  rcases u.noteStay_eq g m with same | ⟨v, counted⟩
  · rw [same, sameTil]
    exact ⟨mig, graph, six, why⟩
  · rw [counted, State.setObj_til, sameTil, State.obj_setObj_ne _ _ (by decide), State.obj_setObj_ne _ _ (by decide)]
    exact ⟨mig, graph, six, why⟩

end

end Sys2Proof.Machine
end

section
/-! The commands of the Tiler on the graph in force: admission, start, unloading, reload, lost devices (R357, R378, R393 to R395, R410, R705). -/
namespace Sys2Proof.Machine
open Sys2Proof

/-! ### Admission -/

theorem State.setObjs_leaves (s : State) (l : List (Nat × Nat)) : (s.setObjs l).til = s.til ∧ (s.setObjs l).mem = s.mem ∧ (s.setObjs l).eng = s.eng := by
  induction l generalizing s with
  | nil => exact ⟨rfl, rfl, rfl⟩
  | cons p l ih => exact ih (s.setObj p.1 p.2)

/-- The objects that a rejection sets, after those of its diagnosis (R378). -/
theorem State.obj_rejectImage (s : State) (bytes : List Byte) (d : Diag) (st : Nat) {o : Nat} (h : o ≠ O.eventsLost) :
    (s.rejectImage bytes d st).obj o = if o = O.domainStagingFree then s.obj O.domainStagingFree + bytes.length
      else if o = O.graphState then st else (s.setDiag d).obj o := by
  simp only [State.rejectImage, State.setObjs, List.foldl_cons, List.foldl_nil, State.obj_setObj, State.obj_event _ _ _ h]

/-- A rejection leaves the graph, memory and the engines (R378). -/
theorem State.rejectImage_leaves (s : State) (bytes : List Byte) (d : Diag) (st : Nat) : (s.rejectImage bytes d st).til = s.til ∧
    (s.rejectImage bytes d st).mem = s.mem ∧ (s.rejectImage bytes d st).eng = s.eng := by
  unfold State.rejectImage
  obtain ⟨til, mem, eng⟩ := ((s.setDiag d).event 0x0601 d.code).setObjs_leaves
    [(O.graphState, st), (O.domainStagingFree, s.obj O.domainStagingFree + bytes.length)]
  rw [til, mem, eng, State.event_til, State.event_mem, State.event_eng]
  exact State.setObjs_leaves s _

/-- A rejection reports its diagnosis, gives the staging back, and sets GraphState (R378). -/
theorem State.rejectImage_reports (s : State) (bytes : List Byte) (d : Diag) (st : Nat) : let t := s.rejectImage bytes d st
    t.obj O.diagCode = d.code ∧ t.obj O.diagTable = d.table ∧ t.obj O.diagEntry = d.entry ∧ t.obj O.diagDetail = d.detail ∧
      t.obj O.graphState = st ∧ t.obj O.domainStagingFree = s.obj O.domainStagingFree + bytes.length := by
  refine ⟨?_, ?_, ?_, ?_, ?_, ?_⟩ <;> rw [State.obj_rejectImage _ _ _ _ (by decide)] <;>
    simp +decide [State.setDiag, State.setObjs, State.obj_setObj]

theorem State.foldl_til {α : Type} {f : State → α → State} (kept : ∀ s a, (f s a).til = s.til) (l : List α) (s : State) : (l.foldl f s).til = s.til := by
  induction l generalizing s with
  | nil => rfl
  | cons a l ih => exact (ih (f s a)).trans (kept s a)

theorem State.placeObjects_til (s : State) (g : Graph) (paths : List Nat) (port far : Nat) : (s.placeObjects g paths port far).til = s.til := by
  unfold State.placeObjects
  extract_lets s1 s2 s3
  calc ((s3.putPolicies (s.edgePolicies g)).portObjects g [] [] []).til
      _ = (s3.putPolicies (s.edgePolicies g)).til := State.foldl_til (fun s _ => s.setObj_til _ _) _ _
      _ = s3.til := (State.setObjs_leaves _ _).1
      _ = s2.til := State.foldl_til (fun s _ => s.setObj_til _ _) _ _
      _ = s1.til := State.foldl_til (fun s _ => s.setObj_til _ _) _ _
      _ = s.til := State.foldl_til (fun s e => (s.setObjs_leaves _).1) _ _

/-- The objects of a graph in force are set, GraphState 2 after those of its placement. -/
theorem State.reportPlaced_inForce (s : State) {g : Graph} (p : Plan) (inForce : s.til.graph = some g) :
    let t := ((s.placeObjects g p.paths p.port p.far).setObjs [(O.graphState, 2), (O.graphId, g.id)]).count O.placementChanges 32 1
    t.til.graph = some g ∧ t.obj O.graphState = 2 := by
  obtain ⟨til, -⟩ := (s.placeObjects g p.paths p.port p.far).setObjs_leaves [(O.graphState, 2), (O.graphId, g.id)]
  constructor
  · rw [State.count_til, til, State.placeObjects_til, inForce]
  · rw [State.obj_count_ne _ _ _ (by decide)]
    simp +decide only [State.setObjs, List.foldl_cons, List.foldl_nil, State.obj_setObj, if_true, if_false]

/-- A loaded graph is in force, in GraphState 2 (R378). -/
theorem State.loadGraph_inForce (s : State) (g : Graph) (p : Plan) : (s.loadGraph g p).til.graph = some g ∧ (s.loadGraph g p).obj O.graphState = 2 := by
  unfold State.loadGraph
  extract_lets i s1 s2 s3 s4 til s5 s6
  have placed : s6.til.graph = some g ∧ s6.obj O.graphState = 2 := s5.reportPlaced_inForce p rfl
  have kept : GraphKept s6 (((s6.imagePages g).foldl (fun s a => s.makeStatic a 4096) s6).restoreParams g) :=
    (GraphKept.foldl (fun s a => s.makeStatic_graphKept a 4096) _ s6).trans (State.restoreParams_graphKept _ g)
  exact ⟨kept.graph.trans placed.1, kept.state.trans placed.2⟩

/-- Pins ordered by the Origin change no byte of an image. -/
theorem State.ordered_bytes (s : State) (g : GImage) : (s.ordered g).bytes = g.bytes := by
  unfold State.ordered
  split
  · rfl
  · generalize s.net.orders = l
    induction l generalizing g with
    | nil => rfl
    | cons o l ih => exact ih _

/-- An accepted image is that of the graph in force, which is loaded (R378, R395). -/
theorem State.admitImage_inForce (s : State) (bytes : List Byte) (mode : Nat) :
    ∃ g, (s.admitImage bytes mode).til.graph = some g ∧ g.image = bytes ∧ (s.admitImage bytes mode).obj O.graphState = 2 := by
  unfold State.admitImage
  extract_lets i p s0 s1 g
  obtain ⟨graph, loaded⟩ := s1.loadGraph_inForce g p
  have sent := (s1.loadGraph g p).sendOrders_graphKept g
  exact ⟨g, sent.graph.trans graph, s.ordered_bytes (gImage bytes), sent.state.trans loaded⟩

theorem State.rejectedState_eq (s : State) (prev : Nat) : s.rejectedState prev =
    if s.til.unload = true ∨ s.obj O.graphState = 5 then 5 else if (prev = 2 ∨ prev = 3) ∧ s.til.graph ≠ none then prev else 4 := by
  simp [State.rejectedState, Option.isSome_iff_ne_none]

theorem execGraphAdmission_idle {s : State} (h : s.til.checking = none) : exec .graphAdmission s = .next s := by
  change execGraphAdmission s = _
  simp only [execGraphAdmission, h]

section
variable {s : State} {bytes : List Byte} {prev mode : Nat} (checking : s.til.checking = some (bytes, prev, mode))
include checking

theorem execGraphAdmission_rejects {d : Diag} (fails : s.judge bytes mode false = some d) : exec .graphAdmission s =
    .next (({ s with til := { s.til with checking := none } } : State).rejectImage bytes d (s.rejectedState prev)) := by
  change execGraphAdmission s = _
  simp only [execGraphAdmission, checking, fails]

theorem execGraphAdmission_admits (passes : s.judge bytes mode false = none) : exec .graphAdmission s =
    .next (({ s with til := { s.til with checking := none } } : State).admitImage bytes mode) := by
  change execGraphAdmission s = _
  simp only [execGraphAdmission, checking, passes]

end

/-- An image that fails no check of its own is refused by the mode alone (R378). -/
theorem State.judge_sound {s : State} {bytes : List Byte} {mode : Nat} (whole : graphFault (s.graphEnv mode) bytes = none)
    (fits : leastFault (s.planOf bytes mode).faults = none) :
    s.judge bytes mode false = if mode = 0 ∨ mode = 1 ∨ mode = 6 ∨ mode = 7 then some (diag 0x14 0 0 mode) else none := by
  simp [State.judge, whole, fits]

/-! ### Start -/

theorem execGraphStart_idle {s : State} (h : s.til.graph = none ∨ s.obj O.graphState ≠ 2 ∨ s.mode < 3 ∨ 5 < s.mode) :
    exec .graphStart s = .next s := by
  change execGraphStart s = _
  unfold execGraphStart
  split
  next g inForce =>
    have waits : s.obj O.graphState ≠ 2 ∨ s.mode < 3 ∨ 5 < s.mode := h.resolve_left (by simp [inForce])
    rw [if_neg (by simp only [Bool.and_eq_true, decide_eq_true_eq]; omega)]
  next => rfl

theorem execGraphStart_starts {s : State} {g : Graph} (inForce : s.til.graph = some g) (loaded : s.obj O.graphState = 2) (low : 3 ≤ s.mode)
    (high : s.mode ≤ 5) : exec .graphStart s = .next (s.startGraph g) := by
  change execGraphStart s = _
  simp [execGraphStart, inForce, loaded, low, high]

/-- In Standalone mode, and without Reoptimise, no migration begins (R386). -/
theorem State.reoptimise_idle {s : State} (h : s.mode = 3 ∨ s.obj O.reoptimise ≠ 1) : s.reoptimise = s := by
  unfold State.reoptimise
  split
  · rfl
  · rw [if_pos (by rcases h with h | h <;> simp [h])]

/-- A graph that starts runs on every engine with a block, or with one that a migration has loaded; no memory changes (R393). -/
theorem State.startGraph_leaves {s : State} (g : Graph) (stays : s.mode = 3 ∨ s.obj O.reoptimise ≠ 1) : let t := s.startGraph g
    t.obj O.graphState = 3 ∧ t.obj O.graphStartTick = wrapAdd 48 s.tick 1 ∧ t.til = s.til ∧ t.mem = s.mem ∧
      ∀ e : Fin 8, t.engine e = if g.onEngine e.val = [] ∧
          ((if s.obj O.migrationState = 1 then [] else (s.til.mig.map Migration.dst).getD []).all (fun b => b.eng != e.val)) = true
        then s.engine e else { s.engine e with running := true } := by
  dsimp only
  unfold State.startGraph
  extract_lets more s1 s2 s3
  have obj : ∀ o, o ≠ O.eventsLost → o ≠ O.graphState → o ≠ O.graphStartTick → s3.obj o = s.obj o := by
    intro o notLost notState notTick
    simp only [s3, State.setObjs, List.foldl_cons, List.foldl_nil]
    rw [State.obj_event _ _ _ notLost, State.obj_setObj_ne _ _ notTick, State.obj_setObj_ne _ _ notState]
    rfl
  have idle : ((s3.unmute .graphReplace).unmute .modeChange).reoptimise = (s3.unmute .graphReplace).unmute .modeChange :=
    State.reoptimise_idle (stays.imp (fun h => (obj _ (by decide) (by decide) (by decide)).trans h)
      (fun h same => h ((obj O.reoptimise (by decide) (by decide) (by decide)).symm.trans same)))
  rw [idle]
  refine ⟨?_, ?_, State.event_til _ _ _, State.event_mem _ _ _, fun e => ?_⟩
  · exact (State.obj_event _ _ _ (by decide)).trans ((State.obj_setObj_ne (a := O.graphStartTick) _ _ (by decide)).trans (State.obj_setObj_self _ _ _))
  · exact (State.obj_event _ _ _ (by decide)).trans (State.obj_setObj_self _ _ _)
  · have eng : s3.eng = s1.eng := State.event_eng _ _ _
    change lane s3.eng e = _
    rw [eng]
    exact lane_tab _ e

/-! ### Unloading -/

/-- What an accepted write of GraphUnload does (R357, R860). -/
def State.requestUnload (s : State) : State :=
  let s1 := s.setObj O.pendingStartMode 0
  if s.til.graph.isNone then s1
  else
    let s2 := (if s1.migrating then s1.abandon 6 else s1).setObj O.graphState 5
    { s2 with til := { s2.til with unload := true } }

theorem execGraphUnload_eq (src : Src) (words : List (BitVec 32)) (s : State) : exec (.graphUnload src words) s =
    .next (s.writeReq src.key src.link.val O.graphUnload words {} State.requestUnload) := rfl

theorem State.requestUnload_none {s : State} (empty : s.til.graph = none) : s.requestUnload = s.setObj O.pendingStartMode 0 := by
  simp [State.requestUnload, empty]

theorem State.abandon_idle {s : State} (h : s.til.mig = none) (cause : Nat) : s.abandon cause = s := by simp only [State.abandon, h]

theorem State.requestUnload_idle {s : State} (inForce : s.til.graph ≠ none) (still : s.til.mig = none) : s.requestUnload =
    { (s.setObj O.pendingStartMode 0).setObj O.graphState 5 with til := { s.til with unload := true } } := by
  have same := State.abandon_idle (s := s.setObj O.pendingStartMode 0) still 6
  simp [State.requestUnload, inForce, same]

theorem State.requestUnload_moving {s : State} (inForce : s.til.graph ≠ none) (moving : s.til.mig ≠ none) : let u := s.requestUnload
    u.obj O.graphState = 5 ∧ u.til.unload = true ∧ u.til.mig = none ∧ u.til.graph = s.til.graph ∧ u.obj O.migrationState = 6 ∧ u.obj O.migrationCause = 6 := by
  obtain ⟨g, graph⟩ := Option.ne_none_iff_exists'.1 inForce
  obtain ⟨m, mig⟩ := Option.ne_none_iff_exists'.1 moving
  obtain ⟨gone, kept, six, why⟩ := State.abandon_leaves (s := s.setObj O.pendingStartMode 0) mig graph 6
  have under : (s.setObj O.pendingStartMode 0).migrating = true := by simp [State.migrating, mig]
  have effect : s.requestUnload = { ((s.setObj O.pendingStartMode 0).abandon 6).setObj O.graphState 5 with
      til := { ((s.setObj O.pendingStartMode 0).abandon 6).til with unload := true } } := by
    simp [State.requestUnload, graph, under]
  rw [effect]
  exact ⟨State.obj_setObj_self _ _ _, rfl, gone, kept, (State.obj_setObj_ne _ _ (by decide)).trans six, (State.obj_setObj_ne _ _ (by decide)).trans why⟩

/-! ### Reload -/

theorem execPageReload_idle {s : State} {a : BitVec 40} (h : s.til.graph = none ∨ a.toNat / 4096 * 4096 ∉ s.integ.poison) :
    exec (.pageReload a) s = .next s := by
  change execPageReload a s = _
  unfold execPageReload
  dsimp only
  split
  · rfl
  next g inForce =>
    have clean : a.toNat / 4096 * 4096 ∉ s.integ.poison := h.resolve_left (by simp [inForce])
    rw [if_neg (by simpa using clean)]

section
variable {s : State} {a : BitVec 40} {g : Graph} (inForce : s.til.graph = some g) (marked : a.toNat / 4096 * 4096 ∈ s.integ.poison)
include inForce marked

theorem execPageReload_none (h : s.rebuilt g (a.toNat / 4096 * 4096) = none) : exec (.pageReload a) s = .next s := by
  change execPageReload a s = _
  simp [execPageReload, inForce, marked, h]

theorem execPageReload_some {l : List Byte} (h : s.rebuilt g (a.toNat / 4096 * 4096) = some l) :
    exec (.pageReload a) s = .next ((s.storeBytes (a.toNat / 4096 * 4096) l).reloaded (a.toNat / 4096 * 4096)) := by
  change execPageReload a s = _
  simp [execPageReload, inForce, marked, h]

end

/-- A rebuilt page is a whole page. -/
theorem State.length_rebuilt {s : State} {g : Graph} {page : Nat} {l : List Byte} (h : s.rebuilt g page = some l) : l.length = 4096 := by
  unfold State.rebuilt at h
  dsimp only at h
  split at h
  all_goals
    split at h
    · cases h
    · rw [← Option.some.inj h, length_memBytes]

theorem State.rangeCount_leaves (s : State) (page obj : Nat) : (s.rangeCount page obj).mem = s.mem ∧ (s.rangeCount page obj).integ = s.integ := by
  unfold State.rangeCount
  split
  · dsimp only
    split <;> exact ⟨rfl, rfl⟩
  · exact ⟨rfl, rfl⟩

/-- A page whose good copy has arrived loses its mark; memory stays (R702). -/
theorem State.reloaded_leaves (s : State) (page : Nat) :
    (s.reloaded page).mem = s.mem ∧ (s.reloaded page).integ.poison = setDel s.integ.poison page := by
  obtain ⟨mem, integ⟩ := (((((s.curePage page).count O.pagesReloaded 32 1).event 0x0502 page).freeTrap page)).rangeCount_leaves page
    O.rangePagesReloadedOrZeroed
  rw [State.reloaded, mem, integ]
  exact ⟨State.event_mem _ _ _, congrArg Integrity.poison (State.event_integ _ _ _)⟩

/-! ### Devices lost -/

theorem execDeviceLost_idle {s : State} {addr : BitVec 12} (h : s.joined = false ∨ s.isOrigin = false ∨ addr.toNat = s.ownAddr) :
    exec (.deviceLost addr) s = .next s := by
  change execDeviceLost addr s = _
  unfold execDeviceLost
  dsimp only
  rw [if_pos (by rcases h with h | h | h <;> simp [h])]

section
variable {s : State} {addr : BitVec 12} (joined : s.joined = true) (origin : s.isOrigin = true) (other : addr.toNat ≠ s.ownAddr)
include joined origin other

theorem execDeviceLost_still (still : s.til.mig = none) : exec (.deviceLost addr) s = .next (s.event 0x0906 addr.toNat) := by
  change execDeviceLost addr s = _
  simp [execDeviceLost, joined, origin, other, still]

/-- The loss of the destination abandons a migration with cause 4 (R410). -/
theorem execDeviceLost_destination {m : Migration} {g : Graph} (moving : s.til.mig = some m) (inForce : s.til.graph = some g)
    (across : m.fromDev ≠ m.toDev) (lost : m.toDev = addr.toNat) : exec (.deviceLost addr) s = .next ((s.event 0x0906 addr.toNat).abandon 4) := by
  change execDeviceLost addr s = _
  rw [lost] at across
  simp [execDeviceLost, joined, origin, other, moving, inForce, across, lost]

end

end Sys2Proof.Machine

namespace Sys2Proof.Claims
open Sys2Proof Sys2Proof.Machine

/-- Settles O48: each clause is the law of its command; an admitted image is in force because nothing after its load touches the graph. -/
theorem graphAdmissionStartAndUnload : Obligations.GraphAdmissionStartAndUnload := by
  unfold Obligations.GraphAdmissionStartAndUnload
  intro s src words a addr
  dsimp only
  refine ⟨execGraphAdmission_idle, ?admission, execGraphStart_idle, ?starts, ?unloads, execPageReload_idle, ?reloads, execDeviceLost_idle, ?lost⟩
  case admission =>
    intro bytes prev mode checking
    refine ⟨fun d fails => ?_, fun whole fits => ⟨fun refusing => ?_, fun n0 n1 n6 n7 => ?_⟩⟩
    · obtain ⟨til, mem, eng⟩ := ({ s with til := { s.til with checking := none } } : State).rejectImage_leaves bytes d (s.rejectedState prev)
      obtain ⟨code, table, entry, detail, state, free⟩ :=
        ({ s with til := { s.til with checking := none } } : State).rejectImage_reports bytes d (s.rejectedState prev)
      exact ⟨_, execGraphAdmission_rejects checking fails, by rw [til], by rw [til], mem, eng, code, table, entry, detail,
        state.trans (s.rejectedState_eq prev), free⟩
    · have fails := (State.judge_sound whole fits).trans (if_pos refusing)
      obtain ⟨til, -, eng⟩ :=
        ({ s with til := { s.til with checking := none } } : State).rejectImage_leaves bytes (diag 0x14 0 0 mode) (s.rejectedState prev)
      obtain ⟨code, -⟩ :=
        ({ s with til := { s.til with checking := none } } : State).rejectImage_reports bytes (diag 0x14 0 0 mode) (s.rejectedState prev)
      exact ⟨_, execGraphAdmission_rejects checking fails, code, by rw [til], eng⟩
    · have passes := (State.judge_sound whole fits).trans (if_neg (by omega))
      obtain ⟨g, graph, image, loaded⟩ := ({ s with til := { s.til with checking := none } } : State).admitImage_inForce bytes mode
      exact ⟨_, g, execGraphAdmission_admits checking passes, graph, image, loaded⟩
  case starts =>
    intro g inForce loaded low high stays
    obtain ⟨state, tick, til, mem, engine⟩ := State.startGraph_leaves g stays
    refine ⟨_, execGraphStart_starts inForce loaded low high, state, tick, til, mem, fun e => (engine e).trans ?_⟩
    congr 1
    cases mig : s.til.mig with
    | none => simp
    | some m => by_cases loading : s.obj O.migrationState = 1 <;> simp [loading]
  case unloads =>
    intro passes
    have runs := execGraphUnload_eq src words s
    exact ⟨fun empty => answers_of_passes runs passes (State.requestUnload_none empty),
      fun inForce still => answers_of_passes runs passes (State.requestUnload_idle inForce still),
      fun inForce moving => answers_of_passes runs passes (State.requestUnload_moving inForce moving)⟩
  case reloads =>
    intro g inForce marked
    refine ⟨execPageReload_none inForce marked, fun l rebuilt wf => ?_⟩
    have whole := State.length_rebuilt rebuilt
    obtain ⟨mem, poison⟩ := (s.storeBytes (a.toNat / 4096 * 4096) l).reloaded_leaves (a.toNat / 4096 * 4096)
    obtain ⟨stored, -⟩ := s.storeBytes_leaves (a.toNat / 4096 * 4096) l
    refine ⟨_, execPageReload_some inForce marked rebuilt, ?_, ?_, fun b outside => ?_⟩
    · rw [mem, stored, ← whole]
      exact memBytes_memPutBytes wf _ l
    · rw [poison]
      simp [setDel]
    · rw [mem, stored, memByte_memPutBytes wf, if_neg (by omega)]
  case lost =>
    intro joined origin other
    refine ⟨execDeviceLost_still joined origin other, fun m moving inForce across lost => ?_⟩
    obtain ⟨g, graph⟩ := Option.ne_none_iff_exists'.1 inForce
    have til := s.event_til 0x0906 addr.toNat
    obtain ⟨gone, kept, six, why⟩ := State.abandon_leaves (s := s.event 0x0906 addr.toNat) (til ▸ moving) (til ▸ graph) 4
    exact ⟨_, execDeviceLost_destination joined origin other moving graph across lost, gone, kept.trans (congrArg Tiler.graph til), six, why⟩

end Sys2Proof.Claims
end

section
/-! The end of a crossfade: what its objects hold when a second group names an edge that no graph has (R404, R412). -/
namespace Sys2Proof.Machine
open Sys2Proof

/-- A graph in force with no block. -/
def bareGraph : Graph :=
  { image := [], id := 0, blocks := [], regions := [], lines := [], edges := [], exBase := 0, exSize := 0, exOffs := [], priv := [] }

/-- A switched warm migration with second group 5 for edge 81,927. The graph has no such edge, and no bound of the model shuts it out: its
EdgeFirstGroup would stand at the address of MigrationsCompleted (R412). -/
def strayMigration : Migration :=
  { block := 0, blocks := [], fromDev := 0, fromEng := 0, toDev := 0, toEng := 1, warm := true, dst := [], regions := [], lines := [], priv := []
    second := [(81927, 5)], aTick := 0, switched := true, mover := false, snapshot := [] }

/-- The device after reset with that graph and that migration in its crossfade, no crossfade of which is left. -/
def strayState : State :=
  { State.reset.setObjs [(O.migrationState, 4), (O.reoptimise, 0)] with
    til := { Tiler.reset with graph := some bareGraph, mig := some strayMigration } }

/-- An edge's number is not bounded by the address of its object: that of edge 81,927 is MigrationsCompleted. -/
theorem edgeFirstGroup_meets_migrationsCompleted : O.edgeFirstGroup 81927 = O.migrationsCompleted := by decide

/-- The objects the statement speaks of, before the crossfade ends. -/
theorem strayState_fades : strayState.obj O.migrationState = 4 ∧ strayState.obj O.reoptimise ≠ 1 ∧ strayState.obj O.migrationsCompleted = 0 ∧
    strayState.net.xfades = [] := by decide +kernel

/-- The end of the crossfade writes the second group into EdgeFirstGroup, and counts on from that value. -/
theorem crossfadeEnd_counts_from_stray : ∀ t, exec .crossfadeEnd strayState = .next t → t.obj O.migrationsCompleted = 6 := by
  have counted : (match exec .crossfadeEnd strayState with
      | .next t => t.obj O.migrationsCompleted
      | _ => 0) = 6 := by decide +kernel
  intro t runs
  rwa [runs] at counted

end Sys2Proof.Machine

namespace Sys2Proof.Claims
open Sys2Proof Sys2Proof.Machine

/-- Refutes O49: the end of a crossfade does not always count one migration more. The statement bounds no edge number of a migration's second
groups, and EdgeFirstGroup of edge 81,927 is the object MigrationsCompleted, so the group stored there is what the count goes on from. -/
theorem not_migrationGoesThroughItsStates : ¬ Obligations.MigrationGoesThroughItsStates := by
  unfold Obligations.MigrationGoesThroughItsStates
  intro holds
  obtain ⟨-, -, -, moves, -⟩ := holds strayState { key := .host, link := 0 } [] []
  obtain ⟨-, -, -, -, -, -, -, -, -, -, -, -, ends⟩ := moves strayMigration bareGraph rfl rfl
  obtain ⟨fading, still, none, noFades⟩ := strayState_fades
  obtain ⟨t, runs, -, -, -, counted⟩ := ends rfl (.inr fading) (fun x member => by simp [noFades] at member) rfl still
  rw [crossfadeEnd_counts_from_stray t runs, none] at counted
  exact absurd counted (by decide)

end Sys2Proof.Claims
end

section
/-! The fabric's own record: the operations of the loader and of the Tiler that leave it alone (R387, R398, R411). -/
namespace Sys2Proof.Machine
open Sys2Proof

/-- Operations in order, each of which leaves the fabric's record. -/
theorem State.foldl_net {α : Type} {f : State → α → State} (kept : ∀ s a, (f s a).net = s.net) (l : List α) (s : State) : (l.foldl f s).net = s.net := by
  induction l generalizing s with
  | nil => rfl
  | cons a l ih => exact (ih (f s a)).trans (kept s a)

theorem State.net_of_outside {s t : State} (h : t.outside = s.outside) : t.net = s.net :=
  congrArg (fun x => x.2.2.2.2.2.2.2.2.2.2.2.2.2.2.2.2.2.2.2.2.2.2.2.2.2.2.2.1) h

/-! ### Memory -/

@[simp] theorem State.store_net (s : State) (addr n v : Nat) : (s.store addr n v).net = s.net := State.net_of_outside (s.store_leaves addr n v).1

@[simp] theorem State.storeBytes_net (s : State) (a : Nat) (l : List Byte) : (s.storeBytes a l).net = s.net := s.store_net _ _ _

@[simp] theorem State.markStale_net (s : State) (a : Nat) : (s.markStale a).net = s.net := State.net_of_outside (s.markStale_leaves a).1

@[simp] theorem State.zeroRange_net (s : State) (a n : Nat) : (s.zeroRange a n).net = s.net := rfl

@[simp] theorem State.storeCode_net (s : State) (e : Fin 8) (pos : Nat) (l : List Nat) : (s.storeCode e pos l).net = s.net :=
  State.foldl_net (fun s _ => s.store_net _ _ _) _ s

@[simp] theorem State.noteSofts_net (s : State) (a n : Nat) : (s.noteSofts a n).net = s.net := by
  refine State.foldl_net (fun s a => ?_) _ s
  unfold State.noteSoft
  split
  · rfl
  · split <;> rfl

@[simp] theorem State.copyRange_net (s : State) (src dst n : Nat) : (s.copyRange src dst n).net = s.net :=
  (State.storeBytes_net _ _ _).trans (s.noteSofts_net src n)

@[simp] theorem State.moveBytes_net (s : State) (src dst n : Nat) : (s.moveBytes src dst n).net = s.net :=
  (State.storeBytes_net _ _ _).trans (s.noteSofts_net src n)

theorem State.mute_net (s : State) (r : MuteReason) : (s.mute r).net = s.net := by
  unfold State.mute
  split <;> rfl

theorem State.raiseCause_net (s : State) (b : Nat) : (s.raiseCause b).net = s.net := by
  unfold State.raiseCause
  extract_lets old new s1 s2 s3
  have raised : s3.net = s.net := by
    have reported : s2.net = s.net := by
      dsimp only [s2]
      split
      · rfl
      · exact s1.event_net _ _
    dsimp only [s3]
    split <;> exact reported
  split
  · exact raised
  · split
    · split
      · exact (s3.mute_net _).trans raised
      · exact raised
    · split
      · refine Eq.trans ?_ raised
        unfold State.holdRequest
        split <;> rfl
      · exact ((State.mute_net _ _).trans (State.event_net _ _ _)).trans raised

theorem State.queuePage_net (s : State) (a : Nat) : (s.queuePage a).net = s.net := by
  unfold State.queuePage
  dsimp only
  split
  · rfl
  · split <;> rfl

theorem State.recordBad_net (s : State) (a : Nat) : (s.recordBad a).net = s.net := by
  unfold State.recordBad
  split <;> rfl

theorem State.stormCount_net (s : State) : s.stormCount.net = s.net := by
  unfold State.stormCount
  dsimp only
  split
  · exact (State.raiseCause_net _ _).trans (State.event_net _ _ _)
  · rfl

theorem State.noteBad_net (s : State) (reader a : Nat) : (s.noteBad reader a).net = s.net := by
  unfold State.noteBad
  split
  · exact s.queuePage_net a
  · rw [State.queuePage_net, State.stormCount_net, State.recordBad_net, State.event_net]
    rfl

/-! ### Banks -/

theorem State.recoverAt_net {s t : State} {page : Nat} (h : s.recoverAt page = some t) : t.net = s.net := by
  unfold State.recoverAt at h
  split at h
  · cases h
  · rw [← Option.some.inj h]
    exact State.event_net _ _ _

theorem State.levelRead_net (s : State) (e : Fin 8) (row : Nat) : (s.levelRead e row).net = s.net := by
  unfold State.levelRead
  extract_lets src bad s1
  have noted : s1.net = s.net := (State.noteSofts_net _ _ _).trans (State.foldl_net (fun s a => s.noteBad_net 0 a) bad s)
  split
  · exact noted
  · refine Eq.trans ?_ noted
    unfold State.levelRecover
    split
    next t recovered => exact State.recoverAt_net recovered
    next => exact State.event_net _ _ _

theorem State.levelRow_net (s : State) (e : Fin 8) (row : Nat) : (s.levelRow e row).net = s.net :=
  (State.foldl_net (fun s _ => s.store_net _ _ _) _ _).trans (s.storeBytes_net _ _)

theorem State.landWords_net (s : State) (k : SessKey) (ws : List BankWrite) : (s.landWords k ws).net = s.net := by
  obtain ⟨l, same⟩ := s.modOpenSet_eq k (fun u => { u with words := u.words ++ ws })
  rw [State.landWords, same]
  exact State.foldl_net (f := State.landWord) (fun s w => s.store_net _ _ _) ws _

theorem State.landHeld_net (s : State) : s.landHeld.net = s.net := by
  unfold State.landHeld
  generalize ([] : List Nat) = blocked
  suffices ∀ (l : List Held) (p : State × List Nat), (l.foldl (fun (p : State × List Nat) h =>
      if p.1.heldFree p.2 h then ({ p.1 with held := p.1.held.erase h }.landWords h.key h.writes, p.2)
      else (p.1, p.2 ++ h.writes.map (·.engine))) p).1.net = p.1.net from this s.held (s, blocked)
  intro l
  induction l with
  | nil => exact fun _ => rfl
  | cons h l ih =>
    intro p
    rw [List.foldl_cons, ih]
    split
    · exact State.landWords_net _ _ _
    · rfl

@[simp] theorem State.level_net (s : State) (e : Fin 8) : (s.level e).net = s.net := by
  unfold State.level
  split
  · rfl
  · extract_lets rows s1 s2
    have copied : s1.net = s.net :=
      (State.foldl_net (fun s r => s.levelRow_net e r) rows _).trans (State.foldl_net (fun s r => s.levelRead_net e r) rows s)
    have coded : s2.net = s1.net := State.foldl_net (f := fun s i => s.levelParity e i) (fun _ _ => rfl) _ s1
    exact (State.landHeld_net _).trans (coded.trans copied)

@[simp] theorem State.resetBank_net (s : State) (e : Fin 8) : (s.resetBank e).net = s.net :=
  (State.level_net _ e).trans (State.foldl_net
    (f := fun s i => (s.codePage (bankBase e.val false + 4096 * i)).codePage (bankBase e.val true + 4096 * i)) (fun _ _ => rfl) _ s)

theorem State.codeBank_net (s : State) (page : Nat) : (s.codeBank page).net = s.net := by
  unfold State.codeBank
  split
  · split <;> rfl
  · rfl

@[simp] theorem State.copyBank_net (s : State) (a b : PlacedRegion) : (s.copyBank a b).net = s.net := by
  unfold State.copyBank
  extract_lets x y go inside gs s1
  have each : ∀ active s, (go active s).net = s.net := fun _ s => s.copyRange_net _ _ _
  have copied : s1.net = s.net := ((go true (go false s)).modEngine_net _ _).trans ((each true _).trans (each false s))
  exact (State.foldl_net (fun s p => s.codeBank_net p) _ s1).trans copied

/-! ### Regions, lines and parameters -/

@[simp] theorem State.makeStatic_net (s : State) (a n : Nat) : (s.makeStatic a n).net = s.net := by
  refine State.foldl_net (fun s p => ?_) _ s
  exact State.markStale_net _ p

@[simp] theorem State.fillRange_net (s : State) (a n : Nat) (init : List Byte) : (s.fillRange a n init).net = s.net := State.storeBytes_net _ _ _

@[simp] theorem State.loadRegion_net (s : State) (g : GImage) (r : PlacedRegion) : (s.loadRegion g r).net = s.net := by
  unfold State.loadRegion
  split
  · rfl
  · extract_lets init s1
    have filled : s1.net = s.net := State.foldl_net (fun s _ => s.fillRange_net _ _ _) _ s
    split
    · exact (State.foldl_net (fun s p => s.codeBank_net p) _ s1).trans filled
    · split
      · exact (s1.makeStatic_net _ _).trans filled
      · exact filled

@[simp] theorem State.fillLine_net (s : State) (x : GLine) (base : Nat) (xs : List Word) : (s.fillLine x base xs).net = s.net := by
  unfold State.fillLine
  dsimp only
  split <;> exact State.foldl_net (fun s _ => s.store_net _ _ _) _ _

theorem State.loadLine_net (s : State) (g : GImage) (p : PlacedLine) : (s.loadLine g p).net = s.net := by
  unfold State.loadLine
  split
  · rfl
  · split
    · rfl
    · dsimp only
      split <;> simp

theorem State.stageSpan_net (s : State) (e : Fin 8) (q : Nat) : (s.stageSpan e q).net = s.net := by
  unfold State.stageSpan
  dsimp only
  split
  · rfl
  · refine State.foldl_net (fun s g => ?_) _ s
    unfold State.stageGroup
    dsimp only
    split
    · rfl
    · exact State.moveBytes_net _ _ _ _

theorem State.moveRegion_net (s : State) (g : Graph) (r : PlacedRegion) : (s.moveRegion g r).net = s.net := by
  unfold State.moveRegion
  dsimp only
  split
  · exact s.loadRegion_net _ _
  · split <;> simp

theorem State.moveStorage_net (s : State) (g : GImage) (p : PlacedLine) : (s.moveStorage g p).net = s.net := by
  unfold State.moveStorage
  split
  · rfl
  · split
    · exact s.loadLine_net g p
    · split
      · rfl
      · exact s.fillLine_net _ _ _

theorem State.moveLine_net (s : State) (g : Graph) (all : List PlacedLine) (p : PlacedLine) : (s.moveLine g all p).net = s.net := by
  unfold State.moveLine
  split
  · dsimp only
    split
    · exact (State.stageSpan_net _ _ _).trans (s.moveStorage_net g.img p)
    · rfl
  · exact (State.stageSpan_net _ _ _).trans (s.moveStorage_net g.img p)

theorem State.moveParams_net (s : State) (g : Graph) (m : Migration) : (s.moveParams g m).net = s.net := by
  refine State.foldl_net (fun s p => ?_) _ s
  split
  · split
    · rfl
    · dsimp only
      split
      · exact State.copyRange_net _ _ _ _
      · rfl
  · rfl

theorem State.remoteParams_net (s : State) (g : Graph) (m : Migration) : (s.remoteParams g m).net = s.net := by
  refine State.foldl_net (fun s p => ?_) _ s
  split
  · rfl
  · refine State.foldl_net (fun s i => ?_) _ s
    dsimp only
    split <;> simp [State.free]

/-! ### Shares, objects and ranges -/

@[simp] theorem State.setObjs_net (s : State) (l : List (Nat × Nat)) : (s.setObjs l).net = s.net := State.foldl_net (fun s _ => s.setObj_net _ _) l s

@[simp] theorem State.writeOrbShare_net (s : State) (loader : Bool) (w : BitVec 64) : (s.writeOrbShare loader w).net = s.net := by
  unfold State.writeOrbShare
  dsimp only
  split <;> rfl

@[simp] theorem State.portObjects_net (s : State) (g : Graph) (more : List PlacedBlock) (gone : List Nat) (mover : List (Nat × Nat)) :
    (s.portObjects g more gone mover).net = s.net :=
  State.foldl_net (fun s _ => s.setObj_net _ _) _ s

@[simp] theorem State.portsNow_net (s : State) (g : Graph) : (s.portsNow g).net = s.net := by
  unfold State.portsNow
  split <;> exact s.portObjects_net _ _ _ _

@[simp] theorem State.putPolicies_net (s : State) (pol : List (Nat × Nat)) : (s.putPolicies pol).net = s.net := s.setObjs_net pol

@[simp] theorem State.reshare_net (s : State) (g : Graph) : (s.reshare g).net = s.net :=
  (State.portObjects_net _ _ _ _ _).trans (s.writeOrbShare_net _ _)

theorem State.removeBlocks_net (s : State) (e : Nat) (l : List PlacedBlock) : (s.removeBlocks e l).net = s.net := by
  unfold State.removeBlocks
  split
  · rfl
  · split
    · exact State.foldl_net (fun s _ => s.storeCode_net _ _ _) l s
    · dsimp only
      split <;> rfl

/-! ### The load of a destination, and its withdrawal -/

theorem State.levelMove_net (s : State) (g : Graph) (m : Migration) : (s.levelMove g m).net = s.net := by
  unfold State.levelMove
  dsimp only
  split <;> split <;> simp

theorem State.loadMove_net (s : State) (g : Graph) (m : Migration) (mv : Move) : (s.loadMove g m mv).net = s.net := by
  unfold State.loadMove
  extract_lets e s0 s1 s2 s3 s4 s5 s6
  have lines : s3.net = s.net := calc
    s3.net = s2.net := State.foldl_net (fun s p => s.moveLine_net g mv.lines p) _ s2
    _ = s1.net := State.foldl_net (fun s r => s.moveRegion_net g r) _ s1
    _ = s.net := s.levelMove_net g m
  have fetch : s5.net = s.net := by
    dsimp only [s5]
    split <;> exact lines
  have params : s6.net = s.net := by
    dsimp only [s6]
    split
    · exact (s5.moveParams_net g m).trans fetch
    · exact (s5.remoteParams_net g m).trans fetch
  exact (State.portsNow_net _ g).trans ((s6.writeOrbShare_net _ _).trans params)

theorem State.freeLines_net (s : State) (g : GImage) (l : List PlacedLine) : (s.freeLines g l).net = s.net :=
  State.foldl_net (f := fun s (x : PlacedLine) => s.setDesc (eng8 x.eng) x.desc Desc.zero) (fun _ _ => rfl) l s

theorem State.withdraw_net (s : State) (g : Graph) (m : Migration) : (s.withdraw g m).net = s.net := by
  unfold State.withdraw
  extract_lets pages old s1 s2
  have freed : s1.net = s.net := s.freeLines_net g.img m.lines
  have cleared : s2.net = s.net := by
    refine Eq.trans ?_ freed
    dsimp only [s2]
    split
    · rfl
    · refine (State.reshare_net _ g).trans ?_
      split
      · rfl
      · exact s1.removeBlocks_net _ _
  split <;> exact cleared

end Sys2Proof.Machine
end

section
/-! Messages on their way: what taking, flooding and sending one leaves alone (R576, R577, R591). -/
namespace Sys2Proof.Machine
open Sys2Proof

/-- `t` differs from `s` by messages alone: the links, the inbox, the flooded messages seen, and the count of messages without a route. -/
structure Sent (s t : State) : Prop where
  eng : t.eng = s.eng
  mem : t.mem = s.mem
  til : t.til = s.til
  obj : ∀ o, o ≠ O.noRouteDrops → t.obj o = s.obj o
  net : t.net = { s.net with inbox := t.net.inbox, seen := t.net.seen }

theorem Sent.refl (s : State) : Sent s s := ⟨rfl, rfl, rfl, fun _ _ => rfl, rfl⟩

theorem Sent.trans {s t u : State} (h : Sent s t) (k : Sent t u) : Sent s u :=
  ⟨k.eng.trans h.eng, k.mem.trans h.mem, k.til.trans h.til, fun o ho => (k.obj o ho).trans (h.obj o ho), by rw [k.net, h.net]⟩

/-- Operations in order, each of which only sends. -/
theorem Sent.foldl {α : Type} {f : State → α → State} (sent : ∀ s a, Sent s (f s a)) (l : List α) (s : State) : Sent s (l.foldl f s) := by
  induction l generalizing s with
  | nil => exact .refl s
  | cons a l ih => exact (sent s a).trans (ih (f s a))

theorem State.takeMsg_sent (s : State) (ty : Nat) : Sent s (s.takeMsg ty) := ⟨rfl, rfl, rfl, fun _ _ => rfl, rfl⟩

theorem State.noteFlood_sent (s : State) (src seq : Nat) : Sent s (s.noteFlood src seq) := ⟨rfl, rfl, rfl, fun _ _ => rfl, rfl⟩

theorem State.sendOn_sent (s : State) (k : Fin 4) (bulk : Bool) (m : Msg) : Sent s (s.sendOn k bulk m) := ⟨rfl, rfl, rfl, fun _ _ => rfl, rfl⟩

theorem State.spread_sent (s : State) (m : Msg) : Sent s (s.spread m) :=
  (s.noteFlood_sent _ _).trans (.foldl (fun s k => s.sendOn_sent k false m) _ _)

theorem State.sendRouted_sent (s : State) (bulk : Bool) (m : Msg) : Sent s (s.sendRouted bulk m) := by
  unfold State.sendRouted
  split
  · exact ⟨rfl, rfl, rfl, fun _ _ => rfl, rfl⟩
  · split
    · exact s.sendOn_sent _ _ _
    · exact ⟨rfl, rfl, rfl, fun _ other => s.obj_count_ne _ _ other, rfl⟩

theorem State.sendDown_sent (s : State) (m : Msg) : Sent s (s.sendDown m) := by
  unfold State.sendDown
  split
  · exact s.sendRouted_sent _ _
  · exact s.spread_sent m

/-- Whether a message has been seen depends on the messages seen. -/
theorem State.seenFlood_noteFlood (s : State) (src seq : Nat) : (s.noteFlood src seq).seenFlood src seq = true := by
  simp [State.seenFlood, State.noteFlood, State.modNet]

/-! ### The links a message is sent on -/

theorem State.linkOf_sendOn (s : State) (k : Fin 4) (m : Msg) (j : Fin 4) :
    (s.sendOn k false m).linkOf j = if j = k then { s.linkOf j with ctl := (s.linkOf j).ctl.send m } else s.linkOf j := by
  by_cases same : j = k
  · rw [if_pos same, same]
    exact lane_put_same _ _ _
  · rw [if_neg same]
    exact lane_put_other _ _ _ _ (Ne.symm same)

/-- A message sent on each of some links is queued there once, and on no other link. -/
theorem State.linkOf_foldl_sendOn (m : Msg) {l : List (Fin 4)} (once : l.Nodup) (s : State) (j : Fin 4) :
    (l.foldl (fun s k => s.sendOn k false m) s).linkOf j =
      if j ∈ l then { s.linkOf j with ctl := (s.linkOf j).ctl.send m } else s.linkOf j := by
  induction l generalizing s with
  | nil => rfl
  | cons k l ih =>
    obtain ⟨fresh, rest⟩ := List.nodup_cons.1 once
    rw [List.foldl_cons, ih rest, State.linkOf_sendOn]
    by_cases same : j = k
    · rw [if_neg (same ▸ fresh), if_pos same, if_pos (List.mem_cons.2 (.inl same))]
    · simp [same]

theorem State.floodPorts_nodup (s : State) (except : Option (Fin 4)) : (s.floodPorts except).Nodup :=
  List.Pairwise.filter _ (by decide : ports.Nodup)

theorem splitCells_ne_nil (n : Nat) (l : List (BitVec 64)) : splitCells n l ≠ [] := by
  cases n with
  | zero => simp [splitCells]
  | succ n =>
    unfold splitCells
    split <;> simp

/-- A message is at least one cell. -/
theorem Chan.length_queue_lt_send (c : Chan) (m : Msg) : c.queue.length < (c.send m).queue.length := by
  have cells := List.length_pos_iff.2 (splitCells_ne_nil 32 m.payload)
  simp only [Chan.send, List.length_append, List.length_map, List.length_zipIdx]
  omega

/-- Messages flooded on every link change the links alone. -/
theorem State.flood_eq (s : State) (src ty : Nat) (b : List Byte) (except : Option (Fin 4)) :
    ∃ l, s.flood src ty b except = { s with link := l } := by
  unfold State.flood
  generalize s.floodPorts except = on
  induction on generalizing s with
  | nil => exact ⟨_, rfl⟩
  | cons k on ih =>
    obtain ⟨l, same⟩ := ih (s.sendOn k false { s.mkMsg 0xFFF 0 ty b with src := src })
    exact ⟨l, same⟩

end Sys2Proof.Machine
end

section
/-! LINK_DOWN, TOPOLOGY and ADDRESS (R577, R581, R585, R607). -/
namespace Sys2Proof.Machine
open Sys2Proof

/-! ### LINK_DOWN -/

section
variable {s : State} {k portA portB : Fin 4} {src addrA addrB : BitVec 12} {f : BitVec 48} {seq : BitVec 16}

theorem execLinkDown_idle (idle : s.framing k = false) : exec (.linkDown k src addrA portA addrB portB f seq) s = .next s := by
  change execLinkDown k src addrA portA addrB portB f seq s = _
  simp [execLinkDown, idle]

theorem execLinkDown_seen (frames : s.framing k = true) (seen : s.seenFlood src.toNat seq.toNat = true) :
    exec (.linkDown k src addrA portA addrB portB f seq) s = .next (s.takeMsg 3) := by
  change execLinkDown k src addrA portA addrB portB f seq s = _
  simp [execLinkDown, frames, seen]

end

theorem State.noteOrigin_eq (s : State) (a : Nat × Nat) : ∃ l, s.noteOrigin a = { s with net := { s.net with originDown := l } } := by
  unfold State.noteOrigin
  split <;> exact ⟨_, rfl⟩

/-- A lost link changes the fabric's record alone; it waits for repair if plans for it are held and it does not wait yet (R607). -/
theorem State.noteLost_eq (s : State) (a b : Nat × Nat) (f : Nat) : ∃ n : Net, s.noteLost a b f = { s with net := n } ∧ n.seen = s.net.seen ∧
    n.lost = if s.net.plans.any (fun p => sameLink p.endA p.endB a b) ∧ ¬(s.net.lost.any (fun l => sameLink l.1 l.2.1 a b) = true)
      then s.net.lost ++ [(a, b, f)] else s.net.lost := by
  obtain ⟨l, first⟩ := s.noteOrigin_eq a
  obtain ⟨l', second⟩ := State.noteOrigin_eq { s with net := { s.net with originDown := l } } b
  rw [State.noteLost, first, second]
  dsimp only [State.modNet, Net.portDown]
  simp only [Bool.and_eq_true, Bool.not_eq_true', Bool.not_eq_true]
  split
  next waits => exact ⟨_, rfl, rfl, rfl⟩
  next stays => exact ⟨_, rfl, rfl, rfl⟩

/-- A new LINK_DOWN is remembered and flooded on, and its link noted (R577, R607). -/
theorem execLinkDown_new {s : State} {k portA portB : Fin 4} {src addrA addrB : BitVec 12} {f : BitVec 48} {seq : BitVec 16}
    (frames : s.framing k = true) (new : s.seenFlood src.toNat seq.toNat = false) :
    ∃ t, exec (.linkDown k src addrA portA addrB portB f seq) s = .next t ∧ t.seenFlood src.toNat seq.toNat = true ∧
      t.objs = s.objs ∧ t.eng = s.eng ∧ t.mem = s.mem ∧
      t.net.lost = if s.net.plans.any (fun p => sameLink p.endA p.endB (addrA.toNat, portA.val) (addrB.toNat, portB.val)) ∧
          ¬(s.net.lost.any (fun l => sameLink l.1 l.2.1 (addrA.toNat, portA.val) (addrB.toNat, portB.val)) = true)
        then s.net.lost ++ [((addrA.toNat, portA.val), (addrB.toNat, portB.val), f.toNat)] else s.net.lost := by
  let u := (s.takeMsg 3).noteFlood src.toNat seq.toNat
  let bytes := leBytes 2 addrA.toNat ++ leBytes 1 portA.val ++ leBytes 2 addrB.toNat ++ leBytes 1 portB.val ++ leBytes 6 f.toNat ++ leBytes 2 seq.toNat
  have runs : exec (.linkDown k src addrA portA addrB portB f seq) s =
      .next ((u.flood src.toNat 3 bytes (some k)).noteLost (addrA.toNat, portA.val) (addrB.toNat, portB.val) f.toNat) := by
    change execLinkDown k src addrA portA addrB portB f seq s = _
    simp [execLinkDown, frames, new, u, bytes]
  obtain ⟨l, flooded⟩ := u.flood_eq src.toNat 3 bytes (some k)
  obtain ⟨n, noted, seen, lost⟩ := State.noteLost_eq { u with link := l } (addrA.toNat, portA.val) (addrB.toNat, portB.val) f.toNat
  rw [flooded, noted] at runs
  refine ⟨_, runs, ?_, rfl, rfl, rfl, lost⟩
  change n.seen.any _ = true
  rw [seen]
  exact (s.takeMsg 3).seenFlood_noteFlood _ _

/-! ### ADDRESS -/

theorem State.patchbayFollow_eq (s : State) : ∃ c, s.patchbayFollow = { s with clk := c } := by
  unfold State.patchbayFollow
  split <;> exact ⟨_, rfl⟩

theorem State.setObjs_link (s : State) (l : List (Nat × Nat)) : (s.setObjs l).link = s.link := by
  induction l generalizing s with
  | nil => rfl
  | cons p l ih => exact ih (s.setObj p.1 p.2)

theorem State.event_patchbayFollow_leaves (s : State) (code data : Nat) : let t := (s.event code data).patchbayFollow
    t.eng = s.eng ∧ t.mem = s.mem ∧ t.link = s.link ∧ t.net = s.net ∧ ∀ o, o ≠ O.eventsLost → t.obj o = s.obj o := by
  dsimp only
  obtain ⟨c, follows⟩ := (s.event code data).patchbayFollow_eq
  rw [follows]
  exact ⟨s.event_eng _ _, s.event_mem _ _, s.event_link _ _, s.event_net _ _, fun o other => s.obj_event _ _ other⟩

/-- A device that takes an address changes its objects, the source of its ticks and its pending routes (R585, R785). -/
theorem State.takeAddress_leaves (s : State) (addr x y coord origin : Nat) : let t := s.takeAddress addr x y coord origin
    t.eng = s.eng ∧ t.mem = s.mem ∧ t.link = s.link ∧ t.net.topo = s.net.topo ∧ ∀ o, o ≠ O.eventsLost →
      t.obj o = (s.setObjs [(O.fabricAddress, addr), (O.torusX, x), (O.torusY, y), (O.coordinates, coord), (O.originAddress, origin),
        (O.fabricState, 3)]).obj o := by
  dsimp only
  unfold State.takeAddress
  extract_lets s1 s2
  obtain ⟨-, mem, eng⟩ := s.setObjs_leaves [(O.fabricAddress, addr), (O.torusX, x), (O.torusY, y), (O.coordinates, coord),
    (O.originAddress, origin), (O.fabricState, 3)]
  obtain ⟨eng', mem', link', net', obj'⟩ := s1.event_patchbayFollow_leaves 0x0901 (addr + coord % 65536 * 65536)
  have named : s2.eng = s.eng ∧ s2.mem = s.mem ∧ s2.link = s.link ∧ s2.net.topo = s.net.topo ∧ ∀ o, o ≠ O.eventsLost → s2.obj o = s1.obj o :=
    ⟨eng'.trans eng, mem'.trans mem, link'.trans (s.setObjs_link _), congrArg Net.topo (net'.trans (s.setObjs_net _)), obj'⟩
  split <;> exact named

section
variable {s : State} {sender addr : BitVec 12} {uid : BitVec 64} {x y : BitVec 8} {coord : BitVec 16}

/-- The device that ADDRESS names takes it (R585). -/
theorem execAddress_own (own : uid.toNat = s.obj O.uid) : ∃ t, exec (.address sender uid addr x y coord) s = .next t ∧
    t.obj O.fabricAddress = addr.toNat ∧ t.obj O.torusX = x.toNat ∧ t.obj O.torusY = y.toNat ∧ t.obj O.coordinates = coord.toNat ∧
    t.obj O.originAddress = sender.toNat ∧ t.obj O.fabricState = 3 ∧ t.link = s.link ∧ t.eng = s.eng ∧ t.mem = s.mem := by
  have runs : exec (.address sender uid addr x y coord) s =
      .next ((s.takeMsg 9).takeAddress addr.toNat x.toNat y.toNat coord.toNat sender.toNat) := by
    change execAddress sender uid addr x y coord s = _
    simp [execAddress, own]
  obtain ⟨eng, mem, link, -, obj⟩ := (s.takeMsg 9).takeAddress_leaves addr.toNat x.toNat y.toNat coord.toNat sender.toNat
  refine ⟨_, runs, ?_, ?_, ?_, ?_, ?_, ?_, link, eng, mem⟩ <;> rw [obj _ (by decide)] <;> simp +decide [State.setObjs, State.obj_setObj]

theorem execAddress_other (other : uid.toNat ≠ s.obj O.uid) : exec (.address sender uid addr x y coord) s =
    .next ((s.takeMsg 9).passOn (s.addressMsg sender.toNat uid.toNat addr.toNat x.toNat y.toNat coord.toNat)) := by
  change execAddress sender uid addr x y coord s = _
  simp [execAddress, other]

end

theorem State.passOn_seen {s : State} {m : Msg} (seen : s.seenFlood m.src (s.msgMark m) = true) : s.passOn m = s := if_pos seen

theorem State.passOn_new {s : State} {m : Msg} (new : s.seenFlood m.src (s.msgMark m) = false) : s.passOn m = s.spread m :=
  if_neg (by simp [new])

/-- Messages sent on some links change the links alone. -/
theorem State.foldl_sendOn_eq (m : Msg) (l : List (Fin 4)) (s : State) : ∃ v, l.foldl (fun s k => s.sendOn k false m) s = { s with link := v } := by
  induction l generalizing s with
  | nil => exact ⟨_, rfl⟩
  | cons k l ih =>
    obtain ⟨v, same⟩ := ih (s.sendOn k false m)
    exact ⟨v, same⟩

/-- A message that is spread is remembered, and queued on each link of the flood (R576, R577). -/
theorem State.spread_leaves (s : State) (m : Msg) : let t := s.spread m
    t.objs = s.objs ∧ t.eng = s.eng ∧ t.mem = s.mem ∧ t.seenFlood m.src (s.msgMark m) = true ∧
      ∀ j, t.linkOf j = if j ∈ s.floodPorts (s.net.path.map port4) then { s.linkOf j with ctl := (s.linkOf j).ctl.send m } else s.linkOf j := by
  dsimp only
  obtain ⟨v, same⟩ := State.foldl_sendOn_eq m (s.floodPorts (s.net.path.map port4)) (s.noteFlood m.src (s.msgMark m))
  have links := State.linkOf_foldl_sendOn m (s.floodPorts_nodup (s.net.path.map port4)) (s.noteFlood m.src (s.msgMark m))
  refine ⟨?_, ?_, ?_, ?_, links⟩ <;> rw [State.spread, same]
  · rfl
  · rfl
  · rfl
  · exact s.seenFlood_noteFlood _ _

/-! ### TOPOLOGY -/

/-- `t` has the engines, the memory and the collected topology of `s`. -/
structure TopoKept (s t : State) : Prop where
  eng : t.eng = s.eng
  mem : t.mem = s.mem
  topo : t.net.topo = s.net.topo

theorem TopoKept.refl (s : State) : TopoKept s s := ⟨rfl, rfl, rfl⟩

theorem TopoKept.trans {s t u : State} (h : TopoKept s t) (k : TopoKept t u) : TopoKept s u :=
  ⟨k.eng.trans h.eng, k.mem.trans h.mem, k.topo.trans h.topo⟩

theorem TopoKept.foldl {α : Type} {f : State → α → State} (kept : ∀ s a, TopoKept s (f s a)) (l : List α) (s : State) : TopoKept s (l.foldl f s) := by
  induction l generalizing s with
  | nil => exact .refl s
  | cons a l ih => exact (kept s a).trans (ih (f s a))

theorem Sent.topoKept {s t : State} (h : Sent s t) : TopoKept s t := ⟨h.eng, h.mem, by rw [h.net]⟩

/-- The Origin that assigns addresses keeps the topology it has collected (R585). -/
theorem State.assignAll_topoKept (s : State) : TopoKept s s.assignAll := by
  unfold State.assignAll
  extract_lets own l here epoch lost gone old dims addrs d coordOf ownA s1 s2 s3 own_
  split
  · exact .refl s
  · have taken : TopoKept s s2 := by
      obtain ⟨eng, mem, -, topo, -⟩ := s1.takeAddress_leaves ownA d.1 d.2 (coordOf ownA) ownA
      exact .trans ⟨rfl, rfl, rfl⟩ ⟨eng, mem, topo⟩
    have addressed : TopoKept s s3 := taken.trans (.foldl (fun s p => (s.spread_sent _).topoKept) _ s2)
    split
    · exact addressed
    · refine addressed.trans (.trans (t := own_) ⟨rfl, rfl, rfl⟩ (.foldl (fun s dev => ?_) l own_))
      split
      · split
        · exact .refl s
        · exact .foldl (fun s f => (s.sendDown_sent _).topoKept) _ s
      · exact .refl s

section
variable {s : State} {uid : BitVec 64} {prio : BitVec 8} {addr : BitVec 16} {p0 p1 p2 p3 : TopologyPort}

/-- The Origin keeps a TOPOLOGY in place of an older one of its device (R581). -/
theorem execTopology_origin (leads : s.leads = true) :
    ∃ t, exec (.topology uid prio addr p0 p1 p2 p3) s = .next t ∧ t.net.topo = s.net.topo.filter (fun d => d.key.uid != uid.toNat) ++
      [{ key := { prio := prio.toNat, uid := uid.toNat }, addr := addr.toNat, ports := [topoPort p0, topoPort p1, topoPort p2, topoPort p3] }] ∧
      t.eng = s.eng ∧ t.mem = s.mem := by
  have leads' : (s.takeMsg 8).leads = true := leads
  have runs : exec (.topology uid prio addr p0 p1 p2 p3) s = .next ((s.takeMsg 8).topology
      { key := { prio := prio.toNat, uid := uid.toNat }, addr := addr.toNat, ports := [p0, p1, p2, p3].map topoPort }) := rfl
  rw [State.topology, if_pos leads'] at runs
  obtain ⟨eng, mem, topo⟩ := State.assignAll_topoKept _
  exact ⟨_, runs, topo, eng, mem⟩

/-- Another device passes a TOPOLOGY on toward the Origin (R581). -/
theorem execTopology_other (follows : s.leads = false) :
    ∃ t, exec (.topology uid prio addr p0 p1 p2 p3) s = .next t ∧ t.objs = s.objs ∧ t.net.topo = s.net.topo ∧
      ∀ j, s.net.path = some j → (t.linkOf (port4 j)).ctl.queue.length > (s.linkOf (port4 j)).ctl.queue.length := by
  have follows' : ¬(s.takeMsg 8).leads = true := by rw [show (s.takeMsg 8).leads = s.leads from rfl, follows]; simp
  have runs : exec (.topology uid prio addr p0 p1 p2 p3) s = .next ((s.takeMsg 8).topology
      { key := { prio := prio.toNat, uid := uid.toNat }, addr := addr.toNat, ports := [p0, p1, p2, p3].map topoPort }) := rfl
  rw [State.topology, if_neg follows', show (s.takeMsg 8).net.path = s.net.path from rfl] at runs
  cases path : s.net.path with
  | none =>
    rw [path] at runs
    exact ⟨_, runs, rfl, rfl, fun j named => by cases named⟩
  | some k =>
    rw [path] at runs
    refine ⟨_, runs, rfl, rfl, fun j named => ?_⟩
    rw [← Option.some.inj named, State.linkOf_sendOn, if_pos rfl]
    exact Chan.length_queue_lt_send _ _

end

end Sys2Proof.Machine
end

section
/-! ROUTES, RESERVE, ACTIVATE and the repair of a lost link (R588, R590, R601, R602, R606, R607). -/
namespace Sys2Proof.Machine
open Sys2Proof

/-! ### Entries put into a table in order -/

section
variable {α β : Type} [DecidableEq α] {d : α} (key : β → Nat) (val : β → α)

/-- An index that none of the entries names reads as before. -/
theorem aGet_foldl_aPut_other {l : List β} {k : Nat} (other : ∀ p ∈ l, key p ≠ k) (t : List (Nat × α)) :
    aGet d (l.foldl (fun t p => aPut d t (key p) (val p)) t) k = aGet d t k := by
  induction l generalizing t with
  | nil => rfl
  | cons p l ih =>
    rw [List.foldl_cons, ih (fun q inside => other q (List.mem_cons_of_mem _ inside)),
      aGet_aPut_ne _ _ _ _ (Ne.symm (other p List.mem_cons_self))]

/-- Of entries with different indices, each reads back. -/
theorem aGet_foldl_aPut_mem {l : List β} (distinct : (l.map key).Nodup) {t : List (Nat × α)} (wf : aWf d t = true) {p : β} (inside : p ∈ l) :
    aGet d (l.foldl (fun t p => aPut d t (key p) (val p)) t) (key p) = val p := by
  induction l generalizing t with
  | nil => cases inside
  | cons q l ih =>
    obtain ⟨fresh, rest⟩ := List.nodup_cons.1 (List.map_cons ▸ distinct)
    rw [List.foldl_cons]
    rcases List.mem_cons.1 inside with rfl | later
    · rw [aGet_foldl_aPut_other key val (fun r member same => fresh (List.mem_map.2 ⟨r, member, same⟩)), aGet_aPut _ _ wf, if_pos rfl]
    · exact ih rest (aPut_wf _ _ _ _ wf) later

end

/-- At most 4,096 entries of a route table from one index on have different indices. -/
theorem routeIndices_nodup {α : Type} (first : Nat) {entries : List α} (short : entries.length ≤ 4096) :
    (entries.zipIdx.map (fun p => (first + p.2) % 4096)).Nodup := by
  have places : entries.zipIdx.map (fun p => (first + p.2) % 4096) = (List.range entries.length).map (fun i => (first + i) % 4096) := by
    rw [List.range_eq_range', ← List.zipIdx_map_snd 0 entries, List.map_map]
    rfl
  rw [places]
  refine List.pairwise_map.2 (List.Pairwise.imp_of_mem (fun {i j} inside inside' before => ?_) List.pairwise_lt_range)
  have low := List.mem_range.1 inside
  have high := List.mem_range.1 inside'
  omega

/-- ROUTES fills the pending table, and leaves the table in force (R588, R590). -/
theorem execRoutes_fills {s : State} {first : BitVec 12} {entries : List (BitVec 8)} (none_ : s.net.routesPend = none)
    (short : entries.length ≤ 4096) : ∃ t tbl, exec (.routes first entries) s = .next t ∧ t.net.routesPend = some tbl ∧ t.net.routes = s.net.routes ∧
      t.net.routesGot = s.net.routesGot + entries.length ∧ t.objs = s.objs ∧ t.link = s.link ∧
      ∀ i e, entries[i]? = some e → aGet 0xFF tbl ((first.toNat + i) % 4096) = e.toNat := by
  refine ⟨_, _, rfl, rfl, rfl, rfl, rfl, rfl, fun i e there => ?_⟩
  have start : (s.takeMsg 10).net.routesPend = none := none_
  rw [start]
  have member : (e, i) ∈ entries.zipIdx := List.mk_mem_zipIdx_iff_getElem?.2 there
  exact aGet_foldl_aPut_mem (d := 0xFF) (t := []) (fun p => (first.toNat + p.2) % 4096) (fun p : BitVec 8 × Nat => p.1.toNat)
    (routeIndices_nodup first.toNat short) rfl member

/-! ### RESERVE and ACTIVATE -/

/-- Entries written into pending run tables change the links alone, and no table in force (R601). -/
theorem State.foldl_writeRun_leaves (runs : List RunWrite) (s : State) : ∃ l, runs.foldl State.writeRun s = { s with link := l } ∧
    ∀ j, (lane l j).txRuns = (s.linkOf j).txRuns ∧ (lane l j).rxRuns = (s.linkOf j).rxRuns := by
  induction runs generalizing s with
  | nil => exact ⟨s.link, rfl, fun _ => ⟨rfl, rfl⟩⟩
  | cons r runs ih =>
    obtain ⟨l, same, kept⟩ := ih (s.writeRun r)
    refine ⟨l, same, fun j => ?_⟩
    have one : ((s.writeRun r).linkOf j).txRuns = (s.linkOf j).txRuns ∧ ((s.writeRun r).linkOf j).rxRuns = (s.linkOf j).rxRuns := by
      change (lane (put s.link r.port _) j).txRuns = _ ∧ (lane (put s.link r.port _) j).rxRuns = _
      rw [lane_put]
      split
      next here =>
        rw [← here]
        split <;> exact ⟨rfl, rfl⟩
      next => exact ⟨rfl, rfl⟩
    obtain ⟨tx, rx⟩ := kept j
    exact ⟨tx.trans one.1, rx.trans one.2⟩

/-- An entry written into a pending run table stands there (R601). -/
theorem State.writeRun_stands (s : State) (r : RunWrite) (tx : aWf 0 (s.linkOf r.port).txPend = true) (rx : aWf 0 (s.linkOf r.port).rxPend = true) :
    aGet 0 (if r.transmit then ((s.writeRun r).linkOf r.port).txPend else ((s.writeRun r).linkOf r.port).rxPend) r.index.val = runEntryWord r.word := by
  have here : (s.writeRun r).linkOf r.port = if r.transmit
      then { s.linkOf r.port with txPend := aPut 0 (s.linkOf r.port).txPend r.index.val (runEntryWord r.word) }
      else { s.linkOf r.port with rxPend := aPut 0 (s.linkOf r.port).rxPend r.index.val (runEntryWord r.word) } := lane_put_same _ _ _
  rw [here]
  cases r.transmit
  · simp only [Bool.false_eq_true, if_false]
    rw [aGet_aPut _ _ rx, if_pos rfl]
  · simp only [if_true]
    rw [aGet_aPut _ _ tx, if_pos rfl]

/-- RESERVE changes pending tables and plans, at most 16,384 of these, and none in force (R601, R606). -/
theorem execReserve_pends (s : State) (gen : BitVec 32) (runs : List RunWrite) (plans : List PlanWrite) :
    ∃ t, exec (.reserve gen runs plans) s = .next t ∧ t.net.reserveGen = gen.toNat ∧ t.net.plans = s.net.plans ∧ t.net.plansPend.length ≤ 16384 ∧
      t.net.plansPend = ((if s.net.reserveGen = gen.toNat then s.net.plansPend else []) ++ plans.map planEntry).take 16384 ∧
      t.net.unplanned = (if s.net.reserveGen = gen.toNat then s.net.plansPend.length else 0) + plans.length - 16384 ∧
      (∀ j, (t.linkOf j).txRuns = (s.linkOf j).txRuns ∧ (t.linkOf j).rxRuns = (s.linkOf j).rxRuns) ∧
      ∀ r, runs = [r] → aWf 0 (s.linkOf r.port).txPend = true → aWf 0 (s.linkOf r.port).rxPend = true →
        aGet 0 (if r.transmit then (t.linkOf r.port).txPend else (t.linkOf r.port).rxPend) r.index.val = runEntryWord r.word := by
  let old := if s.net.reserveGen = gen.toNat then s.net.plansPend else []
  have taken : exec (.reserve gen runs plans) s = .next ((runs.foldl State.writeRun (s.takeMsg 11)).modNet (fun n =>
      { n with reserveGen := gen.toNat, plansPend := (old ++ plans.map planEntry).take 16384
               unplanned := (old ++ plans.map planEntry).length - 16384 })) := rfl
  obtain ⟨l, written, kept⟩ := State.foldl_writeRun_leaves runs (s.takeMsg 11)
  refine ⟨_, taken, rfl, ?_, ?_, rfl, ?_, ?_, ?_⟩
  · rw [written]
    rfl
  · exact List.length_take_le _ _
  · change (old ++ plans.map planEntry).length - 16384 = _
    rw [List.length_append, List.length_map]
    by_cases same : s.net.reserveGen = gen.toNat <;> simp [old, same]
  · rw [written]
    exact kept
  · intro r one tx rx
    subst one
    exact (s.takeMsg 11).writeRun_stands r tx rx

/-- ACTIVATE of the reservation held sets its tick; another one does nothing (R602). -/
theorem execActivate_sets (s : State) (gen : BitVec 32) (tick : BitVec 48) : ∃ t, exec (.activate gen tick) s = .next t ∧ t.objs = s.objs ∧
    t.link = s.link ∧ t.eng = s.eng ∧
    t.net.activate = if gen.toNat = s.net.reserveGen then some (gen.toNat, tick.toNat) else s.net.activate := by
  refine ⟨_, rfl, ?_⟩
  split
  · exact ⟨rfl, rfl, rfl, rfl⟩
  · exact ⟨rfl, rfl, rfl, rfl⟩

/-! ### Repair -/

section
variable {s : State} {addrA addrB : BitVec 12} {portA portB : Fin 4}

theorem execRepairInstall_none (none_ : s.net.lost.find? (fun l => sameLink l.1 l.2.1 (addrA.toNat, portA.val) (addrB.toNat, portB.val)) = none) :
    exec (.repairInstall addrA portA addrB portB) s = .next s := by
  change execRepairInstall addrA portA addrB portB s = _
  simp only [execRepairInstall, none_]

variable {l : (Nat × Nat) × (Nat × Nat) × Nat}
  (lost : s.net.lost.find? (fun l => sameLink l.1 l.2.1 (addrA.toNat, portA.val) (addrB.toNat, portB.val)) = some l)
include lost

theorem execRepairInstall_early (early : tickLe (l.2.2 + 64) s.tick = false) : exec (.repairInstall addrA portA addrB portB) s = .next s := by
  change execRepairInstall addrA portA addrB portB s = _
  simp [execRepairInstall, lost, early]

theorem execRepairInstall_due (due : tickLe (l.2.2 + 64) s.tick = true) : exec (.repairInstall addrA portA addrB portB) s =
    .next (s.installPlan (addrA.toNat, portA.val) (addrB.toNat, portB.val) l.2.2) := by
  change execRepairInstall addrA portA addrB portB s = _
  simp [execRepairInstall, lost, due]

end

theorem mem_ports : ∀ k, k ∈ ports := by decide

/-- Whether an object counts the runs of a port (R573). -/
def countsRuns (o : Nat) : Bool := ports.any (fun k => o = O.runsOriginated k.val || o = O.runsForwarded k.val || o = O.audioBlocksReserved k.val)

/-- Runs counted anew change their counts alone (R573). -/
theorem State.foldl_countRuns_leaves (l : List (Fin 4)) (s : State) : let t := l.foldl State.countRuns s
    t.net = s.net ∧ t.eng = s.eng ∧ t.mem = s.mem ∧ ∀ o, countsRuns o = false → t.obj o = s.obj o := by
  induction l generalizing s with
  | nil => exact ⟨rfl, rfl, rfl, fun _ _ => rfl⟩
  | cons k l ih =>
    obtain ⟨net, eng, mem, obj⟩ := ih (s.countRuns k)
    refine ⟨net, eng, mem, fun o other => (obj o other).trans ?_⟩
    have apart : o ≠ O.runsOriginated k.val ∧ o ≠ O.runsForwarded k.val ∧ o ≠ O.audioBlocksReserved k.val := by
      simpa [and_assoc] using List.any_eq_false.1 other k (mem_ports k)
    obtain ⟨originated, forwarded, reserved⟩ := apart
    simp only [State.countRuns, State.setObjs, List.foldl_cons, List.foldl_nil]
    rw [State.obj_setObj_ne _ _ reserved, State.obj_setObj_ne _ _ forwarded, State.obj_setObj_ne _ _ originated]

/-- Changes of links in order change the links alone. -/
theorem State.foldl_modLink_eq {α : Type} (port : α → Fin 4) (change : α → Link → Link) (l : List α) (s : State) :
    ∃ v, l.foldl (fun s p => s.modLink (port p) (change p)) s = { s with link := v } := by
  induction l generalizing s with
  | nil => exact ⟨_, rfl⟩
  | cons p l ih =>
    obtain ⟨v, same⟩ := ih (s.modLink (port p) (change p))
    exact ⟨v, same⟩

/-- An installed plan is gone with its link, leaves the plans of the links still lost, and counts, as late after B(f + 64) (R607). -/
theorem State.installPlan_leaves (s : State) (a b : Nat × Nat) (f : Nat) : let t := s.installPlan a b f
    t.net.lost = s.net.lost.filter (fun z => !sameLink z.1 z.2.1 a b) ∧
      t.net.plans = s.net.plans.filter (fun p => t.net.lost.any (fun z => sameLink z.1 z.2.1 p.endA p.endB)) ∧ t.net.replan = true ∧
      t.obj O.repairsApplied = satAdd 32 (s.obj O.repairsApplied) 1 ∧
      t.obj O.lateRepairs = (if tickLe s.tick (f + 64) then s.obj O.lateRepairs else satAdd 32 (s.obj O.lateRepairs) 1) ∧
      t.eng = s.eng ∧ t.mem = s.mem := by
  dsimp only
  unfold State.installPlan
  extract_lets l s1 s2 s3
  obtain ⟨v, written⟩ : ∃ v, s1 = { s with link := v } := State.foldl_modLink_eq _ _ l s
  obtain ⟨net, eng, mem, obj⟩ := s1.foldl_countRuns_leaves ports
  let rest := s.net.lost.filter (fun z => !sameLink z.1 z.2.1 a b)
  have voided : s2 = (ports.foldl State.countRuns s1).modNet (fun n =>
      { n with lost := n.lost.filter (fun z => !sameLink z.1 z.2.1 a b), replan := true
               plans := n.plans.filter (fun p => (n.lost.filter (fun z => !sameLink z.1 z.2.1 a b)).any (fun z => sameLink z.1 z.2.1 p.endA p.endB)) }) := rfl
  generalize ports.foldl State.countRuns s1 = u at net eng mem obj voided
  rw [written] at net eng mem obj
  have netVoid : s2.net = { s.net with lost := rest, replan := true
                                       plans := s.net.plans.filter (fun p => rest.any (fun z => sameLink z.1 z.2.1 p.endA p.endB)) } := by
    rw [voided, State.modNet, net]
  have net3 : s3.net = s2.net := State.event_net _ _ _
  have eng3 : s3.eng = s.eng := (State.event_eng _ _ _).trans ((congrArg State.eng voided).trans eng)
  have mem3 : s3.mem = s.mem := (State.event_mem _ _ _).trans ((congrArg State.mem voided).trans mem)
  have kept : ∀ o, countsRuns o = false → s2.obj o = s.obj o := fun o other => (congrArg (fun x => State.obj x o) voided).trans (obj o other)
  have applied : s3.obj O.repairsApplied = satAdd 32 (s.obj O.repairsApplied) 1 := by
    rw [State.obj_event _ _ _ (by decide), State.obj_count_self]
    exact congrArg (fun n => satAdd 32 n 1) (kept _ (by decide))
  have late : s3.obj O.lateRepairs = s.obj O.lateRepairs := by
    rw [State.obj_event _ _ _ (by decide), State.obj_count_ne _ _ _ (by decide)]
    exact kept _ (by decide)
  clear_value s3
  split
  · rw [net3, netVoid]
    exact ⟨rfl, rfl, rfl, applied, late, eng3, mem3⟩
  · rw [State.count_net, net3, netVoid, State.obj_count_self, late]
    exact ⟨rfl, rfl, rfl, (State.obj_count_ne _ _ _ (by decide)).trans applied, rfl, eng3, mem3⟩

end Sys2Proof.Machine
end

section
/-! TILER_ORDER and TILER_REPORT: the records of orders and reports, and what a placement reports (R379, R387). -/
namespace Sys2Proof.Machine
open Sys2Proof

/-! ### The records -/

/-- `t` has the orders and the reports that `s` keeps by block (R387). -/
structure BooksKept (s t : State) : Prop where
  orders : t.net.orders = s.net.orders
  reports : t.net.reports = s.net.reports

theorem BooksKept.refl (s : State) : BooksKept s s := ⟨rfl, rfl⟩

theorem BooksKept.trans {s t u : State} (h : BooksKept s t) (k : BooksKept t u) : BooksKept s u :=
  ⟨k.orders.trans h.orders, k.reports.trans h.reports⟩

theorem BooksKept.foldl {α : Type} {f : State → α → State} (kept : ∀ s a, BooksKept s (f s a)) (l : List α) (s : State) :
    BooksKept s (l.foldl f s) := by
  induction l generalizing s with
  | nil => exact .refl s
  | cons a l ih => exact (kept s a).trans (ih (f s a))

theorem BooksKept.ofNet {s t : State} (h : t.net = s.net) : BooksKept s t := ⟨by rw [h], by rw [h]⟩

theorem Sent.booksKept {s t : State} (h : Sent s t) : BooksKept s t := ⟨by rw [h.net], by rw [h.net]⟩

theorem State.takeReserve_booksKept (s : State) (gen : Nat) (runs : List RunWrite) (plans : List PlanWrite) : BooksKept s (s.takeReserve gen runs plans) := by
  obtain ⟨l, written, -⟩ := State.foldl_writeRun_leaves runs s
  unfold State.takeReserve
  rw [written]
  exact ⟨rfl, rfl⟩

theorem State.sendReservation_booksKept (s : State) (specs : List RunSpec) : BooksKept s (s.sendReservation specs) := by
  unfold State.sendReservation
  extract_lets m r p gen tables writes plans high tick all s1 s2
  have taken : BooksKept { s with freeCtr := s.freeCtr + 1 } s1 := State.takeReserve_booksKept _ gen (writes s.ownAddr) (plans s.ownAddr)
  clear_value s1
  have reserved : BooksKept s s2 := ⟨taken.orders, taken.reports⟩
  refine reserved.trans (.foldl (fun s a => ?_) _ s2)
  exact (BooksKept.foldl (fun s b => (s.sendDown_sent _).booksKept) _ s).trans (State.sendDown_sent _ _).booksKept

theorem State.keepReservation_booksKept (s : State) : BooksKept s s.keepReservation := by
  unfold State.keepReservation
  dsimp only
  split
  · exact s.sendReservation_booksKept _
  · exact .refl s

theorem State.sendOrder_booksKept (s : State) (dev block pin : Nat) : BooksKept s (s.sendOrder dev block pin) := by
  unfold State.sendOrder
  split
  · exact (s.sendRouted_sent _ _).booksKept
  · exact .refl s

theorem State.setMig_net (s : State) (st : Nat) (m : Migration) : (s.setMig st m).net = s.net := rfl

/-- A migration that begins leaves orders and reports (R387, R398). -/
theorem State.startMove_booksKept (s : State) (g : Graph) (v : PlaceEnv) (b dev eng : Nat) (mv : Option Move) :
    BooksKept s (s.startMove g v b dev eng mv) := by
  unfold State.startMove
  extract_lets bs p cross small second m s1 s2
  have begun : BooksKept s s2 := by
    have named : BooksKept s (s1.setMig 1 m) := .ofNet ((s1.setMig_net 1 m).trans (s.setObjs_net _))
    exact named.trans ((State.keepReservation_booksKept _).trans (.ofNet (State.putPolicies_net _ _)))
  split
  · refine begun.trans (.trans (.foldl (fun s x => s.sendOrder_booksKept _ _ _) bs s2) (.ofNet (State.portsNow_net _ g)))
  · exact begun.trans (.ofNet (s2.loadMove_net g m _))

theorem State.noteStay_net (s : State) (g : Graph) (m : Migration) : (s.noteStay g m).net = s.net := by
  unfold State.noteStay
  split <;> rfl

/-- A migration that is abandoned leaves orders and reports (R387, R411). -/
theorem State.abandon_booksKept (s : State) (cause : Nat) : BooksKept s (s.abandon cause) := by
  cases moving : s.til.mig with
  | none => rw [State.abandon_idle moving]; exact .refl s
  | some m =>
    cases inForce : s.til.graph with
    | none =>
      simp only [State.abandon, moving, inForce]
      exact .refl s
    | some g =>
      obtain ⟨t, abandoned, books⟩ : ∃ t : State, s.abandon cause =
          (((t.setObjs [(O.migrationState, 6), (O.migrationCause, cause)]).count O.migrationsAbandoned 32 1).event 0x0603
            (m.block % 65536 + cause * 65536)).noteStay g m ∧ BooksKept (s.withdraw g m) t := by
        simp only [State.abandon, moving, inForce]
        exact ⟨_, rfl, ⟨rfl, rfl⟩⟩
      rw [abandoned]
      refine (BooksKept.ofNet (s.withdraw_net g m)).trans (books.trans (.ofNet ?_))
      rw [State.noteStay_net, State.event_net, State.count_net, State.setObjs_net]

/-! ### Diagnosis -/

/-- The diagnostic objects (R379, R412). -/
def diagObjs : List Nat := [O.diagCode, O.diagTable, O.diagEntry, O.diagDetail, O.diagNeed, O.diagHave, O.diagDevice, O.diagEngine]

theorem State.obj_setObjs_other (s : State) {l : List (Nat × Nat)} {o : Nat} (other : o ∉ l.map (·.1)) : (s.setObjs l).obj o = s.obj o := by
  induction l generalizing s with
  | nil => rfl
  | cons p l ih =>
    obtain ⟨here, later⟩ := not_or.1 (fun member => other (List.mem_cons.2 member))
    exact (ih _ later).trans (s.obj_setObj_ne _ here)

/-- `t` differs from `s` by the diagnostic objects alone. -/
structure Diagnosed (s t : State) : Prop where
  eng : t.eng = s.eng
  mem : t.mem = s.mem
  til : t.til = s.til
  obj : ∀ o, o ∉ diagObjs → t.obj o = s.obj o

theorem State.setDiag_diagnosed (s : State) (d : Diag) : Diagnosed s (s.setDiag d) :=
  ⟨(s.setObjs_leaves _).2.2, (s.setObjs_leaves _).2.1, (s.setObjs_leaves _).1, fun _ other => s.obj_setObjs_other other⟩

theorem State.clearDiag_diagnosed (s : State) : Diagnosed s s.clearDiag :=
  ⟨(s.setObjs_leaves _).2.2, (s.setObjs_leaves _).2.1, (s.setObjs_leaves _).1, fun _ other => s.obj_setObjs_other other⟩

theorem State.diagCode_setDiag (s : State) (d : Diag) : (s.setDiag d).obj O.diagCode = d.code := by
  simp +decide [State.setDiag, State.setObjs, State.obj_setObj]

theorem State.diagEntry_setDiag (s : State) (d : Diag) : (s.setDiag d).obj O.diagEntry = d.entry := by
  simp +decide [State.setDiag, State.setObjs, State.obj_setObj]

theorem State.diagCode_clearDiag (s : State) : s.clearDiag.obj O.diagCode = 0 := by
  simp +decide [State.clearDiag, State.setObjs, State.obj_setObj]

/-! ### TILER_ORDER -/

/-- The state in which a member places the block of an order: the order kept by block (R387). -/
def State.keepOrder (s : State) (block pin : Nat) (limits : List Nat) : State :=
  (s.takeMsg 0x18).modNet (fun n => { n with orders := n.orders.filter (fun p => p.1 != block) ++ [(block, pin, limits)] })

/-- A member places the block of an order in the state that keeps it, and then only sends its report (R387). -/
theorem execTilerOrder_places (s : State) (block : BitVec 14) (pin : BitVec 32) (limits : List (BitVec 32)) :
    ∃ t, exec (.tilerOrder block pin limits) s = .next t ∧
      Sent ((s.keepOrder block.toNat pin.toNat (limits.map (·.toNat))).placeOrder block.toNat pin.toNat) t :=
  ⟨_, rfl, State.sendRouted_sent _ _ _⟩

/-- Placing an order leaves the records, whether or not a migration begins. -/
theorem State.placeOrder_booksKept (s : State) (block pin : Nat) : BooksKept s (s.placeOrder block pin) := by
  have reported : ∀ d, BooksKept s (s.setDiag d) := fun d => .ofNet (s.setObjs_net _)
  have cleared : BooksKept s s.clearDiag := .ofNet (s.setObjs_net _)
  unfold State.placeOrder
  split
  · split
    · exact reported _
    · exact cleared
  · dsimp only
    split
    · exact reported _
    · split
      · exact cleared
      · split
        · exact reported _
        · split
          · exact reported _
          · exact cleared.trans (State.startMove_booksKept _ _ _ _ _ _ _)
  · exact reported _

section
variable {s : State} {block pin : Nat}

theorem State.placeOrder_empty (idle : s.til.checking = none) (empty : s.til.graph = none) : s.placeOrder block pin = s.setDiag (diag 3 1 block 0) := by
  simp only [State.placeOrder, idle, empty]

theorem State.placeOrder_absent {g : Graph} (idle : s.til.checking = none) (inForce : s.til.graph = some g) (absent : g.place block = none) :
    s.placeOrder block pin = s.setDiag (diag 3 1 block 0) := by
  simp only [State.placeOrder, idle, inForce, absent]

theorem State.placeOrder_here {g : Graph} {p : PlacedBlock} (idle : s.til.checking = none) (inForce : s.til.graph = some g)
    (placed : g.place block = some p) (here : p.dev = s.selfDev) : s.placeOrder block pin = s.clearDiag := by
  have own : p.dev = (s.placeEnv s.mode).env.own := here
  simp only [State.placeOrder, idle, inForce, placed, own, decide_true, Bool.true_or, if_true]

theorem State.placeOrder_fails {bytes : List Byte} {prev mode : Nat} {d : Diag} (checking : s.til.checking = some (bytes, prev, mode))
    (fails : leastFault (s.planOf bytes mode).faults = some d) : s.placeOrder block pin = s.setDiag d := by
  simp only [State.placeOrder, checking, fails]

theorem State.placeOrder_passes {bytes : List Byte} {prev mode : Nat} (checking : s.til.checking = some (bytes, prev, mode))
    (passes : leastFault (s.planOf bytes mode).faults = none) : s.placeOrder block pin = s.clearDiag := by
  simp only [State.placeOrder, checking, passes]

/-- What a placement that begins no migration leaves: engines, memory, the Tiler, and every object but its diagnosis (R387). -/
theorem Sent.rest {limits : List Nat} {v t : State} (sent : Sent v t) (told : Diagnosed (s.keepOrder block pin limits) v) :
    t.eng = s.eng ∧ t.mem = s.mem ∧ t.til = s.til ∧ ∀ o, o ≠ O.noRouteDrops → o ∉ diagObjs → t.obj o = s.obj o :=
  ⟨sent.eng.trans told.eng, sent.mem.trans told.mem, sent.til.trans told.til, fun o counted other => (sent.obj o counted).trans (told.obj o other)⟩

end

/-- A TILER_ORDER is kept by block, and the outcome of its placement stands in the diagnostic objects; where no migration begins, nothing else
changes but the message count (R379, R387). -/
theorem execTilerOrder_outcome (s : State) (block : BitVec 14) (pin : BitVec 32) (limits : List (BitVec 32)) :
    ∃ t, exec (.tilerOrder block pin limits) s = .next t ∧
      t.net.orders = s.net.orders.filter (fun p => p.1 != block.toNat) ++ [(block.toNat, pin.toNat, limits.map (·.toNat))] ∧
      let s' := (s.takeMsg 0x18).modNet (fun n => { n with orders := t.net.orders })
      let rest := t.eng = s.eng ∧ t.mem = s.mem ∧ t.til = s.til ∧ ∀ o, o ≠ O.noRouteDrops → o ∉ diagObjs → t.obj o = s.obj o
      (s.til.checking = none → s.til.graph = none → rest ∧ t.obj O.diagCode = 3 ∧ t.obj O.diagEntry = block.toNat) ∧
      (∀ g p, s.til.checking = none → s.til.graph = some g → g.place block.toNat = some p → p.dev = s.selfDev → rest ∧ t.obj O.diagCode = 0) ∧
      (∀ g, s.til.checking = none → s.til.graph = some g → g.place block.toNat = none → rest ∧ t.obj O.diagCode = 3 ∧ t.obj O.diagEntry = block.toNat) ∧
      (∀ bytes prev mode, s.til.checking = some (bytes, prev, mode) → rest ∧
        t.obj O.diagCode = ((leastFault (s'.planOf bytes mode).faults).map (·.code)).getD 0) := by
  let u := s.keepOrder block.toNat pin.toNat (limits.map (·.toNat))
  obtain ⟨t, runs, (sent : Sent (u.placeOrder block.toNat pin.toNat) t)⟩ := execTilerOrder_places s block pin limits
  have kept : t.net.orders = u.net.orders := sent.booksKept.orders.trans (u.placeOrder_booksKept block.toNat pin.toNat).orders
  have codeThere : t.obj O.diagCode = (u.placeOrder block.toNat pin.toNat).obj O.diagCode := sent.obj _ (by decide)
  have entryThere : t.obj O.diagEntry = (u.placeOrder block.toNat pin.toNat).obj O.diagEntry := sent.obj _ (by decide)
  refine ⟨t, runs, kept, fun idle empty => ?_, fun g p idle inForce placed here => ?_, fun g idle inForce absent => ?_,
    fun bytes prev mode checking => ?_⟩
  · rw [State.placeOrder_empty (s := u) idle empty] at sent codeThere entryThere
    exact ⟨sent.rest (u.setDiag_diagnosed _), codeThere.trans (u.diagCode_setDiag _), entryThere.trans (u.diagEntry_setDiag _)⟩
  · rw [State.placeOrder_here (s := u) idle inForce placed here] at sent codeThere
    exact ⟨sent.rest u.clearDiag_diagnosed, codeThere.trans u.diagCode_clearDiag⟩
  · rw [State.placeOrder_absent (s := u) idle inForce absent] at sent codeThere entryThere
    exact ⟨sent.rest (u.setDiag_diagnosed _), codeThere.trans (u.diagCode_setDiag _), entryThere.trans (u.diagEntry_setDiag _)⟩
  · rw [kept]
    change _ ∧ _ = ((leastFault (u.planOf bytes mode).faults).map _).getD 0
    cases faults : leastFault (u.planOf bytes mode).faults with
    | none =>
      rw [State.placeOrder_passes (s := u) checking faults] at sent codeThere
      exact ⟨sent.rest u.clearDiag_diagnosed, codeThere.trans u.diagCode_clearDiag⟩
    | some d =>
      rw [State.placeOrder_fails (s := u) checking faults] at sent codeThere
      exact ⟨sent.rest (u.setDiag_diagnosed _), codeThere.trans (u.diagCode_setDiag _)⟩

/-! ### TILER_REPORT -/

/-- The state in which the Origin has kept a member's report by block (R387). -/
def State.keepReport (s : State) (block result : Nat) (l : List Nat) : State :=
  (s.takeMsg 0x19).modNet (fun n => { n with reports := n.reports.filter (fun p => p.1 != block) ++ [(block, result, l)] })

section
variable (s : State) (block : BitVec 14) (result code table : BitVec 8) (entry detail need have_ : BitVec 32) (device : BitVec 16) (engine : BitVec 8)

/-- The values of a report as numbers, in the order of the record. -/
def reportValues : List Nat :=
  [code.toNat, table.toNat, entry.toNat, detail.toNat, need.toNat, have_.toNat, device.toNat, engine.toNat]

theorem execTilerReport_accepts : exec (.tilerReport block 0 code table entry detail need have_ device engine) s =
    .next (s.keepReport block.toNat 0 (reportValues code table entry detail need have_ device engine)) := rfl

/-- A rejection ends a migration of its block to another device, and stands in the diagnostic objects (R379, R387). -/
theorem execTilerReport_rejects (rejects : result ≠ 0) : exec (.tilerReport block result code table entry detail need have_ device engine) s =
    .next (((s.keepReport block.toNat result.toNat (reportValues code table entry detail need have_ device engine)).orderRefused block.toNat).setObjs
      (diagObjs.zip (reportValues code table entry detail need have_ device engine))) := by
  change execTilerReport block result code table entry detail need have_ device engine s = _
  rw [execTilerReport, if_neg rejects]
  rfl

end

theorem State.orderRefused_booksKept (s : State) (block : Nat) : BooksKept s (s.orderRefused block) := by
  unfold State.orderRefused
  split
  · exact s.abandon_booksKept 0
  · exact .refl s

/-- Without a migration of the block to another device, not yet switched, a rejection ends none. -/
theorem State.orderRefused_idle {s : State} {block : Nat}
    (other : ∀ m, s.til.mig = some m → block ∉ m.blocks ∨ m.toDev = s.selfDev ∨ m.switched = true) : s.orderRefused block = s := by
  refine if_neg ?_
  cases moving : s.til.mig with
  | none => simp
  | some m => rcases other m moving with h | h | h <;> simp [h]

theorem State.orderRefused_ends {s : State} {block : Nat} {m : Migration} (moving : s.til.mig = some m) (inside : block ∈ m.blocks)
    (across : m.toDev ≠ s.selfDev) (waits : m.switched = false) : s.orderRefused block = s.abandon 0 :=
  if_pos (by simp [moving, inside, across, waits])

/-- A TILER_REPORT is kept by block; a rejection stands in the diagnostic objects, and ends a migration of the block to another device that is
not yet switched (R379, R387). -/
theorem execTilerReport_outcome (s : State) (block : BitVec 14) (result code table : BitVec 8) (entry detail need have_ : BitVec 32)
    (device : BitVec 16) (engine : BitVec 8) : ∃ t, exec (.tilerReport block result code table entry detail need have_ device engine) s = .next t ∧
      t.net.reports = s.net.reports.filter (fun p => p.1 != block.toNat) ++
        [(block.toNat, result.toNat, reportValues code table entry detail need have_ device engine)] ∧
      (result = 0 → t.objs = s.objs ∧ t.eng = s.eng ∧ t.mem = s.mem ∧ t.til = s.til) ∧
      (∀ m g, result ≠ 0 → s.til.mig = some m → s.til.graph = some g → block.toNat ∈ m.blocks → m.toDev ≠ s.selfDev → m.switched = false →
        t.til.mig = none ∧ t.til.graph = some g ∧ t.obj O.migrationState = 6) ∧
      ((∀ m, s.til.mig = some m → block.toNat ∉ m.blocks ∨ m.toDev = s.selfDev ∨ m.switched = true) → t.eng = s.eng ∧ t.mem = s.mem ∧ t.til = s.til) ∧
      (result ≠ 0 → t.obj O.diagCode = code.toNat ∧ t.obj O.diagTable = table.toNat ∧ t.obj O.diagEntry = entry.toNat ∧
        t.obj O.diagDetail = detail.toNat ∧ t.obj O.diagNeed = need.toNat ∧ t.obj O.diagHave = have_.toNat ∧
        t.obj O.diagDevice = device.toNat ∧ t.obj O.diagEngine = engine.toNat) := by
  by_cases accepts : result = 0
  · subst accepts
    refine ⟨_, execTilerReport_accepts s block code table entry detail need have_ device engine, rfl, fun _ => ⟨rfl, rfl, rfl, rfl⟩,
      fun m g rejects => absurd rfl rejects, fun _ => ⟨rfl, rfl, rfl⟩, fun rejects => absurd rfl rejects⟩
  · let l := reportValues code table entry detail need have_ device engine
    let u := s.keepReport block.toNat result.toNat l
    obtain ⟨til, mem, eng⟩ := (u.orderRefused block.toNat).setObjs_leaves (diagObjs.zip l)
    refine ⟨_, execTilerReport_rejects s block result code table entry detail need have_ device engine accepts, ?_,
      fun accepted => absurd accepted accepts, fun m g _ moving inForce inside across waits => ?_, fun other => ?_, fun _ => ?_⟩
    · rw [State.setObjs_net, (u.orderRefused_booksKept block.toNat).reports]
      rfl
    · obtain ⟨gone, graph, six, -⟩ := State.abandon_leaves (s := u) moving inForce 0
      rw [til, State.obj_setObjs_other _ (by simp +decide [diagObjs, reportValues]), State.orderRefused_ends (s := u) moving inside across waits]
      exact ⟨gone, graph.trans inForce, six⟩
    · rw [til, mem, eng, State.orderRefused_idle (s := u) other]
      exact ⟨rfl, rfl, rfl⟩
    · simp +decide [diagObjs, reportValues, State.setObjs, State.obj_setObj]

end Sys2Proof.Machine

namespace Sys2Proof.Claims
open Sys2Proof Sys2Proof.Machine

/-- Settles O43: each clause is the law of its command. The orders stand after a placement because nothing of a migration that begins touches
them, and the reports after a rejection because nothing of one that ends does. -/
theorem fabricMessagesSetAddressesRoutesAndPlans : Obligations.FabricMessagesSetAddressesRoutesAndPlans := by
  unfold Obligations.FabricMessagesSetAddressesRoutesAndPlans
  intro s k portA portB src addrA addrB sender addr first f tick seq coord device uid prio x y result code table engine addr16 p0 p1 p2 p3 entries
    gen pin entry detail need have_ runs plans block limits
  dsimp only
  refine ⟨execLinkDown_idle, execLinkDown_seen, execLinkDown_new, execTopology_origin, execTopology_other, ?others, execAddress_own,
    execRoutes_fills, execReserve_pends s gen runs plans, execActivate_sets s gen tick, execRepairInstall_none, ?repairs,
    execTilerOrder_outcome s block pin limits, execTilerReport_outcome s block result code table entry detail need have_ device engine⟩
  case others =>
    intro other
    rw [execAddress_other other]
    refine ⟨fun seen => congrArg Host.Outcome.next (State.passOn_seen seen), fun new => ?_⟩
    let m := s.addressMsg sender.toNat uid.toNat addr.toNat x.toNat y.toNat coord.toNat
    obtain ⟨objs, eng, mem, seen, links⟩ := (s.takeMsg 9).spread_leaves m
    refine ⟨_, congrArg Host.Outcome.next (State.passOn_new new), objs, eng, mem, seen, fun j off => ?_, fun j on => ?_⟩
    · exact (links j).trans (if_neg off)
    · exact (links j).trans (if_pos on)
  case repairs =>
    intro l lost
    refine ⟨execRepairInstall_early lost, fun due => ?_⟩
    exact ⟨_, execRepairInstall_due lost due, s.installPlan_leaves (addrA.toNat, portA.val) (addrB.toNat, portB.val) l.2.2⟩

end Sys2Proof.Claims
end

section
/-! What noting a bad word, storing, halting and messages leave of the journal: its numbers, its open gap, and the channels of its drain. -/
namespace Sys2Proof.Machine
open Sys2Proof

/-- `t` has the engines and channels of `s`, its open gap, and the numbers of its journal: next record, next to drain, freed. -/
structure JournalKept (s t : State) : Prop where
  eng : t.eng = s.eng
  dma : t.dma = s.dma
  gap : t.gap = s.gap
  freed : t.locusFreed = s.locusFreed
  obj : ∀ a, a = O.locusWriteSeq ∨ a = O.locusDrainSeq → t.obj a = s.obj a

theorem JournalKept.refl (s : State) : JournalKept s s := ⟨rfl, rfl, rfl, rfl, fun _ _ => rfl⟩

theorem JournalKept.trans {s t u : State} (h : JournalKept s t) (k : JournalKept t u) : JournalKept s u :=
  ⟨k.eng.trans h.eng, k.dma.trans h.dma, k.gap.trans h.gap, k.freed.trans h.freed, fun a place => (k.obj a place).trans (h.obj a place)⟩

/-- Operations in order, each of which leaves the journal alone. -/
theorem JournalKept.foldl {α : Type} {f : State → α → State} (kept : ∀ s a, JournalKept s (f s a)) (l : List α) (s : State) :
    JournalKept s (l.foldl f s) := by
  induction l generalizing s with
  | nil => exact .refl s
  | cons a l ih => exact (kept s a).trans (ih (f s a))

section
variable {s t : State} (h : JournalKept s t)
include h

theorem JournalKept.finalCount : t.finalCount = s.finalCount := by
  simp only [State.finalCount, h.gap, h.obj _ (.inl rfl)]

/-- A change of parts of the state that the journal has no share in. -/
theorem JournalKept.same {u : State} (eng : u.eng = t.eng := by rfl) (dma : u.dma = t.dma := by rfl) (gap : u.gap = t.gap := by rfl)
    (freed : u.locusFreed = t.locusFreed := by rfl) (objs : u.objs = t.objs := by rfl) : JournalKept s u :=
  h.trans ⟨eng, dma, gap, freed, fun _ _ => by rw [State.obj, objs, State.obj]⟩

theorem JournalKept.setObj {a : Nat} (v : Nat) (other : O.locusWriteSeq ≠ a ∧ O.locusDrainSeq ≠ a) : JournalKept s (t.setObj a v) := by
  refine h.trans ⟨rfl, rfl, rfl, rfl, ?_⟩
  rintro b (rfl | rfl)
  · exact t.obj_setObj_ne v other.1
  · exact t.obj_setObj_ne v other.2

theorem JournalKept.count {a : Nat} (w n : Nat) (other : O.locusWriteSeq ≠ a ∧ O.locusDrainSeq ≠ a) : JournalKept s (t.count a w n) :=
  h.setObj _ other

theorem JournalKept.event (code data : Nat) : JournalKept s (t.event code data) := by
  refine h.trans ⟨t.event_eng _ _, t.event_dma _ _, t.event_gap _ _, t.event_locusFreed _ _, ?_⟩
  rintro a (rfl | rfl) <;> exact t.obj_event _ _ (by decide)

/-! ### Stores -/

theorem JournalKept.store (addr n v : Nat) : JournalKept s (t.store addr n v) := by
  obtain ⟨outside, -, obj⟩ := t.store_leaves addr n v
  obtain ⟨dma, gap, freed⟩ : (t.store addr n v).dma = t.dma ∧ (t.store addr n v).gap = t.gap ∧ (t.store addr n v).locusFreed = t.locusFreed := by
    unfold State.store State.markStale
    dsimp only
    split <;> exact ⟨rfl, rfl, rfl⟩
  refine h.trans ⟨congrArg (fun x => x.2.2.1) outside, dma, gap, freed, ?_⟩
  rintro a (rfl | rfl) <;> exact obj _ (by decide)

theorem JournalKept.storeBytes (addr : Nat) (l : List Byte) : JournalKept s (t.storeBytes addr l) := h.store _ _ _

end

/-! ### Words found bad or correctable -/

theorem State.noteSofts_journalKept (s : State) (a n : Nat) : JournalKept s (s.noteSofts a n) := by
  refine JournalKept.foldl (fun s c => ?_) _ s
  unfold State.noteSoft
  split
  · exact .refl s
  · split
    · exact (JournalKept.refl s).same
    · exact (JournalKept.refl s).count _ _ (by decide)

theorem State.mute_journalKept (s : State) (r : MuteReason) : JournalKept s (s.mute r) := by
  unfold State.mute
  split
  · exact .refl s
  · exact (JournalKept.refl s).same

theorem State.holdRequest_journalKept (s : State) : JournalKept s s.holdRequest := by
  unfold State.holdRequest
  split
  · exact ((JournalKept.refl s).same (u := { s with pendMode := none })).setObj _ (by decide)
  · exact .refl s

theorem State.enterSafeMute_journalKept (s : State) : JournalKept s s.enterSafeMute := by
  unfold State.enterSafeMute
  extract_lets resume s1
  have taken : JournalKept s s1 := (JournalKept.refl s).same
  exact ((((taken.setObj resume (by decide)).setObj 6 (by decide)).setObj 0x0A (by decide)).event _ _).trans (State.mute_journalKept _ _)

theorem State.raiseCause_journalKept (s : State) (b : Nat) : JournalKept s (s.raiseCause b) := by
  unfold State.raiseCause
  extract_lets old new s1 s2 s3
  have set : JournalKept s s1 := (JournalKept.refl s).setObj new (by decide)
  have reported : JournalKept s s2 := by
    dsimp only [s2]
    split
    · exact set
    · exact set.event _ _
  have raised : JournalKept s s3 := by
    dsimp only [s3]
    split
    · exact reported
    · exact reported.same
  split
  · exact raised
  · split
    · split
      · exact raised.trans (s3.mute_journalKept _)
      · exact raised
    · split
      · exact raised.trans s3.holdRequest_journalKept
      · exact raised.trans s3.enterSafeMute_journalKept

theorem State.queuePage_journalKept (s : State) (a : Nat) : JournalKept s (s.queuePage a) := by
  unfold State.queuePage
  dsimp only
  split
  · exact .refl s
  · split
    · exact (JournalKept.refl s).same
    · exact (JournalKept.refl s).count _ _ (by decide)

theorem State.recordBad_journalKept (s : State) (a : Nat) : JournalKept s (s.recordBad a) := by
  unfold State.recordBad
  split
  · exact (JournalKept.refl s).same
  · exact .refl s

theorem State.stormCount_journalKept (s : State) : JournalKept s s.stormCount := by
  unfold State.stormCount
  extract_lets n integ s1
  have counted : JournalKept s s1 := (JournalKept.refl s).same
  split
  · exact (counted.event _ _).trans (State.raiseCause_journalKept _ _)
  · exact counted

theorem State.noteBad_journalKept (s : State) (reader a : Nat) : JournalKept s (s.noteBad reader a) := by
  unfold State.noteBad
  split
  · exact s.queuePage_journalKept a
  · have seen := (((JournalKept.refl s).count (a := O.uncorrectableWords) 32 1 (by decide)).setObj (a := O.lastUncorrectable) a (by decide)).event
      0x0500 (a + reader * 2 ^ 40)
    exact ((seen.trans (State.recordBad_journalKept _ a)).trans (State.stormCount_journalKept _)).trans (State.queuePage_journalKept _ a)

/-! ### A channel stopped -/

theorem lastResult_ne (c : Fin 32) : O.locusWriteSeq ≠ O.lastResult c.val ∧ O.locusDrainSeq ≠ O.lastResult c.val := by
  revert c
  decide

section
variable {s t : State} (h : JournalKept s t)
include h

theorem JournalKept.putDescWord (a v : Nat) : JournalKept s (t.putDescWord a v) := by
  unfold State.putDescWord
  split
  · exact h.count _ _ (by decide)
  · exact h.store _ _ _

theorem JournalKept.sendRouted (bulk : Bool) (m : Msg) : JournalKept s (t.sendRouted bulk m) := by
  unfold State.sendRouted
  split
  · exact h.same
  · split
    · exact h.same
    · exact h.count _ _ (by decide)

theorem JournalKept.sendAbort (c : Fin 32) (d : DmaDesc) : JournalKept s (t.sendAbort c d) := by
  unfold State.sendAbort
  extract_lets s1
  have sent : JournalKept s s1 := by
    dsimp only [s1]
    split
    · exact h.sendRouted _ _
    · exact h
  split
  · exact sent.sendRouted _ _
  · exact sent

theorem JournalKept.writeBack (c : Fin 32) (d : DmaDesc) (done : Bool) (result kind : Nat) : JournalKept s (t.writeBack c d done result kind) := by
  unfold State.writeBack
  extract_lets a s1 s2
  have result : JournalKept s s2 := ((h.putDescWord _ _).putDescWord _ _).setObj _ (lastResult_ne c)
  split
  · exact result.event _ _
  · exact result

end

end Sys2Proof.Machine
end

section
/-! The Locus journal: gaps, the drain, acknowledgement, the LPDDR5X ring and summaries (R479 to R491, R495, R669). -/
namespace Sys2Proof.Machine
open Sys2Proof

/-! ### Gaps (R490) -/

theorem State.closeGap_idle {s : State} (h : s.gap = none ∨ s.locusFree = 0) : s.closeGap = s := by
  unfold State.closeGap
  split
  · rfl
  next g opened => rw [if_pos (h.resolve_left (by simp [opened]))]

/-- An open gap with a free slot: its record becomes final, and its count is lost (R479, R480, R490). -/
theorem State.closeGap_open {s : State} {g : Gap} (opened : s.gap = some g) (free : s.locusFree ≠ 0) : s.closeGap =
    ((({ s with gap := none, locusSum := { s.locusSum with lost := s.locusSum.lost + g.lost } } : State).makeFinal g.bytes).count
      O.locusRecordsLost 64 g.lost).event 0x0A01 (g.lost + g.strict * 2 ^ 32) := by
  simp [State.closeGap, opened, free]

@[simp] theorem State.closeGap_mem (s : State) : s.closeGap.mem = s.mem := by
  unfold State.closeGap
  split
  · rfl
  · split
    · rfl
    · exact State.event_mem _ _ _

theorem State.closeGap_booked (s : State) : Booked s s.closeGap := (Booked.refl s).closeGap

theorem execGapClose_idle {s : State} (h : s.gap = none ∨ s.locusFree = 0) : exec .gapClose s = .next s :=
  congrArg Host.Outcome.next (State.closeGap_idle h)

theorem execGapClose_open {s : State} {g : Gap} (opened : s.gap = some g) (free : s.locusFree ≠ 0) : ∃ t, exec .gapClose s = .next t ∧
    t.gap = none ∧ t.mem = s.mem ∧ t.eng = s.eng ∧ t.obj O.locusRecordsLost = satAdd 64 (s.obj O.locusRecordsLost) g.lost ∧
    t.locusSum.lost = s.locusSum.lost + g.lost ∧ t.obj O.locusChain = (crc32c (leBytes 4 (s.obj O.locusChain) ++ g.bytes)).toNat := by
  refine ⟨_, rfl, ?_, s.closeGap_mem, s.closeGap_booked.eng, ?_⟩ <;> rw [State.closeGap_open opened free]
  · exact State.event_gap _ _ _
  · refine ⟨?_, congrArg LocusSum.lost (State.event_locusSum _ _ _), ?_⟩
    · rw [State.obj_event _ _ _ (by decide), State.obj_count_self, State.makeFinal, State.obj_setObj_ne _ _ (by decide)]
      rfl
    · rw [State.obj_event _ _ _ (by decide), State.obj_count_ne _ _ _ (by decide), State.makeFinal, State.obj_setObj_self]
      rfl

/-! ### The drain (R484, R485, R494) -/

theorem State.corruptRecord_journalKept (s : State) (a : Nat) : JournalKept s (s.corruptRecord a) :=
  (((JournalKept.refl s).storeBytes a _).count _ _ (by decide)).event _ _

theorem State.haltDrain_journalKept (s : State) : JournalKept s s.haltDrain :=
  (((JournalKept.refl s).setObj 3 (by decide)).count _ _ (by decide)).event _ _

theorem State.drainReady_final {s : State} (all : s.finalCount ≤ s.obj O.locusDrainSeq) : s.drainReady = false := by
  simp [State.drainReady, Nat.not_lt.2 all]

theorem State.drainOne_idle {s : State} (h : s.drainReady = false) : s.drainOne = s := by simp [State.drainOne, h]

/-- The next record counts as drained, and its slot as free. -/
def State.drained (s : State) (q : Nat) : State := (s.setObj O.locusDrainSeq (q + 1)).freeUpTo (q + 1)

/-- A step of the drain leaves the numbers of the journal, or counts one record as drained. -/
theorem State.drainOne_cases (s : State) :
    JournalKept s s.drainOne ∨ ∃ u, JournalKept s u ∧ s.drainOne = u.drained (s.obj O.locusDrainSeq) := by
  unfold State.drainOne
  extract_lets q dst s1 ovf s2
  have noted : JournalKept s s1 := by
    dsimp only [s1]
    split
    · exact ((s.noteBad_journalKept _ _).event _ _).trans (State.corruptRecord_journalKept _ _)
    · exact s.noteSofts_journalKept _ _
  split
  · exact .inl (.refl s)
  · split
    · exact .inl s.haltDrain_journalKept
    · exact .inr ⟨s2, (noted.storeBytes dst _).count _ _ (by decide), rfl⟩

/-- A record without an uncorrectable word is copied as it stands. -/
theorem State.drainOne_copies {s : State} (ready : s.drainReady = true) (answers : s.reachable (s.lpddrRing (s.obj O.locusDrainSeq)) = true)
    (sound : s.badIn (ringAddr (s.obj O.locusDrainSeq)) 32 = none) :
    ∃ u, JournalKept s u ∧ u.mem = memPutBytes s.mem (s.lpddrRing (s.obj O.locusDrainSeq)) (s.ringBytes (s.obj O.locusDrainSeq)) ∧
      s.drainOne = u.drained (s.obj O.locusDrainSeq) := by
  simp only [State.drainOne, ready, answers, sound, Bool.not_true, Bool.false_eq_true, if_false]
  refine ⟨_, ((s.noteSofts_journalKept _ _).storeBytes _ _).count _ _ (by decide), ?_, rfl⟩
  obtain ⟨same, -⟩ := s.noteSofts_leaves (ringAddr (s.obj O.locusDrainSeq)) 32
  rw [State.count_mem, (State.storeBytes_leaves _ _ _).1, State.ringBytes, same, State.ringBytes]

/-- A step of the drain takes at most one record (R484). -/
theorem State.drainOne_bounds (s : State) : s.obj O.locusDrainSeq ≤ s.drainOne.obj O.locusDrainSeq ∧
    s.drainOne.obj O.locusDrainSeq ≤ s.obj O.locusDrainSeq + 1 ∧ s.locusFreed ≤ s.drainOne.locusFreed ∧ s.drainOne.eng = s.eng := by
  rcases s.drainOne_cases with kept | ⟨u, kept, taken⟩
  · rw [kept.obj _ (.inr rfl), kept.freed]
    exact ⟨Nat.le_refl _, Nat.le_succ _, Nat.le_refl _, kept.eng⟩
  · have next : (u.drained (s.obj O.locusDrainSeq)).obj O.locusDrainSeq = s.obj O.locusDrainSeq + 1 := State.obj_setObj_self _ _ _
    rw [taken, next]
    exact ⟨Nat.le_succ _, Nat.le_refl _, kept.freed ▸ Nat.le_max_left _ _, kept.eng⟩

theorem State.drainBurst_bounds (n : Nat) (s : State) : s.obj O.locusDrainSeq ≤ (State.drainBurst n s).obj O.locusDrainSeq ∧
    (State.drainBurst n s).obj O.locusDrainSeq ≤ s.obj O.locusDrainSeq + n ∧ s.locusFreed ≤ (State.drainBurst n s).locusFreed ∧
    (State.drainBurst n s).eng = s.eng := by
  induction n generalizing s with
  | zero => exact ⟨Nat.le_refl _, Nat.le_refl _, Nat.le_refl _, rfl⟩
  | succ n ih =>
    obtain ⟨low, high, freed, eng⟩ := s.drainOne_bounds
    obtain ⟨low', high', freed', eng'⟩ := ih s.drainOne
    exact ⟨Nat.le_trans low low', by rw [State.drainBurst]; omega, Nat.le_trans freed freed', eng'.trans eng⟩

theorem State.drainBurst_idle (n : Nat) {s : State} (h : s.drainReady = false) : State.drainBurst n s = s := by
  induction n with
  | zero => rfl
  | succ n ih => rw [State.drainBurst, State.drainOne_idle h, ih]

theorem execLocusDrain_bounds (s : State) : ∃ t, exec .locusDrain s = .next t ∧ s.obj O.locusDrainSeq ≤ t.obj O.locusDrainSeq ∧
    t.obj O.locusDrainSeq ≤ s.obj O.locusDrainSeq + 64 ∧ s.locusFreed ≤ t.locusFreed ∧ t.eng = s.eng := by
  have closed := (State.drainBurst 64 s).closeGap_booked
  refine ⟨_, rfl, ?_⟩
  rw [closed.obj _ (by decide), closed.locusFreed, closed.eng]
  exact State.drainBurst_bounds 64 s

section
variable {s : State} (ready : s.drainReady = true) (last : s.finalCount = s.obj O.locusDrainSeq + 1)
  (answers : s.reachable (s.lpddrRing (s.obj O.locusDrainSeq)) = true) (sound : s.badIn (ringAddr (s.obj O.locusDrainSeq)) 32 = none)
include ready last answers sound

/-- The burst ends with the last final record: after it nothing is ready. -/
theorem State.drainBurst_last (n : Nat) : ∃ u, JournalKept s u ∧
    u.mem = memPutBytes s.mem (s.lpddrRing (s.obj O.locusDrainSeq)) (s.ringBytes (s.obj O.locusDrainSeq)) ∧
    State.drainBurst (n + 1) s = u.drained (s.obj O.locusDrainSeq) := by
  obtain ⟨u, kept, mem, taken⟩ := State.drainOne_copies ready answers sound
  have next : (u.drained (s.obj O.locusDrainSeq)).obj O.locusDrainSeq = s.obj O.locusDrainSeq + 1 := State.obj_setObj_self _ _ _
  have final : (u.drained (s.obj O.locusDrainSeq)).finalCount = u.finalCount := by
    simp only [State.finalCount]
    rw [show (u.drained (s.obj O.locusDrainSeq)).obj O.locusWriteSeq = u.obj O.locusWriteSeq from State.obj_setObj_ne _ _ (by decide)]
    rfl
  have done : (u.drained (s.obj O.locusDrainSeq)).drainReady = false :=
    State.drainReady_final (Nat.le_of_eq ((final.trans (kept.finalCount.trans last)).trans next.symm))
  exact ⟨u, kept, mem, by rw [State.drainBurst, taken, State.drainBurst_idle n done]⟩

theorem execLocusDrain_last (wf : Memory.wf s.mem) : ∃ t, exec .locusDrain s = .next t ∧
    memBytes t.mem (s.lpddrRing (s.obj O.locusDrainSeq)) 32 = memBytes s.mem (ringAddr (s.obj O.locusDrainSeq)) 32 ∧
    (∀ a, a < s.lpddrRing (s.obj O.locusDrainSeq) ∨ s.lpddrRing (s.obj O.locusDrainSeq) + 32 ≤ a → memByte t.mem a = memByte s.mem a) ∧
    t.obj O.locusDrainSeq = s.obj O.locusDrainSeq + 1 ∧ t.locusFreed = max s.locusFreed (s.obj O.locusDrainSeq + 1) := by
  obtain ⟨u, kept, mem, burst⟩ := State.drainBurst_last ready last answers sound 63
  have closed := (State.drainBurst 64 s).closeGap_booked
  have stored : (State.drainBurst 64 s).closeGap.mem =
      memPutBytes s.mem (s.lpddrRing (s.obj O.locusDrainSeq)) (s.ringBytes (s.obj O.locusDrainSeq)) := by
    rw [State.closeGap_mem, burst]
    exact mem
  have length : (s.ringBytes (s.obj O.locusDrainSeq)).length = 32 := length_memBytes ..
  refine ⟨_, rfl, ?_, fun a outside => ?_, ?_, ?_⟩
  · rw [stored]
    exact length ▸ memBytes_memPutBytes wf _ (s.ringBytes (s.obj O.locusDrainSeq))
  · rw [stored, memByte_memPutBytes wf, if_neg (by omega)]
  · rw [closed.obj _ (by decide), burst]
    exact State.obj_setObj_self _ _ _
  · rw [closed.locusFreed, burst, ← kept.freed]
    rfl

end

/-! ### Acknowledgement (R482, R486) -/

/-- What an accepted write of LocusAckSeq does. -/
def State.acknowledge (s : State) (v : Nat) : State :=
  let t := s.setObj O.locusAckSeq v
  (if t.obj O.locusDrainEnable = 0 then t.freeUpTo v else t).closeGap

theorem execLocusAckSeq_eq (src : Src) (words : List (BitVec 32)) (s : State) : exec (.locusAckSeq src words) s =
    .next (s.writeReq src.key src.link.val O.locusAckSeq words
      { range := decide (s.obj O.locusAckSeq ≤ wordsNat words) && decide (wordsNat words ≤ s.finalCount) }
      (fun s => s.acknowledge (wordsNat words))) := rfl

theorem State.acknowledge_leaves (s : State) (v : Nat) : (s.acknowledge v).obj O.locusAckSeq = v ∧ (s.acknowledge v).mem = s.mem ∧
    (s.acknowledge v).eng = s.eng ∧ (s.acknowledge v).locusFreed = if s.obj O.locusDrainEnable = 0 then max s.locusFreed v else s.locusFreed := by
  unfold State.acknowledge
  extract_lets t
  have same : t.obj O.locusDrainEnable = s.obj O.locusDrainEnable := State.obj_setObj_ne _ _ (by decide)
  have taken : t.obj O.locusAckSeq = v := State.obj_setObj_self _ _ _
  rw [same, State.closeGap_mem, (State.closeGap_booked _).obj _ (by decide), (State.closeGap_booked _).eng, (State.closeGap_booked _).locusFreed]
  split <;> exact ⟨taken, rfl, rfl, rfl⟩

/-! ### The switch of the drain (R495, R669) -/

theorem State.stopChan_idle {s : State} {c : Fin 32} (h : ¬(s.chanState c = 1 ∨ s.chanState c = 2 ∨ s.chanState c = 3)) : s.stopChan c = s := by
  unfold State.stopChan
  extract_lets v s1
  obtain ⟨running, -, halted⟩ : ¬v = 1 ∧ ¬v = 2 ∧ ¬v = 3 := by simpa only [not_or] using h
  rw [if_neg h]
  dsimp only [s1]
  split
  · rfl
  · rw [if_neg running, if_neg halted]

/-- A channel that is running, parked or halted is reset, its descriptor given back (R685). -/
theorem State.stopChan_active {s : State} {c : Fin 32} (h : s.chanState c = 1 ∨ s.chanState c = 2 ∨ s.chanState c = 3) :
    ∃ u, JournalKept s u ∧
      s.stopChan c = (u.modChan c (fun _ => DmaChan.reset)).setObjs [(O.channelState c.val, 0), (O.channelRemaining c.val, 0)] := by
  unfold State.stopChan
  extract_lets v s1
  refine ⟨s1, ?_, if_pos h⟩
  dsimp only [s1]
  split
  · exact .refl s
  · split
    · exact ((JournalKept.refl s).writeBack _ _ _ _ _).sendAbort _ _
    · split
      · exact ((JournalKept.refl s).putDescWord _ _).sendAbort _ _
      · exact .refl s

theorem channelObjects_ne (c : Fin 32) : O.locusDrainSeq ∉ [O.channelState c.val, O.channelRemaining c.val] ∧
    O.channelState c.val ≠ O.channelRemaining c.val := by
  revert c
  decide

/-- A stopped channel is Idle, unless it was stopping; the other channels, the engines and the numbers of the drain stay. -/
theorem State.stopChan_leaves (s : State) (c : Fin 32) : (s.stopChan c).eng = s.eng ∧ (s.stopChan c).locusFreed = s.locusFreed ∧
    (s.stopChan c).obj O.locusDrainSeq = s.obj O.locusDrainSeq ∧ (s.chanState c ≤ 3 → (s.stopChan c).chanState c = 0) ∧
    ∀ j, j ≠ c → (s.stopChan c).chan j = s.chan j := by
  by_cases active : s.chanState c = 1 ∨ s.chanState c = 2 ∨ s.chanState c = 3
  · obtain ⟨u, kept, stopped⟩ := State.stopChan_active active
    obtain ⟨elsewhere, apart⟩ := channelObjects_ne c
    rw [stopped]
    refine ⟨kept.eng, kept.freed, ?_, fun _ => ?_, fun j other => ?_⟩
    · exact (State.obj_setObjs_other _ elsewhere).trans (kept.obj _ (.inr rfl))
    · exact (State.obj_setObj_ne _ _ apart).trans (State.obj_setObj_self _ _ _)
    · exact (lane_put_other _ _ _ _ (Ne.symm other)).trans (congrArg (fun d => lane d.chan j) kept.dma)
  · rw [State.stopChan_idle active]
    exact ⟨rfl, rfl, rfl, fun _ => by omega, fun _ _ => rfl⟩

/-- What an accepted write of LocusDrainEnable does: the drain goes on with the first record that is neither drained nor freed. -/
def State.switchDrain (s : State) (v : Nat) : State :=
  if v = 0 then s.setObj O.locusDrainEnable 0
  else
    let t := s.stopChan 31
    let n := max (t.obj O.locusDrainSeq) t.locusFreed
    let u := t.setObjs [(O.locusDrainEnable, 1), (O.locusDrainSeq, n)]
    if n = t.obj O.locusDrainSeq then u else { u with locusSum := { u.locusSum with drainLo := n } }

theorem execLocusDrainEnable_eq (src : Src) (words : List (BitVec 32)) (s : State) : exec (.locusDrainEnable src words) s =
    .next (s.writeReq src.key src.link.val O.locusDrainEnable words { range := wordsNat words = 0 || s.lpddrBytes != 0 }
      (fun s => s.switchDrain (wordsNat words))) := rfl

theorem State.switchDrain_off (s : State) : s.switchDrain 0 = s.setObj O.locusDrainEnable 0 := rfl

theorem State.setObjs_drain (t : State) (n : Nat) : let u := t.setObjs [(O.locusDrainEnable, 1), (O.locusDrainSeq, n)]
    u.obj O.locusDrainEnable = 1 ∧ u.obj O.locusDrainSeq = n ∧ u.chanState 31 = t.chanState 31 := by
  simp +decide [State.setObjs, State.obj_setObj, State.chanState]

theorem State.switchDrain_on (s : State) {v : Nat} (on : v ≠ 0) : (s.switchDrain v).obj O.locusDrainEnable = 1 ∧ (s.switchDrain v).eng = s.eng ∧
    (s.switchDrain v).obj O.locusDrainSeq = max (s.obj O.locusDrainSeq) s.locusFreed ∧
    (s.chanState 31 ≤ 3 → (s.switchDrain v).chanState 31 = 0) ∧ ∀ j : Fin 32, j ≠ 31 → (s.switchDrain v).chan j = s.chan j := by
  obtain ⟨eng, freed, seq, idle, others⟩ := s.stopChan_leaves 31
  have first : max ((s.stopChan 31).obj O.locusDrainSeq) (s.stopChan 31).locusFreed = max (s.obj O.locusDrainSeq) s.locusFreed := by rw [seq, freed]
  unfold State.switchDrain
  rw [if_neg on]
  extract_lets t n u
  obtain ⟨enabled, next, elsewhere⟩ := t.setObjs_drain n
  split <;> exact ⟨enabled, eng, next.trans first, fun low => elsewhere.trans (idle low), others⟩

/-! ### The LPDDR5X ring (R483) -/

theorem execLpddrRingBase_eq (src : Src) (words : List (BitVec 32)) (s : State) : exec (.lpddrRingBase src words) s =
    .next (s.writeReq src.key src.link.val O.lpddrRingBase words
      { mode := s.obj O.locusDrainEnable = 0, range := s.ringFits (wordsNat words) (s.obj O.lpddrRingLog2) }
      (fun s => s.setObj O.lpddrRingBase (wordsNat words))) := rfl

theorem execLpddrRingLog2_eq (src : Src) (words : List (BitVec 32)) (s : State) : exec (.lpddrRingLog2 src words) s =
    .next (s.writeReq src.key src.link.val O.lpddrRingLog2 words
      { mode := s.obj O.locusDrainEnable = 0, range := s.ringFits (s.obj O.lpddrRingBase) (wordsNat words) }
      (fun s => s.setObj O.lpddrRingLog2 (wordsNat words))) := rfl

/-! ### Summaries (R491) -/

theorem execLocusSummary_idle {s : State} (h : s.locusSum.count < s.obj O.locusSummaryPeriod ∨ s.obj O.hullShedStage ≠ 0 ∨ s.obj O.hullReady ≠ 1) :
    exec .locusSummary s = .next s := by
  have early : (decide (s.obj O.locusSummaryPeriod ≤ s.locusSum.count) && s.obj O.hullShedStage = 0 && s.obj O.hullReady = 1) = false := by
    rcases h with few | shed | busy
    · simp [Nat.not_le.2 few]
    · simp [shed]
    · simp [busy]
  change execLocusSummary s = _
  simp only [execLocusSummary, early, Bool.false_eq_true, if_false]

theorem State.keepWrite_leaves (s : State) (kind : Nat) (payload : List Byte) :
    (s.keepWrite kind payload).obj O.keepLastSeq = s.obj O.keepLastSeq + 1 ∧ (s.keepWrite kind payload).eng = s.eng := by
  unfold State.keepWrite
  extract_lets n i seq
  exact ⟨(State.obj_count_ne _ _ _ (by decide)).trans (State.obj_setObj_self _ _ _), (State.storeBytes_leaves _ _ _).2⟩

theorem execLocusSummary_due {s : State} (full : s.obj O.locusSummaryPeriod ≤ s.locusSum.count) (keen : s.obj O.hullShedStage = 0)
    (ready : s.obj O.hullReady = 1) : ∃ t, exec .locusSummary s = .next t ∧
      t.obj O.locusSummarySeq = s.locusSum.first + s.locusSum.count - 1 ∧ t.locusSum.first = s.locusSum.first + s.locusSum.count ∧
      t.locusSum.count = 0 ∧ t.obj O.keepLastSeq = s.obj O.keepLastSeq + 1 ∧ t.eng = s.eng := by
  obtain ⟨seq, eng⟩ := s.keepWrite_leaves 4 s.summaryBytes
  have due : (decide (s.obj O.locusSummaryPeriod ≤ s.locusSum.count) && s.obj O.hullShedStage = 0 && s.obj O.hullReady = 1) = true := by
    simp [full, keen, ready]
  refine ⟨_, congrArg Host.Outcome.next (if_pos due), State.obj_setObj_self _ _ _, rfl, rfl, ?_, eng⟩
  exact (State.obj_setObj_ne (s.keepWrite 4 s.summaryBytes) _ (by decide : O.keepLastSeq ≠ O.locusSummarySeq)).trans seq

end Sys2Proof.Machine

namespace Sys2Proof.Claims
open Sys2Proof Sys2Proof.Machine

section
variable {s : State} {i : Instr} {src : Src} {kport a : Nat} {words : List (BitVec 32)} {x : Extra} {effect : State → State}
  (runs : exec i s = .next (s.writeReq src.key kport a words x effect)) (passes : Passes s src a words true true true)
include runs passes

/-- A request that passes the common checks, and whose own conditions all hold, is performed. -/
theorem answers_of_extra (own : x = {}) {P : State → Prop} (holds : P (effect s)) : Answers s i src rcOk P := by
  subst own
  exact answers_of_passes runs passes holds

/-- The three cases of an object of the LPDDR5X ring: the drain runs, the ring does not fit, or the object is set (R483). -/
theorem ringObject_cases {fits : Bool} (own : x = { mode := s.obj O.locusDrainEnable = 0, range := fits }) :
    (s.obj O.locusDrainEnable ≠ 0 → Refuses s i src rcMode) ∧
    (s.obj O.locusDrainEnable = 0 → fits = false → Refuses s i src rcRange) ∧
    (s.obj O.locusDrainEnable = 0 → fits = true → Performs s i src (effect s)) := by
  subst own
  refine ⟨fun on => ?_, fun off outside => ?_, fun off inside => ?_⟩
  · exact refuses_of_extra runs passes (by decide) (by simp [on])
  · exact refuses_of_extra runs passes (by decide) (by simp [off, outside])
  · exact answers_of_extra runs passes (by simp [off, inside]) rfl

end

/-- Settles O47: each clause is the law of its command. The model's choices are that the drain starts at the later of the drain sequence and the
freed count (log entry 45) and that a Keep record takes the number after KeepLastSeq (log entry 46). -/
theorem locusJournalDrainAndRings : Obligations.LocusJournalDrainAndRings := by
  unfold Obligations.LocusJournalDrainAndRings
  intro s src words
  dsimp only
  refine ⟨execGapClose_idle, fun g => execGapClose_open, execLocusDrain_bounds s, execLocusDrain_last, fun passes => ?acknowledges,
    fun passes => ?switches, fun passes => ringObject_cases (execLpddrRingBase_eq src words s) passes rfl,
    fun passes => ringObject_cases (execLpddrRingLog2_eq src words s) passes rfl, execLocusSummary_idle, execLocusSummary_due⟩
  case acknowledges =>
    have runs := execLocusAckSeq_eq src words s
    refine ⟨fun outside => ?_, fun low high => ?_⟩
    · refine refuses_of_extra runs passes (by decide) ?_
      rcases outside with under | above
      · simp [Nat.not_le.2 under]
      · simp [Nat.not_le.2 above]
    · exact answers_of_extra runs passes (by simp [low, high]) (s.acknowledge_leaves _)
  case switches =>
    have runs := execLocusDrainEnable_eq src words s
    refine ⟨fun off => ?_, fun on unfitted => ?_, fun on fitted => ?_⟩
    · exact answers_of_extra runs passes (by simp [off]) (by rw [off, State.switchDrain_off])
    · exact refuses_of_extra runs passes (by decide) (by simp [on, unfitted])
    · exact answers_of_extra runs passes (by simp [fitted]) (s.switchDrain_on on)

end Sys2Proof.Claims
end

section
/-! A write of SapFormat while a parameter stands at its address (R524, R530). -/
namespace Sys2Proof.Machine
open Sys2Proof

/-- A parameter of 32 bits, any value of which is in range, at the address of SapFormat of port 0. No load makes one there (R372 places the
parameters from index 0x8000 on), but no hypothesis of the statement shuts it out. -/
def strayParam : Param :=
  { addr := O.sapFormat 0, ty := 0, bind := 0, glide := false, strict := false, replicate := false, rights := 15, engine := 0, base := 0, words := 1
    lo := 0, hi := 0xFFFFFFFF, dflt := 0, block := 0, lenVal := 0, mirror := none }

/-- The device after reset, up, with that parameter. -/
def strayParamState : State := { State.reset with life := .up, params := [strayParam] }

/-- The parameter's row is what a write of SapFormat is checked against, so its reserved bit 0 is not. -/
theorem strayParam_admits (y : BitVec 32) (h : y = 0 ∨ y = 1) : strayParamState.checkWrite .host (O.sapFormat 0) [y] {} = rcOk := by
  rcases h with rfl | rfl <;> decide

/-- A request that every check admits is answered with result code 0, whatever its effect. -/
theorem State.writeReq_resp_ok {s : State} {a : Nat} {words : List (BitVec 32)} {k : SessKey} {x : Extra} (serving : s.serving = true)
    (firmware : firmwareServed a true = true → s.firmwareCan a true = true) (ok : s.checkWrite k a words x = rcOk) (kport : Nat) (effect : State → State) :
    (s.writeReq k kport a words x effect).resp = some { key := k, code := rcOk, words := [] } := by
  rw [State.writeReq_eq serving firmware, State.finishWrite_resp, ok]

end Sys2Proof.Machine

namespace Sys2Proof.Claims
open Sys2Proof Sys2Proof.Machine

/-- Refutes O38: a SapFormat with reserved bit 0 set is not always refused. The statement bounds no address of a graph parameter, and with one
at the address of SapFormat the write is checked against that parameter's range, which admits the value, and is performed. -/
theorem not_serialPortRequests : ¬ Obligations.SerialPortRequests := by
  unfold Obligations.SerialPortRequests
  intro holds
  have serving : strayParamState.serving = true := by decide
  have notServed : firmwareServed (O.sapFormat 0) true = true → strayParamState.firmwareCan (O.sapFormat 0) true = true := by decide
  obtain ⟨-, settings, -⟩ := holds strayParamState { key := .host, link := 0 } 0 0 [0]
  obtain ⟨-, off⟩ := settings ⟨serving, notServed, strayParam_admits 0 (.inl rfl)⟩
  obtain ⟨refused, -⟩ := off (by decide)
  obtain ⟨u, t, runs, code, -⟩ := refused 0 rfl rfl 1 (by decide)
  obtain rfl := Host.Outcome.next.inj runs
  have answered := State.writeReq_resp_ok (x := { mode := strayParamState.portState 0 = 0, range := sapFormatOk 1 }) serving notServed
    (strayParam_admits 1 (.inr rfl)) 0 (fun s => s.setObj (O.sapFormat 0) 1)
  exact absurd (code.symm.trans answered) (by decide)

end Sys2Proof.Claims
end

section
/-! The state of a serial audio port: what a change at one port leaves of its objects, of the other ports, of engines and memory (R515, R520, R529). -/
namespace Sys2Proof.Machine
open Sys2Proof

/-! ### The record of a port -/

@[simp] theorem State.sapOf_setObj (s : State) (a v : Nat) (p : Fin 4) : (s.setObj a v).sapOf p = s.sapOf p := rfl
@[simp] theorem State.sapOf_count (s : State) (a w n : Nat) (p : Fin 4) : (s.count a w n).sapOf p = s.sapOf p := rfl
@[simp] theorem State.sapOf_sapEvent (s : State) (p : Fin 4) (kind n : Nat) (q : Fin 4) : (s.sapEvent p kind n).sapOf q = s.sapOf q := by
  simp [State.sapEvent, State.sapOf]

@[simp] theorem State.sapOf_modSap_self (s : State) (p : Fin 4) (f : Sap → Sap) : (s.modSap p f).sapOf p = f (s.sapOf p) := lane_put_same _ _ _

theorem State.sapOf_modSap_ne (s : State) {p q : Fin 4} (f : Sap → Sap) (other : q ≠ p) : (s.modSap p f).sapOf q = s.sapOf q :=
  lane_put_other _ _ _ _ other.symm

@[simp] theorem State.modSap_eng (s : State) (p : Fin 4) (f : Sap → Sap) : (s.modSap p f).eng = s.eng := rfl
@[simp] theorem State.modSap_mem (s : State) (p : Fin 4) (f : Sap → Sap) : (s.modSap p f).mem = s.mem := rfl
@[simp] theorem State.obj_modSap (s : State) (p : Fin 4) (f : Sap → Sap) (a : Nat) : (s.modSap p f).obj a = s.obj a := rfl

theorem State.modSap_self (s : State) (p : Fin 4) {f : Sap → Sap} (same : f (s.sapOf p) = s.sapOf p) : s.modSap p f = s := by
  change ({ s with sap := put s.sap p (f (s.sapOf p)) } : State) = s
  rw [same]
  simp [State.sapOf, put, lane, Vector.set_getElem_self]

@[simp] theorem Sap.cap_setDir (x : Sap) (inb : Bool) (d : SapDir) : (x.setDir inb d).cap = x.cap := by cases inb <;> rfl

theorem Sap.setDir_dir (x : Sap) (inb : Bool) : x.setDir inb (x.dir inb) = x := by cases inb <;> rfl

/-! ### The objects of the ports -/

/-- Objects whose subindices differ within a port's block of addresses differ, at whatever ports. -/
theorem portObj_ne {i j : Nat} (n m : Nat) (h : i % 0x10000 ≠ j % 0x10000) : i + 0x10000 * n ≠ j + 0x10000 * m := by omega

/-- The objects of port `p`: those of the indices 0x1000 + 256 p to 0x10FF + 256 p (R529). -/
def ofPort (p : Fin 4) (a : Nat) : Prop := a / 0x10000 = 0x10 + p.val

theorem ofPort_add (p : Fin 4) {i : Nat} (h : i / 0x10000 = 0x10) : ofPort p (i + 0x10000 * p.val) := by
  unfold ofPort
  omega

theorem ofPort.ne_eventsLost {p : Fin 4} {a : Nat} (h : ofPort p a) : a ≠ O.eventsLost := by
  rintro rfl
  simp [ofPort, O.eventsLost] at h
  omega

theorem State.obj_sapEvent (s : State) (p : Fin 4) (kind n : Nat) {q : Fin 4} {a : Nat} (h : ofPort q a) : (s.sapEvent p kind n).obj a = s.obj a :=
  s.obj_event _ _ h.ne_eventsLost

theorem ofPort_portState (p : Fin 4) : ofPort p (O.portState p.val) := ofPort_add p (by decide)

theorem ofPort_convObj (p : Fin 4) (inb : Bool) : ofPort p (convObj p inb) := by
  cases inb <;> exact ofPort_add p (by decide)

/-- The objects of port `p` at the offsets `subs` of its block of addresses. -/
def InSubs (p : Fin 4) (subs : List Nat) (a : Nat) : Prop := ofPort p a ∧ a % 0x10000 ∈ subs

theorem inSubs_add (p : Fin 4) {i : Nat} {subs : List Nat} (h : i / 0x10000 = 0x10 ∧ i % 0x10000 ∈ subs) : InSubs p subs (i + 0x10000 * p.val) :=
  ⟨ofPort_add p h.1, by rw [Nat.add_mul_mod_self_left]; exact h.2⟩

theorem InSubs.mono {p : Fin 4} {l m : List Nat} {a : Nat} (more : l ⊆ m) (h : InSubs p l a) : InSubs p m a := ⟨h.1, more h.2⟩

/-! ### A change at one port -/

/-- `t` is `s` but for port `p`, of whose objects only those at the offsets `subs` differ and whose captured words stay, and for what is not of
the ports, engines or memory. -/
structure PortOnly (p : Fin 4) (subs : List Nat) (s t : State) : Prop where
  eng : t.eng = s.eng
  mem : t.mem = s.mem
  cap : (t.sapOf p).cap = (s.sapOf p).cap
  others : ∀ q, q ≠ p → t.sapOf q = s.sapOf q
  obj : ∀ q a, ofPort q a → ¬InSubs p subs a → t.obj a = s.obj a

theorem PortOnly.refl (p : Fin 4) (s : State) : PortOnly p [] s s := ⟨rfl, rfl, rfl, fun _ _ => rfl, fun _ _ _ _ => rfl⟩

theorem PortOnly.trans {p : Fin 4} {l m : List Nat} {s t u : State} (h : PortOnly p l s t) (k : PortOnly p m t u) : PortOnly p (l ++ m) s u := by
  refine ⟨k.eng.trans h.eng, k.mem.trans h.mem, k.cap.trans h.cap, fun q other => (k.others q other).trans (h.others q other), fun q a place free => ?_⟩
  have first := h.obj q a place (mt (InSubs.mono (List.subset_append_left l m)) free)
  exact (k.obj q a place (mt (InSubs.mono (List.subset_append_right l m)) free)).trans first

/-- More offsets may be named than change. -/
theorem PortOnly.mono {p : Fin 4} {l m : List Nat} {s t : State} (h : PortOnly p l s t) (more : l ⊆ m) : PortOnly p m s t :=
  ⟨h.eng, h.mem, h.cap, h.others, fun q a place free => h.obj q a place (mt (InSubs.mono more) free)⟩

/-- A change of parts of the state that no port has a share in. -/
theorem PortOnly.same {p : Fin 4} {s t : State} (eng : t.eng = s.eng := by rfl) (mem : t.mem = s.mem := by rfl) (sap : t.sap = s.sap := by rfl)
    (objs : t.objs = s.objs := by rfl) : PortOnly p [] s t :=
  ⟨eng, mem, by rw [State.sapOf, sap, State.sapOf], fun _ _ => by rw [State.sapOf, sap, State.sapOf], fun _ _ _ _ => by rw [State.obj, objs, State.obj]⟩

theorem State.setObj_portOnly (s : State) {p : Fin 4} {subs : List Nat} {a : Nat} (v : Nat) (named : InSubs p subs a) : PortOnly p subs s (s.setObj a v) :=
  ⟨rfl, rfl, rfl, fun _ _ => rfl, fun _ _ _ free => s.obj_setObj_ne v (fun same => free (same ▸ named))⟩

theorem State.setObjs_portOnly {p : Fin 4} {subs : List Nat} {l : List (Nat × Nat)} (named : ∀ e ∈ l, InSubs p subs e.1) (s : State) :
    PortOnly p subs s (s.setObjs l) := by
  induction l generalizing s with
  | nil => exact (PortOnly.refl p s).mono (List.nil_subset _)
  | cons e l ih =>
    have head := s.setObj_portOnly e.2 (named e List.mem_cons_self)
    exact (head.trans (ih (fun x member => named x (List.mem_cons_of_mem e member)) _)).mono (List.append_subset.2 ⟨List.Subset.refl _, List.Subset.refl _⟩)

theorem State.setPort_portOnly (s : State) (p : Fin 4) (v : Nat) : PortOnly p [2] s (s.setPort p v) :=
  s.setObj_portOnly v (inSubs_add p (by decide))

theorem State.sapEvent_portOnly (s : State) (p : Fin 4) (kind n : Nat) : PortOnly p [] s (s.sapEvent p kind n) :=
  ⟨s.event_eng _ _, s.event_mem _ _, by rw [State.sapOf_sapEvent], fun _ _ => s.sapOf_sapEvent _ _ _ _, fun _ _ place _ => s.obj_sapEvent p kind n place⟩

theorem State.modSap_portOnly (s : State) (p : Fin 4) (f : Sap → Sap) (cap : (f (s.sapOf p)).cap = (s.sapOf p).cap := by rfl) :
    PortOnly p [] s (s.modSap p f) :=
  ⟨rfl, rfl, by rw [State.sapOf_modSap_self, cap], fun _ other => s.sapOf_modSap_ne f other, fun _ _ _ _ => rfl⟩

section
variable {p : Fin 4} {l : List Nat} {s t : State} (h : PortOnly p l s t)
include h

/-- An object of the port that is not among the changed ones. -/
theorem PortOnly.obj_own {i : Nat} (place : i / 0x10000 = 0x10) (kept : i % 0x10000 ∉ l) : t.obj (i + 0x10000 * p.val) = s.obj (i + 0x10000 * p.val) :=
  by
  refine h.obj p _ (ofPort_add p place) (fun named => kept ?_)
  rw [← Nat.add_mul_mod_self_left i 0x10000 p.val]
  exact named.2

theorem PortOnly.portState (kept : 2 ∉ l) : t.portState p = s.portState p := h.obj_own (by decide) kept

theorem PortOnly.conv (inb : Bool) (kept : 0x101 ∉ l ∧ 0x201 ∉ l) : t.conv p inb = s.conv p inb := by
  cases inb
  · exact h.obj_own (by decide) kept.2
  · exact h.obj_own (by decide) kept.1

theorem PortOnly.sapFmt (kept : 3 ∉ l) : t.sapFmt p = s.sapFmt p := h.obj_own (by decide) kept

theorem PortOnly.sapS (kept : 3 ∉ l ∧ 7 ∉ l) : t.sapS p = s.sapS p := by
  have slots : t.obj (O.detectedSlots p.val) = s.obj (O.detectedSlots p.val) := h.obj_own (by decide) kept.2
  simp only [State.sapS, h.sapFmt kept.1, slots]

theorem PortOnly.sapChannels (kept : 3 ∉ l ∧ 7 ∉ l) : t.sapChannels p = s.sapChannels p := by
  simp only [State.sapChannels, h.sapS kept, h.sapFmt kept.1]

theorem PortOnly.sapFrameLen (kept : 3 ∉ l ∧ 7 ∉ l) : t.sapFrameLen p = s.sapFrameLen p := by
  simp only [State.sapFrameLen, h.sapS kept, h.sapFmt kept.1]

theorem PortOnly.portState_other {q : Fin 4} (other : q ≠ p) : t.portState q = s.portState q := by
  refine h.obj q _ (ofPort_portState q) (fun named => other ?_)
  have here := ofPort_portState q
  have there := named.1
  unfold ofPort at here there
  omega

end

end Sys2Proof.Machine
end

section
/-! The converters and the state of a port: what a change of a direction's state, a start, a loss and the end of a shutdown leave (R515 to R526). -/
namespace Sys2Proof.Machine
open Sys2Proof

/-! ### A direction in another state -/

/-- A direction in another state: its object, its framing delay, and its fade or ramp. -/
theorem State.setConv_eq (s : State) (p : Fin 4) (inb : Bool) (v : Nat) : ∃ n d, s.setConv p inb v =
    ((s.setObj (convObj p inb) v).setObj (framingObj p inb) n).modSap p (fun x => x.setDir inb d) := by
  unfold State.setConv
  extract_lets old s1
  split
  · exact ⟨_, _, rfl⟩
  · split
    · exact ⟨_, _, rfl⟩
    · split
      · exact ⟨_, _, rfl⟩
      · split
        · exact ⟨_, _, rfl⟩
        · exact ⟨_, _, (s1.modSap_self (f := fun x => x.setDir inb ((s1.sapOf p).dir inb)) p (Sap.setDir_dir (s1.sapOf p) inb)).symm⟩

/-- The offsets of the converters' states and of the framing delays. -/
def convSubs : List Nat := [0x101, 0x201, 8, 9]

theorem convObj_inSubs (p : Fin 4) (inb : Bool) : InSubs p convSubs (convObj p inb) := by cases inb <;> exact inSubs_add p (by decide)

theorem framingObj_inSubs (p : Fin 4) (inb : Bool) : InSubs p convSubs (framingObj p inb) := by cases inb <;> exact inSubs_add p (by decide)

theorem State.setConv_portOnly (s : State) (p : Fin 4) (inb : Bool) (v : Nat) : PortOnly p convSubs s (s.setConv p inb v) := by
  obtain ⟨n, d, eq⟩ := s.setConv_eq p inb v
  rw [eq]
  have objects := (s.setObj_portOnly v (convObj_inSubs p inb)).trans (State.setObj_portOnly _ n (framingObj_inSubs p inb))
  exact (objects.trans (State.modSap_portOnly _ p (fun x => x.setDir inb d) (Sap.cap_setDir _ _ _))).mono (by decide)

theorem convObj_ne (p : Fin 4) : ∀ {b c : Bool}, b ≠ c → convObj p b ≠ convObj p c
  | true, false, _ => portObj_ne _ _ (by decide)
  | false, true, _ => portObj_ne _ _ (by decide)
  | true, true, same => absurd rfl same
  | false, false, same => absurd rfl same

/-- The state of one direction changes, that of the other stays. -/
theorem State.conv_setConv (s : State) (p : Fin 4) (inb : Bool) (v : Nat) (b : Bool) : (s.setConv p inb v).conv p b = if b = inb then v else s.conv p b := by
  obtain ⟨n, d, eq⟩ := s.setConv_eq p inb v
  have framing : convObj p b ≠ framingObj p inb := by cases b <;> cases inb <;> exact portObj_ne _ _ (by decide)
  rw [eq, State.conv, State.obj_modSap, State.obj_setObj_ne _ _ framing, State.obj_setObj]
  by_cases same : b = inb
  · rw [same, if_pos rfl, if_pos rfl]
  · rw [if_neg (convObj_ne p same), if_neg same, State.conv]

@[simp] theorem State.conv_setConv_self (s : State) (p : Fin 4) (inb : Bool) (v : Nat) : (s.setConv p inb v).conv p inb = v := by simp [State.conv_setConv]

@[simp] theorem State.portState_setConv (s : State) (p : Fin 4) (inb : Bool) (v : Nat) : (s.setConv p inb v).portState p = s.portState p :=
  (s.setConv_portOnly p inb v).portState (by decide)

/-- Both directions in one state. -/
theorem State.conv_setConv_both (s : State) (p : Fin 4) (v : Nat) (b : Bool) : ((s.setConv p true v).setConv p false v).conv p b = v := by
  cases b <;> simp [State.conv_setConv]

/-! ### PortState -/

@[simp] theorem State.portState_setPort (s : State) (p : Fin 4) (v : Nat) : (s.setPort p v).portState p = v := State.obj_setObj_self _ _ _

@[simp] theorem State.conv_setPort (s : State) (p : Fin 4) (v : Nat) (b : Bool) : (s.setPort p v).conv p b = s.conv p b :=
  (s.setPort_portOnly p v).conv b (by decide)

@[simp] theorem State.portState_sapEvent (s : State) (p : Fin 4) (kind n : Nat) : (s.sapEvent p kind n).portState p = s.portState p :=
  s.obj_sapEvent p kind n (ofPort_portState p)

@[simp] theorem State.conv_sapEvent (s : State) (p : Fin 4) (kind n : Nat) (b : Bool) : (s.sapEvent p kind n).conv p b = s.conv p b :=
  s.obj_sapEvent p kind n (ofPort_convObj p b)

theorem State.dirReady_iff (s : State) (p : Fin 4) (b : Bool) : s.dirReady p b = true ↔ s.conv p b = 2 ∨ s.conv p b = 3 := by simp [State.dirReady]

theorem State.sapReady_portOnly (s : State) (p : Fin 4) : PortOnly p [2] s (s.sapReady p) := by
  unfold State.sapReady
  split
  · exact (s.setPort_portOnly p 2).trans (State.sapEvent_portOnly _ p 1 0)
  · exact (PortOnly.refl p s).mono (by decide)

/-- A port that acquires or is Lost becomes On once both directions are Locked or Bypassed (R521). -/
theorem State.portState_sapReady (s : State) (p : Fin 4) : (s.sapReady p).portState p =
    if (s.portState p = 1 ∨ s.portState p = 5) ∧ s.dirReady p true = true ∧ s.dirReady p false = true then 2 else s.portState p := by
  unfold State.sapReady
  by_cases ready : (s.portState p = 1 ∨ s.portState p = 5) ∧ s.dirReady p true = true ∧ s.dirReady p false = true
  · rw [if_pos ready, if_pos (by simpa [and_assoc] using ready), State.portState_sapEvent, State.portState_setPort]
  · rw [if_neg ready, if_neg (by simpa [and_assoc] using ready)]

/-! ### Bypass and start -/

/-- The state in which both directions are Bypassed, before the port becomes On. -/
def State.bothBypassed (s : State) (p : Fin 4) : State :=
  let f := Machine.framing s.mediaPerTick (if sapMaster (s.sapFmt p) then 16 else (s.sapOf p).q)
  ((s.setConv p true 3).setConv p false 3).setObjs
    [(O.inputFramingDelay p.val, f.1), (O.outputFramingDelay p.val, f.2), (O.inConvGroupDelay p.val, 0), (O.outConvGroupDelay p.val, 0)]

theorem State.setBypassed_eq (s : State) (p : Fin 4) : s.setBypassed p = (s.bothBypassed p).sapReady p := rfl

theorem State.bothBypassed_delays (s : State) (p : Fin 4) : PortOnly p [8, 9, 0x102, 0x202] ((s.setConv p true 3).setConv p false 3) (s.bothBypassed p) := by
  refine State.setObjs_portOnly ?_ _
  simp only [List.forall_mem_cons]
  exact ⟨inSubs_add p (by decide), inSubs_add p (by decide), inSubs_add p (by decide), inSubs_add p (by decide), nofun⟩

/-- Both directions become Bypassed: their states, framing delays and group delays, and PortState, change. -/
theorem State.setBypassed_portOnly (s : State) (p : Fin 4) : PortOnly p (convSubs ++ [2, 0x102, 0x202]) s (s.setBypassed p) :=
  ((((s.setConv_portOnly p true 3).trans (State.setConv_portOnly _ p false 3)).trans (s.bothBypassed_delays p)).trans
    (State.sapReady_portOnly _ p)).mono (by decide)

/-- A port whose directions become Bypassed is On, if it acquired. -/
theorem State.portState_setBypassed (s : State) (p : Fin 4) (acquires : s.portState p = 1) : (s.setBypassed p).portState p = 2 := by
  have delays := s.bothBypassed_delays p
  have state : (s.bothBypassed p).portState p = 1 := (delays.portState (by decide)).trans (by simp [acquires])
  have ready : ∀ b, (s.bothBypassed p).dirReady p b = true := fun b =>
    (State.dirReady_iff _ p b).2 (.inr <| (delays.conv b (by decide)).trans (s.conv_setConv_both p 3 b))
  rw [State.setBypassed_eq, State.portState_sapReady, if_pos ⟨.inl state, ready true, ready false⟩]

end Sys2Proof.Machine
end

section
/-! Clock loss, the end of a shutdown, and the lock of a converter: what each leaves of a port (R513 to R517, R521 to R526). -/
namespace Sys2Proof.Machine
open Sys2Proof

/-! ### Clock loss -/

/-- What a clock loss does to a port in any state but Off: it counts, is reported, and slots are detected again (R505, R526). -/
def State.noteLoss (s : State) (p : Fin 4) : State :=
  let s2 := ((s.count (O.clockLosses p.val) 32 1).modSap p (fun x => { x with good := 0, counts := [] })).setObj (O.detectedSlots p.val) 0
  s2.sapEvent p 3 (s2.obj (O.clockLosses p.val))

theorem State.sapLoss_off {s : State} {p : Fin 4} (off : s.portState p = 0) : s.sapLoss p = s := if_pos off

theorem State.sapLoss_shutdown {s : State} {p : Fin 4} (st : s.portState p = 3 ∨ s.portState p = 4) : s.sapLoss p = s.noteLoss p := by
  have on : s.portState p ≠ 0 := by rcases st with h | h <;> simp [h]
  simp only [State.sapLoss, if_neg on, Bool.or_eq_true, decide_eq_true_eq, if_pos st]
  rfl

theorem State.sapLoss_running {s : State} {p : Fin 4} (on : s.portState p ≠ 0) (h3 : s.portState p ≠ 3) (h4 : s.portState p ≠ 4) :
    s.sapLoss p = (((s.setConv p true 1).setConv p false 1).setPort p 5).noteLoss p := by
  simp only [State.sapLoss, if_neg on, Bool.or_eq_true, decide_eq_true_eq, h3, h4, or_self, if_false]
  rfl

theorem State.noteLoss_portOnly (s : State) (p : Fin 4) : PortOnly p [0xB, 7] s (s.noteLoss p) := by
  have counted := s.setObj_portOnly (subs := [0xB]) (satAdd 32 (s.obj (O.clockLosses p.val)) 1) (inSubs_add p (i := 0x10000B) (by decide))
  have undetected := (counted.trans (State.modSap_portOnly _ p (fun x => { x with good := 0, counts := [] }))).trans
    (State.setObj_portOnly _ (subs := [7]) 0 (inSubs_add p (i := 0x100007) (by decide)))
  exact (undetected.trans (State.sapEvent_portOnly _ p 3 _)).mono (by decide)

theorem State.sapOf_noteLoss (s : State) (p : Fin 4) : (s.noteLoss p).sapOf p = { s.sapOf p with good := 0, counts := [] } := by
  simp [State.noteLoss]

theorem ofPort_clockLosses (p : Fin 4) : ofPort p (O.clockLosses p.val) := ofPort_add p (by decide)

theorem State.clockLosses_noteLoss (s : State) (p : Fin 4) :
    (s.noteLoss p).obj (O.clockLosses p.val) = satAdd 32 (s.obj (O.clockLosses p.val)) 1 := by
  have slots : O.clockLosses p.val ≠ O.detectedSlots p.val := portObj_ne _ _ (by decide)
  rw [State.noteLoss, State.obj_sapEvent _ _ _ _ (ofPort_clockLosses p), State.obj_setObj_ne _ _ slots, State.obj_modSap, State.obj_count_self]

/-- The offsets a loss of a running port writes. -/
def lossSubs : List Nat := convSubs ++ [2, 0xB, 7]

theorem State.lost_portOnly (s : State) (p : Fin 4) : PortOnly p (convSubs ++ [2]) s (((s.setConv p true 1).setConv p false 1).setPort p 5) :=
  (((s.setConv_portOnly p true 1).trans (State.setConv_portOnly _ p false 1)).trans (State.setPort_portOnly _ p 5)).mono (by decide)

theorem State.sapLoss_portOnly (s : State) (p : Fin 4) : PortOnly p lossSubs s (s.sapLoss p) := by
  by_cases off : s.portState p = 0
  · rw [State.sapLoss_off off]
    exact (PortOnly.refl p s).mono (by decide)
  · by_cases st : s.portState p = 3 ∨ s.portState p = 4
    · rw [State.sapLoss_shutdown st]
      exact (s.noteLoss_portOnly p).mono (by decide)
    · rw [not_or] at st
      rw [State.sapLoss_running off st.1 st.2]
      exact ((s.lost_portOnly p).trans (State.noteLoss_portOnly _ p)).mono (by decide)

theorem execSapClockLoss_off {s : State} {p : Fin 4} (off : s.portState p = 0) : exec (.sapClockLoss p) s = .next s :=
  congrArg Host.Outcome.next (State.sapLoss_off off)

/-- A port in shutdown counts a loss and goes on with its shutdown. -/
theorem execSapClockLoss_shutdown {s : State} {p : Fin 4} (st : s.portState p = 3 ∨ s.portState p = 4) : ∃ t, exec (.sapClockLoss p) s = .next t ∧
    t.portState p = s.portState p ∧ t.conv p true = s.conv p true ∧ t.conv p false = s.conv p false ∧
    (t.sapOf p).out = (s.sapOf p).out ∧ (t.sapOf p).shut = (s.sapOf p).shut ∧ t.mem = s.mem ∧ t.eng = s.eng ∧
    t.obj (O.clockLosses p.val) = satAdd 32 (s.obj (O.clockLosses p.val)) 1 ∧ ∀ r, r ≠ p → t.sapOf r = s.sapOf r ∧ t.portState r = s.portState r := by
  have only := s.noteLoss_portOnly p
  refine ⟨s.noteLoss p, congrArg Host.Outcome.next (State.sapLoss_shutdown st), only.portState (by decide), only.conv _ (by decide), only.conv _ (by decide),
    ?_, ?_, only.mem, only.eng, s.clockLosses_noteLoss p, fun r other => ⟨only.others r other, only.portState_other other⟩⟩
  · rw [State.sapOf_noteLoss]
  · rw [State.sapOf_noteLoss]

/-- A running port becomes Lost, and both its converters acquire (R517, R526). -/
theorem execSapClockLoss_running {s : State} {p : Fin 4} (on : s.portState p ≠ 0) (h3 : s.portState p ≠ 3) (h4 : s.portState p ≠ 4) :
    ∃ t, exec (.sapClockLoss p) s = .next t ∧ t.portState p = 5 ∧ t.conv p true = 1 ∧ t.conv p false = 1 ∧ t.mem = s.mem ∧ t.eng = s.eng ∧
      t.obj (O.clockLosses p.val) = satAdd 32 (s.obj (O.clockLosses p.val)) 1 ∧ ∀ r, r ≠ p → t.sapOf r = s.sapOf r ∧ t.portState r = s.portState r := by
  have lost := s.lost_portOnly p
  have noted := State.noteLoss_portOnly (((s.setConv p true 1).setConv p false 1).setPort p 5) p
  have both := lost.trans noted
  have acquires : ∀ b, (((s.setConv p true 1).setConv p false 1).setPort p 5).conv p b = 1 := fun b => by
    rw [State.conv_setPort, State.conv_setConv_both]
  refine ⟨_, congrArg Host.Outcome.next (State.sapLoss_running on h3 h4), ?_, (noted.conv _ (by decide)).trans (acquires true),
    (noted.conv _ (by decide)).trans (acquires false), both.mem, both.eng, ?_, fun r other => ⟨both.others r other, both.portState_other other⟩⟩
  · rw [noted.portState (by decide), State.portState_setPort]
  · have before := lost.obj_own (i := 0x10000B) (by decide) (by decide)
    rw [State.clockLosses_noteLoss]
    exact congrArg (fun n => satAdd 32 n 1) before

/-! ### The start, and the end of a shutdown -/

/-- The state of a port that starts: every direction acquires (R521). -/
def State.acquire (s : State) (p : Fin 4) : State :=
  ((((s.setPort p 1).setConv p true 1).setConv p false 1).modSap p (fun x => { x.anew with q := x.q })).setObj (O.detectedSlots p.val) 0

theorem State.sapStart_eq (s : State) (p : Fin 4) : s.sapStart p =
    if sapMaster (s.sapFmt p) && s.bypass p && s.bypassOk p then (s.acquire p).setBypassed p else s.acquire p := rfl

theorem State.acquire_leaves (s : State) (p : Fin 4) : (s.acquire p).portState p = 1 ∧ ((s.acquire p).sapOf p).cap = [] ∧
    (s.acquire p).eng = s.eng ∧ (s.acquire p).mem = s.mem := by
  have dirs := ((s.setPort_portOnly p 1).trans (State.setConv_portOnly _ p true 1)).trans (State.setConv_portOnly _ p false 1)
  have slots : O.portState p.val ≠ O.detectedSlots p.val := portObj_ne _ _ (by decide)
  have state : (((s.setPort p 1).setConv p true 1).setConv p false 1).portState p = 1 := by simp
  refine ⟨?_, ?_, ?_, ?_⟩
  · rw [State.acquire, State.portState, State.obj_setObj_ne _ _ slots, State.obj_modSap]
    exact state
  · rw [State.acquire, State.sapOf_setObj, State.sapOf_modSap_self]
    rfl
  · rw [State.acquire, State.setObj_eng, State.modSap_eng, dirs.eng]
  · rw [State.acquire, State.setObj_mem, State.modSap_mem, dirs.mem]

/-- A port that starts acquires, or is On at once, and has captured nothing. -/
theorem State.sapStart_leaves (s : State) (p : Fin 4) : ((s.sapStart p).portState p = 1 ∨ (s.sapStart p).portState p = 2) ∧
    ((s.sapStart p).sapOf p).cap = [] ∧ (s.sapStart p).eng = s.eng ∧ (s.sapStart p).mem = s.mem := by
  obtain ⟨state, cap, eng, mem⟩ := s.acquire_leaves p
  rw [State.sapStart_eq]
  split
  · have only := (s.acquire p).setBypassed_portOnly p
    exact ⟨.inr (State.portState_setBypassed _ p state), only.cap.trans cap, only.eng.trans eng, only.mem.trans mem⟩
  · exact ⟨.inl state, cap, eng, mem⟩

/-- The state of a port whose shutdown is complete: Off, its converters Off, nothing captured (R522). -/
def State.portOff (s : State) (p : Fin 4) : State :=
  ((((s.setConv p true 0).setConv p false 0).setPort p 0).modSap p (fun x =>
    { x with cap := [], capOld := [], old := [], sent := [], sentWas := [], counts := [], good := 0, bad := 0 })).sapEvent p 2 0

theorem State.sapOff_done {s : State} {p : Fin 4} (st : s.portState p = 3 ∨ s.portState p = 4)
    (done : (s.sapOf p).shutDone (sapMaster (s.sapFmt p)) = true) :
    s.sapOff p = if s.portState p = 4 then (s.portOff p).sapStart p else s.portOff p := by
  have ends : ((s.portState p = 3 || s.portState p = 4) && (s.sapOf p).shutDone (sapMaster (s.sapFmt p))) = true := by simp [st, done]
  rw [State.sapOff, if_pos ends]
  by_cases again : s.portState p = 4
  · rw [if_pos again, if_pos again]
    rfl
  · rw [if_neg again, if_neg again]
    rfl

theorem State.sapOff_undone {s : State} {p : Fin 4}
    (h : (s.portState p ≠ 3 ∧ s.portState p ≠ 4) ∨ ¬(s.sapOf p).shutDone (sapMaster (s.sapFmt p)) = true) : s.sapOff p = s := by
  have goes : ¬((s.portState p = 3 || s.portState p = 4) && (s.sapOf p).shutDone (sapMaster (s.sapFmt p))) = true := by
    rcases h with ⟨h3, h4⟩ | undone
    · simp [h3, h4]
    · simp [undone]
  rw [State.sapOff, if_neg goes]

theorem Sap.shutDone_iff (x : Sap) (master : Bool) :
    x.shutDone master = true ↔ 64 ≤ x.shut ∧ (x.zeroSent = true ∨ (master = false ∧ x.good = 0)) := by
  simp [Sap.shutDone]

theorem State.portOff_leaves (s : State) (p : Fin 4) : (s.portOff p).portState p = 0 ∧ (∀ b, (s.portOff p).conv p b = 0) ∧
    ((s.portOff p).sapOf p).cap = [] ∧ (s.portOff p).eng = s.eng ∧ (s.portOff p).mem = s.mem := by
  have stopped := ((s.setConv_portOnly p true 0).trans (State.setConv_portOnly _ p false 0)).trans (State.setPort_portOnly _ p 0)
  have noted := State.sapEvent_portOnly ((((s.setConv p true 0).setConv p false 0).setPort p 0).modSap p (fun x =>
    { x with cap := [], capOld := [], old := [], sent := [], sentWas := [], counts := [], good := 0, bad := 0 })) p 2 0
  refine ⟨?_, fun b => ?_, ?_, noted.eng.trans stopped.eng, noted.mem.trans stopped.mem⟩
  · exact (State.portState_sapEvent _ _ _ _).trans (State.portState_setPort _ _ _)
  · exact (State.conv_sapEvent _ _ _ _ _).trans ((State.conv_setPort _ _ _ _).trans (s.conv_setConv_both p 0 b))
  · rw [State.portOff, noted.cap, State.sapOf_modSap_self]

/-- A finished shutdown: Off, or a start if one is queued (R522, R523). -/
theorem execPortShutdownComplete_done {s : State} {p : Fin 4} (st : s.portState p = 3 ∨ s.portState p = 4)
    (done : (s.sapOf p).shutDone (sapMaster (s.sapFmt p)) = true) : ∃ t, exec (.portShutdownComplete p) s = .next t ∧ t.mem = s.mem ∧ t.eng = s.eng ∧
      (t.sapOf p).cap = [] ∧ (s.portState p = 3 → t.portState p = 0 ∧ t.conv p true = 0 ∧ t.conv p false = 0) ∧
      (s.portState p = 4 → t.portState p = 1 ∨ t.portState p = 2) := by
  obtain ⟨state, convs, cap, eng, mem⟩ := s.portOff_leaves p
  refine ⟨_, congrArg Host.Outcome.next (State.sapOff_done st done), ?_⟩
  rcases st with off | again
  · rw [if_neg (by simp [off])]
    exact ⟨mem, eng, cap, fun _ => ⟨state, convs true, convs false⟩, fun four => absurd (off.symm.trans four) (by decide)⟩
  · rw [if_pos again]
    obtain ⟨starts, empty, eng', mem'⟩ := (s.portOff p).sapStart_leaves p
    exact ⟨mem'.trans mem, eng'.trans eng, empty, fun three => absurd (again.symm.trans three) (by decide), fun _ => starts⟩

theorem execPortShutdownComplete_undone {s : State} {p : Fin 4}
    (h : (s.portState p ≠ 3 ∧ s.portState p ≠ 4) ∨ ¬(s.sapOf p).shutDone (sapMaster (s.sapFmt p)) = true) :
    exec (.portShutdownComplete p) s = .next s := congrArg Host.Outcome.next (State.sapOff_undone h)

/-! ### The lock of a converter -/

/-- The objects that hold a direction's group delay, ratio and unlocks. -/
def groupDelayObj (p : Fin 4) (inb : Bool) : Nat := if inb then O.inConvGroupDelay p.val else O.outConvGroupDelay p.val
def ratioObj (p : Fin 4) (inb : Bool) : Nat := if inb then O.inConvRatio p.val else O.outConvRatio p.val
def unlocksObj (p : Fin 4) (inb : Bool) : Nat := if inb then O.inConvUnlocks p.val else O.outConvUnlocks p.val

/-- The state of a port one converter of which has locked, before the port becomes On (R514, R516). -/
def State.locked (s : State) (p : Fin 4) (inb : Bool) : State :=
  (((s.setConv p inb 2).setObj (groupDelayObj p inb) (s.groupDelay (s.partnerMilli p))).setObj (ratioObj p inb) (s.convRatio (s.partnerMilli p))).sapEvent p
    (if inb then 5 else 6) 0

/-- Whether a direction can lock: it acquires at a running port, its fade is over, and the converter is not bypassed (R516). -/
def State.canLock (s : State) (p : Fin 4) (inb : Bool) : Prop :=
  s.conv p inb = 1 ∧ (s.portState p = 1 ∨ s.portState p = 2) ∧ ((s.sapOf p).dir inb).faded = true ∧ ¬(s.bypass p = true ∧ s.bypassOk p = true)

theorem State.canLock_iff (s : State) (p : Fin 4) (inb : Bool) : s.canLock p inb ↔
    (s.conv p inb = 1 && (s.portState p = 1 || s.portState p = 2) && ((s.sapOf p).dir inb).faded && !(s.bypass p && s.bypassOk p)) = true := by
  simp only [State.canLock, Bool.and_eq_true, Bool.or_eq_true, decide_eq_true_eq, Bool.not_eq_true', ← Bool.not_eq_true, and_assoc]

theorem State.convLock_locks {s : State} {p : Fin 4} {inb : Bool} (can : s.canLock p inb) : s.convLock p inb = (s.locked p inb).sapReady p := by
  rw [State.convLock, if_pos ((s.canLock_iff p inb).1 can)]
  cases inb <;> rfl

theorem State.convLock_stays {s : State} {p : Fin 4} {inb : Bool} (cannot : ¬s.canLock p inb) : s.convLock p inb = s :=
  if_neg (mt (s.canLock_iff p inb).2 cannot)

theorem SapDir.faded_iff (d : SapDir) : d.faded = true ↔ ∀ n k, d.phase = .fade n k → n ≤ k := by
  unfold SapDir.faded
  cases d.phase <;> simp

/-- The offsets of the group delays and ratios. -/
def lockSubs : List Nat := [0x102, 0x103, 0x202, 0x203]

theorem groupDelayObj_inSubs (p : Fin 4) (inb : Bool) : InSubs p lockSubs (groupDelayObj p inb) := by cases inb <;> exact inSubs_add p (by decide)

theorem ratioObj_inSubs (p : Fin 4) (inb : Bool) : InSubs p lockSubs (ratioObj p inb) := by cases inb <;> exact inSubs_add p (by decide)

theorem groupDelayObj_ne_ratioObj (p : Fin 4) (inb : Bool) : groupDelayObj p inb ≠ ratioObj p inb := by cases inb <;> exact portObj_ne _ _ (by decide)

theorem State.locked_portOnly (s : State) (p : Fin 4) (inb : Bool) : PortOnly p lockSubs (s.setConv p inb 2) (s.locked p inb) :=
  (((State.setObj_portOnly _ _ (groupDelayObj_inSubs p inb)).trans (State.setObj_portOnly _ _ (ratioObj_inSubs p inb))).trans
    (State.sapEvent_portOnly _ p _ 0)).mono (by decide)

theorem State.groupDelay_locked (s : State) (p : Fin 4) (inb : Bool) : (s.locked p inb).obj (groupDelayObj p inb) = s.groupDelay (s.partnerMilli p) := by
  rw [State.locked, State.obj_sapEvent _ _ _ _ (groupDelayObj_inSubs p inb).1, State.obj_setObj_ne _ _ (groupDelayObj_ne_ratioObj p inb),
    State.obj_setObj_self]

theorem State.ratio_locked (s : State) (p : Fin 4) (inb : Bool) : (s.locked p inb).obj (ratioObj p inb) = s.convRatio (s.partnerMilli p) := by
  rw [State.locked, State.obj_sapEvent _ _ _ _ (ratioObj_inSubs p inb).1, State.obj_setObj_self]

theorem State.conv_locked (s : State) (p : Fin 4) (inb b : Bool) : (s.locked p inb).conv p b = if b = inb then 2 else s.conv p b :=
  ((s.locked_portOnly p inb).conv b (by decide)).trans (s.conv_setConv p inb 2 b)

/-- A port that acquires is On after the lock if the other direction is ready. -/
theorem State.portState_locked_sapReady (s : State) (p : Fin 4) (inb : Bool) (running : s.portState p = 1 ∨ s.portState p = 2) :
    ((s.locked p inb).sapReady p).portState p =
      if s.portState p = 1 ∧ (s.conv p (!inb) = 2 ∨ s.conv p (!inb) = 3) then 2 else s.portState p := by
  have state : (s.locked p inb).portState p = s.portState p := ((s.locked_portOnly p inb).portState (by decide)).trans (s.portState_setConv p inb 2)
  have own : (s.locked p inb).dirReady p inb = true := (State.dirReady_iff _ p inb).2 (.inl (by rw [State.conv_locked, if_pos rfl]))
  have other : (s.locked p inb).dirReady p (!inb) = true ↔ s.conv p (!inb) = 2 ∨ s.conv p (!inb) = 3 := by
    rw [State.dirReady_iff, State.conv_locked, if_neg (Bool.not_eq_self inb).1]
  have both : (s.locked p inb).dirReady p true = true ∧ (s.locked p inb).dirReady p false = true ↔ s.conv p (!inb) = 2 ∨ s.conv p (!inb) = 3 := by
    cases inb
    · exact ⟨fun h => other.1 h.1, fun h => ⟨other.2 h, own⟩⟩
    · exact ⟨fun h => other.1 h.2, fun h => ⟨own, other.2 h⟩⟩
  have acquires : s.portState p = 1 ∨ s.portState p = 5 ↔ s.portState p = 1 := by omega
  rw [State.portState_sapReady, state]
  simp only [both, acquires]

theorem execConverterLocked_locks {s : State} {p : Fin 4} {inb : Bool} (can : s.canLock p inb) : ∃ t, exec (.converterLocked p inb) s = .next t ∧
    t.conv p inb = 2 ∧ t.conv p (!inb) = s.conv p (!inb) ∧ t.mem = s.mem ∧ t.eng = s.eng ∧
    t.obj (groupDelayObj p inb) = s.groupDelay (s.partnerMilli p) ∧ t.obj (ratioObj p inb) = s.convRatio (s.partnerMilli p) ∧
    t.portState p = (if s.portState p = 1 ∧ (s.conv p (!inb) = 2 ∨ s.conv p (!inb) = 3) then 2 else s.portState p) := by
  have ready := (s.locked p inb).sapReady_portOnly p
  have only := ((s.setConv_portOnly p inb 2).trans (s.locked_portOnly p inb)).trans ready
  have apart : ∀ a, InSubs p lockSubs a → ¬InSubs p [2] a := fun a delay state => by
    have two := List.mem_singleton.1 state.2
    exact absurd (two ▸ delay.2) (by decide)
  refine ⟨_, congrArg Host.Outcome.next (State.convLock_locks can), ?_, ?_, only.mem, only.eng, ?_, ?_, s.portState_locked_sapReady p inb can.2.1⟩
  · rw [ready.conv _ (by decide), State.conv_locked, if_pos rfl]
  · rw [ready.conv _ (by decide), State.conv_locked, if_neg (Bool.not_eq_self inb).1]
  · rw [ready.obj p _ (groupDelayObj_inSubs p inb).1 (apart _ (groupDelayObj_inSubs p inb)), State.groupDelay_locked]
  · rw [ready.obj p _ (ratioObj_inSubs p inb).1 (apart _ (ratioObj_inSubs p inb)), State.ratio_locked]

theorem execConverterLocked_stays {s : State} {p : Fin 4} {inb : Bool} (cannot : ¬s.canLock p inb) : exec (.converterLocked p inb) s = .next s :=
  congrArg Host.Outcome.next (State.convLock_stays cannot)

/-! ### The unlock of a converter -/

theorem unlocksObj_inSubs (p : Fin 4) (inb : Bool) : InSubs p [0x104, 0x204] (unlocksObj p inb) := by cases inb <;> exact inSubs_add p (by decide)

theorem State.convUnlock_drifts {s : State} {p : Fin 4} {inb : Bool} (locked : s.conv p inb = 2) : s.convUnlock p inb =
    ((s.setConv p inb 1).count (unlocksObj p inb) 32 1).sapEvent p (if inb then 7 else 8)
      (((s.setConv p inb 1).count (unlocksObj p inb) 32 1).obj (unlocksObj p inb)) := if_pos locked

/-- A locked converter that drifts acquires again and counts; PortState stays (R513, R517). -/
theorem execConverterUnlock_drifts {s : State} {p : Fin 4} {inb : Bool} (locked : s.conv p inb = 2) : ∃ t, exec (.converterUnlock p inb) s = .next t ∧
    t.conv p inb = 1 ∧ t.conv p (!inb) = s.conv p (!inb) ∧ t.portState p = s.portState p ∧ t.mem = s.mem ∧ t.eng = s.eng ∧
    t.obj (unlocksObj p inb) = satAdd 32 (s.obj (unlocksObj p inb)) 1 := by
  have acquires := s.setConv_portOnly p inb 1
  have counted := State.setObj_portOnly (s.setConv p inb 1) (satAdd 32 ((s.setConv p inb 1).obj (unlocksObj p inb)) 1) (unlocksObj_inSubs p inb)
  have noted := counted.trans (State.sapEvent_portOnly _ p (if inb then 7 else 8)
    (((s.setConv p inb 1).count (unlocksObj p inb) 32 1).obj (unlocksObj p inb)))
  have only := acquires.trans noted
  have before : (s.setConv p inb 1).obj (unlocksObj p inb) = s.obj (unlocksObj p inb) := by
    cases inb <;> exact acquires.obj_own (by decide) (by decide)
  refine ⟨_, congrArg Host.Outcome.next (State.convUnlock_drifts locked), ?_, ?_, only.portState (by decide), only.mem, only.eng, ?_⟩
  · exact (noted.conv inb (by decide)).trans (State.conv_setConv_self _ _ _ _)
  · exact (noted.conv (!inb) (by decide)).trans ((s.conv_setConv p inb 1 (!inb)).trans (if_neg (Bool.not_eq_self inb).1))
  · rw [State.obj_sapEvent _ _ _ _ (unlocksObj_inSubs p inb).1, State.obj_count_self, before]

theorem execConverterUnlock_stays {s : State} {p : Fin 4} {inb : Bool} (unlocked : s.conv p inb ≠ 2) : exec (.converterUnlock p inb) s = .next s :=
  congrArg Host.Outcome.next (if_neg unlocked)

end Sys2Proof.Machine
end

section
/-! Words that a port reads and finds bad or correctable: the objects that noting one writes (R36, R699 to R701, R719). -/
namespace Sys2Proof.Machine
open Sys2Proof

/-- The objects that noting an uncorrectable word can write: its own, those of an event, and those of entering Safe-mute at a fault storm. -/
def faultObjects : List Nat :=
  [O.uncorrectableWords, O.lastUncorrectable, O.recoveryQueueOverflows, O.eventsLost, O.safeMuteCause, O.resumeMode, O.operatingMode, O.modeCause]

theorem ne_faultObject {a b : Nat} (outside : a ∉ faultObjects) (inside : b ∈ faultObjects := by decide) : a ≠ b :=
  (ne_of_mem_of_not_mem inside outside).symm

theorem State.obj_mute (s : State) (o : Nat) (r : MuteReason) : (s.mute r).obj o = s.obj o := by
  unfold State.mute
  split <;> rfl

theorem State.obj_recordBad (s : State) (o a : Nat) : (s.recordBad a).obj o = s.obj o := by
  unfold State.recordBad
  split <;> rfl

section
variable (s : State) {o : Nat} (outside : o ∉ faultObjects)
include outside

theorem State.obj_event_outside (code data : Nat) : (s.event code data).obj o = s.obj o := s.obj_event _ _ (ne_faultObject outside)

theorem State.obj_holdRequest : s.holdRequest.obj o = s.obj o := by
  unfold State.holdRequest
  split
  · exact State.obj_setObj_ne _ _ (ne_faultObject outside)
  · rfl

theorem State.obj_enterSafeMute : s.enterSafeMute.obj o = s.obj o := by
  rw [State.enterSafeMute, State.obj_mute, State.enterMode, State.obj_event_outside _ outside, State.obj_setObj_ne _ _ (ne_faultObject outside),
    State.obj_setObj_ne _ _ (ne_faultObject outside), State.obj_setObj_ne _ _ (ne_faultObject outside)]
  rfl

theorem State.obj_raiseCause (b : Nat) : (s.raiseCause b).obj o = s.obj o := by
  unfold State.raiseCause
  extract_lets old new s1 s2 s3
  have set : s1.obj o = s.obj o := s.obj_setObj_ne _ (ne_faultObject outside)
  have reported : s2.obj o = s.obj o := by
    dsimp only [s2]
    split
    · exact set
    · exact (s1.obj_event_outside outside _ _).trans set
  have raised : s3.obj o = s.obj o := by
    dsimp only [s3]
    split <;> exact reported
  split
  · exact raised
  · split
    · split
      · exact (s3.obj_mute o _).trans raised
      · exact raised
    · split
      · exact (s3.obj_holdRequest outside).trans raised
      · exact (s3.obj_enterSafeMute outside).trans raised

theorem State.obj_queuePage (a : Nat) : (s.queuePage a).obj o = s.obj o := by
  unfold State.queuePage
  dsimp only
  split
  · rfl
  · split
    · rfl
    · exact s.obj_count_ne _ _ (ne_faultObject outside)

theorem State.obj_stormCount : s.stormCount.obj o = s.obj o := by
  unfold State.stormCount
  dsimp only
  split
  · rw [State.obj_raiseCause _ outside, State.obj_event_outside _ outside]
    rfl
  · rfl

theorem State.obj_noteBad (reader a : Nat) : (s.noteBad reader a).obj o = s.obj o := by
  unfold State.noteBad
  split
  · exact s.obj_queuePage outside a
  · rw [State.obj_queuePage _ outside, State.obj_stormCount _ outside, State.obj_recordBad, State.obj_event_outside _ outside,
      State.obj_setObj_ne _ _ (ne_faultObject outside), State.obj_count_ne _ _ _ (ne_faultObject outside)]

end

/-- No object of a port is among those. -/
theorem ofPort.not_faultObject {p : Fin 4} {a : Nat} (h : ofPort p a) : a ∉ faultObjects := by
  have away : ∀ b ∈ faultObjects, b / 0x10000 < 0x10 ∨ 0x14 ≤ b / 0x10000 := by decide
  intro member
  have := away a member
  unfold ofPort at h
  omega

theorem State.noteBad_portOnly (s : State) (p : Fin 4) (reader a : Nat) : PortOnly p [] s (s.noteBad reader a) := by
  have sap : (s.noteBad reader a).sap = s.sap := ((OnlyEngine.refl 0 s).noteBad reader a).sap
  have record : ∀ q, (s.noteBad reader a).sapOf q = s.sapOf q := fun q => by rw [State.sapOf, sap, State.sapOf]
  exact ⟨(s.noteBad_journalKept reader a).eng, (noteBad_engine s reader a 0).2.1, congrArg Sap.cap (record p), fun q _ => record q,
    fun _ _ place _ => s.obj_noteBad place.not_faultObject reader a⟩

theorem State.noteSoft_eq (s : State) (a : Nat) : ∃ i o, s.noteSoft a = { s with integ := i, objs := o } ∧
    ∀ b, b ≠ O.correctionLogOverflows → (s.noteSoft a).obj b = s.obj b := by
  unfold State.noteSoft
  split
  · exact ⟨_, _, rfl, fun _ _ => rfl⟩
  · split
    · exact ⟨_, _, rfl, fun _ _ => rfl⟩
    · exact ⟨_, _, rfl, fun _ other => s.obj_count_ne _ _ other⟩

/-- Noting correctable words logs them, or counts what the log cannot take. -/
theorem State.noteSofts_eq (s : State) (a n : Nat) : ∃ i o, s.noteSofts a n = { s with integ := i, objs := o } ∧
    ∀ b, b ≠ O.correctionLogOverflows → (s.noteSofts a n).obj b = s.obj b := by
  unfold State.noteSofts
  generalize s.softWords a n = l
  induction l generalizing s with
  | nil => exact ⟨_, _, rfl, fun _ _ => rfl⟩
  | cons c l ih =>
    obtain ⟨_, _, first, kept⟩ := s.noteSoft_eq c
    obtain ⟨i, o, rest, kept'⟩ := ih (s.noteSoft c)
    exact ⟨i, o, by rw [List.foldl_cons, rest, first], fun b other => (kept' b other).trans (kept b other)⟩

theorem ofPort.ne_correctionLogOverflows {p : Fin 4} {a : Nat} (h : ofPort p a) : a ≠ O.correctionLogOverflows := by
  rintro rfl
  simp [ofPort, O.correctionLogOverflows] at h
  omega

theorem State.noteSofts_portOnly (s : State) (p : Fin 4) (a n : Nat) : PortOnly p [] s (s.noteSofts a n) := by
  obtain ⟨i, o, eq, kept⟩ := s.noteSofts_eq a n
  have record : ∀ q, (s.noteSofts a n).sapOf q = s.sapOf q := fun q => by rw [eq]; rfl
  exact ⟨by rw [eq], by rw [eq], congrArg Sap.cap (record p), fun q _ => record q, fun _ _ place _ => kept _ place.ne_correctionLogOverflows⟩

theorem State.count_portOnly_other (s : State) (p : Fin 4) {a : Nat} (w n : Nat) (other : ∀ q, ¬ofPort q a) : PortOnly p [] s (s.count a w n) :=
  ⟨rfl, rfl, rfl, fun _ _ => rfl, fun q _ place _ => s.obj_count_ne w n (fun same => other q (same ▸ place))⟩

end Sys2Proof.Machine
end

section
/-! The frame a port sends (R500, R501, R508, R515). -/
namespace Sys2Proof.Machine
open Sys2Proof

/-! ### Published words -/

theorem State.portRead_portOnly (s : State) (p : Fin 4) (c : Nat) : PortOnly p [] s (s.portRead c).2 := by
  unfold State.portRead
  split
  · exact (s.noteBad_portOnly p 3 _).trans (State.count_portOnly_other _ p 32 1 (fun q => by simp only [ofPort, O.ioPoisonReads]; omega))
  · exact s.noteSofts_portOnly p _ 4

theorem State.portReads_portOnly (p : Fin 4) (n c : Nat) (s : State) : PortOnly p [] s (State.portReads c n s).2 := by
  induction n generalizing c s with
  | zero => exact .refl p s
  | succ n ih => exact (s.portRead_portOnly p c).trans (ih (c + 1) (s.portRead c).2)

theorem State.published_congr {s t : State} (mem : t.mem = s.mem) (io : t.io = s.io) (c : Nat) : t.published c = s.published c := by
  simp only [State.published, mem, io]

/-- With no uncorrectable word a port reads what is published, and its reads leave memory, halves and port records. -/
theorem State.portRead_clean {s : State} (clean : s.bad = []) (c : Nat) : (s.portRead c).1 = s.published c ∧ (s.portRead c).2.mem = s.mem ∧
    (s.portRead c).2.io = s.io ∧ (s.portRead c).2.bad = [] ∧ (s.portRead c).2.sap = s.sap := by
  have good : s.badIn (outHalfBase (!s.io.outHalf) + 4 * c) 4 = none := by simp [State.badIn, clean]
  obtain ⟨i, o, eq, -⟩ := s.noteSofts_eq (outHalfBase (!s.io.outHalf) + 4 * c) 4
  simp only [State.portRead, good, eq]
  exact ⟨trivial, trivial, trivial, clean, trivial⟩

theorem State.portReads_clean (n c : Nat) {s : State} (clean : s.bad = []) :
    (State.portReads c n s).1 = (List.range n).map (fun i => s.published (c + i)) ∧ (State.portReads c n s).2.sap = s.sap := by
  induction n generalizing c s with
  | zero => exact ⟨rfl, rfl⟩
  | succ n ih =>
    obtain ⟨word, mem, io, bad, sap⟩ := State.portRead_clean clean c
    obtain ⟨words, sap'⟩ := ih (c + 1) bad
    refine ⟨?_, sap'.trans sap⟩
    rw [List.range_succ_eq_map, List.map_cons, List.map_map, State.portReads, word, words]
    refine congrArg (List.cons _) (List.map_congr_left (fun i _ => ?_))
    rw [State.published_congr mem io, Function.comp_apply, Nat.succ_eq_add_one, Nat.add_assoc, Nat.add_comm 1]

/-! ### A direction's sample time -/

theorem State.freeWords_eq (n : Nat) (s : State) : ∃ c, (State.freeWords n s).2 = { s with freeCtr := c } := by
  induction n generalizing s with
  | zero => exact ⟨_, rfl⟩
  | succ n ih =>
    obtain ⟨c, eq⟩ := ih s.free.2
    exact ⟨c, eq⟩

theorem State.convSamples_portOnly (s : State) (p : Fin 4) (inb : Bool) (direct : List Word) : PortOnly p [] s (s.convSamples p inb direct).2 := by
  unfold State.convSamples
  dsimp only
  split
  · obtain ⟨c, eq⟩ := State.freeWords_eq (s.sapChannels p) s
    rw [eq]
    exact .same
  · split <;> exact .refl p s

theorem State.dirTick_portOnly (s : State) (p : Fin 4) (inb : Bool) (direct : List Word) : PortOnly p [] s (s.dirTick p inb direct).2 := by
  unfold State.dirTick
  extract_lets r d l
  exact (s.convSamples_portOnly p inb direct).trans (State.modSap_portOnly _ p (fun x => x.setDir inb (d.next l)) (Sap.cap_setDir _ _ _))

/-- A Bypassed output direction in no fade or ramp delivers the words it is given. -/
theorem State.dirTick_bypassed {s : State} {p : Fin 4} (bypassed : s.conv p false = 3) (plain : (s.sapOf p).out.phase = .pass) (direct : List Word) :
    (s.dirTick p false direct).1 = (List.range (s.sapChannels p)).map (fun i => direct.getD i 0) := by
  have samples : s.convSamples p false direct = ((List.range (s.sapChannels p)).map (fun i => direct.getD i 0), s) := by
    simp [State.convSamples, bypassed]
  have same : ∀ i c, ((s.sapOf p).dir false).sample i c = c := fun i c => by
    change SapDir.sample (s.sapOf p).out i c = c
    rw [SapDir.sample, plain]
  simp only [State.dirTick, samples, same]
  exact List.zipIdx_map_fst _ _

/-! ### The frame -/

/-- What a port that does not shut down sends: the words its direction delivers, in slots. -/
def State.sapOutput (s : State) (p : Fin 4) : List Word × State :=
  let r := if s.sapLateOut p then ((s.sapOf p).old, s) else State.portReads (256 * p.val) (s.sapChannels p) s
  r.2.dirTick p false r.1

theorem State.sapSend_shutdown {s : State} {p : Fin 4} (st : s.portState p = 3 ∨ s.portState p = 4) : ∃ l, s.sapSend p =
    s.modSap p (fun x => { x.send l with zeroSent := x.zeroSent || decide (64 ≤ x.shut) }) := by
  refine ⟨_, if_pos ?_⟩
  simpa using st

theorem State.sapSend_running {s : State} {p : Fin 4} (h3 : s.portState p ≠ 3) (h4 : s.portState p ≠ 4) : ∃ n, s.sapSend p =
    ((s.sapOutput p).2.modSap p (fun x => x.send ((s.sapOutput p).1.map (slotOut (sapWidth (s.sapFmt p)))))).count (O.outputSaturations p.val) 32 n := by
  refine ⟨_, if_neg ?_⟩
  simp [h3, h4]

theorem State.sapOutput_portOnly (s : State) (p : Fin 4) : PortOnly p [] s (s.sapOutput p).2 := by
  unfold State.sapOutput
  dsimp only
  split
  · exact s.dirTick_portOnly p false _
  · exact (State.portReads_portOnly p _ _ s).trans (State.dirTick_portOnly _ p false _)

theorem State.sapSend_portOnly (s : State) (p : Fin 4) : PortOnly p [0xC] s (s.sapSend p) := by
  by_cases st : s.portState p = 3 ∨ s.portState p = 4
  · obtain ⟨l, eq⟩ := State.sapSend_shutdown st
    rw [eq]
    exact (s.modSap_portOnly p _).mono (by decide)
  · rw [not_or] at st
    obtain ⟨n, eq⟩ := State.sapSend_running st.1 st.2
    rw [eq]
    exact ((s.sapOutput_portOnly p).trans (State.modSap_portOnly _ p _)).trans (State.setObj_portOnly _ _ (inSubs_add p (i := 0x10000C) (by decide)))

/-- A Bypassed output direction sends what it is given, rounded to the slot width (R501, R515). -/
theorem State.sent_bypassed {s : State} {p : Fin 4} (on : s.portState p = 2) (bypassed : s.conv p false = 3) (plain : (s.sapOf p).out.phase = .pass)
    (clean : s.bad = []) : ((s.sapSend p).sapOf p).sent = (List.range (s.sapChannels p)).map (fun i => slotOut (sapWidth (s.sapFmt p))
      (if s.sapLateOut p then (s.sapOf p).old.getD i 0 else s.published (256 * p.val + i))) := by
  obtain ⟨n, eq⟩ := State.sapSend_running (s := s) (p := p) (by simp [on]) (by simp [on])
  have words : (s.sapOutput p).1 = (List.range (s.sapChannels p)).map (fun i =>
      if s.sapLateOut p then (s.sapOf p).old.getD i 0 else s.published (256 * p.val + i)) := by
    unfold State.sapOutput
    cases late : s.sapLateOut p
    case true => exact State.dirTick_bypassed bypassed plain _
    case false =>
      obtain ⟨read, sap⟩ := State.portReads_clean (s.sapChannels p) (256 * p.val) clean
      have only := State.portReads_portOnly p (s.sapChannels p) (256 * p.val) s
      have phase : ((State.portReads (256 * p.val) (s.sapChannels p) s).2.sapOf p).out.phase = .pass := by
        rw [State.sapOf, sap]
        exact plain
      refine (State.dirTick_bypassed ((only.conv false (by decide)).trans bypassed) phase _).trans ?_
      rw [only.sapChannels (by decide), if_neg (by decide), read]
      refine List.map_congr_left (fun i inside => ?_)
      rw [List.getD_eq_getElem?_getD, List.getElem?_map, List.getElem?_range (List.mem_range.1 inside)]
      rfl
  rw [eq, State.sapOf_count, State.sapOf_modSap_self, words, List.map_map]
  rfl

end Sys2Proof.Machine
end

section
/-! The words of a received frame: bit by bit (R497, R500, R504). -/
namespace Sys2Proof.Machine
open Sys2Proof

/-- The number whose binary digits are `g 0`, `g 1`, …, most significant first. -/
def msbNat (g : Nat → Bool) (n : Nat) : Nat := (List.range n).foldl (fun x b => 2 * x + (g b).toNat) 0

theorem msbNat_succ (g : Nat → Bool) (n : Nat) : msbNat g (n + 1) = 2 * msbNat g n + (g n).toNat := by
  rw [msbNat, List.range_succ, List.foldl_append, List.foldl_cons, List.foldl_nil]
  rfl

theorem testBit_msbNat (g : Nat → Bool) (n i : Nat) : (msbNat g n).testBit i = (decide (i < n) && g (n - 1 - i)) := by
  induction n generalizing i with
  | zero =>
    rw [decide_eq_false (Nat.not_lt_zero i), Bool.false_and]
    exact Nat.zero_testBit i
  | succ n ih =>
    have digit := Bool.toNat_lt (g n)
    rw [msbNat_succ]
    cases i with
    | zero =>
      rw [Nat.testBit_zero, decide_eq_true (Nat.succ_pos n), Bool.true_and, Nat.mul_add_mod, show n + 1 - 1 - 0 = n by omega]
      cases g n <;> rfl
    | succ i =>
      rw [Nat.testBit_succ, show (2 * msbNat g n + (g n).toNat) / 2 = msbNat g n by omega, ih, show n + 1 - 1 - (i + 1) = n - 1 - i by omega]
      simp only [Nat.add_lt_add_iff_right]

theorem sapWidth_cases (f : Nat) : sapWidth f = 16 ∨ sapWidth f = 24 ∨ sapWidth f = 32 := by
  unfold sapWidth
  split
  · exact .inl rfl
  · split
    · exact .inr (.inl rfl)
    · exact .inr (.inr rfl)

theorem sapSlot_eq (f k : Nat) (bits : List Bool) : sapSlot f k bits =
    BitVec.ofNat 32 (msbNat (fun b => bits.getD (sapDelay f + sapWidth f * sapPlace f k + b) false) (sapWidth f) * 2 ^ (32 - sapWidth f)) := rfl

/-- A slot's bits stand in a word from the top, most significant first; the rest of the word is zero (R500). -/
theorem getLsbD_sapSlot (f k : Nat) (bits : List Bool) {b : Nat} (h : b < 32) : (sapSlot f k bits).getLsbD (31 - b) =
    (decide (b < sapWidth f) && bits.getD (sapDelay f + sapWidth f * sapPlace f k + b) false) := by
  have width : 1 ≤ sapWidth f ∧ sapWidth f ≤ 32 := by rcases sapWidth_cases f with w | w | w <;> simp [w]
  rw [sapSlot_eq, BitVec.getLsbD_ofNat, Nat.testBit_mul_two_pow, testBit_msbNat]
  by_cases inside : b < sapWidth f
  · have place : sapWidth f - 1 - (31 - b - (32 - sapWidth f)) = b := by omega
    have top : 32 - sapWidth f ≤ 31 - b ∧ 31 - b - (32 - sapWidth f) < sapWidth f ∧ 31 - b < 32 := by omega
    simp only [place, top, inside, decide_true, Bool.true_and]
  · have below : ¬32 - sapWidth f ≤ 31 - b := by omega
    simp only [below, inside, decide_false, Bool.false_and, Bool.and_false]

theorem sapDelay_eq (f : Nat) : sapDelay f = if sapMode f = 0 then 1 else if sapMode f = 1 then 0 else (f.testBit 13).toNat := by
  rw [sapDelay, Nat.toNat_testBit]

theorem sapPlace_eq (f k : Nat) : sapPlace f k = if sapMode f ≠ 2 ∧ f.testBit 15 = true then 1 - k else k := by
  simp [sapPlace]

theorem State.length_sapWords (s : State) (p : Fin 4) (lanes : List (List Bool)) : (s.sapWords p lanes).length = s.sapChannels p := by
  simp [State.sapWords]

theorem State.sapWords_getElem? {s : State} {p : Fin 4} {lanes : List (List Bool)} {c : Nat} {x : Word} (h : (s.sapWords p lanes)[c]? = some x) :
    x = sapSlot (s.sapFmt p) (c % s.sapS p) (lanes.getD (c / s.sapS p) []) := by
  obtain ⟨short, -⟩ := List.getElem?_eq_some_iff.1 h
  rw [State.length_sapWords] at short
  rw [State.sapWords, List.getElem?_map, List.getElem?_range short] at h
  exact (Option.some.inj h).symm

end Sys2Proof.Machine
end

section
/-! Received frames: a good one and a discarded one, at a port in each state (R500, R504, R522, R525). -/
namespace Sys2Proof.Machine
open Sys2Proof

/-! ### A discarded frame -/

/-- A discarded frame is counted once; what follows, a loss `l` of the port included, writes none of the frame errors and leaves the captured words. -/
theorem State.badFrame_leaves {s : State} {p : Fin 4} {l : List Nat} (loss : ∀ u : State, u.portState p = s.portState p → PortOnly p l u (u.sapLoss p))
    (errors : 0xA ∉ l) : PortOnly p (0xA :: l ++ [0xC]) s (s.badFrame p) ∧
      (s.badFrame p).obj (O.frameErrors p.val) = satAdd 32 (s.obj (O.frameErrors p.val)) 1 := by
  unfold State.badFrame
  extract_lets s1 n s2
  have counted : PortOnly p [0xA] s s1 := s.setObj_portOnly _ (inSubs_add p (i := 0x10000A) (by decide))
  have noted : PortOnly p [] s1 s2 := (s1.sapEvent_portOnly p 4 _).trans (State.modSap_portOnly _ p _)
  have once : s2.obj (O.frameErrors p.val) = satAdd 32 (s.obj (O.frameErrors p.val)) 1 :=
    (noted.obj_own (i := 0x10000A) (by decide) (by decide)).trans (s.obj_count_self _ 32 1)
  have both : PortOnly p [0xA] s s2 := counted.trans noted
  have follows : ∀ t, PortOnly p (l ++ [0xC]) s2 t → PortOnly p (0xA :: l ++ [0xC]) s t ∧
      t.obj (O.frameErrors p.val) = satAdd 32 (s.obj (O.frameErrors p.val)) 1 := fun t rest =>
    ⟨both.trans rest, (rest.obj_own (i := 0x10000A) (by decide) (by simpa using errors)).trans once⟩
  split
  · exact follows _ ((s2.modSap_portOnly p _).mono (List.nil_subset _))
  · split
    · exact follows _ ((s2.sapSend_portOnly p).mono (List.subset_append_right _ _))
    · exact follows _ ((loss s2 (both.portState (by decide))).trans (State.sapSend_portOnly _ p))

/-! ### A good frame -/

/-- The state in which a good frame has been captured and counted (R509, R517, R526). -/
def State.captured (s : State) (p : Fin 4) (q : Nat) (lanes : List (List Bool)) : State :=
  (s.capture p lanes).modSap p (fun x =>
    { x with good := if x.inb.faded && x.out.faded then min 4 (x.good + 1) else 0, bad := 0, q := if s.conv p true = 3 then x.q else q })

theorem State.captured_leaves (s : State) (p : Fin 4) (q : Nat) (lanes : List (List Bool)) : let t := s.captured p q lanes
    t.eng = s.eng ∧ t.mem = s.mem ∧ (t.sapOf p).cap = s.sapWords p lanes ∧ ∀ r, r ≠ p → t.sapOf r = s.sapOf r := by
  refine ⟨rfl, rfl, ?_, fun r other => ?_⟩
  · rw [State.captured, State.sapOf_modSap_self, State.capture, State.sapOf_modSap_self]
  · rw [State.captured, State.sapOf_modSap_ne _ _ other, State.capture, State.sapOf_modSap_ne _ _ other]

/-- After the fourth good frame the directions may come back to Acquiring or Bypassed; the captured words stay. -/
theorem State.goodFrame_portOnly (s : State) (p : Fin 4) (q : Nat) (lanes : List (List Bool)) :
    PortOnly p (convSubs ++ [2, 0x102, 0x202]) (s.captured p q lanes) (s.goodFrame p q lanes) := by
  unfold State.goodFrame
  extract_lets s1 s2
  split
  · exact (PortOnly.refl p s1).mono (by decide)
  · have back : PortOnly p [2] s1 s2 := by
      dsimp only [s2]
      split
      · exact s1.setPort_portOnly p 1
      · exact (PortOnly.refl p s1).mono (by decide)
    split
    · exact (back.trans (s2.setBypassed_portOnly p)).mono (by decide)
    · exact back.mono (by decide)

/-- At an On port whose input is Bypassed a good frame is captured, and no more. -/
theorem State.goodFrame_on {s : State} {p : Fin 4} (on : s.portState p = 2) (bypassed : s.conv p true = 3) (q : Nat) (lanes : List (List Bool)) :
    s.goodFrame p q lanes = s.captured p q lanes := by
  have on' : (s.captured p q lanes).portState p ≠ 5 := by
    change s.portState p ≠ 5
    simp [on]
  have bypassed' : (s.captured p q lanes).conv p true ≠ 1 := by
    change s.conv p true ≠ 1
    simp [bypassed]
  unfold State.goodFrame
  extract_lets s1 s2
  have stays : s2 = s1 := if_neg on'
  split
  · rfl
  · rw [stays]
    refine if_neg (fun back => bypassed' ?_)
    exact of_decide_eq_true (Bool.and_eq_true_iff.1 back).2

/-- What counting a good frame leaves of the output's words and fade. -/
theorem State.sapOf_captured (s : State) (p : Fin 4) (q : Nat) (lanes : List (List Bool)) :
    ((s.captured p q lanes).sapOf p).out = (s.sapOf p).out ∧ ((s.captured p q lanes).sapOf p).old = (s.sapOf p).old := by
  rw [State.captured, State.sapOf_modSap_self, State.capture, State.sapOf_modSap_self]
  exact ⟨rfl, rfl⟩

/-- Counting a good frame writes the port's record alone. -/
theorem State.captured_reads (s : State) (p : Fin 4) (q : Nat) (lanes : List (List Bool)) : let t := s.captured p q lanes
    t.portState p = s.portState p ∧ (∀ b, t.conv p b = s.conv p b) ∧ t.sapChannels p = s.sapChannels p ∧ t.sapFmt p = s.sapFmt p ∧
      t.bad = s.bad ∧ ∀ c, t.published c = s.published c := by
  obtain ⟨v, eq⟩ : ∃ v, s.captured p q lanes = { s with sap := v } := ⟨_, rfl⟩
  rw [eq]
  exact ⟨rfl, fun _ => rfl, rfl, rfl, rfl, fun _ => rfl⟩

theorem State.sapLateOut_captured {s : State} {p : Fin 4} (bypassed : s.conv p true = 3) (q : Nat) (lanes : List (List Bool)) :
    (s.captured p q lanes).sapLateOut p = s.sapLateOut p := by
  have phase : ((s.captured p q lanes).sapOf p).q = (s.sapOf p).q := by
    rw [State.captured, State.sapOf_modSap_self, State.capture, State.sapOf_modSap_self, if_pos bypassed]
  unfold State.sapLateOut
  rw [phase]
  rfl

/-! ### The measured rate -/

/-- A slave measures the rate of its partner as a frame arrives (R499). -/
def State.measured (s : State) (p : Fin 4) (rate : Nat) : State :=
  if sapMaster (s.sapFmt p) then s else s.setObj (O.measuredPartnerRate p.val) rate

/-- Measuring writes one object alone. -/
theorem State.measured_eq (s : State) (p : Fin 4) (rate : Nat) : ∃ o, s.measured p rate = { s with objs := o } ∧
    ∀ a, a ≠ O.measuredPartnerRate p.val → (s.measured p rate).obj a = s.obj a := by
  unfold State.measured
  split
  · exact ⟨_, rfl, fun _ _ => rfl⟩
  · exact ⟨_, rfl, fun _ other => s.obj_setObj_ne rate other⟩

theorem State.measured_portOnly (s : State) (p : Fin 4) (rate : Nat) : PortOnly p [6] s (s.measured p rate) := by
  unfold State.measured
  split
  · exact (PortOnly.refl p s).mono (by decide)
  · exact s.setObj_portOnly rate (inSubs_add p (i := 0x100006) (by decide))

theorem State.sapOf_measured (s : State) (p : Fin 4) (rate : Nat) (r : Fin 4) : (s.measured p rate).sapOf r = s.sapOf r := by
  obtain ⟨o, eq, -⟩ := s.measured_eq p rate
  rw [eq]
  rfl

theorem State.bad_measured (s : State) (p : Fin 4) (rate : Nat) : (s.measured p rate).bad = s.bad := by
  obtain ⟨o, eq, -⟩ := s.measured_eq p rate
  rw [eq]

theorem State.published_measured (s : State) (p : Fin 4) (rate c : Nat) : (s.measured p rate).published c = s.published c := by
  obtain ⟨o, eq, -⟩ := s.measured_eq p rate
  rw [eq]
  rfl

theorem tickRate_ne_measuredPartnerRate (p : Fin 4) : O.tickRate ≠ O.measuredPartnerRate p.val := by
  revert p
  decide

theorem State.rateFor_measured (s : State) (p : Fin 4) (rate : Nat) : (s.measured p rate).rateFor = s.rateFor := by
  obtain ⟨o, eq, kept⟩ := s.measured_eq p rate
  have sequence : (s.measured p rate).rateSeq = s.rateSeq := by rw [eq]
  simp only [State.rateFor, sequence, kept _ (tickRate_ne_measuredPartnerRate p)]

theorem State.sapLateOut_measured (s : State) (p : Fin 4) (rate : Nat) : (s.measured p rate).sapLateOut p = s.sapLateOut p := by
  have only := s.measured_portOnly p rate
  rw [State.sapLateOut, State.mediaPerTick, s.rateFor_measured, s.sapOf_measured, only.conv false (by decide), only.sapFmt (by decide)]
  rfl

theorem State.slaveRateOk_measured (s : State) (p : Fin 4) (rate : Nat) : (s.measured p rate).slaveRateOk p rate = s.slaveRateOk p rate := by
  have only := s.measured_portOnly p rate
  simp only [State.slaveRateOk, State.ratioOk, State.bclkOk, s.rateFor_measured, only.conv _ (show 0x101 ∉ [6] ∧ 0x201 ∉ [6] by decide),
    only.sapFmt (by decide), only.sapFrameLen (by decide)]

theorem State.slaveRateOk_iff (s : State) (p : Fin 4) (rate : Nat) : s.slaveRateOk p rate = true ↔ sapMaster (s.sapFmt p) = true ∨
    (s.conv p true ≠ 1 ∧ s.conv p false ≠ 1) ∨ (s.ratioOk rate = true ∧ s.bclkOk p rate = true) := by
  simp [State.slaveRateOk, or_assoc]

/-! ### SAP_FRAME -/

section
variable {s : State} {p : Fin 4} {bclk q : BitVec 16} {rate : BitVec 32} {lanes : List (List Bool)}

theorem execSapFrame_off (off : s.portState p = 0) : exec (.sapFrame p bclk q rate lanes) s = .next s := congrArg Host.Outcome.next (if_pos off)

/-- A port in shutdown takes a frame without changing its state; one of another length is counted and leaves the captured words (R522). -/
theorem execSapFrame_shutdown (st : s.portState p = 3 ∨ s.portState p = 4) : ∃ t, exec (.sapFrame p bclk q rate lanes) s = .next t ∧ t.eng = s.eng ∧
    t.mem = s.mem ∧ t.portState p = s.portState p ∧ (bclk.toNat ≠ s.sapFrameLen p →
      t.obj (O.frameErrors p.val) = satAdd 32 (s.obj (O.frameErrors p.val)) 1 ∧ (t.sapOf p).cap = (s.sapOf p).cap) := by
  have on : s.portState p ≠ 0 := by rcases st with h | h <;> simp [h]
  have takes : exec (.sapFrame p bclk q rate lanes) s = .next (if bclk.toNat = s.sapFrameLen p then
      ((s.capture p lanes).modSap p (fun x => { x with bad := 0 })).sapSend p else s.badFrame p) := by
    refine congrArg Host.Outcome.next ?_
    rw [State.sapFrame, if_neg on, if_pos (by simpa using st)]
  refine ⟨_, takes, ?_⟩
  split
  case isTrue right =>
    have sent := State.sapSend_portOnly ((s.capture p lanes).modSap p (fun x => { x with bad := 0 })) p
    exact ⟨sent.eng, sent.mem, sent.portState (by decide), fun wrong => absurd right wrong⟩
  case isFalse wrong =>
    have loss : ∀ u : State, u.portState p = s.portState p → PortOnly p [0xB, 7] u (u.sapLoss p) := fun u same => by
      rw [State.sapLoss_shutdown (same ▸ st)]
      exact u.noteLoss_portOnly p
    obtain ⟨only, errors⟩ := State.badFrame_leaves loss (by decide)
    exact ⟨only.eng, only.mem, only.portState (by decide), fun _ => ⟨errors, only.cap⟩⟩

theorem State.sapFrame_running (on : s.portState p ≠ 0) (h3 : s.portState p ≠ 3) (h4 : s.portState p ≠ 4) (b n r : Nat) (lanes : List (List Bool)) :
    s.sapFrame p b n r lanes = let s1 := s.measured p r
      if s1.sapS p = 0 then (s1.detect p b).sapSend p
      else if b != s1.sapFrameLen p then s1.badFrame p
      else if !s1.slaveRateOk p r then (s1.sapLoss p).sapSend p
      else (s1.goodFrame p n lanes).sapSend p := by
  rw [State.sapFrame, if_neg on, if_neg (by simp [h3, h4])]
  rfl

section
variable (on : s.portState p ≠ 0) (h3 : s.portState p ≠ 3) (h4 : s.portState p ≠ 4) (slots : s.sapS p ≠ 0)
include on h3 h4 slots

/-- A frame at a running port whose slots are known: discarded, a loss, or good. -/
theorem execSapFrame_running : exec (.sapFrame p bclk q rate lanes) s = .next (
    if bclk.toNat ≠ s.sapFrameLen p then (s.measured p rate.toNat).badFrame p
    else if s.slaveRateOk p rate.toNat = false then ((s.measured p rate.toNat).sapLoss p).sapSend p
    else ((s.measured p rate.toNat).goodFrame p q.toNat lanes).sapSend p) := by
  have only := s.measured_portOnly p rate.toNat
  refine congrArg Host.Outcome.next ((State.sapFrame_running on h3 h4 _ _ _ _).trans ?_)
  dsimp only
  rw [only.sapS (by decide), if_neg slots, only.sapFrameLen (by decide), s.slaveRateOk_measured]
  simp only [bne_iff_ne, Bool.not_eq_true']

/-- A frame of another length counts as a frame error and leaves the captured words (R525). -/
theorem execSapFrame_bad (wrong : bclk.toNat ≠ s.sapFrameLen p) : ∃ t, exec (.sapFrame p bclk q rate lanes) s = .next t ∧ t.eng = s.eng ∧
    t.obj (O.frameErrors p.val) = satAdd 32 (s.obj (O.frameErrors p.val)) 1 ∧ (t.sapOf p).cap = (s.sapOf p).cap := by
  have only := s.measured_portOnly p rate.toNat
  have before : (s.measured p rate.toNat).obj (O.frameErrors p.val) = s.obj (O.frameErrors p.val) := only.obj_own (by decide) (by decide)
  obtain ⟨discards, errors⟩ := (s.measured p rate.toNat).badFrame_leaves (fun u _ => u.sapLoss_portOnly p) (by decide)
  refine ⟨_, (execSapFrame_running on h3 h4 slots).trans (congrArg Host.Outcome.next (if_pos wrong)), discards.eng.trans only.eng, ?_,
    discards.cap.trans only.cap⟩
  rw [errors, before]

/-- A frame of the right length, at a rate the port takes, is good: its words are captured and the next output frame leaves. -/
theorem execSapFrame_good (right : bclk.toNat = s.sapFrameLen p) (ok : s.slaveRateOk p rate.toNat = true) :
    exec (.sapFrame p bclk q rate lanes) s = .next (((s.measured p rate.toNat).goodFrame p q.toNat lanes).sapSend p) :=
  (execSapFrame_running on h3 h4 slots).trans (congrArg Host.Outcome.next ((if_neg (fun wrong => wrong right)).trans (if_neg (by simp [ok]))))

end

theorem State.sapWords_measured (s : State) (p : Fin 4) (rate : Nat) (lanes : List (List Bool)) :
    (s.measured p rate).sapWords p lanes = s.sapWords p lanes := by
  have only := s.measured_portOnly p rate
  simp only [State.sapWords, only.sapS (by decide), only.sapChannels (by decide), only.sapFmt (by decide)]

/-- What a good frame leaves: engines, memory and the other ports as they were, and its own words captured. -/
theorem State.goodFrame_sent_leaves (s : State) (p : Fin 4) (q rate : Nat) (lanes : List (List Bool)) :
    let t := ((s.measured p rate).goodFrame p q lanes).sapSend p
    t.eng = s.eng ∧ t.mem = s.mem ∧ (t.sapOf p).cap = s.sapWords p lanes ∧ ∀ r, r ≠ p → t.sapOf r = s.sapOf r := by
  have only := s.measured_portOnly p rate
  obtain ⟨eng, mem, cap, others⟩ := (s.measured p rate).captured_leaves p q lanes
  have rest := ((s.measured p rate).goodFrame_portOnly p q lanes).trans (State.sapSend_portOnly _ p)
  exact ⟨(rest.eng.trans eng).trans only.eng, (rest.mem.trans mem).trans only.mem, (rest.cap.trans cap).trans (s.sapWords_measured p rate lanes),
    fun r other => ((rest.others r other).trans (others r other)).trans (only.others r other)⟩

/-- An On port with both directions Bypassed sends the published words, or those of the tick before where its frame starts too near the tick
edge (R501, R508, R515). -/
theorem State.goodFrame_sent_on (on : s.portState p = 2) (inBypass : s.conv p true = 3) (outBypass : s.conv p false = 3)
    (plain : (s.sapOf p).out.phase = .pass) (clean : s.bad = []) (q rate : Nat) (lanes : List (List Bool)) :
    ((((s.measured p rate).goodFrame p q lanes).sapSend p).sapOf p).sent = (List.range (s.sapChannels p)).map (fun i =>
      slotOut (sapWidth (s.sapFmt p)) (if s.sapLateOut p then (s.sapOf p).old.getD i 0 else s.published (256 * p.val + i))) := by
  have only := s.measured_portOnly p rate
  obtain ⟨o, eq, -⟩ := s.measured_eq p rate
  have bypass : ∀ b, (s.measured p rate).conv p b = 3 := fun b => (only.conv b (by decide)).trans (by cases b <;> assumption)
  have on' : (s.measured p rate).portState p = 2 := (only.portState (by decide)).trans on
  obtain ⟨out, old⟩ := (s.measured p rate).sapOf_captured p q lanes
  obtain ⟨state, convs, channels, format, bad, words⟩ := (s.measured p rate).captured_reads p q lanes
  rw [State.sapOf_measured] at out old
  have sent := State.sent_bypassed (state.trans on') ((convs false).trans (bypass false)) ((congrArg SapDir.phase out).trans plain)
    (bad.trans ((s.bad_measured p rate).trans clean))
  simp only [channels, only.sapChannels (by decide), format, only.sapFmt (by decide), State.sapLateOut_captured (bypass true), s.sapLateOut_measured,
    old, words, s.published_measured] at sent
  rw [State.goodFrame_on on' (bypass true), sent]

end

end Sys2Proof.Machine
end

namespace Sys2Proof.Claims
open Sys2Proof Sys2Proof.Machine

/-- Settles O39: each clause is the law of its command. The model's choices are that a loss of a port Lost already and of one in shutdown count
(log entry 140), and that a shutdown waits for no partner that sends no frames (log entry 97). -/
theorem serialPortFramesAndConverters : Obligations.SerialPortFramesAndConverters := by
  unfold Obligations.SerialPortFramesAndConverters
  intro s p inb bclk q rate lanes
  extract_lets w f first place sends off st frameOk
  refine ⟨execSapFrame_off, execSapFrame_shutdown, fun on h3 h4 ok => ?good, fun on h3 h4 slots wrong => execSapFrame_bad on h3 h4 slots wrong,
    execSapClockLoss_off, execSapClockLoss_shutdown, execSapClockLoss_running, fun shuts done => ?done, fun undone => ?undone,
    fun acquires running faded own => ?locks, fun cannot => ?stays, fun locked => ?drifts, execConverterUnlock_stays⟩
  case good =>
    obtain ⟨slots, right, rateOk⟩ := ok
    obtain ⟨eng, mem, cap, others⟩ := s.goodFrame_sent_leaves p q.toNat rate.toNat lanes
    refine ⟨_, execSapFrame_good on h3 h4 slots right ((s.slaveRateOk_iff p rate.toNat).2 rateOk), eng, mem, ?_, fun c x word b inside => ?_, others,
      fun stOn inBypass outBypass plain clean => ?_⟩
    · rw [cap, State.length_sapWords]
    · rw [cap] at word
      rw [State.sapWords_getElem? word, getLsbD_sapSlot _ _ _ inside, sapDelay_eq, sapPlace_eq]
    · have sent := State.goodFrame_sent_on stOn inBypass outBypass plain clean q.toNat rate.toNat lanes
      refine ⟨fun early => ?_, fun late => ?_⟩
      · rw [early] at sent
        exact sent
      · rw [late] at sent
        exact sent
  case done => exact execPortShutdownComplete_done shuts ((Sap.shutDone_iff _ _).2 done)
  case undone => exact execPortShutdownComplete_undone (undone.imp_right (mt (Sap.shutDone_iff _ _).1))
  case locks => exact execConverterLocked_locks ⟨acquires, running, (SapDir.faded_iff _).2 faded, own⟩
  case stays =>
    refine execConverterLocked_stays (fun can => ?_)
    obtain ⟨acquires, running, -, own⟩ := can
    rcases cannot with h | h | h
    · exact h acquires
    · exact running.elim h.1 h.2
    · exact own h
  case drifts => exact execConverterUnlock_drifts locked

end Sys2Proof.Claims

section
/-! Every command answers: what a step runs, and what it leaves of the queue and the fuses. -/
namespace Sys2Proof.Machine
open Sys2Proof

theorem step_front {s : State} {c : Instr} {rest : List Instr} (front : s.pending = c :: rest) : step s = exec c { s with pending := rest } := by
  simp only [step, front]

theorem execDelayLengthWrite_answers (src : Src) (a : BitVec 24) (words : List (BitVec 32)) (s : State) :
    ∃ t, execDelayLengthWrite src a words s = .next t := by
  unfold execDelayLengthWrite; split <;> exact ⟨_, rfl⟩

theorem execBankedWrite_answers (src : Src) (a : BitVec 24) (words : List (BitVec 32)) (s : State) : ∃ t, execBankedWrite src a words s = .next t := by
  unfold execBankedWrite; split <;> exact ⟨_, rfl⟩

theorem execXyParameterWrite_answers (src : Src) (a : BitVec 24) (words : List (BitVec 32)) (s : State) :
    ∃ t, execXyParameterWrite src a words s = .next t := by
  unfold execXyParameterWrite; split <;> exact ⟨_, rfl⟩

theorem execGraphAdmission_answers (s : State) : ∃ t, execGraphAdmission s = .next t := by
  unfold execGraphAdmission; split <;> exact ⟨_, rfl⟩

theorem execScrubLine_answers (a : BitVec 40) (s : State) : ∃ t, execScrubLine a s = .next t := by
  unfold execScrubLine; extract_lets; split <;> exact ⟨_, rfl⟩

theorem execStormWindowEnd_answers (s : State) : ∃ t, execStormWindowEnd s = .next t := by
  unfold execStormWindowEnd; extract_lets; split <;> exact ⟨_, rfl⟩

/-- No command faults or is refused: six choose between two next states, and each of the others names it. -/
theorem exec_answers (c : Instr) (s : State) : ∃ t, exec c s = .next t := by
  cases c with
  | delayLengthWrite src a words => exact execDelayLengthWrite_answers src a words s
  | bankedWrite src a words => exact execBankedWrite_answers src a words s
  | xyParameterWrite src a words => exact execXyParameterWrite_answers src a words s
  | graphAdmission => exact execGraphAdmission_answers s
  | scrubLine a => exact execScrubLine_answers a s
  | stormWindowEnd => exact execStormWindowEnd_answers s
  | _ => exact ⟨_, rfl⟩

end Sys2Proof.Machine

namespace Sys2Proof.Claims
open Sys2Proof Sys2Proof.Machine

/-- Settles O1, by the branch of `step` for a queue that is not empty. -/
theorem stepRunsTheFrontCommand : Obligations.StepRunsTheFrontCommand := by
  unfold Obligations.StepRunsTheFrontCommand
  exact fun _ _ _ front => step_front front

/-- Settles O2: every command answers, and what a command answers keeps the queue. -/
theorem everyCommandAnswersAndLeavesTheQueue : Obligations.EveryCommandAnswersAndLeavesTheQueue := by
  unfold Obligations.EveryCommandAnswersAndLeavesTheQueue
  intro c s
  obtain ⟨t, answer⟩ := exec_answers c s
  exact ⟨t, answer, (exec_keeps c s (Keeps.refl s) t answer).pending⟩

/-- Settles O5: what a step answers keeps every burned fuse bit of the state it starts from. -/
theorem fuseBitsAreNeverCleared : Obligations.FuseBitsAreNeverCleared := by
  unfold Obligations.FuseBitsAreNeverCleared
  exact fun _ _ b burned answer => (step_keeps answer).fuses b burned

end Sys2Proof.Claims
end

section
/-! A cell with a wrong CRC on a link of the Origin: the error that reaches ErrorLimit makes the link Degraded and owes the fabric a new
reservation (R543, R562, R600). -/
namespace Sys2Proof.Machine
open Sys2Proof

/-- One run from device 1 to device 2. -/
def soleRun : RunSpec := { src := 1, dsts := [2], first := 0, groups := 1, fmt := 0, edge := 0 }

/-- An empty cell. The clause refuted does not speak of it. -/
def soleCell : TxCell :=
  { dst := 0, src := 0, session := 0, seq := 0, seg := 3, ty := 1, payload := [], sent := false, age := 0, tries := 0 }

/-- The Origin, its own key with Uid 0, with that run reserved and link 0 Up at an ErrorLimit of one error. -/
def brinkState : State :=
  { State.reset.setObjs [(O.linkState 0, 4), (O.errorLimit 0, 1)] with
    net := { Net.reset with origin := some { prio := 0, uid := State.reset.obj O.uid }, reserved := (0, [soleRun]) } }

/-- The cell's only block is its CRC, and is not that of nothing. -/
theorem brinkCell_wrong : blocksCrc (([1] : List (BitVec 64)).dropLast) ≠ (([1] : List (BitVec 64)).getLastD 0).toNat := by decide +kernel

/-- The reservation is in order before the cell, and link 0 carries messages. -/
theorem brinkState_settled : brinkState.net.replan = false ∧ brinkState.framing 0 = true := by decide +kernel

/-- The cell's error takes the link to Degraded, and the fabric's record with it. -/
theorem cellReceived_owes_reservation : ∀ t, exec (.cellReceived 0 false [1]) brinkState = .next t → t.net.replan = true := by
  have owed : (match exec (.cellReceived 0 false [1]) brinkState with
      | .next t => t.net.replan
      | _ => false) = true := by decide +kernel
  intro t runs
  rwa [runs] at owed

end Sys2Proof.Machine

namespace Sys2Proof.Claims
open Sys2Proof Sys2Proof.Machine

/-- Refutes O41: a cell with a wrong CRC does not always leave the fabric's record. It is an error of the link (R562); where it is the one that
reaches ErrorLimit on an Up link of the Origin, the link becomes Degraded (R543) and the record owes a new reservation without it (R600). -/
theorem not_linkFramesAndCells : ¬ Obligations.LinkFramesAndCells := by
  unfold Obligations.LinkFramesAndCells
  intro holds
  obtain ⟨-, -, -, framed⟩ := holds brinkState 0 false false 0 0 0 0 0 [] [] [] 0 soleCell [1]
  obtain ⟨settled, framing⟩ := brinkState_settled
  obtain ⟨-, -, -, wrong, -⟩ := framed framing
  obtain ⟨t, runs, -, same, -⟩ := wrong brinkCell_wrong
  have owed := cellReceived_owes_reservation t runs
  rw [same, settled] at owed
  exact absurd owed (by decide)

end Sys2Proof.Claims
end

section
/-! A link and its state: what a change of one leaves alone (R540, R541, R546, R547). -/
namespace Sys2Proof.Machine
open Sys2Proof

theorem State.linkOf_modLink (s : State) (k : Fin 4) (f : Link → Link) (j : Fin 4) :
    (s.modLink k f).linkOf j = if j = k then f (s.linkOf k) else s.linkOf j := by
  by_cases same : j = k
  · rw [if_pos same, same]
    exact lane_put_same _ _ _
  · rw [if_neg same]
    exact lane_put_other _ _ _ _ (Ne.symm same)

theorem State.linkOf_of_link {s t : State} (same : t.link = s.link) (j : Fin 4) : t.linkOf j = s.linkOf j :=
  congrArg (fun l => lane l j) same

/-- `t` differs from `s` in link `k`, its LinkState and run eligibility, and lost events at most. -/
structure LinkOnly (k : Fin 4) (s t : State) : Prop where
  eng : t.eng = s.eng
  mem : t.mem = s.mem
  net : t.net = s.net
  other : ∀ j, j ≠ k → t.linkOf j = s.linkOf j
  obj : ∀ a, a ≠ O.linkState k.val → a ≠ O.linkRunEligible k.val → a ≠ O.eventsLost → t.obj a = s.obj a

theorem LinkOnly.refl (k : Fin 4) (s : State) : LinkOnly k s s := ⟨rfl, rfl, rfl, fun _ _ => rfl, fun _ _ _ _ => rfl⟩

theorem LinkOnly.trans {k : Fin 4} {s t u : State} (h : LinkOnly k s t) (h' : LinkOnly k t u) : LinkOnly k s u :=
  ⟨h'.eng.trans h.eng, h'.mem.trans h.mem, h'.net.trans h.net, fun j hj => (h'.other j hj).trans (h.other j hj),
    fun a x y z => (h'.obj a x y z).trans (h.obj a x y z)⟩

theorem State.modLink_only (s : State) (k : Fin 4) (f : Link → Link) : LinkOnly k s (s.modLink k f) :=
  ⟨rfl, rfl, rfl, fun j hj => by rw [State.linkOf_modLink, if_neg hj], fun _ _ _ _ => rfl⟩

theorem State.event_only (s : State) (k : Fin 4) (code data : Nat) : LinkOnly k s (s.event code data) :=
  ⟨s.event_eng _ _, s.event_mem _ _, s.event_net _ _, fun j _ => State.linkOf_of_link (s.event_link _ _) j, fun _ _ _ lost => s.obj_event _ _ lost⟩

theorem State.setObjs_only (s : State) (k : Fin 4) {l : List (Nat × Nat)} (own : ∀ p ∈ l, p.1 = O.linkState k.val ∨ p.1 = O.linkRunEligible k.val) :
    LinkOnly k s (s.setObjs l) := by
  obtain ⟨-, mem, eng⟩ := s.setObjs_leaves l
  refine ⟨eng, mem, s.setObjs_net l, fun j _ => State.linkOf_of_link (s.setObjs_link l) j, fun a state eligible _ => s.obj_setObjs_other fun named => ?_⟩
  obtain ⟨p, member, rfl⟩ := List.mem_map.1 named
  exact (own p member).elim state eligible

theorem State.train_only (s : State) (k : Fin 4) (ready : Bool) : LinkOnly k s (s.train k ready) :=
  ⟨rfl, rfl, rfl, fun _ hj => lane_put_other _ _ _ _ (Ne.symm hj), fun _ _ _ _ => rfl⟩

theorem State.obj_train (s : State) (k : Fin 4) (ready : Bool) (a : Nat) : (s.train k ready).obj a = s.obj a := rfl

/-- The new LinkState and its event, with which every change begins. -/
def State.enterLink (s : State) (k : Fin 4) (v : Nat) : State :=
  (s.setObjs ((O.linkState k.val, v) :: if v = 4 then [] else [(O.linkRunEligible k.val, 0)])).linkEvent k 1 0

theorem State.enterLink_only (s : State) (k : Fin 4) (v : Nat) : LinkOnly k s (s.enterLink k v) := by
  refine (s.setObjs_only k fun p member => ?_).trans (State.event_only _ k _ _)
  rcases List.mem_cons.1 member with rfl | rest
  · exact .inl rfl
  · split at rest
    · exact absurd rest List.not_mem_nil
    · exact .inr (congrArg Prod.fst (List.mem_singleton.1 rest))

theorem linkState_ne_linkRunEligible (k j : Fin 4) : O.linkState k.val ≠ O.linkRunEligible j.val := by decide +revert
theorem linkState_ne_eventsLost (k : Fin 4) : O.linkState k.val ≠ O.eventsLost := by decide +revert
theorem linkState_injective {j k : Fin 4} (h : j ≠ k) : O.linkState j.val ≠ O.linkState k.val := by decide +revert

theorem State.linkState_enterLink (s : State) (k : Fin 4) (v : Nat) : (s.enterLink k v).linkState k = v := by
  refine (State.obj_event _ _ _ (linkState_ne_eventsLost k)).trans ?_
  refine (State.obj_setObjs_other (s.setObj (O.linkState k.val) v) fun named => ?_).trans (s.obj_setObj_self _ v)
  split at named
  · exact List.not_mem_nil named
  · exact linkState_ne_linkRunEligible k k (List.mem_singleton.1 named)

theorem State.link_enterLink (s : State) (k : Fin 4) (v : Nat) : (s.enterLink k v).link = s.link :=
  (State.event_link _ _ _).trans (s.setObjs_link _)

theorem State.setLink_eq (s : State) (k : Fin 4) (v : Nat) : s.setLink k v =
    let t := s.enterLink k v
    if v = 2 then (t.modLink k (fun l => { l with two := t.obj (O.laneCount k.val) = 2, txEq := t.obj (O.txEqualisation k.val) })).train k false
    else if v = 8 then t.modLink k (fun l => { l.sleep (t.obj (O.lanesTrained k.val)) with lock0 := false, lock1 := false })
    else if v = 0 then t.modLink k (fun l => l.sleep (t.obj (O.lanesTrained k.val)))
    else t := rfl

theorem State.setLink_only (s : State) (k : Fin 4) (v : Nat) : LinkOnly k s (s.setLink k v) := by
  have entered := s.enterLink_only k v
  rw [State.setLink_eq]
  dsimp only
  split
  · exact entered.trans ((State.modLink_only _ k _).trans (State.train_only _ k false))
  · split
    · exact entered.trans (State.modLink_only _ k _)
    · split
      · exact entered.trans (State.modLink_only _ k _)
      · exact entered

@[simp] theorem State.linkState_setLink (s : State) (k : Fin 4) (v : Nat) : (s.setLink k v).linkState k = v := by
  refine Eq.trans ?_ (s.linkState_enterLink k v)
  rw [State.setLink_eq]
  dsimp only
  split
  · rfl
  · split
    · rfl
    · split <;> rfl

/-- LinkStates of the other links stay. -/
theorem LinkOnly.linkState {k : Fin 4} {s t : State} (h : LinkOnly k s t) {j : Fin 4} (other : j ≠ k) : t.linkState j = s.linkState j :=
  h.obj _ (linkState_injective other) (linkState_ne_linkRunEligible j k) (linkState_ne_eventsLost j)

/-- A state in which nothing begins on the lanes leaves the link. -/
theorem State.linkOf_setLink_still (s : State) (k : Fin 4) {v : Nat} (notTraining : v ≠ 2) (notSleep : v ≠ 8) (notDisabled : v ≠ 0) :
    (s.setLink k v).linkOf k = s.linkOf k := by
  rw [State.setLink_eq, if_neg notTraining, if_neg notSleep, if_neg notDisabled]
  exact State.linkOf_of_link (s.link_enterLink k v) k

end Sys2Proof.Machine
end

section
/-! Keys, the best one known, and what the messages of the election change (R578, R580 to R583). -/
namespace Sys2Proof.Machine
open Sys2Proof

/-! ### Keys (R578) -/

theorem Key.better_iff (a b : Key) : a.better b = true ↔ a.prio < b.prio ∨ (a.prio = b.prio ∧ a.uid < b.uid) := by simp [Key.better]

theorem Key.better_irrefl (a : Key) : a.better a = false := by simp [Key.better]

theorem Key.better_asymm {a b : Key} (h : a.better b = true) : b.better a = false := by
  rw [Key.better_iff] at h
  rw [Bool.eq_false_iff, ne_eq, Key.better_iff]
  omega

theorem Key.better_trans {a b c : Key} (h : a.better b = true) (h' : b.better c = true) : a.better c = true := by
  rw [Key.better_iff] at *
  omega

/-- Of two keys neither of which is better, the one is the other. -/
theorem Key.eq_of_not_better {a b : Key} (h : a.better b = false) (h' : b.better a = false) : a = b := by
  rw [Bool.eq_false_iff, ne_eq, Key.better_iff] at h h'
  obtain ⟨p, u⟩ := a
  obtain ⟨p', u'⟩ := b
  rw [Key.mk.injEq]
  dsimp only at h h'
  omega

/-- Where one key is no better than another and that one no better than a third, the first is no better than the third. -/
theorem Key.not_better_trans {a b c : Key} (h : a.better b = false) (h' : b.better c = false) : a.better c = false := by
  rw [Bool.eq_false_iff, ne_eq, Key.better_iff] at *
  omega

theorem Key.not_better_best_left (a b : Key) : a.better (Key.best a b) = false := by
  unfold Key.best
  split
  · next h => exact Key.better_asymm h
  · exact a.better_irrefl

theorem Key.not_better_best_right (a b : Key) : b.better (Key.best a b) = false := by
  unfold Key.best
  split
  · exact b.better_irrefl
  · next h => exact Bool.eq_false_iff.2 h

theorem Key.best_of_not_better {a b : Key} (h : b.better a = false) : Key.best a b = a := by simp [Key.best, h]

/-- A key that none betters is the best of the two. -/
theorem Key.best_of_not_worse {a b : Key} (h : a.better b = false) : Key.best a b = b := by
  unfold Key.best
  split
  · rfl
  · next h' => exact Key.eq_of_not_better h (Bool.eq_false_iff.2 h')

theorem Key.best_eq_or (a b : Key) : Key.best a b = a ∨ Key.best a b = b := by
  unfold Key.best
  split
  · exact .inr rfl
  · exact .inl rfl

/-- The best of three does not depend on how they are compared: it is one of them that none of them betters. -/
theorem Key.best_assoc (a b c : Key) : Key.best a (Key.best b c) = Key.best (Key.best a b) c := by
  have left : (Key.best a (Key.best b c)).better (Key.best (Key.best a b) c) = false := by
    have lastWins := Key.not_better_best_left (Key.best a b) c
    rcases Key.best_eq_or a (Key.best b c) with h | h
    · rw [h]
      exact Key.not_better_trans (Key.not_better_best_left a b) lastWins
    · rw [h]
      rcases Key.best_eq_or b c with h | h
      · rw [h]
        exact Key.not_better_trans (Key.not_better_best_right a b) lastWins
      · rw [h]
        exact Key.not_better_best_right _ _
  have right : (Key.best (Key.best a b) c).better (Key.best a (Key.best b c)) = false := by
    have lastWins := Key.not_better_best_right a (Key.best b c)
    rcases Key.best_eq_or (Key.best a b) c with h | h
    · rw [h]
      rcases Key.best_eq_or a b with h | h
      · rw [h]
        exact Key.not_better_best_left _ _
      · rw [h]
        exact Key.not_better_trans (Key.not_better_best_left b c) lastWins
    · rw [h]
      exact Key.not_better_trans (Key.not_better_best_right b c) lastWins
  exact Key.eq_of_not_better left right

/-! ### The best key known (R580, R581) -/

theorem State.ownKey_not_better (s : State) : s.ownKey.better s.bestKey = false := by
  unfold State.bestKey
  cases s.net.best with
  | none => exact s.ownKey.better_irrefl
  | some b => exact Key.not_better_best_left _ _

theorem State.resettle_eq (s t : State) : ∃ n, s.resettle t = t.modNet (fun m => { m with settle := n }) := by
  unfold State.resettle
  split
  · exact ⟨t.net.settle, rfl⟩
  · exact ⟨0, rfl⟩

theorem State.settle_resettle (s t : State) : (s.resettle t).net.settle = if t.bestKey = s.bestKey then t.net.settle else 0 := by
  unfold State.resettle
  split <;> rfl

/-- The state with a key known, before the settle count is looked at. -/
def State.withKey (s : State) (k : Key) : State := s.modNet (fun n => { n with best := some ((n.best.map (fun b => Key.best b k)).getD k) })

theorem State.learnKey_eq_resettle (s : State) (k : Key) : s.learnKey k = s.resettle (s.withKey k) := rfl

/-- A key learned changes the best key known and the settle count alone. -/
theorem State.learnKey_eq (s : State) (k : Key) : ∃ b n, s.learnKey k = s.modNet (fun m => { m with best := b, settle := n }) := by
  obtain ⟨n, same⟩ := s.resettle_eq (s.withKey k)
  exact ⟨_, n, same⟩

theorem State.bestKey_withKey (s : State) (k : Key) : (s.withKey k).bestKey = Key.best s.bestKey k := by
  change Key.best s.ownKey ((s.net.best.map (fun b => Key.best b k)).getD k) = Key.best ((s.net.best.map (Key.best s.ownKey)).getD s.ownKey) k
  cases s.net.best with
  | none => rfl
  | some b => exact Key.best_assoc _ _ _

/-- The best key known once a key has been learned. -/
theorem State.bestKey_learnKey (s : State) (k : Key) : (s.learnKey k).bestKey = Key.best s.bestKey k := by
  obtain ⟨n, same⟩ := s.resettle_eq (s.withKey k)
  rw [State.learnKey_eq_resettle, same]
  exact s.bestKey_withKey k

theorem State.settle_learnKey (s : State) (k : Key) : (s.learnKey k).net.settle = if Key.best s.bestKey k = s.bestKey then s.net.settle else 0 := by
  rw [State.learnKey_eq_resettle, State.settle_resettle, s.bestKey_withKey]
  rfl

/-- A key better than the best known restarts the settle count, and no key learned sets it going again. -/
theorem State.settle_learnKey_zero {s : State} {k : Key} (new : k.better s.bestKey = true ∨ s.net.settle = 0) : (s.learnKey k).net.settle = 0 := by
  rw [s.settle_learnKey k]
  split
  · next same =>
    refine new.resolve_left fun better => ?_
    rw [Key.best, if_pos better] at same
    rw [same, Key.better_irrefl] at better
    exact Bool.false_ne_true better
  · rfl

/-! ### What an election leaves -/

/-- `t` holds the keys, the settle count, the engines and the neighbours that `s` holds. -/
structure ElectionKept (s t : State) : Prop where
  eng : t.eng = s.eng
  best : t.net.best = s.net.best
  maxEpoch : t.net.maxEpoch = s.net.maxEpoch
  settle : t.net.settle = s.net.settle
  uid : t.obj O.uid = s.obj O.uid
  priority : t.obj O.originPriority = s.obj O.originPriority
  neighbour : ∀ j, (t.linkOf j).nbUid = (s.linkOf j).nbUid ∧ (t.linkOf j).nbPort = (s.linkOf j).nbPort

theorem ElectionKept.refl (s : State) : ElectionKept s s := ⟨rfl, rfl, rfl, rfl, rfl, rfl, fun _ => ⟨rfl, rfl⟩⟩

theorem ElectionKept.trans {s t u : State} (h : ElectionKept s t) (h' : ElectionKept t u) : ElectionKept s u :=
  ⟨h'.eng.trans h.eng, h'.best.trans h.best, h'.maxEpoch.trans h.maxEpoch, h'.settle.trans h.settle, h'.uid.trans h.uid, h'.priority.trans h.priority,
    fun j => ⟨(h'.neighbour j).1.trans (h.neighbour j).1, (h'.neighbour j).2.trans (h.neighbour j).2⟩⟩

theorem ElectionKept.ownKey {s t : State} (h : ElectionKept s t) : t.ownKey = s.ownKey := by rw [State.ownKey, State.ownKey, h.uid, h.priority]

theorem ElectionKept.bestKey {s t : State} (h : ElectionKept s t) : t.bestKey = s.bestKey := by rw [State.bestKey, State.bestKey, h.best, h.ownKey]

theorem State.setObj_electionKept (s : State) {a : Nat} (v : Nat) (notUid : O.uid ≠ a) (notPriority : O.originPriority ≠ a) : ElectionKept s (s.setObj a v) :=
  ⟨rfl, rfl, rfl, rfl, s.obj_setObj_ne v notUid, s.obj_setObj_ne v notPriority, fun _ => ⟨rfl, rfl⟩⟩

theorem State.event_electionKept (s : State) (code data : Nat) : ElectionKept s (s.event code data) :=
  have link := fun j => State.linkOf_of_link (s.event_link code data) j
  ⟨s.event_eng _ _, congrArg Net.best (s.event_net _ _), congrArg Net.maxEpoch (s.event_net _ _), congrArg Net.settle (s.event_net _ _),
    s.obj_event _ _ (by decide), s.obj_event _ _ (by decide), fun j => by rw [link j]; exact ⟨rfl, rfl⟩⟩

/-- A message queued on a link leaves what its neighbour's HELLO said. -/
theorem State.sendOn_electionKept (s : State) (k : Fin 4) (m : Msg) : ElectionKept s (s.sendOn k false m) := by
  refine ⟨rfl, rfl, rfl, rfl, rfl, rfl, fun j => ?_⟩
  rw [State.linkOf_sendOn]
  split <;> exact ⟨rfl, rfl⟩

theorem ElectionKept.foldl {α : Type} {f : State → α → State} (kept : ∀ s a, ElectionKept s (f s a)) (l : List α) (s : State) : ElectionKept s (l.foldl f s) := by
  induction l generalizing s with
  | nil => exact .refl s
  | cons a l ih => exact (kept s a).trans (ih (f s a))

theorem State.flood_electionKept (s : State) (src ty : Nat) (b : List Byte) (except : Option (Fin 4)) : ElectionKept s (s.flood src ty b except) :=
  .foldl (fun s k => s.sendOn_electionKept k _) _ s

theorem State.floodClaim_electionKept (s : State) (epoch : Nat) : ElectionKept s (s.floodClaim epoch) :=
  (show ElectionKept s (s.nextFlood.2.noteFlood s.nextFlood.2.floodAddr s.nextFlood.1) from ⟨rfl, rfl, rfl, rfl, rfl, rfl, fun _ => ⟨rfl, rfl⟩⟩).trans
    (State.flood_electionKept _ _ _ _ _)

/-- A CLAIM sent leaves every object, memory and all of the fabric's record but the flooded messages seen. -/
theorem State.floodClaim_eq (s : State) (epoch : Nat) :
    ∃ l seq seen, s.floodClaim epoch = { s with link := l, net := { s.net with floodSeq := seq, seen := seen } } := by
  obtain ⟨l, same⟩ := (s.nextFlood.2.noteFlood s.nextFlood.2.floodAddr s.nextFlood.1).flood_eq s.nextFlood.2.floodAddr 2
    (leBytes 1 s.nextFlood.2.ownKey.prio ++ leBytes 8 s.nextFlood.2.ownKey.uid ++ leBytes 4 epoch ++ leBytes 2 s.nextFlood.1) none
  exact ⟨l, _, _, same⟩

theorem Booked.electionKept {s t : State} (h : Booked s t) : ElectionKept s t :=
  ⟨h.eng, congrArg Net.best h.net, congrArg Net.maxEpoch h.net, congrArg Net.settle h.net, h.obj _ (by decide), h.obj _ (by decide),
    fun j => by rw [State.linkOf_of_link h.link j]; exact ⟨rfl, rfl⟩⟩

/-- A request to write an object is journalled and answered, and at most performed. -/
theorem State.writeReq_booked (s : State) (k : SessKey) (kport a : Nat) (words : List (BitVec 32)) (x : Extra) (effect : State → State) :
    Booked s (s.writeReq k kport a words x effect) ∨ Booked (effect s) (s.writeReq k kport a words x effect) := by
  unfold State.writeReq
  dsimp only
  split
  · exact .inl (.refl s)
  · generalize s.checkWrite k a words _ = code
    have booked := s.finishWrite_booked k kport a words code effect
    split at booked
    · exact .inr booked
    · exact .inl booked

theorem electionKeys_not_link (k : Fin 4) : O.uid ≠ O.linkState k.val ∧ O.uid ≠ O.linkRunEligible k.val ∧ O.originPriority ≠ O.linkState k.val ∧
    O.originPriority ≠ O.linkRunEligible k.val := by decide +revert

theorem State.setLink_electionKept (s : State) (k : Fin 4) {v : Nat} (notTraining : v ≠ 2) (notSleep : v ≠ 8) (notDisabled : v ≠ 0) :
    ElectionKept s (s.setLink k v) := by
  have only := s.setLink_only k v
  obtain ⟨uidState, uidEligible, priorityState, priorityEligible⟩ := electionKeys_not_link k
  refine ⟨only.eng, congrArg Net.best only.net, congrArg Net.maxEpoch only.net, congrArg Net.settle only.net,
    only.obj _ uidState uidEligible (by decide), only.obj _ priorityState priorityEligible (by decide), fun j => ?_⟩
  by_cases same : j = k
  · rw [same, s.linkOf_setLink_still k notTraining notSleep notDisabled]
    exact ⟨rfl, rfl⟩
  · rw [only.other j same]
    exact ⟨rfl, rfl⟩

theorem State.modLink_electionKept (s : State) (k : Fin 4) {f : Link → Link}
    (same : (f (s.linkOf k)).nbUid = (s.linkOf k).nbUid ∧ (f (s.linkOf k)).nbPort = (s.linkOf k).nbPort) : ElectionKept s (s.modLink k f) := by
  refine ⟨rfl, rfl, rfl, rfl, rfl, rfl, fun j => ?_⟩
  rw [State.linkOf_modLink]
  split
  · next here => exact here ▸ same
  · exact ⟨rfl, rfl⟩

/-- LinkEnable 0 closes a link: what its neighbour said stays. -/
theorem State.writeLinkDisable_electionKept (s : State) (key : SessKey) (kport : Nat) (k : Fin 4) : ElectionKept s (s.writeLinkEnable key kport k [0]) := by
  have enabled : ElectionKept s (s.setObj (O.linkEnable k.val) (wordsNat [0])) := s.setObj_electionKept _ (by decide +revert) (by decide +revert)
  have close := fun (t : State) => t.setLink_electionKept k (v := 9) (by decide) (by decide) (by decide)
  rcases s.writeReq_booked key kport (O.linkEnable k.val) [0] {} (fun s =>
    let s1 := s.setObj (O.linkEnable k.val) (wordsNat [0])
    let st := s1.linkState k
    if wordsNat [0] = 1 then (if st = 0 then s1.setLink k 2 else if st = 9 then s1.setLink k 10 else s1)
    else if st = 0 ∨ st = 9 then s1
    else if st = 10 then s1.setLink k 9
    else (s1.modLink k (fun l => { l with was := st })).setLink k 9) with refused | performed
  · exact refused.electionKept
  · refine ElectionKept.trans ?_ performed.electionKept
    dsimp only
    rw [if_neg (by decide)]
    split
    · exact enabled
    · split
      · exact enabled.trans (close _)
      · exact enabled.trans ((State.modLink_electionKept _ k ⟨rfl, rfl⟩).trans (close _))

theorem State.mute_kept (s : State) (r : MuteReason) : ∃ l, s.mute r = { s with mutes := l } := by
  unfold State.mute
  split
  · exact ⟨s.mutes, rfl⟩
  · exact ⟨_, rfl⟩

/-- A member that leaves its fabric gives its address and its Origin up, and its outputs and its graph. -/
theorem State.leaveFabric_eq (s : State) (k : Fin 4) : ∃ m, s.leaveFabric k =
    { ({ s with mutes := m } : State).setObjs [(O.fabricAddress, 0xFFFF), (O.fabricState, 2)] with
      net := { s.net with origin := none, stepFrom := some k.val, path := some k.val }
      til := { s.til with unload := true } } := by
  obtain ⟨m, same⟩ := s.mute_kept .graphReplace
  refine ⟨m, ?_⟩
  simp only [State.leaveFabric, same]
  rfl

theorem State.leaveFabric_electionKept (s : State) (k : Fin 4) : ElectionKept s (s.leaveFabric k) := by
  obtain ⟨m, same⟩ := s.leaveFabric_eq k
  rw [same]
  refine ⟨rfl, rfl, rfl, rfl, ?_, ?_, fun _ => ⟨rfl, rfl⟩⟩
  · exact State.obj_setObjs_other _ (by decide)
  · exact State.obj_setObjs_other _ (by decide)

theorem State.mergePoint_electionKept (s : State) (k : Fin 4) (h : Hello) : ElectionKept s (s.mergePoint k h) := by
  unfold State.mergePoint
  split
  · exact ((s.writeLinkDisable_electionKept .firm 0 k).trans (State.event_electionKept _ _ _)).trans (State.setObj_electionKept _ _ (by decide) (by decide))
  · exact s.leaveFabric_electionKept k

end Sys2Proof.Machine
end

section
/-! HELLO, the HELLO period, CLAIM and the settled election (R580 to R583). -/
namespace Sys2Proof.Machine
open Sys2Proof

@[simp] theorem State.obj_modNet (s : State) (f : Net → Net) (a : Nat) : (s.modNet f).obj a = s.obj a := rfl

@[simp] theorem State.sendOn_net (s : State) (k : Fin 4) (bulk : Bool) (m : Msg) : (s.sendOn k bulk m).net = s.net := rfl

theorem State.obj_of_objs {s t : State} (same : t.objs = s.objs) (a : Nat) : t.obj a = s.obj a := by rw [State.obj, State.obj, same]

theorem State.joined_of_objs {s t : State} (same : t.objs = s.objs) : t.joined = s.joined := by rw [State.joined, State.joined, State.obj_of_objs same]

theorem State.ownKey_of_objs {s t : State} (same : t.objs = s.objs) : t.ownKey = s.ownKey := by
  rw [State.ownKey, State.ownKey, State.obj_of_objs same, State.obj_of_objs same]

theorem State.isOrigin_of_origin {s t : State} (same : t.objs = s.objs) (origin : t.net.origin = s.net.origin) : t.isOrigin = s.isOrigin := by
  simp only [State.isOrigin, State.leads, State.joined, origin, State.obj_of_objs same]

/-- A CLAIM sent leaves all of the fabric's record but the number and the list of flooded messages. -/
theorem State.floodClaim_leaves (s : State) (epoch : Nat) : let t := s.floodClaim epoch
    t.objs = s.objs ∧ t.eng = s.eng ∧ t.mem = s.mem ∧ t.net = { s.net with floodSeq := t.net.floodSeq, seen := t.net.seen } := by
  obtain ⟨l, seq, seen, same⟩ := s.floodClaim_eq epoch
  rw [same]
  exact ⟨rfl, rfl, rfl, rfl⟩

/-! ### HELLO -/

/-- The neighbour's names and epoch taken from a HELLO. -/
def State.heard (s : State) (k : Fin 4) (h : Hello) : State :=
  (s.modLink k (fun l => { l with nbUid := h.uid.toNat, nbPort := h.port.val, nbHello := true })).modNet
    (fun n => { n with maxEpoch := max n.maxEpoch h.epoch.toNat })

/-- That state with both keys of the HELLO known. -/
def State.heardKeys (s : State) (k : Fin 4) (h : Hello) : State := ((s.heard k h).learnKey (helloOwn h)).learnKey (helloBest h)

/-- The member count that a HELLO from toward the Origin brings. -/
def State.heardMembers (s : State) (k : Fin 4) (h : Hello) : State :=
  if s.joined && h.joined && s.net.path = some k.val && some (helloOrigin h) = s.net.origin then s.setObj O.memberCount h.members.toNat else s

/-- A device not joined begins its election. -/
def State.heardElection (s : State) : State :=
  if !s.joined && (s.obj O.fabricState = 0 || s.obj O.fabricState = 1) then s.setObj O.fabricState 2 else s

/-- What a HELLO leads to once it is noted: two fabrics meet, an Origin answers, or TickCount follows the better Origin. -/
def State.heardAnswer (s : State) (k : Fin 4) (h : Hello) (first : Bool) : State :=
  let worse := (helloOrigin h).better s.originKey
  let differ := helloOrigin h != s.originKey
  if s.member && h.joined && differ && decide (1 < s.obj O.memberCount) && decide (1 < h.members.toNat) then
    (if worse then s.mergePoint k h else s)
  else if s.joined && s.isOrigin && !h.joined then s.floodClaim (s.obj O.fabricEpoch)
  else if first && differ && worse && s.linkState k = 3 then s.modNet (fun n => { n with stepFrom := some k.val })
  else s

theorem State.hello_eq (s : State) (k : Fin 4) (h : Hello) :
    s.hello k h = (((s.heardKeys k h).heardMembers k h).heardElection).heardAnswer k h (!(s.linkOf k).nbHello) := rfl

theorem State.heardMembers_electionKept (s : State) (k : Fin 4) (h : Hello) : ElectionKept s (s.heardMembers k h) := by
  unfold State.heardMembers
  split
  · exact s.setObj_electionKept _ (by decide) (by decide)
  · exact .refl s

theorem State.heardElection_electionKept (s : State) : ElectionKept s s.heardElection := by
  unfold State.heardElection
  split
  · exact s.setObj_electionKept _ (by decide) (by decide)
  · exact .refl s

theorem State.heardAnswer_electionKept (s : State) (k : Fin 4) (h : Hello) (first : Bool) : ElectionKept s (s.heardAnswer k h first) := by
  unfold State.heardAnswer
  dsimp only
  split
  · split
    · exact s.mergePoint_electionKept k h
    · exact .refl s
  · split
    · exact s.floodClaim_electionKept _
    · split
      · exact ⟨rfl, rfl, rfl, rfl, rfl, rfl, fun _ => ⟨rfl, rfl⟩⟩
      · exact .refl s

/-- What a HELLO brings to the election stands once its names and keys are noted. -/
theorem State.hello_electionKept (s : State) (k : Fin 4) (h : Hello) : ElectionKept (s.heardKeys k h) (s.hello k h) :=
  ((State.heardMembers_electionKept _ k h).trans (State.heardElection_electionKept _)).trans (State.heardAnswer_electionKept _ k h _)

/-- The keys of a HELLO change the best key and the settle count of the state that has noted its names. -/
theorem State.heardKeys_eq (s : State) (k : Fin 4) (h : Hello) :
    ∃ b n, s.heardKeys k h = (s.heard k h).modNet (fun m => { m with best := b, settle := n }) := by
  obtain ⟨b, n, own⟩ := (s.heard k h).learnKey_eq (helloOwn h)
  obtain ⟨b', n', best⟩ := ((s.heard k h).learnKey (helloOwn h)).learnKey_eq (helloBest h)
  refine ⟨b', n', best.trans ?_⟩
  rw [own]
  rfl

theorem State.bestKey_heardKeys (s : State) (k : Fin 4) (h : Hello) :
    (s.heardKeys k h).bestKey = Key.best (Key.best s.bestKey (helloOwn h)) (helloBest h) := by
  rw [State.heardKeys, State.bestKey_learnKey, State.bestKey_learnKey]
  rfl

/-- A HELLO whose best key is better than the best known restarts the settle count, whichever of its keys is learned first. -/
theorem State.settle_heardKeys {s : State} {k : Fin 4} {h : Hello} (better : (helloBest h).better s.bestKey = true) : (s.heardKeys k h).net.settle = 0 := by
  refine State.settle_learnKey_zero ?_
  have same : (s.heard k h).bestKey = s.bestKey := rfl
  by_cases own : (helloOwn h).better s.bestKey = true
  · exact .inr (State.settle_learnKey_zero (.inl (same ▸ own)))
  · rw [State.bestKey_learnKey, same, Key.best_of_not_better (Bool.eq_false_iff.2 own)]
    exact .inl better

/-- A device that is not joined has no fabric to merge and no Origin's answer to give. -/
theorem State.heardAnswer_alone {s : State} (alone : s.joined = false) (k : Fin 4) (h : Hello) (first : Bool) : (s.heardAnswer k h first).objs = s.objs := by
  have noMember : s.member = false := by simp [State.member, alone]
  simp only [State.heardAnswer, alone, noMember, Bool.false_and, Bool.false_eq_true, if_false]
  split <;> rfl

theorem State.fabricState_hello {s : State} {k : Fin 4} {h : Hello} (alone : s.joined = false) (begins : s.obj O.fabricState ≤ 1) :
    (s.hello k h).obj O.fabricState = 2 := by
  obtain ⟨b, n, heard⟩ := s.heardKeys_eq k h
  have still : (s.heardKeys k h).joined = false ∧ ((s.heardKeys k h).obj O.fabricState = 0 ∨ (s.heardKeys k h).obj O.fabricState = 1) := by
    rw [heard]
    exact ⟨alone, Nat.le_one_iff_eq_zero_or_eq_one.1 begins⟩
  obtain ⟨apart, state⟩ := still
  have members : (s.heardKeys k h).heardMembers k h = s.heardKeys k h := by simp [State.heardMembers, apart]
  have election : (s.heardKeys k h).heardElection = (s.heardKeys k h).setObj O.fabricState 2 := by simp [State.heardElection, apart, state]
  have after : ((s.heardKeys k h).setObj O.fabricState 2).joined = false := by
    rw [← apart]
    unfold State.joined
    rw [State.obj_setObj_ne _ _ (by decide)]
  rw [State.hello_eq, members, election]
  exact (State.obj_of_objs (State.heardAnswer_alone after k h _) _).trans (State.obj_setObj_self _ _ _)

/-- The neighbour's names, its epoch, and no better key of the HELLO unknown, before it is answered. -/
theorem State.heardKeys_brings (s : State) (k : Fin 4) (h : Hello) : let t := s.heardKeys k h
    (t.linkOf k).nbUid = h.uid.toNat ∧ (t.linkOf k).nbPort = h.port.val ∧ t.net.maxEpoch = max s.net.maxEpoch h.epoch.toNat ∧
    (helloBest h).better t.bestKey = false ∧ (helloOwn h).better t.bestKey = false ∧ t.eng = s.eng := by
  obtain ⟨b, n, heard⟩ := s.heardKeys_eq k h
  have link : (s.heardKeys k h).linkOf k = { s.linkOf k with nbUid := h.uid.toNat, nbPort := h.port.val, nbHello := true } := by
    rw [heard]
    exact lane_put_same _ _ _
  have before : (s.heardKeys k h).net.maxEpoch = max s.net.maxEpoch h.epoch.toNat ∧ (s.heardKeys k h).eng = s.eng := by
    rw [heard]
    exact ⟨rfl, rfl⟩
  dsimp only
  rw [link, s.bestKey_heardKeys k h]
  exact ⟨rfl, rfl, before.1, Key.not_better_best_right _ _, Key.not_better_trans (Key.not_better_best_right _ _) (Key.not_better_best_left _ _), before.2⟩

/-- What a HELLO brings. -/
theorem State.hello_brings (s : State) (k : Fin 4) (h : Hello) : let t := s.hello k h
    (t.linkOf k).nbUid = h.uid.toNat ∧ (t.linkOf k).nbPort = h.port.val ∧ t.net.maxEpoch = max s.net.maxEpoch h.epoch.toNat ∧
    (helloBest h).better t.bestKey = false ∧ (helloOwn h).better t.bestKey = false ∧ t.eng = s.eng ∧
    ((helloBest h).better s.bestKey = true → t.net.settle = 0) ∧ (s.joined = false → s.obj O.fabricState ≤ 1 → t.obj O.fabricState = 2) := by
  obtain ⟨uid, port, epoch, best, own, eng⟩ := s.heardKeys_brings k h
  have kept := s.hello_electionKept k h
  dsimp only
  rw [(kept.neighbour k).1, (kept.neighbour k).2, kept.maxEpoch, kept.bestKey, kept.eng, kept.settle]
  exact ⟨uid, port, epoch, best, own, eng, State.settle_heardKeys, State.fabricState_hello⟩

theorem execHello_idle {s : State} {k : Fin 4} {h : Hello} (idle : s.framing k = false) : exec (.hello k h) s = .next s := by
  change execHello k h s = _
  simp [execHello, idle]

theorem execHello_framing {s : State} {k : Fin 4} {h : Hello} (framing : s.framing k = true) :
    exec (.hello k h) s = .next ((s.takeMsg 1).hello k h) := by
  change execHello k h s = _
  simp [execHello, framing]

/-! ### The HELLO period -/

/-- HELLOs on some links: each is queued on its link once, as the state before them says. -/
theorem State.sendHellos {l : List (Fin 4)} (once : l.Nodup) (s : State) : let t := l.foldl State.sendHello s
    (∃ v, t = { s with link := v }) ∧
    ∀ j, t.linkOf j = if j ∈ l then { s.linkOf j with ctl := (s.linkOf j).ctl.send (s.mkMsg 0xFFF 0 1 (s.helloBytes j)) } else s.linkOf j := by
  induction l generalizing s with
  | nil => exact ⟨⟨_, rfl⟩, fun _ => rfl⟩
  | cons k l ih =>
    obtain ⟨fresh, rest⟩ := List.nodup_cons.1 once
    obtain ⟨⟨v, same⟩, links⟩ := ih rest (s.sendHello k)
    refine ⟨⟨v, same⟩, fun j => (links j).trans ?_⟩
    have here : (s.sendHello k).linkOf j = if j = k then { s.linkOf j with ctl := (s.linkOf j).ctl.send (s.mkMsg 0xFFF 0 1 (s.helloBytes k)) } else s.linkOf j :=
      s.linkOf_sendOn k _ j
    have bytes : (s.sendHello k).mkMsg 0xFFF 0 1 ((s.sendHello k).helloBytes j) = s.mkMsg 0xFFF 0 1 (s.helloBytes j) := rfl
    rw [bytes, here]
    by_cases same : j = k
    · subst same
      rw [if_neg fresh, if_pos rfl, if_pos List.mem_cons_self]
    · simp [same]

/-- The links on which the HELLO period sends. -/
theorem mem_helloPorts (s : State) (j : Fin 4) :
    j ∈ ports.filter (fun k => decide (3 ≤ s.linkState k) && decide (s.linkState k ≤ 7)) ↔ 3 ≤ s.linkState j ∧ s.linkState j ≤ 7 := by
  simp [List.mem_filter, mem_ports]

/-! ### The settled election -/

/-- The next epoch is the one after, or one more where its low 16 bits would be zero. -/
theorem nextEpoch_steps (e : Nat) :
    nextEpoch e % 65536 ≠ 0 ∧ (nextEpoch e = (e + 1) % 2 ^ 32 ∨ nextEpoch e = (e + 1) % 2 ^ 32 + 1) := by
  unfold nextEpoch
  dsimp only
  split <;> omega

theorem execElectionSettle_claims {s : State}
    (settled : s.bestKey = s.ownKey ∧ s.obj O.originSettle ≤ s.net.settle ∧ s.isAlone = false ∧ s.net.origin ≠ some s.ownKey) :
    exec .electionSettle s = .next s.claimSelf := by
  change execElectionSettle s = _
  rw [execElectionSettle, if_pos settled]

/-- The device as its own Origin with a new epoch, before its CLAIM. -/
def State.selfOrigin (s : State) : State :=
  (s.setObjs [(O.originUid, s.obj O.uid), (O.fabricEpoch, nextEpoch s.net.maxEpoch), (O.originAddress, s.obj O.fabricAddress)]).modNet
    (fun n => { n with origin := some s.ownKey, maxEpoch := nextEpoch s.net.maxEpoch, path := none, topo := [], settle := 0 })

theorem State.claimSelf_eq (s : State) : s.claimSelf = (s.selfOrigin.floodClaim (nextEpoch s.net.maxEpoch)).event 0x0900
    (s.selfOrigin.obj O.originAddress % 4096 + nextEpoch s.net.maxEpoch * 65536) := rfl

theorem State.selfOrigin_objs (s : State) : s.selfOrigin.obj O.originUid = s.obj O.uid ∧ s.selfOrigin.obj O.fabricEpoch = nextEpoch s.net.maxEpoch := by
  simp +decide [State.selfOrigin, State.setObjs, State.obj_setObj]

theorem State.claimSelf_origin (s : State) : let t := s.claimSelf
    t.net.origin = some s.ownKey ∧ t.obj O.originUid = s.obj O.uid ∧ t.obj O.fabricEpoch = nextEpoch s.net.maxEpoch ∧
    t.net.maxEpoch = nextEpoch s.net.maxEpoch ∧ t.eng = s.eng ∧ t.mem = s.mem := by
  obtain ⟨uid, epoch⟩ := s.selfOrigin_objs
  obtain ⟨objs, eng, mem, net⟩ := s.selfOrigin.floodClaim_leaves (nextEpoch s.net.maxEpoch)
  have claimed : s.selfOrigin.eng = s.eng ∧ s.selfOrigin.mem = s.mem := ⟨rfl, rfl⟩
  rw [State.claimSelf_eq]
  dsimp only
  rw [State.event_net, State.event_eng, State.event_mem, State.obj_event _ _ _ (by decide), State.obj_event _ _ _ (by decide),
    State.obj_of_objs objs, State.obj_of_objs objs, eng, mem, net]
  exact ⟨rfl, uid, epoch, rfl, claimed⟩

/-! ### CLAIM -/

/-- A CLAIM heard: noted, its key learned, and passed on. -/
def State.heardClaim (s : State) (k : Fin 4) (src seq : Nat) (o : Key) (epoch : Nat) : State :=
  ((s.noteFlood src seq).learnKey o).flood src 2 (leBytes 1 o.prio ++ leBytes 8 o.uid ++ leBytes 4 epoch ++ leBytes 2 seq) (some k)

/-- It leaves every object, the engines, memory and the Origin. -/
theorem State.heardClaim_leaves (s : State) (k : Fin 4) (src seq : Nat) (o : Key) (epoch : Nat) : let t := s.heardClaim k src seq o epoch
    t.objs = s.objs ∧ t.eng = s.eng ∧ t.mem = s.mem ∧ t.net.origin = s.net.origin := by
  obtain ⟨b, n, learned⟩ := (s.noteFlood src seq).learnKey_eq o
  obtain ⟨l, flooded⟩ := ((s.noteFlood src seq).learnKey o).flood_eq src 2 (leBytes 1 o.prio ++ leBytes 8 o.uid ++ leBytes 4 epoch ++ leBytes 2 seq) (some k)
  unfold State.heardClaim
  rw [flooded, learned]
  exact ⟨rfl, rfl, rfl, rfl⟩

theorem State.bestKey_heardClaim (s : State) (k : Fin 4) (src seq : Nat) (o : Key) (epoch : Nat) :
    (s.heardClaim k src seq o epoch).bestKey = Key.best s.bestKey o :=
  (State.flood_electionKept _ _ _ _ _).bestKey.trans ((s.noteFlood src seq).bestKey_learnKey o)

theorem execClaim_idle {s : State} {k : Fin 4} {src : BitVec 12} {prio : BitVec 8} {uid : BitVec 64} {epoch : BitVec 32} {seq : BitVec 16}
    (idle : s.framing k = false) : exec (.claim k src prio uid epoch seq) s = .next s := by
  change execClaim k src prio uid epoch seq s = _
  simp [execClaim, idle]

theorem execClaim_framing {s : State} {k : Fin 4} {src : BitVec 12} {prio : BitVec 8} {uid : BitVec 64} {epoch : BitVec 32} {seq : BitVec 16}
    (framing : s.framing k = true) : exec (.claim k src prio uid epoch seq) s =
    .next ((s.takeMsg 2).claim k src.toNat seq.toNat { prio := prio.toNat, uid := uid.toNat } epoch.toNat) := by
  change execClaim k src prio uid epoch seq s = _
  simp [execClaim, framing]

theorem State.claim_seen {s : State} {src seq : Nat} (seen : s.seenFlood src seq = true) (k : Fin 4) (o : Key) (epoch : Nat) :
    s.claim k src seq o epoch = s := by
  simp [State.claim, seen]

/-- An Origin adopted: its key, Uid and epoch, and the port toward it. -/
theorem State.adoptOrigin_adopts (s : State) (o : Key) (epoch : Nat) (k : Fin 4) : let t := s.adoptOrigin o epoch k
    t.net.origin = some o ∧ t.obj O.originUid = o.uid ∧ t.obj O.fabricEpoch = epoch ∧ t.net.path = some k.val ∧ t.eng = s.eng ∧ t.mem = s.mem := by
  have objs : ∀ f, ((s.setObjs [(O.originUid, o.uid), (O.fabricEpoch, epoch)]).modNet f).obj O.originUid = o.uid ∧
      ((s.setObjs [(O.originUid, o.uid), (O.fabricEpoch, epoch)]).modNet f).obj O.fabricEpoch = epoch := by
    intro f
    simp +decide [State.setObjs, State.obj_setObj]
  unfold State.adoptOrigin
  dsimp only
  have sent := fun (s : State) m => (s.sendOn_sent k false m)
  rw [(sent _ _).obj _ (by decide), (sent _ _).obj _ (by decide), (sent _ _).eng, (sent _ _).mem, State.sendOn_net, State.event_net, State.event_eng,
    State.event_mem, State.obj_event _ _ _ (by decide), State.obj_event _ _ _ (by decide)]
  exact ⟨rfl, (objs _).1, (objs _).2, rfl, rfl, rfl⟩

/-- What a CLAIM that has been noted leads to. -/
def State.answerClaim (s : State) (k : Fin 4) (o : Key) (epoch : Nat) : State :=
  if s.joined && s.isOrigin && s.ownKey.better o then s.floodClaim (s.obj O.fabricEpoch)
  else if o = s.bestKey && s.claimMerges o then (s.leaveFabric k).adoptOrigin o epoch k
  else if o = s.bestKey && decide (s.obj O.fabricEpoch ≤ epoch) then s.adoptOrigin o epoch k
  else if s.obj O.fabricState = 2 && decide (s.obj O.fabricEpoch ≤ epoch) then (s.setObj O.fabricState 1).modNet (fun n => { n with settle := 0 })
  else s

theorem State.claim_fresh {s : State} {src seq : Nat} (fresh : s.seenFlood src seq = false) (k : Fin 4) (o : Key) (epoch : Nat) :
    s.claim k src seq o epoch = (s.heardClaim k src seq o epoch).answerClaim k o epoch := by
  unfold State.claim
  rw [fresh, if_neg Bool.false_ne_true]
  rfl

theorem State.leaveFabric_leaves (s : State) (k : Fin 4) : (s.leaveFabric k).eng = s.eng ∧ (s.leaveFabric k).mem = s.mem := by
  obtain ⟨m, same⟩ := s.leaveFabric_eq k
  rw [same]
  exact ⟨rfl, rfl⟩

/-- The best key known, at no lower epoch, is adopted, by a member of a worse fabric as it leaves that one. -/
theorem State.answerClaim_adopts {s : State} {o : Key} {epoch : Nat} (best : o = s.bestKey) (current : s.obj O.fabricEpoch ≤ epoch) (k : Fin 4) :
    ∃ u : State, s.answerClaim k o epoch = u.adoptOrigin o epoch k ∧ u.eng = s.eng ∧ u.mem = s.mem := by
  have noBetter : s.ownKey.better o = false := best ▸ s.ownKey_not_better
  unfold State.answerClaim
  rw [if_neg (by simp [noBetter])]
  split
  · exact ⟨_, rfl, s.leaveFabric_leaves k⟩
  · rw [if_pos (by simp [← best, current])]
    exact ⟨s, rfl, rfl, rfl⟩

/-- A key that is not the best known leaves the Origin; it takes an election in progress back to its start, unless this device is the Origin that
answers it. -/
theorem State.answerClaim_worse {s : State} {o : Key} (worse : o ≠ s.bestKey) (k : Fin 4) (epoch : Nat) :
    let idles := s.obj O.fabricState = 2 ∧ s.obj O.fabricEpoch ≤ epoch ∧ ¬(s.joined = true ∧ s.isOrigin = true ∧ s.ownKey.better o = true)
    let t := s.answerClaim k o epoch
    t.net.origin = s.net.origin ∧ (∀ a, a ≠ O.fabricState → t.obj a = s.obj a) ∧
      t.obj O.fabricState = (if idles then 1 else s.obj O.fabricState) ∧ (idles → t.net.settle = 0) := by
  intro idles t
  have still : ∀ u : State, u.objs = s.objs → u.net.origin = s.net.origin → ¬idles → u.net.origin = s.net.origin ∧ (∀ a, a ≠ O.fabricState → u.obj a = s.obj a) ∧
      u.obj O.fabricState = (if idles then 1 else s.obj O.fabricState) ∧ (idles → u.net.settle = 0) := by
    intro u objs origin notIdle
    rw [if_neg notIdle]
    exact ⟨origin, fun a _ => State.obj_of_objs objs a, State.obj_of_objs objs _, fun idle => absurd idle notIdle⟩
  simp only [t, State.answerClaim, worse, decide_false, Bool.false_and, Bool.false_eq_true, if_false]
  split
  · next answer =>
    obtain ⟨objs, -, -, net⟩ := s.floodClaim_leaves (s.obj O.fabricEpoch)
    refine still _ objs ?_ (fun idle => idle.2.2 (by simpa [and_assoc] using answer))
    rw [net]
  · next silent =>
    split
    · next begins =>
      have idle : idles := by
        simp only [Bool.and_eq_true, decide_eq_true_eq] at begins silent
        exact ⟨begins.1, begins.2, fun h => silent ⟨⟨h.1, h.2.1⟩, h.2.2⟩⟩
      rw [if_pos idle]
      exact ⟨rfl, fun a ne => State.obj_setObj_ne _ _ ne, State.obj_setObj_self _ _ _, fun _ => rfl⟩
    · next stays => exact still s rfl rfl fun idle => stays (by simp [idle.1, idle.2.1])

/-- A fresh CLAIM whose key no known key betters, at no lower epoch, is adopted. -/
theorem State.claim_adopts {s : State} {src seq : Nat} {o : Key} {epoch : Nat} (fresh : s.seenFlood src seq = false)
    (best : s.bestKey.better o = false) (current : s.obj O.fabricEpoch ≤ epoch) (k : Fin 4) : let t := s.claim k src seq o epoch
    t.net.origin = some o ∧ t.obj O.originUid = o.uid ∧ t.obj O.fabricEpoch = epoch ∧ t.net.path = some k.val ∧ t.eng = s.eng ∧ t.mem = s.mem := by
  obtain ⟨objs, eng, mem, -⟩ := s.heardClaim_leaves k src seq o epoch
  have known : o = (s.heardClaim k src seq o epoch).bestKey := by rw [State.bestKey_heardClaim, Key.best_of_not_worse best]
  obtain ⟨u, adopted, eng', mem'⟩ := State.answerClaim_adopts known ((State.obj_of_objs objs _).symm ▸ current) k
  obtain ⟨origin, uid, epochs, path, engines, memory⟩ := u.adoptOrigin_adopts o epoch k
  rw [State.claim_fresh fresh, adopted]
  exact ⟨origin, uid, epochs, path, engines.trans (eng'.trans eng), memory.trans (mem'.trans mem)⟩

/-- A fresh CLAIM with a worse key than the best known leaves the Origin, and takes an election in progress back to its start. -/
theorem State.claim_worse {s : State} {src seq : Nat} {o : Key} (fresh : s.seenFlood src seq = false) (worse : s.bestKey.better o = true)
    (k : Fin 4) (epoch : Nat) :
    let idles := s.obj O.fabricState = 2 ∧ s.obj O.fabricEpoch ≤ epoch ∧ ¬(s.joined = true ∧ s.isOrigin = true ∧ s.ownKey.better o = true)
    let t := s.claim k src seq o epoch
    t.net.origin = s.net.origin ∧ (∀ a, a ≠ O.fabricState → t.obj a = s.obj a) ∧
      t.obj O.fabricState = (if idles then 1 else s.obj O.fabricState) ∧ (idles → t.net.settle = 0) := by
  have other : o ≠ (s.heardClaim k src seq o epoch).bestKey := by
    rw [State.bestKey_heardClaim, Key.best_of_not_better (Key.better_asymm worse)]
    rintro rfl
    rw [Key.better_irrefl] at worse
    exact Bool.false_ne_true worse
  obtain ⟨objs, -, -, origin⟩ := s.heardClaim_leaves k src seq o epoch
  have answered := State.answerClaim_worse other k epoch
  rw [← State.claim_fresh fresh] at answered
  have same := State.obj_of_objs objs
  simpa only [State.joined_of_objs objs, State.isOrigin_of_origin objs origin, State.ownKey_of_objs objs, same, origin] using answered

/-! ### The time states -/

/-- A change of the time state is written and reported (R596). -/
theorem State.setTime_ne {s : State} {v : Nat} (other : s.obj O.timeState ≠ v) :
    s.setTime v = (s.setObj O.timeState v).event 0x0902 (v + s.obj O.timeDepth * 256) := by
  simp [State.setTime, other]

theorem execTimeAligned_eq (s : State) : exec .timeAligned s = .next (if s.obj O.timeState = 1 ∧ 256 ≤ s.net.near then
    (s.setObj O.timeState 2).event 0x0902 (2 + s.obj O.timeDepth * 256) else s) := by
  change execTimeAligned s = _
  unfold execTimeAligned
  split
  · next aligns => rw [State.setTime_ne (by omega)]
  · rfl

theorem execTimeAcquiring_eq (s : State) : exec .timeAcquiring s = .next (if s.obj O.timeState = 2 ∧ 16 ≤ s.net.far then
    (s.setObj O.timeState 1).event 0x0902 (1 + s.obj O.timeDepth * 256) else s) := by
  change execTimeAcquiring s = _
  unfold execTimeAcquiring
  split
  · next strays => rw [State.setTime_ne (by omega)]
  · rfl

end Sys2Proof.Machine

namespace Sys2Proof.Claims
open Sys2Proof Sys2Proof.Machine

/-- Settles O42. That a HELLO takes a device not joined to fabric state 2 (log entry 87), and that a CLAIM with a worse key takes an election in
progress back to its start (log entry 121), are the model's choices. -/
theorem fabricElectionAndTime : Obligations.FabricElectionAndTime := by
  unfold Obligations.FabricElectionAndTime
  intro s k h src prio uid epoch seq o settled
  refine ⟨fun idle => ⟨execHello_idle idle, execClaim_idle idle⟩, fun framing => ?hello, ?period, ⟨fun unsettled => ?waits, fun ready => ?claims⟩,
    fun framing seen => ?seen, fun framing fresh => ⟨fun best current => ?adopted, fun worse => ?worse⟩, ?holdover, ?aligned, ?acquiring⟩
  case hello =>
    exact ⟨_, execHello_framing framing, (s.takeMsg 1).hello_brings k h⟩
  case period =>
    obtain ⟨⟨v, same⟩, links⟩ := State.sendHellos (List.Pairwise.filter _ (by decide : ports.Nodup)) s
    refine ⟨_, rfl, ?_⟩
    refine ⟨by rw [same], by rw [same], by rw [same], by rw [same], fun j => (links j).trans ?_⟩
    simp only [mem_helloPorts]
  case waits =>
    change execElectionSettle s = _
    rw [execElectionSettle, if_neg unsettled]
  case claims =>
    obtain ⟨origin, uid, epoch, known, eng, mem⟩ := s.claimSelf_origin
    obtain ⟨low, next⟩ := nextEpoch_steps s.net.maxEpoch
    exact ⟨_, execElectionSettle_claims ready, origin, uid, epoch ▸ low, epoch ▸ next, known.trans epoch.symm, eng, mem⟩
  case seen => rw [execClaim_framing framing, State.claim_seen (s := s.takeMsg 2) seen]
  case adopted =>
    rw [execClaim_framing framing]
    exact ⟨_, rfl, State.claim_adopts (s := s.takeMsg 2) (o := o) fresh best current k⟩
  case worse => exact ⟨_, execClaim_framing framing, State.claim_worse (s := s.takeMsg 2) fresh worse k epoch.toNat⟩
  case holdover => rfl
  case aligned => exact execTimeAligned_eq s
  case acquiring => exact execTimeAcquiring_eq s

end Sys2Proof.Claims
end

section
/-! A link between its states: training, loss, shutdown (R538 to R547, R564, R579). -/
namespace Sys2Proof.Machine
open Sys2Proof

/-! ### What the commands of one link leave alone -/

/-- `t` leaves the engines, memory and the state of every link but `k` as they are in `s`. -/
structure LinkQuiet (k : Fin 4) (s t : State) : Prop where
  eng : t.eng = s.eng
  mem : t.mem = s.mem
  state : ∀ j, j ≠ k → t.linkState j = s.linkState j

/-- It leaves the links themselves too. -/
structure LinkApart (k : Fin 4) (s t : State) : Prop extends LinkQuiet k s t where
  link : ∀ j, j ≠ k → t.linkOf j = s.linkOf j

theorem LinkQuiet.trans {k : Fin 4} {s t u : State} (h : LinkQuiet k s t) (h' : LinkQuiet k t u) : LinkQuiet k s u :=
  ⟨h'.eng.trans h.eng, h'.mem.trans h.mem, fun j hj => (h'.state j hj).trans (h.state j hj)⟩

theorem LinkApart.refl (k : Fin 4) (s : State) : LinkApart k s s := ⟨⟨rfl, rfl, fun _ _ => rfl⟩, fun _ _ => rfl⟩

theorem LinkApart.trans {k : Fin 4} {s t u : State} (h : LinkApart k s t) (h' : LinkApart k t u) : LinkApart k s u :=
  ⟨h.toLinkQuiet.trans h'.toLinkQuiet, fun j hj => (h'.link j hj).trans (h.link j hj)⟩

theorem LinkOnly.apart {k : Fin 4} {s t : State} (h : LinkOnly k s t) : LinkApart k s t := ⟨⟨h.eng, h.mem, fun _ other => h.linkState other⟩, h.other⟩

/-- What the statement of the link states says of the rest of the device. -/
theorem LinkQuiet.spelled {k : Fin 4} {s t : State} (h : LinkQuiet k s t) : t.eng = s.eng ∧ t.mem = s.mem ∧ ∀ j, j ≠ k → t.linkState j = s.linkState j :=
  ⟨h.eng, h.mem, h.state⟩

theorem LinkApart.spelled {k : Fin 4} {s t : State} (h : LinkApart k s t) :
    (t.eng = s.eng ∧ t.mem = s.mem ∧ ∀ j, j ≠ k → t.linkState j = s.linkState j) ∧ ∀ j, j ≠ k → t.linkOf j = s.linkOf j :=
  ⟨h.toLinkQuiet.spelled, h.link⟩

theorem State.setObj_apart (s : State) (k : Fin 4) {a : Nat} (v : Nat) (other : ∀ j : Fin 4, O.linkState j.val ≠ a) : LinkApart k s (s.setObj a v) :=
  ⟨⟨rfl, rfl, fun j _ => s.obj_setObj_ne v (other j)⟩, fun _ _ => rfl⟩

theorem State.sendOn_apart (s : State) (k : Fin 4) (m : Msg) : LinkApart k s (s.sendOn k false m) :=
  ⟨⟨rfl, rfl, fun _ _ => rfl⟩, fun j hj => by rw [State.linkOf_sendOn, if_neg hj]⟩

/-- The objects of a link besides its state. -/
def linkSettings (k : Fin 4) : List Nat :=
  [O.linkEnable k.val, O.laneCount k.val, O.lanesTrained k.val, O.laneMap k.val, O.txEqualisation k.val, O.linkRetrains k.val, O.windowErrors k.val]

theorem linkSettings_apart (k : Fin 4) : ∀ a ∈ linkSettings k, (∀ j : Fin 4, O.linkState j.val ≠ a) ∧ a ≠ O.linkRunEligible k.val ∧
    a ∉ [O.eventsLost, O.fabricState, O.fabricAddress, O.originAddress, O.memberCount] := by decide +revert

theorem LinkOnly.setting {k : Fin 4} {s t : State} (h : LinkOnly k s t) {a : Nat} (setting : a ∈ linkSettings k) : t.obj a = s.obj a := by
  obtain ⟨state, eligible, rest⟩ := linkSettings_apart k a setting
  exact h.obj a (state k).symm eligible (fun lost => rest (lost ▸ List.mem_cons_self))

theorem State.setSetting_apart (s : State) {k : Fin 4} {a : Nat} (v : Nat) (setting : a ∈ linkSettings k) : LinkApart k s (s.setObj a v) :=
  s.setObj_apart k v (linkSettings_apart k a setting).1

/-- A setting written leaves the link's state. -/
theorem State.linkState_setSetting (s : State) {k : Fin 4} {a : Nat} (v : Nat) (setting : a ∈ linkSettings k) (j : Fin 4) :
    (s.setObj a v).linkState j = s.linkState j :=
  s.obj_setObj_ne v ((linkSettings_apart k a setting).1 j)

/-! ### Training, Deep idle, Disabled -/

/-- Training takes the lane count and the equalisation in force (R541, R574). -/
theorem State.setLink_trains (s : State) (k : Fin 4) : (s.setLink k 2).linkState k = 2 ∧
    ((s.setLink k 2).linkOf k).two = decide (s.obj (O.laneCount k.val) = 2) ∧ ((s.setLink k 2).linkOf k).txEq = s.obj (O.txEqualisation k.val) := by
  have only := s.enterLink_only k 2
  have lanes := only.setting (a := O.laneCount k.val) (by simp [linkSettings])
  have equalisation := only.setting (a := O.txEqualisation k.val) (by simp [linkSettings])
  refine ⟨s.linkState_setLink k 2, ?_⟩
  rw [← lanes, ← equalisation, State.setLink_eq, if_pos rfl]
  generalize s.enterLink k 2 = t
  unfold State.train
  dsimp only
  constructor
  · exact (congrArg Link.two (lane_put_same _ _ _)).trans (congrArg Link.two (lane_put_same _ _ _))
  · exact (congrArg Link.txEq (lane_put_same _ _ _)).trans (congrArg Link.txEq (lane_put_same _ _ _))

theorem State.linkOf_setLink_disabled (s : State) (k : Fin 4) : (s.setLink k 0).linkOf k = (s.linkOf k).sleep (s.obj (O.lanesTrained k.val)) := by
  rw [← (s.enterLink_only k 0).setting (a := O.lanesTrained k.val) (by simp [linkSettings]), ← State.linkOf_of_link (s.link_enterLink k 0) k, State.setLink_eq]
  exact lane_put_same _ _ _

theorem State.locks_setLink_idle (s : State) (k : Fin 4) : ((s.setLink k 8).linkOf k).lock0 = false ∧ ((s.setLink k 8).linkOf k).lock1 = false := by
  rw [State.setLink_eq]
  have same : ∀ (t : State) f, (t.modLink k f).linkOf k = f (t.linkOf k) := fun t f => lane_put_same _ _ _
  rw [if_neg (by decide), if_pos rfl, same]
  exact ⟨rfl, rfl⟩

/-! ### A device alone, and a link that goes Down -/

/-- `t` leaves the engines, memory, link `k` and every object but those of the fabric's membership and the count of lost events. -/
structure Announced (k : Fin 4) (s t : State) : Prop where
  eng : t.eng = s.eng
  mem : t.mem = s.mem
  link : t.linkOf k = s.linkOf k
  obj : ∀ a, a ∉ [O.eventsLost, O.fabricState, O.fabricAddress, O.originAddress, O.memberCount] → t.obj a = s.obj a

theorem Announced.refl (k : Fin 4) (s : State) : Announced k s s := ⟨rfl, rfl, rfl, fun _ _ => rfl⟩

theorem Announced.trans {k : Fin 4} {s t u : State} (h : Announced k s t) (h' : Announced k t u) : Announced k s u :=
  ⟨h'.eng.trans h.eng, h'.mem.trans h.mem, h'.link.trans h.link, fun a ha => (h'.obj a ha).trans (h.obj a ha)⟩

theorem linkState_not_membership (k : Fin 4) : O.linkState k.val ∉ [O.eventsLost, O.fabricState, O.fabricAddress, O.originAddress, O.memberCount] := by
  decide +revert

theorem Announced.linkState {k : Fin 4} {s t : State} (h : Announced k s t) (j : Fin 4) : t.linkState j = s.linkState j :=
  h.obj _ (linkState_not_membership j)

theorem Announced.quiet {k : Fin 4} {s t : State} (h : Announced k s t) : LinkQuiet k s t := ⟨h.eng, h.mem, fun j _ => h.linkState j⟩

theorem Announced.setting {k : Fin 4} {s t : State} (h : Announced k s t) {a : Nat} (setting : a ∈ linkSettings k) : t.obj a = s.obj a :=
  h.obj a (linkSettings_apart k a setting).2.2

theorem State.event_announced (s : State) (k : Fin 4) (code data : Nat) : Announced k s (s.event code data) :=
  ⟨s.event_eng _ _, s.event_mem _ _, State.linkOf_of_link (s.event_link _ _) k, fun _ other => s.obj_event _ _ (fun lost => other (lost ▸ List.mem_cons_self))⟩

theorem State.checkAlone_announced (s : State) (k : Fin 4) : Announced k s s.checkAlone := by
  unfold State.checkAlone
  split
  · obtain ⟨-, mem, eng⟩ := s.setObjs_leaves [(O.fabricState, 0), (O.fabricAddress, 0xFFFF), (O.originAddress, 0xFFFF), (O.memberCount, 1)]
    exact ⟨eng, mem, State.linkOf_of_link (s.setObjs_link _) k, fun a other => s.obj_setObjs_other (fun named => other (List.mem_cons_of_mem _ named))⟩
  · exact .refl k s

theorem State.checkAlone_link (s : State) : s.checkAlone.link = s.link := by
  unfold State.checkAlone
  split
  · exact s.setObjs_link _
  · rfl

theorem State.noteLost_announced (s : State) (k : Fin 4) (a b : Nat × Nat) (f : Nat) : Announced k s (s.noteLost a b f) := by
  obtain ⟨n, same, -⟩ := s.noteLost_eq a b f
  rw [same]
  exact ⟨rfl, rfl, rfl, fun _ _ => rfl⟩

/-- What is flooded goes on Up and Framing links alone. -/
theorem State.flood_announced {s : State} {k : Fin 4} (down : s.linkState k = 1) (src ty : Nat) (b : List Byte) (except : Option (Fin 4)) :
    Announced k s (s.flood src ty b except) := by
  obtain ⟨l, same⟩ := s.flood_eq src ty b except
  have notSent : k ∉ s.floodPorts except := by simp [State.floodPorts, down]
  refine ⟨by rw [same], by rw [same], ?_, fun a _ => by rw [same]; rfl⟩
  have sent := State.linkOf_foldl_sendOn { s.mkMsg 0xFFF 0 ty b with src := src } (s.floodPorts_nodup except) s k
  rw [if_neg notSent] at sent
  exact sent

/-- What a link that has gone Down tells the fabric: LINK_DOWN flooded, the loss noted, event 0x0905 if its runs have no plan, and the end of the
membership of a device that is now alone. -/
def State.announceDown (s : State) (k : Fin 4) (b : Nat × Nat) (runs : Nat) (unplanned : Bool) : State :=
  let f := s.nextFlood
  let a := (s.ownAddr, k.val)
  let bytes := leBytes 2 a.1 ++ leBytes 1 a.2 ++ leBytes 2 b.1 ++ leBytes 1 b.2 ++ leBytes 6 s.tick ++ leBytes 2 f.1
  let t := ((f.2.noteFlood f.2.floodAddr f.1).flood f.2.floodAddr 3 bytes none).noteLost a b s.tick
  (if unplanned then t.event 0x0905 runs else t).checkAlone

theorem State.announceDown_announced {s : State} {k : Fin 4} (down : s.linkState k = 1) (b : Nat × Nat) (runs : Nat) (unplanned : Bool) :
    Announced k s (s.announceDown k b runs unplanned) := by
  unfold State.announceDown
  extract_lets f a bytes t
  have noted : Announced k s (f.2.noteFlood f.2.floodAddr f.1) := ⟨rfl, rfl, rfl, fun _ _ => rfl⟩
  have lost : Announced k s t := (noted.trans (State.flood_announced (by rw [noted.linkState]; exact down) _ _ _ _)).trans (State.noteLost_announced _ _ _ _ _)
  refine Announced.trans ?_ (State.checkAlone_announced _ k)
  split
  · exact lost.trans (State.event_announced _ _ _ _)
  · exact lost

/-- The link itself on its way Down: its state, and what of the link stays. -/
def State.emptyDown (s : State) (k : Fin 4) : State :=
  ((s.setLink k 1).modLink k (fun x => { x.emptied with rx := s.keptRx k })).setObjs [(O.lanesTrained k.val, 0), (O.linkRunEligible k.val, 0)]

theorem State.linkDown_eq (s : State) (k : Fin 4) : ∃ b runs unplanned, s.linkDown k = (s.emptyDown k).announceDown k b runs unplanned :=
  ⟨_, _, _, rfl⟩

theorem linkRetrains_ne_lanesTrained (k : Fin 4) : O.linkRetrains k.val ≠ O.lanesTrained k.val := by decide +revert

theorem State.emptyDown_empties (s : State) (k : Fin 4) : let t := s.emptyDown k
    LinkApart k s t ∧ t.linkState k = 1 ∧ t.linkOf k = { (s.linkOf k).emptied with rx := s.keptRx k } ∧ t.obj (O.lanesTrained k.val) = 0 ∧
    t.obj (O.linkRetrains k.val) = s.obj (O.linkRetrains k.val) := by
  have emptied : LinkApart k s ((s.setLink k 1).modLink k (fun x => { x.emptied with rx := s.keptRx k })) :=
    ((s.setLink_only k 1).trans (State.modLink_only _ k _)).apart
  have link : ((s.setLink k 1).modLink k (fun x => { x.emptied with rx := s.keptRx k })).linkOf k = { (s.linkOf k).emptied with rx := s.keptRx k } := by
    rw [State.linkOf_modLink, if_pos rfl, s.linkOf_setLink_still k (by decide) (by decide) (by decide)]
  have down : ((s.setLink k 1).modLink k (fun x => { x.emptied with rx := s.keptRx k })).linkState k = 1 := s.linkState_setLink k 1
  have retrains : ((s.setLink k 1).modLink k (fun x => { x.emptied with rx := s.keptRx k })).obj (O.linkRetrains k.val) = s.obj (O.linkRetrains k.val) :=
    (s.setLink_only k 1).setting (by simp [linkSettings])
  generalize modified : (s.setLink k 1).modLink k (fun x => { x.emptied with rx := s.keptRx k }) = u at emptied link down retrains
  have written : s.emptyDown k = (u.setObj (O.lanesTrained k.val) 0).setObj (O.linkRunEligible k.val) 0 := by rw [← modified]; rfl
  have apart : ∀ j : Fin 4, O.linkState j.val ≠ O.linkRunEligible k.val := fun j => linkState_ne_linkRunEligible j k
  have own : O.lanesTrained k.val ∈ linkSettings k := by simp [linkSettings]
  have eligible := fun a ha => (linkSettings_apart k a ha).2.1
  dsimp only
  rw [written]
  refine ⟨(emptied.trans (u.setSetting_apart 0 own)).trans (State.setObj_apart _ k 0 apart), ?_, link, ?_, ?_⟩
  · exact (State.obj_setObj_ne _ _ (apart k)).trans ((u.linkState_setSetting 0 own k).trans down)
  · exact (State.obj_setObj_ne _ _ (eligible _ own)).trans (State.obj_setObj_self _ _ _)
  · refine (State.obj_setObj_ne _ _ (eligible _ (by simp [linkSettings]))).trans ((State.obj_setObj_ne _ _ (linkRetrains_ne_lanesTrained k)).trans retrains)

/-- A link that goes Down is emptied but for its run tables, its line, the settings of its training and the frames kept (R540, R564, R572). -/
theorem State.linkDown_empties (s : State) (k : Fin 4) : let t := s.linkDown k
    LinkQuiet k s t ∧ t.linkState k = 1 ∧ t.linkOf k = { (s.linkOf k).emptied with rx := s.keptRx k } ∧ t.obj (O.lanesTrained k.val) = 0 ∧
    t.obj (O.linkRetrains k.val) = s.obj (O.linkRetrains k.val) := by
  obtain ⟨b, runs, unplanned, same⟩ := s.linkDown_eq k
  obtain ⟨apart, down, link, trained, retrains⟩ := s.emptyDown_empties k
  have announced := State.announceDown_announced down b runs unplanned
  dsimp only
  rw [same, announced.linkState, announced.link, announced.setting (by simp [linkSettings]), announced.setting (by simp [linkSettings])]
  exact ⟨apart.toLinkQuiet.trans announced.quiet, down, link, trained, retrains⟩

/-- The frames kept depend on the link's state, on the state before its shutdown and on what it has received. -/
theorem State.keptRx_of {s t : State} {k : Fin 4} (state : t.linkState k = s.linkState k) (was : (t.linkOf k).was = (s.linkOf k).was)
    (rx : (t.linkOf k).rx = (s.linkOf k).rx) : t.keptRx k = s.keptRx k := by
  have carry : t.carryState k = s.carryState k := by
    unfold State.carryState
    rw [state, was]
  have readable : t.rxReadable k = s.rxReadable k := by
    unfold State.rxReadable State.carries
    rw [carry, state]
  unfold State.keptRx
  rw [readable, rx]

end Sys2Proof.Machine
end

section
/-! The commands of the link states (R532 to R547, R569, R580). -/
namespace Sys2Proof.Machine
open Sys2Proof

section
variable {s : State} {k : Fin 4}

/-! ### LinkEnable -/

/-- What a write of LinkEnable does once it is performed. -/
def State.enableLink (s : State) (k : Fin 4) (words : List (BitVec 32)) : State :=
  let s1 := s.setObj (O.linkEnable k.val) (wordsNat words)
  let st := s1.linkState k
  if wordsNat words = 1 then (if st = 0 then s1.setLink k 2 else if st = 9 then s1.setLink k 10 else s1)
  else if st = 0 ∨ st = 9 then s1
  else if st = 10 then s1.setLink k 9
  else (s1.modLink k (fun l => { l with was := st })).setLink k 9

theorem execLinkEnable_eq (src : Src) : exec (.linkEnable src k) s =
    .next (s.writeReq src.key src.link.val (O.linkEnable k.val) [1] {} (fun s => s.enableLink k [1])) := rfl

theorem execLinkDisable_eq (src : Src) : exec (.linkDisable src k) s =
    .next (s.writeReq src.key src.link.val (O.linkEnable k.val) [0] {} (fun s => s.enableLink k [0])) := rfl

theorem linkEnable_setting (k : Fin 4) : O.linkEnable k.val ∈ linkSettings k := by simp [linkSettings]

theorem trainingSettings_ne_linkEnable (k : Fin 4) : O.laneCount k.val ≠ O.linkEnable k.val ∧ O.txEqualisation k.val ≠ O.linkEnable k.val := by
  decide +revert

/-- Enable takes a Disabled link to Training and a closing one to Restart. -/
theorem State.enableLink_on (s : State) (k : Fin 4) : let u := s.enableLink k [1]
    LinkApart k s u ∧ u.obj (O.linkEnable k.val) = 1 ∧
    (s.linkState k = 0 → u.linkState k = 2 ∧ (u.linkOf k).two = decide (s.obj (O.laneCount k.val) = 2) ∧ (u.linkOf k).txEq = s.obj (O.txEqualisation k.val)) ∧
    (s.linkState k = 9 → u.linkState k = 10 ∧ u.linkOf k = s.linkOf k) ∧
    (s.linkState k ≠ 0 → s.linkState k ≠ 9 → u = s.setObj (O.linkEnable k.val) 1) := by
  have enabled : LinkApart k s (s.setObj (O.linkEnable k.val) 1) := s.setSetting_apart 1 (linkEnable_setting k)
  have state := s.linkState_setSetting 1 (linkEnable_setting k) k
  have lanes : (s.setObj (O.linkEnable k.val) 1).obj (O.laneCount k.val) = s.obj (O.laneCount k.val) := s.obj_setObj_ne 1 (trainingSettings_ne_linkEnable k).1
  have equalisation : (s.setObj (O.linkEnable k.val) 1).obj (O.txEqualisation k.val) = s.obj (O.txEqualisation k.val) :=
    s.obj_setObj_ne 1 (trainingSettings_ne_linkEnable k).2
  have on : (s.setObj (O.linkEnable k.val) 1).obj (O.linkEnable k.val) = 1 := s.obj_setObj_self _ 1
  have link : (s.setObj (O.linkEnable k.val) 1).linkOf k = s.linkOf k := rfl
  have same : s.enableLink k [1] = let s1 := s.setObj (O.linkEnable k.val) 1
      if s1.linkState k = 0 then s1.setLink k 2 else if s1.linkState k = 9 then s1.setLink k 10 else s1 := rfl
  dsimp only at same ⊢
  rw [state] at same
  rw [same]
  generalize s.setObj (O.linkEnable k.val) 1 = s1 at *
  have set := fun v => s1.setLink_only k v
  split
  · next disabled =>
    obtain ⟨training, two, eq⟩ := s1.setLink_trains k
    refine ⟨enabled.trans (set 2).apart, ((set 2).setting (linkEnable_setting k)).trans on, fun _ => ⟨training, two.trans (by rw [lanes]), eq.trans equalisation⟩,
      fun closing => absurd (disabled.symm.trans closing) (by decide), fun notDisabled => absurd disabled notDisabled⟩
  · next notDisabled =>
    split
    · next closing =>
      exact ⟨enabled.trans (set 10).apart, ((set 10).setting (linkEnable_setting k)).trans on, fun disabled => absurd disabled notDisabled,
        fun _ => ⟨s1.linkState_setLink k 10, (s1.linkOf_setLink_still k (by decide) (by decide) (by decide)).trans link⟩, fun _ notClosing => absurd closing notClosing⟩
    · next notClosing =>
      exact ⟨enabled, on, fun disabled => absurd disabled notDisabled, fun closing => absurd closing notClosing, fun _ _ => rfl⟩

/-- Disable closes a link that is not Disabled; its state before says what it carries meanwhile. -/
theorem State.enableLink_off (s : State) (k : Fin 4) : let u := s.enableLink k [0]
    LinkApart k s u ∧ u.obj (O.linkEnable k.val) = 0 ∧
    u.linkOf k = (if s.linkState k = 0 ∨ s.linkState k = 9 ∨ s.linkState k = 10 then s.linkOf k else { s.linkOf k with was := s.linkState k }) ∧
    u.linkState k = if s.linkState k = 0 then 0 else 9 := by
  have enabled : LinkApart k s (s.setObj (O.linkEnable k.val) 0) := s.setSetting_apart 0 (linkEnable_setting k)
  have state := s.linkState_setSetting 0 (linkEnable_setting k) k
  have off : (s.setObj (O.linkEnable k.val) 0).obj (O.linkEnable k.val) = 0 := s.obj_setObj_self _ 0
  have link : (s.setObj (O.linkEnable k.val) 0).linkOf k = s.linkOf k := rfl
  have same : s.enableLink k [0] = let s1 := s.setObj (O.linkEnable k.val) 0
      if s1.linkState k = 0 ∨ s1.linkState k = 9 then s1 else if s1.linkState k = 10 then s1.setLink k 9
      else (s1.modLink k (fun l => { l with was := s1.linkState k })).setLink k 9 := rfl
  dsimp only at same ⊢
  rw [state] at same
  rw [same]
  generalize s.setObj (O.linkEnable k.val) 0 = s1 at *
  have still : ∀ t : State, (t.setLink k 9).linkOf k = t.linkOf k := fun t => t.linkOf_setLink_still k (by decide) (by decide) (by decide)
  split
  · next closed =>
    refine ⟨enabled, off, ?_, ?_⟩
    · rw [if_pos (closed.imp_right .inl), link]
    · rw [state]
      split <;> omega
  · next opened =>
    obtain ⟨notDisabled, notClosing⟩ := not_or.1 opened
    split
    · next restart =>
      refine ⟨enabled.trans (s1.setLink_only k 9).apart, ((s1.setLink_only k 9).setting (linkEnable_setting k)).trans off, ?_, ?_⟩
      · rw [if_pos (.inr (.inr restart)), still, link]
      · exact State.linkState_setLink _ k 9
    · next notRestart =>
      have only := (s1.modLink_only k (fun l => { l with was := s.linkState k })).trans (State.setLink_only _ k 9)
      refine ⟨enabled.trans only.apart, (only.setting (linkEnable_setting k)).trans off, ?_, ?_⟩
      · rw [if_neg (by simp [notDisabled, notClosing, notRestart]), still, State.linkOf_modLink, if_pos rfl, link]
      · exact State.linkState_setLink _ k 9

/-! ### The end of a shutdown, signal, SLEEP -/

theorem trainingSettings_ne_lanesTrained (k : Fin 4) : O.laneCount k.val ≠ O.lanesTrained k.val ∧ O.txEqualisation k.val ≠ O.lanesTrained k.val := by
  decide +revert

/-- A link whose shutdown has come to its end, before a restart that is queued. -/
def State.shutLink (s : State) (k : Fin 4) : State :=
  (((s.setLink k 0).modLink k (fun x => { x.emptied with rx := s.keptRx k })).setObj (O.lanesTrained k.val) 0).checkAlone

theorem execLinkShutdownComplete_ends (ends : s.linkState k = 9 ∨ s.linkState k = 10) :
    exec (.linkShutdownComplete k) s = .next (if s.linkState k = 10 then (s.shutLink k).setLink k 2 else s.shutLink k) := by
  change execLinkShutdownComplete k s = _
  exact congrArg Host.Outcome.next (if_pos ends)

theorem execLinkShutdownComplete_lost (down : s.linkState k = 1) (disabled : s.obj (O.linkEnable k.val) = 0) :
    exec (.linkShutdownComplete k) s = .next (s.setLink k 0) := by
  change execLinkShutdownComplete k s = _
  exact congrArg Host.Outcome.next ((if_neg (by omega)).trans (if_pos ⟨down, disabled⟩))

theorem execLinkShutdownComplete_none (notClosing : s.linkState k ≠ 9) (notRestart : s.linkState k ≠ 10)
    (notLost : ¬(s.linkState k = 1 ∧ s.obj (O.linkEnable k.val) = 0)) : exec (.linkShutdownComplete k) s = .next s := by
  change execLinkShutdownComplete k s = _
  exact congrArg Host.Outcome.next ((if_neg (not_or.2 ⟨notClosing, notRestart⟩)).trans (if_neg notLost))

theorem State.shutLink_shuts (s : State) (k : Fin 4) : let t := s.shutLink k
    LinkApart k s t ∧ t.linkState k = 0 ∧ t.linkOf k = { ((s.linkOf k).sleep (s.obj (O.lanesTrained k.val))).emptied with rx := s.keptRx k } ∧
    t.obj (O.lanesTrained k.val) = 0 ∧ t.obj (O.laneCount k.val) = s.obj (O.laneCount k.val) ∧
    t.obj (O.txEqualisation k.val) = s.obj (O.txEqualisation k.val) := by
  have own : O.lanesTrained k.val ∈ linkSettings k := by simp [linkSettings]
  have only := (s.setLink_only k 0).trans (State.modLink_only _ k (fun x => { x.emptied with rx := s.keptRx k }))
  have down : ((s.setLink k 0).modLink k (fun x => { x.emptied with rx := s.keptRx k })).linkState k = 0 := s.linkState_setLink k 0
  have link : ((s.setLink k 0).modLink k (fun x => { x.emptied with rx := s.keptRx k })).linkOf k =
      { ((s.linkOf k).sleep (s.obj (O.lanesTrained k.val))).emptied with rx := s.keptRx k } := by
    rw [State.linkOf_modLink, if_pos rfl, State.linkOf_setLink_disabled]
  unfold State.shutLink
  generalize (s.setLink k 0).modLink k (fun x => { x.emptied with rx := s.keptRx k }) = u at only down link
  have alone := State.checkAlone_announced (u.setObj (O.lanesTrained k.val) 0) k
  have lanes : (u.setObj (O.lanesTrained k.val) 0).obj (O.laneCount k.val) = s.obj (O.laneCount k.val) :=
    (u.obj_setObj_ne 0 (trainingSettings_ne_lanesTrained k).1).trans (only.setting (by simp [linkSettings]))
  have equalisation : (u.setObj (O.lanesTrained k.val) 0).obj (O.txEqualisation k.val) = s.obj (O.txEqualisation k.val) :=
    (u.obj_setObj_ne 0 (trainingSettings_ne_lanesTrained k).2).trans (only.setting (by simp [linkSettings]))
  refine ⟨(only.apart.trans (u.setSetting_apart 0 own)).trans ⟨alone.quiet, fun j _ => State.linkOf_of_link (State.checkAlone_link _) j⟩, ?_, ?_, ?_, ?_, ?_⟩
  · rw [alone.linkState, u.linkState_setSetting 0 own, down]
  · rw [alone.link, ← link]
    rfl
  · rw [alone.setting own, State.obj_setObj_self]
  · rw [alone.setting (by simp [linkSettings]), lanes]
  · rw [alone.setting (by simp [linkSettings]), equalisation]

theorem execLinkSignalDetect_eq : exec (.linkSignalDetect k) s = .next (if (s.linkState k = 1 ∨ s.linkState k = 8) ∧
    s.obj (O.linkEnable k.val) = 1 ∧ s.obj (O.pllState 1) = 2 ∧ s.obj O.powerState ≤ 1 then s.setLink k 2 else s) := by
  change execLinkSignalDetect k s = _
  simp [execLinkSignalDetect, State.serdesRuns]

theorem execSleepReceived_linked (framing : 3 ≤ s.linkState k) (idle : s.linkState k ≤ 7) : exec (.sleepReceived k) s = .next (s.setLink k 8) := by
  change execSleepReceived k s = _
  simp [execSleepReceived, State.linked, framing, idle]

theorem execSleepReceived_none (other : s.linkState k < 3 ∨ 7 < s.linkState k) : exec (.sleepReceived k) s = .next s := by
  change execSleepReceived k s = _
  have unlinked : s.linked k = false := by simp [State.linked]; omega
  simp [execSleepReceived, unlinked]

/-! ### Block lock -/

/-- A lane's block lock. -/
def Link.lock (l : Link) (lane : Fin 2) (on : Bool) : Link := if lane = 0 then { l with lock0 := on } else { l with lock1 := on }

/-- The lane map found. -/
def foundMap (old : Nat) (lane : Fin 2) (swapped inverted : Bool) : Nat :=
  bitIf swapped 0 + bitIf (if lane = 0 then inverted else old.testBit 1) 1 + bitIf (if lane = 1 then inverted else old.testBit 2) 2

/-- A lane locked, and in Training the lane map found. -/
def State.lockLane (s : State) (k : Fin 4) (lane : Fin 2) (swapped inverted : Bool) : State :=
  let s1 := s.modLink k (fun l => l.lock lane true)
  let new := foundMap (s.obj (O.laneMap k.val)) lane swapped inverted
  if s.linkState k = 2 ∧ new ≠ s.obj (O.laneMap k.val) then (s1.setObj (O.laneMap k.val) new).linkEvent k 2 new else s1

theorem execLaneBlockLock_idle {lane : Fin 2} {swapped inverted : Bool} (idle : s.linkState k < 2 ∨ s.linkState k = 8) :
    exec (.laneBlockLock k lane swapped inverted) s = .next s := by
  change execLaneBlockLock k lane swapped inverted s = _
  exact congrArg Host.Outcome.next (if_pos idle)

theorem execLaneBlockLock_locks {lane : Fin 2} {swapped inverted : Bool} (some : 2 ≤ s.linkState k) (awake : s.linkState k ≠ 8) :
    ∃ ready, exec (.laneBlockLock k lane swapped inverted) s =
      .next (if s.linkState k = 2 ∧ ready = true then (s.lockLane k lane swapped inverted).train k true else s.lockLane k lane swapped inverted) := by
  let l := (s.lockLane k lane swapped inverted).linkOf k
  refine ⟨l.lock0 && (!l.two || l.lock1), ?_⟩
  change execLaneBlockLock k lane swapped inverted s = _
  exact congrArg Host.Outcome.next (if_neg (by omega))

theorem State.linkOf_train (s : State) (k : Fin 4) (ready : Bool) : ((s.train k ready).linkOf k).lock0 = (s.linkOf k).lock0 ∧
    ((s.train k ready).linkOf k).lock1 = (s.linkOf k).lock1 ∧ ((s.train k ready).linkOf k).ctl = (s.linkOf k).ctl :=
  ⟨(congrArg Link.lock0 (lane_put_same _ _ _)).trans rfl, (congrArg Link.lock1 (lane_put_same _ _ _)).trans rfl,
    (congrArg Link.ctl (lane_put_same _ _ _)).trans rfl⟩

theorem Link.lock_on (l : Link) (lane : Fin 2) : (l.lock lane true).lock0 = (l.lock0 || decide (lane = 0)) ∧
    (l.lock lane true).lock1 = (l.lock1 || decide (lane = 1)) := by
  match lane with
  | 0 => simp [Link.lock]
  | 1 => simp [Link.lock]

theorem Link.lock_keeps (l : Link) (lane : Fin 2) (on : Bool) : (l.lock lane on).was = l.was ∧ (l.lock lane on).rx = l.rx := by
  unfold Link.lock
  split
  · exact ⟨rfl, rfl⟩
  · exact ⟨rfl, rfl⟩

theorem Link.emptied_lock (l : Link) (lane : Fin 2) (on : Bool) : (l.lock lane on).emptied = l.emptied := by
  unfold Link.lock
  split <;> rfl

theorem State.lockLane_locks (s : State) (k : Fin 4) (lane : Fin 2) (swapped inverted : Bool) : let t := s.lockLane k lane swapped inverted
    LinkApart k s t ∧ t.linkState k = s.linkState k ∧ t.linkOf k = (s.linkOf k).lock lane true ∧
    t.obj (O.laneMap k.val) = if s.linkState k = 2 then foundMap (s.obj (O.laneMap k.val)) lane swapped inverted else s.obj (O.laneMap k.val) := by
  have own : O.laneMap k.val ∈ linkSettings k := by simp [linkSettings]
  have locked : LinkApart k s (s.modLink k (fun l => l.lock lane true)) := (s.modLink_only k _).apart
  have link : (s.modLink k (fun l => l.lock lane true)).linkOf k = (s.linkOf k).lock lane true := by rw [State.linkOf_modLink, if_pos rfl]
  unfold State.lockLane
  dsimp only
  split
  · next found =>
    have reported := fun (u : State) code data => u.event_announced k code data
    refine ⟨(locked.trans (State.setSetting_apart _ _ own)).trans (State.event_only _ k _ _).apart, ?_, ?_, ?_⟩
    · exact ((reported _ _ _).linkState k).trans (State.linkState_setSetting _ _ own k)
    · exact (reported _ _ _).link.trans link
    · rw [if_pos found.1]
      exact ((reported _ _ _).setting own).trans (State.obj_setObj_self _ _ _)
  · next kept =>
    refine ⟨locked, rfl, link, ?_⟩
    split
    · next training => exact (Decidable.not_not.1 (fun other => kept ⟨training, other⟩)).symm
    · rfl

theorem execLaneLockLoss_down {lane : Fin 2} (framing : 3 ≤ s.linkState k) (awake : s.linkState k ≠ 8) (used : lane = 0 ∨ s.obj (O.lanesTrained k.val) = 2) :
    exec (.laneLockLoss k lane) s = .next ((s.modLink k (fun l => l.lock lane false)).linkDown k) := by
  change execLaneLockLoss k lane s = _
  have inUse : s.laneUsed k lane = true := by simpa [State.laneUsed] using used
  exact congrArg Host.Outcome.next (if_pos ⟨framing, awake, inUse⟩)

theorem execLaneLockLoss_stays {lane : Fin 2} (stays : s.linkState k < 3 ∨ s.linkState k = 8 ∨ (lane = 1 ∧ s.obj (O.lanesTrained k.val) ≠ 2)) :
    exec (.laneLockLoss k lane) s = .next (s.modLink k (fun l => if lane = 0 then { l with lock0 := false } else { l with lock1 := false })) := by
  change execLaneLockLoss k lane s = _
  refine congrArg Host.Outcome.next (if_neg ?_)
  rintro ⟨framing, awake, inUse⟩
  rcases stays with early | asleep | ⟨second, one⟩
  · omega
  · exact awake asleep
  · simp [State.laneUsed, second, one] at inUse

/-! ### The end of Training, and an error window -/

/-- The lanes that training ends with. -/
def trainedLanes (l : Link) (two : Bool) : Nat := if l.two && two then 2 else 1

/-- A link that has trained, before its HELLO. -/
def State.trainedLink (s : State) (k : Fin 4) (lanes : Nat) : State :=
  let s1 := ((s.setObj (O.lanesTrained k.val) lanes).modLink k (fun l => { l with good := 0 })).setLink k 3
  if s1.obj O.fabricState = 0 then s1.setObj O.fabricState 1 else s1

theorem execTrainingComplete_ends {two : Bool} (training : s.linkState k = 2) (first : (s.linkOf k).lock0 = true)
    (second : trainedLanes (s.linkOf k) two = 1 ∨ (s.linkOf k).lock1 = true) :
    ∃ again, exec (.trainingComplete k two) s =
      .next ((((if again = true then s.train k true else s) : State).trainedLink k (trainedLanes (s.linkOf k) two)).sendHello k) := by
  refine ⟨(s.linkOf k).two && decide (trainedLanes (s.linkOf k) two = 1) && !(s.linkOf k).lock1, ?_⟩
  change execTrainingComplete k two s = _
  refine congrArg Host.Outcome.next (if_pos ?_)
  have ready : (decide (trainedLanes (s.linkOf k) two = 1) || (s.linkOf k).lock1) = true := by simpa using second
  change (decide (s.linkState k = 2) && (s.linkOf k).lock0 && (decide (trainedLanes (s.linkOf k) two = 1) || (s.linkOf k).lock1)) = true
  rw [decide_eq_true training, first, ready]
  rfl

theorem execTrainingComplete_none {two : Bool} (unready : s.linkState k ≠ 2 ∨ (s.linkOf k).lock0 = false ∨
    (trainedLanes (s.linkOf k) two = 2 ∧ (s.linkOf k).lock1 = false)) : exec (.trainingComplete k two) s = .next s := by
  change execTrainingComplete k two s = _
  refine congrArg Host.Outcome.next (if_neg ?_)
  change ¬((decide (s.linkState k = 2) && (s.linkOf k).lock0 && (decide (trainedLanes (s.linkOf k) two = 1) || (s.linkOf k).lock1)) = true)
  rcases unready with other | unlocked | ⟨both, unlocked⟩
  · simp [other]
  · simp [unlocked]
  · simp [both, unlocked]

theorem State.trainedLink_frames (s : State) (k : Fin 4) (lanes : Nat) : let t := s.trainedLink k lanes
    LinkApart k s t ∧ t.linkState k = 3 ∧ t.obj (O.lanesTrained k.val) = lanes ∧ (t.linkOf k).ctl = (s.linkOf k).ctl := by
  have own : O.lanesTrained k.val ∈ linkSettings k := by simp [linkSettings]
  have only := ((s.setObj (O.lanesTrained k.val) lanes).modLink_only k (fun l => { l with good := 0 })).trans (State.setLink_only _ k 3)
  have apart := (s.setSetting_apart lanes own).trans only.apart
  have trained := (only.setting own).trans (s.obj_setObj_self _ lanes)
  have link : ((((s.setObj (O.lanesTrained k.val) lanes).modLink k (fun l => { l with good := 0 })).setLink k 3).linkOf k).ctl = (s.linkOf k).ctl := by
    rw [State.linkOf_setLink_still _ k (by decide) (by decide) (by decide), State.linkOf_modLink, if_pos rfl]
    rfl
  have state := State.linkState_setLink ((s.setObj (O.lanesTrained k.val) lanes).modLink k (fun l => { l with good := 0 })) k 3
  unfold State.trainedLink
  generalize ((s.setObj (O.lanesTrained k.val) lanes).modLink k (fun l => { l with good := 0 })).setLink k 3 = u at apart trained link state
  have member := fun j : Fin 4 => linkState_not_membership j
  have notState : ∀ j : Fin 4, O.linkState j.val ≠ O.fabricState := fun j same => member j (same ▸ by simp)
  have notTrained : O.lanesTrained k.val ≠ O.fabricState := fun same => (linkSettings_apart k _ own).2.2 (same ▸ by simp)
  dsimp only
  split
  · exact ⟨apart.trans (u.setObj_apart k 1 notState), (u.obj_setObj_ne 1 (notState k)).trans state, (u.obj_setObj_ne 1 notTrained).trans trained, link⟩
  · exact ⟨apart, state, trained, link⟩

theorem execTrainingTimeout_down (training : s.linkState k = 2) :
    exec (.trainingTimeout k) s = .next ((s.count (O.linkRetrains k.val) 32 1).linkDown k) := by
  change execTrainingTimeout k s = _
  exact congrArg Host.Outcome.next (if_pos training)

theorem execTrainingTimeout_none (other : s.linkState k ≠ 2) : exec (.trainingTimeout k) s = .next s := by
  change execTrainingTimeout k s = _
  exact congrArg Host.Outcome.next (if_neg other)

theorem powerState_ne_windowErrors (k : Fin 4) : O.powerState ≠ O.windowErrors k.val := by decide +revert

/-- The window of a link begins again. -/
def State.newWindow (s : State) (k : Fin 4) : State := (s.setObj (O.windowErrors k.val) 0).modLink k (fun l => { l with cut := false })

theorem execErrorWindowEnd_held (held : s.tickHeld = true) : exec (.errorWindowEnd k) s = .next s := by
  change execErrorWindowEnd k s = _
  simp [execErrorWindowEnd, held]

theorem execErrorWindowEnd_ends (runs : s.tickHeld = false) : exec (.errorWindowEnd k) s =
    .next (if s.obj (O.windowErrors k.val) = 0 ∧ (s.linkOf k).cut = false ∧ s.linkState k = 5 then (s.newWindow k).linkUp k else s.newWindow k) := by
  change execErrorWindowEnd k s = _
  simp [execErrorWindowEnd, runs, State.newWindow, and_assoc]

theorem State.newWindow_begins (s : State) (k : Fin 4) : let t := s.newWindow k
    LinkApart k s t ∧ t.obj (O.windowErrors k.val) = 0 ∧ t.linkOf k = { s.linkOf k with cut := false } ∧ t.linkState k = s.linkState k ∧
    t.obj O.powerState = s.obj O.powerState := by
  have own : O.windowErrors k.val ∈ linkSettings k := by simp [linkSettings]
  refine ⟨(s.setSetting_apart 0 own).trans (State.modLink_only _ k _).apart, s.obj_setObj_self _ 0, ?_, s.linkState_setSetting 0 own k, s.obj_setObj_ne 0 (powerState_ne_windowErrors k)⟩
  unfold State.newWindow
  rw [State.linkOf_modLink, if_pos rfl]
  rfl

/-- A link that may carry runs again is Up, or in Coast in Fast idle. -/
theorem State.linkUp_ups (s : State) (k : Fin 4) : let t := s.linkUp k
    LinkOnly k s t ∧ t.linkOf k = s.linkOf k ∧ t.linkState k = if s.obj O.powerState = 1 then 7 else 4 := by
  unfold State.linkUp
  refine ⟨s.setLink_only k _, ?_, s.linkState_setLink k _⟩
  split
  · exact s.linkOf_setLink_still k (by decide) (by decide) (by decide)
  · exact s.linkOf_setLink_still k (by decide) (by decide) (by decide)

end

end Sys2Proof.Machine
end

namespace Sys2Proof.Claims
open Sys2Proof Sys2Proof.Machine

/-- Settles O40. That SLEEP acts from Framing to Fast idle alone and what a loss of lock in a shutdown leads to (log entry 114), and that a window
ends at its command whatever TickCount is (log entry 143), are the model's choices. -/
theorem linkStatesFollowTheirEvents : Obligations.LinkStatesFollowTheirEvents := by
  unfold Obligations.LinkStatesFollowTheirEvents
  intro s src k lane swapped inverted two st l quiet others down trains lanes map
  have trainedTo : lanes = trainedLanes l two := by simp [lanes, trainedLanes]
  refine ⟨fun passes => ?enable, fun passes => ?disable, fun ends => ?ends, fun lost off => ?lost, fun notClosing notRestart notLost =>
    execLinkShutdownComplete_none notClosing notRestart notLost, ⟨fun ready => ?signal, fun unready => ?noSignal⟩, fun some awake => ?lock,
    execLaneBlockLock_idle, fun framing awake used => ?lockLoss, execLaneLockLoss_stays, fun training first second => ?trained,
    fun unready => execTrainingComplete_none (trainedTo ▸ unready), fun training => ?timeout, execTrainingTimeout_none, execErrorWindowEnd_held, fun runs => ?window,
    fun framing idle => ?sleep, execSleepReceived_none⟩
  case enable =>
    obtain ⟨apart, on, trained, restart, stays⟩ := s.enableLink_on k
    exact answers_of_passes (execLinkEnable_eq src) passes ⟨apart.spelled, on, trained, restart, stays⟩
  case disable =>
    obtain ⟨apart, off, link, state⟩ := s.enableLink_off k
    exact answers_of_passes (execLinkDisable_eq src) passes ⟨apart.spelled, off, link, state⟩
  case ends =>
    obtain ⟨apart, disabled, link, trained, count, equalisation⟩ := s.shutLink_shuts k
    refine ⟨_, execLinkShutdownComplete_ends ends, ?_⟩
    split
    · next restart =>
      obtain ⟨training, both, eq⟩ := (s.shutLink k).setLink_trains k
      have only := (s.shutLink k).setLink_only k 2
      exact ⟨(apart.trans only.apart).spelled, (only.setting (by simp [linkSettings])).trans trained,
        fun closing => absurd (closing.symm.trans restart) (by decide), fun _ => ⟨training, both.trans (by rw [count]), eq.trans equalisation⟩⟩
    · next notRestart => exact ⟨apart.spelled, trained, fun _ => ⟨disabled, link⟩, fun restart => absurd restart notRestart⟩
  case lost =>
    exact ⟨_, execLinkShutdownComplete_lost lost off, (s.setLink_only k 0).apart.spelled, s.linkState_setLink k 0, s.linkOf_setLink_disabled k⟩
  case signal =>
    rw [execLinkSignalDetect_eq, if_pos ready]
    exact ⟨_, rfl, (s.setLink_only k 2).apart.spelled, s.setLink_trains k⟩
  case noSignal => rw [execLinkSignalDetect_eq, if_neg unready]
  case lock =>
    obtain ⟨ready, runs⟩ := execLaneBlockLock_locks (lane := lane) (swapped := swapped) (inverted := inverted) some awake
    obtain ⟨apart, state, link, found⟩ := s.lockLane_locks k lane swapped inverted
    obtain ⟨locks0, locks1⟩ := l.lock_on lane
    refine ⟨_, runs, ?_⟩
    split
    · obtain ⟨train0, train1, -⟩ := (s.lockLane k lane swapped inverted).linkOf_train k true
      exact ⟨(apart.trans (State.train_only _ k true).apart).spelled, state, train0.trans (link ▸ locks0), train1.trans (link ▸ locks1), found⟩
    · exact ⟨apart.spelled, state, link ▸ locks0, link ▸ locks1, found⟩
  case lockLoss =>
    obtain ⟨kept, state, link, trained, -⟩ := (s.modLink k (fun l => l.lock lane false)).linkDown_empties k
    have locked : (s.modLink k (fun l => l.lock lane false)).linkOf k = l.lock lane false := by rw [State.linkOf_modLink, if_pos rfl]
    obtain ⟨was, received⟩ := l.lock_keeps lane false
    have rx : (s.modLink k (fun l => l.lock lane false)).keptRx k = s.keptRx k :=
      State.keptRx_of rfl ((congrArg Link.was locked).trans was) ((congrArg Link.rx locked).trans received)
    refine ⟨_, execLaneLockLoss_down framing awake used, ((s.modLink_only k _).apart.toLinkQuiet.trans kept).spelled, state, ?_, trained⟩
    rw [link, locked, Link.emptied_lock, rx]
  case trained =>
    rw [trainedTo] at second ⊢
    obtain ⟨again, runs⟩ := execTrainingComplete_ends training first second
    have begun : let s0 := if again = true then s.train k true else s
        LinkApart k s s0 ∧ (s0.linkOf k).ctl = l.ctl := by
      dsimp only
      split
      · exact ⟨(s.train_only k true).apart, (s.linkOf_train k true).2.2⟩
      · exact ⟨.refl k s, rfl⟩
    obtain ⟨apart, ctl⟩ := begun
    generalize (if again = true then s.train k true else s) = s0 at runs apart ctl
    obtain ⟨framed, framing, trained, queue⟩ := s0.trainedLink_frames k (trainedLanes l two)
    let u := s0.trainedLink k (trainedLanes l two)
    refine ⟨_, u.mkMsg 0xFFF 0 1 (u.helloBytes k), runs, ((apart.trans framed).trans (State.sendOn_apart _ k _)).spelled, framing, trained, ?_, rfl⟩
    exact (congrArg Link.ctl ((State.linkOf_sendOn _ k _ k).trans (if_pos rfl))).trans (by rw [queue, ctl])
  case timeout =>
    have own : O.linkRetrains k.val ∈ linkSettings k := by simp [linkSettings]
    obtain ⟨kept, state, link, trained, retrains⟩ := (s.count (O.linkRetrains k.val) 32 1).linkDown_empties k
    have rx : (s.count (O.linkRetrains k.val) 32 1).keptRx k = s.keptRx k := State.keptRx_of (s.linkState_setSetting _ own k) rfl rfl
    refine ⟨_, execTrainingTimeout_down training, ⟨((s.setSetting_apart _ own).toLinkQuiet.trans kept).spelled, state, ?_, trained⟩,
      retrains.trans (s.obj_count_self _ 32 1)⟩
    rw [link, rx]
    rfl
  case window =>
    obtain ⟨apart, errors, link, state, power⟩ := s.newWindow_begins k
    refine ⟨_, execErrorWindowEnd_ends runs, ?_⟩
    split
    · obtain ⟨only, same, up⟩ := (s.newWindow k).linkUp_ups k
      exact ⟨(apart.trans only.apart).spelled, (only.setting (by simp [linkSettings])).trans errors, same.trans link, up.trans (by rw [power])⟩
    · exact ⟨apart.spelled, errors, link, state⟩
  case sleep =>
    obtain ⟨lock0, lock1⟩ := s.locks_setLink_idle k
    exact ⟨_, execSleepReceived_linked framing idle, (s.setLink_only k 8).apart.spelled, s.linkState_setLink k 8, lock0, lock1⟩

end Sys2Proof.Claims

section
/-! DMA channels: what the steps of a descriptor and of a halt leave alone, the arbiter, and the credit held (R666 to R684). -/
namespace Sys2Proof.Machine
open Sys2Proof

/-! ### The objects of a channel -/

/-- The objects of a channel that its commands write. -/
def chanObjs (c : Fin 32) : List Nat :=
  [O.channelState c.val, O.currentDescriptor c.val, O.channelRemaining c.val, O.lastResult c.val, O.lostWords c.val, O.bytesMoved c.val, O.halts c.val,
   O.bulkDiscards c.val, O.channelPriority c.val, O.retryLimit c.val]

/-- What writes of memory, events and messages count. -/
def dmaNoise : List Nat := [O.eventsLost, O.staticPagesStale, O.partialWritesRefused, O.noRouteDrops]

theorem chanObjs_quiet (c : Fin 32) : ∀ a ∈ chanObjs c, a ∉ dmaNoise := by decide +revert

theorem chanObjs_place (c : Fin 32) : ∀ a ∈ chanObjs c, a / 256 = 0x3800 + c.val := by decide +revert

theorem chanObjs_distinct (c : Fin 32) : (chanObjs c).Nodup := by decide +revert

/-- Channels have objects of their own. -/
theorem chanObjs_apart {j c : Fin 32} (other : j ≠ c) {a : Nat} (of : a ∈ chanObjs j) : a ∉ chanObjs c := by
  intro also
  have place := (chanObjs_place j a of).symm.trans (chanObjs_place c a also)
  exact other (Fin.ext (by omega))

/-! ### Channels as part of the state -/

theorem State.chan_modChan (s : State) (c : Fin 32) (f : DmaChan → DmaChan) (j : Fin 32) :
    (s.modChan c f).chan j = if j = c then f (s.chan c) else s.chan j := by
  by_cases same : j = c
  · rw [if_pos same, same]
    exact lane_put_same _ _ _
  · rw [if_neg same]
    exact lane_put_other _ _ _ _ (Ne.symm same)

@[simp] theorem State.chan_modChan_self (s : State) (c : Fin 32) (f : DmaChan → DmaChan) : (s.modChan c f).chan c = f (s.chan c) :=
  (s.chan_modChan c f c).trans (if_pos rfl)

theorem State.chan_of_dma {s t : State} (same : t.dma = s.dma) (c : Fin 32) : t.chan c = s.chan c := by
  rw [State.chan, State.chan, same]

/-- `t` leaves the DMA engine, the vector engines, and every object but those of `dmaNoise`. -/
structure DmaQuiet (s t : State) : Prop where
  dma : t.dma = s.dma
  eng : t.eng = s.eng
  obj : ∀ a, a ∉ dmaNoise → t.obj a = s.obj a

theorem DmaQuiet.refl (s : State) : DmaQuiet s s := ⟨rfl, rfl, fun _ _ => rfl⟩

theorem DmaQuiet.trans {s t u : State} (h : DmaQuiet s t) (h' : DmaQuiet t u) : DmaQuiet s u :=
  ⟨h'.dma.trans h.dma, h'.eng.trans h.eng, fun a ha => (h'.obj a ha).trans (h.obj a ha)⟩

theorem DmaQuiet.chanObj {s t : State} (h : DmaQuiet s t) {c : Fin 32} {a : Nat} (of : a ∈ chanObjs c) : t.obj a = s.obj a :=
  h.obj a (chanObjs_quiet c a of)

theorem State.count_dmaQuiet (s : State) {a : Nat} (w n : Nat) (noise : a ∈ dmaNoise) : DmaQuiet s (s.count a w n) :=
  ⟨rfl, rfl, fun _ other => s.obj_count_ne w n (fun same => other (same ▸ noise))⟩

theorem State.event_dmaQuiet (s : State) (code data : Nat) : DmaQuiet s (s.event code data) :=
  ⟨s.event_dma _ _, s.event_eng _ _, fun _ other => s.obj_event _ _ (fun lost => other (lost ▸ List.mem_cons_self))⟩

theorem State.store_dma (s : State) (addr n v : Nat) : (s.store addr n v).dma = s.dma :=
  congrArg (fun x => x.2.2.2.2.2.2.2.2.2.2.2.2.2.2.2.2.2.2.2.2.2.2.2.2.2.2.2.2.1) (s.store_leaves addr n v).1

theorem State.store_eng (s : State) (addr n v : Nat) : (s.store addr n v).eng = s.eng := congrArg (fun x => x.2.2.1) (s.store_leaves addr n v).1

theorem State.store_dmaQuiet (s : State) (addr n v : Nat) : DmaQuiet s (s.store addr n v) :=
  ⟨s.store_dma addr n v, s.store_eng addr n v, fun a other => (s.store_leaves addr n v).2.2 a (fun stale => other (by simp [stale, dmaNoise]))⟩

theorem State.putDescWord_dmaQuiet (s : State) (a v : Nat) : DmaQuiet s (s.putDescWord a v) := by
  unfold State.putDescWord
  split
  · exact s.count_dmaQuiet 32 1 (by decide)
  · exact s.store_dmaQuiet _ _ _

theorem State.sendRouted_dmaQuiet (s : State) (bulk : Bool) (m : Msg) : DmaQuiet s (s.sendRouted bulk m) := by
  have sent := s.sendRouted_sent bulk m
  refine ⟨?_, sent.eng, fun a other => sent.obj a (fun drops => other (by simp [drops, dmaNoise]))⟩
  unfold State.sendRouted
  split
  · rfl
  · split <;> rfl

theorem State.sendAbort_dmaQuiet (s : State) (c : Fin 32) (d : DmaDesc) : DmaQuiet s (s.sendAbort c d) := by
  unfold State.sendAbort
  extract_lets s1
  have sent : DmaQuiet s s1 := by
    dsimp only [s1]
    split
    · exact s.sendRouted_dmaQuiet _ _
    · exact .refl s
  split
  · exact sent.trans (State.sendRouted_dmaQuiet _ _ _)
  · exact sent

theorem State.takeMsg_dmaQuiet (s : State) (ty : Nat) : DmaQuiet s (s.takeMsg ty) := ⟨rfl, rfl, fun _ _ => rfl⟩

/-! ### A halt (R680 to R682) -/

/-- What a halt writes before its objects. -/
def State.haltStatus (s : State) (c : Fin 32) (result : Nat) : State :=
  match (s.chan c).desc with
  | some _ => s.putDescWord (s.chanDesc c + 4) (dmaStatus false result (s.chan c))
  | none => s

theorem State.haltChan_eq (s : State) (c : Fin 32) (result : Nat) : s.haltChan c result =
    (((s.haltStatus c result).setObjs [(O.channelState c.val, 3), (O.lastResult c.val, result)]).count (O.halts c.val) 32 1).dmaEvent c result 2 := rfl

theorem State.haltStatus_dmaQuiet (s : State) (c : Fin 32) (result : Nat) : DmaQuiet s (s.haltStatus c result) := by
  unfold State.haltStatus
  split
  · exact s.putDescWord_dmaQuiet _ _
  · exact .refl s

/-- `t` differs from `s` by a halt of channel `c` with a result. -/
structure Halted (c : Fin 32) (result : Nat) (s t : State) : Prop where
  dma : t.dma = s.dma
  eng : t.eng = s.eng
  state : t.chanState c = 3
  result : t.obj (O.lastResult c.val) = result
  halts : t.obj (O.halts c.val) = satAdd 32 (s.obj (O.halts c.val)) 1
  other : ∀ a, a ∉ dmaNoise → a ∉ chanObjs c → t.obj a = s.obj a

theorem haltObjs_apart (c : Fin 32) : O.channelState c.val ≠ O.lastResult c.val ∧ O.channelState c.val ≠ O.halts c.val ∧
    O.lastResult c.val ≠ O.halts c.val := by decide +revert

theorem State.haltChan_halted (s : State) (c : Fin 32) (result : Nat) : Halted c result s (s.haltChan c result) := by
  obtain ⟨stateResult, stateHalts, resultHalts⟩ := haltObjs_apart c
  have status := s.haltStatus_dmaQuiet c result
  rw [State.haltChan_eq]
  generalize s.haltStatus c result = u at status
  have written : ∀ a, (u.setObjs [(O.channelState c.val, 3), (O.lastResult c.val, result)]).obj a =
      if a = O.lastResult c.val then result else if a = O.channelState c.val then 3 else u.obj a := by
    intro a
    simp only [State.setObjs, List.foldl_cons, List.foldl_nil, State.obj_setObj]
  have event := fun t : State => t.event_dmaQuiet (0x0E00 + c.val) (t.chanDesc c % 2 ^ 40 + result % 8 * 2 ^ 40 + 2 * 2 ^ 48)
  have own : ∀ a ∈ [O.channelState c.val, O.lastResult c.val, O.halts c.val], a ∈ chanObjs c := by simp [chanObjs]
  unfold State.dmaEvent
  refine ⟨(event _).dma.trans status.dma, (event _).eng.trans status.eng, ?_, ?_, ?_, fun a quiet foreign => ?_⟩
  · refine ((event _).chanObj (c := c) (own _ (by simp))).trans ?_
    rw [State.obj_count_ne _ _ _ stateHalts, written, if_neg stateResult, if_pos rfl]
  · refine ((event _).chanObj (c := c) (own _ (by simp))).trans ?_
    rw [State.obj_count_ne _ _ _ resultHalts, written, if_pos rfl]
  · refine ((event _).chanObj (c := c) (own _ (by simp))).trans ?_
    rw [State.obj_count_self, written, if_neg resultHalts.symm, if_neg stateHalts.symm, status.chanObj (own _ (by simp))]
  · have ne := fun b (of : b ∈ [O.channelState c.val, O.lastResult c.val, O.halts c.val]) (same : a = b) => foreign (same ▸ own b of)
    refine ((event _).obj a quiet).trans ?_
    rw [State.obj_count_ne _ _ _ (ne _ (by simp)), written, if_neg (ne _ (by simp)), if_neg (ne _ (by simp)), status.obj a quiet]

/-- Without a descriptor a halt writes no memory. -/
theorem State.haltChan_mem {s : State} {c : Fin 32} (unread : (s.chan c).desc = none) (result : Nat) : (s.haltChan c result).mem = s.mem := by
  have status : s.haltStatus c result = s := by simp [State.haltStatus, unread]
  rw [State.haltChan_eq, status]
  exact State.event_mem _ _ _

/-! ### A remote failure (R684) -/

theorem State.remoteFail_eq (s : State) (c : Fin 32) : s.remoteFail c = (s.haltChan c 6).modChan c (fun x => { x with granted := 0 }) := rfl

/-- What a remote failure of a channel does to it. -/
theorem State.remoteFail_fails (s : State) (c : Fin 32) : let t := s.remoteFail c
    t.chanState c = 3 ∧ t.obj (O.lastResult c.val) = 6 ∧ t.obj (O.halts c.val) = satAdd 32 (s.obj (O.halts c.val)) 1 ∧ (t.chan c).granted = 0 := by
  have halted := s.haltChan_halted c 6
  refine ⟨halted.state, halted.result, halted.halts, ?_⟩
  rw [State.remoteFail_eq, State.chan_modChan_self]

theorem State.remoteFail_credits (s : State) (c : Fin 32) : (s.remoteFail c).dma.credits = s.dma.credits := by
  have credits := congrArg Dma.credits (s.haltChan_halted c 6).dma
  exact credits

/-- A remote failure of another channel leaves this one. -/
theorem State.remoteFail_other (s : State) {j c : Fin 32} (other : c ≠ j) : let t := s.remoteFail j
    t.chan c = s.chan c ∧ ∀ a ∈ chanObjs c, t.obj a = s.obj a := by
  have halted := s.haltChan_halted j 6
  refine ⟨?_, fun a of => halted.other a (chanObjs_quiet c a of) (chanObjs_apart other of)⟩
  rw [State.remoteFail_eq, State.chan_modChan, if_neg other, State.chan_of_dma halted.dma]

theorem State.remoteFails_other {l : List (Fin 32)} (s : State) {c : Fin 32} (other : c ∉ l) : let t := l.foldl State.remoteFail s
    t.chan c = s.chan c ∧ ∀ a ∈ chanObjs c, t.obj a = s.obj a := by
  induction l generalizing s with
  | nil => exact ⟨rfl, fun _ _ => rfl⟩
  | cons j l ih =>
    obtain ⟨here, later⟩ := not_or.1 (fun member => other (List.mem_cons.2 member))
    obtain ⟨chan, obj⟩ := s.remoteFail_other here
    obtain ⟨chan', obj'⟩ := ih (s.remoteFail j) later
    exact ⟨chan'.trans chan, fun a of => (obj' a of).trans (obj a of)⟩

theorem State.remoteFails_credits (l : List (Fin 32)) (s : State) : (l.foldl State.remoteFail s).dma.credits = s.dma.credits := by
  induction l generalizing s with
  | nil => rfl
  | cons j l ih => exact (ih (s.remoteFail j)).trans (s.remoteFail_credits j)

/-- Remote failures of some channels: each fails once. -/
theorem State.remoteFails_fail {l : List (Fin 32)} (once : l.Nodup) (s : State) {c : Fin 32} (member : c ∈ l) : let t := l.foldl State.remoteFail s
    t.chanState c = 3 ∧ t.obj (O.lastResult c.val) = 6 ∧ t.obj (O.halts c.val) = satAdd 32 (s.obj (O.halts c.val)) 1 ∧ (t.chan c).granted = 0 := by
  induction l generalizing s with
  | nil => exact absurd member List.not_mem_nil
  | cons j l ih =>
    obtain ⟨fresh, rest⟩ := List.nodup_cons.1 once
    by_cases here : c = j
    · subst here
      obtain ⟨chan, obj⟩ := State.remoteFails_other (s.remoteFail c) fresh
      obtain ⟨state, result, halts, granted⟩ := s.remoteFail_fails c
      refine ⟨(obj _ (by simp [chanObjs])).trans state, (obj _ (by simp [chanObjs])).trans result, (obj _ (by simp [chanObjs])).trans halts, ?_⟩
      exact (congrArg DmaChan.granted chan).trans granted
    · obtain ⟨-, obj⟩ := s.remoteFail_other here
      have failed := ih rest (s.remoteFail j) ((List.mem_cons.1 member).resolve_left here)
      rwa [obj _ (by simp [chanObjs])] at failed

/-! ### Credit (R684) -/

theorem State.credit_setCredit (s : State) (p : Nat × Nat) (n : Nat) : (s.setCredit p n).credit p = n ∧
    ∀ q, q ≠ p → (s.setCredit p n).credit q = s.credit q := by
  have gone : (s.dma.credits.filter (fun q => q.1 != p)).filter (fun q => decide (q.1 = p)) = [] := by
    simp [List.filter_filter]
  have kept : ∀ q, q ≠ p → (s.dma.credits.filter (fun r => r.1 != p)).filter (fun r => decide (r.1 = q)) = s.dma.credits.filter (fun r => decide (r.1 = q)) := by
    intro q other
    rw [List.filter_filter]
    refine List.filter_congr fun r _ => ?_
    by_cases same : r.1 = q
    · simp [same, other]
    · simp [same]
  unfold State.credit State.setCredit State.modDma
  dsimp only
  split
  · next zero => exact ⟨by rw [gone, zero]; rfl, fun q other => by rw [kept q other]⟩
  · refine ⟨?_, fun q other => ?_⟩
    · simp [List.filter_append, gone]
    · simp [List.filter_append, kept q other, Ne.symm other]

end Sys2Proof.Machine
end

section
/-! The commands of the DMA engine (R666 to R688). -/
namespace Sys2Proof.Machine
open Sys2Proof

section
variable {s : State} {c : Fin 32}

/-! ### Reading a descriptor (R671, R673, R680) -/

theorem execDescriptorRead_idle (idle : s.chanState c ≠ 1 ∨ (s.chan c).desc ≠ none) : exec (.descriptorRead c) s = .next s := by
  change execDescriptorRead c s = _
  refine congrArg Host.Outcome.next (if_pos ?_)
  rcases idle with other | read
  · simp [other]
  · simp [Option.isSome_iff_ne_none.2 read]

section
variable (running : s.chanState c = 1) (unread : (s.chan c).desc = none)
include running unread

theorem execDescriptorRead_misplaced (misplaced : s.descPlace (s.chanDesc c) = false) : exec (.descriptorRead c) s = .next (s.haltChan c 5) := by
  change execDescriptorRead c s = _
  simp [execDescriptorRead, State.readDesc, running, unread, misplaced]

theorem execDescriptorRead_reads (placed : s.descPlace (s.chanDesc c) = true) {l : List Byte} (read : s.busRead 4 (s.chanDesc c) 32 = (.ok, l, s)) :
    exec (.descriptorRead c) s = .next (if (dmaDesc l).own then s.takeDesc c (dmaDesc l) else s.takeStub c) := by
  change execDescriptorRead c s = _
  simp [execDescriptorRead, State.readDesc, running, unread, placed, read]

end

theorem chanState_ne (c : Fin 32) : O.channelState c.val ≠ O.channelRemaining c.val ∧ O.channelState c.val ≠ O.currentDescriptor c.val ∧
    O.channelState c.val ≠ O.lastResult c.val ∧ O.halts c.val ≠ O.channelRemaining c.val := by decide +revert

theorem currentDescriptor_ne_remaining (c : Fin 32) : O.currentDescriptor c.val ≠ O.channelRemaining c.val := by decide +revert

theorem State.goDesc_goes (s : State) (c : Fin 32) (a : Nat) : let t := s.goDesc c a
    t.chan c = (s.chan c).fresh ∧ t.chanState c = s.chanState c ∧ t.chanDesc c = a ∧ t.mem = s.mem ∧ t.eng = s.eng := by
  obtain ⟨remaining, current, -⟩ := chanState_ne c
  refine ⟨?_, ?_, ?_, rfl, rfl⟩
  · exact s.chan_modChan_self c DmaChan.fresh
  · exact (State.obj_setObj_ne _ _ remaining).trans (State.obj_setObj_ne _ _ current)
  · exact (State.obj_setObj_ne _ _ (currentDescriptor_ne_remaining c)).trans (State.obj_setObj_self _ _ _)

/-- A stub parks the channel, or with a doorbell pending has it read once more. -/
theorem State.takeStub_parks (s : State) (c : Fin 32) (running : s.chanState c = 1) : let t := s.takeStub c
    (t.chan c).desc = none ∧ (t.chan c).bell = false ∧ t.chanState c = (if (s.chan c).bell then 1 else 2) ∧ t.mem = s.mem := by
  obtain ⟨chan, state, -, mem, -⟩ := s.goDesc_goes c (s.chanDesc c)
  unfold State.takeStub
  dsimp only
  split
  · rw [State.chan_modChan_self, chan]
    exact ⟨rfl, rfl, state.trans running, mem⟩
  · next quiet =>
    have same : ((s.goDesc c (s.chanDesc c)).setObj (O.channelState c.val) 2).chan c = (s.chan c).fresh := chan
    rw [same]
    exact ⟨rfl, by simpa [DmaChan.fresh] using quiet, State.obj_setObj_self _ _ _, mem⟩

/-- The descriptor noted, with what of it remains. -/
def State.described (s : State) (c : Fin 32) (d : DmaDesc) : State :=
  (s.modChan c (fun x => { x with desc := some d, attempts := 0 })).setObj (O.channelRemaining c.val) (d.length - (s.chan c).done)

theorem State.takeDesc_eq (s : State) (c : Fin 32) (d : DmaDesc) : s.takeDesc c d =
    if d.length = 0 then s.described c d else if !d.ok then (s.described c d).haltChan c 5 else (s.described c d).grantCredit c := rfl

theorem State.described_describes (s : State) (c : Fin 32) (d : DmaDesc) : let t := s.described c d
    t.chan c = { s.chan c with desc := some d, attempts := 0 } ∧ t.chanState c = s.chanState c ∧ t.obj (O.halts c.val) = s.obj (O.halts c.val) ∧
    t.obj (O.channelRemaining c.val) = d.length - (s.chan c).done ∧ t.mem = s.mem ∧ t.eng = s.eng := by
  obtain ⟨state, -, -, halts⟩ := chanState_ne c
  refine ⟨?_, State.obj_setObj_ne _ _ state, State.obj_setObj_ne _ _ halts, State.obj_setObj_self _ _ _, rfl, rfl⟩
  exact lane_put_same _ _ _

/-- Credit granted changes what the channel has granted, and nothing where some is granted. -/
theorem State.grantCredit_grants (s : State) (c : Fin 32) : let t := s.grantCredit c
    (∃ g, t.chan c = { s.chan c with granted := g } ∧ ((s.chan c).granted ≠ 0 → g = (s.chan c).granted)) ∧
    (∀ a ∈ chanObjs c, t.obj a = s.obj a) ∧ t.mem = s.mem ∧ t.eng = s.eng := by
  have same : (∃ g, s.chan c = { s.chan c with granted := g } ∧ ((s.chan c).granted ≠ 0 → g = (s.chan c).granted)) ∧
      (∀ a ∈ chanObjs c, s.obj a = s.obj a) ∧ s.mem = s.mem ∧ s.eng = s.eng := ⟨⟨_, rfl, fun _ => rfl⟩, fun _ _ => rfl, rfl, rfl⟩
  unfold State.grantCredit
  dsimp only
  split
  · exact same
  · next dev _ =>
    split
    · exact same
    · next grants =>
      have sent := (s.modChan c (fun x => { x with granted := min (s.chan c).open_ 65536 })).sendRouted_sent true
        (s.mkMsg dev c.val 0x81 (leBytes 4 (min (s.chan c).open_ 65536)))
      have quiet := (s.modChan c (fun x => { x with granted := min (s.chan c).open_ 65536 })).sendRouted_dmaQuiet true
        (s.mkMsg dev c.val 0x81 (leBytes 4 (min (s.chan c).open_ 65536)))
      refine ⟨⟨min (s.chan c).open_ 65536, ?_, fun some => absurd (by simp [some]) grants⟩, fun a of => quiet.chanObj of, sent.mem, sent.eng⟩
      rw [State.chan_of_dma quiet.dma, State.chan_modChan_self]

/-! ### The arbiter (R667) -/

theorem le_foldl_max {α : Type} (f : α → Nat) (l : List α) (m : Nat) : m ≤ l.foldl (fun m x => max m (f x)) m ∧
    ∀ x ∈ l, f x ≤ l.foldl (fun m x => max m (f x)) m := by
  induction l generalizing m with
  | nil => exact ⟨le_rfl, fun _ member => absurd member List.not_mem_nil⟩
  | cons y l ih =>
    obtain ⟨start, all⟩ := ih (max m (f y))
    refine ⟨(le_max_left _ _).trans start, fun x member => ?_⟩
    rcases List.mem_cons.1 member with rfl | later
    · exact (le_max_right _ _).trans start
    · exact all x later

theorem mem_channels (c : Fin 32) : c ∈ channels := List.mem_finRange c

/-- The channel granted is ready, and no ready channel has a higher priority. -/
theorem State.granted_ready (granted : s.granted = some c) : s.burstReady c = true ∧
    ∀ j, s.burstReady j = true → s.obj (O.channelPriority j.val) ≤ s.obj (O.channelPriority c.val) := by
  have highest := (le_foldl_max (fun c : Fin 32 => s.obj (O.channelPriority c.val)) (channels.filter s.burstReady) 0).2
  unfold State.granted at granted
  dsimp only at granted
  generalize (channels.filter s.burstReady).foldl (fun m c => max m (s.obj (O.channelPriority c.val))) 0 = top at granted highest
  have among : c ∈ (channels.filter s.burstReady).filter (fun c => decide (s.obj (O.channelPriority c.val) = top)) := by
    split at granted
    · exact List.mem_of_head? granted
    · rcases (Option.orElse_eq_some _ _ _).1 granted with found | ⟨-, first⟩
      · exact List.mem_of_find?_eq_some found
      · exact List.mem_of_head? first
  obtain ⟨ready, equal⟩ := List.mem_filter.1 among
  have equal : s.obj (O.channelPriority c.val) = top := by simpa using equal
  refine ⟨(List.mem_filter.1 ready).2, fun j other => ?_⟩
  rw [equal]
  exact highest j (List.mem_filter.2 ⟨mem_channels j, other⟩)

/-! ### Bursts -/

/-- The state with the grant noted. -/
def State.grant (s : State) (c : Fin 32) : State :=
  s.modDma (fun d => { d with lastGrant := (s.obj (O.channelPriority c.val), c.val) :: d.lastGrant.filter (fun q => q.1 != s.obj (O.channelPriority c.val)) })

theorem execDmaBurst_none (none : s.granted = none) : exec .dmaBurst s = .next s := by
  change execDmaBurst s = _
  simp [execDmaBurst, none]

theorem execDmaBurst_some (granted : s.granted = some c) : exec .dmaBurst s = .next ((s.grant c).burst c) := by
  change execDmaBurst s = _
  simp only [execDmaBurst, granted]
  rfl

section
variable {d : DmaDesc} (desc : (s.chan c).desc = some d)
include desc

/-- A burst that is read and written. -/
theorem State.burst_moves {l : List Byte} {t u : State} (read : s.burstRead (s.chan c) d (s.burstSize c) = (.ok, l, t))
    (write : t.burstWrite (s.chan c) d (t.keepLost (d.dst.toNat + (s.chan c).done) l
      (if d.sends.isSome then [] else t.storesIn (d.dst.toNat + (s.chan c).done) (s.burstSize c))) = (.ok, u)) :
    s.burst c = (u.noteCollision c (if d.sends.isSome then [] else t.storesIn (d.dst.toNat + (s.chan c).done) (s.burstSize c)).length).burstDone c (s.burstSize c) := by
  unfold State.burst
  dsimp only
  rw [desc]
  dsimp only
  rw [read]
  dsimp only
  rw [write]

/-- A burst whose source is uncorrectable. -/
theorem State.burst_poisoned {l : List Byte} {t : State} (read : s.burstRead (s.chan c) d (s.burstSize c) = (.poison, l, t)) :
    s.burst c = t.haltChan c 2 := by
  unfold State.burst
  dsimp only
  rw [desc]
  dsimp only
  rw [read]
  rfl

end

theorem burstObjs_apart (c : Fin 32) : O.bytesMoved c.val ≠ O.lostWords c.val ∧ O.bytesMoved c.val ≠ O.channelRemaining c.val ∧
    O.lostWords c.val ≠ O.bytesMoved c.val ∧ O.lostWords c.val ≠ O.channelRemaining c.val := by decide +revert

theorem State.noteCollision_notes (u : State) (c : Fin 32) (k : Nat) : let t := u.noteCollision c k
    t.mem = u.mem ∧ t.eng = u.eng ∧ t.chan c = { u.chan c with collision := (u.chan c).collision || decide (k ≠ 0) } ∧
    t.obj (O.bytesMoved c.val) = u.obj (O.bytesMoved c.val) ∧
    t.obj (O.lostWords c.val) = if k = 0 then u.obj (O.lostWords c.val) else satAdd 32 (u.obj (O.lostWords c.val)) k := by
  unfold State.noteCollision
  dsimp only
  split
  · next zero => exact ⟨rfl, rfl, by simp [zero], rfl, rfl⟩
  · next some =>
    refine ⟨rfl, rfl, ?_, State.obj_count_ne _ _ _ (burstObjs_apart c).1, State.obj_count_self _ _ _ _⟩
    refine Eq.trans (lane_put_same _ _ _) ?_
    simp [State.chan, some]

/-- A burst moved: the channel and its counts go on. -/
theorem State.burstDone_advances (u : State) (c : Fin 32) (n : Nat) : let t := u.burstDone c n
    t.mem = u.mem ∧ t.eng = u.eng ∧ (t.chan c).done = (u.chan c).done + n ∧ (t.chan c).collision = (u.chan c).collision ∧
    t.obj (O.bytesMoved c.val) = wrapAdd 64 (u.obj (O.bytesMoved c.val)) n ∧ t.obj (O.lostWords c.val) = u.obj (O.lostWords c.val) := by
  obtain ⟨-, movedRemaining, lostMoved, lostRemaining⟩ := burstObjs_apart c
  have chan : (u.burstDone c n).chan c = { u.chan c with done := (u.chan c).done + n, attempts := 0, rx := (u.chan c).rx.drop n } :=
    lane_put_same _ _ _
  dsimp only
  rw [chan]
  refine ⟨rfl, rfl, rfl, rfl, ?_, ?_⟩
  · exact (State.obj_setObj_ne _ _ movedRemaining).trans (State.obj_setObj_self _ _ _)
  · exact (State.obj_setObj_ne _ _ lostRemaining).trans (State.obj_setObj_ne _ _ lostMoved)

/-! ### Write-back (R674, R676) -/

theorem execDescriptorWriteBack_none (waits : (s.chan c).desc = none ∨ s.chanState c ≠ 1 ∨ ∃ d, (s.chan c).desc = some d ∧ (s.chan c).done < d.length) :
    exec (.descriptorWriteBack c) s = .next s := by
  change execDescriptorWriteBack c s = _
  unfold execDescriptorWriteBack
  dsimp only
  congr 1
  split
  · rfl
  · next d desc =>
    rw [if_pos]
    rcases waits with unread | other | ⟨d', desc', moving⟩
    · simp [unread] at desc
    · simp [other]
    · have same : d' = d := by simpa [desc'] using desc
      simp [← same, moving]

theorem execDescriptorWriteBack_writes {d : DmaDesc} (desc : (s.chan c).desc = some d) (running : s.chanState c = 1) (moved : d.length ≤ (s.chan c).done) :
    exec (.descriptorWriteBack c) s = .next (if d.last then ((s.writeBack c d true 0 1).modChan c (fun _ => DmaChan.reset)).setObj (O.channelState c.val) 0
      else (s.writeBack c d true 0 1).goDesc c (d.next * 32)) := by
  change execDescriptorWriteBack c s = _
  simp [execDescriptorWriteBack, desc, running, moved]

theorem State.store_clean (clean : s.bad = []) (a n v : Nat) : (s.store a n v).bad = [] := by
  unfold State.store State.markStale
  dsimp only
  split <;> simp [clean]

theorem State.putDescWord_clean (clean : s.bad = []) (a v : Nat) : s.putDescWord a v = s.store a 4 v := by
  simp [State.putDescWord, State.partialBad, clean]

theorem memWord_memWrite_same {m : List Host.Cell} (wf : Memory.wf m) (k v : Nat) : memWord (memWrite m k 4 v) k = BitVec.ofNat 32 v := by
  rw [memWord, memRead_memWrite _ wf]
  apply BitVec.eq_of_toNat_eq
  rw [BitVec.toNat_ofNat, BitVec.toNat_ofNat]
  omega

theorem memWord_memWrite_apart {m : List Host.Cell} (wf : Memory.wf m) {k a : Nat} (v : Nat) (apart : a + 4 ≤ k ∨ k + 4 ≤ a) :
    memWord (memWrite m k 4 v) a = memWord m a := by
  rw [memWord, memWord, memRead_congr]
  intro b low high
  rw [memByte_memWrite _ wf, if_neg (by omega)]

theorem lastResult_ne_channelState (c : Fin 32) : O.channelState c.val ≠ O.lastResult c.val ∧ O.lastResult c.val ≠ O.channelState c.val ∧
    O.lastResult c.val ≠ O.currentDescriptor c.val ∧ O.lastResult c.val ≠ O.channelRemaining c.val := by decide +revert

/-- STATUS and CTRL stand in the descriptor, and the result in its object. -/
theorem State.writeBack_writes (clean : s.bad = []) (wf : Memory.wf s.mem) (d : DmaDesc) (done : Bool) (result kind : Nat) :
    let t := s.writeBack c d done result kind
    memWord t.mem (s.chanDesc c) = BitVec.ofNat 32 (d.ctrl.toNat % 2 ^ 31) ∧ memWord t.mem (s.chanDesc c + 4) = BitVec.ofNat 32 (dmaStatus done result (s.chan c)) ∧
    t.obj (O.lastResult c.val) = result ∧ t.chanState c = s.chanState c ∧ t.eng = s.eng := by
  let u := (s.store (s.chanDesc c + 4) 4 (dmaStatus done result (s.chan c))).store (s.chanDesc c) 4 (d.ctrl.toNat % 2 ^ 31)
  have quiet : DmaQuiet s u := (s.store_dmaQuiet _ _ _).trans (State.store_dmaQuiet _ _ _ _)
  have stored : u.mem = memWrite (memWrite s.mem (s.chanDesc c + 4) 4 (dmaStatus done result (s.chan c))) (s.chanDesc c) 4 (d.ctrl.toNat % 2 ^ 31) := by
    rw [(State.store_leaves _ _ _ _).2.1, (State.store_leaves _ _ _ _).2.1]
  have wf' := memWrite_wf 4 s.mem (s.chanDesc c + 4) (dmaStatus done result (s.chan c)) wf
  have ctrl : memWord u.mem (s.chanDesc c) = BitVec.ofNat 32 (d.ctrl.toNat % 2 ^ 31) := by rw [stored, memWord_memWrite_same wf']
  have status : memWord u.mem (s.chanDesc c + 4) = BitVec.ofNat 32 (dmaStatus done result (s.chan c)) := by
    rw [stored, memWord_memWrite_apart wf' _ (.inr le_rfl), memWord_memWrite_same wf]
  have run : s.writeBack c d done result kind =
      if d.irq then (u.setObj (O.lastResult c.val) result).dmaEvent c result kind else u.setObj (O.lastResult c.val) result := by
    unfold State.writeBack
    dsimp only
    rw [State.putDescWord_clean clean, State.putDescWord_clean (State.store_clean clean _ _ _)]
  have state : (u.setObj (O.lastResult c.val) result).chanState c = s.chanState c :=
    (State.obj_setObj_ne _ _ (lastResult_ne_channelState c).1).trans (quiet.chanObj (c := c) (by simp [chanObjs]))
  have written : (u.setObj (O.lastResult c.val) result).obj (O.lastResult c.val) = result := State.obj_setObj_self _ _ _
  dsimp only
  rw [run]
  clear_value u
  split
  · have event := (u.setObj (O.lastResult c.val) result).event_dmaQuiet (0x0E00 + c.val)
      ((u.setObj (O.lastResult c.val) result).chanDesc c % 2 ^ 40 + result % 8 * 2 ^ 40 + kind * 2 ^ 48)
    unfold State.dmaEvent
    rw [State.event_mem]
    exact ⟨ctrl, status, (event.chanObj (c := c) (by simp [chanObjs])).trans written, (event.chanObj (c := c) (by simp [chanObjs])).trans state,
      event.eng.trans quiet.eng⟩
  · exact ⟨ctrl, status, written, state, quiet.eng⟩

/-! ### Transfers between devices (R684) -/

theorem execBulkCredit_eq (dev : BitVec 12) (session : BitVec 8) (n : BitVec 32) : exec (.bulkCredit dev session n) s =
    .next ((s.takeMsg 0x81).setCredit (dev.toNat, session.toNat) (s.credit (dev.toNat, session.toNat) + n.toNat)) := rfl

theorem session_toNat (c : Fin 32) : (BitVec.ofNat 8 c.val).toNat = c.val := by decide +revert

/-- What a BULK_DATA leads to, once its message is taken: the channel receives it, or it is discarded. -/
def State.takeBulk (s : State) (dev : Nat) (c : Fin 32) (data : List Byte) : State :=
  if s.chanState c = 1 ∧ (s.chan c).desc.bind DmaDesc.receives = some dev ∧ data.length ≤ (s.chan c).granted then
    (s.modChan c (fun x => { x with rx := x.rx ++ data, granted := x.granted - data.length })).grantCredit c
  else s.discardBulk dev c.val

theorem execBulkData_eq (dev : BitVec 12) (data : List Byte) :
    exec (.bulkData dev (BitVec.ofNat 8 c.val) data) s = .next ((s.takeMsg 0x80).takeBulk dev.toNat c data) := by
  change execBulkData dev (BitVec.ofNat 8 c.val) data s = _
  have channel : (⟨c.val % 32, Nat.mod_lt _ (by decide)⟩ : Fin 32) = c := Fin.ext (Nat.mod_eq_of_lt c.isLt)
  simp only [execBulkData, session_toNat, channel, c.isLt, decide_true, Bool.true_and, State.takeBulk, Bool.and_eq_true, decide_eq_true_eq, and_assoc]

/-- Data within the credit is received; what stays of the credit stays where some is left. -/
theorem State.takeBulk_receives (s : State) {c : Fin 32} {dev : Nat} {data : List Byte} (running : s.chanState c = 1)
    (receives : (s.chan c).desc.bind DmaDesc.receives = some dev) (fits : data.length ≤ (s.chan c).granted) : let t := s.takeBulk dev c data
    t.mem = s.mem ∧ (t.chan c).rx = (s.chan c).rx ++ data ∧
    ((s.chan c).granted ≠ data.length → (t.chan c).granted = (s.chan c).granted - data.length) := by
  have chan := s.chan_modChan_self c (fun x => { x with rx := x.rx ++ data, granted := x.granted - data.length })
  obtain ⟨⟨g, granted, kept⟩, -, mem, -⟩ := (s.modChan c (fun x => { x with rx := x.rx ++ data, granted := x.granted - data.length })).grantCredit_grants c
  rw [chan] at granted kept
  dsimp only
  rw [State.takeBulk, if_pos ⟨running, receives, fits⟩, granted]
  exact ⟨mem, rfl, fun left => kept (by dsimp only; omega)⟩

theorem State.discardBulk_discards (s : State) (dev : Nat) (c : Fin 32) : let t := s.discardBulk dev c.val
    t.dma = s.dma ∧ t.obj (O.bulkDiscards c.val) = satAdd 32 (s.obj (O.bulkDiscards c.val)) 1 := by
  unfold State.discardBulk
  dsimp only
  rw [if_pos c.isLt]
  have quiet := (s.count (O.bulkDiscards c.val) 32 1).sendRouted_dmaQuiet true (s.mkMsg dev c.val 0x82 [])
  exact ⟨quiet.dma, (quiet.chanObj (c := c) (by simp [chanObjs])).trans (State.obj_count_self _ _ _ _)⟩

/-- The channels that a BULK_ABORT hits. -/
def State.abortHits (s : State) (dev session : Nat) : List (Fin 32) :=
  channels.filter (fun c => decide (s.chanState c = 1) && ((s.chan c).desc.map (fun d => d.inSession c dev session)).getD false)

theorem execBulkAbort_eq (dev : BitVec 12) (session : BitVec 8) : exec (.bulkAbort dev session) s =
    .next ((State.abortHits ((s.takeMsg 0x82).setCredit (dev.toNat, session.toNat) 0) dev.toNat session.toNat).foldl State.remoteFail
      ((s.takeMsg 0x82).setCredit (dev.toNat, session.toNat) 0)) := rfl

theorem State.abortHits_nodup (s : State) (dev session : Nat) : (s.abortHits dev session).Nodup :=
  List.Pairwise.filter _ (List.nodup_finRange 32)

theorem State.mem_abortHits {dev session : Nat} : c ∈ s.abortHits dev session ↔
    s.chanState c = 1 ∧ ∃ d, (s.chan c).desc = some d ∧ ((d.receives = some dev ∧ c.val = session) ∨ d.sends = some (dev, session)) := by
  unfold State.abortHits
  rw [List.mem_filter]
  cases desc : (s.chan c).desc with
  | none => simp
  | some d => simp [mem_channels, DmaDesc.inSession]

theorem execDmaRemoteTimeout_none (local_ : s.chanState c ≠ 1 ∨ ∀ d, (s.chan c).desc = some d → d.receives = none ∧ d.sends = none) :
    exec (.dmaRemoteTimeout c) s = .next s := by
  change execDmaRemoteTimeout c s = _
  unfold execDmaRemoteTimeout
  congr 1
  split
  · rfl
  · next d desc =>
    rw [if_neg]
    rcases local_ with other | own
    · simp [other]
    · simp [own d desc]

theorem execDmaRemoteTimeout_fails {d : DmaDesc} (running : s.chanState c = 1) (desc : (s.chan c).desc = some d)
    (remote : d.receives ≠ none ∨ d.sends ≠ none) : exec (.dmaRemoteTimeout c) s = .next ((s.remoteFail c).sendAbort c d) := by
  change execDmaRemoteTimeout c s = _
  have far : (d.receives.isSome || d.sends.isSome) = true := by
    simpa [Option.isSome_iff_ne_none] using remote
  simp [execDmaRemoteTimeout, desc, running, far]

end

end Sys2Proof.Machine
end

namespace Sys2Proof.Claims
open Sys2Proof Sys2Proof.Machine

/-- Settles O45. That a word an open bundle stores keeps what it holds (log entry 42), that data beyond the credit is discarded whole and an abort
ends what credit was granted (log entries 43 and 149), and that a channel at a bad place halts with RESULT 5 without a write (log entry 149), are the
model's choices. -/
theorem dmaDescriptorsAndBursts : Obligations.DmaDescriptorsAndBursts := by
  unfold Obligations.DmaDescriptorsAndBursts
  intro s c dev session n data x v halted
  refine ⟨execDescriptorRead_idle, fun running unread misplaced => ?misplaced, fun l running unread placed read => ⟨fun stub => ?stub,
    fun own long bad => ?malformed, fun own long good => ?good⟩, execDmaBurst_none, fun d granted desc => ?burst, execDescriptorWriteBack_none,
    fun d desc running moved clean wf => ?writeBack, ?credit, fun running receives fits => ?received, fun other => ?discarded, ?abort,
    execDmaRemoteTimeout_none, fun d running desc remote => ?timeout⟩
  case misplaced =>
    have fails := s.haltChan_halted c 5
    exact ⟨_, execDescriptorRead_misplaced running unread misplaced, ⟨fails.state, fails.result, fails.halts⟩, State.haltChan_mem unread 5⟩
  case stub =>
    rw [execDescriptorRead_reads running unread placed read, stub]
    exact ⟨_, rfl, s.takeStub_parks c running⟩
  case malformed =>
    rw [execDescriptorRead_reads running unread placed read, own, if_pos rfl, State.takeDesc_eq, if_neg long, bad]
    obtain ⟨-, -, halts, -⟩ := s.described_describes c (dmaDesc l)
    have fails := (s.described c (dmaDesc l)).haltChan_halted c 5
    exact ⟨_, rfl, fails.state, fails.result, fails.halts.trans (by rw [halts])⟩
  case good =>
    rw [execDescriptorRead_reads running unread placed read, own, if_pos rfl, State.takeDesc_eq, if_neg long, good]
    obtain ⟨chan, state, -, remaining, mem, eng⟩ := s.described_describes c (dmaDesc l)
    obtain ⟨⟨g, granted, -⟩, objs, mem', eng'⟩ := (s.described c (dmaDesc l)).grantCredit_grants c
    refine ⟨_, rfl, ?_, ?_, (objs _ (by simp [chanObjs])).trans (state.trans running), (objs _ (by simp [chanObjs])).trans remaining,
      mem'.trans mem, eng'.trans eng⟩
    · exact (congrArg DmaChan.desc granted).trans (congrArg DmaChan.desc chan)
    · exact (congrArg DmaChan.attempts granted).trans (congrArg DmaChan.attempts chan)
  case burst =>
    intro p s'
    obtain ⟨ready, highest⟩ := State.granted_ready granted
    refine ⟨ready, highest, ?moves, fun l t read still => ?poisoned⟩
    case moves =>
      intro l t u read lost write
      have run : s'.burst c = (u.noteCollision c lost.length).burstDone c (s.burstSize c) := State.burst_moves (s := s') desc read write
      obtain ⟨mem, eng, chan, moved, words⟩ := u.noteCollision_notes c lost.length
      obtain ⟨mem', eng', done, collision, moved', words'⟩ := (u.noteCollision c lost.length).burstDone_advances c (s.burstSize c)
      rw [execDmaBurst_some granted]
      refine ⟨_, congrArg Host.Outcome.next run, mem'.trans mem, eng'.trans eng, done.trans ?_, moved'.trans (by rw [moved]), collision.trans ?_,
        words'.trans (words.trans ?_)⟩
      · rw [chan]
      · rw [chan]
        cases lost <;> rfl
      · simp only [List.length_eq_zero_iff]
    case poisoned =>
      have fails := t.haltChan_halted c 2
      rw [execDmaBurst_some granted]
      exact ⟨_, congrArg Host.Outcome.next (State.burst_poisoned (s := s') desc read), fails.state, fails.result, fails.halts.trans (by rw [still])⟩
  case writeBack =>
    obtain ⟨ctrl, status, result, state, eng⟩ := State.writeBack_writes (c := c) clean wf d true 0 1
    rw [execDescriptorWriteBack_writes desc running moved]
    generalize s.writeBack c d true 0 1 = t at ctrl status result state eng
    split
    · exact ⟨_, rfl, ctrl, status, (State.obj_setObj_ne _ _ (lastResult_ne_channelState c).2.1).trans result,
        congrArg DmaChan.desc (t.chan_modChan_self c (fun _ => DmaChan.reset)), eng, State.obj_setObj_self _ _ _⟩
    · obtain ⟨chan, same, there, mem, eng'⟩ := t.goDesc_goes c (d.next * 32)
      refine ⟨_, rfl, by rw [mem, ctrl], by rw [mem, status], ?_, by rw [chan]; rfl, eng'.trans eng, same.trans (state.trans running), there⟩
      obtain ⟨-, -, current, remaining⟩ := lastResult_ne_channelState c
      exact ((State.obj_setObj_ne _ _ remaining).trans (State.obj_setObj_ne _ _ current)).trans result
  case credit =>
    obtain ⟨here, elsewhere⟩ := (s.takeMsg 0x81).credit_setCredit (dev.toNat, session.toNat) (s.credit (dev.toNat, session.toNat) + n.toNat)
    exact ⟨_, execBulkCredit_eq dev session n, here, elsewhere, rfl, rfl⟩
  case received =>
    obtain ⟨mem, bytes, left⟩ := (s.takeMsg 0x80).takeBulk_receives running receives fits
    exact ⟨_, execBulkData_eq dev data, bytes, left, mem⟩
  case discarded =>
    obtain ⟨dma, discards⟩ := (s.takeMsg 0x80).discardBulk_discards dev.toNat c
    refine ⟨_, execBulkData_eq dev data, ?_⟩
    rw [State.takeBulk, if_neg fun takes => other.elim (fun idle => idle takes.1) (fun beyond => absurd takes.2.2 (Nat.not_le.2 beyond))]
    exact ⟨congrArg Dma.chan dma, discards⟩
  case abort =>
    let t := (s.takeMsg 0x82).setCredit (dev.toNat, session.toNat) 0
    refine ⟨_, execBulkAbort_eq dev session, ?_, fun running d desc within => ?_, fun other => ?_⟩
    · refine Eq.trans ?_ ((s.takeMsg 0x82).credit_setCredit (dev.toNat, session.toNat) 0).1
      rw [State.credit, State.remoteFails_credits]
      rfl
    · have hit : c ∈ t.abortHits dev.toNat session.toNat := State.mem_abortHits.2 ⟨running, d, desc, within⟩
      obtain ⟨state, result, halts, granted⟩ := State.remoteFails_fail (t.abortHits_nodup _ _) t hit
      exact ⟨⟨state, result, halts⟩, granted⟩
    · have missed : c ∉ t.abortHits dev.toNat session.toNat := by
        rw [State.mem_abortHits]
        rintro ⟨running, d, desc, -⟩
        exact other.elim (fun idle => idle running) (fun unread => Option.some_ne_none d (desc.symm.trans unread))
      obtain ⟨chan, obj⟩ := State.remoteFails_other t missed
      exact ⟨obj _ (by simp [chanObjs]), chan⟩
  case timeout =>
    obtain ⟨state, result, halts, granted⟩ := s.remoteFail_fails c
    have quiet := (s.remoteFail c).sendAbort_dmaQuiet c d
    refine ⟨_, execDmaRemoteTimeout_fails running desc remote, ⟨(quiet.chanObj (c := c) (by simp [chanObjs])).trans state, ?_, ?_⟩, ?_⟩
    · exact (quiet.chanObj (c := c) (by simp [chanObjs])).trans result
    · exact (quiet.chanObj (c := c) (by simp [chanObjs])).trans halts
    · rw [State.chan_of_dma quiet.dma, granted]

end Sys2Proof.Claims

section
/-! Fuses, the confirmation of a trial image, and records of the Keep store (R745 to R769). -/
namespace Sys2Proof.Machine
open Sys2Proof

/-! ### Fuses (R745, R748, R749) -/

theorem mem_setAdd_iff (l : List Nat) (k b : Nat) : b ∈ setAdd l k ↔ b = k ∨ b ∈ l := by
  induction l with
  | nil => simp [setAdd]
  | cons x t ih =>
    unfold setAdd
    split
    · simp
    · split
      · next same => simp [same]
      · simp only [List.mem_cons, ih]
        tauto

theorem State.mem_burn (s : State) (k b : Nat) : b ∈ (s.burn k).fuses ↔ b = k ∨ b ∈ s.fuses := mem_setAdd_iff s.fuses k b

/-- Bits burned one after the other, and nothing else. -/
theorem State.burns (base : Nat) (l : List Nat) (s : State) : let t := l.foldl (fun s b => s.burn (base + b)) s
    (∀ b, b ∈ t.fuses ↔ b ∈ s.fuses ∨ ∃ x ∈ l, b = base + x) ∧ t.objs = s.objs ∧ t.mem = s.mem ∧ t.eng = s.eng ∧ t.flash = s.flash := by
  induction l generalizing s with
  | nil => exact ⟨fun b => by simp, rfl, rfl, rfl, rfl⟩
  | cons x l ih =>
    obtain ⟨fuses, objs, mem, eng, flash⟩ := ih (s.burn (base + x))
    refine ⟨fun b => (fuses b).trans ?_, objs, mem, eng, flash⟩
    rw [State.mem_burn]
    simp only [List.mem_cons, exists_eq_or_imp]
    tauto

/-- The rollback counter is the least number that no ROLLBACK bit burned exceeds. -/
theorem State.rollback_le_iff (s : State) (n : Nat) : s.rollback ≤ n ↔ ∀ b ∈ s.fuses, 1228 ≤ b → b < 1356 → b - 1227 ≤ n := by
  have folded : ∀ (l : List Nat) (m : Nat), l.foldl (fun m b => if 1228 ≤ b ∧ b < 1356 then max m (b - 1227) else m) m ≤ n ↔
      m ≤ n ∧ ∀ b ∈ l, 1228 ≤ b → b < 1356 → b - 1227 ≤ n := by
    intro l
    induction l with
    | nil => simp
    | cons x l ih =>
      intro m
      rw [List.foldl_cons, ih]
      simp only [List.mem_cons, forall_eq_or_imp]
      split
      · next inside => simp only [max_le_iff, inside.1, inside.2, forall_const, and_assoc]
      · next outside => exact and_congr_right fun _ => ⟨fun rest => ⟨fun low high => absurd ⟨low, high⟩ outside, rest⟩, fun both => both.2⟩
  exact (folded s.fuses 0).trans (and_iff_right (Nat.zero_le n))

/-- A counter whose next bits are burned up to a value stands at that value. -/
theorem State.rollback_burned {s t : State} {v : Nat} (few : v ≤ 128)
    (burned : ∀ b, b ∈ t.fuses ↔ b ∈ s.fuses ∨ (1228 + s.rollback ≤ b ∧ b < 1228 + v)) : t.rollback = max s.rollback v := by
  refine eq_of_forall_ge_iff fun n => ?_
  rw [max_le_iff, t.rollback_le_iff, s.rollback_le_iff n]
  constructor
  · intro all
    refine ⟨fun b member => all b ((burned b).2 (.inl member)), ?_⟩
    by_cases more : s.rollback < v
    · have last := all (1228 + v - 1) ((burned _).2 (.inr (by omega))) (by omega) (by omega)
      omega
    · have before := (s.rollback_le_iff n).2 (fun b member => all b ((burned b).2 (.inl member)))
      omega
  · rintro ⟨old, bound⟩ b member low high
    rcases (burned b).1 member with before | new
    · exact old b before low high
    · omega

/-- The bits that an advance of the counter burns: up to the value, or to the one that does not take. -/
def rollbackBits (now v : Nat) (fail : Option Nat) : List Nat :=
  match fail with
  | some f => ((List.range (v - now)).map (fun i => now + i)).takeWhile (fun b => b != f)
  | none => (List.range (v - now)).map (fun i => now + i)

/-- Counting up and stopping before a number. -/
theorem range_takeWhile (f n now : Nat) : ((List.range n).map (fun i => now + i)).takeWhile (fun b => b != f) =
    (List.range (if now ≤ f ∧ f < now + n then f - now else n)).map (fun i => now + i) := by
  induction n generalizing now with
  | zero => simp
  | succ n ih =>
    have shift : ∀ k, (List.range (k + 1)).map (fun i => now + i) = now :: (List.range k).map (fun i => now + 1 + i) := by
      intro k
      rw [List.range_succ_eq_map, List.map_cons, List.map_map]
      exact congrArg _ (List.map_congr_left (fun i _ => by simp only [Function.comp]; omega))
    rw [shift, List.takeWhile_cons]
    by_cases here : now = f
    · subst here
      simp
    · rw [if_pos (by simpa using here), ih]
      by_cases within : now ≤ f ∧ f < now + (n + 1)
      · rw [if_pos (by omega), if_pos within, ← shift]
        congr 2
        omega
      · rw [if_neg (by omega), if_neg within, shift]

/-- Whether an advance stops at a bit that does not take. -/
def rollbackStuck (now v : Nat) (fail : Option Nat) : Prop := ∃ f, fail = some f ∧ now ≤ f ∧ f < v

theorem rollbackBits_spec {now v : Nat} (up : now ≤ v) (fail : Option Nat) :
    (∀ x, x ∈ rollbackBits now v fail ↔ now ≤ x ∧ x < v ∧ ∀ f, fail = some f → now ≤ f → x < f) ∧
    ((rollbackBits now v fail).length < v - now ↔ rollbackStuck now v fail) := by
  have counted : ∀ n x, x ∈ (List.range n).map (fun i => now + i) ↔ now ≤ x ∧ x < now + n := by
    intro n x
    simp only [List.mem_map, List.mem_range]
    exact ⟨fun ⟨i, small, same⟩ => by omega, fun inside => ⟨x - now, by omega, by omega⟩⟩
  unfold rollbackBits rollbackStuck
  cases fail with
  | none =>
    refine ⟨fun x => (counted _ x).trans ?_, by simp⟩
    simp only [reduceCtorEq, false_imp_iff, implies_true, and_true]
    omega
  | some f =>
    dsimp only
    rw [range_takeWhile]
    refine ⟨fun x => (counted _ x).trans ?_, ?_⟩
    · simp only [Option.some.injEq, forall_eq']
      split <;> omega
    · simp only [List.length_map, List.length_range, Option.some.injEq, exists_eq_left']
      split <;> omega

/-- Where every bit takes, the bits burned are those up to the value. -/
theorem mem_rollbackBits_none {now v b : Nat} : (∃ x ∈ rollbackBits now v none, b = 1228 + x) ↔ 1228 + now ≤ b ∧ b < 1228 + v := by
  simp only [rollbackBits, List.mem_map, List.mem_range]
  constructor
  · rintro ⟨x, ⟨i, small, rfl⟩, rfl⟩
    omega
  · exact fun inside => ⟨b - 1228, ⟨b - 1228 - now, by omega, by omega⟩, by omega⟩

/-- The objects of the counter once its bits are burned: a bit that does not take counts, and a new value is reported. -/
def State.countRollback (s : State) (burned asked was : Nat) : State :=
  let s2 := if burned < asked then s.count O.fuseFailures 32 1 else s
  let s3 := s2.setObj O.rollbackCounter s2.rollback
  if s3.rollback = was then s3 else s3.event 0x0B05 s3.rollback

theorem State.countRollback_counts (s : State) (burned asked was : Nat) : let t := s.countRollback burned asked was
    t.fuses = s.fuses ∧ t.mem = s.mem ∧ t.eng = s.eng ∧ t.flash = s.flash ∧ t.obj O.rollbackCounter = t.rollback ∧
    t.obj O.fuseFailures = (if burned < asked then satAdd 32 (s.obj O.fuseFailures) 1 else s.obj O.fuseFailures) ∧
    ∀ a, a ∉ [O.fuseFailures, O.rollbackCounter, O.eventsLost] → t.obj a = s.obj a := by
  let s2 := if burned < asked then s.count O.fuseFailures 32 1 else s
  let s3 := s2.setObj O.rollbackCounter s2.rollback
  have counted : s3.fuses = s.fuses ∧ s3.mem = s.mem ∧ s3.eng = s.eng ∧ s3.flash = s.flash := by
    dsimp only [s3, s2]
    split <;> exact ⟨rfl, rfl, rfl, rfl⟩
  have counter : s3.obj O.rollbackCounter = s3.rollback := State.obj_setObj_self _ _ _
  have failures : s3.obj O.fuseFailures = if burned < asked then satAdd 32 (s.obj O.fuseFailures) 1 else s.obj O.fuseFailures := by
    refine (State.obj_setObj_ne _ _ (by decide)).trans ?_
    dsimp only [s2]
    split
    · exact State.obj_count_self _ _ _ _
    · rfl
  have others : ∀ a, a ∉ [O.fuseFailures, O.rollbackCounter, O.eventsLost] → s3.obj a = s.obj a := by
    intro a other
    simp only [List.mem_cons, List.not_mem_nil, or_false, not_or] at other
    refine (State.obj_setObj_ne _ _ other.2.1).trans ?_
    dsimp only [s2]
    split
    · exact State.obj_count_ne _ _ _ other.1
    · rfl
  have run : s.countRollback burned asked was = if s3.rollback = was then s3 else s3.event 0x0B05 s3.rollback := rfl
  clear_value s3
  obtain ⟨fuses, mem, eng, flash⟩ := counted
  dsimp only
  rw [run]
  split
  · exact ⟨fuses, mem, eng, flash, counter, failures, others⟩
  · have same : (s3.event 0x0B05 s3.rollback).rollback = s3.rollback := by
      unfold State.rollback
      rw [State.event_fuses]
    rw [State.event_fuses, State.event_mem, State.event_eng, State.event_flash, same, State.obj_event _ _ _ (by decide), State.obj_event _ _ _ (by decide)]
    refine ⟨fuses, mem, eng, flash, counter, failures, fun a other => (State.obj_event _ _ _ fun lost => ?_).trans (others a other)⟩
    exact other (by simp [lost])

/-- An advance of the counter: the bits burned, the object that shows it, and what a bit that does not take counts. -/
theorem State.advanceRollback_advances (s : State) {v : Nat} (fail : Option Nat) : let t := s.advanceRollback v fail
    (∀ b, b ∈ t.fuses ↔ b ∈ s.fuses ∨ ∃ x ∈ rollbackBits s.rollback v fail, b = 1228 + x) ∧
    t.mem = s.mem ∧ t.eng = s.eng ∧ t.flash = s.flash ∧ t.obj O.rollbackCounter = t.rollback ∧
    t.obj O.fuseFailures = (if (rollbackBits s.rollback v fail).length < v - s.rollback then satAdd 32 (s.obj O.fuseFailures) 1 else s.obj O.fuseFailures) ∧
    ∀ a, a ∉ [O.fuseFailures, O.rollbackCounter, O.eventsLost] → t.obj a = s.obj a := by
  obtain ⟨fuses, objs, mem, eng, flash⟩ := State.burns 1228 (rollbackBits s.rollback v fail) s
  have run : s.advanceRollback v fail = ((rollbackBits s.rollback v fail).foldl (fun s b => s.burn (1228 + b)) s).countRollback
      (rollbackBits s.rollback v fail).length (v - s.rollback) s.rollback := by
    have long : ((List.range (v - s.rollback)).map (fun i => s.rollback + i)).length = v - s.rollback := by simp
    unfold State.advanceRollback
    dsimp only
    rw [long]
    cases fail <;> rfl
  dsimp only
  rw [run]
  generalize (rollbackBits s.rollback v fail).foldl (fun s b => s.burn (1228 + b)) s = u at fuses objs mem eng flash
  obtain ⟨fuses', mem', eng', flash', counter, failures, others⟩ := u.countRollback_counts (rollbackBits s.rollback v fail).length (v - s.rollback) s.rollback
  refine ⟨fun b => by rw [fuses', fuses b], mem'.trans mem, eng'.trans eng, flash'.trans flash, counter, failures.trans ?_,
    fun a other => (others a other).trans (State.obj_of_objs objs a)⟩
  rw [State.obj_of_objs objs]

end Sys2Proof.Machine
end

section
/-! The commands of fuses, confirmation and Keep records (R747 to R769). -/
namespace Sys2Proof.Machine
open Sys2Proof

/-! ### Headers in the flash -/

theorem State.flashBytes_eq_map (s : State) (a n : Nat) : s.flashBytes a n = (List.range n).map (fun i => aGet 0xFF#8 s.flash (a + i)) := by
  induction n generalizing a with
  | zero => rfl
  | succ n ih =>
    rw [State.flashBytes, ih, List.range_succ_eq_map, List.map_cons, List.map_map]
    congr 1
    exact List.map_congr_left (fun i _ => congrArg (aGet 0xFF#8 s.flash) (by simp only [Nat.succ_eq_add_one]; omega))

/-- A field of a slot's header is the number of its bytes in the flash. -/
theorem State.hdr_slotHeader (s : State) (i : Nat) {off n : Nat} (inside : off + n ≤ 4096) :
    hdr (s.slotHeader i) off n = leNat ((List.range n).map (fun j => aGet 0xFF#8 s.flash (slotBase i + off + j))) := by
  rw [hdr, State.slotHeader, State.flashBytes_eq_map]
  congr 1
  apply List.ext_getElem
  · simp only [List.length_take, List.length_drop, List.length_map, List.length_range]
    omega
  · intro j _ _
    simp only [List.getElem_take, List.getElem_drop, List.getElem_map, List.getElem_range, Nat.add_assoc]

theorem leNat_zeros {l : List Byte} (zeros : ∀ b ∈ l, b = 0) : leNat l = 0 := by
  induction l with
  | nil => rfl
  | cons b t ih =>
    rw [leNat, zeros b List.mem_cons_self, ih fun c member => zeros c (List.mem_cons_of_mem _ member)]
    rfl

/-- A field whose bytes are programmed with zeros reads zero. -/
theorem State.hdr_programmed {s : State} (wf : aWf 0xFF#8 s.flash = true) (i : Nat) {off n : Nat} (inside : off + n ≤ 4096) :
    hdr ((s.flashProgram (slotBase i + off) (leBytes n 0)).slotHeader i) off n = 0 := by
  have zeros : ∀ n, leBytes n 0 = List.replicate n 0 := fun n => by
    induction n with
    | zero => rfl
    | succ n ih => simp [leBytes, ih, List.replicate_succ]
  rw [State.hdr_slotHeader _ _ inside]
  refine leNat_zeros fun b member => ?_
  obtain ⟨j, small, rfl⟩ := List.mem_map.1 member
  have small := List.mem_range.1 small
  rw [s.flashProgram_get wf, leBytes_length, if_pos (by omega), zeros, Nat.add_sub_cancel_left, List.getD_eq_getElem?_getD,
    List.getElem?_replicate, if_pos small]
  exact BitVec.and_zero

/-- A program elsewhere leaves a field. -/
theorem State.hdr_programmed_elsewhere {s : State} (wf : aWf 0xFF#8 s.flash = true) (i : Nat) {off n a : Nat} {l : List Byte} (inside : off + n ≤ 4096)
    (apart : a + l.length ≤ slotBase i + off ∨ slotBase i + off + n ≤ a) :
    hdr ((s.flashProgram a l).slotHeader i) off n = hdr (s.slotHeader i) off n := by
  rw [State.hdr_slotHeader _ _ inside, State.hdr_slotHeader _ _ inside]
  congr 1
  refine List.map_congr_left fun j small => ?_
  have small := List.mem_range.1 small
  rw [s.flashProgram_get wf, if_neg (by omega)]

theorem State.flashProgram_wf {s : State} (wf : aWf 0xFF#8 s.flash = true) (a : Nat) (l : List Byte) : aWf 0xFF#8 (s.flashProgram a l).flash = true :=
  foldl_wf _ _ (fun _ _ h => aPut_wf _ _ _ _ h) _ _ wf

theorem State.slotHeader_of_flash {s t : State} (same : t.flash = s.flash) (i : Nat) : t.slotHeader i = s.slotHeader i := by
  rw [State.slotHeader, State.slotHeader, State.flashBytes_eq_map, State.flashBytes_eq_map, same]

/-! ### Confirmation (R755) -/

/-- `t` leaves memory, the engines, the fuses and every object but lost events as they are in `s`. -/
structure FlashOnly (s t : State) : Prop where
  mem : t.mem = s.mem
  eng : t.eng = s.eng
  fuses : t.fuses = s.fuses
  obj : ∀ a, a ≠ O.eventsLost → t.obj a = s.obj a

theorem FlashOnly.refl (s : State) : FlashOnly s s := ⟨rfl, rfl, rfl, fun _ _ => rfl⟩

theorem FlashOnly.trans {s t u : State} (h : FlashOnly s t) (h' : FlashOnly t u) : FlashOnly s u :=
  ⟨h'.mem.trans h.mem, h'.eng.trans h.eng, h'.fuses.trans h.fuses, fun a ha => (h'.obj a ha).trans (h.obj a ha)⟩

theorem FlashOnly.rollback {s t : State} (h : FlashOnly s t) : t.rollback = s.rollback := by
  rw [State.rollback, State.rollback, h.fuses]

theorem State.programEvent_only (s : State) (a : Nat) (l : List Byte) (code data : Nat) : FlashOnly s ((s.flashProgram a l).event code data) :=
  ⟨State.event_mem _ _ _, State.event_eng _ _ _, State.event_fuses _ _ _, fun _ lost => State.obj_event _ _ _ lost⟩

/-- CONFIRM of the running slot is programmed, if it is not yet zero. -/
def State.programConfirm (s : State) : State :=
  if hdr (s.slotHeader (s.obj O.bootSlot)) 0x208 4 = 0 then s
  else (s.flashProgram (slotBase (s.obj O.bootSlot) + 0x208) (leBytes 4 0)).event 0x0B03 (hdr (s.slotHeader (s.obj O.bootSlot)) 8 4)

/-- RETIRE of the other slot is programmed where it applies. -/
def State.programRetire (s : State) (slot : Nat) (retire : Bool) : State :=
  if retire then (s.flashProgram (slotBase slot + 0x20C) (leBytes 4 0)).event 0x0B04 slot else s

/-- With AutoRollback the counter is advanced to SECVER. -/
def State.autoAdvance (s : State) : State := if s.obj O.autoRollback = 1 then s.advanceRollback (s.obj O.bootSecVer) none else s

theorem State.confirmImage_eq (s : State) : ∃ retire, s.confirmImage =
    ((s.programConfirm.programRetire (1 - s.obj O.bootSlot) retire).autoAdvance).setObjs [(O.bootConfirmed, 1), (O.updateState, 0)] := ⟨_, rfl⟩

theorem State.autoAdvance_advances (s : State) : let t := s.autoAdvance
    t.mem = s.mem ∧ t.eng = s.eng ∧ t.flash = s.flash ∧ (s.obj O.autoRollback ≠ 1 → t.fuses = s.fuses) ∧
    (s.obj O.autoRollback = 1 → s.obj O.bootSecVer ≤ 128 → t.rollback = max s.rollback (s.obj O.bootSecVer)) := by
  unfold State.autoAdvance
  dsimp only
  split
  · next auto =>
    obtain ⟨fuses, mem, eng, flash, -⟩ := s.advanceRollback_advances (v := s.obj O.bootSecVer) none
    refine ⟨mem, eng, flash, fun manual => absurd auto manual, fun _ few => State.rollback_burned few fun b => (fuses b).trans (or_congr_right ?_)⟩
    exact mem_rollbackBits_none
  · next manual => exact ⟨rfl, rfl, rfl, fun _ => rfl, fun auto => absurd auto manual⟩

theorem State.programConfirm_confirms {s : State} (wf : aWf 0xFF#8 s.flash = true) : let t := s.programConfirm
    FlashOnly s t ∧ hdr (t.slotHeader (s.obj O.bootSlot)) 0x208 4 = 0 ∧ aWf 0xFF#8 t.flash = true := by
  unfold State.programConfirm
  dsimp only
  split
  · next done => exact ⟨.refl s, done, wf⟩
  · refine ⟨s.programEvent_only _ _ _ _, ?_, ?_⟩
    · rw [State.slotHeader_of_flash (State.event_flash _ _ _)]
      exact State.hdr_programmed wf _ (by decide)
    · rw [State.event_flash]
      exact State.flashProgram_wf wf _ _

/-- RETIRE of the other slot leaves CONFIRM of a slot. -/
theorem State.programRetire_leaves {s : State} (wf : aWf 0xFF#8 s.flash = true) (me : Nat) (retire : Bool) :
    let t := s.programRetire (1 - me) retire
    FlashOnly s t ∧ hdr (t.slotHeader me) 0x208 4 = hdr (s.slotHeader me) 0x208 4 := by
  unfold State.programRetire
  dsimp only
  split
  · refine ⟨s.programEvent_only _ _ _ _, ?_⟩
    rw [State.slotHeader_of_flash (State.event_flash _ _ _)]
    refine State.hdr_programmed_elsewhere wf me (by decide) ?_
    rw [leBytes_length, slotBase, slotBase]
    omega
  · exact ⟨.refl s, rfl⟩

/-- A confirmed image: CONFIRM is zero, no update stands, and the counter is at SECVER with AutoRollback. -/
theorem State.confirmImage_confirms {s : State} (wf : aWf 0xFF#8 s.flash = true) : let t := s.confirmImage
    t.obj O.bootConfirmed = 1 ∧ t.obj O.updateState = 0 ∧ t.mem = s.mem ∧ t.eng = s.eng ∧ hdr (t.slotHeader (s.obj O.bootSlot)) 0x208 4 = 0 ∧
    (s.obj O.autoRollback ≠ 1 → t.fuses = s.fuses) ∧
    (s.obj O.autoRollback = 1 → s.obj O.bootSecVer ≤ 128 → t.rollback = max s.rollback (s.obj O.bootSecVer)) := by
  obtain ⟨retire, run⟩ := s.confirmImage_eq
  obtain ⟨programmed, confirm, wf'⟩ := State.programConfirm_confirms wf
  obtain ⟨retired, kept⟩ := State.programRetire_leaves wf' (s.obj O.bootSlot) retire
  have only := programmed.trans retired
  have zero := kept.trans confirm
  dsimp only
  rw [run]
  generalize s.programConfirm.programRetire (1 - s.obj O.bootSlot) retire = u at only zero
  obtain ⟨mem, eng, flash, manual, auto⟩ := u.autoAdvance_advances
  rw [only.obj _ (by decide), only.fuses] at manual
  rw [only.obj _ (by decide), only.obj _ (by decide), only.rollback] at auto
  refine ⟨?_, ?_, mem.trans only.mem, eng.trans only.eng, ?_, manual, auto⟩
  · exact (State.obj_setObj_ne _ _ (by decide)).trans (State.obj_setObj_self _ _ _)
  · exact State.obj_setObj_self _ _ _
  · have header : (u.autoAdvance.setObjs [(O.bootConfirmed, 1), (O.updateState, 0)]).slotHeader (s.obj O.bootSlot) = u.slotHeader (s.obj O.bootSlot) :=
      State.slotHeader_of_flash (s := u) (t := u.autoAdvance.setObjs [(O.bootConfirmed, 1), (O.updateState, 0)]) flash _
    rw [header, zero]

/-! ### Records of the Keep store (R763, R765, R769) -/

theorem keepHeader_length (kind seq len tick : Nat) : (keepHeader kind seq len tick).length = 64 := by
  unfold keepHeader
  simp only [List.length_append, leBytes_length, List.length_replicate]

theorem keepRecord_length (kind seq tick : Nat) (payload : List Byte) : (keepRecord kind seq tick payload).length = 80 + pad8 payload.length := by
  have padded : payload.length ≤ pad8 payload.length := by
    unfold pad8
    omega
  unfold keepRecord
  extract_lets body
  have size : body.length = 64 + payload.length + (pad8 payload.length - payload.length) := by
    rw [List.length_append, List.length_append, keepHeader_length, List.length_replicate]
  rw [List.length_append, List.length_append, List.length_append, leBytes_length, leBytes_length, leBytes_length, size]
  omega

theorem keepArea_slots (kind : Nat) : 0 < (keepArea kind).2.2 := by
  unfold keepArea
  repeat' split
  all_goals decide

/-- A record is written in a slot of its area, and nothing else of memory. -/
theorem State.keepWrite_writes (s : State) (kind : Nat) (payload : List Byte) : ∃ i, i < (keepArea kind).2.2 ∧
    (s.keepWrite kind payload).mem = memPutBytes s.mem (keepSlot kind i) (keepRecord kind (s.obj O.keepLastSeq + 1) s.tick payload) ∧
    ∀ a, a ∉ [O.keepLastSeq, O.keepRecordsWritten, O.staticPagesStale] → (s.keepWrite kind payload).obj a = s.obj a := by
  unfold State.keepWrite
  extract_lets n i seq
  refine ⟨i, ?_, (State.storeBytes_leaves _ _ _).1, fun a other => ?_⟩
  · dsimp only [i]
    split
    · exact Nat.mod_lt _ (keepArea_slots kind)
    · exact keepArea_slots kind
  · simp only [List.mem_cons, List.not_mem_nil, or_false, not_or] at other
    obtain ⟨seq', written, stale⟩ := other
    rw [State.obj_count_ne _ _ _ written, State.obj_setObj_ne _ _ seq']
    exact (State.store_leaves _ _ _ _).2.2 a stale

theorem isKeep_iff (b : Nat) : isKeep b = false ↔ b < 0x20000000 ∨ 0x20800000 ≤ b := by
  simp only [isKeep, inRange, Bool.and_eq_false_iff, decide_eq_false_iff_not]
  omega

/-- A list stored reads back after another stored apart from it. -/
theorem memBytes_memPutBytes_apart {m : List Host.Cell} (wf : Memory.wf m) {a b : Nat} {l k : List Byte}
    (apart : a + l.length ≤ b ∨ b + k.length ≤ a) : memBytes (memPutBytes (memPutBytes m a l) b k) a l.length = l := by
  refine Eq.trans ?_ (memBytes_memPutBytes wf a l)
  rw [memBytes_eq_map, memBytes_eq_map]
  refine List.map_congr_left fun i small => ?_
  have small := List.mem_range.1 small
  rw [memByte_memPutBytes (memPutBytes_wf l m a wf), if_neg (by omega)]

/-- The soft-repair map fits its record's slot: at most 1,024 entries of 8 bytes. -/
theorem State.repairBytes_short (s : State) : s.repairBytes.length ≤ 8196 := by
  have entries : ∀ l : List Nat, (l.flatMap (fun e => leBytes 8 e)).length = 8 * l.length := by
    intro l
    induction l with
    | nil => rfl
    | cons e l ih =>
      rw [List.flatMap_cons, List.length_append, leBytes_length, ih, List.length_cons]
      omega
  have few : (((s.integ.softRepairs ++ s.integ.candidates.map repairWord).eraseDups).take 1024).length ≤ 1024 := by
    rw [List.length_take]
    exact min_le_left _ _
  unfold State.repairBytes
  dsimp only
  rw [List.length_append, leBytes_length, entries]
  omega

/-- A snapshot is written to one of its two slots, and no byte outside the Keep store changes, whether the soft-repair map is written with it or
not. -/
theorem State.writeSnapshot_writes {s : State} (wf : Memory.wf s.mem) : let t := s.writeSnapshot
    t.eng = s.eng ∧ (80 + pad8 s.snapshotBytes.length ≤ 0x200000 →
      (∃ i, i < 2 ∧ (let l := keepRecord 3 (s.obj O.keepLastSeq + 1) s.tick s.snapshotBytes
        memBytes t.mem (keepSlot 3 i) l.length = l)) ∧
      ∀ b, isKeep b = false → memByte t.mem b = memByte s.mem b) := by
  obtain ⟨i, small, stored, -⟩ := s.keepWrite_writes 3 s.snapshotBytes
  have eng := (s.keepWrite_leaves 3 s.snapshotBytes).2
  have small : i < 2 := small
  have place : keepSlot 3 i = 0x20130000 + i * 0x200000 := rfl
  have length := keepRecord_length 3 (s.obj O.keepLastSeq + 1) s.tick s.snapshotBytes
  generalize keepRecord 3 (s.obj O.keepLastSeq + 1) s.tick s.snapshotBytes = l at stored length
  unfold State.writeSnapshot
  generalize s.keepWrite 3 s.snapshotBytes = u at stored eng
  dsimp only
  split
  · obtain ⟨j, few, repairs, -⟩ := u.keepWrite_writes 2 u.repairBytes
    have few : j < 8 := few
    have place' : keepSlot 2 j = 0x20010000 + j * 0x4000 := rfl
    have length' := keepRecord_length 2 (u.obj O.keepLastSeq + 1) u.tick u.repairBytes
    have short := u.repairBytes_short
    generalize keepRecord 2 (u.obj O.keepLastSeq + 1) u.tick u.repairBytes = k at repairs length'
    have size : k.length ≤ 8280 := by
      rw [length', pad8]
      omega
    refine ⟨(u.keepWrite_leaves 2 u.repairBytes).2.trans eng, fun fits => ⟨⟨i, small, ?_⟩, fun b outside => ?_⟩⟩
    · change memBytes (u.keepWrite 2 u.repairBytes).mem (keepSlot 3 i) l.length = l
      rw [repairs, stored]
      exact memBytes_memPutBytes_apart wf (by omega)
    · have outside := (isKeep_iff b).1 outside
      change memByte (u.keepWrite 2 u.repairBytes).mem b = _
      rw [repairs, stored, memByte_memPutBytes (memPutBytes_wf _ _ _ wf), if_neg (by omega), memByte_memPutBytes wf, if_neg (by omega)]
  · refine ⟨eng, fun fits => ⟨⟨i, small, ?_⟩, fun b outside => ?_⟩⟩
    · rw [stored]
      exact memBytes_memPutBytes wf _ _
    · have outside := (isKeep_iff b).1 outside
      rw [stored, memByte_memPutBytes wf, if_neg (by omega)]

/-- A start mode is held in its object and in a record of the configuration area. -/
theorem State.startMode_writes {s : State} (wf : Memory.wf s.mem) (v : Nat) :
    let t := (s.setObj O.startMode v).keepWrite 1 [BitVec.ofNat 8 v, 0, 0, 0]
    t.obj O.startMode = v ∧ t.eng = s.eng ∧ (∀ b, isKeep b = false → memByte t.mem b = memByte s.mem b) ∧
    ∃ i, i < 16 ∧ (let l := keepRecord 1 (s.obj O.keepLastSeq + 1) s.tick [BitVec.ofNat 8 v, 0, 0, 0]
      memBytes t.mem (keepSlot 1 i) l.length = l) := by
  obtain ⟨i, small, stored, objs⟩ := (s.setObj O.startMode v).keepWrite_writes 1 [BitVec.ofNat 8 v, 0, 0, 0]
  have small : i < 16 := small
  have seq : (s.setObj O.startMode v).obj O.keepLastSeq = s.obj O.keepLastSeq := s.obj_setObj_ne v (by decide)
  have tick : (s.setObj O.startMode v).tick = s.tick := s.obj_setObj_ne v (by decide)
  have place : keepSlot 1 i = 0x20000000 + 0 + i * 0x1000 := rfl
  have size : pad8 [BitVec.ofNat 8 v, 0, 0, 0].length = 8 := by simp [pad8]
  have length := keepRecord_length 1 (s.obj O.keepLastSeq + 1) s.tick [BitVec.ofNat 8 v, 0, 0, 0]
  rw [seq, tick, State.setObj_mem] at stored
  rw [size] at length
  refine ⟨(objs _ (by decide)).trans (s.obj_setObj_self _ v), (State.keepWrite_leaves _ _ _).2, fun b outside => ?_, i, small, ?_⟩
  · have outside := (isKeep_iff b).1 outside
    rw [stored, memByte_memPutBytes wf, if_neg (by omega)]
  · rw [stored]
    exact memBytes_memPutBytes wf _ _

/-! ### Commands -/

section
variable {s : State}

theorem execKeyRevoke_eq (src : Src) (words : List (BitVec 32)) : exec (.keyRevoke src words) s =
    .next (s.writeReq src.key src.link.val O.keyRevoke words { mode := !(s.imageRuns && wordsNat words = s.obj O.bootKeySlot) } (fun s =>
      ((s.burn (1220 + wordsNat words)).setObj O.keysRevoked ((s.burn (1220 + wordsNat words)).fuseField 1220 3)).event 0x0B06 (wordsNat words))) := rfl

theorem execRollbackAdvance_eq (src : Src) (words : List (BitVec 32)) (fail : Option (Fin 128)) : exec (.rollbackAdvance src words fail) s =
    .next (s.writeReq src.key src.link.val O.rollbackAdvance words
      { range := decide (s.rollback ≤ wordsNat words) && decide (wordsNat words ≤ s.obj O.bootSecVer) }
      (fun s => s.advanceRollback (wordsNat words) (fail.map (·.val)))) := rfl

theorem execImageConfirm_eq (src : Src) (words : List (BitVec 32)) : exec (.imageConfirm src words) s =
    .next (s.writeReq src.key src.link.val O.imageConfirm words { mode := s.obj O.confirmPolicy = 1 }
      (fun s => if s.onTrial then s.confirmImage else s)) := rfl

theorem execKeepSnapshotNow_eq (src : Src) (words : List (BitVec 32)) : exec (.keepSnapshotNow src words) s =
    .next (s.writeReq src.key src.link.val O.keepSnapshotNow words {} State.snapshotDue) := rfl

theorem execStartMode_eq (src : Src) (words : List (BitVec 32)) : exec (.startMode src words) s =
    .next (s.writeReq src.key src.link.val O.startMode words {} (fun s =>
      (s.setObj O.startMode (wordsNat words)).keepWrite 1 [BitVec.ofNat 8 (wordsNat words), 0, 0, 0])) := rfl

theorem State.onTrial_iff : s.onTrial = true ↔ s.obj O.bootSlot < 2 ∧ s.obj O.bootConfirmed = 0 := by simp [State.onTrial]

/-- The three cases of a snapshot that is due. -/
theorem State.snapshotDue_cases (s : State) : (s.keepPayload 3 = some s.snapshotBytes → s.snapshotDue = s) ∧
    (s.keepPayload 3 ≠ some s.snapshotBytes → s.obj O.hullShedStage ≠ 0 → s.snapshotDue = (s.count O.keepSnapshotsDeferred 32 1).event 0x0B09 0) ∧
    (s.keepPayload 3 ≠ some s.snapshotBytes → s.obj O.hullShedStage = 0 → s.snapshotDue = s.writeSnapshot) := by
  refine ⟨fun same => ?_, fun changed shed => ?_, fun changed calm => ?_⟩
  · rw [State.snapshotDue, if_pos same]
  · rw [State.snapshotDue, if_neg changed, if_pos (by simp [shed])]
  · rw [State.snapshotDue, if_neg changed, if_neg (by simp [calm])]

theorem execConfirmDelayExpiry_eq (healthy : Bool) : exec (.confirmDelayExpiry healthy) s =
    .next (if s.obj O.confirmPolicy = 0 && s.onTrial && healthy then s.confirmImage else s) := rfl

theorem execKeepSnapshotPeriod_eq : exec .keepSnapshotPeriod s =
    .next (if s.serving && s.obj O.keepSnapshotPeriod != 0 && s.obj O.hullReady = 1 && !s.clk.monitor then s.snapshotDue else s) := rfl

end

end Sys2Proof.Machine
end

namespace Sys2Proof.Claims
open Sys2Proof Sys2Proof.Machine

/-- KeyRevoke is refused for the key slot of the running image, and burns its bit for another. -/
theorem keyRevoke_cases {s : State} {src : Src} {words : List (BitVec 32)} (passes : Passes s src O.keyRevoke words true true true) :
    let running := s.obj O.bootSlot ≠ 0xFF ∧ wordsNat words = s.obj O.bootKeySlot
    (running → Refuses s (.keyRevoke src words) src rcMode) ∧
    (¬running → Answers s (.keyRevoke src words) src rcOk (fun u => (∀ b, b ∈ u.fuses ↔ b = 1220 + wordsNat words ∨ b ∈ s.fuses) ∧
      u.obj O.keysRevoked = u.fuseField 1220 3 ∧ u.mem = s.mem ∧ u.eng = s.eng)) := by
  refine ⟨fun running => ?_, fun other => ?_⟩
  · refine refuses_of_extra (execKeyRevoke_eq src words) passes (by decide) (if_pos ?_)
    simpa [State.imageRuns] using running
  · refine answers_of_extra (execKeyRevoke_eq src words) passes ?_ ⟨fun b => ?_, ?_, State.event_mem _ _ _, State.event_eng _ _ _⟩
    · have free : (s.imageRuns && decide (wordsNat words = s.obj O.bootKeySlot)) = false := by
        simpa [State.imageRuns] using other
      rw [free]
      rfl
    · rw [State.event_fuses]
      exact s.mem_burn _ b
    · have shown : ∀ u v : State, v.fuses = u.fuses → v.fuseField 1220 3 = u.fuseField 1220 3 := fun u v same => by rw [State.fuseField, State.fuseField, same]
      refine (State.obj_event _ _ _ (by decide)).trans ((State.obj_setObj_self _ _ _).trans (shown _ _ ?_).symm)
      exact State.event_fuses _ _ _

/-- RollbackAdvance outside its limits is out of range; within them it burns bits up to the value or to one that does not take. -/
theorem rollbackAdvance_cases {s : State} {src : Src} {words : List (BitVec 32)} {fail : Option (Fin 128)}
    (passes : Passes s src O.rollbackAdvance words true true true) :
    let v := wordsNat words
    let ok := s.rollback ≤ v ∧ v ≤ s.obj O.bootSecVer
    let stuck := ∃ f : Fin 128, fail = some f ∧ s.rollback ≤ f.val ∧ f.val < v
    (¬ok → Refuses s (.rollbackAdvance src words fail) src rcRange) ∧
    (ok → Answers s (.rollbackAdvance src words fail) src rcOk (fun u => u.mem = s.mem ∧ u.eng = s.eng ∧
      (∀ b, b ∈ u.fuses ↔ b ∈ s.fuses ∨ (1228 + s.rollback ≤ b ∧ b < 1228 + v ∧ ∀ f : Fin 128, fail = some f → s.rollback ≤ f.val → b < 1228 + f.val)) ∧
      (v ≤ 128 → ¬stuck → u.rollback = v) ∧ u.obj O.rollbackCounter = u.rollback ∧
      (stuck → u.obj O.fuseFailures = satAdd 32 (s.obj O.fuseFailures) 1) ∧ (¬stuck → u.obj O.fuseFailures = s.obj O.fuseFailures))) := by
  intro v ok stuck
  refine ⟨fun outside => ?_, fun inside => ?_⟩
  · refine refuses_of_extra (execRollbackAdvance_eq src words fail) passes (by decide) ((if_neg (by simp)).trans (if_pos ?_))
    simpa [ok, v] using outside
  · obtain ⟨up, limit⟩ := inside
    obtain ⟨bits, halts⟩ := rollbackBits_spec up (fail.map (·.val))
    have same : rollbackStuck s.rollback v (fail.map (·.val)) ↔ stuck := by cases fail <;> simp [rollbackStuck, stuck]
    obtain ⟨fuses, mem, eng, -, counter, failures, -⟩ := s.advanceRollback_advances (v := v) (fail.map (·.val))
    have burned : ∀ b, b ∈ (s.advanceRollback v (fail.map (·.val))).fuses ↔ b ∈ s.fuses ∨
        (1228 + s.rollback ≤ b ∧ b < 1228 + v ∧ ∀ f : Fin 128, fail = some f → s.rollback ≤ f.val → b < 1228 + f.val) := by
      intro b
      rw [fuses b]
      refine or_congr_right ⟨?_, fun ⟨low, high, before⟩ => ⟨b - 1228, (bits _).2 ⟨by omega, by omega, ?_⟩, by omega⟩⟩
      · rintro ⟨x, member, rfl⟩
        obtain ⟨low, high, before⟩ := (bits x).1 member
        exact ⟨by omega, by omega, fun f is from_ => by have := before f.val (by simp [is]) from_; omega⟩
      · intro f is from_
        obtain ⟨g, fails, rfl⟩ := Option.map_eq_some_iff.1 is
        have := before g fails from_
        omega
    have counts := halts.trans same
    refine answers_of_extra (execRollbackAdvance_eq src words fail) passes ?_ ⟨mem, eng, burned, fun few free => ?_, counter, fun halted => ?_, fun free => ?_⟩
    · have within : (decide (s.rollback ≤ wordsNat words) && decide (wordsNat words ≤ s.obj O.bootSecVer)) = true := by
        rw [decide_eq_true up, decide_eq_true limit]
        rfl
      rw [within]
    · rw [State.rollback_burned few fun b => (burned b).trans (or_congr_right ?_)]
      · exact max_eq_right up
      · refine ⟨fun all => ⟨all.1, all.2.1⟩, fun all => ⟨all.1, all.2, fun f fails from_ => ?_⟩⟩
        have beyond : ¬f.val < v := fun short => free ⟨f, fails, from_, short⟩
        omega
    · rw [failures, if_pos (counts.2 halted)]
    · rw [failures, if_neg (free ∘ counts.1)]

/-- Settles O53. That ImageConfirm is refused under policy 0 is the model's choice (log entry 53). -/
theorem fusesConfirmationAndKeepRecords : Obligations.FusesConfirmationAndKeepRecords := by
  unfold Obligations.FusesConfirmationAndKeepRecords
  intro s src words fail healthy wf flash v trial confirmed record onlyKeep snapshot deferred
  obtain ⟨unchanged, shed, changed⟩ := s.snapshotDue_cases
  have written : snapshot s.writeSnapshot := State.writeSnapshot_writes wf
  have confirms : confirmed s.confirmImage := State.confirmImage_confirms flash
  refine ⟨keyRevoke_cases, rollbackAdvance_cases, fun passes => ⟨fun policy => ?policy, fun policy idle => ?confirmedAlready,
    fun policy onTrial => ?confirm⟩, fun waits => ?waits, fun policy onTrial well => ?delay, fun passes => ⟨fun same => ?same, fun new stage => ?deferred,
    fun new calm => ?snapshot⟩, ?period, fun passes => ?startMode⟩
  case policy =>
    refine refuses_of_extra (execImageConfirm_eq src words) passes (by decide) (if_pos ?_)
    simpa using policy
  case confirmedAlready =>
    refine answers_of_extra (execImageConfirm_eq src words) passes (by simp [policy]) (if_neg ?_)
    rwa [State.onTrial_iff]
  case confirm =>
    refine answers_of_extra (execImageConfirm_eq src words) passes (by simp [policy]) ?_
    rw [if_pos (State.onTrial_iff.2 onTrial)]
    exact confirms
  case waits =>
    rw [execConfirmDelayExpiry_eq, if_neg]
    simp only [Bool.and_eq_true, decide_eq_true_eq, State.onTrial_iff]
    rintro ⟨⟨policy, onTrial⟩, well⟩
    rcases waits with other | idle | sick
    · exact other policy
    · exact idle onTrial
    · simp [sick] at well
  case delay =>
    rw [execConfirmDelayExpiry_eq, if_pos]
    · exact ⟨_, rfl, confirms⟩
    · simp [policy, State.onTrial_iff.2 onTrial, well]
  case same => exact answers_of_extra (execKeepSnapshotNow_eq src words) passes rfl (unchanged same)
  case deferred => exact answers_of_extra (execKeepSnapshotNow_eq src words) passes rfl (shed new stage)
  case snapshot => exact answers_of_extra (execKeepSnapshotNow_eq src words) passes rfl ((changed new calm) ▸ written)
  case period =>
    intro due
    have runs : exec .keepSnapshotPeriod s = .next (if due then s.snapshotDue else s) := by
      rw [execKeepSnapshotPeriod_eq]
      simp [due, and_assoc]
    refine ⟨fun quiet => ?_, fun isDue new stage => ?_, fun isDue new calm => ?_⟩
    · rw [runs]
      split
      · next isDue => rw [unchanged (quiet.resolve_left fun notDue => notDue isDue)]
      · rfl
    · rw [runs, if_pos isDue, shed new stage]
    · rw [runs, if_pos isDue, changed new calm]
      exact ⟨_, rfl, written⟩
  case startMode => exact answers_of_extra (execStartMode_eq src words) passes rfl (State.startMode_writes wf v)

end Sys2Proof.Claims

section
/-! The image that runs and the host port: the fuses, the firmware queue, HullReady, the boot slot and the write buffers, and the operations that
leave them alone (R24, R640, R745). -/
namespace Sys2Proof.Machine
open Sys2Proof

/-- `t` has the fuses, the firmware queue, HullReady, the boot slot and the write buffers of the host port of `s`. -/
structure HullKept (s t : State) : Prop where
  fuses : t.fuses = s.fuses
  fwQueue : t.fwQueue = s.fwQueue
  ready : t.obj O.hullReady = s.obj O.hullReady
  slot : t.obj O.bootSlot = s.obj O.bootSlot
  buffers : t.hsp.buffers = s.hsp.buffers

theorem HullKept.refl (s : State) : HullKept s s := ⟨rfl, rfl, rfl, rfl, rfl⟩

theorem HullKept.trans {s t u : State} (a : HullKept s t) (b : HullKept t u) : HullKept s u :=
  ⟨b.fuses.trans a.fuses, b.fwQueue.trans a.fwQueue, b.ready.trans a.ready, b.slot.trans a.slot, b.buffers.trans a.buffers⟩

/-- The parts of the state that `HullKept` speaks of. -/
def State.hullParts (s : State) := (s.fuses, s.fwQueue, s.objs, s.hsp.buffers)

/-- A change of other parts of the state. -/
theorem HullKept.same {s t u : State} (a : HullKept s t) (parts : u.hullParts = t.hullParts) : HullKept s u := by
  simp only [State.hullParts, Prod.mk.injEq] at parts
  obtain ⟨fuses, fwQueue, objs, buffers⟩ := parts
  exact a.trans ⟨fuses, fwQueue, State.obj_of_objs objs _, State.obj_of_objs objs _, buffers⟩

theorem HullKept.ite {s t u : State} {c : Prop} [Decidable c] (a : HullKept s t) (b : HullKept s u) : HullKept s (if c then t else u) := by
  split
  · exact a
  · exact b

/-- Operations in order, each of which keeps these parts. -/
theorem HullKept.foldl {α : Type} {s t : State} {g : State → α → State} (step : ∀ x a, HullKept s x → HullKept s (g x a)) (l : List α)
    (h : HullKept s t) : HullKept s (l.foldl g t) := by
  induction l generalizing t with
  | nil => exact h
  | cons a l ih => exact ih (step t a h)

/-! ### Objects, journal and memory -/

section
variable {s t : State} (a : HullKept s t)
include a

theorem HullKept.setObj {o : Nat} (v : Nat) (other : O.hullReady ≠ o ∧ O.bootSlot ≠ o := by decide) : HullKept s (t.setObj o v) :=
  a.trans ⟨rfl, rfl, State.obj_setObj_ne _ _ other.1, State.obj_setObj_ne _ _ other.2, rfl⟩

theorem HullKept.count {o : Nat} (w n : Nat) (other : O.hullReady ≠ o ∧ O.bootSlot ≠ o := by decide) : HullKept s (t.count o w n) :=
  a.setObj _ other

theorem HullKept.ofBooked {u : State} (booked : Booked t u) : HullKept s u :=
  have buffers : u.hspKept.buffers = t.hspKept.buffers := congrArg Hsp.buffers booked.hsp
  a.trans ⟨booked.fuses, booked.fwQueue, booked.obj _ (by decide), booked.obj _ (by decide), buffers⟩

theorem HullKept.event (c d : Nat) : HullKept s (t.event c d) := a.ofBooked ((Booked.refl t).event c d)

theorem HullKept.modEngine (e : Fin 8) (f : Engine → Engine) : HullKept s (t.modEngine e f) := a.same (by rfl)

theorem HullKept.store (x n v : Nat) : HullKept s (t.store x n v) := by
  obtain ⟨outside, -, obj⟩ := t.store_leaves x n v
  have hsp : (t.store x n v).hsp = t.hsp := by
    unfold State.store State.markStale
    dsimp only
    split <;> rfl
  exact a.trans ⟨congrArg (fun o => o.2.2.2.2.2.2.2.2.2.2.2.2.2.2.2.2.2.2.2.2.2.2.2.2.2.2.2.2.2.2.2.2.2.2.2.2.2.2.2) outside,
    congrArg (fun o => o.2.2.2.2.2.2.2.2.2.2.2.2.2.2.2.2.2.1) outside, obj _ (by decide), obj _ (by decide), congrArg Hsp.buffers hsp⟩

theorem HullKept.mute (r : MuteReason) : HullKept s (t.mute r) := by
  unfold State.mute
  exact HullKept.ite a (a.same (by rfl))

theorem HullKept.enterMode (m cause : Nat) : HullKept s (t.enterMode m cause) := ((a.setObj _).setObj _).event _ _

theorem HullKept.holdRequest : HullKept s t.holdRequest := by
  unfold State.holdRequest
  split
  · exact HullKept.setObj (a.same (by rfl)) _
  · exact a

theorem HullKept.enterSafeMute : HullKept s t.enterSafeMute := by
  unfold State.enterSafeMute
  extract_lets resume s1
  have cleared : HullKept s s1 := a.same (by rfl)
  exact ((cleared.setObj _).enterMode _ _).mute _

theorem HullKept.raiseCause (b : Nat) : HullKept s (t.raiseCause b) := by
  unfold State.raiseCause
  extract_lets old new s1 s2 s3
  have set : HullKept s s1 := a.setObj _
  have reported : HullKept s s2 := set.ite (set.event _ _)
  have marked : HullKept s s3 := reported.ite (reported.same (by rfl))
  exact marked.ite (((marked.mute _).ite marked).ite (marked.holdRequest.ite marked.enterSafeMute))

/-! ### Uncorrectable and correctable words -/

theorem HullKept.queuePage (x : Nat) : HullKept s (t.queuePage x) := by
  unfold State.queuePage
  exact a.ite (HullKept.ite (a.same (by rfl)) (a.count _ _))

theorem HullKept.recordBad (x : Nat) : HullKept s (t.recordBad x) := by
  unfold State.recordBad
  exact HullKept.ite (a.same (by rfl)) a

theorem HullKept.stormCount : HullKept s t.stormCount := by
  unfold State.stormCount
  exact HullKept.ite (((a.same (by rfl)).event _ _).raiseCause _) (a.same (by rfl))

theorem HullKept.noteBad (r x : Nat) : HullKept s (t.noteBad r x) := by
  unfold State.noteBad
  exact HullKept.ite (a.queuePage _) (((((a.count _ _).setObj _).event _ _).recordBad _).stormCount.queuePage _)

theorem HullKept.noteSoft (x : Nat) : HullKept s (t.noteSoft x) := by
  unfold State.noteSoft
  exact a.ite (HullKept.ite (a.same (by rfl)) (a.count _ _))

theorem HullKept.noteSofts (x n : Nat) : HullKept s (t.noteSofts x n) := HullKept.foldl (fun _ _ h => h.noteSoft _) _ a

theorem HullKept.modFault (e : Fin 8) (f : BitVec 64 → BitVec 64) : HullKept s (t.modFault e f) := a.modEngine _ _

theorem HullKept.poisonRead (e : Fin 8) (r x : Nat) : HullKept s (t.poisonRead e r x) := (a.modFault _ _).noteBad _ _

end

/-! ### The delay unit -/

theorem hullObjects_ne_facetTagErrors (e : Fin 8) : O.hullReady ≠ O.facetTagErrors e ∧ O.bootSlot ≠ O.facetTagErrors e := by
  revert e
  decide

theorem hullObjects_ne_clampEvents (e : Fin 8) : O.hullReady ≠ O.clampEvents e ∧ O.bootSlot ≠ O.clampEvents e := by
  revert e
  decide

theorem hullObjects_ne_lastClampedLine (e : Fin 8) : O.hullReady ≠ O.lastClampedLine e ∧ O.bootSlot ≠ O.lastClampedLine e := by
  revert e
  decide

theorem hullObjects_ne_facetGroupsClosed (e : Fin 8) : O.hullReady ≠ O.facetGroupsClosed e ∧ O.bootSlot ≠ O.facetGroupsClosed e := by
  revert e
  decide

theorem hullObjects_ne_facetSaturations (e : Fin 8) : O.hullReady ≠ O.facetSaturations e ∧ O.bootSlot ≠ O.facetSaturations e := by
  revert e
  decide

section
variable {s t : State} (a : HullKept s t) (e : Fin 8)
include a

theorem HullKept.notePoint (p : PointRes) : HullKept s (t.notePoint e p) := by
  unfold State.notePoint
  split
  · exact a.poisonRead _ _ _
  · have noted : HullKept s (p.soft.foldl State.noteSoft t) := HullKept.foldl (fun _ _ h => h.noteSoft _) _ a
    exact HullKept.ite ((noted.modFault _ _).count _ _ (hullObjects_ne_facetTagErrors e)) noted

theorem HullKept.noteClamp (q : Nat) : HullKept s (t.noteClamp e q) :=
  ((a.modEngine _ _).count _ _ (hullObjects_ne_clampEvents e)).setObj _ (hullObjects_ne_lastClampedLine e)

theorem HullKept.noteLane (q : Nat) (r : LaneRes) : HullKept s (t.noteLane e q r) := by
  unfold State.noteLane
  exact HullKept.foldl (fun _ p h => h.notePoint e p) _ (HullKept.ite (a.noteClamp e q) a)

theorem HullKept.serveTap (o : OrbitOp) : HullKept s (t.serveTap e o).1 := by
  unfold State.serveTap
  exact HullKept.foldl (fun _ k h => HullKept.ite (h.noteLane e _ _) h) _ a

theorem HullKept.refusePartial (c : Nat) : HullKept s (t.refusePartial e c) := ((a.modFault _ _).noteBad _ _).count _ _

omit e in
theorem HullKept.correct (x n : Nat) : HullKept s (t.correct x n) := by
  unfold State.correct
  exact HullKept.foldl (fun _ p h => HullKept.ite (HullKept.count (h.same (by rfl)) _ _) h) _ a

theorem HullKept.orbitWord (x : Nat) (w : Word) : HullKept s (t.orbitWord e x w) := by
  unfold State.orbitWord
  split
  · exact a.refusePartial e _
  · exact (a.correct _ _).store _ _ _

theorem HullKept.closeGroup (w : Desc) : HullKept s (t.closeGroup e w) := by
  unfold State.closeGroup
  extract_lets pts fmt xs n x s1 s2
  have noted : HullKept s s1 := HullKept.foldl (fun _ p h => h.notePoint e p) _ a
  have counted : HullKept s s2 :=
    (noted.count _ _ (hullObjects_ne_facetGroupsClosed e)).count _ _ (hullObjects_ne_facetSaturations e)
  split
  · exact counted.refusePartial e _
  · exact (counted.correct _ _).store _ _ _

theorem HullKept.dwrLane (q : Nat) (v : Word) : HullKept s (t.dwrLane e q v) := by
  unfold State.dwrLane
  exact a.ite (HullKept.ite ((a.orbitWord e _ _).modEngine _ _) (HullKept.ite ((a.closeGroup e _).modEngine _ _) (a.modEngine _ _)))

theorem HullKept.outLane (pos c : Nat) (v : Word) : HullKept s (t.outLane e pos c v) := by
  unfold State.outLane
  exact HullKept.ite ((a.orbitWord e _ _).same (by rfl)) a

theorem HullKept.exwLane (pos off : Nat) (v : Word) : HullKept s (t.exwLane e pos off v) := by
  unfold State.exwLane
  split
  · exact a
  · exact HullKept.ite ((a.orbitWord e _ _).same (by rfl)) a

theorem HullKept.serveWrite (o : OrbitOp) : HullKept s (t.serveWrite e o) := by
  unfold State.serveWrite
  refine HullKept.foldl (fun x k h => HullKept.ite ?_ h) _ a
  split
  · exact HullKept.ite (h.dwrLane e _ _) h
  · exact h.outLane e _ _ _
  · exact h.exwLane e _ _ _
  · exact h.ite (h.orbitWord e _ _)
  · exact h

theorem HullKept.serveIo (o : OrbitOp) : HullKept s (t.serveIo e o).1 := by
  unfold State.serveIo
  extract_lets res s1 s2
  have noted : HullKept s s1 := HullKept.foldl (fun _ k h => h.notePoint e _) _ a
  have marked : HullKept s s2 := HullKept.ite (noted.modFault _ _) noted
  exact marked.same (by rfl)

theorem HullKept.serveOp (o : OrbitOp) : HullKept s (t.serveOp e o).1 := by
  unfold State.serveOp
  split
  · exact a.serveWrite e o
  · split
    · exact a.serveIo e o
    · exact a.serveTap e o

theorem HullKept.serveAt (i : Nat) : HullKept s (t.serveAt e i) := by
  unfold State.serveAt
  split
  · exact a
  · next o _ =>
    refine a.ite ?_
    extract_lets r s1
    have served : HullKept s s1 := HullKept.ite ((a.serveOp e o).count _ _) (a.serveOp e o)
    exact HullKept.ite ((served.modEngine _ _).modEngine _ _) (served.modEngine _ _)

theorem HullKept.serveUpTo (n : Nat) : HullKept s (t.serveUpTo e n) := HullKept.foldl (fun _ i h => h.serveAt e i) _ a

/-! ### Bundles -/

theorem HullKept.doStores : HullKept s (t.doStores e) := by
  unfold State.doStores
  extract_lets reqs s1 s2
  have stored : HullKept s s1 := HullKept.foldl (fun _ _ h => HullKept.foldl (fun _ _ h => h.store _ _ _) _ h) _ a
  have marked : HullKept s s2 := HullKept.ite (stored.modFault _ _) stored
  exact marked.modEngine _ _

theorem HullKept.closeBundle : HullKept s (t.closeBundle e) := by
  unfold State.closeBundle
  extract_lets s1 s2 s3 s4
  have stored : HullKept s s2 := (a.modEngine _ _).doStores e
  have served : HullKept s s3 := stored.ite (stored.serveUpTo e _)
  have halted : HullKept s s4 := HullKept.ite (served.serveUpTo e _) served
  exact halted.modEngine _ _

theorem HullKept.openSlot (k : Nat) : HullKept s (t.openSlot e k) := by
  unfold State.openSlot
  exact HullKept.modEngine (HullKept.ite (a.closeBundle e) a) _ _

theorem HullKept.noteLoads (l : List Nat) : HullKept s (t.noteLoads e l) :=
  HullKept.foldl (fun _ _ h => HullKept.ite (h.poisonRead e _ _) (HullKept.ite (h.noteSoft _) h)) _ a

theorem HullKept.noteCoefs (l : List Nat) : HullKept s (t.noteCoefs e l) := by
  unfold State.noteCoefs
  exact HullKept.ite ((a.noteLoads e _).modEngine _ _) (a.noteLoads e _)

end

/-! ### The slot operations -/

/-- What a slot operation leaves of a state: the state itself; its slot opened; its slot opened and its engine changed; or a read of
memory in between. -/
inductive SlotResult (s : State) : State → Prop
  | nothing : SlotResult s s
  | opens (e : Fin 8) (k : Nat) : SlotResult s (s.openSlot e k)
  | enters (e : Fin 8) (k : Nat) (f : Engine → Engine) : SlotResult s (s.slotOp e k f)
  | loads (e : Fin 8) (k : Nat) (l : List Nat) (f : Engine → Engine) : SlotResult s (((s.openSlot e k).noteLoads e l).modEngine e f)
  | coefs (e : Fin 8) (k : Nat) (l : List Nat) (f : Engine → Engine) : SlotResult s (((s.openSlot e k).noteCoefs e l).modEngine e f)

theorem SlotResult.loadsOnce (s : State) (e : Fin 8) (k : Nat) (x : Nat) (f : Engine → Engine) (c : Prop) [Decidable c] :
    SlotResult s ((if c then s.openSlot e k else (s.openSlot e k).noteLoads e [x]).modEngine e f) := by
  split
  · exact .loads e k [] f
  · exact .loads e k [x] f

theorem SlotResult.coefsOnce (s : State) (e : Fin 8) (k : Nat) (x : Nat) (f : Engine → Engine) (c : Prop) [Decidable c] :
    SlotResult s ((if c then s.openSlot e k else (s.openSlot e k).noteCoefs e [x]).modEngine e f) := by
  split
  · exact .loads e k [] f
  · exact .coefs e k [x] f

/-- A slot operation runs by what its command answers. -/
theorem SlotResult.ofNext {s t : State} {o : Out} (answers : o = .next t) (h : SlotResult s t) : SlotResult s (outState s o) := by
  rw [answers]
  exact h

/-- A slot operation has one of these results. -/
theorem State.runSlot_result (s : State) (i : Instr) : SlotResult s (s.runSlot i) := by
  unfold State.runSlot
  cases i with
  | mnop e => exact .ofNext rfl (.opens _ _)
  | anop e => exact .ofNext rfl (.opens _ _)
  | xnop e => exact .ofNext rfl (.opens _ _)
  | ynop e => exact .ofNext rfl (.opens _ _)
  | onop e => exact .ofNext rfl (.opens _ _)
  | cnop e => exact .ofNext rfl (.opens _ _)
  | ldv e y v p mode m => exact .ofNext rfl (.loads _ _ _ _)
  | lds e y v p mode => exact .ofNext rfl (.loads _ _ _ _)
  | ldb e y v p mode m => exact .ofNext rfl (.loadsOnce _ _ _ _ _ _)
  | ldc e v p mode m => exact .ofNext rfl (.coefs _ _ _ _)
  | ldcb e v p mode m => exact .ofNext rfl (.coefsOnce _ _ _ _ _ _)
  | _ => first | exact .nothing | exact .ofNext rfl (.enters _ _ _)

end Sys2Proof.Machine
end

section
/-! The image that runs: the end of a tick, an abandoned migration, the reset of the Hull core, slot selection and Recovery leave the fuses and the
firmware queue alone; HullReady and the boot slot change where the ROM sets them (R24, R35, R738, R754). -/
namespace Sys2Proof.Machine
open Sys2Proof

/-! ### The end of a tick -/

section
variable {s t : State} (a : HullKept s t)
include a

theorem HullKept.runSlot (i : Instr) : HullKept s (t.runSlot i) := by
  refine a.trans ?_
  have result := t.runSlot_result i
  generalize t.runSlot i = u at result
  have opened (e : Fin 8) (k : Nat) : HullKept t (t.openSlot e k) := HullKept.openSlot (.refl t) e k
  cases result with
  | nothing => exact .refl t
  | opens e k => exact opened e k
  | enters e k f => exact (opened e k).modEngine e f
  | loads e k l f => exact ((opened e k).noteLoads e l).modEngine e f
  | coefs e k l f => exact ((opened e k).noteCoefs e l).modEngine e f

variable (e : Fin 8)

theorem HullKept.fetchTrap (addr : Nat) : HullKept s (t.fetchTrap e addr) :=
  ((a.modFault e _).modEngine e _).noteBad _ _

theorem HullKept.issueBundle : HullKept s (t.issueBundle e) := by
  unfold State.issueBundle
  extract_lets x s0
  have closed : HullKept s s0 := a.ite (a.closeBundle e)
  refine (closed.closeBundle e).ite ?_
  split
  · exact closed.fetchTrap e _
  · exact (HullKept.foldl (fun _ i h => h.runSlot i) _ (closed.noteSofts _ _)).closeBundle e

theorem HullKept.engineCycle : HullKept s (t.engineCycle e) := by
  unfold State.engineCycle
  exact HullKept.ite ((a.issueBundle e).modEngine e _) a

omit e in
theorem HullKept.engCycle : HullKept s t.engCycle := HullKept.foldl (fun _ e h => h.engineCycle e) _ a

omit e in
theorem HullKept.finishPrograms (n : Nat) : HullKept s (t.finishPrograms n) := by
  induction n generalizing t with
  | zero => exact a
  | succ n ih => exact HullKept.ite (ih a.engCycle) a

theorem HullKept.endTick : HullKept s (t.endTick e) := by
  unfold State.endTick
  extract_lets s1
  have closed : HullKept s s1 := a.ite (a.closeBundle e)
  exact closed.ite (closed.serveUpTo e _)

omit e in
theorem HullKept.finishTick : HullKept s t.finishTick := HullKept.foldl (fun _ e h => h.endTick e) _ (a.finishPrograms _)

end

/-! ### A migration abandoned -/

theorem hullObjects_ne_backgroundPortCycles (e : Fin 8) :
    O.hullReady ≠ O.backgroundPortCycles e.val ∧ O.bootSlot ≠ O.backgroundPortCycles e.val := by
  revert e
  decide

section
variable {s t : State} (a : HullKept s t)
include a

theorem HullKept.setObjs {l : List (Nat × Nat)} (other : ∀ p ∈ l, O.hullReady ≠ p.1 ∧ O.bootSlot ≠ p.1) : HullKept s (t.setObjs l) := by
  induction l generalizing t with
  | nil => exact a
  | cons p l ih =>
    exact ih (a.setObj p.2 (other p List.mem_cons_self)) (fun q hq => other q (List.mem_cons_of_mem p hq))

theorem HullKept.unstatic (pages : List Nat) : HullKept s (t.unstatic pages) := HullKept.setObj (a.same (by rfl)) _

theorem HullKept.freeLines (g : GImage) (l : List PlacedLine) : HullKept s (t.freeLines g l) :=
  HullKept.unstatic (HullKept.foldl (fun _ _ h => h.modEngine _ _) l a) _

theorem HullKept.eraseCode (l : List PlacedBlock) : HullKept s (t.eraseCode l) :=
  HullKept.foldl (fun _ _ h => HullKept.foldl (fun _ _ h => h.store _ _ _) _ h) l a

theorem HullKept.removeBlocks (e : Nat) (l : List PlacedBlock) : HullKept s (t.removeBlocks e l) := by
  unfold State.removeBlocks
  extract_lets k s1 s2
  have ranged : HullKept s s2 := HullKept.ite (a.same (by rfl)) (a.same (by rfl))
  exact a.ite (HullKept.ite ((a.eraseCode l).same (by rfl)) (ranged.same (by rfl)))

theorem HullKept.portObjects (g : Graph) (more : List PlacedBlock) (gone : List Nat) (mover : List (Nat × Nat)) :
    HullKept s (t.portObjects g more gone mover) :=
  HullKept.foldl (fun _ e h => h.setObj _ (hullObjects_ne_backgroundPortCycles e)) engines a

theorem HullKept.reshare (g : Graph) : HullKept s (t.reshare g) := by
  unfold State.reshare State.writeOrbShare
  extract_lets sh v sum
  have shared : HullKept s (if (true && decide (sum ≤ 64)) = true then { t with io := { t.io with pendShare := some (shareWord sh.1) } }
    else { t with regErrors := t.regErrors + 1 }) := HullKept.ite (a.same (by rfl)) (a.same (by rfl))
  exact HullKept.portObjects (shared.same (by rfl)) g _ _ _

theorem HullKept.withdraw (g : Graph) (m : Migration) : HullKept s (t.withdraw g m) := by
  unfold State.withdraw
  extract_lets pages old s1 s2
  have freed : HullKept s s1 := ((a.freeLines g.img m.lines).unstatic _).same (by rfl)
  have cleared : HullKept s s2 := by
    refine freed.ite (HullKept.reshare ?_ g)
    exact HullKept.modEngine (HullKept.ite (freed.modEngine _ _) (freed.removeBlocks _ _)) _ _
  exact cleared.ite (cleared.same (by rfl))

theorem HullKept.noteStay (g : Graph) (m : Migration) : HullKept s (t.noteStay g m) := by
  unfold State.noteStay
  exact HullKept.ite (a.setObj _) a

theorem HullKept.abandon (cause : Nat) : HullKept s (t.abandon cause) := by
  cases moving : t.til.mig with
  | none => simpa only [State.abandon, moving] using a
  | some m =>
    cases inForce : t.til.graph with
    | none => simpa only [State.abandon, moving, inForce] using a
    | some g =>
      have taken : HullKept s (t.withdraw g m) := a.withdraw g m
      simp only [State.abandon, moving, inForce]
      refine HullKept.noteStay (HullKept.event (HullKept.count ?_ _ _) _ _) g m
      exact HullKept.setObj (o := O.migrationCause) (HullKept.setObj (o := O.migrationState) (taken.same (by rfl)) 6) cause

theorem HullKept.stopGraph : HullKept s t.stopGraph := by
  unfold State.stopGraph
  extract_lets s0 s1 s2 io s3
  have ticked : HullKept s s0 := HullKept.ite a.finishTick a
  have left : HullKept s s1 := HullKept.ite (ticked.abandon 6) ticked
  have stopped : HullKept s s3 := left.same (by rfl)
  exact HullKept.ite (stopped.setObj _) stopped

/-- Patchbay starts (R35). -/
theorem HullKept.toPatchbay : HullKept s t.toPatchbay := ((a.mute _).stopGraph).setObjs (by decide)

/-! ### The queue of the Hull core answered -/

theorem HullKept.setSession (x : Session) : HullKept s (t.setSession x) := by
  unfold State.setSession
  exact HullKept.ite (a.same (by rfl)) (a.same (by rfl))

theorem HullKept.sendRouted (bulk : Bool) (m : Msg) : HullKept s (t.sendRouted bulk m) := by
  unfold State.sendRouted
  refine HullKept.ite (a.same (by rfl)) ?_
  split
  · exact a.same (by rfl)
  · exact a.count _ _

theorem HullKept.journal (r : Record) : HullKept s (t.journal r) := a.ofBooked ((Booked.refl t).journal r)

theorem HullKept.respond (k : SessKey) (addr code : Nat) (words : List (BitVec 32)) : HullKept s (t.respond k addr code words) :=
  a.ofBooked ((Booked.refl t).respond k addr code words)

theorem HullKept.answerUnit (k : SessKey) (addr code : Nat) (words : List (BitVec 32)) : HullKept s (t.answerUnit k addr code words) := by
  unfold State.answerUnit
  exact HullKept.ite ((a.respond _ _ _ _).setSession _) (a.respond _ _ _ _)

theorem HullKept.closeXfer (k : SessKey) (keep : Nat) : HullKept s (t.closeXfer k keep) := by
  unfold State.closeXfer
  exact HullKept.ite (HullKept.setSession (a.setObj _) _) a

theorem HullKept.refuseEnd (k : SessKey) (kport addr : Nat) (x : Xfer) (c : Nat) : HullKept s (t.refuseEnd k kport addr x c) := by
  unfold State.refuseEnd
  extract_lets s1
  have closed : HullKept s s1 := a.ite (a.closeXfer k 0)
  exact (HullKept.ite (closed.ofBooked (Booked.refl _).refuseStrict) (closed.journal _)).answerUnit _ _ _ _

theorem HullKept.abortXfer (k : SessKey) (kport addr : Nat) (x : Xfer) (c : Nat) : HullKept s (t.abortXfer k kport addr x c) := by
  unfold State.abortXfer
  exact ((HullKept.ite (a.closeXfer k 0) a).journal _).answerUnit _ _ _ _

theorem HullKept.refuseUnit (k : SessKey) (kport addr kind c : Nat) : HullKept s (t.refuseUnit k kport addr kind c) := by
  unfold State.refuseUnit
  split
  · exact a.answerUnit _ _ _ _
  · exact (a.refuseEnd _ _ _ _ _).ite ((a.abortXfer _ _ _ _ _).ite (a.answerUnit _ _ _ _))

theorem HullKept.refuse (r : FwReq) (code : Nat) : HullKept s (t.refuse r code) := by
  unfold State.refuse
  refine HullKept.ite ?_ ((a.refuseUnit _ _ _ _ _).ite (a.respond _ _ _ _))
  refine HullKept.ofBooked ?_ (t.finishWrite_booked r.key r.link r.addr r.words code id)
  exact a.ite a

theorem HullKept.routeAnswer (r : FwReq) : HullKept s (t.routeAnswer r) := by
  unfold State.routeAnswer
  split
  · exact a
  · split
    · exact a.sendRouted _ _
    · exact a.ite (a.same (by rfl))
    · exact a

theorem HullKept.busyReq (r : FwReq) : HullKept s (t.busyReq r) := by
  unfold State.busyReq
  extract_lets u
  have refused : HullKept s u := HullKept.refuse (a.same (by rfl)) r rcBusy
  exact HullKept.routeAnswer (refused.same (by rfl)) r

end

end Sys2Proof.Machine
end

section
/-! A lost page of the Hull image: the Hull core resets, slot selection runs, and Recovery is entered where no slot starts (R24, R708, R738). -/
namespace Sys2Proof.Machine
open Sys2Proof

/-! ### Pages -/

theorem mem_setDel_ne {l : List Nat} {k b : Nat} (h : b ∈ setDel l k) : b ≠ k := by
  simpa using (List.mem_filter.mp h).2

theorem notMem_setDel (l : List Nat) (k : Nat) : k ∉ setDel l k := fun h => mem_setDel_ne h rfl

section
variable {s t : State} (a : HullKept s t)
include a

theorem HullKept.curePage (page : Nat) : HullKept s (t.curePage page) := a.same (by rfl)

theorem HullKept.rangeCount (page : Nat) {o : Nat} (other : O.hullReady ≠ o ∧ O.bootSlot ≠ o) : HullKept s (t.rangeCount page o) := by
  unfold State.rangeCount
  split
  · exact HullKept.ite (a.count _ _ other) a
  · exact a

theorem HullKept.reloaded (page : Nat) : HullKept s (t.reloaded page) := by
  unfold State.reloaded
  have reported : HullKept s (((t.curePage page).count O.pagesReloaded 32 1).event 0x0502 page) :=
    ((a.curePage page).count _ _).event _ _
  exact HullKept.rangeCount (reported.same (by rfl)) page (by decide)

theorem HullKept.makeStatic (x n : Nat) : HullKept s (t.makeStatic x n) := by
  refine HullKept.foldl (fun u p h => ?_) _ a
  unfold State.markStale
  exact HullKept.ite (HullKept.setObj (h.same (by rfl)) _) (h.same (by rfl))

/-! ### A slot tried -/

theorem HullKept.noteFlash (x n : Nat) : HullKept s (t.noteFlash x n) := by
  unfold State.noteFlash
  exact HullKept.ite (a.setObj _) a

theorem HullKept.setSlotResult (i v : Nat) : HullKept s (t.setObj (slotResult i) v) := by
  refine a.setObj v ?_
  unfold slotResult
  split <;> decide

theorem HullKept.useTrial (i : Nat) (h : List Byte) : HullKept s (t.useTrial i h) := by
  unfold State.useTrial
  exact a.ite (a.same (by rfl))

theorem HullKept.verifyImage (h payload : List Byte) : HullKept s (t.verifyImage h payload).2 := by
  unfold State.verifyImage
  extract_lets s1 sig plain
  have stored : HullKept s s1 := a.store _ _ _
  split
  · exact stored
  · clear_value plain
    cases plain with
    | none => exact stored.same (by rfl)
    | some p =>
      have copied : HullKept s (s1.storeBytes payloadBase p) := stored.store _ _ _
      dsimp only
      split <;> exact copied

end

/-- `t` has the fuses, the firmware queue, HullReady and the write buffers of `s`; the boot slot may be another. -/
structure QueueKept (s t : State) : Prop where
  fuses : t.fuses = s.fuses
  fwQueue : t.fwQueue = s.fwQueue
  ready : t.obj O.hullReady = s.obj O.hullReady
  buffers : t.hsp.buffers = s.hsp.buffers

theorem HullKept.toQueueKept {s t : State} (a : HullKept s t) : QueueKept s t := ⟨a.fuses, a.fwQueue, a.ready, a.buffers⟩

theorem QueueKept.trans {s t u : State} (a : QueueKept s t) (b : QueueKept t u) : QueueKept s u :=
  ⟨b.fuses.trans a.fuses, b.fwQueue.trans a.fwQueue, b.ready.trans a.ready, b.buffers.trans a.buffers⟩

/-- Only the boot slot is set. -/
theorem QueueKept.setBootSlot (s : State) (v : Nat) : QueueKept s (s.setObj O.bootSlot v) :=
  ⟨rfl, rfl, State.obj_setObj_ne _ _ (by decide), rfl⟩

/-- An image started is that of its slot (R738). -/
theorem State.startImage_slot (s : State) (i : Nat) (h : List Byte) (confirmed xip : Bool) :
    QueueKept s (s.startImage i h confirmed xip) ∧ (s.startImage i h confirmed xip).obj O.bootSlot = i := by
  have started : HullKept (s.setObj O.bootSlot i) (s.startImage i h confirmed xip) := by
    unfold State.startImage
    extract_lets s1 x s2
    have named : HullKept (s.setObj O.bootSlot i) s1 := HullKept.setObjs (.refl _) (by simp +decide)
    exact HullKept.event (HullKept.makeStatic (HullKept.makeStatic (named.same (by rfl)) _ _) _ _) _ _
  exact ⟨(QueueKept.setBootSlot s i).trans started.toQueueKept, started.slot.trans (s.obj_setObj_self _ _)⟩

/-- A try leaves the boot slot in the slot tried, where it has booted (R738). -/
theorem State.trySlot_slot (s : State) (mark : Bool) (i : Nat) :
    QueueKept s (s.trySlot mark i).2 ∧ ((s.trySlot mark i).1 = true → (s.trySlot mark i).2.obj O.bootSlot = i) := by
  unfold State.trySlot
  extract_lets h s1 r s2
  have noted : HullKept s s1 := HullKept.noteFlash (HullKept.ite (HullKept.useTrial (.refl s) i h) (.refl s)) _ _
  have read : HullKept s r.2 := by
    dsimp only [r]
    split
    · exact noted
    · exact noted.verifyImage _ _
  have recorded : HullKept s s2 := read.setSlotResult i _
  split
  · obtain ⟨queue, slot⟩ := s2.startImage_slot i h (hdr h 0x208 4 = 0) true
    exact ⟨recorded.toQueueKept.trans queue, fun _ => slot⟩
  · exact ⟨(recorded.event _ _).toQueueKept, fun h => absurd h Bool.false_ne_true⟩

theorem State.candidateSlots_lt (s : State) {i : Nat} (h : i ∈ s.candidateSlots) : i < 2 := by
  have two : ∀ j ∈ ([0, 1] : List Nat).filter (fun j => s.headerCode j = 0), j < 2 := by
    intro j hj
    have := (List.mem_filter.mp hj).1
    simp only [List.mem_cons, List.not_mem_nil, or_false] at this
    omega
  unfold State.candidateSlots at h
  generalize ([0, 1] : List Nat).filter (fun j => s.headerCode j = 0) = l at two h
  dsimp only at h
  split at h
  next x y =>
    refine two i ?_
    split at h
    · simpa [or_comm] using h
    · exact h
  next => exact two i h

/-- What slot selection has found so far: where a slot has booted, the boot slot is one of the two (R738). -/
structure Selected (s : State) (p : Bool × State) : Prop where
  queue : QueueKept s p.2
  slot : p.1 = true → p.2.obj O.bootSlot < 2

theorem Selected.foldl {s : State} (only : Bool) (l : List Nat) (two : ∀ i ∈ l, i < 2) {p : Bool × State} (so : Selected s p) :
    Selected s (l.foldl (fun p i => if p.1 then (true, p.2.setObj (slotResult i) 13) else p.2.trySlot only i) p) := by
  induction l generalizing p with
  | nil => exact so
  | cons i l ih =>
    refine ih (fun j hj => two j (List.mem_cons_of_mem i hj)) ?_
    dsimp only
    split
    next booted =>
      have passed : HullKept p.2 (p.2.setObj (slotResult i) 13) := HullKept.setSlotResult (.refl _) i 13
      exact ⟨so.queue.trans passed.toQueueKept, fun _ => passed.slot ▸ so.slot booted⟩
    next =>
      obtain ⟨queue, slot⟩ := p.2.trySlot_slot only i
      exact ⟨so.queue.trans queue, fun booted => (slot booted).trans_lt (two i List.mem_cons_self)⟩

theorem State.slotSelect_selected (s : State) (only : Option Nat) : Selected s (s.slotSelect only) := by
  unfold State.slotSelect
  extract_lets s1 all
  have noted : HullKept s s1 := by
    refine HullKept.foldl (fun t i h => ?_) _ (.refl s)
    exact (h.noteFlash _ _).setSlotResult i _
  exact Selected.foldl _ all (fun i hi => s.candidateSlots_lt (List.mem_filter.mp hi).1)
    ⟨noted.toQueueKept, fun h => absurd h Bool.false_ne_true⟩

/-! ### Recovery and the reset of the Hull core -/

/-- Recovery leaves the fuses and the firmware queue, and no slot is the one that runs (R28). -/
theorem State.enterRecovery_slot (s : State) (cause : Nat) :
    QueueKept s (s.enterRecovery cause) ∧ (s.enterRecovery cause).obj O.bootSlot = 0xFF := by
  unfold State.enterRecovery
  extract_lets s1
  have entered : HullKept s (s1.event 0x0B02 cause) :=
    HullKept.event (HullKept.ite (HullKept.setObj (.refl s) _) (HullKept.enterMode (.refl s) _ _)) _ _
  generalize s1.event 0x0B02 cause = u at entered
  have rom : QueueKept u u.romLoader := ⟨rfl, rfl, State.obj_setObj_ne _ _ (by decide), rfl⟩
  have started : HullKept u.romLoader u.romLoader.toPatchbay := HullKept.toPatchbay (.refl _)
  exact ⟨(entered.toQueueKept.trans rom).trans started.toQueueKept, started.slot.trans (State.obj_setObj_self _ _ _)⟩

/-- A reset of the Hull core empties its queue and clears HullReady (R24, R443). -/
theorem State.hullReset_clears (s : State) : s.hullReset.fuses = s.fuses ∧ s.hullReset.fwQueue = [] ∧ s.hullReset.obj O.hullReady = 0 := by
  unfold State.hullReset
  extract_lets q s1 s2
  have cleared : HullKept (({ s with fwQueue := [] } : State).setObj O.hullReady 0) (s2.setObj O.loaderState 0) := by
    have answered : HullKept (({ s with fwQueue := [] } : State).setObj O.hullReady 0) s1 :=
      HullKept.foldl (fun _ r h => h.busyReq r) q (.refl _)
    exact HullKept.setObj (HullKept.ite (answered.abandon 1) answered) _
  exact ⟨cleared.fuses, cleared.fwQueue, cleared.ready.trans (State.obj_setObj_self _ _ _)⟩

/-- After the loss of a page of the running image the queue of the Hull core is empty, HullReady 0 and every fuse as it was; a slot runs, or
none does (R24, R708). -/
theorem State.imagePageLost_restarts (s : State) (page : Nat) : let t := s.imagePageLost page
    t.obj O.hullReady = 0 ∧ t.fwQueue = [] ∧ t.fuses = s.fuses ∧ (t.obj O.bootSlot < 2 ∨ t.obj O.bootSlot = 0xFF) := by
  obtain ⟨fuses, queue, ready⟩ := s.hullReset_clears
  have selected := s.hullReset.slotSelect_selected none
  unfold State.imagePageLost
  generalize s.hullReset.slotSelect none = r at selected
  have settled (t : State) (kept : QueueKept r.2 t) : t.obj O.hullReady = 0 ∧ t.fwQueue = [] ∧ t.fuses = s.fuses := by
    have all := selected.queue.trans kept
    exact ⟨all.ready.trans ready, all.fwQueue.trans queue, all.fuses.trans fuses⟩
  dsimp only
  split
  next booted =>
    have loaded : HullKept r.2 (r.2.reloaded page) := HullKept.reloaded (.refl _) page
    obtain ⟨ready, queue, fuses⟩ := settled _ loaded.toQueueKept
    exact ⟨ready, queue, fuses, .inl (loaded.slot ▸ selected.slot booted)⟩
  next =>
    obtain ⟨kept, slot⟩ := r.2.enterRecovery_slot 6
    obtain ⟨ready, queue, fuses⟩ := settled _ kept
    exact ⟨ready, queue, fuses, .inr slot⟩

end Sys2Proof.Machine
end

section
/-! What PAGE_RECOVERY does with the page at the front of the recovery queue (R702, R706, R708, R709). -/
namespace Sys2Proof.Machine
open Sys2Proof

/-- The state with another recovery queue. -/
def State.withQueue (s : State) (l : List Nat) : State := { s with integ := { s.integ with queue := l } }

@[simp] theorem State.withQueue_engine (s : State) (l : List Nat) (e : Fin 8) : (s.withQueue l).engine e = s.engine e := rfl

@[simp] theorem State.withQueue_isActiveBank (s : State) (l : List Nat) (page : Nat) : (s.withQueue l).isActiveBank page = s.isActiveBank page := by
  unfold State.isActiveBank
  generalize bankOf page = bank
  rfl

@[simp] theorem State.withQueue_isStatic (s : State) (l : List Nat) (page : Nat) : (s.withQueue l).isStatic page = s.isStatic page := by
  unfold State.isStatic
  rfl

@[simp] theorem State.withQueue_isStale (s : State) (l : List Nat) (page : Nat) : (s.withQueue l).isStale page = s.isStale page := by
  unfold State.isStale
  generalize bankOf page = bank
  rfl

@[simp] theorem State.withQueue_mem (s : State) (l : List Nat) : (s.withQueue l).mem = s.mem := rfl

@[simp] theorem State.withQueue_parityOf (s : State) (l : List Nat) (page : Nat) : (s.withQueue l).parityOf page = s.parityOf page := rfl

@[simp] theorem State.withQueue_erasedUnits (s : State) (l : List Nat) (page : Nat) : (s.withQueue l).erasedUnits page = s.erasedUnits page := rfl

theorem execPageRecovery_empty {s : State} (empty : s.integ.queue = []) : exec .pageRecovery s = .next s := by
  change execPageRecovery s = _
  simp only [execPageRecovery, empty]

section
variable {s : State} {page : Nat} {rest : List Nat} (queued : s.integ.queue = page :: rest)
include queued

theorem execPageRecovery_front : exec .pageRecovery s = .next (
    if s.hullImagePage page && ((s.withQueue rest).handlePage page).integ.poison.contains page
    then ((s.withQueue rest).handlePage page).imagePageLost page else (s.withQueue rest).handlePage page) := by
  change execPageRecovery s = _
  simp only [execPageRecovery, queued]
  rfl

/-- A page that is not of the running image, or that is not marked after it has been handled, is handled alone. -/
theorem execPageRecovery_handled (spared : s.hullImagePage page = false ∨ page ∉ ((s.withQueue rest).handlePage page).integ.poison) :
    exec .pageRecovery s = .next ((s.withQueue rest).handlePage page) := by
  rw [execPageRecovery_front queued, if_neg]
  rcases spared with other | unmarked
  · simp [other]
  · simp [unmarked]

/-- A page of the running image that stays marked restarts the Hull core (R708). -/
theorem execPageRecovery_lost (image : s.hullImagePage page = true) (marked : page ∈ ((s.withQueue rest).handlePage page).integ.poison) :
    exec .pageRecovery s = .next (((s.withQueue rest).handlePage page).imagePageLost page) := by
  rw [execPageRecovery_front queued, if_pos]
  simp [image, marked]

end

/-! ### A page handled -/

theorem State.handlePage_active {s : State} {page : Nat} {e : Fin 8} (active : s.isActiveBank page = some e) :
    s.handlePage page = s.modEngine e (fun x => { x with repairSwap := true }) := by
  simp only [State.handlePage, active]

section
variable {s : State} {page : Nat} (inactive : s.isActiveBank page = none)
include inactive

theorem State.handlePage_recovered (static : s.isStatic page = true) (fresh : s.isStale page = false) {t : State} (recovers : s.recoverAt page = some t) :
    s.handlePage page = t.rangeCount page O.rangePagesRecovered := by
  simp only [State.handlePage, inactive, static, fresh, recovers, if_true, Bool.false_eq_true, if_false]

/-- A static page whose origin the hardware does not hold is marked and waits for the loader (R695, R709). -/
theorem State.handlePage_marked (static : s.isStatic page = true) (fails : s.isStale page = true ∨ s.recoverAt page = none)
    (elsewhere : bankOf page = none) (loaded : isDictStore page = false) : s.handlePage page = s.markPoison page := by
  have none : (if s.isStale page then none else s.recoverAt page) = none := by
    rcases fails with stale | fails
    · rw [if_pos stale]
    · rw [fails, ite_self]
  simp only [State.handlePage, inactive, static, none, if_true, State.fromOrigin, elsewhere, loaded, Bool.false_and, Bool.false_eq_true, if_false]

theorem State.handlePage_zeroed (dynamic : s.isStatic page = false) :
    s.handlePage page = ((s.markPoison page).zeroPage page).rangeCount page O.rangePagesReloadedOrZeroed := by
  simp only [State.handlePage, inactive, dynamic, Bool.false_eq_true, if_false]

end

theorem State.rangeCount_eng (s : State) (page o : Nat) : (s.rangeCount page o).eng = s.eng := by
  unfold State.rangeCount
  split
  · dsimp only
    split <;> rfl
  · rfl

/-- The count of the range pass changes no other object. -/
theorem State.obj_rangeCount_ne (s : State) (page : Nat) {o a : Nat} (h : a ≠ o) : (s.rangeCount page o).obj a = s.obj a := by
  unfold State.rangeCount
  split
  · dsimp only
    split
    · exact s.obj_count_ne _ _ h
    · rfl
  · rfl

/-- A page counted and reported: the object of the count is one higher. -/
theorem State.reportPage_leaves (s : State) {o : Nat} (c d : Nat) (h : o ≠ O.eventsLost) : let t := (s.count o 32 1).event c d
    t.mem = s.mem ∧ t.integ = s.integ ∧ t.eng = s.eng ∧ t.obj o = satAdd 32 (s.obj o) 1 :=
  ⟨State.event_mem _ _ _, State.event_integ _ _ _, State.event_eng _ _ _, (State.obj_event _ _ _ h).trans (State.obj_count_self _ _ _ _)⟩

theorem State.freeTrap_leaves (s : State) (page : Nat) : let t := s.freeTrap page
    t.mem = s.mem ∧ t.integ = s.integ ∧ t.objs = s.objs := ⟨rfl, rfl, rfl⟩

/-- A page whose words stand again is marked and queued no more (R702). -/
theorem State.curePage_leaves (s : State) (page : Nat) : let t := s.curePage page
    t.mem = s.mem ∧ t.eng = s.eng ∧ t.objs = s.objs ∧ page ∉ t.integ.poison ∧ page ∉ t.integ.queue :=
  ⟨rfl, rfl, rfl, notMem_setDel _ _, notMem_setDel _ _⟩

theorem State.recoverAt_none {s : State} {page : Nat}
    (lost : recoverPage (fun i => memByte s.mem (page + i)) (s.parityOf page) (s.erasedUnits page) = none) : s.recoverAt page = none := by
  unfold State.recoverAt
  generalize recoverPage (fun i => memByte s.mem (page + i)) (s.parityOf page) (s.erasedUnits page) = r at lost
  subst lost
  rfl

theorem State.recoverAt_some {s : State} {page n : Nat} {l : List (Nat × Byte)}
    (recovers : recoverPage (fun i => memByte s.mem (page + i)) (s.parityOf page) (s.erasedUnits page) = some (l, n)) :
    s.recoverAt page = some ((((({ s with mem := l.foldl (fun m p => memPut m (page + p.1) p.2) s.mem } : State).curePage page).count
      O.pagesRecovered 32 1).event 0x0501 (page + (n % 256) * 2 ^ 40)).freeTrap page) := by
  unfold State.recoverAt
  generalize recoverPage (fun i => memByte s.mem (page + i)) (s.parityOf page) (s.erasedUnits page) = r at recovers
  subst recovers
  rfl

/-- A recovered page holds the recovered bytes and is counted; it is marked and queued no more (R702). -/
theorem State.recoverAt_leaves {s : State} {page n : Nat} {l : List (Nat × Byte)}
    (recovers : recoverPage (fun i => memByte s.mem (page + i)) (s.parityOf page) (s.erasedUnits page) = some (l, n)) :
    ∃ t, s.recoverAt page = some t ∧ t.mem = l.foldl (fun m p => memPut m (page + p.1) p.2) s.mem ∧
      t.obj O.pagesRecovered = satAdd 32 (s.obj O.pagesRecovered) 1 ∧ page ∉ t.integ.poison ∧ page ∉ t.integ.queue := by
  refine ⟨_, State.recoverAt_some recovers, ?_⟩
  obtain ⟨mem, -, objs, unmarked, gone⟩ :=
    ({ s with mem := l.foldl (fun m p => memPut m (page + p.1) p.2) s.mem } : State).curePage_leaves page
  generalize ({ s with mem := l.foldl (fun m p => memPut m (page + p.1) p.2) s.mem } : State).curePage page = u at mem objs unmarked gone
  obtain ⟨sameMem, integ, -, counted⟩ := u.reportPage_leaves 0x0501 (page + (n % 256) * 2 ^ 40) (o := O.pagesRecovered) (by decide)
  obtain ⟨freeMem, freeInteg, freeObjs⟩ := (((u.count O.pagesRecovered 32 1).event 0x0501 (page + (n % 256) * 2 ^ 40))).freeTrap_leaves page
  rw [freeMem, freeInteg, State.obj_of_objs freeObjs, sameMem, integ, counted, State.obj_of_objs objs]
  exact ⟨mem, rfl, unmarked, gone⟩

theorem memByte_memClear (m : List Host.Cell) (a n b : Nat) : memByte (memClear m a n) b = if a ≤ b ∧ b < a + n then 0#8 else memByte m b := by
  refine (aGet_filter_key 0#8 m (fun c => !(decide (a ≤ c) && decide (c < a + n))) b).trans ?_
  by_cases h : a ≤ b ∧ b < a + n <;> simp [h, memByte]

/-- A page written with zeros changes no other byte and no engine; it is counted, and marked and queued no more (R702). -/
theorem State.zeroPage_leaves (s : State) (page : Nat) : let t := s.zeroPage page
    t.mem = memClear s.mem page 4096 ∧ t.obj O.pagesZeroed = satAdd 32 (s.obj O.pagesZeroed) 1 ∧ page ∉ t.integ.poison ∧ page ∉ t.integ.queue ∧
      t.eng = s.eng := by
  obtain ⟨mem, eng, objs, unmarked, gone⟩ := (s.zeroRange page 4096).curePage_leaves page
  unfold State.zeroPage
  generalize (s.zeroRange page 4096).curePage page = u at mem eng objs unmarked gone
  obtain ⟨sameMem, integ, sameEng, counted⟩ := u.reportPage_leaves 0x0503 page (o := O.pagesZeroed) (by decide)
  dsimp only
  rw [sameMem, integ, counted, sameEng, State.obj_of_objs objs]
  exact ⟨mem, rfl, unmarked, gone, eng⟩

/-- A page of the Hull image is static (R742). -/
theorem State.isStatic_of_hullImagePage {s : State} {page : Nat} (h : s.hullImagePage page = true) : s.isStatic page = true := by
  simp only [State.hullImagePage, Bool.and_eq_true] at h
  simp only [State.isStatic, h.2, Bool.or_true]

end Sys2Proof.Machine

namespace Sys2Proof.Claims
open Sys2Proof Sys2Proof.Machine

section
variable {s : State} {page : Nat} {rest : List Nat} (queued : s.integ.queue = page :: rest)
include queued

/-- A page of the active bank waits for its repair swap (R706). -/
theorem pageRecovery_active {e : Fin 8} (active : s.isActiveBank page = some e) (other : s.hullImagePage page = false) :
    exec .pageRecovery s =
      .next (({ s with integ := { s.integ with queue := rest } } : State).setEngine e { s.engine e with repairSwap := true }) := by
  rw [execPageRecovery_handled queued (.inl other), State.handlePage_active ((s.withQueue_isActiveBank rest page).trans active)]
  rfl

variable (inactive : s.isActiveBank page = none)
include inactive

/-- A static page that recovers (R702). -/
theorem pageRecovery_recovered (static : s.isStatic page = true) (fresh : s.isStale page = false) {l : List (Nat × Byte)} {n : Nat}
    (recovers : recoverPage (fun i => memByte s.mem (page + i)) (s.parityOf page) (s.erasedUnits page) = some (l, n)) :
    ∃ t, exec .pageRecovery s = .next t ∧ t.mem = l.foldl (fun m p => memPut m (page + p.1) p.2) s.mem ∧
      t.obj O.pagesRecovered = satAdd 32 (s.obj O.pagesRecovered) 1 ∧ page ∉ t.integ.poison ∧ page ∉ t.integ.queue := by
  obtain ⟨t, recovered, mem, counted, unmarked, gone⟩ := State.recoverAt_leaves (s := s.withQueue rest) (l := l) (n := n) recovers
  have handled := State.handlePage_recovered ((s.withQueue_isActiveBank rest page).trans inactive) ((s.withQueue_isStatic rest page).trans static)
    ((s.withQueue_isStale rest page).trans fresh) recovered
  obtain ⟨sameMem, sameInteg⟩ := t.rangeCount_leaves page O.rangePagesRecovered
  have clear : page ∉ ((s.withQueue rest).handlePage page).integ.poison := by
    rw [handled, sameInteg]
    exact unmarked
  refine ⟨_, execPageRecovery_handled queued (.inr clear), ?_, ?_, clear, ?_⟩ <;> rw [handled]
  · exact sameMem.trans mem
  · exact (t.obj_rangeCount_ne page (by decide)).trans counted
  · rw [sameInteg]
    exact gone

section
variable (static : s.isStatic page = true)
  (fails : s.isStale page = true ∨ recoverPage (fun i => memByte s.mem (page + i)) (s.parityOf page) (s.erasedUnits page) = none)
  (elsewhere : bankOf page = none) (loaded : isDictStore page = false)
include static fails elsewhere loaded
omit queued

theorem handlePage_fails (rest : List Nat) : (s.withQueue rest).handlePage page = (s.withQueue rest).markPoison page := by
  refine State.handlePage_marked ((s.withQueue_isActiveBank rest page).trans inactive) ((s.withQueue_isStatic rest page).trans static)
    (fails.imp (s.withQueue_isStale rest page).trans fun lost => ?_) elsewhere loaded
  refine State.recoverAt_none ?_
  rw [State.withQueue_mem, State.withQueue_parityOf, State.withQueue_erasedUnits]
  exact lost

theorem handlePage_fails_poison (rest : List Nat) : page ∈ ((s.withQueue rest).handlePage page).integ.poison := by
  rw [handlePage_fails inactive static fails elsewhere loaded, State.markPoison, State.event_integ]
  exact mem_setAdd_self _ _

include queued

/-- A static page that does not recover is marked, or restarts the Hull core where it belongs to the running image (R708, R709). -/
theorem pageRecovery_fails :
    (s.hullImagePage page = false → ∃ t, exec .pageRecovery s = .next t ∧ t.mem = s.mem ∧ t.eng = s.eng ∧ t.bad = s.bad ∧ page ∈ t.integ.poison ∧
      t.integ.queue = rest) ∧
    (s.hullImagePage page = true → ∃ t, exec .pageRecovery s = .next t ∧ t.obj O.hullReady = 0 ∧ t.fwQueue = [] ∧ t.fuses = s.fuses ∧
      (t.obj O.bootSlot < 2 ∨ t.obj O.bootSlot = 0xFF)) := by
  have handled := handlePage_fails inactive static fails elsewhere loaded rest
  have marked := handlePage_fails_poison inactive static fails elsewhere loaded rest
  constructor
  · intro other
    refine ⟨_, execPageRecovery_handled queued (.inl other), ?_, ?_, ?_, marked, ?_⟩ <;> rw [handled, State.markPoison]
    · exact State.event_mem _ _ _
    · exact State.event_eng _ _ _
    · exact State.event_bad _ _ _
    · exact congrArg Integrity.queue (State.event_integ _ _ _)
  · intro image
    obtain ⟨ready, queue, fuses, slot⟩ := ((s.withQueue rest).handlePage page).imagePageLost_restarts page
    refine ⟨_, execPageRecovery_lost queued image marked, ready, queue, fuses.trans ?_, slot⟩
    rw [handled]
    exact State.event_fuses _ _ _

end

/-- Any other page is written with zeros (R702). -/
theorem pageRecovery_zeroed (dynamic : s.isStatic page = false) : ∃ t, exec .pageRecovery s = .next t ∧
    (∀ j, j < 4096 → memByte t.mem (page + j) = 0#8) ∧ (∀ a, a < page ∨ page + 4096 ≤ a → memByte t.mem a = memByte s.mem a) ∧
    t.obj O.pagesZeroed = satAdd 32 (s.obj O.pagesZeroed) 1 ∧ page ∉ t.integ.poison ∧ page ∉ t.integ.queue ∧ t.eng = s.eng := by
  have other : s.hullImagePage page = false := by
    by_contra image
    exact absurd (State.isStatic_of_hullImagePage (Bool.not_eq_false _ ▸ image)) (by simp [dynamic])
  let marked := (s.withQueue rest).markPoison page
  obtain ⟨zeroed, counted, unmarked, gone, eng⟩ := marked.zeroPage_leaves page
  obtain ⟨sameMem, sameInteg⟩ := (marked.zeroPage page).rangeCount_leaves page O.rangePagesReloadedOrZeroed
  have mem : ((marked.zeroPage page).rangeCount page O.rangePagesReloadedOrZeroed).mem = memClear s.mem page 4096 := by
    rw [sameMem, zeroed]
    exact congrArg (memClear · page 4096) (State.event_mem _ _ _)
  refine ⟨_, (execPageRecovery_handled queued (.inl other)).trans
    (congrArg Host.Outcome.next (State.handlePage_zeroed ((s.withQueue_isActiveBank rest page).trans inactive)
      ((s.withQueue_isStatic rest page).trans dynamic))), ?_, ?_, ?_, ?_, ?_, ?_⟩
  · intro j inside
    rw [mem, memByte_memClear, if_pos (by omega)]
  · intro a outside
    rw [mem, memByte_memClear, if_neg (by omega)]
  · rw [State.obj_rangeCount_ne _ _ (by decide), counted]
    exact congrArg (satAdd 32 · 1) (State.obj_event _ _ _ (by decide))
  · rw [sameInteg]
    exact unmarked
  · rw [sameInteg]
    exact gone
  · rw [State.rangeCount_eng, eng]
    exact State.event_eng _ _ _

end

/-- Settles O35, clause by clause; a restart of the Hull core leaves the fuses because nothing of it, the end of the graph's tick included,
burns one. -/
theorem queuedPagesAreHandledInOrder : Obligations.QueuedPagesAreHandledInOrder := by
  unfold Obligations.QueuedPagesAreHandledInOrder
  intro s
  refine ⟨execPageRecovery_empty, fun page rest queued => ⟨fun e => pageRecovery_active queued, ?_, ?_, ?_⟩⟩
  · exact fun inactive static fresh l n => pageRecovery_recovered queued inactive static fresh
  · exact fun inactive static fails elsewhere loaded => pageRecovery_fails queued inactive static fails elsewhere loaded
  · exact fun inactive dynamic => pageRecovery_zeroed queued inactive dynamic

end Sys2Proof.Claims
end

section
/-! The write buffers of the host port: what the dictionary's requests do to banks, pages, ports, links and channels leaves them alone (R640). -/
namespace Sys2Proof.Machine
open Sys2Proof

/-- `t` has the write buffers of `s`. -/
structure PortKept (s t : State) : Prop where
  buffers : t.hsp.buffers = s.hsp.buffers

theorem PortKept.refl (s : State) : PortKept s s := ⟨rfl⟩

theorem PortKept.trans {s t u : State} (a : PortKept s t) (b : PortKept t u) : PortKept s u := ⟨b.buffers.trans a.buffers⟩

theorem PortKept.hull {s t u : State} (a : PortKept s t) (h : HullKept t u) : PortKept s u := a.trans ⟨h.buffers⟩

theorem PortKept.booked {s t u : State} (a : PortKept s t) (h : Booked t u) : PortKept s u := a.hull (HullKept.ofBooked (.refl t) h)

theorem PortKept.ite {s t u : State} {c : Prop} [Decidable c] (a : PortKept s t) (b : PortKept s u) : PortKept s (if c then t else u) := by
  split
  · exact a
  · exact b

/-- Operations in order, each of which keeps the write buffers. -/
theorem PortKept.foldl {α : Type} {s t : State} {g : State → α → State} (step : ∀ x a, PortKept s x → PortKept s (g x a)) (l : List α)
    (h : PortKept s t) : PortKept s (l.foldl g t) := by
  induction l generalizing t with
  | nil => exact h
  | cons a l ih => exact ih (step t a h)

theorem PortKept.foldlFst {α β : Type} {s : State} {p : State × β} {g : State × β → α → State × β}
    (step : ∀ x a, PortKept s x.1 → PortKept s (g x a).1) (l : List α) (h : PortKept s p.1) : PortKept s (l.foldl g p).1 := by
  induction l generalizing p with
  | nil => exact h
  | cons a l ih => exact ih (step p a h)

section
variable {s t : State} (a : PortKept s t)
include a

/-! ### Shared operations -/

theorem PortKept.setObj (o v : Nat) : PortKept s (t.setObj o v) := a.trans ⟨by rfl⟩

theorem PortKept.count (o w n : Nat) : PortKept s (t.count o w n) := a.trans ⟨by rfl⟩

theorem PortKept.setObjs (l : List (Nat × Nat)) : PortKept s (t.setObjs l) := PortKept.foldl (fun _ _ h => h.trans ⟨by rfl⟩) l a

theorem PortKept.event (c d : Nat) : PortKept s (t.event c d) := a.hull (HullKept.event (.refl t) c d)

theorem PortKept.store (x n v : Nat) : PortKept s (t.store x n v) := a.hull (HullKept.store (.refl t) x n v)

theorem PortKept.storeBytes (x : Nat) (l : List Byte) : PortKept s (t.storeBytes x l) := a.store _ _ _

theorem PortKept.mute (r : MuteReason) : PortKept s (t.mute r) := a.hull (HullKept.mute (.refl t) r)

theorem PortKept.noteBad (r x : Nat) : PortKept s (t.noteBad r x) := a.hull (HullKept.noteBad (.refl t) r x)

theorem PortKept.noteSofts (x n : Nat) : PortKept s (t.noteSofts x n) := a.hull (HullKept.noteSofts (.refl t) x n)

theorem PortKept.setSession (x : Session) : PortKept s (t.setSession x) := a.hull (HullKept.setSession (.refl t) x)

theorem PortKept.sendRouted (bulk : Bool) (m : Msg) : PortKept s (t.sendRouted bulk m) := a.hull (HullKept.sendRouted (.refl t) bulk m)

theorem PortKept.makeStatic (x n : Nat) : PortKept s (t.makeStatic x n) := a.hull (HullKept.makeStatic (.refl t) x n)

theorem PortKept.noteRights (k : SessKey) (addr code : Nat) (w : Bool) : PortKept s (t.noteRights k addr code w) :=
  a.booked ((Booked.refl t).noteRights k addr code w)

theorem PortKept.respond (k : SessKey) (addr code : Nat) (words : List (BitVec 32)) : PortKept s (t.respond k addr code words) :=
  a.booked ((Booked.refl t).respond k addr code words)

theorem PortKept.journal (r : Record) : PortKept s (t.journal r) := a.booked ((Booked.refl t).journal r)

theorem PortKept.refuseStrict : PortKept s t.refuseStrict := a.booked (Booked.refl t).refuseStrict

theorem PortKept.closeGap : PortKept s t.closeGap := a.booked (Booked.refl t).closeGap

theorem PortKept.finishWrite (k : SessKey) (kport addr : Nat) (words : List (BitVec 32)) (code : Nat) {effect : State → State}
    (kept : PortKept t (effect t)) : PortKept s (t.finishWrite k kport addr words code effect) :=
  (PortKept.ite (a.trans kept) a).booked (t.finishWrite_booked k kport addr words code effect)

/-- A write request keeps the write buffers if its effect does. -/
theorem PortKept.writeReq (k : SessKey) (kport addr : Nat) (words : List (BitVec 32)) (x : Extra) {effect : State → State}
    (kept : PortKept t (effect t)) : PortKept s (t.writeReq k kport addr words x effect) := by
  unfold State.writeReq
  exact a.ite (a.finishWrite k kport addr words _ kept)

/-! ### Banks, update sets and parameters -/

omit a in
theorem State.recoverAt_portKept {s t : State} {page : Nat} (h : s.recoverAt page = some t) : PortKept s t := by
  unfold State.recoverAt at h
  split at h
  · cases h
  · rw [← Option.some.inj h]
    exact ⟨congrArg Hsp.buffers (State.event_hsp _ _ _)⟩

theorem PortKept.clearRanges (l : List (Nat × Nat)) : PortKept s (t.clearRanges l) := by
  unfold State.clearRanges
  have cleared : PortKept s (l.foldl (fun s r => s.zeroRange r.1 r.2) t) := PortKept.foldl (fun _ _ h => h.trans ⟨by rfl⟩) l a
  exact cleared.trans ⟨by rfl⟩

theorem PortKept.modOpenSet (k : SessKey) (f : UpSet → UpSet) : PortKept s (t.modOpenSet k f) := by
  unfold State.modOpenSet
  split <;> exact a.trans ⟨by rfl⟩

theorem PortKept.landWord (w : BankWrite) : PortKept s (t.landWord w) := (a.store _ _ _).trans ⟨by rfl⟩

theorem PortKept.landWords (k : SessKey) (ws : List BankWrite) : PortKept s (t.landWords k ws) :=
  PortKept.foldl (fun _ w h => h.landWord w) ws (a.modOpenSet k _)

theorem PortKept.bankedWrite (k : SessKey) (ws : List BankWrite) : PortKept s (t.bankedWrite k ws) := by
  unfold State.bankedWrite
  extract_lets c s1
  have claimed : PortKept s s1 := (a.setSession _).modOpenSet k _
  exact PortKept.ite (claimed.trans ⟨by rfl⟩) (claimed.landWords k ws)

theorem PortKept.levelRecover (e : Fin 8) (page : Nat) : PortKept s (t.levelRecover e page) := by
  unfold State.levelRecover
  split
  next u recovered => exact a.trans (State.recoverAt_portKept recovered)
  next => exact (a.event _ _).trans ⟨by rfl⟩

theorem PortKept.levelRead (e : Fin 8) (row : Nat) : PortKept s (t.levelRead e row) := by
  unfold State.levelRead
  extract_lets src bad s1
  have noted : PortKept s s1 := (PortKept.foldl (fun _ _ h => h.noteBad _ _) bad a).noteSofts _ _
  exact noted.ite (noted.levelRecover e _)

theorem PortKept.levelRow (e : Fin 8) (row : Nat) : PortKept s (t.levelRow e row) := by
  unfold State.levelRow
  exact PortKept.foldl (fun _ _ h => h.store _ _ _) _ (a.storeBytes _ _)

theorem PortKept.landHeld : PortKept s t.landHeld := by
  unfold State.landHeld
  refine PortKept.foldlFst (fun p h kept => ?_) _ a
  dsimp only
  split
  · exact (kept.trans ⟨by rfl⟩).landWords _ _
  · exact kept

theorem PortKept.level (e : Fin 8) : PortKept s (t.level e) := by
  unfold State.level
  refine a.ite ?_
  extract_lets rows s1 s2
  have copied : PortKept s s1 := PortKept.foldl (fun _ r h => h.levelRow e r) rows (PortKept.foldl (fun _ r h => h.levelRead e r) rows a)
  have coded : PortKept s s2 := PortKept.foldl (fun _ _ h => h.trans ⟨by rfl⟩) _ copied
  exact PortKept.landHeld (coded.trans ⟨by rfl⟩)

theorem PortKept.abortSet (k : SessKey) : PortKept s (t.abortSet k) := by
  unfold State.abortSet
  split
  · exact a
  · exact PortKept.foldl (fun _ _ h => h.trans ⟨by rfl⟩) _ (a.trans ⟨by rfl⟩)

theorem PortKept.seal (k : SessKey) (gen : Nat) : PortKept s (t.seal k gen) := by
  unfold State.seal
  extract_lets x s1 s2
  have entered : PortKept s s1 := (a.modOpenSet k id).setSession _
  exact entered.trans ⟨by rfl⟩

theorem PortKept.commitReq (k : SessKey) (kport : Nat) (words : List (BitVec 32)) (withGen : Bool) : PortKept s (t.commitReq k kport words withGen) := by
  unfold State.commitReq
  refine a.ite ?_
  extract_lets code gen n s1 new s2
  have sealed : PortKept s s1 := PortKept.ite (a.seal k gen) a
  have written : PortKept s s2 := sealed.refuseStrict.ite (sealed.journal _)
  exact (written.noteRights _ _ _ _).respond _ _ _ _

theorem PortKept.paramEffect (k : SessKey) (p : Param) (words : List (BitVec 32)) : PortKept s (t.paramEffect k p words) := by
  unfold State.paramEffect
  exact (a.bankedWrite k _).ite (PortKept.ite (a.trans ⟨by rfl⟩) (PortKept.foldl (fun _ _ h => h.trans ⟨by rfl⟩) _ (a.trans ⟨by rfl⟩)))

theorem PortKept.writeParam (k : SessKey) (kport addr : Nat) (words : List (BitVec 32)) : PortKept s (t.writeParam k kport addr words) := by
  unfold State.writeParam
  split
  · exact a.writeReq _ _ _ _ _ ⟨by rfl⟩
  · exact a.writeReq _ _ _ _ _ (PortKept.paramEffect (.refl t) k _ words)

theorem PortKept.writeOrbShare (loader : Bool) (w : BitVec 64) : PortKept s (t.writeOrbShare loader w) := by
  unfold State.writeOrbShare
  exact PortKept.ite (a.trans ⟨by rfl⟩) (a.trans ⟨by rfl⟩)

theorem PortKept.moveBytes (src dst n : Nat) : PortKept s (t.moveBytes src dst n) := ((a.noteSofts src n).storeBytes _ _).trans ⟨by rfl⟩

theorem PortKept.putDesc (e : Fin 8) (q : Nat) (d : Desc) : PortKept s (t.putDesc e q d) := by
  unfold State.putDesc
  exact PortKept.trans (PortKept.ite (a.moveBytes _ _ _) a) ⟨by rfl⟩

theorem PortKept.stageGroup (e : Fin 8) (q g : Nat) : PortKept s (t.stageGroup e q g) := by
  unfold State.stageGroup
  dsimp only
  split
  · exact a
  · exact (a.moveBytes _ _ _).trans ⟨by rfl⟩

/-! ### Audio ports and links -/

theorem PortKept.setConv (p : Fin 4) (inb : Bool) (v : Nat) : PortKept s (t.setConv p inb v) := by
  unfold State.setConv
  exact PortKept.ite (a.trans ⟨by rfl⟩) (PortKept.ite (a.trans ⟨by rfl⟩) (PortKept.ite (a.trans ⟨by rfl⟩) (PortKept.ite (a.trans ⟨by rfl⟩) (a.trans ⟨by rfl⟩))))

theorem PortKept.sapReady (p : Fin 4) : PortKept s (t.sapReady p) := by
  unfold State.sapReady
  exact PortKept.ite (PortKept.event (a.trans ⟨by rfl⟩) _ _) a

theorem PortKept.setBypassed (p : Fin 4) : PortKept s (t.setBypassed p) := by
  unfold State.setBypassed
  exact (((a.setConv p true 3).setConv p false 3).setObjs _).sapReady p

theorem PortKept.sapStart (p : Fin 4) : PortKept s (t.sapStart p) := by
  unfold State.sapStart
  extract_lets s1 s2
  have ported : PortKept s (t.setPort p 1) := a.trans ⟨by rfl⟩
  have started : PortKept s s2 := ((ported.setConv p true 1).setConv p false 1).trans ⟨by rfl⟩
  exact PortKept.ite (started.setBypassed p) started

theorem PortKept.enablePort (p : Fin 4) : PortKept s (t.enablePort p) := by
  unfold State.enablePort
  exact PortKept.ite (PortKept.sapStart (a.trans ⟨by rfl⟩) p) (PortKept.ite (a.trans ⟨by rfl⟩) (a.trans ⟨by rfl⟩))

theorem PortKept.disablePort (p : Fin 4) : PortKept s (t.disablePort p) := by
  unfold State.disablePort
  exact PortKept.ite (a.trans ⟨by rfl⟩) (PortKept.ite (a.trans ⟨by rfl⟩) (a.trans ⟨by rfl⟩))

theorem PortKept.writePortEnable (k : SessKey) (kport : Nat) (p : Fin 4) (words : List (BitVec 32)) : PortKept s (t.writePortEnable k kport p words) := by
  unfold State.writePortEnable
  exact a.writeReq _ _ _ _ _ (PortKept.ite (PortKept.enablePort (.refl t) p) (PortKept.disablePort (.refl t) p))

theorem PortKept.setLink (k : Fin 4) (v : Nat) : PortKept s (t.setLink k v) := by
  unfold State.setLink
  extract_lets s1
  have told : PortKept s s1 := (a.setObjs _).event _ _
  exact PortKept.ite (told.trans ⟨by rfl⟩) (PortKept.ite (told.trans ⟨by rfl⟩) (PortKept.ite (told.trans ⟨by rfl⟩) told))

theorem PortKept.writePriority (k : SessKey) (kport : Nat) (words : List (BitVec 32)) : PortKept s (t.writePriority k kport words) := by
  unfold State.writePriority
  refine a.writeReq _ _ _ _ _ ?_
  unfold State.resettle
  exact PortKept.ite (PortKept.trans (.refl t) ⟨by rfl⟩) (PortKept.trans (.refl t) ⟨by rfl⟩)

theorem PortKept.sendDown (m : Msg) : PortKept s (t.sendDown m) := by
  unfold State.sendDown
  exact (a.sendRouted false m).ite (PortKept.foldl (fun _ _ h => h.trans ⟨by rfl⟩) _ (a.trans ⟨by rfl⟩))

theorem PortKept.writeLinkEnable (key : SessKey) (kport : Nat) (k : Fin 4) (words : List (BitVec 32)) :
    PortKept s (t.writeLinkEnable key kport k words) := by
  unfold State.writeLinkEnable
  refine a.writeReq _ _ _ _ _ ?_
  have set : PortKept t (t.setObj (O.linkEnable k.val) (wordsNat words)) := ⟨rfl⟩
  exact PortKept.ite ((set.setLink k 2).ite ((set.setLink k 10).ite set)) (set.ite ((set.setLink k 9).ite (PortKept.setLink (set.trans ⟨by rfl⟩) k 9)))

/-! ### DMA channels, registers and the bus -/

theorem PortKept.putDescWord (x v : Nat) : PortKept s (t.putDescWord x v) := by
  unfold State.putDescWord
  exact PortKept.ite (a.trans ⟨by rfl⟩) (a.store _ _ _)

theorem PortKept.writeBack (c : Fin 32) (d : DmaDesc) (done : Bool) (result kind : Nat) : PortKept s (t.writeBack c d done result kind) := by
  unfold State.writeBack
  extract_lets x s1 s2
  have written : PortKept s s1 := (a.putDescWord _ _).putDescWord _ _
  have told : PortKept s s2 := written.trans ⟨by rfl⟩
  exact PortKept.ite (told.event _ _) told

theorem PortKept.sendAbort (c : Fin 32) (d : DmaDesc) : PortKept s (t.sendAbort c d) := by
  unfold State.sendAbort
  extract_lets s1
  have sent : PortKept s s1 := by
    dsimp only [s1]
    split
    · exact a.sendRouted _ _
    · exact a
  split
  · exact sent.sendRouted _ _
  · exact sent

theorem PortKept.stopChan (c : Fin 32) : PortKept s (t.stopChan c) := by
  unfold State.stopChan
  extract_lets v s1
  have ended : PortKept s s1 := by
    dsimp only [s1]
    split
    · exact a
    · exact ((a.writeBack _ _ _ _ _).sendAbort _ _).ite (((a.putDescWord _ _).sendAbort _ _).ite a)
  exact PortKept.ite (ended.trans ⟨by rfl⟩) ended

theorem PortKept.writeDoorbell (k : SessKey) (kport : Nat) (c : Fin 32) (words : List (BitVec 32)) : PortKept s (t.writeDoorbell k kport c words) := by
  unfold State.writeDoorbell
  refine a.writeReq _ _ _ _ _ ?_
  unfold State.ringBell
  exact PortKept.ite (PortKept.trans (.refl t) ⟨by rfl⟩) (PortKept.ite (PortKept.trans (.refl t) ⟨by rfl⟩) (.refl t))

theorem PortKept.writeChannelSetting (k : SessKey) (kport addr : Nat) (c : Fin 32) (words : List (BitVec 32)) :
    PortKept s (t.writeChannelSetting k kport addr c words) := a.writeReq _ _ _ _ _ ⟨by rfl⟩

theorem PortKept.writeChannelHead (k : SessKey) (kport : Nat) (c : Fin 32) (words : List (BitVec 32)) :
    PortKept s (t.writeChannelHead k kport c words) := a.writeReq _ _ _ _ _ ⟨by rfl⟩

theorem PortKept.regWrite (m : Master) (r : Reg) (v : Nat) : PortKept s (t.regWrite m r v).2 := by
  unfold State.regWrite
  cases r with
  | range e k =>
    dsimp only
    split <;> exact a.trans ⟨by rfl⟩
  | orbShare => exact a.writeOrbShare _ _
  | xipCtrl =>
    dsimp only
    split <;> exact a.trans ⟨by rfl⟩
  | xipBase =>
    dsimp only
    split <;> exact a.trans ⟨by rfl⟩
  | xipCount =>
    dsimp only
    split <;> exact a.trans ⟨by rfl⟩
  | dmaCfg c => exact (a.writeChannelSetting _ _ _ _ _).writeChannelSetting _ _ _ _ _
  | dmaHead c => exact a.writeChannelHead _ _ _ _
  | dmaBell c => exact a.writeDoorbell _ _ _ _
  | desc e q w =>
    dsimp only
    split
    · exact PortKept.ite (a.putDesc _ _ _) a
    · exact a
  | _ => exact a.trans ⟨by rfl⟩

theorem PortKept.putRegWord (m : Master) (x v : Nat) : PortKept s (t.putRegWord m x v).2 := by
  unfold State.putRegWord
  split
  · exact a
  · exact a.regWrite _ _ _

theorem PortKept.putRegWords (m : Master) (l : List (BitVec 32)) (x : Nat) : PortKept s (State.putRegWords m l x t).2 := by
  induction l generalizing x t with
  | nil => exact a
  | cons w l ih =>
    have put := a.putRegWord m x w.toNat
    unfold State.putRegWords
    split
    next u same =>
      rw [same] at put
      exact ih put _
    next => exact put

theorem PortKept.busStore (x : Nat) (l : List Byte) : PortKept s (t.busStore x l) := by
  unfold State.busStore
  have stored : PortKept s (t.storeBytes x l) := a.storeBytes x l
  split
  · exact PortKept.ite (stored.trans ⟨by rfl⟩) stored
  · exact stored

theorem PortKept.busWrite (m : Master) (x : Nat) (l : List Byte) : PortKept s (t.busWrite m x l).2 := by
  unfold State.busWrite
  dsimp only
  split
  · exact a
  · split
    · exact a.putRegWords _ _ _
    · split
      · exact PortKept.ite (a.trans ⟨by rfl⟩) a
      · split
        · exact a
        · split
          · exact a.trans ⟨by rfl⟩
          · have written : PortKept s ((t.correct x l.length).busStore x l) := (a.hull (HullKept.correct (.refl t) x l.length)).busStore x l
            unfold State.uncheck
            exact written.ite (written.trans ⟨by rfl⟩)

end

end Sys2Proof.Machine
end

section
/-! The write buffers of the host port: what the dictionary's requests do to graphs, migrations, images, records and power leaves them alone (R640). -/
namespace Sys2Proof.Machine
open Sys2Proof

section
variable {s t : State} (a : PortKept s t)
include a

/-! ### Reservations of the fabric -/

theorem PortKept.takeReserve (gen : Nat) (runs : List RunWrite) (plans : List PlanWrite) : PortKept s (t.takeReserve gen runs plans) := by
  unfold State.takeReserve
  extract_lets s1 old all
  have written : PortKept s s1 := PortKept.foldl (fun _ _ h => h.trans ⟨by rfl⟩) runs a
  exact written.trans ⟨by rfl⟩

theorem PortKept.sendReservation (specs : List RunSpec) : PortKept s (t.sendReservation specs) := by
  unfold State.sendReservation
  extract_lets m r p gen tables writes plans high tick all s1 s2
  have taken : PortKept s s1 := PortKept.takeReserve (a.trans ⟨by rfl⟩) gen _ _
  have planned : PortKept s s2 := taken.trans ⟨by rfl⟩
  refine PortKept.foldl (fun u dev h => ?_) _ planned
  exact (PortKept.foldl (fun _ _ h => h.sendDown _) _ h).sendDown _

theorem PortKept.keepReservation : PortKept s t.keepReservation := by
  unfold State.keepReservation
  exact PortKept.ite (a.sendReservation _) a

/-! ### Regions, lines and banks of a move -/

theorem PortKept.codeBank (page : Nat) : PortKept s (t.codeBank page) := by
  unfold State.codeBank
  split
  · exact PortKept.ite (a.trans ⟨by rfl⟩) (a.trans ⟨by rfl⟩)
  · exact a

theorem PortKept.fillRange (x n : Nat) (init : List Byte) : PortKept s (t.fillRange x n init) := PortKept.storeBytes (a.trans ⟨by rfl⟩) _ _

theorem PortKept.loadRegion (g : GImage) (r : PlacedRegion) : PortKept s (t.loadRegion g r) := by
  unfold State.loadRegion
  split
  · exact a
  · extract_lets init s1
    have filled : PortKept s s1 := PortKept.foldl (fun _ _ h => h.fillRange _ _ _) _ a
    exact PortKept.ite (PortKept.foldl (fun _ p h => h.codeBank p) _ filled) ((filled.makeStatic _ _).ite filled)

theorem PortKept.fillLine (x : GLine) (base : Nat) (xs : List Word) : PortKept s (t.fillLine x base xs) := by
  unfold State.fillLine
  extract_lets n s1
  have cleared : PortKept s s1 := a.trans ⟨by rfl⟩
  exact PortKept.ite (PortKept.foldl (fun _ _ h => h.store _ _ _) _ cleared) (PortKept.foldl (fun _ _ h => h.store _ _ _) _ cleared)

theorem PortKept.loadLine (g : GImage) (p : PlacedLine) : PortKept s (t.loadLine g p) := by
  unfold State.loadLine
  split
  · exact a
  · exact a.ite (PortKept.ite ((a.fillLine _ _ _).makeStatic _ _) (a.fillLine _ _ _))

theorem PortKept.stageSpan (e : Fin 8) (q : Nat) : PortKept s (t.stageSpan e q) := by
  unfold State.stageSpan
  exact a.ite (PortKept.foldl (fun _ g h => h.stageGroup e q g) _ a)

theorem PortKept.putPolicies (pol : List (Nat × Nat)) : PortKept s (t.putPolicies pol) := (a.setObjs pol).trans ⟨by rfl⟩

theorem PortKept.resetBank (e : Fin 8) : PortKept s (t.resetBank e) := by
  unfold State.resetBank
  extract_lets s1
  have coded : PortKept s s1 := PortKept.foldl (fun _ _ h => h.trans ⟨by rfl⟩) _ a
  exact PortKept.level (coded.trans ⟨by rfl⟩) e

theorem PortKept.copyRange (src dst n : Nat) : PortKept s (t.copyRange src dst n) := (a.noteSofts src n).storeBytes _ _

theorem PortKept.copyBank (x y : PlacedRegion) : PortKept s (t.copyBank x y) := by
  unfold State.copyBank
  extract_lets ex ey go inside gs s1
  have copied : PortKept s s1 := PortKept.trans (u := s1) ((a.copyRange _ _ _).copyRange _ _ _) ⟨by rfl⟩
  exact PortKept.foldl (fun _ p h => h.codeBank p) _ copied

theorem PortKept.moveStorage (g : GImage) (p : PlacedLine) : PortKept s (t.moveStorage g p) := by
  unfold State.moveStorage
  split
  · exact a
  · exact (a.loadLine g p).ite (a.ite (a.fillLine _ _ _))

theorem PortKept.moveLine (g : Graph) (all : List PlacedLine) (p : PlacedLine) : PortKept s (t.moveLine g all p) := by
  unfold State.moveLine
  have moved : PortKept s (t.moveStorage g.img p) := a.moveStorage g.img p
  split
  · dsimp only
    split
    · exact PortKept.stageSpan (moved.trans ⟨by rfl⟩) _ _
    · exact a
  · exact PortKept.stageSpan (moved.trans ⟨by rfl⟩) _ _

theorem PortKept.moveRegion (g : Graph) (r : PlacedRegion) : PortKept s (t.moveRegion g r) := by
  unfold State.moveRegion
  dsimp only
  split
  · exact a.loadRegion g.img r
  · exact PortKept.ite ((a.loadRegion g.img r).copyBank _ _) (a.loadRegion g.img r)

theorem PortKept.mirrorQueue (src dst n : Nat) : PortKept s (t.mirrorQueue src dst n) := a.trans ⟨by rfl⟩

theorem PortKept.moveParams (g : Graph) (m : Migration) : PortKept s (t.moveParams g m) := by
  refine PortKept.foldl (fun u p h => ?_) t.params a
  split
  · split
    · exact h
    · dsimp only
      split
      · refine PortKept.mirrorQueue (PortKept.copyRange ?_ _ _ _) _ _ _
        exact h.trans ⟨by rfl⟩
      · exact h.trans ⟨by rfl⟩
  · exact h

theorem PortKept.remoteParams (g : Graph) (m : Migration) : PortKept s (t.remoteParams g m) := by
  refine PortKept.foldl (fun u p h => ?_) _ a
  split
  · exact h
  · refine PortKept.foldl (fun v i k => ?_) _ h
    have drawn : PortKept s v.free.2 := k.trans ⟨by rfl⟩
    exact PortKept.ite ((drawn.store _ _ _).store _ _ _) (drawn.store _ _ _)

theorem PortKept.portObjects (g : Graph) (more : List PlacedBlock) (gone : List Nat) (mover : List (Nat × Nat)) :
    PortKept s (t.portObjects g more gone mover) := a.hull (HullKept.portObjects (.refl t) g more gone mover)

theorem PortKept.portsNow (g : Graph) : PortKept s (t.portsNow g) := by
  unfold State.portsNow
  split
  · exact a.portObjects g _ _ _
  · exact a.portObjects g _ _ _

theorem PortKept.levelMove (g : Graph) (m : Migration) : PortKept s (t.levelMove g m) := by
  unfold State.levelMove
  extract_lets s1
  have levelled : PortKept s s1 := (a.level _).ite a
  exact (levelled.resetBank _).ite (levelled.level _)

theorem PortKept.loadMove (g : Graph) (m : Migration) (mv : Move) : PortKept s (t.loadMove g m mv) := by
  unfold State.loadMove
  extract_lets e s0 s1 s2 s3 s4 s5 s6
  have levelled : PortKept s s1 := (a.levelMove g m).trans ⟨by rfl⟩
  have moved : PortKept s s2 := PortKept.foldl (fun _ r h => h.moveRegion g r) _ levelled
  have lined : PortKept s s3 := PortKept.foldl (fun _ p h => h.moveLine g mv.lines p) _ moved
  have ranged : PortKept s s4 := lined.trans ⟨by rfl⟩
  have fetched : PortKept s s5 := PortKept.ite (ranged.trans ⟨by rfl⟩) ranged
  have mirrored : PortKept s s6 := PortKept.ite ((fetched.moveParams g m).trans ⟨by rfl⟩) (fetched.remoteParams g m)
  exact PortKept.portsNow ((mirrored.writeOrbShare true _).trans ⟨by rfl⟩) g

/-! ### Images, orders and migrations -/

theorem PortKept.offerImage (bytes : List Byte) : PortKept s (t.offerImage bytes) := by
  unfold State.offerImage
  have cleared : PortKept s t.clearDiag := a.trans ⟨by rfl⟩
  refine PortKept.ite ?_ (cleared.trans ⟨by rfl⟩)
  split
  · unfold State.rejectImage
    exact ((cleared.setObjs _).event _ _).setObjs _
  · exact a

theorem PortKept.sendOrder (dev block pin : Nat) : PortKept s (t.sendOrder dev block pin) := by
  unfold State.sendOrder
  exact (a.sendRouted false _).ite a

theorem PortKept.startMove (g : Graph) (v : PlaceEnv) (b dev eng : Nat) (mv : Option Move) : PortKept s (t.startMove g v b dev eng mv) := by
  unfold State.startMove
  extract_lets bs p cross small second m s1 s2
  have begun : PortKept s (s1.setMig 1 m) := a.trans ⟨by rfl⟩
  have planned : PortKept s s2 := begun.keepReservation.putPolicies _
  split
  · exact PortKept.portsNow (PortKept.foldl (fun _ _ h => h.sendOrder _ _ _) bs planned) g
  · exact planned.loadMove g m _

theorem PortKept.writeMigrate (k : SessKey) (kport : Nat) (words : List (BitVec 32)) : PortKept s (t.writeMigrate k kport words) := by
  unfold State.writeMigrate
  extract_lets w fault x code s1 s2
  have cleared : PortKept s s1 := PortKept.ite (a.trans ⟨by rfl⟩) a
  have told : PortKept s s2 := by
    dsimp only [s2]
    split
    · exact cleared.trans ⟨by rfl⟩
    · exact cleared
  refine told.writeReq _ _ _ _ _ ?_
  dsimp only
  split
  · exact .refl s2
  next g _ =>
    split
    · exact .refl s2
    next mv _ =>
      have moved := PortKept.startMove (.refl s2) g (s2.placeEnv s2.mode) (reqBlock w) (reqDev (s2.placeEnv s2.mode) w) (reqEng w) mv
      exact PortKept.ite (moved.trans ⟨by rfl⟩) moved

theorem PortKept.drainNext : PortKept s t.drainNext := by
  unfold State.drainNext
  split
  · exact a
  · refine a.ite ?_
    extract_lets v l til s1 s2
    have taken : PortKept s s1 := a.trans ⟨by rfl⟩
    have told : PortKept s s2 := PortKept.ite (taken.trans ⟨by rfl⟩) taken
    split
    · exact told.startMove _ _ _ _ _ _
    · exact told

theorem PortKept.writeDrain (k : SessKey) (kport : Nat) (words : List (BitVec 32)) : PortKept s (t.writeDrain k kport words) := by
  unfold State.writeDrain
  refine a.writeReq _ _ _ _ _ ?_
  dsimp only
  split
  · exact PortKept.trans (.refl t) ⟨by rfl⟩
  · exact PortKept.drainNext ⟨rfl⟩

theorem PortKept.writeUnload (k : SessKey) (kport : Nat) (words : List (BitVec 32)) : PortKept s (t.writeUnload k kport words) := by
  unfold State.writeUnload
  refine a.writeReq _ _ _ _ _ ?_
  have ended : PortKept t (t.setObj O.pendingStartMode 0) := ⟨rfl⟩
  refine ended.ite (PortKept.trans (PortKept.trans (PortKept.ite ?_ ended) ⟨by rfl⟩) ⟨by rfl⟩)
  exact ended.hull (HullKept.abandon (.refl _) 6)

/-! ### Rates and clocks -/

theorem PortKept.writeTickRate (k : SessKey) (kport : Nat) (words : List (BitVec 32)) : PortKept s (t.writeTickRate k kport words) := by
  unfold State.writeTickRate
  extract_lets r fault follows mode x code s1
  have told : PortKept s s1 := by
    dsimp only [s1]
    split
    · exact a.trans ⟨by rfl⟩
    · exact a
  exact told.writeReq _ _ _ _ _ (PortKept.mute (PortKept.trans (.refl s1) ⟨by rfl⟩) .rateChange)

omit a in
theorem State.startEngSeq_portKept (t : State) (khz spread : Nat) : PortKept t (t.startEngSeq khz spread) := by
  unfold State.startEngSeq
  refine PortKept.mute ?_ _
  exact ⟨rfl⟩

theorem PortKept.writePb (k : SessKey) (kport addr : Nat) (words : List (BitVec 32)) : PortKept s (t.writePb k kport addr words) := by
  unfold State.writePb
  refine a.writeReq _ _ _ _ _ ?_
  have taken : PortKept t (t.takePool addr (wordsNat words)) := by
    unfold State.takePool
    exact PortKept.ite (PortKept.setObj (.refl t) _ _) (.refl t)
  exact taken.trans ⟨by rfl⟩

/-! ### Fuses, confirmation, slots and the loader -/

theorem PortKept.advanceRollback (v : Nat) (fail : Option Nat) : PortKept s (t.advanceRollback v fail) := by
  unfold State.advanceRollback
  extract_lets now bits good s1 s2 s3
  have burnt : PortKept s s1 := PortKept.foldl (fun _ _ h => h.trans ⟨by rfl⟩) good a
  have failed : PortKept s s2 := PortKept.ite (burnt.trans ⟨by rfl⟩) burnt
  have counted : PortKept s s3 := failed.trans ⟨by rfl⟩
  exact counted.ite (counted.event _ _)

theorem PortKept.flashProgram (x : Nat) (l : List Byte) : PortKept s (t.flashProgram x l) := a.trans ⟨by rfl⟩

theorem PortKept.confirmImage : PortKept s t.confirmImage := by
  unfold State.confirmImage
  extract_lets me h o s1 retire s2 s3
  have confirmed : PortKept s s1 := a.ite ((a.flashProgram _ _).event _ _)
  have retired : PortKept s s2 := PortKept.ite ((confirmed.flashProgram _ _).event _ _) confirmed
  have advanced : PortKept s s3 := (retired.advanceRollback _ none).ite retired
  exact advanced.setObjs _

theorem PortKept.writeSlot (slot : Nat) (img : List Byte) (commit : Bool) : PortKept s (t.writeSlot slot img commit) := by
  unfold State.writeSlot
  exact PortKept.ite (a.trans ⟨by rfl⟩) (a.trans ⟨by rfl⟩)

theorem PortKept.keepWrite (kind : Nat) (payload : List Byte) : PortKept s (t.keepWrite kind payload) := by
  unfold State.keepWrite
  exact ((a.storeBytes _ _).setObj _ _).count _ _ _

theorem PortKept.writeSnapshot : PortKept s t.writeSnapshot := by
  unfold State.writeSnapshot
  have written : PortKept s (t.keepWrite 3 t.snapshotBytes) := a.keepWrite _ _
  generalize t.keepWrite 3 t.snapshotBytes = u at written
  have repaired : PortKept s (u.keepWrite 2 u.repairBytes) := written.keepWrite _ _
  dsimp only
  generalize u.keepWrite 2 u.repairBytes = w at repaired
  exact PortKept.ite (PortKept.setObj (repaired.trans ⟨by rfl⟩) _ _) written

theorem PortKept.snapshotDue : PortKept s t.snapshotDue := by
  unfold State.snapshotDue
  exact a.ite (((a.count _ _ _).event _ _).ite a.writeSnapshot)

omit a in
theorem State.slotSelect_portKept (t : State) (only : Option Nat) : PortKept t (t.slotSelect only).2 := ⟨(t.slotSelect_selected only).queue.buffers⟩

omit a in
theorem State.romReentry_portKept (t : State) : PortKept t t.romReentry := by
  have booted (u : State) : PortKept u (if (u.slotSelect none).1 then (u.slotSelect none).2 else (u.slotSelect none).2.enterRecovery 6) := by
    have selected := u.slotSelect_portKept none
    exact selected.ite (selected.trans ⟨((u.slotSelect none).2.enterRecovery_slot 6).1.buffers⟩)
  unfold State.romReentry
  have cleared : PortKept t { t with aon := { t.aon with activate := false } } := ⟨rfl⟩
  exact (cleared.trans (booted _)).ite (PortKept.ite (.refl t) (booted t))

theorem PortKept.activate : PortKept s t.activate := by
  unfold State.activate
  have reset (u : State) : PortKept u u.hullReset := by
    unfold State.hullReset
    extract_lets q s1 s2
    have answered : PortKept u s1 := PortKept.foldl (fun _ r h => h.hull (HullKept.busyReq (.refl _) r)) q ⟨rfl⟩
    have left : PortKept u s2 := PortKept.ite (answered.hull (HullKept.abandon (.refl _) 1)) answered
    exact left.trans ⟨by rfl⟩
  exact (PortKept.trans (a.trans ⟨by rfl⟩) (reset _)).trans (State.romReentry_portKept _)

theorem PortKept.loaderVerify : PortKept s t.loaderVerify.2 := by
  unfold State.loaderVerify
  dsimp only
  split
  · exact a
  · exact a.hull (HullKept.verifyImage (.refl t) _ _)

theorem PortKept.loaderRun : PortKept s t.loaderRun := by
  unfold State.loaderRun
  dsimp only
  have verified : PortKept s t.loaderVerify.2 := a.loaderVerify
  refine PortKept.ite ?_ (verified.trans ⟨by rfl⟩)
  exact (verified.trans ⟨(State.startImage_slot _ _ _ _ _).1.buffers⟩).setObjs _

theorem PortKept.loaderProgram (readback : Bool) : PortKept s (t.loaderProgram readback) := by
  unfold State.loaderProgram
  dsimp only
  have verified : PortKept s t.loaderVerify.2 := a.loaderVerify
  have programmed : PortKept s (t.loaderVerify.2.writeSlot t.loaderVerify.2.loaderSlot t.stagedImage readback) := verified.writeSlot _ _ _
  exact PortKept.ite (verified.trans ⟨by rfl⟩) (PortKept.ite (verified.trans ⟨by rfl⟩) (PortKept.ite (programmed.trans ⟨by rfl⟩) (PortKept.activate (programmed.trans ⟨by rfl⟩))))

theorem PortKept.writeLoader (k : SessKey) (kport : Nat) (words : List (BitVec 32)) (readback : Bool) :
    PortKept s (t.writeLoader k kport words readback) := by
  unfold State.writeLoader
  refine a.writeReq _ _ _ _ _ ?_
  exact (PortKept.loaderRun (.refl t)).ite ((PortKept.loaderProgram (.refl t) readback).ite ⟨rfl⟩)

/-! ### The journal's objects -/

theorem PortKept.writeLocusAck (k : SessKey) (kport : Nat) (words : List (BitVec 32)) : PortKept s (t.writeLocusAck k kport words) := by
  unfold State.writeLocusAck
  refine a.writeReq _ _ _ _ _ ?_
  exact PortKept.closeGap (PortKept.ite ⟨rfl⟩ ⟨rfl⟩)

theorem PortKept.writeDrainEnable (k : SessKey) (kport : Nat) (words : List (BitVec 32)) : PortKept s (t.writeDrainEnable k kport words) := by
  unfold State.writeDrainEnable
  refine a.writeReq _ _ _ _ _ ?_
  have stopped : PortKept t (t.stopChan 31) := PortKept.stopChan (.refl t) 31
  exact PortKept.ite ⟨rfl⟩ (PortKept.ite (stopped.trans ⟨by rfl⟩) (stopped.trans ⟨by rfl⟩))

theorem PortKept.writeRetainMode (k : SessKey) (kport : Nat) (words : List (BitVec 32)) : PortKept s (t.writeRetainMode k kport words) := by
  unfold State.writeRetainMode
  refine a.writeReq _ _ _ _ _ ?_
  dsimp only
  refine PortKept.setObj ?_ _ _
  exact PortKept.ite (PortKept.trans (.refl t) ⟨by rfl⟩) (.refl t)

theorem PortKept.windowFrom (fuel r n : Nat) : PortKept s (State.windowFrom fuel r n t).2 := by
  induction fuel generalizing r n t with
  | zero => exact a
  | succ fuel ih =>
    unfold State.windowFrom
    split
    · exact a
    · split
      · exact ih a _ _
      next x _ =>
        extract_lets s1 b w
        have read : PortKept s s1 := by
          dsimp only [s1]
          split
          · unfold State.corruptRecord
            exact (((a.noteBad _ _).storeBytes _ _).count _ _ _).event _ _
          · exact a.noteSofts _ _
        split
        · exact ih read _ _
        · exact ih read _ _

theorem PortKept.domainValue (x : Nat) : PortKept s (t.domainValue x).2 := by
  unfold State.domainValue
  split
  · exact a.windowFrom _ _ _
  · exact a

/-! ### Transfers -/

theorem PortKept.answerUnit (k : SessKey) (addr code : Nat) (words : List (BitVec 32)) : PortKept s (t.answerUnit k addr code words) :=
  a.hull (HullKept.answerUnit (.refl t) k addr code words)

theorem PortKept.closeXfer (k : SessKey) (keep : Nat) : PortKept s (t.closeXfer k keep) := a.hull (HullKept.closeXfer (.refl t) k keep)

theorem PortKept.refuseUnit (k : SessKey) (kport addr kind c : Nat) : PortKept s (t.refuseUnit k kport addr kind c) :=
  a.hull (HullKept.refuseUnit (.refl t) k kport addr kind c)

theorem PortKept.discardOpen (k : SessKey) : PortKept s (t.discardOpen k) := by
  unfold State.discardOpen
  exact PortKept.ite ((a.closeXfer k 0).count _ _ _) a

theorem PortKept.takeStaging (n : Nat) : PortKept s (t.takeStaging n) := a.setObj _ _

theorem PortKept.readSofts (x : Nat) : PortKept s (t.readSofts x) := by
  unfold State.readSofts
  split
  · exact a.ite (a.noteSofts _ _)
  · exact a

theorem PortKept.domainStart (k : SessKey) (addr total : Nat) : PortKept s (t.domainStart k addr total) := by
  unfold State.domainStart
  extract_lets x c held session s1
  have opened : PortKept s s1 := PortKept.ite (((a.discardOpen k).takeStaging total).setSession _) a
  exact (opened.noteRights _ _ _ _).answerUnit _ _ _ _

theorem PortKept.domainData (k : SessKey) (addr seq n : Nat) (words : List (BitVec 32)) : PortKept s (t.domainData k addr seq n words) := by
  unfold State.domainData
  dsimp only
  split
  · exact a.answerUnit _ _ _ _
  · exact ((a.closeXfer k 0).answerUnit _ _ _ _).ite ((a.setSession _).answerUnit _ _ _ _)

theorem PortKept.domainEffect (k : SessKey) (x : Nat) (f : Xfer) : PortKept s (t.domainEffect k x f) := by
  unfold State.domainEffect
  split
  · exact a.paramEffect k _ _
  · refine (a.offerImage _).ite (PortKept.ite (a.trans ⟨by rfl⟩) ((a.keepWrite _ _).ite ?_))
    split
    · exact a.trans ⟨by rfl⟩
    · exact a

theorem PortKept.domainEnd (k : SessKey) (kport addr : Nat) (crc : BitVec 32) : PortKept s (t.domainEnd k kport addr crc) := by
  unfold State.domainEnd State.endXfer
  split
  · exact a.answerUnit _ _ _ _
  · exact PortKept.ite ((((a.closeXfer k _).domainEffect k _ _).journal _).answerUnit _ _ _ _) (a.hull (HullKept.refuseEnd (.refl t) _ _ _ _ _))

theorem PortKept.domainAbort (k : SessKey) (kport addr : Nat) : PortKept s (t.domainAbort k kport addr) := by
  unfold State.domainAbort
  split
  · exact a.answerUnit _ _ _ _
  · exact a.hull (HullKept.abortXfer (.refl t) _ _ _ _ _)

theorem PortKept.readStart (k : SessKey) (addr : Nat) : PortKept s (t.readStart k addr) := by
  unfold State.readStart
  extract_lets x v c held session s1
  have read : PortKept s v.2 := a.domainValue x
  have opened : PortKept s s1 := by
    dsimp only [s1, session, held]
    clear_value c v x
    split
    · exact (((read.readSofts x).discardOpen k).takeStaging _).setSession _
    · split
      · exact a.noteBad _ _
      · exact a
  exact (opened.noteRights _ _ _ _).answerUnit _ _ _ _

theorem PortKept.readData (k : SessKey) (addr seq n off : Nat) : PortKept s (t.readData k addr seq n off) := by
  unfold State.readData
  split
  · exact a.answerUnit _ _ _ _
  · exact PortKept.answerUnit (PortKept.ite (a.trans ⟨by rfl⟩) a) _ _ _ _

theorem PortKept.readEnd (k : SessKey) (addr : Nat) : PortKept s (t.readEnd k addr) := by
  unfold State.readEnd
  split
  · exact a.answerUnit _ _ _ _
  · exact (a.closeXfer k 0).answerUnit _ _ _ _

theorem PortKept.unitOf (k : SessKey) (kport addr kind seq n : Nat) (body : List (BitVec 32)) :
    PortKept s (t.unitOf k kport addr kind seq n body) := by
  unfold State.unitOf
  refine (a.domainData _ _ _ _ _).ite ?_
  have refused := a.refuseUnit k kport addr kind rcSequence
  split
  · exact (a.domainAbort _ _ _).ite ((a.readStart _ _).ite ((a.readEnd _ _).ite refused))
  · exact (a.domainStart _ _ _).ite ((a.domainEnd _ _ _ _).ite ((a.readData _ _ _ _ _).ite refused))
  · exact refused

theorem PortKept.domainUnit (k : SessKey) (kport addr : Nat) (unit : List (BitVec 32)) : PortKept s (t.domainUnit k kport addr unit) := by
  unfold State.domainUnit
  split
  · exact a.answerUnit _ _ _ _
  · exact (a.refuseUnit _ _ _ _ _).ite (a.unitOf _ _ _ _ _ _ _)

/-! ### Power -/

theorem PortKept.setPower (v : Nat) : PortKept s (t.setPower v) := ((a.setObj _ _).count _ _ _).event _ _

theorem PortKept.bankDown (o v : Nat) : PortKept s (t.bankDown o v) := by
  unfold State.bankDown
  exact a.ite (a.trans ⟨by rfl⟩)

theorem PortKept.banksDown (l : List Nat) (v : Nat) : PortKept s (l.foldl (fun s o => s.bankDown o v) t) :=
  PortKept.foldl (fun _ o h => h.bankDown o v) l a

theorem PortKept.coastStep : PortKept s t.coastStep := by
  unfold State.coastStep
  refine PortKept.setPower (PortKept.foldl (fun _ k h => (h.setLink k 7).ite h) _ ?_) 1
  exact a.hull (HullKept.finishTick (.refl t))

theorem PortKept.dozeStep : PortKept s t.dozeStep := by
  unfold State.dozeStep
  extract_lets s1 s2 s3
  have stopped : PortKept s s1 := PortKept.foldl (fun _ c h => h.stopChan c) _ a
  have asleep : PortKept s s3 := PortKept.foldl (fun _ k h => (h.setLink k 8).ite h) _ (stopped.banksDown coreBanks 1)
  clear_value s3
  exact PortKept.setPower (PortKept.setObj (asleep.trans ⟨by rfl⟩) _ _) 2

theorem PortKept.portCut (p : Fin 4) : PortKept s (t.portCut p) := by
  unfold State.portCut
  exact a.ite (((a.setConv p true 0).setConv p false 0).trans ⟨by rfl⟩)

theorem PortKept.napStep : PortKept s t.napStep := by
  unfold State.napStep
  extract_lets aon s1 s2 s3 s4
  have stored : PortKept s s1 := a.trans ⟨by rfl⟩
  have cut : PortKept s s2 := (PortKept.foldl (fun _ p h => h.portCut p) ports stored).setObj _ _
  exact ((cut.banksDown coreBanks 2).banksDown hullBanks 1).setPower 3

theorem PortKept.fillCache : PortKept s t.fillCache := by
  unfold State.fillCache
  extract_lets c d aon w aon'
  have written : PortKept s w := a.ite a.writeSnapshot
  clear_value w
  exact PortKept.ite (a.trans ⟨by rfl⟩) (written.trans ⟨by rfl⟩)

theorem PortKept.sleepStep : PortKept s t.sleepStep :=
  ((a.fillCache.banksDown hullBanks 2).setObjs _).setPower 4

theorem PortKept.stepDown : PortKept s t.stepDown := by
  unfold State.stepDown
  split
  · exact a.coastStep
  · exact a.dozeStep
  · exact a.napStep
  · exact a.sleepStep
  · exact a.setPower 5
  · exact a

theorem PortKept.descend (n : Nat) : PortKept s (State.descend n t) := by
  induction n generalizing t with
  | zero => exact a
  | succ n ih => exact PortKept.ite (ih a.stepDown) (a.trans ⟨by rfl⟩)

theorem PortKept.writePower (k : SessKey) (kport : Nat) (words : List (BitVec 32)) : PortKept s (t.writePower k kport words) := by
  unfold State.writePower
  refine a.writeReq _ _ _ _ _ ?_
  have begun : PortKept t { t with clk := { t.clk with powTarget := wordsNat words, wakePend := none } } := ⟨rfl⟩
  exact PortKept.ite (begun.mute _) (begun.descend 6)

end

end Sys2Proof.Machine
end

section
/-! The write buffers of the host port: a request of the host leaves them alone (R627, R640). -/
namespace Sys2Proof.Machine
open Sys2Proof

/-- The state that an option holds has the write buffers of `s`. -/
def PortKeptOpt (s : State) (o : Option State) : Prop := ∀ t, o = some t → PortKept s t

theorem PortKeptOpt.ofSome {s t : State} (a : PortKept s t) : PortKeptOpt s (some t) := by
  intro u same
  cases same
  exact a

theorem PortKeptOpt.ofNone (s : State) : PortKeptOpt s none := fun _ same => nomatch same

theorem PortKeptOpt.ite {s : State} {c : Prop} [Decidable c] {x y : Option State} (a : PortKeptOpt s x) (b : PortKeptOpt s y) :
    PortKeptOpt s (if c then x else y) := by
  split
  · exact a
  · exact b

theorem PortKeptOpt.orElse {s : State} {x : Option State} {y : Unit → Option State} (a : PortKeptOpt s x) (b : PortKeptOpt s (y ())) :
    PortKeptOpt s (x.orElse y) := by
  cases x with
  | none => exact b
  | some t => exact a

theorem PortKeptOpt.getD {s d : State} {x : Option State} (a : PortKeptOpt s x) (b : PortKept s d) : PortKept s (x.getD d) := by
  cases x with
  | none => exact b
  | some t => exact a t rfl

/-- An object with a rule of its own, or the objects after it. -/
theorem PortKeptOpt.rule {s t : State} {c : Prop} [Decidable c] {x : Option State} (a : PortKept s t) (b : PortKeptOpt s x) :
    PortKeptOpt s (if c then some t else x) := .ite (.ofSome a) b

section
variable {s t : State} (a : PortKept s t)
include a

/-! ### Writes -/

theorem PortKept.writePlain (k : SessKey) (kport addr : Nat) (words : List (BitVec 32)) (x : Extra) : PortKept s (t.writePlain k kport addr words x) :=
  a.writeReq _ _ _ _ _ ⟨by rfl⟩

theorem PortKept.writeBoundary (k : SessKey) (kport addr : Nat) (words : List (BitVec 32)) : PortKept s (t.writeBoundary k kport addr words) :=
  a.writeReq _ _ _ _ _ ⟨by rfl⟩

theorem PortKept.burn (b : Nat) : PortKept s (t.burn b) := a.trans ⟨by rfl⟩

theorem PortKept.writeXipBase (k : SessKey) (kport : Nat) (words : List (BitVec 32)) : PortKept s (t.writeXipBase k kport words) := by
  unfold State.writeXipBase
  exact (PortKept.ite (a.finishWrite _ _ _ _ _ (.refl t)) a).ite (a.writePlain _ _ _ _ _)

theorem PortKept.writeSingle (k : SessKey) (kport addr : Nat) (words : List (BitVec 32)) : PortKeptOpt s (t.writeSingle k kport addr words) := by
  unfold State.writeSingle
  refine .rule (a.commitReq _ _ _ _) ?_
  refine .rule (a.writeReq _ _ _ _ _ (PortKept.abortSet (.refl t) k)) ?_
  refine .rule (a.writeReq _ _ _ _ _ (PortKept.setSession (.refl t) _)) ?_
  refine .rule (a.writeReq _ _ _ _ _ (PortKept.setSession (.refl t) _)) ?_
  refine .rule (a.writeTickRate _ _ _) ?_
  refine .rule (a.writeReq _ _ _ _ _ ⟨by rfl⟩) ?_
  refine .rule (a.writeReq _ _ _ _ _ ⟨by rfl⟩) ?_
  refine .rule (a.writeUnload _ _ _) ?_
  refine .rule (a.writeDrain _ _ _) ?_
  refine .rule (a.writeMigrate _ _ _) ?_
  refine .rule (a.writeReq _ _ _ _ _ (State.startEngSeq_portKept t _ _)) ?_
  refine .rule (a.writeReq _ _ _ _ _ (State.startEngSeq_portKept t _ _)) ?_
  refine .rule (a.writePower _ _ _) ?_
  refine .rule (a.writePriority _ _ _) ?_
  refine .rule (a.writeReq _ _ _ _ _ ⟨by rfl⟩) ?_
  refine .rule (a.writePlain _ _ _ _ _) ?_
  refine .rule (a.writePlain _ _ _ _ _) ?_
  exact .rule (a.writeXipBase _ _ _) (.ofNone s)

theorem PortKept.writeService (k : SessKey) (kport addr : Nat) (words : List (BitVec 32)) : PortKeptOpt s (t.writeService k kport addr words) := by
  unfold State.writeService
  refine .rule (a.writeDrainEnable _ _ _) ?_
  refine .rule (a.writeRetainMode _ _ _) ?_
  refine .rule (a.writeReq _ _ _ _ _ ⟨by rfl⟩) ?_
  refine .rule (a.writeReq _ _ _ _ _ ⟨by rfl⟩) ?_
  refine .rule (a.writeLocusAck _ _ _) ?_
  refine .rule (a.writeReq _ _ _ _ _ ⟨by rfl⟩) ?_
  refine .rule (a.writeReq _ _ _ _ _ (PortKept.clearRanges (.refl t) _)) ?_
  refine .rule (a.writeReq _ _ _ _ _ (PortKept.ite (PortKept.confirmImage (.refl t)) (.refl t))) ?_
  refine .rule (a.writeReq _ _ _ _ _ (PortKept.advanceRollback (.refl t) _ _)) ?_
  refine .rule (a.writeReq _ _ _ _ _ (PortKept.event (PortKept.setObj (PortKept.burn (.refl t) _) _ _) _ _)) ?_
  refine .rule (a.writeReq _ _ _ _ _ (PortKept.activate (.refl t))) ?_
  refine .rule (a.writeLoader _ _ _ _) ?_
  refine .rule (a.writeReq _ _ _ _ _ (PortKept.snapshotDue (.refl t))) ?_
  exact .rule (a.writeReq _ _ _ _ _ (PortKept.keepWrite (PortKept.setObj (.refl t) _ _) _ _)) (.ofNone s)

theorem PortKept.writeArray (k : SessKey) (kport addr : Nat) (words : List (BitVec 32)) : PortKeptOpt s (t.writeArray k kport addr words) := by
  unfold State.writeArray
  extract_lets idx sub p c
  have setting (which : Fin 3) : PortKept s (t.writeSapSetting k kport p which words) := a.writeReq _ _ _ _ _ ⟨by rfl⟩
  have power (b : PowerBank) : PortKept s (t.writePowerBank k kport b words) := a.writeReq _ _ _ _ _ ⟨by rfl⟩
  refine .ite (.rule (a.writeReq _ _ _ _ _ ⟨by rfl⟩) (.rule (a.writeBoundary _ _ _ _) (.ofNone s))) ?_
  refine .rule (a.writeBoundary _ _ _ _) ?_
  refine .ite (.rule (a.writePortEnable _ _ _ _) (.rule (setting 0) (.rule (setting 1) (.rule (setting 2) (.ofNone s))))) ?_
  refine .rule (a.writeLinkEnable _ _ _ _) ?_
  refine .rule (a.writeReq _ _ _ _ _ ⟨by rfl⟩) ?_
  refine .ite ?_ (.rule (power _) (.rule (power _) (.rule (power _) (.rule (a.writePb _ _ _ _) (.ofNone s)))))
  refine .rule (a.writeChannelHead _ _ _ _) (.rule (a.writeDoorbell _ _ _ _) ?_)
  refine .rule (a.writeReq _ _ _ _ _ (PortKept.stopChan (.refl t) _)) ?_
  exact .rule (a.writeReq _ _ _ _ _ ⟨by rfl⟩) (.rule (a.writeChannelSetting _ _ _ _ _) (.ofNone s))

theorem PortKept.dictWrite (k : SessKey) (kport addr : Nat) (words : List (BitVec 32)) : PortKept s (t.dictWrite k kport addr words) := by
  unfold State.dictWrite
  refine (a.writeParam _ _ _ _).ite ?_
  exact (((a.writeSingle k kport addr words).orElse (a.writeService k kport addr words)).orElse (a.writeArray k kport addr words)).getD
    (a.writePlain _ _ _ _ _)

/-! ### Requests -/

theorem PortKept.hostResult (addr code : Nat) : PortKept s (t.hostResult addr code) := a.trans ⟨by rfl⟩

theorem PortKept.dictRead (k : SessKey) (addr : Nat) (early : Bool) : PortKept s (t.dictRead k addr early) := by
  unfold State.dictRead
  extract_lets res c words
  refine a.ite (((a.noteRights _ _ _ _).respond _ _ _ _).ite ?_)
  split
  · exact (a.noteBad _ _).respond _ _ _ _
  · exact ((PortKept.ite (a.setSession _) a).readSofts _).respond _ _ _ _

theorem PortKept.request (r : FwReq) (held early : Bool) : PortKept s (t.request r held early) := by
  unfold State.request State.perform
  refine a.ite ((a.hull (HullKept.refuse (.refl t) r rcBusy)).ite ?_)
  extract_lets u
  have performed : PortKept s u := (a.domainUnit _ _ _ _).ite ((a.dictWrite _ _ _ _).ite (a.dictRead _ _ _))
  exact PortKept.ite (a.trans ⟨by rfl⟩) performed

theorem PortKept.proxySend (op addr : Nat) (words : List (BitVec 32)) : PortKeptOpt s (t.proxySend op addr words) := by
  unfold State.proxySend
  refine .ite (.ofNone s) (.ofSome ?_)
  exact PortKept.sendRouted (a.trans ⟨by rfl⟩) _ _

/-- A buffer presented leaves those behind it (R640). -/
theorem PortKept.performBuf (b : WBuf) (held : Bool) : PortKept s (t.performBuf b held) := by
  cases b with
  | dwr addr words =>
    change PortKept s (t.hostDwr addr words held)
    unfold State.hostDwr
    refine ((a.proxySend 2 addr words).getD (a.respond _ _ _ _)).ite ?_
    extract_lets u
    have served : PortKept s u := a.request _ held false
    split
    · exact PortKept.ite (served.trans ⟨by rfl⟩) served
    · exact served
  | commit =>
    change PortKept s t.hostCommit
    exact (a.commitReq .host 0 [1] true).trans ⟨by rfl⟩
  | dbw addr words =>
    change PortKept s (t.hostDbw addr words held)
    unfold State.hostDbw
    exact ((a.proxySend 3 addr words).getD (a.respond _ _ _ _)).ite (a.request _ held false)
  | mwr addr words =>
    change PortKept s (t.hostMwr addr words)
    unfold State.hostMwr
    exact (a.hostResult _ _).ite ((a.hostResult _ _).ite ((a.busWrite .host _ _).hostResult _ _))
  | load off words =>
    change PortKept s (t.hostLoad off words)
    unfold State.hostLoad
    exact (a.hostResult _ _).ite ((a.hostResult _ _).ite ((a.hostResult _ _).ite ((a.hostResult _ _).ite ((a.storeBytes _ _).hostResult _ _))))
  | portReset =>
    change PortKept s t.portReset
    unfold State.portReset
    extract_lets u session v
    have reset : PortKept s u := (a.setObj _ _).setObj _ _
    have cleared : PortKept s v := (reset.setSession _).ite reset
    exact cleared.trans ⟨by rfl⟩

end

end Sys2Proof.Machine
end

section
/-! The frames of the host port: discarded, entered in a write buffer, or performed (R619 to R630, R638 to R640). -/
namespace Sys2Proof.Machine
open Sys2Proof

/-- HRDY outside frames (R635). -/
def HostReady (t : State) : Prop := t.hsp.hrdy = (t.hsp.read.isNone && decide (t.hsp.buffers.length < 2))

/-- The port works (R813). -/
def HostWorks (s : State) : Prop := s.life = .up ∧ s.obj O.powerState ≤ 3

/-- Edges before the data phase, and of a data word, in the profile in force (R621, R638). -/
def hostHead (u : State) : Nat :=
  (if u.obj O.hostProfile ≤ 2 then 24 else if u.obj O.hostProfile = 3 then 6 else 3) + (if u.obj O.hostProfile = 0 then 32 else if u.obj O.hostProfile = 1 then 16 else if u.obj O.hostProfile ≤ 3 then 8 else 4) + u.obj O.hostDummy
def hostWord (u : State) : Nat :=
  if u.obj O.hostProfile = 0 then 32 else if u.obj O.hostProfile = 1 then 16 else if u.obj O.hostProfile ≤ 3 then 8 else 4

/-- A frame is discarded: counted, its flags set, and nothing else done (R625, R639). -/
def FrameLost (t u : State) (flags : Nat) : Prop :=
  t.obj O.hostFramesDiscarded = satAdd 32 (u.obj O.hostFramesDiscarded) 1 ∧ t.hsp.flags = u.hsp.flags ||| flags ∧
    t.hsp.buffers = u.hsp.buffers ∧ t.mem = u.mem ∧ t.eng = u.eng ∧ t.events = u.events ∧ HostReady t

/-- The flags of a frame of `need` edges that has another number of them (R639). -/
def missFlags (need head word edges : Nat) : Nat :=
  if need < edges then 4 else if head < edges ∧ (edges - head) % word ≠ 0 then 24 else 8

/-- What a frame of a command with N words does: nothing while the port is down, discarded, or performed. -/
def HostFrame (s : State) (i : Instr) (edges : BitVec 16) (ok : Prop) (N : Nat) (act : State → Prop) : Prop :=
  let u := s.openFrame
  (¬HostWorks s → exec i s = .next s) ∧
  (HostWorks s → ¬ok → ∃ t, exec i s = .next t ∧ FrameLost t u 64) ∧
  (HostWorks s → ok → edges.toNat ≠ hostHead u + N * hostWord u → (∀ (x : BitVec 32) (m : BitVec 9) (h : Bool), i ≠ .drd x m edges h) →
    ∃ t, exec i s = .next t ∧ FrameLost t u (missFlags (hostHead u + N * hostWord u) (hostHead u) (hostWord u) edges.toNat)) ∧
  (HostWorks s → ok → edges.toNat = hostHead u + N * hostWord u → ∃ t, exec i s = .next t ∧ HostReady t ∧ act t)

/-- A frame enters a free buffer, or is lost (R640, R642). -/
def HostEnters (u : State) (b : WBuf) (t : State) : Prop :=
  t.mem = u.mem ∧ t.eng = u.eng ∧
    (u.hsp.buffers.length < 2 → t.hsp.buffers = u.hsp.buffers ++ [b] ∧ t.obj O.framesAccepted = satAdd 32 (u.obj O.framesAccepted) 1) ∧
    (2 ≤ u.hsp.buffers.length → t.hsp.buffers = u.hsp.buffers ∧ t.obj O.writeBufferOverflows = satAdd 32 (u.obj O.writeBufferOverflows) 1 ∧ t.hsp.flags = u.hsp.flags ||| 32)

/-- A read frame delivers a result word and the words of a value, ones past its end (R627, R628). -/
def HostDelivers (t : State) (code shown N : Nat) (ws : List (BitVec 32)) : Prop :=
  t.hsp.read = none ∧
    t.hsp.out = BitVec.ofNat 32 (code * 2 ^ 24 + shown % 2 ^ 24) :: (List.range (N - 1)).map (fun i => if code = 0 then ws.getD i 0xFFFFFFFF else 0xFFFFFFFF) ∧
    (code = 0 → ws.length < N - 1 → t.hsp.flags.testBit 1 = true)

/-! ### Edges -/

theorem State.hostUp_iff (s : State) : s.hostUp = true ↔ HostWorks s := by
  simp [State.hostUp, HostWorks]

theorem State.wordEdges_eq (u : State) : u.wordEdges = hostWord u := by
  unfold State.wordEdges hostWord profileLanes
  generalize u.obj O.hostProfile = p
  by_cases h0 : p = 0
  · simp [h0]
  · by_cases h1 : p = 1
    · simp [h1]
    · by_cases h2 : p = 2
      · simp [h2]
      · by_cases h3 : p = 3
        · simp [h3]
        · simp [h0, h1, h2, h3, show ¬p ≤ 3 by omega]

theorem State.headEdges_eq (u : State) : u.headEdges = hostHead u := by
  unfold State.headEdges hostHead profileLanes
  generalize u.obj O.hostProfile = p
  by_cases h0 : p = 0
  · simp [h0]
  · by_cases h1 : p = 1
    · simp [h1]
    · by_cases h2 : p = 2
      · simp [h2]
      · by_cases h3 : p = 3
        · simp [h3]
        · simp [h0, h1, h2, h3, show ¬p ≤ 2 by omega, show ¬p ≤ 3 by omega]

theorem State.needEdges_eq (u : State) (n : Nat) : u.needEdges n = hostHead u + n * hostWord u := by
  rw [State.needEdges, State.headEdges_eq, State.wordEdges_eq]

/-! ### Discarded frames -/

theorem hostReady_setReady (u : State) : HostReady u.setReady := rfl

theorem frameLost_flag (u : State) (flags : Nat) : FrameLost ((u.count O.hostFramesDiscarded 32 1).flagHsp flags).setReady u flags :=
  ⟨State.obj_count_self u _ _ _, rfl, rfl, rfl, rfl, rfl, rfl⟩

theorem frameLost_refuseFrame (u : State) : FrameLost u.refuseFrame.setReady u 64 := frameLost_flag u 64

theorem frameLost_notExact (u : State) (need head edges : Nat) :
    FrameLost (u.notExact need head edges).setReady u (missFlags need head (hostWord u) edges) := by
  unfold State.notExact missFlags
  rw [State.wordEdges_eq]
  dsimp only
  split
  · exact frameLost_flag u 4
  · by_cases inside : head < edges ∧ (edges - head) % hostWord u ≠ 0
    · have mid : (decide (head < edges) && (edges - head) % hostWord u != 0) = true := by simpa using inside
      rw [mid, if_pos inside]
      exact frameLost_flag u 24
    · have mid : (decide (head < edges) && (edges - head) % hostWord u != 0) = false := by simpa using inside
      rw [mid, if_neg inside]
      exact frameLost_flag u 8

/-- The four outcomes of a frame (R624, R625, R639). -/
theorem hostFrame_of {s : State} {i : Instr} {edges : BitVec 16} {ok : Prop} {valid : Bool} {N : Nat} {miss perform : State → State}
    {act : State → Prop} (runs : exec i s = .next (s.frame valid N edges.toNat miss perform)) (spelled : valid = true ↔ ok)
    (whole : (∀ (x : BitVec 32) (m : BitVec 9) (h : Bool), i ≠ .drd x m edges h) → miss = id)
    (performs : ok → act (perform s.openFrame).setReady) : HostFrame s i edges ok N act := by
  unfold HostFrame
  extract_lets u
  have spelled' : valid = false ↔ ¬ok := by rw [← spelled, Bool.not_eq_true]
  refine ⟨fun down => ?_, fun up bad => ⟨_, runs, ?_⟩, fun up good other plain => ⟨_, runs, ?_⟩, fun up good exact_ => ⟨_, runs, ?_⟩⟩
  · rw [runs, State.frame, (Bool.not_eq_true _).mp (mt s.hostUp_iff.mp down)]
    rfl
  all_goals
    rw [State.frame, s.hostUp_iff.mpr up]
    dsimp only
  · rw [spelled'.mpr bad]
    exact frameLost_refuseFrame u
  · rw [spelled.mpr good, whole plain, State.needEdges_eq, State.headEdges_eq]
    simp only [Bool.not_true, Bool.false_eq_true, if_false, id_eq]
    rw [if_neg other]
    exact frameLost_notExact u _ _ _
  · rw [spelled.mpr good, State.needEdges_eq]
    simp only [Bool.not_true, Bool.false_eq_true, if_false]
    rw [if_pos exact_]
    exact ⟨hostReady_setReady _, performs good⟩

/-! ### Write frames -/

theorem hostEnters_enterBuf (u : State) (b : WBuf) : HostEnters u b (u.enterBuf b).setReady := by
  unfold State.enterBuf
  by_cases room : u.hsp.buffers.length < 2
  · rw [if_pos room]
    exact ⟨rfl, rfl, fun _ => ⟨rfl, State.obj_count_self _ _ _ _⟩, fun full => absurd room (by omega)⟩
  · rw [if_neg room]
    exact ⟨rfl, rfl, fun free => absurd free room, fun _ => ⟨rfl, State.obj_count_self _ _ _ _, rfl⟩⟩

theorem objectPhase_iff (addr : Nat) : objectPhase addr = true ↔ addr / 2 ^ 24 % 128 = 0 := beq_iff_eq

section
variable (s : State) (addr : BitVec 32) (words : List (BitVec 32)) (n : BitVec 9) (edges : BitVec 16)

theorem hostFrame_hostDwr : HostFrame s (.hostDwr addr words edges) edges (addr.toNat / 2 ^ 24 % 128 = 0) words.length
    (HostEnters s.openFrame (.dwr addr.toNat words)) :=
  hostFrame_of (valid := objectPhase addr.toNat) rfl (objectPhase_iff _) (fun _ => rfl) (fun _ => hostEnters_enterBuf _ _)

theorem hostFrame_commit : HostFrame s (.commit addr n edges) edges (n = 0 ∧ addr = 0) 0 (HostEnters s.openFrame .commit) :=
  hostFrame_of (valid := n = 0 && addr = 0) rfl (by simp) (fun _ => rfl) (fun _ => hostEnters_enterBuf _ _)

theorem hostFrame_dbw : HostFrame s (.dbw addr words edges) edges
    (addr.toNat / 2 ^ 24 % 128 = 0 ∧ 1 ≤ words.length ∧ words.length ≤ 257) words.length (HostEnters s.openFrame (.dbw addr.toNat words)) :=
  hostFrame_of (valid := objectPhase addr.toNat && decide (1 ≤ words.length) && decide (words.length ≤ 257)) rfl
    (by simp [objectPhase, and_assoc]) (fun _ => rfl) (fun _ => hostEnters_enterBuf _ _)

theorem hostFrame_mwr : HostFrame s (.mwr addr words edges) edges (addr.toNat % 4 = 0 ∧ 1 ≤ words.length ∧ words.length ≤ 256) words.length
    (HostEnters s.openFrame (.mwr addr.toNat words)) :=
  hostFrame_of (valid := addr.toNat % 4 == 0 && decide (1 ≤ words.length) && decide (words.length ≤ 256)) rfl
    (by simp [and_assoc]) (fun _ => rfl) (fun _ => hostEnters_enterBuf _ _)

theorem hostFrame_load : HostFrame s (.load addr words edges) edges (1 ≤ words.length ∧ words.length ≤ 256) words.length
    (HostEnters s.openFrame (.load addr.toNat words)) :=
  hostFrame_of (valid := decide (1 ≤ words.length) && decide (words.length ≤ 256)) rfl (by simp) (fun _ => rfl) (fun _ => hostEnters_enterBuf _ _)

end

/-! ### STAT and EVT -/

theorem testBit_and_not {flags mask i : Nat} (h : i < 7) : (flags &&& (127 ^^^ (mask % 128))).testBit i = (flags.testBit i && !mask.testBit i) := by
  have ones : (127 : Nat).testBit i = true := by
    rw [show (127 : Nat) = 2 ^ 7 - 1 by rfl, Nat.testBit_two_pow_sub_one]
    exact decide_eq_true h
  have low : (mask % 128).testBit i = mask.testBit i := by
    rw [show (128 : Nat) = 2 ^ 7 by rfl, Nat.testBit_mod_two_pow, decide_eq_true h, Bool.true_and]
  rw [Nat.testBit_and, Nat.testBit_xor, ones, low, Bool.true_xor]

section
variable (s : State) (addr : BitVec 32) (n : BitVec 9) (edges : BitVec 16)

/-- STAT gives its words and clears the flags named (R629). -/
theorem hostFrame_stat : HostFrame s (.stat addr n edges) edges (addr.toNat < 128 ∧ 1 ≤ n.toNat ∧ n.toNat ≤ 4) n.toNat (fun t =>
    let u := s.openFrame.presentAll
    t.hsp.out = ([u.hostStatus, u.hsp.last, u.hsp.gen, u.deviceStatus].map (BitVec.ofNat 32)).take n.toNat ∧
      (∀ i : Fin 7, t.hsp.flags.testBit i.val = (u.hsp.flags.testBit i.val && !addr.toNat.testBit i.val)) ∧ t.mem = u.mem ∧ t.eng = u.eng) := by
  refine hostFrame_of (valid := decide (addr.toNat < 128) && nInRange 0x05 n.toNat) (miss := id) rfl (by simp [nInRange]) (fun _ => rfl) (fun _ => ?_)
  dsimp only
  generalize s.openFrame.presentAll = u
  exact ⟨rfl, fun i => testBit_and_not i.isLt, rfl, rfl⟩

theorem Event.length_words (e : Event) : e.words.length = 4 := rfl

theorem length_flatMap_words (l : List Event) : (l.flatMap Event.words).length = 4 * l.length := by
  induction l with
  | nil => rfl
  | cons e l ih =>
    rw [List.flatMap_cons, List.length_append, ih, Event.length_words, List.length_cons]
    omega

/-- A list filled up with zeros to a length that it does not pass. -/
theorem getElem?_append_zeros {l : List (BitVec 32)} {n : Nat} (short : l.length ≤ n) (i : Nat) :
    (l ++ List.replicate (n - l.length) 0)[i]? = if i < n then some (l.getD i 0) else none := by
  by_cases within : i < l.length
  · rw [List.getElem?_append_left within, if_pos (by omega), List.getD_eq_getElem?_getD, List.getElem?_eq_getElem within]
    rfl
  · rw [List.getElem?_append_right (by omega), List.getElem?_replicate, List.getD_eq_default _ _ (by omega)]
    exact ite_congr (propext (by omega)) (fun _ => rfl) (fun _ => rfl)

/-- EVT gives records, with zeros where the queue is empty, and removes them (R467, R629). -/
theorem hostFrame_evt : HostFrame s (.evt addr n edges) edges (addr = 0 ∧ n.toNat % 4 = 0 ∧ 4 ≤ n.toNat ∧ n.toNat ≤ 256) n.toNat (fun t =>
    let u := s.openFrame.presentAll
    t.events = u.events.drop (n.toNat / 4) ∧ t.mem = u.mem ∧ t.eng = u.eng ∧
      ∀ i : Nat, t.hsp.out[i]? = if i < n.toNat then some (((u.events.take (n.toNat / 4)).flatMap Event.words).getD i 0) else none) := by
  refine hostFrame_of (valid := decide (addr = 0) && nInRange 0x06 n.toNat) (miss := id) rfl (by simp [nInRange]) (fun _ => rfl) (fun good => ?_)
  dsimp only
  generalize s.openFrame.presentAll = u
  refine ⟨rfl, rfl, rfl, fun i => ?_⟩
  obtain ⟨-, whole, -⟩ := good
  have short : ((u.events.take (n.toNat / 4)).flatMap Event.words).length ≤ n.toNat := by
    rw [length_flatMap_words, List.length_take]
    omega
  exact getElem?_append_zeros short i

end

end Sys2Proof.Machine
end

section
/-! The read frames of the host port: DRD, DBR and MRD, and the answer of one that waits (R626 to R631, R645). -/
namespace Sys2Proof.Machine
open Sys2Proof

/-- A read frame waits for the dictionary. -/
def HostWaits (t : State) (addr n : Nat) (dbr todo : Bool) : Prop :=
  t.hsp.read = some { addr := addr, n := n, dbr := dbr, todo := todo, res := none }

/-- The request of the host session. -/
def hostSrc : Src := { key := .host, link := 0 }

/-! ### Delivery -/

/-- The flags only gain OVERRUN, the rest of what a delivery leaves. -/
theorem hostDelivers_deliverRead (u : State) (shown n code : Nat) (ws : List (BitVec 32)) :
    HostDelivers (u.deliverRead shown n code ws).setReady code shown n ws := by
  unfold State.deliverRead
  refine ⟨rfl, rfl, fun good short => ?_⟩
  dsimp only
  rw [if_pos ⟨good, short⟩]
  change (u.hsp.flags ||| 2).testBit 1 = true
  rw [Nat.testBit_or]
  exact Bool.or_true _

/-- What a delivery leaves unchanged. -/
theorem State.deliverRead_frame (u : State) (shown n code : Nat) (ws : List (BitVec 32)) :
    (u.deliverRead shown n code ws).mem = u.mem ∧ (u.deliverRead shown n code ws).eng = u.eng ∧
      (u.deliverRead shown n code ws).sessions = u.sessions := by
  unfold State.deliverRead
  dsimp only
  split <;> exact ⟨rfl, rfl, rfl⟩

theorem State.session_of_sessions {s t : State} (same : t.sessions = s.sessions) (k : SessKey) : t.session k = s.session k := by
  unfold State.session
  rw [same]

/-- A refused read delivers ones, whatever the words it met. -/
theorem HostDelivers.refused {t : State} {code shown N : Nat} {ws : List (BitVec 32)} (h : HostDelivers t code shown N ws) (bad : code ≠ 0) :
    HostDelivers t code shown N [] := by
  obtain ⟨read, out, -⟩ := h
  simp only [bad, if_false] at out
  refine ⟨read, ?_, fun good => absurd good bad⟩
  simp only [bad, if_false]
  exact out

/-! ### DRD -/

theorem State.sendRouted_proxied (s : State) (bulk : Bool) (m : Msg) : (s.sendRouted bulk m).net.proxied = s.net.proxied := by
  unfold State.sendRouted
  split
  · rfl
  · split <;> rfl

/-- A proxied request is answered "no route" without a proxy or a route to it. -/
theorem State.proxySend_none {s : State} (op addr : Nat) (words : List (BitVec 32))
    (lost : (s.session .host).proxy = 0xFFFF ∨ s.hasRoute (s.session .host).proxy = false) : s.proxySend op addr words = none := by
  unfold State.proxySend
  dsimp only
  rw [if_pos (by simpa using lost)]

/-- A proxied request that is sent enters those that wait, under the next tag. -/
theorem State.proxySend_some {s : State} (op addr : Nat) (words : List (BitVec 32))
    (named : (s.session .host).proxy ≠ 0xFFFF) (routed : s.hasRoute (s.session .host).proxy = true) :
    ∃ t, s.proxySend op addr words = some t ∧
      t.net.proxied = s.net.proxied ++ [{ tag := s.net.nextTag, target := (s.session .host).proxy, op := op, addr := addr }] := by
  unfold State.proxySend
  dsimp only
  rw [if_neg (by simp [named, routed])]
  exact ⟨_, rfl, State.sendRouted_proxied _ _ _⟩

theorem isProxied_iff (addr : Nat) : isProxied addr = true ↔ 2 ^ 31 ≤ addr := by
  simp [isProxied]

theorem isProxied_eq_false (addr : Nat) : isProxied addr = false ↔ addr < 2 ^ 31 := by
  simp [isProxied]

/-- An object address of 24 bits, as a request and as a word of the dictionary. -/
theorem toNat_ofNat24 {a : Nat} (short : a < 2 ^ 24) : (BitVec.ofNat 24 a).toNat = a := by
  rw [BitVec.toNat_ofNat, Nat.mod_eq_of_lt short]

theorem exec_dictionaryRead_host (s : State) {a : Nat} (short : a < 2 ^ 24) (held : Bool) :
    exec (.dictionaryRead hostSrc (BitVec.ofNat 24 a) (if held then .held else .now)) s =
      .next (s.request { key := .host, link := 0, write := false, addr := a, words := [], accepted := 0, tag := none } held) := by
  change Host.Outcome.next (s.request { key := .host, link := 0, write := false, addr := (BitVec.ofNat 24 a).toNat, words := [], accepted := 0, tag := none } _ _) = _
  rw [toNat_ofNat24 short]
  cases held <;> rfl

/-- What a DRD does while the dictionary serves requests (R628, R458). -/
theorem State.startDrd_local {s : State} {addr : Nat} (n : Nat) (held : Bool) (here : addr < 2 ^ 31) (short : addr < 2 ^ 24) :
    ∃ u, exec (.dictionaryRead hostSrc (BitVec.ofNat 24 addr) (if held then .held else .now)) s = .next u ∧
      (s.fwQueue.length < u.fwQueue.length → HostWaits (s.startDrd addr n held).setReady addr n false false) ∧
      (∀ p, u.fwQueue.length ≤ s.fwQueue.length → u.resp = some p → HostDelivers (s.startDrd addr n held).setReady p.code addr n p.words ∧
        (s.startDrd addr n held).mem = u.mem ∧ (s.startDrd addr n held).eng = u.eng) := by
  refine ⟨_, exec_dictionaryRead_host s short held, ?_⟩
  unfold State.startDrd
  rw [(isProxied_eq_false addr).mpr here]
  dsimp only
  rw [if_neg Bool.false_ne_true]
  generalize s.request _ held = u
  unfold State.queuedMore
  refine ⟨fun more => ?_, fun p less answer => ?_⟩
  · rw [if_pos (decide_eq_true more)]
    rfl
  · rw [if_neg (by simpa using less), answer]
    have frame := u.deliverRead_frame addr n p.code p.words
    exact ⟨hostDelivers_deliverRead _ _ _ _ _, frame.1, frame.2.1⟩

theorem State.startDrd_noRoute {s : State} {addr : Nat} (n : Nat) (held : Bool) (there : 2 ^ 31 ≤ addr)
    (lost : (s.session .host).proxy = 0xFFFF ∨ s.hasRoute (s.session .host).proxy = false) :
    HostDelivers (s.startDrd addr n held).setReady rcNoRoute addr n [] := by
  unfold State.startDrd
  dsimp only
  rw [if_pos ((isProxied_iff addr).mpr there), State.proxySend_none 1 addr [] lost]
  exact hostDelivers_deliverRead _ _ _ _ _

theorem State.startDrd_routed {s : State} {addr : Nat} (n : Nat) (held : Bool) (there : 2 ^ 31 ≤ addr)
    (named : (s.session .host).proxy ≠ 0xFFFF) (routed : s.hasRoute (s.session .host).proxy = true) :
    HostWaits (s.startDrd addr n held).setReady addr n false false ∧
      (s.startDrd addr n held).net.proxied = s.net.proxied ++ [{ tag := s.net.nextTag, target := (s.session .host).proxy, op := 1, addr := addr }] := by
  obtain ⟨t, sent, proxied⟩ := State.proxySend_some 1 addr [] named routed
  unfold State.startDrd
  dsimp only
  rw [if_pos ((isProxied_iff addr).mpr there), sent]
  exact ⟨rfl, proxied⟩

section
variable (s : State) (addr : BitVec 32) (n : BitVec 9) (edges : BitVec 16) (held : Bool)

theorem hostFrame_drd : HostFrame s (.drd addr n edges held) edges (addr.toNat / 2 ^ 24 % 128 = 0 ∧ 2 ≤ n.toNat ∧ n.toNat ≤ 17) n.toNat (fun t =>
    let u2 := s.openFrame.presentAll
    (u2.serving = false → HostWaits t addr.toNat n.toNat false true) ∧
      (u2.serving = true → addr.toNat < 2 ^ 31 →
        ∃ u, exec (.dictionaryRead hostSrc (BitVec.ofNat 24 addr.toNat) (if held then .held else .now)) u2 = .next u ∧
          (u2.fwQueue.length < u.fwQueue.length → HostWaits t addr.toNat n.toNat false false) ∧
          (∀ p, u.fwQueue.length ≤ u2.fwQueue.length → u.resp = some p →
            HostDelivers t p.code addr.toNat n.toNat p.words ∧ t.mem = u.mem ∧ t.eng = u.eng)) ∧
      (u2.serving = true → 2 ^ 31 ≤ addr.toNat →
        (((u2.session .host).proxy = 0xFFFF ∨ u2.hasRoute (u2.session .host).proxy = false) → HostDelivers t rcNoRoute addr.toNat n.toNat []) ∧
        ((u2.session .host).proxy ≠ 0xFFFF → u2.hasRoute (u2.session .host).proxy = true → HostWaits t addr.toNat n.toNat false false ∧
          t.net.proxied = u2.net.proxied ++ [{ tag := u2.net.nextTag, target := (u2.session .host).proxy, op := 1, addr := addr.toNat }]))) := by
  refine hostFrame_of (valid := objectPhase addr.toNat && nInRange 0x20 n.toNat) rfl (by simp [nInRange, objectPhase])
    (fun plain => absurd rfl (plain addr n held)) (fun good => ?_)
  dsimp only
  generalize s.openFrame.presentAll = u2
  unfold State.startRead
  refine ⟨fun stopped => ?_, fun serves here => ?_, fun serves there => ?_⟩
  · rw [stopped]
    rfl
  all_goals
    rw [serves]
    simp only [Bool.not_true, Bool.false_eq_true, if_false]
  · obtain ⟨phase, -⟩ := good
    exact State.startDrd_local n.toNat held here (by omega)
  · exact ⟨State.startDrd_noRoute n.toNat held there, State.startDrd_routed n.toNat held there⟩

end

/-! ### DBR -/

/-- The entry of a session once it has been replaced. -/
theorem find?_replaced {l : List Session} {x : Session} (known : l.any (fun y => y.key = x.key) = true) :
    (l.map (fun y => if y.key = x.key then x else y)).find? (fun y => y.key = x.key) = some x := by
  induction l with
  | nil => simp at known
  | cons y l ih =>
    rw [List.map_cons]
    by_cases same : y.key = x.key
    · rw [if_pos same, List.find?_cons_of_pos (by simp)]
    · rw [if_neg same, List.find?_cons_of_neg (by simpa using same)]
      exact ih (by simpa [same] using known)

theorem State.session_setSession_self (s : State) (x : Session) : (s.setSession x).session x.key = x := by
  unfold State.setSession
  split
  next known =>
    unfold State.session
    dsimp only
    rw [find?_replaced known, Option.getD_some]
  next fresh =>
    have none_ : s.sessions.find? (fun y => y.key = x.key) = none := by
      rw [List.find?_eq_none]
      intro y member same
      exact fresh (List.any_eq_true.mpr ⟨y, member, same⟩)
    unfold State.session
    dsimp only
    rw [List.find?_append, none_, Option.none_or, List.find?_singleton, if_pos (by simp), Option.getD_some]

theorem State.session_key (s : State) (k : SessKey) : (s.session k).key = k := by
  unfold State.session
  cases found : s.sessions.find? (fun x => x.key = k) with
  | none => rfl
  | some x => simpa using List.find?_some found

/-- The unit of a session is taken away. -/
theorem State.unit_setSession_none (s : State) (k : SessKey) : ((s.setSession { s.session k with unit := none }).session k).unit = none := by
  have entry := s.session_setSession_self { s.session k with unit := none }
  rw [show ({ s.session k with unit := none } : Session).key = k from s.session_key k] at entry
  rw [entry]

/-- A DBR of the address of the pending unit gives its words and takes it away (R630). -/
theorem State.startDbr_unit {s : State} {addr : Nat} {ws : List (BitVec 32)} (n : Nat) (held : (s.session .host).unit = some (addr, ws)) :
    HostDelivers (s.startDbr addr n).setReady 0 addr n ws ∧ ((s.startDbr addr n).session .host).unit = none := by
  unfold State.startDbr
  dsimp only
  rw [held]
  dsimp only
  rw [if_pos rfl]
  refine ⟨hostDelivers_deliverRead _ _ _ _ _, ?_⟩
  rw [State.session_of_sessions (State.deliverRead_frame _ _ _ _ _).2.2]
  exact s.unit_setSession_none .host

/-- A DBR of another address, or with no unit pending, is a sequence error and leaves the unit (R630). -/
theorem State.startDbr_other {s : State} {addr : Nat} (n : Nat) (other : ∀ ws, (s.session .host).unit ≠ some (addr, ws)) :
    HostDelivers (s.startDbr addr n).setReady rcSequence addr n [] ∧
      ((s.startDbr addr n).session .host).unit = (s.session .host).unit := by
  have refused : s.startDbr addr n = (s.hostResult addr rcSequence).deliverRead addr n rcSequence [] := by
    unfold State.startDbr
    dsimp only
    split
    next a ws held => rw [if_neg (fun same : a = addr => other ws (by rw [held, same]))]
    next => rfl
  rw [refused]
  refine ⟨hostDelivers_deliverRead _ _ _ _ _, ?_⟩
  rw [State.session_of_sessions (State.deliverRead_frame _ _ _ _ _).2.2]
  rfl

theorem hostFrame_dbr (s : State) (addr : BitVec 32) (n : BitVec 9) (edges : BitVec 16) :
    HostFrame s (.dbr addr n edges) edges (addr.toNat / 2 ^ 24 % 128 = 0 ∧ 2 ≤ n.toNat ∧ n.toNat ≤ 258) n.toNat (fun t =>
      let u2 := s.openFrame.presentAll
      (u2.serving = false → HostWaits t addr.toNat n.toNat true true) ∧
        (∀ ws, u2.serving = true → (u2.session .host).unit = some (addr.toNat, ws) →
          HostDelivers t 0 addr.toNat n.toNat ws ∧ (t.session .host).unit = none) ∧
        (u2.serving = true → (∀ ws, (u2.session .host).unit ≠ some (addr.toNat, ws)) →
          HostDelivers t rcSequence addr.toNat n.toNat [] ∧ (t.session .host).unit = (u2.session .host).unit)) := by
  refine hostFrame_of (valid := objectPhase addr.toNat && nInRange 0x24 n.toNat) (miss := id) rfl (by simp [nInRange, objectPhase]) (fun _ => rfl)
    (fun _ => ?_)
  dsimp only
  generalize s.openFrame.presentAll = u2
  unfold State.startRead
  refine ⟨fun stopped => ?_, fun ws serves held => ?_, fun serves other => ?_⟩
  · rw [stopped]
    rfl
  all_goals
    rw [serves]
    simp only [Bool.not_true, Bool.false_eq_true, if_false, if_true]
  · exact State.startDbr_unit n.toNat held
  · exact State.startDbr_other n.toNat other

/-! ### MRD -/

/-- MRD outside Service mode, outside the map, and of a range that is read or that is not (R631, R645). -/
theorem hostFrame_mrd (s : State) (addr : BitVec 32) (n : BitVec 9) (edges : BitVec 16) :
    HostFrame s (.mrd addr n edges) edges (addr.toNat % 4 = 0 ∧ 2 ≤ n.toNat ∧ n.toNat ≤ 257) n.toNat (fun t =>
      let u2 := s.openFrame.presentAll
      let b := u2.obj O.hostWindowHigh * 2 ^ 32 + addr.toNat
      let bytes := min (4 * (n.toNat - 1)) (u2.mapRoom b / 4 * 4)
      let r := u2.busRead 5 b bytes
      (u2.mode ≠ 7 → HostDelivers t rcMode 0 n.toNat [] ∧ t.mem = u2.mem ∧ t.eng = u2.eng) ∧
        (u2.mode = 7 → u2.mapRoom b = 0 → HostDelivers t rcRange 0 n.toNat [] ∧ t.mem = u2.mem ∧ t.eng = u2.eng) ∧
        (u2.mode = 7 → u2.mapRoom b ≠ 0 → r.1 = .ok → HostDelivers t 0 0 n.toNat (bytesWords r.2.1)) ∧
        (u2.mode = 7 → u2.mapRoom b ≠ 0 → (r.1 = .poison ∨ r.1 = .busError ∨ r.1 = .fetchFault) → HostDelivers t rcMemory 0 n.toNat [])) := by
  refine hostFrame_of (valid := addr.toNat % 4 == 0 && nInRange 0x30 n.toNat) (miss := id) rfl (by simp [nInRange]) (fun _ => rfl) (fun _ => ?_)
  dsimp only
  generalize s.openFrame.presentAll = u2
  unfold State.hostMrd State.hostAddr
  dsimp only
  generalize u2.obj O.hostWindowHigh * 2 ^ 32 + addr.toNat = b
  generalize u2.busRead 5 b _ = r
  refine ⟨fun other => ?_, fun service outside => ?_, fun service inside ok => ?_, fun service inside bad => ?_⟩
  · rw [if_pos other]
    have frame := (u2.hostResult 0 rcMode).deliverRead_frame 0 n.toNat rcMode []
    exact ⟨hostDelivers_deliverRead _ _ _ _ _, frame.1, frame.2.1⟩
  · rw [if_neg (not_not_intro service), if_pos outside]
    have frame := (u2.hostResult 0 rcRange).deliverRead_frame 0 n.toNat rcRange []
    exact ⟨hostDelivers_deliverRead _ _ _ _ _, frame.1, frame.2.1⟩
  · rw [if_neg (not_not_intro service), if_neg inside, ok]
    exact hostDelivers_deliverRead _ _ _ _ _
  · have code : busCode r.1 = rcMemory := by rcases bad with h | h | h <;> rw [h] <;> rfl
    rw [if_neg (not_not_intro service), if_neg inside, code]
    exact (hostDelivers_deliverRead _ _ _ _ _).refused (by decide)

/-! ### The response of a waiting read frame -/

theorem exec_hostResponseReady_none {s : State} (idle : s.hsp.read = none) : exec .hostResponseReady s = .next s := by
  change execHostResponseReady s = _
  rw [execHostResponseReady, idle]

/-- A frame whose answer has not come, and one that waits for a dictionary that does not serve, wait on. -/
theorem exec_hostResponseReady_waits {s : State} {r : HostRead} (waits : s.hsp.read = some r)
    (nothing : r.todo = false ∧ r.res = none ∨ r.todo = true ∧ s.serving = false) : exec .hostResponseReady s = .next s := by
  change execHostResponseReady s = _
  rw [execHostResponseReady, waits]
  dsimp only
  rcases nothing with ⟨sent, unanswered⟩ | ⟨todo, stopped⟩
  · rw [sent, unanswered]
  · rw [todo, stopped]
    rfl

/-- The answer that has come is delivered (R626). -/
theorem exec_hostResponseReady_delivers {s : State} {r : HostRead} {c : Nat} {ws : List (BitVec 32)} (waits : s.hsp.read = some r)
    (sent : r.todo = false) (answered : r.res = some (c, ws)) :
    ∃ t, exec .hostResponseReady s = .next t ∧ HostReady t ∧ HostDelivers t c r.addr r.n ws ∧ t.mem = s.mem ∧ t.eng = s.eng := by
  refine ⟨(s.deliverRead r.addr r.n c ws).setReady, ?_, hostReady_setReady _, hostDelivers_deliverRead _ _ _ _ _, ?_⟩
  · change execHostResponseReady s = _
    rw [execHostResponseReady, waits]
    dsimp only
    rw [sent, answered]
  · have frame := s.deliverRead_frame r.addr r.n c ws
    exact ⟨frame.1, frame.2.1⟩

/-- With no write buffer there is nothing to present. -/
theorem State.presentAll_of_empty {s : State} (empty : s.hsp.buffers = []) : s.presentAll = s := by
  have once (u : State) (h : u.hsp.buffers = []) : u.presentOne false = u := by
    unfold State.presentOne
    rw [h]
    split <;> rfl
  unfold State.presentAll
  rw [once s empty, once s empty]

/-- A DBR that waited for the dictionary and finds no unit is a sequence error (R630). -/
theorem exec_hostResponseReady_dbr {s : State} {r : HostRead} (waits : s.hsp.read = some r) (todo : r.todo = true) (dbr : r.dbr = true)
    (serves : s.serving = true) (empty : s.hsp.buffers = []) (noUnit : (s.session .host).unit = none) :
    ∃ t, exec .hostResponseReady s = .next t ∧ HostReady t ∧ HostDelivers t rcSequence r.addr r.n [] := by
  let u : State := { s with hsp := { s.hsp with read := none } }
  have other : ∀ ws, (u.session .host).unit ≠ some (r.addr, ws) := fun ws held => by
    exact Option.some_ne_none _ (held.symm.trans noUnit)
  refine ⟨(u.startDbr r.addr r.n).setReady, ?_, hostReady_setReady _, (State.startDbr_other r.n other).1⟩
  change execHostResponseReady s = _
  rw [execHostResponseReady, waits]
  dsimp only
  rw [todo]
  dsimp only
  have serves' : u.serving = true := serves
  have started : (u.presentAll).startRead { r with todo := false } false = u.startDbr r.addr r.n := by
    rw [State.presentAll_of_empty (s := u) empty, State.startRead, serves']
    simp only [Bool.not_true, Bool.false_eq_true, if_false, dbr, if_true]
  rw [if_pos serves]
  exact congrArg (fun t : State => Host.Outcome.next t.setReady) started

end Sys2Proof.Machine
end

section
/-! PORTRESET, bad commands, and the write buffers as they are presented (R625, R627, R631, R640, R643, R758 to R760). -/
namespace Sys2Proof.Machine
open Sys2Proof

/-! ### PORTRESET and bad commands -/

/-- What a reset of the port does (R643). -/
structure PortIsReset (t : State) : Prop where
  profile : t.obj O.hostProfile = 0
  dummy : t.obj O.hostDummy = 0
  flags : t.hsp.flags = 0
  fast : t.hsp.fast = false

theorem State.setSession_hostFrame (s : State) (x : Session) :
    (s.setSession x).objs = s.objs ∧ (s.setSession x).mem = s.mem ∧ (s.setSession x).eng = s.eng ∧ (s.setSession x).hsp = s.hsp := by
  unfold State.setSession
  split <;> exact ⟨rfl, rfl, rfl, rfl⟩

theorem State.portReset_resets (s : State) :
    PortIsReset s.portReset ∧ (s.portReset.session .host).unit = none ∧ s.portReset.mem = s.mem ∧ s.portReset.eng = s.eng := by
  have objects : (s.setObjs [(O.hostProfile, 0), (O.hostDummy, 0)]).obj O.hostProfile = 0 ∧
      (s.setObjs [(O.hostProfile, 0), (O.hostDummy, 0)]).obj O.hostDummy = 0 := by
    change ((s.setObj O.hostProfile 0).setObj O.hostDummy 0).obj O.hostProfile = 0 ∧ ((s.setObj O.hostProfile 0).setObj O.hostDummy 0).obj O.hostDummy = 0
    rw [State.obj_setObj, State.obj_setObj, State.obj_setObj, if_neg (show O.hostProfile ≠ O.hostDummy by decide)]
    exact ⟨rfl, rfl⟩
  have kept : (s.setObjs [(O.hostProfile, 0), (O.hostDummy, 0)]).mem = s.mem ∧ (s.setObjs [(O.hostProfile, 0), (O.hostDummy, 0)]).eng = s.eng :=
    ⟨rfl, rfl⟩
  unfold State.portReset
  generalize s.setObjs [(O.hostProfile, 0), (O.hostDummy, 0)] = t at objects kept
  dsimp only
  by_cases pending : (t.session .host).unit.isSome = true
  · rw [if_pos pending]
    obtain ⟨objs, mem, eng, -⟩ := t.setSession_hostFrame { t.session .host with unit := none }
    have same (a : Nat) : (t.setSession { t.session .host with unit := none }).obj a = t.obj a := by
      unfold State.obj
      rw [objs]
    exact ⟨⟨(same _).trans objects.1, (same _).trans objects.2, rfl, rfl⟩, t.unit_setSession_none .host, mem.trans kept.1, eng.trans kept.2⟩
  · rw [if_neg pending]
    exact ⟨⟨objects.1, objects.2, rfl, rfl⟩, Option.not_isSome_iff_eq_none.mp pending, kept⟩

section
variable (s : State) (edges : BitVec 16)

theorem exec_portreset_down (down : ¬HostWorks s) : exec (.portreset edges) s = .next s := by
  change execPortreset edges s = _
  rw [execPortreset, (Bool.not_eq_true _).mp (mt s.hostUp_iff.mp down)]
  rfl

theorem exec_portreset_up (up : HostWorks s) : exec (.portreset edges) s = .next
    (if edges.toNat = 24 then (if s.openFrame.serving then s.openFrame.presentAll.portReset.accepted else s.openFrame.enterBuf .portReset)
      else s.openFrame.notExact 24 24 edges.toNat).setReady := by
  change execPortreset edges s = _
  rw [execPortreset, s.hostUp_iff.mpr up]
  rfl

/-- A PORTRESET has no data phase: a count of edges above 24 is SHORT, below it LONG (R639). -/
theorem exec_portreset_lost (up : HostWorks s) (other : edges.toNat ≠ 24) :
    ∃ t, exec (.portreset edges) s = .next t ∧ FrameLost t s.openFrame (if 24 < edges.toNat then 4 else 8) := by
  refine ⟨_, exec_portreset_up s edges up, ?_⟩
  rw [if_neg other]
  generalize s.openFrame = u
  unfold State.notExact
  dsimp only
  by_cases short : 24 < edges.toNat
  · rw [if_pos short, if_pos short]
    exact frameLost_flag u 4
  · rw [if_neg short, if_neg short, decide_eq_false short]
    exact frameLost_flag u 8

theorem exec_portreset_waits (up : HostWorks s) (exact_ : edges.toNat = 24) (stopped : s.openFrame.serving = false) :
    ∃ t, exec (.portreset edges) s = .next t ∧ HostReady t ∧ HostEnters s.openFrame .portReset t := by
  refine ⟨_, exec_portreset_up s edges up, hostReady_setReady _, ?_⟩
  rw [if_pos exact_, stopped, if_neg Bool.false_ne_true]
  exact hostEnters_enterBuf _ _

theorem exec_portreset_resets (up : HostWorks s) (exact_ : edges.toNat = 24) (serves : s.openFrame.serving = true) :
    ∃ t, exec (.portreset edges) s = .next t ∧ HostReady t ∧ t.obj O.hostProfile = 0 ∧ t.obj O.hostDummy = 0 ∧ t.hsp.flags = 0 ∧
      t.hsp.fast = false ∧ (t.session .host).unit = none ∧ t.mem = s.openFrame.presentAll.mem ∧ t.eng = s.openFrame.presentAll.eng := by
  refine ⟨_, exec_portreset_up s edges up, hostReady_setReady _, ?_⟩
  rw [if_pos exact_, if_pos serves]
  obtain ⟨⟨profile, dummy, flags, fast⟩, unit, mem, eng⟩ := s.openFrame.presentAll.portReset_resets
  generalize s.openFrame.presentAll.portReset = u at *
  have other (a : Nat) (apart : a ≠ O.framesAccepted) : u.accepted.setReady.obj a = u.obj a := by
    change (u.setObj O.framesAccepted _).obj a = _
    rw [State.obj_setObj, if_neg apart]
  exact ⟨(other _ (by decide)).trans profile, (other _ (by decide)).trans dummy, flags, fast, unit, mem, eng⟩

end

section
variable (s : State) (cmd : BitVec 24) (addr : BitVec 32)

theorem exec_badCommand_ignored (good : ¬HostWorks s ∨ badCommand cmd.toNat addr.toNat = false) : exec (.badCommand cmd addr) s = .next s := by
  change execBadCommand cmd addr s = _
  unfold execBadCommand
  rw [if_neg]
  rw [Bool.and_eq_true, State.hostUp_iff]
  rintro ⟨up, bad⟩
  rcases good with down | fine
  · exact down up
  · exact absurd bad (by rw [fine]; exact Bool.false_ne_true)

theorem exec_badCommand_lost (up : HostWorks s) (bad : badCommand cmd.toNat addr.toNat = true) :
    ∃ t, exec (.badCommand cmd addr) s = .next t ∧ FrameLost t s.openFrame 64 := by
  refine ⟨s.openFrame.refuseFrame.setReady, ?_, frameLost_refuseFrame _⟩
  change execBadCommand cmd addr s = _
  unfold execBadCommand
  rw [s.hostUp_iff.mpr up, bad]
  rfl

end

/-! ### Presentation -/

theorem exec_writeBufferPresent_nothing {s : State} (held : Bool) (nothing : s.serving = false ∨ s.hsp.buffers = []) :
    exec (.writeBufferPresent held) s = .next s.setReady := by
  change Host.Outcome.next (s.presentOne held).setReady = _
  unfold State.presentOne
  rcases nothing with stopped | empty
  · rw [stopped]
    rfl
  · rw [empty]
    split <;> rfl

/-- The state in which the oldest buffer has been taken. -/
def State.takeBuf (s : State) (rest : List WBuf) : State := { s with hsp := { s.hsp with buffers := rest } }

theorem exec_writeBufferPresent {s : State} {b : WBuf} {rest : List WBuf} (held : Bool) (serves : s.serving = true) (oldest : s.hsp.buffers = b :: rest) :
    exec (.writeBufferPresent held) s = .next ((s.takeBuf rest).performBuf b held).setReady := by
  change Host.Outcome.next (s.presentOne held).setReady = _
  unfold State.presentOne
  rw [serves, oldest]
  rfl

/-- A buffered write acts as the write request of the host session. -/
theorem performBuf_dwr (v : State) {a : Nat} (ws : List (BitVec 32)) (held : Bool) (short : a < 2 ^ 24) :
    ∃ u, exec (.dictionaryWrite hostSrc (BitVec.ofNat 24 a) ws held) v = .next u ∧ (v.performBuf (.dwr a ws) held).resp = u.resp ∧
      (v.performBuf (.dwr a ws) held).mem = u.mem ∧ (v.performBuf (.dwr a ws) held).eng = u.eng ∧ (v.performBuf (.dwr a ws) held).objs = u.objs := by
  refine ⟨v.request { key := .host, link := 0, write := true, addr := a, words := ws, accepted := 0, tag := none } held, ?_, ?_⟩
  · change Host.Outcome.next (v.request { key := .host, link := 0, write := true, addr := (BitVec.ofNat 24 a).toNat, words := ws, accepted := 0, tag := none } held) = _
    rw [toNat_ofNat24 short]
  · change (v.hostDwr a ws held).resp = _ ∧ (v.hostDwr a ws held).mem = _ ∧ (v.hostDwr a ws held).eng = _ ∧ (v.hostDwr a ws held).objs = _
    unfold State.hostDwr
    rw [(isProxied_eq_false a).mpr (by omega)]
    dsimp only
    rw [if_neg Bool.false_ne_true]
    generalize v.request _ held = u
    split
    · split <;> exact ⟨rfl, rfl, rfl, rfl⟩
    · exact ⟨rfl, rfl, rfl, rfl⟩

theorem performBuf_portReset (v : State) (held : Bool) :
    PortIsReset (v.performBuf .portReset held) ∧ (v.performBuf .portReset held).mem = v.mem ∧ (v.performBuf .portReset held).eng = v.eng := by
  obtain ⟨reset, -, mem, eng⟩ := v.portReset_resets
  exact ⟨reset, mem, eng⟩

/-- A buffered COMMIT is answered, and its generation is the third STAT word (R627). -/
theorem performBuf_commit {v : State} (held : Bool) (serves : v.serving = true) :
    (v.performBuf .commit held).resp ≠ none ∧
      ∀ p, (v.performBuf .commit held).resp = some p →
        (v.performBuf .commit held).hsp.gen = if p.code = 0 then ((v.performBuf .commit held).session .host).lastGen else 0 := by
  have answered : (v.commitReq .host 0 [1] true).resp ≠ none := by
    unfold State.commitReq
    rw [serves, Bool.not_true, if_neg Bool.false_ne_true]
    exact Option.some_ne_none _
  change v.hostCommit.resp ≠ none ∧ ∀ p, v.hostCommit.resp = some p → v.hostCommit.hsp.gen = if p.code = 0 then (v.hostCommit.session .host).lastGen else 0
  unfold State.hostCommit
  generalize v.commitReq .host 0 [1] true = t at answered
  dsimp only
  refine ⟨answered, fun p answer => ?_⟩
  rw [answer]
  rfl

/-- A buffered MWR outside Service mode, and one that the map has no room for (R631). -/
theorem performBuf_mwr (v : State) (a : Nat) (ws : List (BitVec 32)) (held : Bool) :
    (v.mode ≠ 7 → (v.performBuf (.mwr a ws) held).hsp.last = rcMode * 2 ^ 24 ∧ (v.performBuf (.mwr a ws) held).mem = v.mem) ∧
      (v.mode = 7 → v.mapRoom (v.obj O.hostWindowHigh * 2 ^ 32 + a) < 4 * ws.length →
        (v.performBuf (.mwr a ws) held).hsp.last = rcRange * 2 ^ 24 ∧ (v.performBuf (.mwr a ws) held).mem = v.mem) := by
  change (v.mode ≠ 7 → (v.hostMwr a ws).hsp.last = _ ∧ (v.hostMwr a ws).mem = _) ∧ (v.mode = 7 → _ → (v.hostMwr a ws).hsp.last = _ ∧ (v.hostMwr a ws).mem = _)
  unfold State.hostMwr State.hostAddr
  dsimp only
  refine ⟨fun other => ?_, fun service outside => ?_⟩
  · rw [if_pos other]
    exact ⟨rfl, rfl⟩
  · rw [if_neg (not_not_intro service), if_pos outside]
    exact ⟨rfl, rfl⟩

theorem State.hostResult_mem (s : State) (a code : Nat) : (s.hostResult a code).mem = s.mem := rfl

theorem length_wordsBytes (ws : List (BitVec 32)) : (wordsBytes ws).length = 4 * ws.length := by
  induction ws with
  | nil => rfl
  | cons w ws ih =>
    rw [wordsBytes, List.flatMap_cons, List.length_append, ← wordsBytes, ih, List.length_cons, leBytes_length]
    omega

/-- A LOAD as the loader takes it: refused for rights, mode, range or a running loader, else staged (R758 to R760). -/
theorem performBuf_load {v : State} (wf : Memory.wf v.mem) (a : Nat) (ws : List (BitVec 32)) (held : Bool) :
    let t := v.performBuf (.load a ws) held
    (1613 ∈ v.fuses → t.hsp.last = rcRights * 2 ^ 24 ∧ t.mem = v.mem) ∧
      (1613 ∉ v.fuses → v.mode ≠ 1 → t.hsp.last = rcMode * 2 ^ 24 ∧ t.mem = v.mem) ∧
      (1613 ∉ v.fuses → v.mode = 1 → 0x201000 < a + 4 * ws.length → t.hsp.last = rcRange * 2 ^ 24 ∧ t.mem = v.mem) ∧
      (1613 ∉ v.fuses → v.mode = 1 → a + 4 * ws.length ≤ 0x201000 → (v.obj O.loaderState = 1 ∨ v.obj O.loaderState = 2) →
        t.hsp.last = rcBusy * 2 ^ 24 ∧ t.mem = v.mem) ∧
      (1613 ∉ v.fuses → v.mode = 1 → a + 4 * ws.length ≤ 0x201000 → v.obj O.loaderState ≠ 1 → v.obj O.loaderState ≠ 2 → t.hsp.last = 0 ∧
        memBytes t.mem (0x10000000 + a) (4 * ws.length) = wordsBytes ws ∧
        ∀ c, (c < 0x10000000 + a ∨ 0x10000000 + a + 4 * ws.length ≤ c) → memByte t.mem c = memByte v.mem c) := by
  extract_lets t
  have loads : t = v.hostLoad a ws := rfl
  clear_value t
  subst loads
  unfold State.hostLoad
  have fused : v.fuses.contains 1613 = true ↔ 1613 ∈ v.fuses := List.contains_iff_mem
  refine ⟨fun locked => ?_, fun free other => ?_, fun free mode outside => ?_, fun free mode inside busy => ?_,
    fun free mode inside idle1 idle2 => ?_⟩
  · rw [if_pos (fused.mpr locked)]
    exact ⟨rfl, rfl⟩
  all_goals rw [if_neg (mt fused.mp free)]
  · rw [if_pos other]
    exact ⟨rfl, rfl⟩
  all_goals rw [if_neg (not_not_intro mode)]
  · rw [if_pos (show stagingBytes < _ from outside)]
    exact ⟨rfl, rfl⟩
  all_goals rw [if_neg (show ¬stagingBytes < _ from Nat.not_lt.mpr inside)]
  · rw [if_pos busy]
    exact ⟨rfl, rfl⟩
  · rw [if_neg (not_or.mpr ⟨idle1, idle2⟩)]
    have stored := (v.storeBytes_leaves (stagingBase + a) (wordsBytes ws)).1
    have length := length_wordsBytes ws
    rw [State.hostResult_mem, stored, show stagingBase = 0x10000000 from rfl]
    refine ⟨rfl, ?_, fun c outside => ?_⟩
    · rw [← length]
      exact memBytes_memPutBytes wf _ _
    · rw [memByte_memPutBytes wf, if_neg (by omega)]

end Sys2Proof.Machine
end

section
/-! A START presented from a write buffer, and the summary of the host port's frames and commands (R619 to R643). -/
namespace Sys2Proof.Machine
open Sys2Proof

/-! ### HRDY in a request -/

theorem State.setSession_hsp (s : State) (x : Session) : (s.setSession x).hsp = s.hsp := (s.setSession_hostFrame x).2.2.2

theorem State.noteRights_hsp (s : State) (k : SessKey) (a code : Nat) (w : Bool) : (s.noteRights k a code w).hsp = s.hsp := by
  unfold State.noteRights
  split
  · dsimp only
    split
    · exact State.event_hsp _ _ _
    · rfl
  · rfl

theorem State.closeXfer_hsp (s : State) (k : SessKey) (keep : Nat) : (s.closeXfer k keep).hsp = s.hsp := by
  unfold State.closeXfer
  dsimp only
  split
  · exact State.setSession_hsp _ _
  · rfl

theorem State.discardOpen_hsp (s : State) (k : SessKey) : (s.discardOpen k).hsp = s.hsp := by
  unfold State.discardOpen
  split
  · exact State.closeXfer_hsp _ _ _
  · rfl

theorem State.respond_hrdy (s : State) (k : SessKey) (a code : Nat) (words : List (BitVec 32)) :
    (s.respond k a code words).hsp.hrdy = s.hsp.hrdy := by
  unfold State.respond
  extract_lets s1 entry s2 s3
  have counted : s2.hsp = s.hsp := by
    dsimp only [s2]
    split
    · rfl
    · exact State.setSession_hsp _ _
  have shown : s3.hsp.hrdy = s2.hsp.hrdy := by
    dsimp only [s3]
    split <;> rfl
  exact shown.trans (congrArg _ counted)

theorem State.answerUnit_hrdy (s : State) (k : SessKey) (addr code : Nat) (words : List (BitVec 32)) :
    (s.answerUnit k addr code words).hsp.hrdy = s.hsp.hrdy := by
  unfold State.answerUnit
  dsimp only
  split
  · rw [State.setSession_hsp]
    exact State.respond_hrdy _ _ _ _ _
  · exact State.respond_hrdy _ _ _ _ _

/-- A START does not move HRDY. -/
theorem State.domainStart_hrdy (s : State) (k : SessKey) (addr total : Nat) : (s.domainStart k addr total).hsp.hrdy = s.hsp.hrdy := by
  unfold State.domainStart
  extract_lets x c held session s1
  have opened : s1.hsp = s.hsp := by
    dsimp only [s1]
    split
    · exact (State.setSession_hsp _ _).trans (State.discardOpen_hsp s k)
    · rfl
  rw [State.answerUnit_hrdy, State.noteRights_hsp, opened]

/-! ### A START in a write buffer -/

/-- A request that firmware does not serve, and whose source may send, is answered now. -/
theorem State.request_now {v : State} {r : FwReq} (held : Bool) (serves : v.serving = true) (free : v.sourceFull r = false)
    (atOnce : r.firmware = false) : v.request r held = v.perform r false := by
  unfold State.request
  rw [serves, free, atOnce]
  simp only [Bool.not_true, Bool.false_eq_true, if_false, Bool.and_false, Bool.false_and]

/-- The START of a transfer, by its control word. -/
theorem State.domainUnit_start (v : State) (k : SessKey) (kport a : Nat) (total : BitVec 32) :
    v.domainUnit k kport a [0x10000000, total] = v.domainStart k a total.toNat := by
  have word : (0x10000000 : BitVec 32).toNat = 0x10000000 := by decide
  have good : controlOk 0x10000000 = true := by decide
  unfold State.domainUnit State.unitOf
  simp only [word, good, Bool.not_true, Bool.false_eq_true, if_false]
  rfl

/-- The request of a START that a write buffer holds. -/
def startReq (a : Nat) (total : BitVec 32) : FwReq :=
  { key := .host, link := 0, write := false, addr := a, words := [0x10000000, total], accepted := 0, tag := none, unit := true }

/-- Firmware serves no START (R441). -/
theorem firmware_startReq (a : Nat) (total : BitVec 32) : (startReq a total).firmware = false := by
  simp [FwReq.firmware, startReq, unitKind]

/-- A unit of KIND 1 in a write buffer is the START of the host session, at once (R449). -/
theorem performBuf_start {v : State} {a : Nat} (total : BitVec 32) (held : Bool) (serves : v.serving = true) (short : a < 2 ^ 24) :
    v.performBuf (.dbw a [0x10000000, total]) held = v.domainStart .host a total.toNat := by
  change v.hostDbw a [0x10000000, total] held = _
  unfold State.hostDbw
  rw [(isProxied_eq_false a).mpr (by omega), if_neg Bool.false_ne_true]
  exact (State.request_now (r := startReq a total) held serves rfl (firmware_startReq a total)).trans (v.domainUnit_start .host 0 a total)

theorem exec_domainStart_host {v : State} {a : Nat} (total : BitVec 32) (serves : v.serving = true) (short : a < 2 ^ 24) :
    exec (.domainStart hostSrc (BitVec.ofNat 24 a) total) v = .next (v.domainStart .host a total.toNat) := by
  change Host.Outcome.next (v.unitReq (fun s => s.domainStart .host (BitVec.ofNat 24 a).toNat total.toNat)) = _
  rw [toNat_ofNat24 short, State.unitReq, if_pos serves]

/-- The state with HRDY as it was is the one before HRDY was set. -/
theorem State.setReady_undone {t : State} {h : Bool} (was : t.hsp.hrdy = h) :
    ({ t.setReady with hsp := { t.setReady.hsp with hrdy := h } } : State) = t := by
  subst was
  rfl

theorem exec_writeBufferPresent_start {v : State} {a : Nat} (total : BitVec 32) (held : Bool) (serves : v.serving = true) (short : a < 2 ^ 24) :
    let t := (v.performBuf (.dbw a [0x10000000, total]) held).setReady
    exec (.domainStart hostSrc (BitVec.ofNat 24 a) total) v = .next { t with hsp := { t.hsp with hrdy := v.hsp.hrdy } } := by
  intro t
  rw [exec_domainStart_host total serves short]
  dsimp only [t]
  rw [performBuf_start total held serves short]
  exact congrArg _ (State.setReady_undone (State.domainStart_hrdy v .host a total.toNat)).symm

/-- The address map goes by the size of external memory alone. -/
theorem State.mapRoom_takeBuf (s : State) (rest : List WBuf) (a : Nat) : (s.takeBuf rest).mapRoom a = s.mapRoom a := by
  have size : (s.takeBuf rest).lpddrBytes = s.lpddrBytes := rfl
  unfold State.mapRoom
  rw [size]

end Sys2Proof.Machine

namespace Sys2Proof.Claims
open Sys2Proof Sys2Proof.Machine

/-- What the presentation of the oldest write buffer does, by its kind. -/
theorem writeBufferPresent_performs {s : State} {b : WBuf} {rest : List WBuf} (wf : Memory.wf s.mem) (held : Bool) (serves : s.serving = true)
    (oldest : s.hsp.buffers = b :: rest) :
    ∃ t, exec (.writeBufferPresent held) s = .next t ∧ t.hsp.buffers = rest ∧ HostReady t ∧
      let v : State := { s with hsp := { s.hsp with buffers := rest } }
      (∀ a ws, b = .dwr a ws → a < 2 ^ 24 → ∃ u, exec (.dictionaryWrite hostSrc (BitVec.ofNat 24 a) ws held) v = .next u ∧ t.resp = u.resp ∧
        t.mem = u.mem ∧ t.eng = u.eng ∧ t.objs = u.objs) ∧
      (∀ a ws, b = .dbw a [0x10000000, ws] → a < 2 ^ 24 →
        exec (.domainStart hostSrc (BitVec.ofNat 24 a) ws) v = .next { t with hsp := { t.hsp with hrdy := v.hsp.hrdy } }) ∧
      (b = .portReset → t.obj O.hostProfile = 0 ∧ t.obj O.hostDummy = 0 ∧ t.hsp.flags = 0 ∧ t.hsp.fast = false ∧ t.mem = s.mem ∧ t.eng = s.eng) ∧
      (b = .commit → t.resp ≠ none ∧ ∀ p, t.resp = some p → t.hsp.gen = if p.code = 0 then (t.session .host).lastGen else 0) ∧
      (∀ a ws, b = .mwr a ws → (s.mode ≠ 7 → t.hsp.last = rcMode * 2 ^ 24 ∧ t.mem = s.mem) ∧
        (s.mode = 7 → s.mapRoom (s.obj O.hostWindowHigh * 2 ^ 32 + a) < 4 * ws.length → t.hsp.last = rcRange * 2 ^ 24 ∧ t.mem = s.mem)) ∧
      (∀ a ws, b = .load a ws →
        (1613 ∈ s.fuses → t.hsp.last = rcRights * 2 ^ 24 ∧ t.mem = s.mem) ∧
        (1613 ∉ s.fuses → s.mode ≠ 1 → t.hsp.last = rcMode * 2 ^ 24 ∧ t.mem = s.mem) ∧
        (1613 ∉ s.fuses → s.mode = 1 → 0x201000 < a + 4 * ws.length → t.hsp.last = rcRange * 2 ^ 24 ∧ t.mem = s.mem) ∧
        (1613 ∉ s.fuses → s.mode = 1 → a + 4 * ws.length ≤ 0x201000 → (s.obj O.loaderState = 1 ∨ s.obj O.loaderState = 2) →
          t.hsp.last = rcBusy * 2 ^ 24 ∧ t.mem = s.mem) ∧
        (1613 ∉ s.fuses → s.mode = 1 → a + 4 * ws.length ≤ 0x201000 → s.obj O.loaderState ≠ 1 → s.obj O.loaderState ≠ 2 → t.hsp.last = 0 ∧
          memBytes t.mem (0x10000000 + a) (4 * ws.length) = wordsBytes ws ∧
          ∀ c, (c < 0x10000000 + a ∨ 0x10000000 + a + 4 * ws.length ≤ c) → memByte t.mem c = memByte s.mem c)) := by
  have serves' : (s.takeBuf rest).serving = true := serves
  refine ⟨_, exec_writeBufferPresent held serves oldest, ((PortKept.refl _).performBuf b held).buffers, hostReady_setReady _, ?_⟩
  refine ⟨fun a ws kind short => ?_, fun a ws kind short => ?_, fun kind => ?_, fun kind => ?_, fun a ws kind => ?_, fun a ws kind => ?_⟩
  all_goals subst kind
  · exact performBuf_dwr (s.takeBuf rest) ws held short
  · exact exec_writeBufferPresent_start ws held serves' short
  · obtain ⟨⟨profile, dummy, flags, fast⟩, mem, eng⟩ := performBuf_portReset (s.takeBuf rest) held
    exact ⟨profile, dummy, flags, fast, mem, eng⟩
  · exact performBuf_commit (v := s.takeBuf rest) held serves'
  · obtain ⟨refused, outside⟩ := performBuf_mwr (s.takeBuf rest) a ws held
    rw [State.mapRoom_takeBuf] at outside
    exact ⟨refused, outside⟩
  · exact performBuf_load (v := s.takeBuf rest) wf a ws held

/-- Settles O59: each frame of the host port has one of four outcomes, and a presented buffer acts as its request. How a buffer, a waiting read
and a reset of the port are kept is the model's choice where the spec is silent (log entries 62, 63, 64 and 65). -/
theorem hostPortFramesAndCommands : Obligations.HostPortFramesAndCommands := by
  unfold Obligations.HostPortFramesAndCommands
  intro s addr words n edges held cmd wf
  refine ⟨hostFrame_hostDwr s addr words edges, hostFrame_commit s addr n edges, hostFrame_dbw s addr words edges, hostFrame_mwr s addr words edges,
    hostFrame_load s addr words edges, hostFrame_stat s addr n edges, hostFrame_evt s addr n edges, hostFrame_drd s addr n edges held,
    hostFrame_dbr s addr n edges, hostFrame_mrd s addr n edges, exec_portreset_down s edges, exec_portreset_lost s edges,
    exec_portreset_waits s edges, exec_portreset_resets s edges, exec_badCommand_ignored s cmd addr, exec_badCommand_lost s cmd addr,
    exec_writeBufferPresent_nothing held, fun b rest => writeBufferPresent_performs wf held, exec_hostResponseReady_none, fun r waits => ?_⟩
  exact ⟨fun sent unanswered => exec_hostResponseReady_waits waits (.inl ⟨sent, unanswered⟩),
    fun todo stopped => exec_hostResponseReady_waits waits (.inr ⟨todo, stopped⟩),
    fun c ws => exec_hostResponseReady_delivers waits, exec_hostResponseReady_dbr waits⟩

end Sys2Proof.Claims
end
